-- ==== Sys2Proof/Machine/Maps.lean ====
section
/-!
DEFINITION. The one container of the model's sparse tables: a list of key and value pairs in canonical form (keys
strictly rising). A table of records with a reset value `d` lists no entry equal to `d`, so equal tables are equal data.
-/
namespace Sys2Proof.Machine

/-- A sparse table: keys strictly rising. -/
abbrev SMap (α : Type) := List (Nat × α)

namespace SMap

/-- The entry listed at `k`. -/
def find? : SMap α → Nat → Option α
  | [], _ => none
  | (j, v) :: m, k => if j = k then some v else find? m k

/-- What the table holds at `k`: the listed entry, else the table's reset value `d`. -/
def get (d : α) (m : SMap α) (k : Nat) : α := (find? m k).getD d

/-- List `v` at `k`. -/
def insert : SMap α → Nat → α → SMap α
  | [], k, v => [(k, v)]
  | (j, w) :: m, k, v =>
    if k < j then (k, v) :: (j, w) :: m
    else if k = j then (k, v) :: m
    else (j, w) :: insert m k v

/-- Remove the entry at `k`. -/
def erase (m : SMap α) (k : Nat) : SMap α := m.filter (fun e => decide (e.1 ≠ k))

/-- Store `v` at `k`; the reset value `d` is stored by listing nothing. -/
def put [DecidableEq α] (d : α) (m : SMap α) (k : Nat) (v : α) : SMap α :=
  if v = d then erase m k else insert m k v

/-- List `v` at each of the `n` keys from `k` on. -/
def putRun (m : SMap α) (k n : Nat) (v : α) : SMap α :=
  m.filter (fun e => decide (e.1 < k)) ++ (List.range n).map (fun i => (k + i, v)) ++ m.filter (fun e => decide (k + n ≤ e.1))

/-- The entries of two tables; the first's where both list a key. -/
def merge : SMap α → SMap α → SMap α
  | [], m => m
  | e :: r, m => m.takeWhile (fun x => decide (x.1 < e.1)) ++ e :: merge r (m.dropWhile (fun x => decide (x.1 ≤ e.1)))

/-- Change the value at `k`. -/
def upd [DecidableEq α] (d : α) (m : SMap α) (k : Nat) (f : α → α) : SMap α := put d m k (f (get d m k))

/-- The entries whose key and value satisfy `p`. -/
def keep (m : SMap α) (p : Nat → α → Bool) : SMap α := m.filter (fun e => p e.1 e.2)

/-- Change every listed value, keeping its key. -/
def mapVal (m : SMap α) (f : Nat → α → β) : SMap β := m.map (fun e => (e.1, f e.1 e.2))

/-- The number of listed entries that satisfy `p`. -/
def count (m : SMap α) (p : Nat → α → Bool) : Nat := m.countP (fun e => p e.1 e.2)

/-- The listed keys. -/
def keys (m : SMap α) : List Nat := m.map (·.1)

/-- Is a key listed? -/
def has (m : SMap α) (k : Nat) : Bool := (find? m k).isSome

/-- The first listed entry that satisfies `p`. -/
def first? (m : SMap α) (p : Nat → α → Bool) : Option (Nat × α) := List.find? (fun e => p e.1 e.2) m

/-- Keys strictly rise from above `lo`. -/
def sortedFrom : Option Nat → SMap α → Bool
  | _, [] => true
  | none, (k, _) :: m => sortedFrom (some k) m
  | some lo, (k, _) :: m => decide (lo < k) && sortedFrom (some k) m

/-- The canonical form: keys strictly rise. -/
def wf (m : SMap α) : Bool := sortedFrom none m

/-- The canonical form of a table in which an unlisted key k reads as `d k`: keys strictly rise and no entry equals what its key reads as unlisted. -/
def wfd [DecidableEq α] (d : Nat → α) (m : SMap α) : Bool := wf m && m.all (fun e => decide (e.2 ≠ d e.1))

end SMap

/-- The element of a list at `i`, or `d` past its end. -/
def nth (d : α) (l : List α) (i : Nat) : α := l.getD i d

end Sys2Proof.Machine
end

