-- ==== Sys2Proof/Word.lean ====
section
/-!
DEFINITION. Word types of the model and the plainest arithmetic over them: little-endian byte order (R5), bit fields
of a 64-bit register, saturating counters, and the fixed mixing of Nat values.
-/
namespace Sys2Proof

/-- One byte. -/
abbrev Byte := BitVec 8
/-- A 64-bit register (R6). -/
abbrev W64 := BitVec 64
/-- Half a native line: 64 bytes, byte 0 in bits 7:0 (R5). -/
abbrev Half := BitVec 512
/-- One native 128-byte line, byte 0 in bits 7:0 (R5). -/
abbrev Line := BitVec 1024

/-- All ones: what an absent or refused read returns (R6, R476). -/
def ones64 : W64 := 0xFFFF_FFFF_FFFF_FFFF

/-- A value of a 32-bit saturating counter after one more event. -/
def sat32 (n : Nat) : Nat := min (n + 1) 0xFFFF_FFFF

/-- A sum into a 32-bit saturating counter. -/
def sat32Add (n k : Nat) : Nat := min (n + k) 0xFFFF_FFFF

/-- The 64-bit count that follows `n` (R64: counts wrap in 64 bits). -/
def wrap64 (n : Nat) : Nat := n % 2 ^ 64

/-- Little-endian value of a list of bytes (R5). -/
def leNat : List Byte → Nat
  | [] => 0
  | b :: bs => b.toNat + 256 * leNat bs

/-- The `w` little-endian bytes of a value (R5). -/
def natLe : Nat → Nat → List Byte
  | 0, _ => []
  | w + 1, v => BitVec.ofNat 8 v :: natLe w (v / 256)

/-- A number as bytes, most significant first. -/
def natBe (n v : Nat) : List Byte := (natLe n v).reverse

/-- The field `[hi:lo]` of a register value, as a number. -/
def fieldOf (w : W64) (hi lo : Nat) : Nat := (w.toNat >>> lo) % 2 ^ (hi + 1 - lo)

/-- A number placed at bit `lo` of a register view; bits above its `width` are dropped. -/
def place (v width lo : Nat) : Nat := (v % 2 ^ width) <<< lo

/-- A flag placed at bit `n` of a register view. -/
def placeBit (b : Bool) (n : Nat) : Nat := if b then 1 <<< n else 0

/-- A register view from its placed fields (reserved bits read zero, R8). -/
def view (fields : List Nat) : W64 := BitVec.ofNat 64 (fields.foldl (· ||| ·) 0)

/-- A signed number as its two's-complement bits in `w` bits. -/
def signedBits (w : Nat) (v : Int) : Nat := (v % (2 ^ w : Int)).toNat

/-- Byte `i` of a line. -/
def Line.byte (d : BitVec n) (i : Nat) : Byte := (d >>> (8 * i)).setWidth 8

/-- The bytes of a bit string, lowest first. -/
def bitsBytes (n : Nat) (d : BitVec w) : List Byte := natLe n d.toNat

/-- A bit string of `w` bits from bytes, lowest first. -/
def bytesBits (w : Nat) (bs : List Byte) : BitVec w := BitVec.ofNat w (leNat bs)

/-- Ceiling division. -/
def ceilDiv (a b : Nat) : Nat := (a + b - 1) / b

end Sys2Proof
end

