-- ==== Sys2Proof/Machine/StateFault.lean ====
section
/-!
DEFINITION. State of the fault collector, the Logbook, the Almanac and the eFlash (chapter 16), and the one bank of ERR
registers of every block (the groups of Table 16-5, with MGT_ERR, LOG_ERR and ALM_ERR, which have no group).
-/
namespace Sys2Proof.Machine
open Sys2Proof

/-- The ERR registers, named by block (Table 16-5 gives each its group). -/
inductive ErrReg where
  | hp (p : Nat) | hal | drm (c : Nat) | per | nvf | trn | twn | orb | cph | lcs | psq | thm | mer | efl | log | alm | mgt
  deriving DecidableEq, Repr

/-- One key per ERR register: the group of Table 16-5, with the instance above bit 8; registers without a group follow
from 0x40. -/
def ErrReg.key : ErrReg → Nat
  | .hp p => p % 4
  | .hal => 0x04 | .drm c => 0x05 + 0x100 * c | .per => 0x06 | .nvf => 0x07 | .trn => 0x08 | .twn => 0x09 | .orb => 0x0A
  | .cph => 0x0B | .lcs => 0x0C | .psq => 0x0D | .thm => 0x0E | .mer => 0x0F | .efl => 0x10
  | .log => 0x40 | .alm => 0x41 | .mgt => 0x42

/-- Event group of Table 16-5; none for a register that has no group. -/
def ErrReg.group : ErrReg → Option Nat
  | .log => none | .alm => none | .mgt => none
  | r => some (r.key % 0x100)

/-- FLT_ registers (Table 16-9): latched pins and the first-source capture. -/
structure Flt where
  /-- FLT_STATUS0 and FLT_STATUS1, bit n latched for pin n (R410); RW1C/ST, reset 0. -/
  status : BitVec 128 := 0
  /-- FLT_FIRST.PIN; RO/ST, reset 0. -/
  firstPin : Nat := 0
  /-- FLT_FIRST.VALID; RW1C/ST, reset 0. -/
  firstValid : Bool := false
  /-- FLT_FIRST.OVERFLOW; RO/ST, reset 0. -/
  overflow : Bool := false
  /-- FLT_FIRST_LOC; RO/ST, reset all ones. -/
  firstLoc : W64 := ones64
  /-- FLT_FIRST_COUNT; RO/ST, reset 0. -/
  firstCount : Nat := 0
  /-- FLT_FIRST_LOCAL; RO/ST, reset 0. -/
  firstUs : Nat := 0
  /-- The interrupt raised to the management cores (R411), pending through a firmware restart. -/
  irq : Bool := false
  /-- Local time in cycles of the last firmware-class reset's beginning, for the 10 s rule of R414; none before one. -/
  lastRestart : Option Nat := none
  deriving DecidableEq, Repr

/-- What a Logbook location field names (Table 16-4, LOC_KIND). -/
inductive LocKind where
  | none | fault | dramMedia | nandMedia | address | perType
  deriving DecidableEq, Repr

/-- LOC_KIND as Table 16-4 numbers it. -/
def LocKind.code : LocKind → Nat
  | .none => 0 | .fault => 1 | .dramMedia => 2 | .nandMedia => 3 | .address => 4 | .perType => 5

/-- A Logbook record (Table 16-4), or a SEAL record's part (R420). -/
structure LogRec where
  seq : Nat
  /-- TYPE: group in [15:8], code in [7:0] (R417). -/
  type : Nat
  pin : Nat := 0xFF
  locKind : LocKind := .none
  hours : Nat := 0
  cycles : Nat := 0
  localMs : Nat := 0
  meridian : Nat := 0
  location : W64 := 0
  detail : List Byte := []
  /-- For a SEAL record (TYPE 0x1300): its PART and 48 signature bytes. -/
  sealPart : Option (Nat × List Byte) := none
  deriving DecidableEq, Repr

/-- What the Logbook and its window hold (R415 to R420). Records lie at position 512 * sector + index. -/
structure Logbook where
  /-- Programmed records by position in the ring's 256 sectors (R415); eFlash. -/
  recs : SMap LogRec := []
  /-- Records assembled in SRAM, oldest first, at most 1,024 (R419); lost with always-on power. -/
  buf : List LogRec := []
  /-- RECORD_SEQ of the next record; increments over the life of the part (R416); eFlash. -/
  nextSeq : Nat := 0
  /-- LOG_STATUS.HEAD, reset 0. -/
  head : Nat := 0
  /-- LOG_STATUS.HEAD_POS, reset 0. -/
  headPos : Nat := 0
  /-- LOG_STATUS.SPARE: the spare sector. DESIGN CHOICE: sector 255 in a part that has never logged. -/
  spare : Nat := 255
  /-- Erases of window sectors since the window last moved; LOG_STATUS.MOVE_IN is 64 less this (R415). -/
  erases : Nat := 0
  /-- The window move of R415 waits until the head leaves the source sector. -/
  moveWaits : Bool := false
  /-- The sector ahead of the head is erased and complete. -/
  aheadErased : Bool := true
  /-- LOG_STATUS.UNSEALED (R420). -/
  unsealed : Bool := false
  /-- Sectors passed over because an erase or program failed, or an erase has only begun (R415). -/
  skipped : List Nat := []
  /-- Signature of the previous sealed sector (R420); 114 zero bytes before the first. -/
  lastSeal : List Byte := []
  /-- Records written in the present local second, by TYPE (R418). -/
  perSecond : SMap Nat := []
  /-- Records suppressed in the present local second, by TYPE (R418). -/
  suppressed : SMap Nat := []
  /-- Records dropped since the last Dawn, to be reported by a LOST record (R419). -/
  dropped : Nat := 0
  /-- LOG_SEL; RW, reset 0. -/
  sel : W64 := 0
  /-- LOG_LOST.COUNT; RO/ST, reset 0. -/
  lost : Nat := 0
  deriving DecidableEq, Repr

/-- An Almanac record (Table 16-6). MIN and MAX are absent before the first sample. -/
structure AlmRec where
  metric : Nat := 0
  inst : Nat := 0
  /-- KIND: RATE when true, VALUE when false. -/
  rate : Bool := false
  /-- SCALE: log2 when true, linear when false. -/
  log2 : Bool := false
  current : Nat := 0
  low : Int := 0
  width : Nat := 0
  /-- INTERVAL of the ALMANAC entry, in epochs (R428). -/
  interval : Nat := 0
  seq : Nat := 0
  samples : Nat := 0
  min : Option Int := none
  max : Option Int := none
  hours : Nat := 0
  cycles : Nat := 0
  /-- BINS: the 32 counts by bin; an unlisted bin is zero. -/
  bins : SMap Nat := []
  deriving DecidableEq, Repr

/-- An unused Almanac slot. -/
def AlmRec.empty : AlmRec := {}

/-- A valid Almanac image in an eFlash slot (R430). -/
structure AlmImage where
  seq : Nat
  hours : Nat
  cycles : Nat
  /-- CAUSE: 0 hourly, 1 Dusk, 2 STORE command. -/
  cause : Nat
  dropped : Nat
  events : SMap Nat
  recs : SMap AlmRec
  deriving DecidableEq, Repr

/-- The Almanac (R423 to R430). -/
structure Almanac where
  /-- The 512 record slots; an unlisted slot is unused. -/
  recs : SMap AlmRec := []
  /-- Epoch in which the current interval of each RATE slot began (R425, Table 3-5). -/
  begun : SMap Nat := []
  /-- The 608 event counters, 32 * group + code; an unlisted counter is zero. -/
  events : SMap Nat := []
  /-- ALM_CTRL.FREEZE and ALM_STATUS.FROZEN (R427). -/
  frozen : Bool := false
  /-- ALM_STATUS.STORING with the CAUSE of the image under way (R430). -/
  storing : Option Nat := none
  /-- An hourly image fell due during a freeze (R427). -/
  hourlyDue : Bool := false
  /-- ALM_STATUS.SLOT: slot of the newest valid image. -/
  slot : Nat := 0
  /-- Slots after it that an abandoned or failed image has used up. -/
  used : Nat := 0
  /-- ALM_DROPPED.COUNT. -/
  dropped : Nat := 0
  /-- ALM_IMAGE_SEQ. -/
  imageSeq : Nat := 0
  /-- ALM_SEL.RECORD. -/
  sel : Nat := 0
  /-- The 32 image slots; an unlisted slot is erased or invalid; eFlash. -/
  images : SMap AlmImage := []
  deriving DecidableEq, Repr

/-- A job of the eFlash (one operation runs at a time, R432). -/
inductive EflJob where
  /-- The next Logbook record of the buffer is programmed. -/
  | logRecord
  /-- An Almanac image of the given CAUSE is programmed into the next erased slot. -/
  | almImage (cause : Nat)
  /-- The cipher slot records and the governor credit (R181, R343). -/
  | keyRecords
  /-- The staged Chart is programmed into Chart slot n with its slot record (R50). -/
  | chartSlot (n : Nat)
  /-- A boot record is programmed (R436). -/
  | bootRecord
  /-- A firmware block is programmed into the inactive bank (R472). -/
  | firmware (bank : Nat)
  /-- A sector is erased (R436). -/
  | erase (sector : Nat)
  deriving DecidableEq, Repr

/-- The eFlash (R431 to R440). -/
structure EFlash where
  /-- The job under way; EFL_STATUS.OP and SECTOR show it. -/
  cur : Option EflJob := none
  /-- The sector whose erase is suspended (R434). -/
  susp : Option Nat := none
  /-- Jobs that wait, first in, first out. -/
  jobs : List EflJob := []
  /-- Sectors whose information word is ERASE_BEGUN (R436); eFlash. -/
  begun : List Nat := []
  /-- EFL_STATUS.BEGUN: sectors found in ERASE_BEGUN at the last D0. -/
  begunAtD0 : Nat := 0
  /-- Those of them not erased again yet (R436). -/
  redo : List Nat := []
  /-- EFL_SUSPENDS.COUNT. -/
  suspends : Nat := 0
  /-- EFL_ERASES.COUNT. -/
  erases : Nat := 0
  deriving DecidableEq, Repr

end Sys2Proof.Machine
end

