-- ==== Sys2Proof/Machine/StateChart.lean ====
section
/-!
DEFINITION. The Chart as data: one structure per section body (R34, Table 2-2) with the default body its chapter gives,
the population a Chart is measured against, and the staging state of chapter 2.
-/
namespace Sys2Proof.Machine
open Sys2Proof

/-- Topology (TOPOLOGY MODE, Table 1-8). -/
inductive Topo where
  | solo | twin | binary
  deriving DecidableEq, Repr

/-- TOPOLOGY MODE as R37 encodes it. -/
def Topo.code : Topo → Nat
  | .solo => 0 | .twin => 1 | .binary => 2

/-- Mirror class of a region (R45, MIRROR). -/
inductive Mirror where
  | none | cold | hot
  deriving DecidableEq, Repr

/-- Sharing mode of a region (Table 2-4). -/
inductive Sharing where
  | priv | shared | sharedDb
  deriving DecidableEq, Repr

/-- TARGET body (R36). -/
structure TargetCfg where
  part : List Byte := []
  minFw : Nat := 0
  minStep : Nat := 0
  deriving DecidableEq, Repr

/-- TOPOLOGY body (R37). Identifiers are 16-byte strings. -/
structure TopoCfg where
  mode : Topo := .solo
  pairTag : Nat := 0
  unitA : List Byte := []
  unitB : List Byte := []
  deriving DecidableEq, Repr

/-- One HOST_PORTS entry (R39); a port without an entry is disabled. -/
structure PortCfg where
  enable : Bool := false
  maxSpeed : Nat := 0
  maxWidth : Nat := 0
  ldCount : Nat := 0
  ideRequired : Bool := false
  maxExtents : Nat := 0
  deriving DecidableEq, Repr

/-- A port that HOST_PORTS does not enable (R39). -/
def PortCfg.off : PortCfg := {}

/-- MERIDIAN body (Table 3-2), default as R72. -/
structure MeridianCfg where
  /-- SOURCE: 0 PINS, 1 PTP, 2 NONE. -/
  source : Nat := 0
  tickNs : Nat := 100
  skewNs : Nat := 200
  /-- EPOCH_TICKS, the epoch length L. -/
  l : Nat := 10000
  ptpDomain : Nat := 0
  ptpPort : Nat := 0
  ptpFlags : Nat := 0
  ptpOrigin : Nat := 0
  deriving DecidableEq, Repr

/-- An interleave set (R41). -/
structure ISet where
  base : Nat
  mask : Nat
  gran : Nat
  sizeGib : Nat
  deriving DecidableEq, Repr

/-- A carve-out (R43). -/
structure Carve where
  base : Nat
  sizeMib : Nat
  kind : Nat
  deriving DecidableEq, Repr

/-- NEAR_LAYOUT body (R41 to R44). -/
structure NearCfg where
  sets : List ISet := []
  carves : List Carve := []
  fastBringUp : Bool := false
  deriving DecidableEq, Repr

/-- A region (R45). -/
structure Region where
  id : Nat
  far : Bool
  light : Bool
  mirror : Mirror
  sharing : Sharing
  /-- KEY_SLOT; 0xFFFF is no tenant encryption. -/
  keySlot : Nat
  base : Nat
  size : Nat
  maskA : Nat
  maskB : Nat
  fastRestore : Bool
  dynamic : Bool
  deriving DecidableEq, Repr

/-- FAR_LAYOUT body (Table 8-4). -/
structure FarCfg where
  farGib : Nat := 0
  sparePages : Nat := 2
  reserve : Nat := 64
  badReserve : Nat := 20
  rebuildShare : Nat := 8
  seed : Nat := 0
  patrolDays : Nat := 14
  /-- MEMBER_MASK: bit g selects die g. -/
  members : Nat := 0
  deriving DecidableEq, Repr

/-- A HALO partition entry (Table 5-2). -/
structure HaloPart where
  noAllocate : Bool := false
  noStream : Bool := false
  wayMask : Nat := 0xFFFF
  deriving DecidableEq, Repr

/-- HALO body (Table 5-2), default as R120. -/
structure HaloCfg where
  haloMib : Nat := 176
  snoopMib : Nat := 16
  /-- SELECT 1: partition by region ID. -/
  byRegion : Bool := false
  defaultPart : Nat := 0
  parts : List HaloPart := [HaloPart.mk false false 0xFFFF]
  /-- Map entries: KEY and PART. -/
  map : List (Nat × Nat) := []
  deriving DecidableEq, Repr

/-- PERSISTENCE body (Table 7-9). -/
structure PersCfg where
  /-- MODE 1 ENERGY. -/
  energy : Bool := false
  journalGib : Nat := 512
  normal : Nat := 32
  degraded : Nat := 8
  govEpochs : Nat := 1000
  lifeDays : Nat := 2557
  peRated : Nat := 0
  enduranceShare : Nat := 512
  bucketWindows : Nat := 86400
  minAgeEpochs : Nat := 1000
  deriving DecidableEq, Repr

/-- TWIN body (Table 10-8). -/
structure TwinCfg where
  leaseMs : Nat := 20
  heartbeatUs : Nat := 1000
  keepEpochs : Nat := 8
  shipShare : Nat := 8
  linkGraceMs : Nat := 5
  trainMs : Nat := 2000
  deriving DecidableEq, Repr

/-- A security association entry of ORBIT (Table 11-11). -/
structure SaCfg where
  keySlot : Nat
  valid : Bool
  deriving DecidableEq, Repr

/-- ORBIT body (Table 11-11). -/
structure OrbitCfg where
  enable : Bool := false
  /-- ETH_MODE 1: four ports of 400 Gb/s. -/
  ethMode : Bool := false
  udpPort : Nat := 0
  nodeA : Nat := 0
  nodeB : Nat := 1
  dscp : Nat := 0
  vlan : Bool := false
  vlanTag : Nat := 0
  backedQueues : Nat := 1
  keys : Nat := 1
  lifetimeUs : Nat := 50000
  rtoMinUs : Nat := 100
  targetDelayUs : Nat := 20
  maxInflight : Nat := 128
  /-- MAC_A and MAC_B, 48-bit numbers. -/
  macA : Nat := 0
  macB : Nat := 0
  /-- NODE_PREFIX, a 128-bit number. -/
  nodePrefix : Nat := 0
  /-- GATEWAY MAC of each port. -/
  gateways : List Nat := []
  sas : List SaCfg := []
  deriving DecidableEq, Repr

/-- A TRANSIT window entry (Table 9-8). -/
structure WindowCfg where
  window : Nat
  unit : Nat
  owner : Nat
  slots : Nat
  loop : Bool
  slotMib : Nat
  deriving DecidableEq, Repr

/-- TRANSIT body (Table 9-8). -/
structure TransitCfg where
  enable : Bool := false
  pinWays : Nat := 12
  stallUs : Nat := 2000
  windows : List WindowCfg := []
  deriving DecidableEq, Repr

/-- CIPHER body (Table 12-12). -/
structure CipherCfg where
  ranges : Bool := false
  pages : Bool := true
  xtsFirst : Nat := 0
  xtsCount : Nat := 0
  gcmFirst : Nat := 0
  gcmCount : Nat := 0
  shareOrbit : Nat := 6
  shareCrn : Nat := 6
  shareMedia : Nat := 2
  shareQueue : Nat := 2
  xtsQueueShare : Nat := 1
  /-- QUEUE_OWNER: queue and owner logical device; a queue that is not listed has none. -/
  queueOwner : SMap Nat := []
  deriving DecidableEq, Repr

/-- THERMAL body (Table 15-3). -/
structure ThermalCfg where
  warnC : Nat := 95
  warnClearC : Nat := 90
  throttleC : Nat := 105
  throttleClearC : Nat := 100
  shutdownC : Nat := 115
  maxStep : Nat := 12
  stepMs : Nat := 5
  dimmThrottleC : Nat := 90
  dimmStep : Nat := 8
  deriving DecidableEq, Repr

/-- A slot entry of POWER_SEQUENCE (Table 14-1). -/
structure RailCfg where
  order : Nat := 0
  retain : Bool := false
  twilight : Bool := false
  noPg : Bool := false
  /-- PG_TIMEOUT and DISCHARGE_TIMEOUT in units of 100 µs. -/
  pgTimeout : Nat := 0
  dischargeTimeout : Nat := 0
  settleUs : Nat := 0
  deriving DecidableEq, Repr

/-- The default entries of Table 14-2 for slots 0 to 9. -/
def defaultRails : List RailCfg :=
  [ ⟨0, false, true, false, 100, 200, 100⟩, ⟨1, false, true, false, 100, 200, 100⟩,
    ⟨2, false, true, false, 100, 200, 100⟩, ⟨3, false, true, false, 100, 200, 100⟩,
    ⟨4, false, false, false, 100, 200, 100⟩, ⟨4, false, true, false, 100, 200, 100⟩,
    ⟨5, true, false, false, 200, 500, 100⟩, ⟨6, true, false, false, 500, 1000, 100⟩,
    ⟨6, false, false, false, 200, 500, 100⟩, ⟨7, false, false, false, 100, 200, 100⟩ ]

/-- POWER_SEQUENCE body (Table 14-1), default as Tables 14-1 and 14-2. -/
structure PowerCfg where
  retries : Nat := 3
  dawnLimit : Nat := 3
  slotMask : Nat := 0x03FF
  rails : List RailCfg := defaultRails
  deriving DecidableEq, Repr

/-- FAULT_REACTION actions (Table 16-3). -/
inductive FaultAction where
  | none | release | firmwareRestart | duskOff | duskCycle
  deriving DecidableEq, Repr

/-- An ALMANAC entry (R428). -/
structure AlmEntry where
  slot : Nat
  metric : Nat
  inst : Nat
  rate : Bool
  log2 : Bool
  low : Int
  width : Nat
  interval : Nat
  deriving DecidableEq, Repr

/-- ALMANAC body (R428). -/
structure AlmCfg where
  freezeMaxMs : Nat := 1000
  entries : List AlmEntry := []
  deriving DecidableEq, Repr

/-- Every section body of the Chart in force, default bodies filled in (R35). -/
structure Chart where
  serial : Nat := 0
  tag : Nat := 0
  /-- Digest of the Chart (R33): 64 bytes, little-endian; zero for the built-in default Chart. -/
  digest : BitVec 512 := 0
  isDefault : Bool := true
  target : TargetCfg := {}
  topo : TopoCfg := {}
  ports : SMap PortCfg := []
  /-- The HOST_PORTS body as its bytes, the ignored fields of disabled ports among them (R39, R55). -/
  portsBody : List Byte := []
  meridian : MeridianCfg := {}
  near : NearCfg := {}
  regions : List Region := []
  far : FarCfg := {}
  halo : HaloCfg := {}
  pers : PersCfg := {}
  twin : TwinCfg := {}
  orbit : OrbitCfg := {}
  transit : TransitCfg := {}
  cipher : CipherCfg := {}
  thermal : ThermalCfg := {}
  power : PowerCfg := {}
  /-- FAULT_REACTION: action by pin; a pin without an entry has action NONE (R413). -/
  faults : SMap FaultAction := []
  alm : AlmCfg := {}
  deriving DecidableEq, Repr

/-- The optional bodies a Chart carries (R34); none where the section is omitted. -/
structure ChartText where
  serial : Nat := 0
  tag : Nat := 0
  keyId : List Byte := []
  headPart : List Byte := []
  digest : BitVec 512 := 0
  target : TargetCfg := {}
  topo : TopoCfg := {}
  ports : Option (SMap PortCfg) := none
  portsBody : Option (List Byte) := none
  meridian : Option MeridianCfg := none
  near : Option NearCfg := none
  regions : Option (List Region) := none
  far : Option FarCfg := none
  halo : Option HaloCfg := none
  pers : Option PersCfg := none
  twin : Option TwinCfg := none
  orbit : Option OrbitCfg := none
  transit : Option TransitCfg := none
  cipher : Option CipherCfg := none
  thermal : Option ThermalCfg := none
  power : Option PowerCfg := none
  faults : Option (SMap FaultAction) := none
  alm : Option AlmCfg := none
  deriving DecidableEq, Repr

/-- The DIMMs and NAND dies that are present, as the population check of R49 sees them. -/
structure Population where
  /-- Capacity in GiB of each channel that is READY or FROZEN. -/
  chans : SMap Nat := []
  /-- Dies present and not excluded, ascending. -/
  dies : List Nat := []
  /-- TLC pages per block (W of R209). -/
  pagesPerBlock : Nat := 0
  /-- Good blocks of each die. -/
  goodBlocks : SMap Nat := []
  deriving DecidableEq, Repr

/-- Reasons of Table 2-5. -/
inductive Reason where
  | none | magic | version | length | sectionFormat | ownerKey | signature | rollback | target | topology
  | resource | sum | population | dawnOnly | inUse | busy | twinMismatch | mediaChart
  deriving DecidableEq, Repr

/-- Table 2-5's value of a reason. -/
def Reason.code : Reason → Nat
  | .none => 0 | .magic => 1 | .version => 2 | .length => 3 | .sectionFormat => 4 | .ownerKey => 5 | .signature => 6
  | .rollback => 7 | .target => 8 | .topology => 9 | .resource => 10 | .sum => 11 | .population => 12 | .dawnOnly => 13
  | .inUse => 14 | .busy => 15 | .twinMismatch => 16 | .mediaChart => 17

/-- States of CHT_STAGE_STATUS.STATE (Table 2-9). -/
inductive StageState where
  | idle | receiving | verifying | verified | rejected | writing | pendingDawn | applyingLive
  deriving DecidableEq, Repr

/-- Table 2-9's value of a staging state. -/
def StageState.code : StageState → Nat
  | .idle => 0 | .receiving => 1 | .verifying => 2 | .verified => 3 | .rejected => 4 | .writing => 5 | .pendingDawn => 6
  | .applyingLive => 7

/-- Where a live application stands (R57, R60). -/
structure LiveApply where
  /-- The switch epoch boundary E. -/
  epoch : Nat
  /-- The Chart being applied. -/
  next : Chart
  /-- The immediate sections have switched at E. -/
  switched : Bool := false
  /-- A NEAR_LAYOUT change still to switch; with `nearHold` once its writes are held. -/
  nearLeft : Bool := false
  nearHold : Bool := false
  /-- A FAR_LAYOUT reshape still to switch; `farDone` once no older-generation zone holds a current unit. -/
  farLeft : Bool := false
  farDone : Bool := false
  /-- Regions whose MIRROR change waits for its copy, by ID, and those whose copy is complete. -/
  mirrorLeft : List Nat := []
  mirrorDone : List Nat := []
  deriving DecidableEq, Repr

/-- One slot record (R50). -/
structure SlotRecord where
  seq : Nat := 0
  active : Nat := 0
  /-- The staged slot carries the pending mark. -/
  pending : Bool := false
  floor : Nat := 0
  deriving DecidableEq, Repr

/-- Chart staging, slots and the Chart in force (chapter 2). -/
structure ChartSt where
  state : StageState := .idle
  /-- CHT_STAGE_STATUS.SEQ_ERR. -/
  seqErr : Bool := false
  reason : Reason := .none
  sect : Nat := 0
  offset : Nat := 0
  /-- The 1 MiB staging buffer in management-core SRAM (R52). -/
  buf : List Byte := []
  /-- The two eFlash Chart slots' bytes (R50); an empty slot has none. -/
  slots : SMap (List Byte) := []
  /-- The slot record in force (R50); eFlash. -/
  slotRec : SlotRecord := {}
  /-- A live commit accepted, whose slot is being programmed (R57 step 1); none while a COMMIT_DAWN's slot is. -/
  commitNext : Option LiveApply := none
  /-- The Chart in force. -/
  cur : Chart := {}
  /-- The Chart that the media's contents were last made under: the last one to come through D5 or to switch live (R48). -/
  prev : Chart := {}
  /-- CHT_ registers of the system class are loaded (D3, R63). -/
  loaded : Bool := false
  /-- Topology in force (R28); under the default Chart decided at D6 (R62). -/
  mode : Topo := .solo
  /-- This unit is unit B. -/
  isB : Bool := false
  /-- CHT_ACTIVE.APPLYING with the application under way. -/
  apply : Option LiveApply := none
  /-- CHT_APPLY_EPOCH. -/
  applyEpoch : Nat := 0
  /-- Digest of the Chart that VERIFY last accepted, while the staging state holds that Chart (R56). -/
  staged : Option (BitVec 512) := none
  /-- A live commit that waits for the twin's confirmation: the application with its switch epoch fixed at acceptance, and the epoch in which the
  wait of two epochs ends (R56). -/
  commitWait : Option (LiveApply × Nat) := none
  /-- A Chart passed D3 with the pending mark and awaits the end of D5 (R53). -/
  dawnPending : Bool := false
  deriving DecidableEq, Repr

end Sys2Proof.Machine
end

