-- ==== Sys2Proof/Machine/StateMem.lean ====
section
/-!
DEFINITION. State of the memory path: Halo, the merge buffer, the streaming detectors (chapter 5), the DRAM channels, the
presence map and the lines of Near DRAM (chapter 6).
-/
namespace Sys2Proof.Machine
open Sys2Proof

/-- A resident Halo line (R116, R117). -/
structure HaloLine where
  /-- The line number L = local Near address >> 7. -/
  line : Nat
  data : Line
  poison : Bool := false
  dirty : Bool := false
  part : Nat := 0
  /-- Epoch of the latest write merged into the line (R146). -/
  stamp : Nat := 0
  /-- A half of a poisoned resident line that was written clean in the merge window that runs (R106). -/
  fixing : Option Nat := none
  deriving DecidableEq, Repr

/-- A merge-buffer entry (R122). -/
structure MbEntry where
  half0 : Option Half := none
  half1 : Option Half := none
  /-- The half that stands in place 0 or 1 is poisoned. -/
  bad0 : Bool := false
  bad1 : Bool := false
  /-- Some half placed in the window was poisoned: the line is marked until both halves are clean (R106). -/
  poison : Bool := false
  /-- Partition of the request that opened it (R120). -/
  part : Nat := 0
  /-- Data of a line this unit does not home: closes straight to DRAM (R124). -/
  foreign : Bool := false
  /-- Closed; it waits for a write queue to take the victim of its allocation (R127). -/
  waiting : Bool := false
  stamp : Nat := 0
  deriving DecidableEq, Repr

/-- A streaming-detector tracker (R125). -/
structure Tracker where
  g : Nat
  count : Nat
  last : Nat
  /-- Direction: none, up, down. -/
  dir : Option Bool
  start : Nat
  deriving DecidableEq, Repr

/-- One hemisphere's detector: trackers and streaming regions, least recently used first (R125, R126). -/
structure Detector where
  trackers : List Tracker := []
  streams : List Nat := []
  deriving DecidableEq, Repr

/-- A word of the SRAM arrays whose parity is bad when this step reads it (R130): the model's input. -/
inductive HaloFault where
  /-- The data word of a resident line, in the given 32-byte quarter. -/
  | data (line quarter : Nat)
  /-- The tag word of a way, alone or with its dirty-tag copy. -/
  | tag (quadrant set way : Nat) (copy : Bool)
  /-- The set-control word. -/
  | control (quadrant set : Nat)
  /-- A data word of a line's merge-buffer entry, or its address word; `entry` is the entry's number, which only the part knows. -/
  | mergeData (line quarter entry : Nat)
  | mergeAddr (line entry : Nat)
  deriving DecidableEq, Repr

/-- What the media and the arrays show during one step: medium errors by local line number, as the 64-bit error of each
device symbol of the burst (R141), the words with bad parity, whether the DRAM write queue of a victim's channel is full (R127), and whether the flit
that brings a host's request fails its IDE integrity check (R104). See assumption 2 (DESIGN CHOICE). -/
structure Phys where
  bursts : List (Nat × List (Nat × Nat)) := []
  halo : List HaloFault := []
  queueFull : Bool := false
  ide : Bool := false
  /-- Map pages with an uncorrectable word in the map cache (R213). -/
  map : List Nat := []
  /-- The frame that brings the twin's message fails: FEC cannot correct it, or its tag does not verify (R266). -/
  crn : Bool := false
  /-- Directory sets whose word in the directory set cache has bad parity (R238). -/
  dir : List Nat := []
  deriving DecidableEq, Repr

/-- Halo, the merge buffer and the HAL_ registers. -/
structure HaloSt where
  /-- Resident lines by entry: ((quadrant * 2^15) + set) * 16 + way. -/
  lines : SMap HaloLine := []
  /-- Entries that take no allocation until the next system reset (R131, R134). -/
  masked : List Nat := []
  /-- Clean parity errors per entry since the last system reset (R134). -/
  cleanErrs : SMap Nat := []
  /-- The line that each entry's dirty-tag copy names: the last that turned dirty there (R117, R133). -/
  copyTags : SMap Nat := []
  /-- Open merge-buffer entries by local line number. -/
  mb : SMap MbEntry := []
  /-- Closed entries that wait for a victim's place in a write queue, oldest first: line, and how many held fills wait before it (R127). -/
  waitClose : List (Nat × Nat) := []
  /-- Merge-buffer entries retired by a parity error, per hemisphere (R134). -/
  mbRetired : SMap Nat := []
  det : SMap Detector := []
  /-- HAL_STATUS.FATAL; RO/ST. -/
  fatal : Bool := false
  /-- HAL_STATUS.HOLDING: writes are held by R132 step 3. -/
  holding : Bool := false
  /-- Pins that stay asserted until the steps of R132 have ended, with their locations. -/
  fatalPins : List (Nat × W64) := []
  /-- HAL_ERR codes and locations whose Logbook records the end of those steps writes (R132 step 6). -/
  fatalLogs : List (Nat × W64) := []
  /-- HAL_ERR_LOC; RO/ST, reset all ones. -/
  errLoc : W64 := ones64
  /-- HAL_ERR_ADDR; RO/ST. -/
  errAddr : W64 := 0
  deriving DecidableEq, Repr

/-- Presence of a 4 KiB Near page (Table 6-10). -/
inductive Presence where
  | zero | pending | resident | remote
  deriving DecidableEq, Repr

/-- Table 6-10's value. -/
def Presence.code : Presence → Nat
  | .zero => 0 | .pending => 1 | .resident => 2 | .remote => 3

/-- A line of Near DRAM as it was last written: contents before encryption, with the key that encrypted it, the line code,
the poison pattern of R148 and the metadata of R146. See assumption 10 (DESIGN CHOICE). -/
structure DramLine where
  plain : Line := 0
  /-- The XTS key (512 bits) the line was encrypted under; none for no tenant encryption. -/
  key : Option Nat := none
  light : Bool := false
  poison : Bool := false
  stamp : Nat := 0
  tagRegion : Nat := 0
  tagKey : Nat := 0
  deriving DecidableEq, Repr

/-- DRM_CH_STATUS.STATE (Table 6-12). -/
inductive ChanState where
  | absent | training | ready | frozen | excluded
  deriving DecidableEq, Repr

def ChanState.code : ChanState → Nat
  | .absent => 0 | .training => 1 | .ready => 2 | .frozen => 3 | .excluded => 4

/-- The freeze capture of Table 6-16; all RO/ST, reset 0. -/
structure FreezeCapture where
  /-- DRM_FRZ_CAUSE: CAUSE, SOURCE, CODE, RQ_DEPTH, WQ_DEPTH. -/
  cause : Nat := 0
  source : Nat := 0
  code : Nat := 0
  rqDepth : Nat := 0
  wqDepth : Nat := 0
  media : W64 := 0
  addr : Nat := 0
  count : Nat := 0
  cmd : Nat := 0
  /-- DRM_FRZ_SYNDj, j = 0-7. -/
  synd : List W64 := []
  /-- DRM_FRZ_RAWi, i = 0-19. -/
  raw : List W64 := []
  /-- DRM_FRZ_HISTk, k = 0-15. -/
  hist : List W64 := []
  deriving DecidableEq, Repr

/-- A DIMM's identity (Table 7-5): SPD module serial number, manufacturer ID and manufacturing date. -/
structure DimmId where
  serial : Nat := 0
  maker : Nat := 0
  date : Nat := 0
  deriving DecidableEq, Repr

/-- One DRAM channel (R136 to R162). -/
structure Chan where
  state : ChanState := .absent
  hot : Bool := false
  dimms : Nat := 0
  ranks : Nat := 1
  /-- DENSITY: 0 = 16, 1 = 24, 2 = 32 Gbit. -/
  density : Nat := 0
  retained : Bool := false
  /-- SPD serial number, manufacturer ID and manufacturing date of its DIMMs (R167, Table 7-5). -/
  ids : List DimmId := []
  capGib : Nat := 0
  /-- Device marks: (dimm, rank, position), oldest first (R152). -/
  marks : List (Nat × Nat × Nat) := []
  /-- Corrected lines per position: ((dimm * 4 + rank) * 32 + position) (R152). -/
  corr : SMap Nat := []
  /-- DRM_CH_CE.CE_LINES; RO/ST. -/
  ce : Nat := 0
  /-- DRM_CH_DIAG_LOC. -/
  diagLoc : W64 := 0
  cap : FreezeCapture := {}
  /-- Writes queued when the channel froze or arriving while it is frozen, by local line number (R160: they stay queued). -/
  queued : SMap DramLine := []
  /-- Lines whose write a freeze dropped, by local line number (R162); and the halves of them, 2 * line + half, that a host has rewritten since at the
  twin (R161). -/
  drops : List Nat := []
  redone : List Nat := []
  /-- Writes dropped in the present freeze, with the first and last line (R161). -/
  dropCount : Nat := 0
  dropFirst : Nat := 0
  dropLast : Nat := 0
  /-- The failing line of a data freeze; none after a CA freeze (R162). -/
  failLine : Option Nat := none
  /-- The error pin of the engine stays asserted while the channel is frozen; the type and address of a CA failure. -/
  failCa : Bool := false
  /-- Scrub: next line offset, passes since Dawn (R153). -/
  scrubPos : Nat := 0
  scrubPasses : Nat := 0
  /-- Scrub: this channel has completed a pass since the last scrub pass ended. -/
  scrubDone : Bool := false
  /-- Hub reads failed in a row, and cool polls in a row, per DIMM (R155). -/
  hubFails : SMap Nat := []
  deriving DecidableEq, Repr

def Chan.absent : Chan := {}

/-- What an initial fill of R165 wrote: the Chart, topology and keys it ran under, and the presence map as it found it (the pages that it filled
were ZERO). -/
structure Fill where
  chart : Chart
  mode : Topo
  isB : Bool
  keys : SMap Nat
  pres : SMap Presence
  runs : List (Nat × Nat × Presence)
  base : Presence
  deriving DecidableEq, Repr

def DramLine.zero : DramLine := {}

/-- Near DRAM and its channels. -/
structure Dram where
  chans : SMap Chan := []
  /-- Lines by local line number that differ from what the newest fill over their page wrote (R165). -/
  lines : SMap DramLine := []
  /-- The fills, newest first. -/
  fills : List Fill := []
  /-- Lines of the PRESENCE carve-out in each hemisphere's 2 MiB of SRAM (R164). -/
  presCache : SMap (List Nat) := []
  /-- Presence of pages that differ from what their run, or `presBase`, gives, by local page number. -/
  pres : SMap Presence := []
  /-- Runs of pages set together, the newest first: first page, count and presence of every page of it that is not listed. -/
  presRuns : List (Nat × Nat × Presence) := []
  /-- Presence of every page in no run and not listed: ZERO until the fill of R165 has completed. -/
  presBase : Presence := .zero
  /-- DRM_GLB_STATUS.RATE, HOT_INTERVAL, TRFC_NS, FILL. -/
  rate : Nat := 0
  hotInterval : Bool := false
  /-- The hot interval is entered or left at the next beat (R155). -/
  hotNext : Bool := false
  coolPolls : Nat := 0
  trfc : Nat := 0
  fill : Nat := 0
  /-- DRM_GLB_SCRUB: LINES_PER_EPOCH and ENABLE. -/
  scrubLines : Nat := 0
  scrubOn : Bool := true
  /-- DRM_GLB_SCRUB_PASS. -/
  scrubPasses : Nat := 0
  /-- DRM_GLB_RETAIN. -/
  retain : Nat := 0
  /-- DIMMs, bit 2n + d: held in self-refresh after a Dusk; with the clock driver set to ignore its inputs; with the PMIC status cleared; with the
  PMIC's outputs disabled (R167). -/
  selfRefresh : Nat := 0
  rcdIgnore : Nat := 0
  pmicCleared : Nat := 0
  pmicOff : Nat := 0
  /-- The DRAM held its contents since the last save or reset (not lost with its rails). -/
  powered : Bool := false
  deriving DecidableEq, Repr

end Sys2Proof.Machine
end

