-- ==== Sys2Proof/Machine/StateFlash.lean ====
section
/-!
DEFINITION. State of persistence (chapter 7) and of the flash array (chapter 8): the dirty map, the ceiling and governor,
the save, the journal's generations, the home and Far maps, dies, zones, stripes and the stripe journal.
-/
namespace Sys2Proof.Machine
open Sys2Proof

/-- What a 4 KiB unit stores (FLAGS of Table 7-4 and R212); `pad` completes a stripe. -/
inductive UnitKind where
  | home | journal | far | pad
  deriving DecidableEq, Repr

/-- A 4 KiB unit with its trailer (Table 7-4). Its lines are held as DRAM holds them; an unlisted line is a filled line. -/
structure FlashUnit where
  kind : UnitKind
  /-- PAGE: local Near page number, or the Far page number F; 0xFFFF_FFFF in padding. -/
  page : Nat
  region : Nat := 0xFFFF
  keySlot : Nat := 0xFFFF
  light : Bool := false
  poisonMask : Nat := 0
  stamp : Nat := 0
  seq : Nat := 0
  lines : SMap DramLine := []
  /-- The key value each line was encrypted under travels with its line. The unit's tag verifies: a patrol that could not attribute an error leaves
  a unit whose tag fails (R227). -/
  tagOk : Bool := true
  deriving DecidableEq, Repr

/-- A padding unit (R212). Its other trailer fields and its data are zeros; see assumption 137 (DESIGN CHOICE). -/
def FlashUnit.padding (seq : Nat) : FlashUnit := { kind := .pad, page := 0xFFFFFFFF, region := 0, keySlot := 0, seq := seq }

/-- A journal generation (R190 to R193). See assumption 32 (DEDUCED). -/
structure SaveGen where
  gen : Nat
  seq : Nat := 0
  /-- CAUSE: 0 PWR_FAIL_N, 1 thermal shutdown. -/
  cause : Nat := 0
  count : Nat := 0
  epochSealed : Nat := 0
  hours : Nat := 0
  cycles : Nat := 0
  pagesDirty : Nat := 0
  ceiling : Nat := 0
  rSave : Nat := 0
  digest : BitVec 512 := 0
  unitId : List Byte := []
  flaggedCount : Nat := 0
  flaggedRuns : List (Nat × Nat) := []
  /-- RETAINED: DIMM 2n + d with its identity (R167). -/
  retained : SMap DimmId := []
  /-- CARVE_TABLE and REGION_TABLE of the Chart in force at the trigger. -/
  carves : List Carve := []
  regions : List Region := []
  /-- LOGBOOK: the newest records at the trigger, oldest first (R422). -/
  logbook : List LogRec := []
  /-- The dirty map image: pages marked dirty, ascending. -/
  mapImage : List Nat := []
  /-- SEQ of the first unit of the dirty map image; its units follow each other. -/
  mapSeq : Nat := 0
  /-- Units saved, by page. -/
  units : SMap FlashUnit := []
  /-- Chunks in order: the pages of each, 1 to 63, in slot order (R190, R191). -/
  chunks : List (List Nat) := []
  /-- SEQ of each chunk header. -/
  chunkSeqs : List Nat := []
  /-- Journal stripes of the generation in ring order; the chunks are the last ones. -/
  stripes : List Nat := []
  /-- The completion mark: PAGES_SAVED, its SEQ, and the dies that hold a copy (R188, R193). -/
  mark : Option Nat := none
  markSeq : Nat := 0
  markDies : List Nat := []
  /-- The unit's mirrored copy is STALE: a HOT line was saved poisoned (R444). -/
  stale : Bool := false
  /-- Journal ring offset of the generation's start, and its length, in bytes. -/
  start : Nat := 0
  bytes : Nat := 0
  deriving DecidableEq, Repr

/-- The home-image superblock (Table 7-7). -/
structure Superblock where
  update : Nat := 0
  seq : Nat := 0
  digest : BitVec 512 := 0
  unitId : List Byte := []
  trackedPages : Nat := 0
  seqLimit : Nat := 0
  /-- LIVE_FIRST: oldest live generation; none for none. -/
  liveFirst : Option Nat := none
  nextGen : Nat := 0
  nextGenStart : Nat := 0
  count : Nat := 0
  deriving DecidableEq, Repr

/-- Governor states (Table 7-2). -/
inductive GovState where
  | normal | pressed | throttling | draining
  deriving DecidableEq, Repr

def GovState.code : GovState → Nat
  | .normal => 0 | .pressed => 1 | .throttling => 2 | .draining => 3

/-- Restore descriptors of a PENDING page (R197). -/
inductive RestoreFrom where
  | journal (loc : Nat) | home | lost
  deriving DecidableEq, Repr

/-- Where a Dusk stands (Table 7-3). -/
inductive DuskStep where
  | flush | saving | complete | handedOver
  deriving DecidableEq, Repr

/-- The Dusk under way (R186). -/
structure Dusk where
  step : DuskStep := .flush
  /-- CAUSE of the save header. -/
  thermal : Bool := false
  /-- Pages still to save, in the order of R187. -/
  todo : List Nat := []
  /-- PWR_FAIL_N stands asserted. -/
  pwrFail : Bool := false
  /-- The Logbook programming of R419 has ended or its deadline has passed. -/
  logDone : Bool := false
  deriving DecidableEq, Repr

/-- Persistence (chapter 7). -/
structure PersSt where
  /-- Dirty bits of tracked pages (R175), ascending. -/
  dirty : SMap Unit := []
  /-- EPOCH_STAMPS of RESIDENT pages (R176); an unlisted page holds 0. -/
  stamps : SMap Nat := []
  /-- Restore descriptors of PENDING pages (R197). -/
  from' : SMap RestoreFrom := []
  /-- Pages whose home-image program is in flight; redirtied when true (R175). -/
  inFlight : SMap Bool := []
  /-- The units whose programs are in flight, by local page (R175). -/
  programs : SMap FlashUnit := []
  /-- HOLDUP_LOW_N asserted after its filter, and the degraded ceiling in force (R184). -/
  holdupLow : Bool := false
  degraded : Bool := false
  /-- The 1 s timer of R184 runs. -/
  holdupTimer : Bool := false
  /-- Measured save rate, PER_RSAVE; RO/ST. -/
  rSave : Nat := 0
  calDone : Bool := false
  /-- Governor credit (R181), the window's budget spent in NORMAL and THROTTLING, R_wb. -/
  credit : Int := 0
  spent : Nat := 0
  /-- The epoch at which the governor window ends (R181). -/
  windowEnd : Nat := 0
  rwb : Nat := 0
  /-- Bytes written back in the present window while PRESSED or DRAINING. -/
  rwbBytes : Nat := 0
  /-- PER_GOV_OVERDRAW; RO/ST. -/
  overdraw : Nat := 0
  /-- A THROTTLE record was posted in this window, by logical device (R183). -/
  throttlePosted : List Nat := []
  /-- Pages restored since Dawn, PER_RESTORE.DONE. -/
  restored : Nat := 0
  /-- PER_SAVE_GEN; none for none. -/
  saveGen : Option Nat := none
  /-- PER_SAVE_RESULT. -/
  saveResult : Nat := 0
  saveThermal : Bool := false
  lostPages : Nat := 0
  /-- EPOCH_SEALED of the incomplete save's header (R198). -/
  lostEpoch : Nat := 0
  /-- The last page restored as lost, for the run of consecutive lost pages (R198). -/
  lastLost : Option Nat := none
  dusk : Option Dusk := none
  /-- Next SEQ to issue (R195). -/
  nextSeq : Nat := 0
  /-- The superblock as last read or written (R194); its replicas lie in flash. -/
  sb : Superblock := {}
  /-- Generations with a header in the journal, oldest first; flash. -/
  gens : List SaveGen := []
  /-- Numbers of the live generations (R196, R199). -/
  live : List Nat := []
  /-- Calibration blocks not yet erased, in bytes (R180). -/
  calBytes : Nat := 0
  /-- PENDING pages whose background restore has been issued (R198). -/
  issued : List Nat := []
  /-- Meridian count at D7 (GET_RESTORE_STATUS). -/
  d7Count : Nat := 0
  deriving DecidableEq, Repr

/-- NVF_DIEg.STATE (Table 8-10). -/
inductive DieState where
  | absent | member | retired | excluded | spare
  deriving DecidableEq, Repr

def DieState.code : DieState → Nat
  | .absent => 0 | .member => 1 | .retired => 2 | .excluded => 3 | .spare => 4

/-- A die label (R207): member state, layout generation and digest of the Chart in force; the die number is its key. -/
structure DieLabel where
  state : DieState
  gen : Nat
  digest : BitVec 512
  deriving DecidableEq, Repr

/-- A NAND die (R204 to R208). -/
structure Die where
  state : DieState := .absent
  /-- CAUSE of NVF_DIEg. -/
  cause : Nat := 0
  /-- GROWN_BAD of NVF_DIEg. -/
  grownBad : Nat := 0
  /-- 16 * chip enable + LUN (R205). -/
  lun : Nat := 0
  pageSize : Nat := 16384
  spareBytes : Nat := 0
  pagesPerBlock : Nat := 0
  planes : Nat := 0
  blocks : Nat := 0
  /-- Physical blocks marked bad by the vendor, which the block map skips (R207), ascending. -/
  bad : List Nat := []
  peRated : Nat := 0
  /-- Physical blocks retired, and the logical blocks that a reserve block has taken over, with that physical block (R208). -/
  retiredBlocks : List Nat := []
  remap : SMap Nat := []
  /-- The label in the die's local area (R207). -/
  label : Option DieLabel := none
  deriving DecidableEq, Repr

def Die.absent : Die := {}

/-- Pools (Table 8-1). -/
inductive Pool where
  | metadata | journal | tlc
  deriving DecidableEq, Repr

/-- State of a zone (R208, R215). -/
inductive ZoneState where
  | free | open' | closed | erasing
  deriving DecidableEq, Repr

/-- A zone: its layout generation, state, and the pool it was opened for. Every zone past the listed ones is free. -/
structure Zone where
  state : ZoneState := .free
  gen : Nat := 0
  pool : Pool := .tlc
  deriving DecidableEq, Repr

def Zone.fresh : Zone := {}

/-- A stripe that is not free (R210, R217), listed by its place (zone * W + row) * 32 + t. -/
structure Stripe where
  pool : Pool := .tlc
  /-- Units of the TLC log by slot 0-63, padding included. -/
  units : SMap FlashUnit := []
  /-- Map pages of the metadata pool by data page 0-15 (R213). -/
  pages : SMap Nat := []
  /-- Units placed so far, of 64. -/
  used : Nat := 0
  /-- SEQ of the first unit. -/
  seqFirst : Nat := 0
  firstEpoch : Nat := 0
  gen : Nat := 0
  /-- The OPEN record is durable (R217). -/
  openDurable : Bool := false
  closed : Bool := false
  /-- The map entries of its units have been updated (R214). -/
  mapped : Bool := false
  /-- OPEN and no CLOSE at a Dawn (R218); TORN_DONE has been written. -/
  torn : Bool := false
  tornDone : Bool := false
  /-- The stripe is lost (R225). -/
  dead : Bool := false
  /-- Data and parity pages 0-17 lost or unreadable. -/
  lost : List Nat := []
  /-- Pages 0-17 whose program has completed. -/
  done : List Nat := []
  deriving DecidableEq, Repr

/-- A layout generation (R211, R220, R228). -/
structure Layout where
  gen : Nat
  seed : Nat
  /-- SPARE_PAGES of the Chart that began the generation (R209). -/
  spare : Nat
  members : List Nat
  deriving DecidableEq, Repr

/-- Stripe-journal record types (Table 8-2). -/
inductive SjType where
  | open' | close | checkpoint | retire | readmit | generation | tornDone
  deriving DecidableEq, Repr

/-- A stripe-journal record (R216). -/
structure SjRec where
  type : SjType
  pool : Nat := 1
  gen : Nat := 0
  die : Nat := 0xFFFF
  seq : Nat := 0
  stripe : Nat := 0
  count : Nat := 0
  seqFirst : Nat := 0
  members : List Nat := []
  deriving DecidableEq, Repr

/-- A map entry (R213). -/
structure MapEntry where
  /-- LOCATION: the stripe's place and the unit's slot. -/
  stripe : Nat
  slot : Nat
  gen : Nat
  poisoned : Bool := false
  deriving DecidableEq, Repr

/-- The map as flash holds it at a CHECKPOINT (R213): the entries, the place of each map page's two copies (stripe and data page), and the log
position up to which every update is durable. -/
structure MapImage where
  home : SMap MapEntry := []
  far : SMap MapEntry := []
  places : SMap ((Nat × Nat) × (Nat × Nat)) := []
  pos : Nat := 0
  deriving DecidableEq, Repr

/-- A checkpoint being written: its image, and its metadata stripes that are not closed. -/
structure Ckpt where
  image : MapImage
  left : List Nat
  deriving DecidableEq, Repr

/-- What a replica die's local area holds (R207, R219): a superblock (UPDATE 0 for none), the map root's mid pages, and stripe-journal records. -/
structure Replica where
  die : Option Nat := none
  valid : Bool := false
  sb : Superblock := {}
  root : SMap ((Nat × Nat) × (Nat × Nat)) := []
  sj : List SjRec := []
  deriving DecidableEq, Repr

/-- A host-path read's suspension of an operation on a die (R230). -/
structure Suspend where
  die : Nat
  count : Nat
  deriving DecidableEq, Repr

/-- The flash array (chapter 8). -/
structure NvfSt where
  dies : SMap Die := []
  /-- Retirements in order: the die and the newest layout generation at that time. A die takes no part in zones of that generation and
  older ones again (R221, R222). -/
  retired : List (Nat × Nat) := []
  layouts : List Layout := []
  zones : SMap Zone := []
  stripes : SMap Stripe := []
  /-- Map entries of home pages by P and of Far pages by F, as they stand (R213). -/
  homeMap : SMap MapEntry := []
  farMap : SMap MapEntry := []
  /-- Map pages changed since they were last written, and the map as of the last CHECKPOINT; flash. -/
  mapDirty : List Nat := []
  saved : MapImage := {}
  ckpt : Option Ckpt := none
  /-- Map pages in the cache of each hemisphere, most recently used first (R213). See assumption 138 (DESIGN CHOICE). -/
  cacheN : List Nat := []
  cacheS : List Nat := []
  /-- Next stripe place of each of the two metadata streams, and the open TLC stripe. -/
  metaHead0 : Nat := 0
  metaHead1 : Nat := 0
  openStripe : Option Nat := none
  /-- Next free stripe place of the TLC log. -/
  logHead : Nat := 0
  /-- Bytes of TLC log written since the last CHECKPOINT (R213). -/
  sinceCheckpoint : Nat := 0
  /-- The zone being reclaimed (R215). -/
  reclaiming : Option Nat := none
  /-- Stripe-journal records collected and not yet programmed (R217). -/
  sjPending : List SjRec := []
  /-- The Near ring: records since the last CHECKPOINT. -/
  sjRing : List SjRec := []
  sjSeq : Nat := 0
  /-- The replicas, with NVF_JOURNAL's dies and validity (R219). -/
  rep0 : Replica := {}
  rep1 : Replica := {}
  rebuilding : Bool := false
  /-- Lost pages still to rebuild: (stripe, page). -/
  rebuildTodo : List (Nat × Nat) := []
  reshaping : Bool := false
  /-- A reshape that a Dawn resumed has moved every unit: its older generations are dropped at the next epoch boundary (R228 step 3). -/
  reshapeDone : Bool := false
  /-- The relocation of a reshape is paused by a rebuild (R229). -/
  reshapePaused : Bool := false
  patrolOn : Bool := false
  patrolPaused : Bool := false
  patrolPos : Nat := 0
  /-- The epoch in which the patrol last read a stripe, and the stripes it has read in it (R226). -/
  patrolEpoch : Nat := 0
  patrolCount : Nat := 0
  patrolPasses : Nat := 0
  /-- NVF_PATROL.STRIPES_PER_EPOCH. -/
  patrolRate : Nat := 0
  attributed : Nat := 0
  unattributed : Nat := 0
  lostStripes : Nat := 0
  farPoisoned : Nat := 0
  starved : Bool := false
  /-- NVF_RAW_LOC, NVF_RAW_STATUS and NVF_RAW_DATA. -/
  rawLoc : W64 := 0
  rawResult : Nat := 0
  rawData : List Byte := []
  /-- Dies with an operation suspended by a host-path read (R230), with the suspends so far. -/
  suspends : List Suspend := []
  /-- Zones whose erase is under way. -/
  erasing : List Nat := []
  /-- D4 of this Dawn has found the dies, and D5 has read the flash structures: until then the registers show their reset values (R9). -/
  found : Bool := false
  scanned : Bool := false
  /-- Bytes of the save journal's ring. -/
  jRing : Nat := 0
  /-- Journal zones erased and not occupied (J_ready of R179), in bytes. -/
  jReady : Nat := 0
  /-- Journal bytes whose generation has died or that held calibration chunks, not yet erased (R180, R199). -/
  jErase : Nat := 0
  deriving DecidableEq, Repr

end Sys2Proof.Machine
end

