-- ==== Sys2Proof/Machine/StateFar.lean ====
section
/-!
DEFINITION. State of the Far staging cache and of Transit (chapter 9), and of the twin link, the arbiter link, the lease
and COLD shipment (chapter 10).
-/
namespace Sys2Proof.Machine
open Sys2Proof

/-- Staging directory states (Table 9-2). -/
inductive StageDir where
  | free | filling | clean | dirty | writing
  deriving DecidableEq, Repr

/-- A staging directory entry (Table 9-1). -/
structure StageEntry where
  farPage : Nat := 0
  state : StageDir := .free
  holdA : Nat := 0
  holdB : Nat := 0
  roaA : Nat := 0
  roaB : Nat := 0
  fillCount : Nat := 0
  /-- A write reached the slot while its write-back was in flight (R175). -/
  redirtied : Bool := false
  /-- The page was accessed since the set's clock last passed it (R241). -/
  accessed : Bool := false
  /-- The Far page whose miss issued the write-back in flight, and which takes the way when it becomes CLEAN (R241 step 3). -/
  taker : Option Nat := none
  deriving DecidableEq, Repr

def StageEntry.free : StageEntry := {}

/-- Table 9-2's value of a state. -/
def StageDir.code : StageDir → Nat
  | .free => 0 | .filling => 1 | .clean => 2 | .dirty => 3 | .writing => 4

/-- The state of a value of Table 9-2; no entry of the controller's holds another. -/
def StageDir.ofCode (n : Nat) : StageDir :=
  if n = 1 then .filling else if n = 2 then .clean else if n = 3 then .dirty else if n = 4 then .writing else .free

/-- A logical device's staging control block (Table 9-12). -/
structure StageCtl where
  result : Nat := 0
  pagesDone : Nat := 0
  evict : Bool := false
  /-- The command outstanding: DPA of the next page and pages left (R244). -/
  busy : Option (Nat × Nat) := none
  /-- Far pages of the most recent promote whose fills have not landed. -/
  filling : List Nat := []
  deriving DecidableEq, Repr

/-- TRN_W_STATUS.STATE. -/
inductive WinState where
  | idle | running | done
  deriving DecidableEq, Repr

def WinState.code : WinState → Nat
  | .idle => 0 | .running => 1 | .done => 2

/-- Slot states (Table 9-6). -/
inductive SlotState where
  | empty | filling | urgent | ready | failed
  deriving DecidableEq, Repr

def SlotState.code : SlotState → Nat
  | .empty => 0 | .filling => 1 | .urgent => 2 | .ready => 3 | .failed => 4

/-- A Transit descriptor (Table 9-5), as its four 64-bit words. -/
structure TrnDesc where
  src : Nat := 0
  /-- LENGTH, LAYER_TAG, FLAGS and the reserved byte. -/
  word1 : Nat := 0
  due : Nat := 0
  word3 : Nat := 0
  deriving DecidableEq, Repr

def TrnDesc.zero : TrnDesc := {}

/-- A Transit slot with the fill it carries (R248 to R252). -/
structure TrnSlot where
  state : SlotState := .empty
  late : Bool := false
  poison : Bool := false
  desc : Nat := 0
  layerTag : Nat := 0
  fillNo : Nat := 0
  src : Nat := 0
  length : Nat := 0
  due : Option Nat := none
  /-- Page offsets of the segment still to land; the fill reads the first next. -/
  todo : List Nat := []
  deriving DecidableEq, Repr

def TrnSlot.fresh : TrnSlot := {}

/-- A Transit window (R246 to R253). -/
structure TrnWindow where
  state : WinState := .idle
  listLen : Nat := 1
  nextFill : Nat := 0
  slots : SMap TrnSlot := []
  /-- The 4,096 descriptors; an unlisted one is zero. -/
  descs : SMap TrnDesc := []
  deriving DecidableEq, Repr

def TrnWindow.fresh : TrnWindow := {}

/-- Far staging and Transit. -/
structure FarSt where
  /-- The staging directory by slot. -/
  dir : SMap StageEntry := []
  /-- The set's clock position (R241). -/
  clock : SMap Nat := []
  /-- Directory sets held in each hemisphere's directory set cache (R238). -/
  cache : SMap (List Nat) := []
  ctl : SMap StageCtl := []
  windows : SMap TrnWindow := []
  /-- TRN_LATE_COUNT and TRN_LAST_LATE; RO/ST. -/
  lateCount : Nat := 0
  lastLate : W64 := 0
  deriving DecidableEq, Repr

def StageCtl.fresh : StageCtl := {}

/-- Roles of a unit for a half (R258). -/
inductive Role where
  | none | holder | standby | eclipse
  deriving DecidableEq, Repr

/-- TWN_STATUS's value of a role. -/
def Role.code : Role → Nat
  | .none => 0 | .holder => 1 | .standby => 2 | .eclipse => 3

/-- One half of the address space (R258, R279, R280). -/
structure HalfSt where
  role : Role := .none
  /-- The lease gate is open. -/
  gateOpen : Bool := false
  /-- TWN_LEASEh.EXPIRY; none reads all ones. -/
  expiry : Option Nat := none
  leaseNo : Nat := 0
  /-- An Eclipse of the half is in progress, by this unit's knowledge. -/
  eclipse : Bool := false
  /-- RENEW was sent at this count and no renewal has arrived. -/
  renewSent : Option Nat := none
  deriving DecidableEq, Repr

def HalfSt.fresh : HalfSt := {}

/-- What a snoop-filter entry names (R96). -/
inductive Holders where
  /-- At most two holders by number: a logical device's number, in Binary with bit 6 for one of unit B. -/
  | exact (lds : List Nat)
  /-- Every logical device in the region's masks, but for those removed since (R98, R113). -/
  | coarse (gone : List Nat)
  deriving DecidableEq, Repr

/-- The lines of a page as they travel: contents, key and poison of each line that is not a filled line. -/
abbrev PageLines := SMap DramLine

/-- Crailanil messages (Table 10-3). -/
inductive TwinMsg where
  | mirrorWrite (tag addr : Nat) (data : Half) (poison : Bool) (epoch : Nat)
  | mirrorAck (tag : Nat)
  | fwdRead (tag dpa ld : Nat)
  | fwdWrite (tag dpa ld : Nat) (data : Half) (poison : Bool)
  | fwdData (tag : Nat) (data : Half) (poison : Bool)
  | fwdDone (tag : Nat)
  /-- `key` is P, or 2^36 + F for a Far page. -/
  | coldPage (key epoch : Nat) (page : PageLines)
  | coldEnd (pages epoch : Nat)
  | coldAck (epoch : Nat)
  | syncDigest (page digest stamp : Nat)
  | syncPage (page stamp : Nat) (lines : List (Line × Bool))
  | syncMatch (page : Nat) (sendPage : Bool)
  | sfUpdate (granule : Nat) (holders : Option Holders)
  | state (roles : Nat) (sealedEpoch : Option Nat) (copies : List Nat) (stale : Bool)
  | switchEpoch (epoch : Nat)
  | chartConfirm (digest : BitVec 512)
  deriving DecidableEq, Repr

/-- LEN of a message (Table 10-3): payload bytes after the header. A CONTROL message's is not given, and fits one frame. -/
def TwinMsg.len : TwinMsg → Nat
  | .mirrorWrite .. => 64 | .fwdWrite .. => 64 | .fwdData .. => 64 | .coldPage .. => 4096 | .syncDigest .. => 8 | .syncPage .. => 4096
  | _ => 0

/-- Frames a message takes, with its 24-byte header, 480 payload bytes to a frame (R265, R267). -/
def TwinMsg.frames (m : TwinMsg) : Nat := (m.len + 24 + 479) / 480

/-- The channel a message travels on (Tables 10-1, 10-3). -/
def TwinMsg.channel : TwinMsg → Nat
  | .mirrorWrite .. => 0 | .syncDigest .. => 0 | .syncPage .. => 0 | .sfUpdate .. => 0
  | .mirrorAck _ => 1 | .fwdData .. => 1 | .fwdDone _ => 1 | .coldAck _ => 1 | .syncMatch .. => 1
  | .fwdRead .. => 2 | .fwdWrite .. => 2
  | .coldPage .. => 3 | .coldEnd .. => 3
  | .state .. => 4 | .switchEpoch _ => 4 | .chartConfirm _ => 4

/-- A DATA frame that has been sent: its SEQ and KEY_PHASE, and which 480 bytes of which message it carries (Table 10-1). -/
structure CrnFrame where
  seq : Nat
  phase : Bool := false
  part : Nat := 0
  msg : TwinMsg
  deriving DecidableEq, Repr

/-- A half-link (R263 to R266). -/
structure HalfLink where
  /-- Lanes in use: 0, 4, 8 or 12. -/
  width : Nat := 0
  keyPhase : Bool := false
  /-- Next DATA SEQ to send; highest SEQ received in order. -/
  sendSeq : Nat := 0
  recvSeq : Nat := 0
  /-- DATA frames sent and not acknowledged: the replay buffer. -/
  unacked : List CrnFrame := []
  /-- The SEQ of the last NAK and how often it has been resent. -/
  nak : Nat := 0
  resends : Nat := 0
  /-- Session keys of the two directions, A to B and B to A, 32 bytes each (R264); none while the half-link is down. -/
  keys : Option (List Byte) := none
  /-- DATA arrived since the last ACK. -/
  ackDue : Bool := false
  /-- Frames sent and received under the present keys, for the 2^31 rekey (R264). -/
  frames : Nat := 0
  framesIn : Nat := 0
  deriving DecidableEq, Repr

def HalfLink.fresh : HalfLink := {}

/-- A COLD epoch being received (R275). -/
structure ColdDelta where
  epoch : Nat
  units : SMap FlashUnit := []
  farUnits : SMap FlashUnit := []
  complete : Bool := false
  deriving DecidableEq, Repr

/-- Twin, Binary and fail-over. -/
structure TwinSt where
  halves : SMap HalfSt := []
  links : SMap HalfLink := []
  /-- The twin's identifier, PAIR_TAG and Chart digest from training (R264). -/
  peerId : Option (List Byte) := none
  peerDigest : Option (BitVec 512) := none
  /-- The twin has trained at D6 (R62). -/
  trained : Bool := false
  trainTimedOut : Bool := false
  /-- TWN_STATUS.STALE, ALONE, SYNCING, ARB_UP. -/
  stale : Bool := false
  /-- First epoch after this copy became STALE (R287). -/
  staleFrom : Nat := 0
  alone : Bool := false
  syncing : Bool := false
  arbUp : Bool := false
  /-- The link is DOWN and its grace time runs, or has expired (R276). -/
  linkDown : Bool := false
  graceExpired : Bool := false
  /-- The twin's last STATE: roles, sealed epoch, regions it holds a copy of, STALE. -/
  peerRoles : Nat := 0
  peerSealed : Option Nat := none
  peerCopies : List Nat := []
  nextTag : Nat := 0
  /-- Halves asked of the twin with FWD_READ for lines of a frozen channel or a REMOTE page: (tag, 2 * line + half) (R161). -/
  fetches : List (Nat × Nat) := []
  /-- Halves the twin has answered and whose readers have not yet taken them, with poison. -/
  fetched : SMap (Half × Bool) := []
  /-- This unit, as holder, has started its sync with the twin since Dawn (R270; the model's own field). -/
  dawnSynced : Bool := false
  /-- HOT sync: runs of local pages still to walk (first page, number) (R270). -/
  syncTodo : List (Nat × Nat) := []
  /-- Pages whose digest has been sent and not yet answered, with the stamp sent. -/
  syncWait : SMap Nat := []
  /-- Regions whose HOT sync was started by a Chart change (R57). -/
  syncRegions : List Nat := []
  /-- TWN_DIVERGENT, TWN_ECLIPSE_START, TWN_ECLIPSE_END; RO/ST. -/
  divergent : Nat := 0
  eclipseStart : Nat := 0
  eclipseEnd : Nat := 0
  /-- Eclipses since Dawn (GET_TOPOLOGY_STATUS). -/
  eclipses : Nat := 0
  /-- Ship list of a hemisphere: (page key, epoch), oldest first; a Far page's key has bit 36 set (R272). -/
  shipList : List (Nat × Nat) := []
  /-- Captures: (line key, label epoch) with the line's prior contents (R272). -/
  captures : List (Nat × Nat × DramLine) := []
  /-- Epoch being shipped, with S, the last fully shipped epoch. -/
  shipping : Option Nat := none
  shipped : Option Nat := none
  /-- Deltas held for the twin, oldest first, and S of the twin's deltas held here (R275). -/
  deltas : List ColdDelta := []
  coldHeld : Option Nat := none
  /-- Epoch of the last COLD takeover, and the lost epochs it posted (GET_EPOCH_HISTORY). -/
  takeover : Option Nat := none
  lostFirst : Option Nat := none
  lostLast : Option Nat := none
  /-- The catch-up delta that must be shipped and acknowledged first, by its label c (R448). -/
  catchUp : Option Nat := none
  /-- Regions that became COLD and whose first copy the twin has not acknowledged, each with the copy's label: the copy restarts after a Dusk (R200). -/
  recopy : List (Nat × Nat) := []
  /-- The epoch whose state the twin's folded COLD pages hold here (R275). -/
  folded : Option Nat := none
  /-- COLD pages of the epoch being received so far. -/
  coldCount : Nat := 0
  /-- Received pages that no stripe has room for yet, oldest first, and the epoch whose COLD_END has come and whose pages are not yet all durable
  (R273, R275). -/
  coldWait : List FlashUnit := []
  coldDue : Option Nat := none
  /-- Regions of which this unit holds a copy, as its STATE reports (R267). -/
  copies : List Nat := []
  /-- NONE regions lost by an assumption, as 2 * ID + half (R284). -/
  lostRegions : List Nat := []
  /-- Halves for which the unit reports FAULTED until the next Dawn (R280). -/
  faulted : Bool := false
  /-- The last STATUS code sent, and whether STATUS was sent at D6 (R278). -/
  statusSent : Option Nat := none
  /-- Arbiter message counter. -/
  arbSeq : Nat := 0
  /-- CRN_COUNT: frames resent and retrains; RO/ST. -/
  replays : Nat := 0
  retrains : Nat := 0
  /-- A switch epoch proposed or received (R58). -/
  switchEpoch : Option Nat := none
  deriving DecidableEq, Repr

end Sys2Proof.Machine
end

