-- ==== Sys2Proof/Machine/StateOrbit.lean ====
section
/-!
DEFINITION. State of Orbit: packets, queues with their messages and segments, memory keys, the replay cache, held packets and the
Ethernet ports (chapter 11); and the command registers of a logical device.
-/
namespace Sys2Proof.Machine
open Sys2Proof

/-- An acknowledgement entry (Table 11-3). -/
structure OrbAck where
  queue : Nat
  offset : Nat
  msgId : Nat
  stamp : Nat
  code : Nat
  home : Nat := 0
  deriving DecidableEq, Repr

/-- An Orbit packet (R298, Tables 11-1 to 11-3). `flagBits` is FLAGS[7:2]. -/
structure OrbPkt where
  kind : Nat := 1
  version : Nat := 1
  op : Nat := 0
  retx : Bool := false
  notify : Bool := false
  flagBits : Nat := 0
  src : Nat := 0
  dst : Nat := 0
  sa : Nat := 0
  engine : Nat := 0
  stamp : Nat := 0
  pn : Nat := 0
  msgCount : Nat := 0
  srcQ : Nat := 0
  dstQ : Nat := 0
  msgId : Nat := 0
  msgLen : Nat := 0
  offset : Nat := 0
  key : Nat := 0
  remote : Nat := 0
  op1 : Nat := 0
  op2 : Nat := 0
  payload : List Byte := []
  acks : List OrbAck := []
  deriving DecidableEq, Repr

/-- How a packet arrives: its port, what R295 looks at in its frame, and whether its GCM tag verifies (R296). -/
structure Wire where
  port : Nat := 0
  /-- Length of the Ethernet frame in bytes, with its FCS. -/
  frameLen : Nat := 142
  fcsOk : Bool := true
  /-- The frame carries IPv6, with these source and destination addresses; number of its extension headers. -/
  ipv6 : Bool := true
  srcAddr : Nat := 0
  dstAddr : Nat := 0
  extHeaders : Nat := 0
  /-- The UDP checksum as it stands, and as computed from the packet. -/
  udpSum : Nat := 1
  udpWant : Nat := 1
  tagOk : Bool := true
  deriving DecidableEq, Repr

/-- A memory key table entry (Table 11-5). -/
structure KeyEntry where
  base : Nat := 0
  length : Nat := 0
  tag : Nat := 0
  /-- Read, write and atomic rights in bits 0 to 2. -/
  rights : Nat := 0
  valid : Bool := false
  group : Nat := 0
  owner : Nat := 0
  deriving DecidableEq, Repr

/-- A segment in flight (R310). -/
structure OrbSeg where
  len : Nat := 0
  /-- Transmissions so far, less one (R310). -/
  retry : Nat := 0
  /-- It is sent again, so FLAGS.RETX is set (Table 11-1), also after the first NAK_HOME, which counts no retry. -/
  again : Bool := false
  /-- Its timer in µs as the last transmission started it (R310). -/
  timer : Rat := 0
  notify : Bool := false
  /-- Its payload is being read, or the bytes of a READ_DATA packet are being written. -/
  busy : Bool := false
  deriving DecidableEq, Repr

/-- A started descriptor and its message (R306, R309). -/
structure OrbMsg where
  /-- Free-running ring index. -/
  idx : Nat
  op : Nat := 0
  countFlag : Bool := false
  user : Nat := 0
  /-- Present destination node (R310: NAK_HOME changes it), and whether one NAK_HOME has come. -/
  dst : Nat := 0
  homed : Bool := false
  dstQ : Nat := 0
  len : Nat := 0
  sa : Nat := 0
  localDpa : Nat := 0
  key : Nat := 0
  remote : Nat := 0
  op1 : Nat := 0
  op2 : Nat := 0
  msgId : Nat := 0
  msgCount : Nat := 0
  /-- Message offset of the next unit to send. -/
  next : Nat := 0
  segs : SMap OrbSeg := []
  /-- Bytes acknowledged, or placed for READ. -/
  done : Nat := 0
  poisoned : Bool := false
  result : Nat := 0
  /-- A WAIT that found its engine's table full (R307). -/
  waitFull : Bool := false
  /-- Completion status; none while it runs. -/
  status : Option Nat := none
  deriving DecidableEq, Repr

/-- A queue's context (R303 to R311). -/
structure OrbQueue where
  owner : Nat
  sq : Nat
  cq : Nat
  counterDpa : Nat
  log2 : Nat
  group : Nat
  counter : Nat := 0
  /-- Doorbell tail, SQ_HEAD and next completion index; free-running 32-bit numbers. -/
  tail : Nat := 0
  head : Nat := 0
  cqNext : Nat := 0
  /-- ERROR, with the STATUS of the failed descriptor (R308). -/
  err : Bool := false
  errStatus : Nat := 0
  /-- The descriptor at SQ_HEAD is being read. -/
  fetching : Bool := false
  /-- It has FENCE and waits for every earlier descriptor (R309). -/
  fence : Bool := false
  nextMsgId : Nat := 0
  /-- Congestion window in segments; srtt and rttvar in µs; local time of the last cut in cycles (R311). -/
  cwnd : Rat := 4
  srtt : Option Rat := none
  rttvar : Rat := 0
  lastCut : Nat := 0
  /-- Messages started and not yet completed in the ring, oldest first. -/
  msgs : List OrbMsg := []
  /-- Count of the last message start (R322). -/
  lastStart : Nat := 0
  deriving DecidableEq, Repr

/-- A replay-cache entry (R315). -/
structure Replay where
  src : Nat
  queue : Nat
  msgId : Nat
  msgCount : Nat
  result : Nat
  deriving DecidableEq, Repr

/-- A packet that has passed its key checks and waits for the lease gate of a half (R321), or, with no half, for an atomic of the same
message that is under way (R315). -/
structure OrbHeld where
  pkt : OrbPkt
  port : Nat
  owner : Nat
  target : Nat
  half : Option Nat
  deriving DecidableEq, Repr

/-- An Ethernet port (Table 11-18). -/
structure EthPort where
  up : Bool := false
  /-- MEDIUM: 0 none, 1 KR, 2 CR, 3 chip-to-module. -/
  medium : Nat := 0
  fec : Nat := 0
  deriving DecidableEq, Repr

def EthPort.down : EthPort := {}

/-- Command registers of a logical device, for cipher and for Orbit (Tables 12-14, 11-14). -/
structure CmdRegs where
  /-- STATE: 0 IDLE, 1 BUSY, 2 DONE, 3 FAILED. -/
  state : Nat := 0
  reason : Nat := 0
  unwrap : Nat := 0
  lastOp : Nat := 0
  args : SMap W64 := []
  deriving DecidableEq, Repr

def CmdRegs.fresh : CmdRegs := {}

/-- What a block's own accesses to memory are for. -/
inductive AgentUse where
  /-- Bytes of a WRITE packet being placed, or of a READ request being read, or an atomic (R313 to R315). -/
  | place (p : OrbPkt) (port : Nat) (keyIx : Nat)
  | read (p : OrbPkt) (keyIx : Nat) (first : Nat)
  | atomic (p : OrbPkt) (keyIx : Nat) (target : Nat)
  /-- A descriptor of a queue being read; a segment's payload being read to be sent. -/
  | desc (q : Nat)
  | payload (q msgId offset : Nat) (retx : Bool) (first : Nat)
  /-- READ data or an atomic's prior value being written at the requester. -/
  | land (q msgId offset : Nat)
  /-- A completion entry or counter being written. -/
  | note (q : Nat)
  /-- A cipher descriptor being read; its input read; its output written; a blob read for UNWRAP. -/
  | cphDesc (q : Nat)
  | cphIn (q idx : Nat)
  | cphOut (q idx : Nat)
  | cphNote (q : Nat)
  | blob (ld : Nat)
  deriving DecidableEq, Repr

/-- A set of accesses to memory that belong together, of 64-byte halves. -/
structure Job where
  id : Nat
  ld : Nat
  use : AgentUse
  /-- Numbers of the accesses that have not been answered. -/
  left : List Nat
  /-- Data of the answered reads by number, with poison. -/
  got : SMap (Half × Bool) := []
  deriving DecidableEq, Repr

/-- Orbit. -/
structure OrbSt where
  /-- Reception is open (R318), with ORB_OPEN_COUNT. -/
  isOpen : Bool := false
  openCount : Nat := 0
  queues : SMap OrbQueue := []
  /-- Destroyed queues' numbers: the count that their reuse awaits (R322). -/
  retired : SMap Nat := []
  /-- Contexts and key entries on chip (R300, R319). -/
  ctx : SMap Unit := []
  keys : SMap KeyEntry := []
  /-- Valid key indices (KEYS_USED). -/
  keyUsed : SMap Unit := []
  /-- Key entries being written to MEMORY_KEYS whose line cannot take the write yet: (index, entry). -/
  keyTodo : List (Nat × KeyEntry) := []
  /-- DEREGISTER_KEY commands that wait (R302): logical device and index. -/
  dereg : List (Nat × Nat) := []
  /-- The miss buffer: packets with their ports, in arrival order (R319). -/
  miss : List (OrbPkt × Nat) := []
  held : List OrbHeld := []
  /-- Replay caches of the north and south engines, oldest first. -/
  replayN : List Replay := []
  replayS : List Replay := []
  /-- Engine: the count at a replay-cache error whose window is open (R319). -/
  window : SMap Nat := []
  /-- Engine: next PN, and the recorded limit (R297; the limit lies in eFlash). -/
  pn : SMap Nat := []
  pnLimit : SMap Nat := []
  cmds : SMap CmdRegs := []
  ports : SMap EthPort := []
  /-- ORB_DROPS and ORB_TRAFFIC; RO/ST. -/
  missDrops : Nat := 0
  authDrops : Nat := 0
  retransmits : Nat := 0
  naksSent : Nat := 0
  /-- Epoch whose first AUTH drop has been logged (Table 11-12). -/
  authEpoch : Option Nat := none
  deriving DecidableEq, Repr

end Sys2Proof.Machine
end

