-- ==== Sys2Proof/Machine/StateHost.lean ====
section
/-!
DEFINITION. State of the host ports, the logical devices, dynamic capacity, the snoop filter and the requests the
controller holds (chapter 4).
-/
namespace Sys2Proof.Machine
open Sys2Proof

/-- Who sent a request to memory. -/
inductive Src where
  /-- A host, on logical device `ld`, with the host's own tag. -/
  | host (ld tag : Nat)
  /-- The twin, which forwarded a request of logical device `ld` for a line of a hemisphere (R259, R263). -/
  | twin (ld tag hemi : Nat)
  /-- The twin's MIRROR_WRITE, with its tag, its epoch stamp and the line's hemisphere (R263, R268). -/
  | mirror (tag epoch hemi : Nat)
  /-- Access `ix` of a job of Orbit or the cipher engine, as a request of logical device `ld` (R313, R347). -/
  | agent (ld job ix : Nat)
  deriving DecidableEq, Repr

/-- How much of a half a write changes: all of it, some bytes, or an atomic on the 8-byte word at a byte of it (R313, R315). -/
inductive Part where
  | whole
  | bytes (mask : Nat)
  | add (byte : Nat) (v : Nat)
  | cas (byte : Nat) (compare swap : Nat)
  deriving DecidableEq, Repr

/-- A CXL.mem request for one 64-byte half (R122). -/
structure MemReq where
  src : Src
  /-- Device physical address, 64-byte aligned; for a forwarded request the address of the line's home space. -/
  dpa : Nat
  /-- The data and poison of a write; none for a read. -/
  write : Option (Half × Bool)
  /-- A read that asks for exclusive access to a SHARED_DB granule (R97). -/
  exclusive : Bool := false
  part : Part := .whole
  /-- Every BISnp of the request has been answered (R97). -/
  biDone : Bool := false
  /-- Released by the test of R183: it waits behind no other held write. -/
  passed : Bool := false
  /-- The oldest half held for a merge-buffer entry: it waits behind no other (R122). -/
  turn : Bool := false
  /-- A detector has seen the store (R125). -/
  seen : Bool := false
  deriving DecidableEq, Repr

/-- Why a request is held (R100). -/
inductive Hold where
  /-- Closed lease gate or Eclipse (R21). -/
  | gate (half : Nat)
  /-- The Dusk trigger (R24). -/
  | dusk
  /-- A fatal Halo parity error (R132). -/
  | fatal
  /-- Clean-page write at the ceiling (R183). -/
  | throttle
  /-- Ship list or capture store full (R274). -/
  | ship
  /-- No merge-buffer entry on a hemisphere (R122). -/
  | mergeFull (hemi : Nat)
  /-- A fill waits for its dirty victim (R127). -/
  | victim
  /-- A PENDING page (R198). -/
  | restore (page : Nat)
  /-- A Far staging fill (R240). -/
  | staging (far : Nat)
  /-- Every way of the staging set is dirty or filling (R241). -/
  | dirtyWay (far : Nat)
  /-- A Transit slot that is not READY (R252). -/
  | slot (window slot : Nat)
  /-- A back-invalidate for the granule (R97). -/
  | bi (granule : Nat)
  /-- A snoop-filter eviction (R97). -/
  | biEvict (granule : Nat)
  /-- An answer of the twin for a line on a frozen channel or a REMOTE page (R162, R451). -/
  | remote (line : Nat)
  /-- A Near reshape of the line's set (R60). -/
  | reshape
  /-- The half is being flushed or restarted. -/
  | restart
  deriving DecidableEq, Repr

/-- A held request, in order of arrival. -/
structure HeldReq where
  why : Hold
  req : MemReq
  deriving DecidableEq, Repr

/-- A BISnp outstanding: the granule, the logical devices still to answer, and whether it is an eviction (R97). -/
structure BiWait where
  granule : Nat
  lds : List Nat
  evict : Bool
  deriving DecidableEq, Repr

/-- A snoop-filter entry with its use order (R97: least recently used). -/
structure SfEntry where
  who : Holders
  used : Nat
  deriving DecidableEq, Repr

/-- Subtypes of Table 4-5. -/
inductive VendorEv where
  | lostEpochs | eclipse | flaggedRun | throttle | transitLate | violation | fault | divergent | channelFrozen
  deriving DecidableEq, Repr

/-- Table 4-5's value. -/
def VendorEv.code : VendorEv → Nat
  | .lostEpochs => 1 | .eclipse => 2 | .flaggedRun => 3 | .throttle => 4 | .transitLate => 5 | .violation => 6
  | .fault => 7 | .divergent => 8 | .channelFrozen => 9

/-- The event logs of a logical device (R108). -/
inductive LogKind where
  | info | warning | failure | fatal | dynCap
  deriving DecidableEq, Repr

/-- CXL's number of an event log. -/
def LogKind.code : LogKind → Nat
  | .info => 0 | .warning => 1 | .failure => 2 | .fatal => 3 | .dynCap => 4

/-- The log Table 4-5 gives a subtype. -/
def VendorEv.log : VendorEv → LogKind
  | .lostEpochs => .failure | .eclipse => .warning | .flaggedRun => .info | .throttle => .warning
  | .transitLate => .warning | .violation => .warning | .fault => .failure | .divergent => .info
  | .channelFrozen => .failure

/-- An extent of dynamic capacity (R94). -/
structure Extent where
  region : Nat
  base : Nat
  size : Nat
  tag : Nat
  deriving DecidableEq, Repr

/-- An event record (R108). -/
inductive EvRec where
  /-- A Treldex vendor record (Table 4-4); DETAIL as 64-bit words. -/
  | vendor (sub : VendorEv) (region count first last : Nat) (location : W64) (locKind : Nat) (detail : List Nat)
  /-- General Media, poison flag set, for lost data at a DPA (R108). -/
  | generalMedia (dpa : Nat)
  /-- DRAM event record of a device mark (R152). -/
  | dram (channel dimm rank position : Nat)
  /-- Dynamic Capacity: add, or forced release. -/
  | dynCap (add : Bool) (extent : Extent)
  /-- Memory Module; no rule names an event that posts one (R108). -/
  | memoryModule (detail : List Nat)
  deriving DecidableEq, Repr

/-- One event log: 64 records, with CXL's overflow count. -/
structure EvLog where
  recs : List EvRec := []
  overflow : Nat := 0
  deriving DecidableEq, Repr

def EvLog.empty : EvLog := {}

/-- An HDM decoder (R92). -/
structure Decoder where
  base : Nat := 0
  size : Nat := 0
  bi : Bool := false
  /-- Host-side interleave: ways and granularity in bytes. -/
  ways : Nat := 1
  gran : Nat := 256
  committed : Bool := false
  /-- Error Not Committed. -/
  error : Bool := false
  deriving DecidableEq, Repr

def Decoder.idle : Decoder := {}

/-- The window values of a logical device that hold from the Dusk trigger and through an Eclipse (R83, R112). -/
structure HeldWindow where
  status : W64
  /-- The epoch status block's five words (Table 3-10). -/
  epoch : List W64
  deriving DecidableEq, Repr

/-- Configuration-space state of a logical device that this manual names (R84, R88, R111). -/
structure LdCfg where
  /-- D3hot; it stops neither the data plane nor persistence (Table 4-1). -/
  d3hot : Bool := false
  /-- Address of the 64 MiB BAR0. -/
  bar0 : Nat := 0
  memSpace : Bool := false
  msixEnable : Bool := false
  deriving DecidableEq, Repr

/-- A logical device (R88). -/
structure LdSt where
  /-- FLR or CXL Reset under way, and which of them: 0 Function Level Reset, 1 CXL Reset (R9). -/
  resetting : Bool := false
  resets : List Nat := []
  cfg : LdCfg := {}
  decoders : SMap Decoder := []
  logs : SMap EvLog := []
  /-- Set Timestamp's value, and the local clock when it was set (R109). -/
  timestamp : Nat := 0
  timestampAt : Nat := 0
  /-- Set Alert Configuration's input, Set Event Interrupt Policy's byte for each log, and Set Shutdown State's value (R109). -/
  alerts : List Byte := []
  evPolicy : List Nat := []
  shutdown : Nat := 0
  /-- Mailbox doorbell set: a command waits (R110, R26). -/
  doorbell : Bool := false
  /-- Scan Media under way: DPA and length in bytes; and its results. -/
  scan : Option (Nat × Nat) := none
  scanFound : List Nat := []
  /-- MSI-X vectors: address, data, masked; and the pending bits. -/
  msix : SMap (Nat × Nat × Bool) := []
  pba : List Nat := []
  /-- Extents assigned (R94). -/
  extents : List Extent := []
  /-- Extents offered and unanswered (R94). -/
  offers : List Extent := []
  /-- Window values held (R112). -/
  heldWin : Option HeldWindow := none
  deriving DecidableEq, Repr

def LdSt.fresh : LdSt := {}

/-- A host port (R84 to R86, Tables 4-10 to 4-12). -/
structure PortSt where
  /-- HP_STATUS: SPEED, WIDTH, FLIT256, CXL_MEM. -/
  speed : Nat := 0
  width : Nat := 0
  flit256 : Bool := false
  cxlMem : Bool := false
  /-- CXL.cachemem IDE and the CXL.io link stream: active, insecure, and whether keys are programmed and not yet activated. -/
  ideActive : Bool := false
  ideInsecure : Bool := false
  ideKeys : Bool := false
  ideIo : Bool := false
  ideIoInsecure : Bool := false
  ideIoKeys : Bool := false
  /-- An integrity failure of a stream keeps CXL.mem requests out until new keys of it are active (R104). -/
  lockMem : Bool := false
  lockIo : Bool := false
  /-- LD-IDs presented, bit i. -/
  present : Nat := 0
  /-- HP_CTRL: DISABLE, RETRAIN, BI_TIMEOUT. -/
  disable : Bool := false
  retrain : Bool := false
  biTimeout : Nat := 8
  /-- HP_VIOL_COUNT; RO/ST. -/
  viol : Nat := 0
  /-- A port reset is under way. -/
  inReset : Bool := false
  /-- The port resets under way: 0 conventional (PERST_N), 1 hot, 2 link disable; each lasts by its own end (R9). -/
  resets : List Nat := []
  /-- The port has trained as a zero-capacity device for Twilight (R89). -/
  twilight : Bool := false
  deriving DecidableEq, Repr

def PortSt.fresh : PortSt := {}

/-- A GPF Phase 2 that waits: its logical device and the mirror tags it waits for (R101). -/
structure GpfWait where
  port : Nat
  tags : List Nat
  deriving DecidableEq, Repr

/-- A tag of dynamic capacity and its range (R94, R504); kept in flash. -/
structure DcTag where
  tag : Nat
  region : Nat
  base : Nat
  size : Nat
  /-- Some logical device has accepted the extent, so its contents stay (R95). -/
  held : Bool := false
  deriving DecidableEq, Repr

/-- A request whose answer comes from the twin (R259): its tag and the request. -/
structure FwdWait where
  tag : Nat
  req : MemReq
  /-- The request's port or logical device was reset: its answer is not sent (R113). -/
  dead : Bool := false
  deriving DecidableEq, Repr

/-- A HOT write accepted, whose completion waits for the twin (R268). -/
structure MirrorWait where
  tag : Nat
  /-- The host or forwarding twin to complete to; none for Orbit, cipher and Transit writes, and discarded completions. -/
  src : Option Src
  /-- The local address of the half written, as MIRROR_WRITE carries it. -/
  addr : Nat
  /-- Acknowledged, its completion withheld by an Eclipse or a Dusk (R283, R285). -/
  acked : Bool := false
  deriving DecidableEq, Repr

/-- Host ports. -/
structure HostSt where
  ports : SMap PortSt := []
  lds : SMap LdSt := []
  /-- The global tag table (R504); flash. -/
  dcTags : List DcTag := []
  /-- Untagged extents assigned or offered before the last Dusk or reset, to be zeroed at D5 (R504); flash. -/
  dcScratch : List Extent := []
  /-- Snoop filter entries by granule (DPA >> 7), and its use counter. -/
  sf : SMap SfEntry := []
  sfTick : Nat := 0
  bi : List BiWait := []
  /-- BISnp given up by the timeout: (granule, logical device), whose later answer is discarded (R98). -/
  biLate : List (Nat × Nat) := []
  held : List HeldReq := []
  fwd : List FwdWait := []
  mirror : List MirrorWait := []
  gpf : List GpfWait := []
  /-- Accesses of Orbit and the cipher engine under way, oldest first, and the number of the next job. -/
  jobs : List Job := []
  nextJob : Nat := 0
  /-- Dirty Shutdown Count (R102); eFlash. -/
  dirtyShutdowns : Nat := 0
  deriving DecidableEq, Repr

end Sys2Proof.Machine
end

