-- ==== Sys2Proof/Machine/StatePower.lean ====
section
/-!
DEFINITION. State of the power sequencer, the Dawn and Twilight, the boot records and the power log (chapter 14), and of the
thermal monitor (chapter 15).
-/
namespace Sys2Proof.Machine
open Sys2Proof

/-- PSQ_STATUS.SEQ (Table 14-9). -/
inductive SeqState where
  | off | raising | on | lowering | minOff
  deriving DecidableEq, Repr

def SeqState.code : SeqState → Nat
  | .off => 0 | .raising => 1 | .on => 2 | .lowering => 3 | .minOff => 4

/-- PSQ_STATUS.STAGE (Table 14-9). -/
inductive Stage where
  | dawn (n : Nat) | service | twilight | down
  deriving DecidableEq, Repr

def Stage.code : Stage → Nat
  | .dawn n => n | .service => 8 | .twilight => 9 | .down => 10

/-- Why the rails are being lowered, which says what follows (R375 to R390, R396). -/
inductive LowerWhy where
  /-- A failed attempt: minimum off time, then the next attempt. -/
  | retry
  /-- An off request: rails down; the Dawn ended ABORTED. -/
  | offRequest
  /-- A Dawn failed below DAWN_LIMIT: minimum off time, then a new Dawn. -/
  | dawnFail
  /-- Step 9 of a Dusk. -/
  | dusk
  /-- Twilight entered: only the TWILIGHT slots stay. -/
  | twilight
  /-- Twilight left: minimum off time, then a Dawn. -/
  | twilightExit
  /-- Slots kept raised after a Dusk fall at the next D1, before anything is raised (R384). -/
  | beforeRaise
  deriving DecidableEq, Repr

/-- Power log event types (Table 14-4). -/
inductive PowType where
  | railFail | dischargeSlow | pgLost | offDuringUp | onDuringDown | inputReturn | dawnFail | dawnDone | twilightEnter
  | twilightExit | sysReset
  deriving DecidableEq, Repr

def PowType.code : PowType → Nat
  | .railFail => 1 | .dischargeSlow => 2 | .pgLost => 3 | .offDuringUp => 4 | .onDuringDown => 5 | .inputReturn => 6
  | .dawnFail => 7 | .dawnDone => 8 | .twilightEnter => 9 | .twilightExit => 10 | .sysReset => 11

/-- Dawn failure reasons (Table 14-7). -/
inductive DawnReason where
  | none | eflash | hung | rail | pgLost | firmware | cores | chart | lifecycle | population | metaLost | twinMismatch
  | stageTimeout
  deriving DecidableEq, Repr

def DawnReason.code : DawnReason → Nat
  | .none => 0 | .eflash => 1 | .hung => 2 | .rail => 0x10 | .pgLost => 0x11 | .firmware => 0x20 | .cores => 0x21
  | .chart => 0x30 | .lifecycle => 0x31 | .population => 0x40 | .metaLost => 0x50 | .twinMismatch => 0x60
  | .stageTimeout => 0xF0

/-- A power log record (Table 14-3). -/
structure PowRec where
  type : PowType
  slot : Nat := 0xFF
  attempt : Nat := 0
  stage : Nat := 0xFF
  reason : DawnReason := .none
  detail : Nat := 0
  hours : Nat := 0
  cycles : Nat := 0
  localUs : Nat := 0
  seq : Nat := 0
  meridian : Nat := ones64.toNat
  deriving DecidableEq, Repr

/-- A WARM record (R392): the DIMMs in self-refresh with channel, slot and serial number, and the Chart's digest. -/
structure Warm where
  dimms : List (Nat × Nat × Nat)
  digest : BitVec 512
  deriving DecidableEq, Repr

/-- How a Dawn ended (R388). -/
inductive DawnEnd where
  | done | failed (stage : Nat) (reason : DawnReason) | aborted
  deriving DecidableEq, Repr

/-- The boot-records region of eFlash, as far as its chapters give its records. -/
structure BootRecs where
  /-- The last DAWN_BEGUN has no DAWN_END yet, with the last stage recorded (R388). -/
  dawnOpen : Option Nat := none
  lastEnd : Option DawnEnd := none
  /-- DUSK_BEGUN with no end recorded after it. -/
  duskBegun : Bool := false
  /-- The WARM record of the last SYS_RST_N (R392), not yet used. -/
  warm : Option Warm := none
  /-- Failed-Dawn counter (R389). -/
  failed : Nat := 0
  lastStage : Nat := 0
  lastReason : DawnReason := .none
  lastDetail : Nat := 0
  /-- Power-cycle count and operating hours. -/
  cycles : Nat := 0
  hours : Nat := 0
  /-- Recorded Meridian count (R65) and governor credit. -/
  countFloor : Nat := 0
  /-- The count recorded at the last Dusk (R65, R322). -/
  duskCount : Option Nat := none
  credit : Int := 0
  /-- The recorded MERIDIAN body (R501). -/
  meridian : Option MeridianCfg := none
  /-- The rails went down since the last D0 (R383, R391). -/
  railsWentDown : Bool := true
  /-- The stored R_save measurement in bytes per second; 0 for none (R180). -/
  rSave : Nat := 0
  /-- Device marks by channel: (dimm, rank, position) (R152). -/
  marks : SMap (List (Nat × Nat × Nat)) := []
  /-- The mirrored copy was STALE when a WARM record was last written (R392, R450). -/
  stale : Bool := false
  deriving DecidableEq, Repr

/-- The power sequencer and the Dawn. -/
structure PowerSt where
  seq : SeqState := .off
  stage : Stage := .down
  holdOff : Bool := false
  twilight : Bool := false
  attempt : Nat := 0
  /-- SEQ_EN and filtered SEQ_PG, bit n for slot n. -/
  en : Nat := 0
  pg : Nat := 0
  /-- ORDER of the group being raised, settling or being lowered. -/
  group : Nat := 0
  /-- The group has reached power-good and its settle time runs. -/
  settling : Bool := false
  /-- Slots of the group whose PG timeout has passed: NO_PG slots have waited, others have failed. -/
  waited : Nat := 0
  /-- The first failing slot of the attempt (R376). -/
  failSlot : Option Nat := none
  /-- Slots of the group being lowered that have discharged or timed out. -/
  lowered : Nat := 0
  lowerWhy : LowerWhy := .offRequest
  /-- Slots kept raised through a Dusk (R384). -/
  keep : Nat := 0
  /-- An off request arrived during a power-up (R379). -/
  offReq : Bool := false
  /-- An on request arrived during a power-down (R379). -/
  onReq : Bool := false
  /-- Filtered PWR_FAIL_N is asserted; it has been deasserted for 10 ms (R378). -/
  pwrFail : Bool := false
  pwrStable : Bool := false
  /-- SYS_RST_N is asserted. -/
  sysRst : Bool := false
  /-- A PG_LOST has been recorded in this power-up (R503). -/
  pgLost : Bool := false
  /-- The Dusk was fired by CYCLE, OFF or PG_LOST: R385 does not resume service (R386). -/
  noResume : Bool := false
  /-- The POWER_SEQUENCE body in force (R53, R381). -/
  body : PowerCfg := {}
  /-- The power log ring, newest first, and its next RECORD_SEQ (R383). -/
  log : List PowRec := []
  logSeq : Nat := 0
  boot : BootRecs := {}
  /-- PSQ_STAGE_USn. -/
  stageUs : SMap Nat := []
  /-- Local time in µs at which the stage in progress began. -/
  stageStart : Nat := 0
  /-- D5 keeps presence, dirty map and stamps (R392): decided at D4. -/
  warmKeep : Bool := false
  deriving DecidableEq, Repr

/-- A junction sensor (R399): last valid sample in 1/16 °C. -/
structure Sensor where
  reading : Option Int := none
  cause : Nat := 0
  /-- Last raw code and the number of identical samples in a row. -/
  raw : Int := 0
  same : Nat := 0
  deriving DecidableEq, Repr

def Sensor.fresh : Sensor := {}

/-- A DIMM's hub reading (R406). -/
structure DimmTemp where
  reading : Option Int := none
  failed : Bool := false
  throttling : Bool := false
  deriving DecidableEq, Repr

def DimmTemp.fresh : DimmTemp := {}

/-- The thermal monitor. -/
structure ThermSt where
  sensors : SMap Sensor := []
  dimms : SMap DimmTemp := []
  warn : Bool := false
  thrN : Bool := false
  thrS : Bool := false
  shutdown : Bool := false
  stepN : Nat := 0
  stepS : Nat := 0
  /-- Steps of k are frozen from the Dusk trigger (R404). -/
  frozen : Bool := false
  /-- The Shutdown level is not evaluated until the next D0 (R403). -/
  disarmed : Bool := false
  /-- Local µs at which the rails went down (R403). -/
  downAt : Nat := 0
  /-- THM_PEAK; RO/ST. -/
  peak : Option Int := none
  peakDimm : Option Int := none
  deriving DecidableEq, Repr

end Sys2Proof.Machine
end

