-- ==== Sys2Proof/Machine/StateCipher.lean ====
section
/-!
DEFINITION. State of the cipher engine: key slots, request queues, register pages and command registers (chapter 12).
-/
namespace Sys2Proof.Machine
open Sys2Proof

/-- Slot states (Table 12-3); RESERVED is the state of slots 0 to 31 and needs no field. -/
inductive KeyState where
  | empty | loaded | exhausted
  deriving DecidableEq, Repr

/-- Slot MODE (Table 12-17). -/
inductive KeyMode where
  | none | xts | gcm
  deriving DecidableEq, Repr

def KeyMode.code : KeyMode → Nat
  | .none => 0 | .xts => 1 | .gcm => 2

/-- What the boot-records region keeps of a slot (R343). -/
structure KeyRecord where
  floor : Nat := 0
  count : Nat := 0
  /-- First 16 bytes of SHAKE256(KEK, key) (R342). -/
  check : Option Nat := none
  deriving DecidableEq, Repr

def KeyRecord.none : KeyRecord := {}

/-- A key slot (R332): both hemispheres hold one copy, so it is stored once. -/
structure KeySlot where
  state : KeyState := .empty
  key : Nat := 0
  mode : KeyMode := .none
  rights : Nat := 0
  ldMask : Nat := 0
  limit : Nat := 0
  /-- Use count, the sum over both hemispheres. -/
  count : Nat := 0
  /-- Floor and key check, which a cleared slot keeps (R342). -/
  floor : Nat := 0
  check : Option Nat := none
  /-- INLINE_OVER has been recorded for the slot (R345). -/
  overLogged : Bool := false
  deriving DecidableEq, Repr

def KeySlot.fresh : KeySlot := {}

/-- A descriptor under way (R347). -/
structure CphJob where
  index : Nat
  op : Nat := 0
  slot : Nat := 0
  len : Nat := 0
  src : Nat := 0
  dst : Nat := 0
  aad : Nat := 0
  aadLen : Nat := 0
  iv : Nat := 0
  tag : Nat := 0
  /-- The key the use started with (R342). -/
  key : Nat := 0
  /-- Its status once it has one and its writes have reached their completion point (Table 12-9). -/
  status : Option Nat := none
  /-- USES_LEFT after this use. -/
  left : Nat := 0
  /-- An OPEN that waits for a verify buffer, and one that holds a buffer (R348). -/
  waitBuf : Bool := false
  holdsBuf : Bool := false
  deriving DecidableEq, Repr

/-- A request queue (R346). -/
structure CphQueue where
  owner : Nat := 0
  sq : Nat := 0
  cq : Nat := 0
  log2 : Nat := 0
  tail : Nat := 0
  /-- Free-running index of the next descriptor to start, and of the next to complete. -/
  next : Nat := 0
  done : Nat := 0
  err : Bool := false
  /-- The descriptor at `next` is being read; it has FENCE and waits; DESTROY_QUEUE waits for the descriptors under way. -/
  fetching : Bool := false
  fence : Bool := false
  closing : Bool := false
  jobs : List CphJob := []
  deriving DecidableEq, Repr

/-- PAGE states (Table 12-10). -/
inductive PageState where
  | idle | busy | done
  deriving DecidableEq, Repr

def PageState.code : PageState → Nat
  | .idle => 0 | .busy => 1 | .done => 2

/-- A register page (Table 12-10). Buffers list the bytes that are not zero. -/
structure CphPage where
  op : Nat := 0
  slot : Nat := 0
  length : Nat := 0
  aadLen : Nat := 0
  state : PageState := .idle
  status : Nat := 0
  iv0 : W64 := 0
  iv1 : W64 := 0
  tag0 : W64 := 0
  tag1 : W64 := 0
  aad : SMap Byte := []
  data : SMap Byte := []
  /-- Key of the operation under way and the status its checks gave. -/
  key : Nat := 0
  fail : Option Nat := none
  /-- An OPEN that waits for a verify buffer, and one that holds a buffer (R348). -/
  waitBuf : Bool := false
  holdsBuf : Bool := false
  deriving DecidableEq, Repr

def CphPage.fresh : CphPage := {}

/-- The cipher engine. -/
structure CphSt where
  slots : SMap KeySlot := []
  /-- The records of R343 in eFlash, and whether the last power-down closed them. -/
  records : SMap KeyRecord := []
  closed : Bool := true
  /-- CPH_STATUS.COUNTS_CLEAN. -/
  countsClean : Bool := false
  /-- The KEK of this Dawn (R338); none before D3 or with no owner seed. -/
  kek : Option (List Byte) := none
  queues : SMap CphQueue := []
  pages : SMap CphPage := []
  cmds : SMap CmdRegs := []
  /-- CPH_CMD_STATUS, CPH_SLOT_SEL and CPH_BLOBn. -/
  cmd : CmdRegs := {}
  cmdSlot : Nat := 0
  slotSel : Nat := 0
  blob : SMap W64 := []
  /-- Verify buffers in use by hemisphere (R348), at most 32 each, and how many of them await VERIFY_BUFFER_FREE. -/
  verify : SMap Nat := []
  verifyDone : SMap Nat := []
  deriving DecidableEq, Repr

end Sys2Proof.Machine
end

