-- ==== Sys2Proof/Machine/StateIdent.lean ====
section
/-!
DEFINITION. State of chapter 13: the fuses, the device's keys and certificates, the life-cycle command block and the SPDM responder.
-/
namespace Sys2Proof.Machine
open Sys2Proof

/-- Life-cycle states (Table 13-3). -/
inductive LcState where
  | foundry | provision | sealedState | returned
  deriving DecidableEq, Repr

/-- Table 13-3's value. -/
def LcState.code : LcState → Nat
  | .foundry => 0 | .provision => 1 | .sealedState => 2 | .returned => 3

/-- The state of a number of blown bits. -/
def LcState.ofBits : Nat → LcState
  | 0 => .foundry | 1 => .provision | 2 => .sealedState | _ => .returned

/-- A fuse field's copy (Table 13-1). -/
inductive FuseField where
  | lc (copy : Nat) | returnBegun (copy : Nat) | huk | salt (copy : Nat) | seed (copy : Nat) | key (copy : Nat) | fwSvn | revoke
  deriving DecidableEq, Repr

/-- The fuse bank (Table 13-1): a bit that is blown reads 1. LC_STATE and FW_SVN are thermometers. -/
structure Otp where
  lc0 : BitVec 3 := 0
  lc1 : BitVec 3 := 0
  lc2 : BitVec 3 := 0
  /-- The three copies of RETURN_BEGUN, bit i for copy i. -/
  returnBegun : BitVec 3 := 0
  huk : BitVec 256 := 0
  salt0 : BitVec 256 := 0
  salt1 : BitVec 256 := 0
  seed0 : BitVec 256 := 0
  seed1 : BitVec 256 := 0
  key0 : BitVec 456 := 0
  key1 : BitVec 456 := 0
  fwSvn : BitVec 64 := 0
  revoke : BitVec 4 := 0
  deriving DecidableEq, Repr

/-- No fuse blown. -/
def Otp.blank : Otp := {}

/-- Fuses blown in either bank: programming `b` on top of `a` (R355: a blown bit stays blown). -/
def Otp.blow (a b : Otp) : Otp :=
  { lc0 := a.lc0 ||| b.lc0, lc1 := a.lc1 ||| b.lc1, lc2 := a.lc2 ||| b.lc2, returnBegun := a.returnBegun ||| b.returnBegun,
    huk := a.huk ||| b.huk, salt0 := a.salt0 ||| b.salt0, salt1 := a.salt1 ||| b.salt1, seed0 := a.seed0 ||| b.seed0,
    seed1 := a.seed1 ||| b.seed1, key0 := a.key0 ||| b.key0, key1 := a.key1 ||| b.key1, fwSvn := a.fwSvn ||| b.fwSvn,
    revoke := a.revoke ||| b.revoke }

/-- The bank with one bit of a field blown. -/
def Otp.bit (f : FuseField) (i : Nat) : Otp :=
  match f with
  | .lc 0 => { lc0 := BitVec.ofNat 3 (2 ^ i) }
  | .lc 1 => { lc1 := BitVec.ofNat 3 (2 ^ i) }
  | .lc _ => { lc2 := BitVec.ofNat 3 (2 ^ i) }
  | .returnBegun c => { returnBegun := BitVec.ofNat 3 (2 ^ c) }
  | .huk => { huk := BitVec.ofNat 256 (2 ^ i) }
  | .salt 0 => { salt0 := BitVec.ofNat 256 (2 ^ i) }
  | .salt _ => { salt1 := BitVec.ofNat 256 (2 ^ i) }
  | .seed 0 => { seed0 := BitVec.ofNat 256 (2 ^ i) }
  | .seed _ => { seed1 := BitVec.ofNat 256 (2 ^ i) }
  | .key 0 => { key0 := BitVec.ofNat 456 (2 ^ i) }
  | .key _ => { key1 := BitVec.ofNat 456 (2 ^ i) }
  | .fwSvn => { fwSvn := BitVec.ofNat 64 (2 ^ i) }
  | .revoke => { revoke := BitVec.ofNat 4 (2 ^ i) }

/-- The value of a field's copy. -/
def Otp.field (o : Otp) : FuseField → Nat
  | .lc 0 => o.lc0.toNat | .lc 1 => o.lc1.toNat | .lc _ => o.lc2.toNat
  | .returnBegun c => if o.returnBegun.getLsbD c then 1 else 0
  | .huk => o.huk.toNat | .salt 0 => o.salt0.toNat | .salt _ => o.salt1.toNat
  | .seed 0 => o.seed0.toNat | .seed _ => o.seed1.toNat | .key 0 => o.key0.toNat | .key _ => o.key1.toNat
  | .fwSvn => o.fwSvn.toNat | .revoke => o.revoke.toNat

/-- LCS_CMD_STATUS.STATE (Table 13-10). -/
inductive LcsState where
  | idle | busy | done | failed
  deriving DecidableEq, Repr

/-- Table 13-10's value. -/
def LcsState.code : LcsState → Nat
  | .idle => 0 | .busy => 1 | .done => 2 | .failed => 3

/-- An SPDM session (R370, R371). -/
structure Session where
  id : Nat
  transport : Nat
  /-- The requester authenticated with a chain rooted in the fused owner key. -/
  owner : Bool
  /-- FINISH has completed the handshake. -/
  established : Bool
  /-- Key updates performed. -/
  updates : Nat
  deriving DecidableEq, Repr

/-- An SPDM connection on a transport: the negotiated version as its byte, and how far the negotiation has come (DSP0274). -/
structure SpdmConn where
  version : Nat := 0
  capabilities : Bool := false
  algorithms : Bool := false
  deriving DecidableEq, Repr

def SpdmConn.fresh : SpdmConn := {}

/-- Identity, life cycle and attestation. -/
structure IdSt where
  /-- The fuse fields as the supervisor read them at D0 and has programmed them since (R356, R373). -/
  fuse : Otp := {}
  /-- D0 has loaded the LCS_ registers. -/
  loaded : Bool := false
  /-- Bits programmed in the step under way; its end adds them to the fuse bank (the model's own field). -/
  burn : Otp := {}
  /-- Life-cycle state (R356). -/
  lc : LcState := .foundry
  /-- This unit's 16-byte identifier (R358). -/
  unitId : List Byte := []
  /-- The identity public key and certificate chain of slot 0; they outlive RETURN (R363). -/
  identityPub : List Byte := []
  identityChain : List Byte := []
  /-- Key ID of the installed owner key (R30); none without a usable owner. -/
  ownerKeyId : Option (List Byte) := none
  /-- Pieces of the alias chain received, and the chain installed (R359); the latter in eFlash. -/
  aliasPieces : SMap (List Byte) := []
  aliasChain : Option (List Byte) := none
  /-- DEBUG_OPEN (R366); sticky until power-on reset. -/
  debugOpen : Bool := false
  /-- The nonces of DEBUG_CHALLENGE and RETURN_CHALLENGE not yet consumed. -/
  debugNonce : Option (List Byte) := none
  returnNonce : Option (List Byte) := none
  /-- LCS_CMD_STATUS: STATE, RESULT, LAST_OP. -/
  state : LcsState := .idle
  result : Nat := 0
  lastOp : Nat := 0
  /-- The 512 bytes of LCS_DATA. -/
  data : SMap Byte := []
  /-- The JTAG instruction in force: its number, and whether it executes as BYPASS (R364). -/
  tap : Nat := 0
  tapBypass : Bool := true
  /-- SPDM connections by transport, and sessions. -/
  conns : SMap SpdmConn := []
  sessions : List Session := []
  nextSession : Nat := 0
  deriving DecidableEq, Repr

end Sys2Proof.Machine
end

