-- ==== Sys2Proof/Machine/StateMeridian.lean ====
section
/-!
DEFINITION. State of the Meridian front end (chapter 3). All of it is of the power-on class (R82).
-/
namespace Sys2Proof.Machine
open Sys2Proof

/-- MER_STATUS.STATE (Table 3-7). -/
inductive MerState where
  | acquiring | locked | slewing | deadReckoning
  deriving DecidableEq, Repr

/-- Table 3-7's value of a Meridian state. -/
def MerState.code : MerState → Nat
  | .acquiring => 0 | .locked => 1 | .slewing => 2 | .deadReckoning => 3

/-- What the header of a PTP message and its port show: the Ethernet port, Annex E (UDP/IPv6) or F transport, the domain and the sender (R70). -/
structure PtpHdr where
  port : Nat
  annexE : Bool
  domain : Nat
  master : Nat
  deriving DecidableEq, Repr

/-- The Meridian front end. -/
structure Mer where
  /-- The count (R64). -/
  count : Nat := 0
  state : MerState := .acquiring
  /-- The MERIDIAN body in force (R501). -/
  body : MeridianCfg := {}
  /-- The count holds at the floor until D0 has read the recorded body (R501). -/
  holdAtFloor : Bool := true
  /-- The count floor: the last recorded value at the last power-on (R65). -/
  floor : Nat := 0
  /-- A pin or PTP source is present and counted from its edges. -/
  source : Bool := false
  /-- Shadow count of a slew (R79). -/
  shadow : Nat := 0
  /-- Ticks seen since the slew began, for the 1,024th-tick adjustment (R79). -/
  slewTicks : Nat := 0
  /-- MER_OFFSET.OFFSET_NS, signed nanoseconds. -/
  offsetNs : Int := 0
  /-- MER_DR_TICKS. -/
  drTicks : Nat := 0
  /-- MER_FRAME_LAST and FRAME_FLAGS of the last valid frame. -/
  frameLast : Nat := 0
  frameFlags : Nat := 0
  /-- Edges accepted since always-on power came up. -/
  edges : Nat := 0
  /-- COUNT of the last valid frame and the number of the edge that is its anchor (R69). -/
  prevFrame : Option (Nat × Nat) := none
  /-- The last valid frame disagreed with the count: its COUNT, and the count at its anchor edge (R68, R76). -/
  disagreed : Option (Nat × Nat) := none
  /-- A slew's 1,024th tick has come and its adjustment is still to be made (R79). -/
  adjust : Bool := false
  /-- Last sealed epoch (MER_EPOCH_SEALED); none before the first seal. -/
  sealedEpoch : Option Nat := none
  /-- The epoch last begun by EPOCH_BOUNDARY. -/
  epoch : Nat := 0
  /-- Reasons that have flagged the current epoch so far, bits as RUN_REASON (R76). -/
  flagNow : Nat := 0
  /-- RUN_REASON. -/
  runReason : Nat := 0
  /-- MER_RUN_FIRST. -/
  runFirst : Nat := 0
  /-- MER_RUN_LAST once the run has closed. -/
  runLast : Option Nat := none
  /-- A flagged run is open. -/
  runOpen : Bool := false
  /-- Epochs flagged, as closed runs (first, last), oldest first (R76). -/
  runs : List (Nat × Nat) := []
  /-- Runs closed since Dawn (GET_EPOCH_HISTORY). -/
  runsSinceDawn : Nat := 0
  /-- PTP: consecutive in-range Syncs, consecutive excursions, excursion in force (R71). -/
  ptpGood : Nat := 0
  ptpBad : Nat := 0
  ptpExcursion : Bool := false
  /-- PTP: the time transmitters heard in the domain with their ranks, oldest first; the count at the last Sync awaiting a Follow_Up; the measured path
  delay (R70). -/
  ptpMasters : List (Nat × Nat) := []
  ptpSyncAt : Option Nat := none
  ptpDelay : Int := 0
  /-- PTP: the delay request or peer-delay request outstanding. -/
  ptpDelayReq : Option Nat := none
  /-- PTP: ticks by which the disciplined generator still has to run ahead (positive) or be held back (R71). -/
  ptpOwed : Int := 0
  /-- The D6 wait of R69 has ended. -/
  waitDone : Bool := false
  deriving DecidableEq, Repr

/-- Current epoch: floor(count / L) (R73). -/
def Mer.now (m : Mer) : Nat := m.count / max m.body.l 1

/-- SKEW_NS + TICK_NS ≤ 300 (CAPABLE, R74). -/
def Mer.capable (m : Mer) : Bool := decide (m.body.skewNs + m.body.tickNs ≤ 300)

/-- The selected time transmitter: the one of the lowest rank, the first heard of equal ones (R70). -/
def Mer.ptpMaster (m : Mer) : Option Nat :=
  match m.ptpMasters with
  | [] => none
  | x :: rest => some (rest.foldl (fun x y => if y.2 < x.2 then y else x) x).1

end Sys2Proof.Machine
end

