-- ==== Sys2Proof/Machine/StateMgmt.lean ====
section
/-!
DEFINITION. State of chapter 18: I3C and MCTP, permissions, firmware banks and their update, and PLDM events.
-/
namespace Sys2Proof.Machine
open Sys2Proof

/-- MGT_PERMIT (Table 18-11). -/
structure Permit where
  openStage : Bool := false
  openControl : Bool := false
  injectPoison : Bool := false
  openUpdate : Bool := false
  deriving DecidableEq, Repr

/-- Results of Table 18-8. -/
inductive BankResult where
  | ok | empty | format | keys | revoked | signature | rollback | read
  deriving DecidableEq, Repr

/-- Table 18-8's value. -/
def BankResult.code : BankResult → Nat
  | .ok => 0 | .empty => 1 | .format => 2 | .keys => 3 | .revoked => 4 | .signature => 5 | .rollback => 6 | .read => 7

/-- What the last check of a bank found (MGT_BANKA, MGT_BANKB). -/
structure BankInfo where
  version : Nat := 0
  svn : Nat := 0
  result : BankResult := .ok
  deriving DecidableEq, Repr

/-- The firmware that runs (MGT_FW) with its component digests (R372, R473). -/
structure Running where
  version : Nat := 0
  svn : Nat := 0
  bank : Nat := 0
  supDigest : List Byte := []
  coreDigest : List Byte := []
  deriving DecidableEq, Repr

/-- MGT_STATUS.UPDATE with the PLDM type 5 steps between (R472). -/
inductive UpdateStep where
  /-- No update. -/
  | idle
  /-- RequestUpdate accepted; the component table has not been passed. -/
  | requested
  /-- The component table has been passed. -/
  | table
  /-- The bank is being erased: sectors left. -/
  | erasing (left : Nat)
  | receiving
  | verifying
  | ready
  deriving DecidableEq, Repr

/-- MGT_STATUS.UPDATE's value: nothing is shown before the erase. -/
def UpdateStep.code : UpdateStep → Nat
  | .idle => 0 | .requested => 0 | .table => 0 | .erasing _ => 1 | .receiving => 2 | .verifying => 3 | .ready => 4

/-- Management interfaces. -/
structure MgtSt where
  /-- MGT_PERMIT, and its copy in the boot records (R467). -/
  permit : Permit := {}
  savedPermit : Permit := {}
  /-- MCTP endpoint ID, and its copy in the boot records (R463). -/
  eid : Nat := 0
  savedEid : Nat := 0
  /-- I3C dynamic addresses; 0 is none (R462). -/
  daddrA : Nat := 0
  daddrB : Nat := 0
  /-- Transmission unit of each I3C target (R463). -/
  mtuA : Nat := 64
  mtuB : Nat := 64
  /-- Packets of a message being assembled, by transport: payload bytes so far. -/
  assembling : SMap (List Byte) := []
  /-- The boot record: active bank (0 A, 1 B) and TRIAL (R471); eFlash. -/
  active : Nat := 0
  trial : Bool := false
  /-- An activation waits for the next D0 (R473). -/
  pendingReset : Bool := false
  /-- Contents of the two banks from their first byte; the rest of a bank is erased; eFlash. -/
  banks : SMap (List Byte) := []
  infoA : BankInfo := {}
  infoB : BankInfo := {}
  running : Option Running := none
  /-- The update under way (R472): its step, the bytes expected and received, and the header sector held back. -/
  update : UpdateStep := .idle
  updateSize : Nat := 0
  updateGot : Nat := 0
  header : List Byte := []
  /-- The firmware-class reset under way loads the new bank's cores (R473). -/
  activating : Bool := false
  /-- The PLDM terminus ID (SetTID, R468). -/
  tid : Nat := 0
  /-- The PLDM event receiver's endpoint (R468). -/
  receiver : Option Nat := none
  deriving DecidableEq, Repr

end Sys2Proof.Machine
end

