-- ==== Sys2Proof/Machine/StateOut.lean ====
section
/-!
DEFINITION. What the block sends in a step: answers to hosts, Crailanil messages (Table 10-3), arbiter messages (Table 10-4) and
the other interfaces' answers; and the commands that wait for the management cores or the end of an Eclipse (R25, R110).
-/
namespace Sys2Proof.Machine
open Sys2Proof

/-- Mailbox commands with their inputs. -/
inductive MboxCmd where
  | identify | health | getEvents (log : LogKind) | clearEvents (log : LogKind) (count : Nat) | supportedLogs | getLog (id : Nat)
  | setTimestamp (t : Nat) | multiHeaded | getPoison (dpa len : Nat) | injectPoison (dpa : Nat)
  | clearPoison (dpa : Nat) (data : Half) | scanMedia (dpa len : Nat)
  | addDcResponse (accept : List (Nat × Nat)) | releaseDc (base size : Nat)
  | regionMap (start max inputLen : Nat) | persistence (inputLen : Nat) | restore (inputLen : Nat)
  | epochHistory (inputLen : Nat) | topology (inputLen : Nat) | chartIdentity (inputLen : Nat)
  /-- Any other opcode, with its input payload. -/
  | other (opcode : Nat) (input : List Byte)
  deriving DecidableEq, Repr

/-- A mailbox command's opcode (CXL 3.1, Table 4-6). -/
def MboxCmd.opcode : MboxCmd → Nat
  | .identify => 0x4000 | .health => 0x4200 | .getEvents _ => 0x0100 | .clearEvents _ _ => 0x0101 | .supportedLogs => 0x0400 | .getLog _ => 0x0401
  | .setTimestamp _ => 0x0301 | .multiHeaded => 0x5500 | .getPoison _ _ => 0x4300 | .injectPoison _ => 0x4301 | .clearPoison _ _ => 0x4302
  | .scanMedia _ _ => 0x4304 | .addDcResponse _ => 0x4802 | .releaseDc _ _ => 0x4803
  | .regionMap _ _ _ => 0xC000 | .persistence _ => 0xC001 | .restore _ => 0xC002 | .epochHistory _ => 0xC003 | .topology _ => 0xC004
  | .chartIdentity _ => 0xC005 | .other op _ => op

/-- A command that waits for the cores or for the end of an Eclipse, run in its order of arrival. See assumption 8 (DEDUCED). -/
inductive Deferred where
  | mbox (ld : Nat) (c : MboxCmd)
  /-- An Orbit or cipher command of a logical device, by its OP (Tables 11 and 12-15). -/
  | orbCmd (ld op : Nat)
  | cphCmd (ld op : Nat)
  /-- CPH_CMD of the management path. -/
  | mgmtCph (op slot : Nat)
  /-- NVF_CMD START_REBUILD and ADMIT. -/
  | startRebuild
  | readmit (die : Nat)
  /-- DRM_CMD THAW with the twin's copy of the failing line (R162). -/
  | thaw (channel : Nat) (twin : Option Line)
  deriving DecidableEq, Repr

/-- Arbiter messages to the arbiter (Table 10-5). -/
inductive ArbType where
  | heartbeat | renew | release | fenceAck | status
  deriving DecidableEq, Repr

/-- Table 10-5's value. -/
def ArbType.code : ArbType → Nat
  | .heartbeat => 1 | .renew => 3 | .release => 4 | .fenceAck => 6 | .status => 7

/-- A message on the arbiter link (Table 10-4). -/
structure ArbMsg where
  type : ArbType
  seq : Nat
  pairTag : Nat
  unit : List Byte
  half : Nat
  code : Nat
  leaseNo : Nat
  count : Nat
  epoch : Nat
  deriving DecidableEq, Repr

/-- Messages and answers the block sends. -/
inductive Output where
  /-- A half of read data to a host, with poison. -/
  | readData (ld tag : Nat) (data : Half) (poison : Bool)
  /-- A write's completion to a host. -/
  | writeDone (ld tag : Nat)
  /-- BISnpInv of a granule to a holder: a logical device by number, in Binary with bit 6 for one of unit B (R97). -/
  | biSnp (holder granule : Nat)
  /-- A Crailanil message for a line of a hemisphere (R263); one of no line takes the north half-link. -/
  | crn (hemi : Nat) (m : TwinMsg)
  /-- The two TRAIN frames' contents on a half-link: the challenge, and the signed fields (R264). -/
  | crnTrain (link : Nat) (challenge record : List Byte)
  /-- A Crailanil ACK or NAK frame of a half-link, with its SEQ (R266). -/
  | crnAck (link seq : Nat)
  | crnNak (link seq : Nat)
  /-- DATA frames of a half-link resent from a SEQ. -/
  | crnResend (link seq : Nat) (frames : List CrnFrame)
  /-- An arbiter message (Table 10-4), from this unit. -/
  | arb (m : ArbMsg)
  /-- A mailbox answer: return code (0 success, 1 unsupported, 2 invalid input) and its output as numbers. -/
  | mbox (ld opcode code : Nat) (body : List Nat)
  /-- The same of a vendor opcode, its output as the bytes of Table 4-6. -/
  | mboxBytes (ld opcode code : Nat) (body : List Byte)
  /-- An MSI-X message of a logical device: address and data. -/
  | msix (ld addr data : Nat)
  /-- What a read of a logical device's window answers. -/
  | windowData (ld : Nat) (data : W64)
  /-- IDE capabilities of a port: link stream, containment mode, skid mode, selective streams (Table 4-2). -/
  | ideCaps (port : Nat) (link containment skid selective : Bool)
  /-- Event records returned by Get Event Records. -/
  | events (ld : Nat) (log : LogKind) (recs : List EvRec) (overflow : Nat)
  /-- A PTP delay request or peer-delay request, with its sequence number (R70). -/
  | ptpDelayReq (port : Nat) (annexE peer : Bool) (seq : Nat)
  /-- An Orbit packet on an Ethernet port, with its path (R295). -/
  | orb (p : OrbPkt) (path port : Nat)
  /-- A Neighbour Advertisement on a port, solicited or not, to an IPv6 address (R294). -/
  | neighbour (port : Nat) (solicited : Bool) (dest : Nat)
  /-- GPF Phase 1 or Phase 2 acknowledged on a port. -/
  | gpf (port phase : Nat)
  /-- An SPDM response on a transport, in a session or not: its code and its content as bytes (R370). -/
  | spdm (transport : Nat) (session : Option Nat) (code : Nat) (body : List Byte)
  /-- A Treldex vendor response, as the bytes that follow the message type 0x7F and the enterprise number (R464, Table 18-2). -/
  | vendor (transport : Nat) (message : List Byte)
  /-- An MCTP control response: command, completion code, value. -/
  | mctp (transport cmd completion value : Nat)
  /-- A PLDM response: type, command, completion code, content. -/
  | pldm (transport type cmd completion : Nat) (body : List Nat)
  /-- PlatformEventMessage to the event receiver: sensor and its new state (R468). -/
  | pldmEvent (receiver sensor state : Nat)
  /-- RequestFirmwareData: offset and length of the block wanted (R472). -/
  | firmwareRequest (offset length : Nat)
  /-- What a register access of the management path reads (R6). -/
  | regData (data : W64)
  /-- The TAP executes an instruction, as BYPASS or not (R364). -/
  | tap (instruction : Nat) (bypass : Bool)
  deriving DecidableEq, Repr

end Sys2Proof.Machine
end

