-- ==== Sys2Proof/Machine/StateBlk.lean ====
section
/-!
DEFINITION. The block's state but for its fuses and its queue of commands: everything the command meanings read and write.
-/
namespace Sys2Proof.Machine
open Sys2Proof

/-- A firmware-class reset (R25, R27). -/
structure FwSt where
  /-- The management cores are restarting. -/
  restarting : Bool := false
  /-- The further firmware-class reset of R27 has been performed. -/
  retried : Bool := false
  /-- Solo: work in the waiting rows stays paused until a system reset (R27). -/
  paused : Bool := false
  /-- Waiting work, oldest first. -/
  deferred : List Deferred := []
  deriving DecidableEq, Repr

/-- Everything but the fuses and the queue. -/
structure Blk where
  /-- Uses of `Config.freeNat` so far (the model's own field; assumption 3). -/
  free : Nat := 0
  /-- Local clock cycles of 10 ns since always-on power came up (R80). -/
  cyc : Nat := 0
  /-- Always-on power is up (R489). -/
  aon : Bool := true
  /-- I3C_SADDR straps as sampled (R487). -/
  straps : Nat := 0
  /-- The ERR registers by `ErrReg.key`. -/
  errs : SMap W64 := []
  flt : Flt := {}
  logbook : Logbook := {}
  alm : Almanac := {}
  efl : EFlash := {}
  mer : Mer := {}
  cht : ChartSt := {}
  halo : HaloSt := {}
  dram : Dram := {}
  pers : PersSt := {}
  nvf : NvfSt := {}
  far : FarSt := {}
  twin : TwinSt := {}
  host : HostSt := {}
  orb : OrbSt := {}
  cph : CphSt := {}
  ident : IdSt := {}
  pwr : PowerSt := {}
  therm : ThermSt := {}
  mgt : MgtSt := {}
  fw : FwSt := {}
  /-- What the block has sent in the latest step, oldest first (the model's own field). -/
  out : List Output := []
  deriving DecidableEq, Repr

end Sys2Proof.Machine
end

