-- ==== Sys2Proof/Machine/Operands.lean ====
section
/-!
DEFINITION. Operands of commands that carry more than numbers: what a command's sender, or the environment it stands for, reports.
-/
namespace Sys2Proof.Machine
open Sys2Proof

/-- What D4 finds in a DIMM slot. -/
structure DimmFound where
  /-- SPD module serial number, manufacturer ID and manufacturing date. -/
  serial : Nat := 0
  maker : Nat := 0
  date : Nat := 0
  /-- 0 = 16, 1 = 24, 2 = 32 Gbit; 1, 2 or 4 ranks. -/
  density : Nat := 0
  ranks : Nat := 1
  /-- Declared rates, bit k for code k of DRM_GLB_STATUS.RATE. -/
  rates : Nat := 0
  /-- The SPD hub answers with a right CRC; the module is of the kind of R136; training succeeds. -/
  hubOk : Bool := true
  orgOk : Bool := true
  trains : Bool := true
  /-- The PMIC reports no fault since its status was cleared; the clock driver is still in its ignore state. -/
  pmicOk : Bool := true
  rcdIgnore : Bool := true
  deriving DecidableEq, Repr

/-- What D4 finds as a NAND die, with its channel and 16 * chip enable + LUN. -/
structure DieFound where
  channel : Nat
  lun : Nat
  pageSize : Nat := 16384
  spareBytes : Nat := 2048
  pagesPerBlock : Nat := 0
  planes : Nat := 4
  blocks : Nat := 0
  /-- Physical blocks marked bad by the vendor, ascending. -/
  bad : List Nat := []
  peRated : Nat := 0
  /-- The parameter page reads and declares what R204 asks; the label, if any, is this unit's with the Chart's digest. -/
  paramsOk : Bool := true
  labelOk : Bool := true
  deriving DecidableEq, Repr

/-- Operations of a NAND die with their member timeouts (R220). -/
inductive NandOp where
  | read
  | program
  | erase
  deriving DecidableEq, Repr

/-- What the medium answers to a raw read. -/
inductive RawAnswer where
  | data (bytes : List Byte)
  | uncorrectable
  | timeout
  deriving DecidableEq, Repr

/-- What does not read or verify in flash at D5: the local area of each replica die, its superblock, its stripe-journal records whose CHECK
fails (by RECORD_SEQ), save headers (by generation), completion marks (generation and die), chunk headers (generation and INDEX), and units of
torn stripes (stripe and slot) (R194, R196, R216, R218). -/
structure FlashMedia where
  area0 : Bool := false
  area1 : Bool := false
  sb0 : Bool := false
  sb1 : Bool := false
  recs0 : List Nat := []
  recs1 : List Nat := []
  headers : List Nat := []
  marks : List (Nat × Nat) := []
  chunks : List (Nat × Nat) := []
  units : List (Nat × Nat) := []
  deriving DecidableEq, Repr

/-- The IDE streams of a port: the link stream of CXL.io, and CXL.cachemem. -/
inductive IdeStream where
  | io
  | mem
  deriving DecidableEq, Repr

/-- How a programming run ends: whole; cut after a number of fuse bits by a Dusk or a reset (R368); or with a bit that fails to verify.
See assumption 90 (DESIGN CHOICE). -/
inductive FuseRun where
  | whole
  | cut (bits : Nat)
  | fails
  deriving DecidableEq, Repr

/-- JTAG instructions. -/
inductive TapInstr where
  | idcode
  | bypass
  | samplePreload
  | extest
  | clamp
  | highz
  /-- Internal scan and core debug. -/
  | internalScan
  | coreDebug
  deriving DecidableEq, Repr

/-- Frames that are discarded (Table 11-12). -/
inductive EthDiscard where
  /-- A check of R295 fails. -/
  | malformed
  /-- A codeword of a port that its FEC cannot correct, so that the frame's FCS is wrong (Table 11-18). -/
  | fec (port : Nat)
  /-- PAUSE, PFC or another MAC control frame. -/
  | macControl
  /-- ICMPv6 other than Neighbour Solicitation. -/
  | icmp
  deriving DecidableEq, Repr

/-- REPLAY_CACHE_ECC: an uncorrectable word of an engine's replay cache, or of its segment table (R319). -/
inductive OrbEcc where
  /-- A word of the context cache or the key cache with a parity error (R300, R319). -/
  | context (queue : Nat)
  | key (index : Nat)
  | replay (engine : Nat)
  | segment (queue msgId : Nat)
  deriving DecidableEq, Repr

/-- What a port-class reset resets (Table 0-5): a port by conventional or hot reset or link disable, or one logical device. -/
inductive PortReset where
  | conventional (port : Nat)
  | hot (port : Nat)
  | linkDisable (port : Nat)
  | functionLevel (ld : Nat)
  | cxl (ld : Nat)
  deriving DecidableEq, Repr

/-- What the peer's two TRAIN frames hold (R264): its challenge, PAIR_TAG, identity key, Chart digest and X448 public key, and its signature. -/
structure TrainPeer where
  challenge : List Byte := []
  pairTag : Nat
  key : List Byte
  digest : BitVec 512
  share : List Byte
  sig : List Byte := []
  deriving DecidableEq, Repr

/-- A GRANT (Table 10-4). -/
structure Grant where
  unit : List Byte
  pairTag : Nat
  half : Nat
  expiry : Nat
  leaseNo : Nat := 0
  /-- COLD opening epoch; none for all ones. -/
  epoch : Option Nat := none
  force : Bool := false
  deriving DecidableEq, Repr

/-- What is wrong with an arbiter message (Table 10-9). -/
inductive ArbFault where
  /-- CRC or framing error. -/
  | crc
  /-- Unknown TYPE. -/
  | unknownType
  deriving DecidableEq, Repr

/-- What a register write may meet outside the register: the media, a programming run of fuses, the twin's copy of a frozen channel's failing
line (R162), and pins that stay asserted with their locations (R412). -/
structure RegEnv where
  phys : Phys := {}
  run : FuseRun := .whole
  twin : Option Line := none
  pins : List (Nat × W64) := []
  deriving DecidableEq, Repr

/-- Fields of a logical device's configuration space that a write reaches and this manual names (R84, R88, R111). -/
inductive CfgReg where
  /-- D0 or D3hot. -/
  | powerState
  | bar0
  | memSpace
  | msixEnable
  deriving DecidableEq, Repr

/-- Where a REGISTER_WRITE goes: the management space, the window of a logical device with an access size, or its
configuration space. -/
inductive RegTarget where
  | mgmt (addr : Nat)
  | ld (n off size : Nat)
  | cfg (n : Nat) (reg : CfgReg)
  deriving DecidableEq, Repr

end Sys2Proof.Machine
end

