-- ==== Sys2Proof/Syntax.lean ====
section
/-!
DEFINITION. The commands of the block: one constructor for each row of the opcode table (spec/opcode_table.json), with the operands that the row's
sender gives, or that the medium, a pin or a timer reports. `phys` is what the media answer while the command's work runs (assumption 2).
-/
namespace Sys2Proof

/-- A command. -/
inductive Instr where
  /-- AON_POWER_UP: Always-on power returns: power-on reset of everything, count starts at the floor, and the straps are sampled. (R9, R64, R65, R82, R333, R397, R439, R440, R474, R487, R501) -/
  | aonPowerUp (straps : Nat)
  /-- AON_POWER_LOSS: Always-on power falls below 0.74 V for 2 µs: the RETAIN rails fall and nothing further is recorded. (R384, R489, R503) -/
  | aonPowerLoss
  /-- REGISTER_WRITE: A write to a register that has no row of its own is applied in arrival order under the access rules. (R2, R7, R8, R20, R247, R373, R477, R479, R480) -/
  | registerWrite (env : Machine.RegEnv) (target : Machine.RegTarget) (value : W64)
  /-- REGISTER_ACCESS_VIOLATION: A narrow or misaligned management access reads all ones, writes nothing and is recorded in the Almanac. (R6) -/
  | registerAccessViolation (read : Bool)
  /-- PORT_RESET_BEGIN: PERST_N assertion, hot reset, link disable, FLR or CXL Reset begins: in-flight work of the port or logical device is settled and its queues, windows and pages are reset. (R9, R113, R115, R253, R256, R322, R350) -/
  | portResetBegin (phys : Machine.Phys) (reset : Machine.PortReset)
  /-- PORT_RESET_END: The port reset ends and the HP_LD_ registers are loaded again with live values. (R9, R111, R481) -/
  | portResetEnd (reset : Machine.PortReset)
  /-- LINK_DOWN: A host link goes down without a reset and the work in flight is settled as for a port reset. (R113) -/
  | linkDown (phys : Machine.Phys) (port : Nat)
  /-- LINK_TRAINED: A host port completes training at the highest allowed speed and width, with or without CXL in 256-byte flit mode. (R84, R85) -/
  | linkTrained (port : Nat) (speed : Nat) (width : Nat) (cxl : Bool)
  /-- RETRAIN: HP_CTRL.RETRAIN requests a link retrain and the port negotiates again. (R85) -/
  | retrain (port : Nat)
  /-- DISABLE: HP_CTRL.DISABLE holds the port in electrical idle. (R86) -/
  | disable (phys : Machine.Phys) (port : Nat) (on : Bool)
  /-- FLIT_CRC_ERROR: A flit CRC or FEC error causes link-layer replay, and a retrain after replay exhaustion. (R114) -/
  | flitCrcError (port : Nat) (exhausted : Bool)
  /-- FIRMWARE_RESTART: A firmware-class reset restarts the management cores while the data and management planes run on. (R9, R25, R52, R59, R63, R253, R322, R350, R458) -/
  | firmwareRestart
  /-- CORES_RUNNING: The management cores report running, ending the firmware restart and releasing waiting work. (R25, R52, R59, R223, R473) -/
  | coresRunning (phys : Machine.Phys)
  /-- CORES_START_TIMEOUT: The cores do not report running within 2 s: one further reset, then RELEASE in a pair or paused work in Solo. (R27, R473) -/
  | coresStartTimeout
  /-- SYS_RST_N_ASSERT: SYS_RST_N assertion outside a Dusk: discard unaccepted requests, release the lease, flush, self-refresh, WARM record, reset. (R9, R63, R115, R129, R135, R161, R171, R203, R235, R257, R292, R322, R328, R333, R370, R383, R388, R392, R393, R408, R438, R472, R493) -/
  | sysRstAssert (phys : Machine.Phys)
  /-- SYS_RST_N_DEASSERT: SYS_RST_N deasserts and a new Dawn begins at D0. (R364, R393, R487, R493) -/
  | sysRstDeassert (straps : Nat)
  /-- HOST_WRITE: A CXL.mem 64-byte write half is gated, homed, checked and accepted into Halo or the merge buffer, and its completion is sent at the mirror-class point. (R10, R16, R17, R21, R42, R73, R87, R91, R96, R97, R99, R100, R104, R105, R106, R114, R116, R120, R122, R123, R124, R125, R126, R128, R130, R131, R132, R134, R140, R161, R162, R166, R172, R175, R176, R183, R198, R236, R239, R241, R246, R259, R260, R268, R272, R274, R335, R336, R344, R345, R451) -/
  | hostWrite (phys : Machine.Phys) (ld : Nat) (tag : Nat) (dpa : Nat) (data : Half) (poison : Bool)
  /-- HOST_READ: A CXL.mem read is homed and answered from Halo, presence, DRAM, staging or a Transit slot, with poison when the line cannot be delivered intact. (R10, R17, R42, R87, R91, R96, R97, R99, R100, R104, R105, R106, R114, R116, R120, R123, R124, R127, R128, R130, R131, R132, R133, R134, R140, R141, R144, R145, R146, R147, R148, R149, R152, R158, R159, R160, R161, R163, R164, R166, R170, R198, R213, R230, R236, R238, R239, R240, R241, R246, R252, R259, R260, R335, R336, R451, R452) -/
  | hostRead (phys : Machine.Phys) (ld : Nat) (tag : Nat) (dpa : Nat) (exclusive : Bool)
  /-- BIRSPI: A BIRspI answer arrives and the waiting request proceeds when every holder has answered; a stray answer is discarded. (R97, R114) -/
  | biRspI (phys : Machine.Phys) (holder : Nat) (granule : Nat)
  /-- BI_TIMEOUT: A logical device does not answer a BISnp within BI_TIMEOUT and is treated as having answered. (R98, R114) -/
  | biTimeout (phys : Machine.Phys) (holder : Nat) (granule : Nat)
  /-- STREAM_IDLE_EXPIRE: A streaming region's 16 µs idle timer expires and the region leaves streaming state. (R126) -/
  | streamIdleExpire (hemi : Nat) (granule : Nat)
  /-- MERGE_WINDOW_EXPIRE: A merge-buffer entry's 2 µs window expires and the entry closes, by read-modify-write when it holds one half. (R106, R123, R124, R144, R145, R146, R147) -/
  | mergeWindowExpire (phys : Machine.Phys) (line : Nat)
  /-- HELD_HALF_ACCEPT: A merge-buffer entry frees and the oldest half held for lack of an entry is accepted. (R122) -/
  | heldHalfAccept (phys : Machine.Phys)
  /-- FILL_VICTIM_ACCEPTED: The DRAM write queue accepts a dirty Halo victim and the waiting fill proceeds. (R127, R144, R145, R146) -/
  | fillVictimAccepted (phys : Machine.Phys)
  /-- FATAL_FLUSH_DONE: The flush after a fatal parity error ends: Logbook, FATAL, then RELEASE in a pair or resumed service in Solo. (R132, R133, R148, R452) -/
  | fatalFlushDone (phys : Machine.Phys)
  /-- HDM_DECODER_COMMIT: Host software commits an HDM decoder and the controller commits it or refuses with Error Not Committed. (R92, R114) -/
  | hdmDecoderCommit (ld : Nat) (decoder : Nat) (base : Nat) (size : Nat) (ways : Nat) (gran : Nat) (bi : Bool)
  /-- INITIATE_DYNAMIC_CAPACITY_ADD: The FM API requests capacity and the controller chooses offsets and offers extents with an event record. (R94, R504) -/
  | initiateDcAdd (transport : Nat) (session : Option Nat) (ld : Nat) (region : Nat) (length : Nat) (tag : Nat)
  /-- ADD_DYNAMIC_CAPACITY_RESPONSE: Host software accepts offered extents, declining the rest, or is rejected with Invalid Input. (R94, R114) -/
  | addDcResponse (ld : Nat) (accept : List (Nat × Nat))
  /-- DC_OFFER_TIMEOUT: An offer unanswered for 60 s is withdrawn and its capacity freed. (R94) -/
  | dcOfferTimeout (ld : Nat) (base : Nat)
  /-- RELEASE_DYNAMIC_CAPACITY: Host software releases an extent, zeroing untagged extents when the last holder releases. (R95, R114) -/
  | releaseDc (ld : Nat) (base : Nat) (size : Nat)
  /-- INITIATE_DYNAMIC_CAPACITY_RELEASE: The appliance manager forces a release and the extent becomes unmapped at once. (R95) -/
  | initiateDcRelease (transport : Nat) (session : Option Nat) (ld : Nat) (base : Nat) (size : Nat) (forced : Bool)
  /-- GPF_PHASE1: Global Persistent Flush Phase 1 is acknowledged at once. (R101) -/
  | gpfPhase1 (port : Nat)
  /-- GPF_PHASE2: Global Persistent Flush Phase 2 arrives and waits for the twin to acknowledge earlier HOT writes. (R101) -/
  | gpfPhase2 (port : Nat)
  /-- GPF_PHASE2_COMPLETE: Every earlier HOT write is acknowledged and Phase 2 completes. (R101) -/
  | gpfPhase2Complete (port : Nat)
  /-- IDENTIFY_MEMORY_DEVICE: Mailbox Identify reports zero volatile capacity and the persistent span of the logical device. (R92) -/
  | identifyMemoryDevice (ld : Nat)
  /-- GET_HEALTH_INFO: Mailbox Get Health Info reports health including the Dirty Shutdown Count. (R102) -/
  | getHealthInfo (ld : Nat)
  /-- GET_EVENT_RECORDS: Mailbox reads event records from one of the five logs. (R108) -/
  | getEventRecords (ld : Nat) (log : Machine.LogKind)
  /-- CLEAR_EVENT_RECORDS: Mailbox clears event records from a log. (R108) -/
  | clearEventRecords (ld : Nat) (log : Machine.LogKind) (count : Nat)
  /-- GET_SUPPORTED_LOGS: Mailbox lists the supported logs. (R109) -/
  | getSupportedLogs (ld : Nat)
  /-- GET_LOG: Mailbox returns a log such as the command effects log. (R109) -/
  | getLog (ld : Nat) (log : Nat)
  /-- SET_TIMESTAMP: Mailbox Set Timestamp is accepted and used for no scheduling. (R109) -/
  | setTimestamp (ld : Nat) (time : Nat)
  /-- GET_MULTI_HEADED_INFO: Mailbox or FM API returns multi-headed device information. (R87) -/
  | getMultiHeadedInfo (ld : Nat)
  /-- GET_POISON_LIST: Mailbox reports poisoned lines at 128-byte granularity, up to 4,096 entries. (R107) -/
  | getPoisonList (ld : Nat) (dpa : Nat) (length : Nat)
  /-- INJECT_POISON: Mailbox marks a line poisoned, refused in SEALED without INJECT_POISON permission. (R107, R467) -/
  | injectPoison (phys : Machine.Phys) (ld : Nat) (dpa : Nat)
  /-- CLEAR_POISON: Mailbox clears a line's poison mark with clean data. (R106, R107) -/
  | clearPoison (phys : Machine.Phys) (ld : Nat) (dpa : Nat) (data : Half)
  /-- SCAN_MEDIA: Mailbox starts a background media scan over a range of the logical device's view. (R107) -/
  | scanMedia (ld : Nat) (dpa : Nat) (length : Nat)
  /-- SCAN_MEDIA_DONE: A background media scan completes. (R107) -/
  | scanMediaDone (ld : Nat)
  /-- MAILBOX_UNSUPPORTED: An unsupported or unknown mailbox opcode returns Unsupported. (R87, R109, R110) -/
  | mailboxUnsupported (ld : Nat) (opcode : Nat) (input : List Byte)
  /-- GET_REGION_MAP: Vendor mailbox command returns the regions whose masks include the logical device. (R110) -/
  | getRegionMap (ld : Nat) (start : Nat) (count : Nat) (inputLen : Nat)
  /-- GET_PERSISTENCE_STATUS: Vendor mailbox command returns dirty level, ceiling, governor and hold-up state. (R202) -/
  | getPersistenceStatus (ld : Nat) (inputLen : Nat)
  /-- GET_RESTORE_STATUS: Vendor mailbox command returns restore progress for the unit. (R110) -/
  | getRestoreStatus (ld : Nat) (inputLen : Nat)
  /-- GET_EPOCH_HISTORY: Vendor mailbox command returns sealed, clean and lost epoch information. (R110) -/
  | getEpochHistory (ld : Nat) (inputLen : Nat)
  /-- GET_TOPOLOGY_STATUS: Vendor mailbox command returns mode, unit, lease and Eclipse information. (R110) -/
  | getTopologyStatus (ld : Nat) (inputLen : Nat)
  /-- GET_CHART_IDENTITY: Vendor mailbox command returns SERIAL, TAG and digest of the Chart in force. (R110) -/
  | getChartIdentity (ld : Nat) (inputLen : Nat)
  /-- MAILBOX_WRITE_BUSY: A mailbox register or payload write while the doorbell is set is ignored as a violation. (R114) -/
  | mailboxWriteBusy (ld : Nat)
  /-- WINDOW_VIOLATION: A logical-device window access to a reserved area or of a wrong size reads all ones and writes nothing. (R111, R112, R114, R327, R349, R353, R481) -/
  | windowViolation (ld : Nat) (offset : Nat) (read : Bool)
  /-- IDE_KEY_PROG: CXL IDE key management programs IDE keys over an SPDM session. (R104) -/
  | ideKeyProg (transport : Nat) (session : Nat) (port : Nat) (stream : Machine.IdeStream)
  /-- IDE_K_SET_GO: IDE key management activates programmed keys, re-enabling CXL.mem after a failure. (R104) -/
  | ideKSetGo (transport : Nat) (session : Nat) (port : Nat) (stream : Machine.IdeStream)
  /-- IDE_K_SET_STOP: IDE key management stops a key set. (R104) -/
  | ideKSetStop (transport : Nat) (session : Nat) (port : Nat) (stream : Machine.IdeStream)
  /-- IDE_QUERY: IDE key management query returns the port's IDE capabilities. (R104) -/
  | ideQuery (transport : Nat) (session : Nat) (port : Nat)
  /-- OPEN: CHT_STAGE_CMD OPEN empties the staging buffer and enters RECEIVING. (R52) -/
  | openStaging
  /-- STAGE_DATA: A CHT_STAGE_DATA write appends 8 Chart bytes, or sets SEQ_ERR outside RECEIVING or beyond 1 MiB. (R52) -/
  | stageData (value : W64)
  /-- VERIFY: CHT_STAGE_CMD VERIFY starts validation of the received Chart. (R2, R3, R29, R30, R31, R32, R34, R35, R36, R37, R39, R41, R43, R44, R45, R46, R47, R51, R52, R72, R93, R118, R119, R201, R209, R233, R254, R261, R289, R324, R334, R351, R381, R407, R413, R428, R499, R500) -/
  | verify
  /-- VERIFY_DONE: Validation ends with VERIFIED or REJECTED with a reason. (R49) -/
  | verifyDone
  /-- COMMIT_DAWN: CHT_STAGE_CMD COMMIT_DAWN programs the staged slot and its pending mark. (R50, R52, R459) -/
  | commitDawn
  /-- COMMIT_DAWN_DONE: The staged slot is programmed, verified and marked pending, reaching PENDING_DAWN. (R50, R396) -/
  | commitDawnDone
  /-- COMMIT_LIVE: CHT_STAGE_CMD COMMIT_LIVE checks live conditions and either rejects or makes the Chart active and sets APPLYING. (R41, R49, R50, R51, R52, R55, R56, R57, R58, R59, R121, R324, R350, R459) -/
  | commitLive
  /-- DISCARD: CHT_STAGE_CMD DISCARD empties the buffer and clears any pending mark. (R52) -/
  | discard
  /-- LIVE_SWITCH: At the switch epoch boundary the applier writes every changed section that needs no background work. (R11, R20, R35, R48, R57, R58, R60, R121, R194, R201, R228, R253, R293, R324, R350, R407, R413, R428, R459) -/
  | liveSwitch (phys : Machine.Phys)
  /-- LIVE_BACKGROUND_SWITCH: A change whose background work completed switches at the next epoch boundary, clearing APPLYING after the last. (R57, R270) -/
  | liveBackgroundSwitch (phys : Machine.Phys)
  /-- NEAR_RESHAPE_HOLD: Dirty data of affected sets falls to 64 MiB and writes to those sets are held. (R60) -/
  | nearReshapeHold
  /-- NEAR_RESHAPE_SWITCH: Dirty data reaches zero: the new interleave loads, pages turn PENDING and held writes are released. (R11, R60) -/
  | nearReshapeSwitch (phys : Machine.Phys)
  /-- MERIDIAN_TICK: A MER_TICK edge is accepted and advances the count, or is ignored as a glitch. (R23, R64, R66, R81, R502) -/
  | meridianTick (gap : Nat)
  /-- TICK_LOSS: No edge within 4 × TICK_NS: the source is lost and dead reckoning begins. (R66, R77, R81, R455) -/
  | tickLoss
  /-- DEAD_RECKONING_TICK: In dead reckoning the count advances every TICK_NS / 10 reference cycles. (R23, R64, R77, R78, R280, R455, R502) -/
  | deadReckoningTick
  /-- MER_FRAME: A decoded MER_FRAME frame is validated and confirms, disagrees, acquires or re-aligns the count. (R67, R68, R69, R76, R79, R81, R456, R495, R502) -/
  | merFrame (cells : List (Bool × Bool)) (since : Nat)
  /-- FRAME_MISSING: No frame within 768 ticks of its anchor edge; the count continues. (R68, R81) -/
  | frameMissing
  /-- SLEW_ADJUST: On every 1,024th tick while slewing the count advances by 2 or holds, becoming LOCKED at zero offset. (R64, R78, R79) -/
  | slewAdjust
  /-- MERIDIAN_WAIT_TIMEOUT: The D6 Meridian wait ends without lock and Dawn proceeds in dead reckoning. (R69) -/
  | meridianWaitTimeout
  /-- PTP_SYNC: A PTP Sync is timestamped and disciplines the count, toward lock or an excursion. (R70, R71, R81) -/
  | ptpSync (header : Machine.PtpHdr) (time : Int) (twoStep : Bool)
  /-- PTP_FOLLOW_UP: A two-step Follow_Up supplies the precise origin timestamp. (R70) -/
  | ptpFollowUp (header : Machine.PtpHdr) (time : Int)
  /-- PTP_ANNOUNCE: An Announce feeds the best master clock algorithm. (R70) -/
  | ptpAnnounce (header : Machine.PtpHdr) (rank : Nat)
  /-- PTP_DELAY_RESP: A Delay_Resp or Pdelay response completes a path-delay measurement. (R70) -/
  | ptpDelayResp (header : Machine.PtpHdr) (peer : Bool) (seq : Nat) (delay : Int)
  /-- PTP_LOSS: announceReceiptTimeout or four missed Sync intervals: the source is lost. (R71, R81) -/
  | ptpLoss
  /-- PTP_DELAY_REQ_SEND: The time receiver sends a delay request or peer-delay request. (R70) -/
  | ptpDelayReqSend
  /-- EPOCH_BOUNDARY: The count reaches a multiple of L and a new epoch begins, with per-epoch scrub, patrol and governor work. (R56, R73, R76, R147, R153, R159, R177, R179, R226, R231) -/
  | epochBoundary (phys : Machine.Phys)
  /-- EPOCH_SEAL: The count reaches (E + 1) × L + 2 and epoch E is sealed. (R73) -/
  | epochSeal
  /-- HOURLY_RECORD: Every hour the supervisor records the count floor, governor credit and changed cipher slot records. (R65, R181, R343) -/
  | hourlyRecord
  /-- REFRESH_BEAT: The refresh beat drains, precharges and refreshes every rank of every channel, with RFM where needed. (R154, R156, R157) -/
  | refreshBeat
  /-- SPD_TEMP_POLL: Every 16 ms DIMM hub temperatures are read, switching the hot interval and channel idling. (R155, R406, R461) -/
  | spdTempPoll (reads : Machine.SMap Int)
  /-- READ_AGE_LIMIT: A read waiting 600 ns goes ahead of all younger commands. (R158) -/
  | readAgeLimit
  /-- CA_PARITY_ALERT: A DIMM ALERT_N parity alert replays the command window and freezes the channel after two replays. (R159, R160, R170, R461) -/
  | caParityAlert (channel : Nat) (replays : Nat) (command : Nat) (location : W64) (addr : Nat)
  /-- THAW: DRM_CH_CMD THAW rewrites the failing line and dropped lines, restarts the channel and starts REMOTE copies. (R128, R148, R161, R162, R171, R453) -/
  | thaw (phys : Machine.Phys) (channel : Nat) (twin : Option Line)
  /-- MARK: DRM_CH_CMD MARK marks a device position. (R152, R171) -/
  | mark (channel : Nat) (dimm : Nat) (rank : Nat) (position : Nat)
  /-- UNMARK: DRM_CH_CMD UNMARK removes a device mark. (R152) -/
  | unmark (channel : Nat) (dimm : Nat) (rank : Nat) (position : Nat)
  /-- DIAG_READ: DRM_CH_CMD DIAG_READ reads a raw burst of a frozen channel into DRM_FRZ_RAWi. (R162, R171) -/
  | diagRead (phys : Machine.Phys) (channel : Nat)
  /-- REMOTE_PAGE_COPY_DONE: A REMOTE page's copy from the twin lands and the page becomes RESIDENT. (R162) -/
  | remotePageCopyDone (phys : Machine.Phys) (page : Nat) (lines : Machine.SMap (Line × Bool))
  /-- ZERO_FILL_DONE: A ZERO page's fill completes and it becomes RESIDENT. (R165, R166) -/
  | zeroFillDone (phys : Machine.Phys) (page : Nat)
  /-- WRITEBACK_ISSUE: The write-back engine takes a RESIDENT dirty page under the governor state and issues its program. (R60, R132, R175, R182, R191, R195, R199, R212, R215, R242) -/
  | writebackIssue (phys : Machine.Phys)
  /-- WRITEBACK_PROGRAM_DONE: A home-image program completes and the page's dirty bit clears unless redirtied. (R175, R214) -/
  | writebackProgramDone (phys : Machine.Phys) (page : Nat)
  /-- GOVERNOR_WINDOW: Every GOV_EPOCHS epochs the credit bucket is refilled. (R181, R182) -/
  | governorWindow
  /-- THROTTLE_RELEASE: The release test passes and the oldest held clean-page write is accepted. (R183) -/
  | throttleRelease (phys : Machine.Phys)
  /-- THROTTLE_OVERDRAW: The oldest held write has waited 1 ms and one page of write-back is issued beyond the credit. (R183) -/
  | throttleOverdraw (phys : Machine.Phys)
  /-- HOLDUP_LOW_N_ASSERT: HOLDUP_LOW_N assertion drops the ceiling to the degraded value. (R177, R184, R493) -/
  | holdupLowAssert
  /-- HOLDUP_LOW_N_DEASSERT: HOLDUP_LOW_N deasserts and the 1 s timer starts. (R184) -/
  | holdupLowDeassert
  /-- HOLDUP_RESTORE: After 1 s deasserted, the ceiling returns to the normal value. (R177, R184) -/
  | holdupRestore
  /-- PWR_FAIL_N_ASSERT: Filtered PWR_FAIL_N assertion fires the Dusk trigger from D7 or is an off request before D7. (R24, R59, R65, R83, R112, R129, R161, R181, R186, R200, R253, R322, R343, R350, R367, R379, R388, R390, R419, R427, R430, R442, R443, R444, R446, R447, R472, R493) -/
  | pwrFailAssert
  /-- DUSK_FLUSH_DONE: Halo and the merge buffer reach DRAM and the save header, dirty map image and page save follow. (R54, R129, R186, R187, R190, R191, R192, R193, R422, R444, R445, R449) -/
  | duskFlushDone (phys : Machine.Phys)
  /-- SAVE_COMPLETE: The completion mark is written and the save hands over to partial-array self-refresh and rail shutdown. (R167, R186, R188, R189, R193, R384, R385, R419, R443) -/
  | saveComplete (phys : Machine.Phys)
  /-- PWR_FAIL_RETURN: PWR_FAIL_N stays deasserted 10 ms: during a Dusk before step 9 service resumes without restore, otherwise power-up conditions are re-evaluated. (R79, R83, R189, R194, R378, R385, R442, R443) -/
  | pwrFailReturn (phys : Machine.Phys)
  /-- RESTORE_DONE: A PENDING page's restore lands as journal, home or lost and its held touch is released. (R60, R108, R191, R198) -/
  | restoreDone (phys : Machine.Phys) (page : Nat) (bad : Nat)
  /-- BACKGROUND_RESTORE: The background restore issues the next PENDING page in its order. (R198) -/
  | backgroundRestore
  /-- GENERATION_DEATH: A journal generation holds no newest copy; the superblock is written and its blocks erased. (R179, R194, R199) -/
  | generationDeath (generation : Nat)
  /-- NAND_READ_DONE: A NAND page read completes, stepping read-retry levels or marking the page unreadable. (R206, R225, R230, R461) -/
  | nandReadDone (stripe : Nat) (position : Nat) (failing : Nat) (suspended : Bool)
  /-- NAND_PROGRAM_DONE: A NAND program completes, or its FAIL status retires the block. (R187, R208, R210, R213, R214, R217, R390, R461) -/
  | nandProgramDone (phys : Machine.Phys) (stripe : Nat) (position : Nat) (ok : Bool)
  /-- NAND_ERASE_DONE: A NAND erase completes, or its FAIL status retires the block. (R180, R208, R461) -/
  | nandEraseDone (zone : Nat) (failed : Option Nat)
  /-- MEMBER_TIMEOUT: A NAND operation exceeds its member timeout and the die is retired. (R180, R219, R220, R229, R390, R446, R461) -/
  | memberTimeout (die : Nat) (op : Machine.NandOp)
  /-- STRIPE_PAD_TIMEOUT: A TLC stripe not filled within one epoch is completed with padding units. (R212) -/
  | stripePadTimeout
  /-- STRIPE_JOURNAL_COMMIT: Collected stripe-journal records are programmed to each replica after up to 50 µs. (R217) -/
  | stripeJournalCommit
  /-- RECLAIM: Free TLC zones fall to 6 and the zone with fewest current units is relocated and erased. (R215, R231) -/
  | reclaim
  /-- REPLICA_REPLACE: Within 1 s of a replica die's retirement a new replica is written and marked valid. (R219) -/
  | replicaReplace
  /-- START_REBUILD: NVF_CMD START_REBUILD starts rebuilding lost pages into spare positions. (R223) -/
  | startRebuild
  /-- REBUILD_STRIPE: The rebuild reconstructs a stripe's lost page and programs it at its spare position. (R210, R222, R223, R224) -/
  | rebuildStripe
  /-- ADMIT: NVF_CMD ADMIT erases a retired die and makes it a member of a new generation. (R207, R221) -/
  | admitDie (die : Nat)
  /-- RETIRE: NVF_CMD RETIRE retires the named die without a fault report. (R180, R505) -/
  | retire (die : Nat)
  /-- RAW_READ: NVF_CMD RAW_READ starts a raw read of a NAND page. (R221) -/
  | rawRead
  /-- RAW_READ_DONE: A raw read completes into NVF_RAW_DATA with its result. (R232, R235) -/
  | rawReadDone (answer : Machine.RawAnswer)
  /-- PATROL_PAUSE: NVF_CMD PATROL_PAUSE pauses the patrol. (R226) -/
  | patrolPause
  /-- PATROL_RESUME: NVF_CMD PATROL_RESUME resumes the patrol. (R226) -/
  | patrolResume
  /-- PATROL_STRIPE: The patrol reads a closed stripe, checks parity, attributes any error and relocates. (R210, R225, R227) -/
  | patrolStripe (unread : List Nat) (errs : List (Nat × Nat × Nat))
  /-- PATROL_DAILY: Once a day firmware recomputes STRIPES_PER_EPOCH. (R226) -/
  | patrolDaily
  /-- RESHAPE_COMPLETE: No older-generation zone holds a current unit; older generations are dropped at the next epoch boundary. (R228) -/
  | reshapeComplete
  /-- STAGING_FILL_LAND: A staging fill lands, the entry becomes CLEAN, ROA references clear and held requests are released. (R237, R239, R240, R241, R244, R245) -/
  | stagingFillLand (phys : Machine.Phys) (page : Nat) (bad : List Nat)
  /-- FAR_WRITEBACK_DONE: A Far write-back program completes and the entry becomes CLEAN with the map updated. (R241, R242) -/
  | farWritebackDone (phys : Machine.Phys) (page : Nat)
  /-- TRN_LD_PROMOTE: A logical device promotes a run of Far pages, taking references and issuing fills. (R244, R245) -/
  | trnPromote (phys : Machine.Phys) (ld : Nat) (dpa : Nat) (count : Nat)
  /-- TRN_LD_EVICT: A logical device evicts a run of Far pages, clearing or deferring its references. (R244, R245) -/
  | trnEvict (phys : Machine.Phys) (ld : Nat) (dpa : Nat) (count : Nat)
  /-- START: TRN_W_CTRL.START makes an IDLE or DONE window RUNNING with empty slots. (R248) -/
  | trnStart (ld : Nat) (area : Nat)
  /-- STOP: TRN_W_CTRL.STOP releases every slot and makes the window IDLE. (R251, R253) -/
  | trnStop (phys : Machine.Phys) (ld : Nat) (area : Nat)
  /-- TRN_W_RELEASE: The owner releases a slot, cancelling any fill and poisoning held reads. (R251) -/
  | trnRelease (phys : Machine.Phys) (ld : Nat) (area : Nat) (slot : Nat)
  /-- TRANSIT_FILL_START: A slot is EMPTY and the previous fill has started, so the next fill reads its descriptor and starts or fails. (R21, R248, R249, R336) -/
  | transitFillStart (phys : Machine.Phys) (window : Nat)
  /-- TRANSIT_PAGE_LAND: A Transit page lands, releasing held reads and making the slot READY when complete. (R248, R249) -/
  | transitPageLand (phys : Machine.Phys) (window : Nat) (slot : Nat) (bad : List Nat)
  /-- TRANSIT_DUE: The count reaches a slot's DUE and the slot is released. (R251) -/
  | transitDue (phys : Machine.Phys) (window : Nat) (slot : Nat)
  /-- TRANSIT_STALL_CEILING: A held slot-alias read reaches STALL_US and completes with poison. (R252) -/
  | transitStallCeiling (phys : Machine.Phys) (window : Nat) (slot : Nat)
  /-- CRAILANIL_TRAIN: A TRAIN frame round is exchanged, and checks pass to key the half-link or fail it. (R62, R263, R264, R290) -/
  | crailanilTrain (link : Nat) (width : Nat) (peer : Machine.TrainPeer)
  /-- TRAIN_TIMEOUT: No twin trains within TRAIN_MS at D6 and the default Chart runs Solo. (R62) -/
  | trainTimeout
  /-- CRAILANIL_REKEY: After 2^31 frames the sender repeats the X448 exchange and toggles KEY_PHASE. (R264) -/
  | crailanilRekey (link : Nat) (share : List Byte)
  /-- CRN_ACK: An ACK frame frees replay-buffer frames up to its SEQ. (R266) -/
  | crnAck (link : Nat) (seq : Nat)
  /-- CRN_NAK: A NAK frame resends from its SEQ, retraining after eight resends. (R266, R290) -/
  | crnNak (link : Nat) (seq : Nat)
  /-- CRN_ACK_TIMER: The receiver sends an ACK at least every 2 µs while DATA arrives. (R266) -/
  | crnAckTimer (link : Nat)
  /-- HALF_LINK_DOWN: A half-link goes down and its traffic moves to the other half-link; both down makes the link DOWN. (R263) -/
  | halfLinkDown (phys : Machine.Phys) (link : Nat)
  /-- LINK_GRACE_EXPIRE: The link stays DOWN for LINK_GRACE_MS: the holder enters ALONE and the standby marks copies STALE. (R276) -/
  | linkGraceExpire (phys : Machine.Phys)
  /-- LINK_RETURN: The link returns and a compare-mode sync and COLD shipping resume. (R270, R276) -/
  | linkReturn (phys : Machine.Phys)
  /-- MIRROR_WRITE: The twin accepts a mirrored half into its merge buffer and answers MIRROR_ACK. (R261, R268, R336) -/
  | mirrorWrite (phys : Machine.Phys) (tag : Nat) (addr : Nat) (data : Half) (poison : Bool) (epoch : Nat)
  /-- MIRROR_ACK: The twin's acknowledgement releases the HOT write's completion. (R16, R268) -/
  | mirrorAck (phys : Machine.Phys) (tag : Nat)
  /-- MIRROR_ACK_TIMEOUT: No MIRROR_ACK within LINK_GRACE_MS with the link up is treated as link DOWN. (R290) -/
  | mirrorAckTimeout (phys : Machine.Phys)
  /-- FWD_READ: A forwarded read is served by the holder or home unit and answered with FWD_DATA. (R259) -/
  | fwdRead (phys : Machine.Phys) (tag : Nat) (dpa : Nat) (ld : Nat)
  /-- FWD_WRITE: A forwarded write is served and answered with FWD_DONE. (R259) -/
  | fwdWrite (phys : Machine.Phys) (tag : Nat) (dpa : Nat) (ld : Nat) (data : Half) (poison : Bool)
  /-- FWD_DATA: Forwarded read data returns to the receiving unit and is sent to the host. (R259, R451) -/
  | fwdData (phys : Machine.Phys) (tag : Nat) (data : Half) (poison : Bool)
  /-- FWD_DONE: A forwarded write's completion returns and is sent to the host. (R259) -/
  | fwdDone (phys : Machine.Phys) (tag : Nat)
  /-- COLD_SHIP_START: A sealed epoch whose predecessors are shipped is shipped as COLD_PAGE messages and COLD_END. (R273) -/
  | coldShipStart (phys : Machine.Phys) (twinS : Nat)
  /-- COLD_PAGE: The twin receives a COLD page and programs it into its TLC log. (R212, R275) -/
  | coldPage (phys : Machine.Phys) (key : Nat) (epoch : Nat) (lines : Machine.PageLines)
  /-- COLD_END: The twin learns an epoch's delta is complete and answers COLD_ACK when it is durable. (R273, R275) -/
  | coldEnd (phys : Machine.Phys) (pages : Nat) (epoch : Nat)
  /-- COLD_ACK: The holder records S and frees the epoch's list entries and captures. (R273, R448) -/
  | coldAck (phys : Machine.Phys) (epoch : Nat)
  /-- SHIP_HOLD_RELEASE: A ship-list or capture entry frees and the oldest held write is accepted. (R274) -/
  | shipHoldRelease (phys : Machine.Phys)
  /-- SYNC_DIGEST: The standby compares a page digest and answers SYNC_MATCH. (R270) -/
  | syncDigest (phys : Machine.Phys) (page : Nat) (digest : Nat)
  /-- SYNC_PAGE: The standby writes a synced page into its DRAM. (R270) -/
  | syncPage (phys : Machine.Phys) (page : Nat) (stamp : Nat) (lines : List (Line × Bool))
  /-- SYNC_MATCH: The holder sends the page when digests differ and records divergence. (R270, R271) -/
  | syncMatch (phys : Machine.Phys) (page : Nat) (differ : Bool) (stamp : Nat)
  /-- HOT_SYNC_DONE: A HOT sync ends and the standby's copy is no longer STALE. (R270, R288) -/
  | hotSyncDone
  /-- SF_UPDATE: The twin updates its snoop filter to match the holder's. (R268) -/
  | sfUpdate (phys : Machine.Phys) (granule : Nat) (holders : Option Machine.Holders)
  /-- STATE: A STATE message carries the twin's roles, sealed epoch and copies, detecting a double holder. (R267, R270, R461) -/
  | twinState (phys : Machine.Phys) (roles : Nat) (sealedEpoch : Option Nat) (copies : List Nat)
  /-- STATE_TIMER: Every 100 µs the unit sends a STATE message. (R267) -/
  | stateTimer
  /-- SWITCH_EPOCH: A SWITCH_EPOCH message fixes the live switch epoch for both units. (R58) -/
  | switchEpoch (phys : Machine.Phys) (epoch : Nat)
  /-- CHART_CONFIRM: The twin confirms it holds a staged Chart of the same digest. (R56) -/
  | chartConfirm (phys : Machine.Phys) (digest : BitVec 512)
  /-- TWIN_VIOLATION: An authenticated message with unknown OP, wrong LEN or bad address, or a stray response, is discarded. (R290) -/
  | twinViolation (stray : Bool)
  /-- HEARTBEAT: Every HEARTBEAT_US the supervisor sends HEARTBEAT to the arbiter. (R278) -/
  | heartbeat
  /-- RENEW: The count reaches X − L/2 or a further HEARTBEAT_US passes and RENEW is sent. (R279) -/
  | renew (half : Nat)
  /-- FENCE: The count reaches the fence instant and the gates of the half close, beginning an Eclipse. (R21, R58, R83, R112, R258, R269, R280, R282, R283, R290, R350) -/
  | fence (half : Nat)
  /-- GRANT: A GRANT opens the gates, after the assumption steps when the unit was STANDBY, or is ignored or answered with STATUS. (R21, R62, R83, R110, R112, R253, R258, R279, R280, R282, R283, R284, R285, R286, R287, R290, R321, R448, R455, R457, R458) -/
  | grant (phys : Machine.Phys) (g : Machine.Grant)
  /-- REVOKE: REVOKE makes the holder fence and answer FENCE_ACK. (R269, R283, R285, R288, R290) -/
  | revoke (half : Nat)
  /-- STATUS_QUERY: An arbiter STATUS query is answered with STATUS. (R278, R450) -/
  | statusQuery (half : Nat)
  /-- ARBITER_MESSAGE_INVALID: An arbiter message with CRC, framing or unknown TYPE error is discarded. (R290) -/
  | arbiterMessageInvalid (why : Machine.ArbFault)
  /-- AUDIT: TWN_CMD AUDIT starts a HOT sync at the holder. (R270, R292) -/
  | audit
  /-- RELEASE: TWN_CMD RELEASE fences the half and sends RELEASE to the arbiter. (R269, R283, R285, R292) -/
  | twnRelease (half : Nat)
  /-- ETH_PORT_UP: An Ethernet port comes up and sends an unsolicited Neighbour Advertisement. (R70, R293, R294) -/
  | ethPortUp (port : Nat) (cr : Bool)
  /-- NEIGHBOUR_SOLICITATION: A Neighbour Solicitation for the unit's address is answered. (R294) -/
  | neighbourSolicitation (port : Nat) (target : Nat) (source : Nat)
  /-- ETH_FRAME_DISCARD: A malformed frame, MAC control frame or other ICMPv6 message is dropped. (R293, R294, R295, R296, R325) -/
  | ethFrameDiscard (kind : Machine.EthDiscard)
  /-- DOORBELL: ORB_LD_DBq publishes a new send-ring tail and the queue starts its descriptors. (R305, R306, R307, R309, R327) -/
  | orbDoorbell (phys : Machine.Phys) (ld : Nat) (queue : Nat) (tail : Nat)
  /-- SEGMENT_SEND: A queue has room under cwnd and sends its next segment. (R295, R296, R297, R299, R309, R344) -/
  | segmentSend (phys : Machine.Phys) (queue : Nat)
  /-- WRITE: A WRITE REQUEST is checked and its payload placed, ACK sent at the completion point. (R10, R21, R73, R122, R125, R296, R301, R312, R313, R317, R319, R320, R321, R325, R336, R344) -/
  | orbWrite (phys : Machine.Phys) (wire : Machine.Wire) (packet : Machine.OrbPkt)
  /-- READ: A READ REQUEST is checked and answered with READ_DATA packets. (R10, R296, R301, R312, R314, R320, R321) -/
  | orbRead (phys : Machine.Phys) (wire : Machine.Wire) (packet : Machine.OrbPkt)
  /-- ATOMIC_ADD: An ATOMIC_ADD is performed once via the replay cache and its prior value returned. (R21, R301, R312, R315, R320, R321) -/
  | atomicAdd (phys : Machine.Phys) (wire : Machine.Wire) (packet : Machine.OrbPkt)
  /-- ATOMIC_CAS: An ATOMIC_CAS is performed once via the replay cache and its prior value returned. (R21, R301, R312, R315, R320, R321) -/
  | atomicCas (phys : Machine.Phys) (wire : Machine.Wire) (packet : Machine.OrbPkt)
  /-- WRITE_NOTIFY: A notify packet increments the target queue's counter once and wakes satisfied WAITs. (R301, R304, R307, R312, R316) -/
  | writeNotify (phys : Machine.Phys) (wire : Machine.Wire) (packet : Machine.OrbPkt)
  /-- READ_DATA: A READ_DATA packet is placed at the requester, completing the message when all bytes are placed. (R306, R312, R314, R325) -/
  | readData (phys : Machine.Phys) (wire : Machine.Wire) (packet : Machine.OrbPkt)
  /-- ACK: An ACK packet's entries acknowledge segments or NAK them into retransmit, redirect or completion. (R304, R306, R308, R310, R311, R312, R325) -/
  | orbAck (phys : Machine.Phys) (wire : Machine.Wire) (packet : Machine.OrbPkt)
  /-- RETRANSMIT_TIMER: A segment's retransmission timer expires and it is resent on a new path with cwnd cut to 1. (R310, R311) -/
  | retransmitTimer (phys : Machine.Phys) (queue : Nat) (msgId : Nat) (offset : Nat)
  /-- MESSAGE_HORIZON: The count reaches MSG_COUNT + LT and the incomplete message completes with TIMEOUT. (R310) -/
  | messageHorizon (phys : Machine.Phys) (queue : Nat) (msgId : Nat)
  /-- WAIT_TIMEOUT: A WAIT's timeout passes and it completes with WAIT_TIMEOUT. (R307) -/
  | waitTimeout (phys : Machine.Phys) (queue : Nat)
  /-- WAIT_TABLE_RETRY: A WAIT that found the wait table full is tried again after 1 µs. (R307) -/
  | waitTableRetry (phys : Machine.Phys) (queue : Nat)
  /-- CONTEXT_FETCH_DONE: A context or key entry fetch completes and waiting packets are processed in order. (R319) -/
  | contextFetchDone (phys : Machine.Phys) (context : Bool) (index : Nat)
  /-- REPLAY_ENTRY_EXPIRE: A replay-cache entry ages past MSG_COUNT + LT and is freed. (R315) -/
  | replayEntryExpire (engine : Nat) (source : Nat) (queue : Nat) (msgId : Nat)
  /-- REPLAY_CACHE_ECC: An uncorrectable replay-cache or segment-table word opens a NAK_STALE window or fails a message. (R319) -/
  | replayCacheEcc (word : Machine.OrbEcc) (macroNo : Nat) (index : Nat)
  /-- REPLAY_WINDOW_END: The replay-cache error window ends and ORB_OPEN_COUNT is set. (R318, R319) -/
  | replayWindowEnd (engine : Nat)
  /-- ORB_CREATE_QUEUE: Orbit CREATE_QUEUE sets up a queue with its rings, group and counter. (R303, R322, R327) -/
  | orbCreateQueue (phys : Machine.Phys) (ld : Nat) (args : List Nat)
  /-- ORB_DESTROY_QUEUE: Orbit DESTROY_QUEUE abandons a queue's messages. (R322, R327) -/
  | orbDestroyQueue (phys : Machine.Phys) (ld : Nat) (args : List Nat)
  /-- ORB_RESUME_QUEUE: Orbit RESUME_QUEUE returns an ERROR queue to service. (R308, R327) -/
  | orbResumeQueue (phys : Machine.Phys) (ld : Nat) (args : List Nat)
  /-- REGISTER_KEY: REGISTER_KEY writes a memory key entry. (R300, R302, R327) -/
  | registerKey (phys : Machine.Phys) (ld : Nat) (args : List Nat)
  /-- DEREGISTER_KEY: DEREGISTER_KEY invalidates a key once no access under it is still being placed. (R302, R327) -/
  | deregisterKey (phys : Machine.Phys) (ld : Nat) (args : List Nat)
  /-- QUERY_QUEUE: QUERY_QUEUE returns a queue's state, head and counter. (R327) -/
  | queryQueue (phys : Machine.Phys) (ld : Nat) (args : List Nat)
  /-- CPH_CREATE_QUEUE: Cipher CREATE_QUEUE sets up a request queue's rings. (R346, R353) -/
  | cphCreateQueue (phys : Machine.Phys) (ld : Nat) (args : List Nat)
  /-- CPH_DESTROY_QUEUE: Cipher DESTROY_QUEUE destroys a queue when no descriptor is under way. (R353) -/
  | cphDestroyQueue (phys : Machine.Phys) (ld : Nat) (args : List Nat)
  /-- CPH_RESUME_QUEUE: Cipher RESUME_QUEUE restarts an ERROR queue. (R347, R353) -/
  | cphResumeQueue (phys : Machine.Phys) (ld : Nat) (args : List Nat)
  /-- UNWRAP: A logical device's UNWRAP checks a blob and loads the key into its slot. (R341, R342, R353) -/
  | unwrapKey (phys : Machine.Phys) (ld : Nat) (args : List Nat)
  /-- CLEAR_SLOT: A logical device's CLEAR_SLOT empties a slot, keeping its floor, count and check. (R342, R353) -/
  | clearSlot (phys : Machine.Phys) (ld : Nat) (args : List Nat)
  /-- QUERY_SLOT: QUERY_SLOT returns a slot's information, count and limit. (R353) -/
  | querySlot (phys : Machine.Phys) (ld : Nat) (args : List Nat)
  /-- MGMT_UNWRAP: CPH_CMD UNWRAP unwraps the blob in CPH_BLOBn. (R341, R342, R354) -/
  | mgmtUnwrap (phys : Machine.Phys) (slot : Nat)
  /-- MGMT_CLEAR_SLOT: CPH_CMD CLEAR_SLOT empties a slot from the management path. (R342, R354) -/
  | mgmtClearSlot (phys : Machine.Phys) (slot : Nat)
  /-- CPH_DOORBELL: CPH_LD_DBq publishes a tail and descriptors start after their checks. (R336, R344, R345, R346, R347, R348, R353) -/
  | cphDoorbell (phys : Machine.Phys) (ld : Nat) (queue : Nat) (tail : Nat)
  /-- CIPHER_DESC_COMPLETE: A descriptor's writes reach their completion point and its completion entry is written. (R347) -/
  | cipherDescComplete (phys : Machine.Phys) (queue : Nat)
  /-- VERIFY_BUFFER_FREE: A verify buffer frees and a waiting OPEN proceeds. (R348) -/
  | verifyBufferFree (phys : Machine.Phys) (hemi : Nat)
  /-- GO: CPH_PG_CTRL.GO starts a register-page operation. (R344, R345, R348, R349) -/
  | pageGo (ld : Nat) (ctrl : W64)
  /-- PAGE_DONE: A register-page operation completes and the page reaches DONE with STATUS. (R349) -/
  | pageDone (ld : Nat)
  /-- SLOT_STORE_ECC: An uncorrectable slot-store error empties the slot on both hemispheres. (R350) -/
  | slotStoreEcc (hemi : Nat) (slot : Nat)
  /-- WRAP_KEY: In an owner session the controller wraps a supplied key into a blob. (R340, R371, R464) -/
  | wrapKey (transport : Nat) (session : Option Nat) (tag : Nat) (count : Nat) (addr : Nat) (header : List Byte) (key : List Byte)
  /-- GENERATE_KEY: In an owner session the controller draws a key and returns only its blob. (R340, R371, R464) -/
  | generateKey (transport : Nat) (session : Option Nat) (tag : Nat) (count : Nat) (addr : Nat) (header : List Byte)
  /-- INSTALL_OWNER: INSTALL_OWNER fuses the owner key and a fresh owner seed. (R360) -/
  | installOwner (fuse : Machine.FuseRun)
  /-- ALIAS_BIND: ALIAS_BIND returns the signed alias binding. (R359) -/
  | aliasBind
  /-- INSTALL_ALIAS_CHAIN: INSTALL_ALIAS_CHAIN accepts a chain piece and installs the chain after the last piece. (R359) -/
  | installAliasChain (arg : Nat)
  /-- SEAL: SEAL moves PROVISION to SEALED. (R365, R467) -/
  | sealPart (fuse : Machine.FuseRun)
  /-- DEBUG_CHALLENGE: DEBUG_CHALLENGE places a fresh nonce. (R366) -/
  | debugChallenge
  /-- DEBUG_UNLOCK: DEBUG_UNLOCK verifies a Treldex signature and opens debug. (R366) -/
  | debugUnlock
  /-- RETURN_CHALLENGE: RETURN_CHALLENGE places the nonce for RETURN. (R367) -/
  | returnChallenge
  /-- RETURN: RETURN verifies tokens, zeroises slots and blows secret fuses and LC_STATE forward. (R333, R365, R367) -/
  | returnPart (arg : Nat) (fuse : Machine.FuseRun)
  /-- COMMIT_SVN: COMMIT_SVN blows FW_SVN fuses up to the running SVN. (R362) -/
  | commitSvn (fuse : Machine.FuseRun)
  /-- TAP_PROVISION: The Treldex test command through the TAP moves FOUNDRY to PROVISION. (R365) -/
  | tapProvision (chain : List Byte)
  /-- TAP_INSTRUCTION: A loaded JTAG instruction executes or becomes BYPASS per life-cycle state. (R364) -/
  | tapInstruction (instruction : Machine.TapInstr)
  /-- GET_VERSION: SPDM GET_VERSION is answered. (R369, R370) -/
  | getVersion (transport : Nat)
  /-- GET_CAPABILITIES: SPDM GET_CAPABILITIES is answered. (R369, R370) -/
  | getCapabilities (transport : Nat) (version : Nat)
  /-- NEGOTIATE_ALGORITHMS: SPDM NEGOTIATE_ALGORITHMS is answered. (R369, R370) -/
  | negotiateAlgorithms (transport : Nat) (offered : Bool)
  /-- GET_DIGESTS: SPDM GET_DIGESTS returns certificate chain digests. (R369, R370) -/
  | getDigests (transport : Nat) (session : Option Nat)
  /-- GET_CERTIFICATE: SPDM GET_CERTIFICATE returns slot 0 or slot 1 chains. (R369, R370) -/
  | getCertificate (transport : Nat) (session : Option Nat) (slot : Nat) (offset : Nat) (length : Nat)
  /-- CHALLENGE: SPDM CHALLENGE is signed with the identity or alias key. (R369, R371) -/
  | challenge (transport : Nat) (slot : Nat) (transcript : List Byte)
  /-- GET_MEASUREMENTS: SPDM GET_MEASUREMENTS returns the measurement blocks. (R369, R371, R372) -/
  | getMeasurements (transport : Nat) (session : Option Nat) (index : Nat) (signSlot : Option Nat) (transcript : List Byte)
  /-- KEY_EXCHANGE: SPDM KEY_EXCHANGE opens a session, owner or not. (R369, R370, R371) -/
  | keyExchange (transport : Nat) (slot : Nat) (transcript : List Byte)
  /-- FINISH: SPDM FINISH completes session establishment. (R370, R371) -/
  | finish (transport : Nat) (session : Nat) (root : Option (List Byte)) (ok : Bool)
  /-- SPDM_HEARTBEAT: SPDM HEARTBEAT keeps a session alive. (R370) -/
  | spdmHeartbeat (transport : Nat) (session : Nat)
  /-- KEY_UPDATE: SPDM KEY_UPDATE updates session keys. (R370) -/
  | keyUpdate (transport : Nat) (session : Nat)
  /-- END_SESSION: SPDM END_SESSION closes a session. (R370) -/
  | endSession (transport : Nat) (session : Nat)
  /-- ON: PSQ_CMD ON clears HOLD_OFF. (R378, R384, R386) -/
  | psqOn
  /-- OFF: PSQ_CMD OFF fires the Dusk trigger from D7 or is an off request, and sets HOLD_OFF. (R24, R379, R384, R386) -/
  | psqOff
  /-- CYCLE: PSQ_CMD CYCLE fires the Dusk trigger or is an off request, leaving HOLD_OFF clear. (R24, R379, R384, R386) -/
  | psqCycle
  /-- DAWN_RETRY: PSQ_CMD DAWN_RETRY leaves Twilight and begins a Dawn. (R396) -/
  | dawnRetry
  /-- SEQUENCER_POWER_UP: Every power-up condition holds and the sequencer starts raising the rails. (R374, R375, R378, R379, R384) -/
  | sequencerPowerUp
  /-- SEQ_PG_RISE: A slot's filtered power-good rises. (R374, R375) -/
  | seqPgRise (slot : Nat)
  /-- SEQ_PG_FALL: An enabled slot's power-good falls after D1: PG_LOST, Dusk or Dawn failure, or rails cut when hold-up runs out. (R374, R377, R380, R383, R503) -/
  | seqPgFall (slot : Nat)
  /-- PG_TIMEOUT: A slot's PG timeout passes: RAIL_FAIL, lowering, and retry or D1 failure. (R375, R376, R377, R383, R389) -/
  | pgTimeout (slot : Nat)
  /-- SETTLE_DONE: A group's settle time passes and the next group is raised or D1 completes. (R375, R387) -/
  | settleDone
  /-- DISCHARGE_TIMEOUT: A slot's discharge timeout passes and the next group is lowered. (R377, R383) -/
  | dischargeTimeout (slot : Nat)
  /-- MIN_OFF_END: The 100 ms minimum off time ends. (R375, R378, R379, R389) -/
  | minOffEnd
  /-- DAWN_D0: The supervisor boots, reads fuses, boot records and counters, and checks for Twilight. (R32, R50, R53, R65, R356, R357, R367, R368, R373, R381, R387, R388, R395, R397, R419, R430, R436, R467, R474, R501, R502, R503) -/
  | dawnD0 (eflashOk : Bool) (fuse : Machine.FuseRun)
  /-- DAWN_D2: The firmware bank is chosen, verified and loaded into management-core SRAM. (R361, R387, R389, R469, R470, R471) -/
  | dawnD2 (badA : Bool) (badB : Bool) (coresOk : Bool)
  /-- DAWN_D3: The Chart is validated and applied, the KEK derived and slot counts read. (R2, R3, R11, R20, R28, R29, R30, R31, R32, R34, R35, R36, R37, R39, R41, R43, R44, R45, R46, R47, R48, R49, R51, R53, R54, R59, R61, R63, R72, R76, R93, R118, R119, R194, R201, R209, R233, R254, R261, R289, R324, R334, R338, R343, R351, R357, R369, R381, R387, R389, R407, R413, R428, R499, R500, R501, R502) -/
  | dawnD3
  /-- DAWN_D4: DRAM is trained, retained DIMMs checked, NAND dies discovered and population checked. (R41, R49, R53, R136, R137, R138, R139, R152, R169, R204, R205, R207, R209, R387, R389, R392, R461) -/
  | dawnD4 (found : Machine.SMap Machine.DimmFound) (dies : List Machine.DieFound)
  /-- DAWN_D5: Flash structures, presence and stamps are restored, R_save measured and staging restored. (R48, R51, R53, R102, R165, R169, R174, R176, R177, R180, R181, R188, R192, R194, R195, R196, R197, R203, R218, R219, R243, R322, R387, R389, R392, R446, R449, R504) -/
  | dawnD5 (media : Machine.FlashMedia) (rate : Option Nat)
  /-- DAWN_D6: Meridian wait, twin training, Chart digest comparison and arbiter STATUS. (R38, R62, R69, R278, R387, R389, R444, R450, R456, R502) -/
  | dawnD6
  /-- DAWN_D7: ZERO fill, ports, Orbit reception and Solo gate open; DAWN_DONE is recorded. (R21, R83, R86, R88, R89, R153, R165, R200, R226, R229, R270, R297, R318, R383, R387, R388, R442, R471) -/
  | dawnD7 (phys : Machine.Phys)
  /-- STAGE_TIMEOUT: A Dawn stage overruns its limit and fails. (R383, R387, R388, R389, R395, R471) -/
  | stageTimeout
  /-- SENSOR_SAMPLE: Every 1 ms each sensor is sampled and Warning, Throttle and Shutdown levels evaluated. (R24, R378, R379, R390, R398, R399, R400, R401, R403, R404, R447, R468) -/
  | sensorSample (samples : Machine.SMap Int)
  /-- THROTTLE_STEP: Every STEP_MS each hemisphere's throttle step rises, holds or falls. (R402) -/
  | throttleStep
  /-- HARD_TRIP: A reading at SHUTDOWN_C + 8 °C cuts every SEQ_EN at once. (R405) -/
  | hardTrip (sensor : Nat) (value : Int)
  /-- ERROR_PIN_ASSERT: An error pin latches: ALERT_N, interrupt, FAULT record, Logbook and fault reaction. (R13, R22, R24, R108, R409, R410, R411, R414, R415, R416, R420) -/
  | errorPinAssert (pin : Nat) (location : W64)
  /-- FLT_STATUS_CLEAR: Writing 1 to status bits clears them, relatching bits whose pins stay asserted. (R412) -/
  | fltStatusClear (mask : BitVec 128) (asserted : List (Nat × W64))
  /-- FLT_FIRST_REARM: Writing 1 to FLT_FIRST.VALID clears VALID and OVERFLOW and re-arms capture. (R412) -/
  | fltFirstRearm
  /-- LOGBOOK_SECOND: At the end of a second with suppressed records a SUPPRESSED record is written. (R418) -/
  | logbookSecond
  /-- ALMANAC_SAMPLE: A sample or event updates its Almanac record and event counter. (R423, R425, R426, R429) -/
  | almanacSample (metric : Nat) (index : Nat) (value : Int)
  /-- ALMANAC_INTERVAL: A RATE record's INTERVAL ends and CURRENT advances. (R425) -/
  | almanacInterval (slot : Nat)
  /-- ALMANAC_HOURLY: Every hour an Almanac image is written. (R430) -/
  | almanacHourly
  /-- FREEZE: ALM_CTRL.FREEZE set or cleared starts or ends an Almanac freeze. (R427) -/
  | freeze (on : Bool)
  /-- FREEZE_EXPIRE: FREEZE_MAX_MS ends the freeze and sets FREEZE_EXPIRED. (R427) -/
  | freezeExpire
  /-- STORE: ALM_CTRL.STORE writes an Almanac image now. (R430) -/
  | store
  /-- CLEAR: ALM_CTRL.CLEAR clears every record and counter unless frozen. (R427) -/
  | clear
  /-- EFLASH_PROGRAM_DONE: An eFlash program unit completes. (R416, R432) -/
  | eflashProgramDone (phys : Machine.Phys) (ok : Bool)
  /-- EFLASH_ERASE_DONE: An eFlash sector erase completes and its information word is erased. (R415, R432, R436) -/
  | eflashEraseDone (us : Nat) (ok : Bool)
  /-- EFLASH_SUSPEND: Firmware suspends an eFlash erase. (R434, R435) -/
  | eflashSuspend
  /-- EFLASH_RESUME: Firmware resumes a suspended eFlash erase. (R434) -/
  | eflashResume
  /-- I3C_DYNAMIC_ADDRESS: ENTDAA or SETDASA assigns an I3C target's dynamic address. (R462) -/
  | i3cDynamicAddress (port : Nat) (static : Option Nat) (addr : Nat)
  /-- MCTP_PACKET: An MCTP packet is checked, including PEC, and assembled into a message. (R462, R463) -/
  | mctpPacket (transport : Nat) (pecOk : Bool) (first : Bool) (last : Bool) (payload : List Byte)
  /-- SET_ENDPOINT_ID: MCTP Set Endpoint ID assigns and stores the endpoint ID. (R463) -/
  | setEndpointId (transport : Nat) (id : Nat)
  /-- SET_MTU: Set MTU raises the transmission unit on I3C. (R463) -/
  | setMtu (port : Nat) (size : Nat)
  /-- REG_READ: Vendor REG_READ returns up to 32 registers in offset order. (R464, R465, R475, R476, R478) -/
  | regRead (transport : Nat) (tag : Nat) (addr : Nat) (count : Nat)
  /-- REG_WRITE: Vendor REG_WRITE writes one register under the permission rules. (R2, R7, R8, R20, R354, R464, R465, R466, R475, R476, R479) -/
  | regWrite (env : Machine.RegEnv) (transport : Nat) (session : Option Nat) (tag : Nat) (addr : Nat) (count : Nat) (value : W64)
  /-- LOG_READ: Vendor LOG_READ returns up to 16 Logbook records. (R464) -/
  | logRead (transport : Nat) (tag : Nat) (addr : Nat) (count : Nat) (bad : List Nat) (corrected : Bool)
  /-- ALM_READ: Vendor ALM_READ returns one whole Almanac record or 32 counters. (R426, R464, R465) -/
  | almRead (transport : Nat) (tag : Nat) (addr : Nat) (count : Nat)
  /-- VENDOR_UNSUPPORTED: An unknown vendor COMMAND returns UNSUPPORTED. (R464) -/
  | vendorUnsupported (transport : Nat) (tag : Nat) (command : Nat) (count : Nat) (addr : Nat)
  /-- SET_EVENT_RECEIVER: PLDM SetEventReceiver sets where sensor events go. (R468) -/
  | setEventReceiver (transport : Nat) (receiver : Option Nat)
  /-- GET_SENSOR_READING: PLDM type 2 returns a sensor reading. (R468) -/
  | getSensorReading (transport : Nat) (sensor : Nat)
  /-- GET_PDR: PLDM type 2 returns PDR repository records. (R468) -/
  | getPdr (transport : Nat) (handle : Nat)
  /-- GET_FRU_RECORD_TABLE: PLDM type 4 returns the FRU record. (R468) -/
  | getFruRecordTable (transport : Nat)
  /-- PLDM_BASE: A PLDM type 0 base command is answered. (R468) -/
  | pldmBase (transport : Nat) (command : Nat) (arg : Nat)
  /-- REQUEST_UPDATE: RequestUpdate starts a firmware update or is refused as already in update mode. (R467, R472) -/
  | requestUpdate (transport : Nat) (session : Option Nat) (fits : Bool)
  /-- PASS_COMPONENT_TABLE: The component table is matched against the single firmware component. (R472) -/
  | passComponentTable (transport : Nat) (session : Option Nat) (fits : Bool)
  /-- UPDATE_COMPONENT: UpdateComponent erases the inactive bank before data transfer. (R472) -/
  | updateComponent (transport : Nat) (session : Option Nat) (size : Nat) (fits : Bool)
  /-- FIRMWARE_DATA: A RequestFirmwareData response block arrives and is programmed. (R472) -/
  | firmwareData (block : List Byte)
  /-- VERIFY_COMPLETE: After transfer the bank is checked and VerifyComplete is reported. (R361, R469, R470, R472) -/
  | verifyComplete (transport : Nat) (unreadable : Bool)
  /-- ACTIVATE_FIRMWARE: ActivateFirmware names the new bank active with TRIAL and restarts or awaits a reset. (R396, R473) -/
  | activateFirmware (transport : Nat) (session : Option Nat)
  /-- CANCEL_UPDATE: CancelUpdate ends the update and leaves the active bank unchanged. (R472) -/
  | cancelUpdate (transport : Nat) (session : Option Nat)
  /-- UPDATE_AGENT_TIMEOUT: 60 s without a request from the update agent ends the update. (R472) -/
  | updateAgentTimeout
  /-- ETH_PORT_DOWN: An Ethernet port goes down, ORB_PORTp.UP clears and egress paths are recomputed modulo the ports still up. (R293, R295) -/
  | ethPortDown (port : Nat)
  /-- AUTO_NEGOTIATION_TIMEOUT: No Clause 73 auto-negotiation partner answers within 500 ms and the port uses chip-to-module mode. (R293) -/
  | autoNegotiationTimeout (port : Nat)
  /-- ARB_SYMBOL_LOCK: ARB_RX gains 8b/10b symbol lock and TWN_STATUS.ARB_UP is set. (R277) -/
  | arbSymbolLock
  /-- ARB_SYMBOL_LOCK_LOSS: ARB_RX loses symbol lock and the arbiter link is down, so ARB_UP clears and the unit stays standby. (R62) -/
  | arbSymbolLockLoss
  /-- HAND_OVER_DEADLINE: 250 ms after the Dusk trigger the hand-over to rail shutdown proceeds even if Logbook programming is unfinished. (R419) -/
  | handOverDeadline (phys : Machine.Phys)
  /-- TWIN_ANSWER_TIMEOUT: No twin answer to a read of a non-resident line on a frozen channel in a HOT region arrives within LINK_GRACE_MS, so the read returns poison. (R451) -/
  | twinAnswerTimeout (phys : Machine.Phys) (line : Nat) (half : Nat)
  deriving DecidableEq, Repr

end Sys2Proof
end

