-- ==== Sys2Proof/Config.lean ====
section
/-!
DEFINITION. What an implementation fixes and the spec leaves open: free values, the published cryptographic functions
the spec calls by name, and the part's own constants. None has a body, so no proof can see a value.
-/
namespace Sys2Proof.Config
open Sys2Proof

/-- A fresh open value (assumption 3): applied to the counter `State.blk.free`, which every use advances. -/
opaque freeNat : Nat → Nat
/-- SHAKE256 of a byte string with an output length in bytes (FIPS 202). -/
opaque shake256 : Nat → List Byte → List Byte
/-- Pure Ed448 verification: public key, message, signature (RFC 8032, R32). -/
opaque ed448Verify : List Byte → List Byte → List Byte → Bool
/-- Pure Ed448 signature: private key, message (RFC 8032). -/
opaque ed448Sign : List Byte → List Byte → List Byte
/-- Ed448 public key of a private key. -/
opaque ed448Public : List Byte → List Byte
/-- AES-256 XTS encryption of one line: key, tweak, plaintext (R335). -/
opaque xtsEnc : Nat → Nat → Line → Line
/-- AES-256 XTS decryption of one line: key, tweak, ciphertext (R335). -/
opaque xtsDec : Nat → Nat → Line → Line
/-- AES-256 XTS of a byte string for the cipher queues: encrypt or decrypt, key, tweak, data. -/
opaque xtsBytes : Bool → Nat → Nat → List Byte → List Byte
/-- AES-256 GCM keystream on a byte string: key, IV, data (encryption and decryption are the same). -/
opaque gcmCrypt : Nat → Nat → List Byte → List Byte
/-- AES-256 GCM tag: key, IV, additional data, ciphertext. -/
opaque gcmTag : Nat → Nat → List Byte → List Byte → Nat
/-- Is a 57-byte string a valid Ed448 point (RFC 8032)? -/
opaque ed448Valid : List Byte → Bool
/-- SHA3-512 of a byte string (FIPS 202). -/
opaque sha3 : List Byte → List Byte
/-- Public key that the leaf of a DER certificate chain certifies, if the chain is well formed (R359). -/
opaque leafKey : List Byte → Option (List Byte)
/-- The four Treldex public keys, 57 bytes each, in index order; the supervisor ROM holds their digest (R361). -/
opaque treldexKeys : List Byte
/-- SHA3-512 of the supervisor boot ROM (R372). -/
opaque romDigest : List Byte
/-- Hardware unique key and identity salt drawn at manufacture (R355). -/
opaque huk : BitVec 256
opaque salt : BitVec 256
/-- The firmware container that manufacture leaves in bank A. -/
opaque factoryImage : List Byte
/-- X448 (RFC 7748): the public key of a private draw, and the shared secret with a peer's public key. -/
opaque x448Public : Nat → List Byte
opaque x448 : Nat → List Byte → List Byte
/-- What Table 10-3 leaves open of a CONTROL message, by subtype and its contents: ADDR, and the payload (R267). See assumption 144 (DESIGN CHOICE). -/
opaque controlAddr : Nat → List Nat → Nat
opaque controlBytes : Nat → List Nat → List Byte
/-- The snoop-filter entry that SF_UPDATE carries, whose form is not given (Table 10-3). See assumption 144 (DESIGN CHOICE). -/
opaque sfEntry : List Nat → Nat
/-- The structured form of measurement block 5 (Table 13-7): life-cycle state, DEBUG_OPEN and RETURN_BEGUN in the device-mode fields of DSP0274. Which bits
stand for them is open. See assumption 149 (DESIGN CHOICE). -/
opaque deviceMode : Nat → Bool → Bool → List Byte
/-- Silicon stepping of this part (R36, MIN_STEPPING). See assumption 11 (DESIGN CHOICE). -/
opaque stepping : Nat

/-- The Treldex IANA enterprise number (Table 18-1), which the spec does not give. See assumption 155 (DESIGN CHOICE). -/
opaque enterprise : Nat
/-- Replacement order within a set: the age rank of a way, from the unit's state (R127: pseudo-LRU). -/
opaque plruRank : Nat → Nat → Nat → Nat

/-- Command effects of an opcode in the command effects log (R109, CXL 3.1). -/
opaque celEffect : Nat → Nat
/-- What a CXL register of a logical device's window reads: logical device, 64-bit word of 0x0_0000 to 0x1_FFFF (R111, CXL 3.1). -/
opaque cxlWord : Nat → Nat → BitVec 64

end Sys2Proof.Config
end

