-- ==== Sys2Proof/Machine/Otp.lean ====
section
/-!
DEFINITION. What the fuses say and the keys that are derived from them (R338, R355 to R358).
-/
namespace Sys2Proof.Machine
open Sys2Proof

/-- The bytes of an ASCII string without a terminator. -/
def ascii (s : String) : List Byte := s.toList.map (fun c => BitVec.ofNat 8 c.toNat)

/-! ### What the fuses say (R355 to R358) -/

/-- Blown bits of a value of `w` bits. -/
def blown (w v : Nat) : Nat := ((List.range w).filter (fun i => v.testBit i)).length

/-- A field kept in two copies is destroyed when they differ or are all ones (R356). -/
def fieldDestroyed (w a b : Nat) : Bool := a != b || a == 2 ^ w - 1

/-- Number of blown bits of the highest LC_STATE copy (R356). -/
def Otp.lcBits (o : Otp) : Nat := Nat.max (blown 3 o.lc0.toNat) (Nat.max (blown 3 o.lc1.toNat) (blown 3 o.lc2.toNat))

/-- RETURN_BEGUN: any copy is blown (R367). -/
def Otp.returning (o : Otp) : Bool := o.returnBegun != 0

/-- IDENTITY_SALT, OWNER_SEED and OWNER_KEY as the derivation unit sees them; none when absent or destroyed. -/
def Otp.salt (o : Otp) : Option Nat := if fieldDestroyed 256 o.salt0.toNat o.salt1.toNat || o.salt0 == 0 then none else some o.salt0.toNat
def Otp.seed (o : Otp) : Option Nat := if fieldDestroyed 256 o.seed0.toNat o.seed1.toNat || o.seed0 == 0 then none else some o.seed0.toNat
def Otp.key (o : Otp) : Option (List Byte) :=
  if fieldDestroyed 456 o.key0.toNat o.key1.toNat || o.key0 == 0 then none else some (natLe 57 o.key0.toNat)

/-- The usable owner's key (R356, R368). -/
def Otp.owner (o : Otp) : Option (List Byte) :=
  match o.seed, o.key with
  | some _, some k => if Config.ed448Valid k then some k else none
  | _, _ => none

/-- A field of two copies is found destroyed: LCS_ERR.FUSE_MISMATCH (R356 names copies that differ). -/
def Otp.mismatch (o : Otp) : Bool := o.salt0 != o.salt1 || o.seed0 != o.seed1 || o.key0 != o.key1

/-- FW_SVN: the fused floor (R362). -/
def Otp.svn (o : Otp) : Nat := blown 64 o.fwSvn.toNat

/-- The device identity private key (Table 13-2). -/
def Otp.identityKey (o : Otp) : Option (List Byte) :=
  o.salt.map (fun s => Config.shake256 57 (bitsBytes 32 o.huk ++ natLe 32 s ++ ascii "TXA-9480 IDENTITY v1"))

/-- The alias private key (Table 13-2). -/
def Otp.aliasKey (o : Otp) : Option (List Byte) :=
  o.owner.bind (fun _ => o.seed.map (fun s => Config.shake256 57 (bitsBytes 32 o.huk ++ natLe 32 s ++ ascii "TXA-9480 ALIAS v1")))

/-- The KEK (R338); none without a usable owner. -/
def Otp.kek (o : Otp) : Option (List Byte) :=
  o.owner.bind (fun _ => o.seed.map (fun s => Config.shake256 32 (bitsBytes 32 o.huk ++ natLe 32 s ++ ascii "TXA-9480 KEK v1")))

/-- Media key i (R338); none without a usable owner. -/
def Otp.mediaKey (o : Otp) (i : Nat) : Option (List Byte) :=
  o.owner.bind (fun _ => o.seed.map (fun s => Config.shake256 32 (bitsBytes 32 o.huk ++ natLe 32 s ++ ascii "TXA-9480 MEDIA v1" ++ natLe 8 i)))

end Sys2Proof.Machine
end

