-- ==== Sys2Proof/Machine/LineCode.lean ====
section
/-!
DEFINITION. The line codes STRONG and LIGHT (R141 to R149): the field, the encoders and the whole-line decoder of R147.
-/
namespace Sys2Proof.Machine
open Sys2Proof

/-- One step of a GF(2^8) product: double modulo x^8 + x^4 + x^3 + x^2 + 1 (R144). -/
def gfDouble (a : Nat) : Nat := let d := 2 * a; if 256 ≤ d then (d - 256) ^^^ 0x1D else d

/-- Product in GF(2^8), over the low `n` bits of `b`. -/
def gfMulN : Nat → Nat → Nat → Nat
  | 0, _, _ => 0
  | n + 1, a, b => (if b % 2 = 1 then a else 0) ^^^ gfMulN n (gfDouble a) (b / 2)

/-- Product in GF(2^8) (R144). -/
def gfMul (a b : Nat) : Nat := gfMulN 8 a b

/-- α to a power, α = 2 (R144). -/
def gfExp : Nat → Nat
  | 0 => 1
  | n + 1 => gfDouble (gfExp n)

/-- Inverse: a^254, by repeated squaring. -/
def gfInv (a : Nat) : Nat :=
  let a2 := gfMul a a; let a4 := gfMul a2 a2; let a8 := gfMul a4 a4; let a16 := gfMul a8 a8; let a32 := gfMul a16 a16
  let a64 := gfMul a32 a32; let a128 := gfMul a64 a64
  gfMul a2 (gfMul a4 (gfMul a8 (gfMul a16 (gfMul a32 (gfMul a64 a128)))))

/-- Number of check symbols t of a code: 4 for STRONG, 2 for LIGHT (R147). -/
def codeT (light : Bool) : Nat := if light then 2 else 4

/-- The generator's coefficients below its leading one, highest first (R144, R145). -/
def genCoeffs (light : Bool) : List Nat := if light then [0x03, 0x02] else [0x0F, 0x36, 0x78, 0x40]

/-- One step of the division by g(x): the remainder register after message symbol `m`. -/
def remStep (g : List Nat) (r : List Nat) (m : Nat) : List Nat :=
  let q := m ^^^ r.headD 0
  List.zipWith (fun x c => x ^^^ gfMul q c) (r.drop 1 ++ [0]) g

/-- Check symbols of a message, highest power first. -/
def checkSymbols (light : Bool) (msg : List Nat) : List Nat :=
  msg.foldl (remStep (genCoeffs light)) (List.replicate (codeT light) 0)

/-- The poison pattern of R148 on the check positions. -/
def poisonPattern (light : Bool) : List Nat := if light then [0x50, 0x4F] else [0x50, 0x4F, 0x49, 0x53]

/-- Byte k of a line (k = 16 j + i) is byte j of device i (R143). -/
def lineSymbol (l : Line) (i j : Nat) : Nat := (Line.byte l (16 * j + i)).toNat

/-- The 16 metadata bytes of a LIGHT line (Table 6-4). -/
def metaBytes (stamp tagRegion tagKey : Nat) : List Nat :=
  (natLe 8 stamp ++ natLe 2 tagRegion ++ natLe 2 tagKey ++ natLe 4 0).map BitVec.toNat

/-- Codeword j of a burst: 20 symbols by position (R143 to R145, R148). -/
def codeword (light poison : Bool) (stored : Line) (md : List Nat) (j : Nat) : List Nat :=
  let data := (List.range 16).map (fun i => lineSymbol stored i j)
  let msg := if light then data ++ [md.getD (2 * j) 0, md.getD (2 * j + 1) 0] else data
  let chk := checkSymbols light msg
  msg ++ (if poison then List.zipWith (· ^^^ ·) chk (poisonPattern light) else chk)

/-- The 20 device symbols of a burst as 64-bit words, byte j of a symbol from codeword j (R143). -/
def burstSymbols (light poison : Bool) (stored : Line) (md : List Nat) : List Nat :=
  let ws := (List.range 8).map (codeword light poison stored md)
  (List.range 20).map (fun i => (List.range 8).foldl (fun a j => a + (ws.getD j []).getD i 0 * 256 ^ j) 0)

/-- The locator of a position: α^(19 − i). -/
def locator (i : Nat) : Nat := gfExp (19 - i)

/-- Byte j of the error of position i in an error pattern. -/
def errByte (e : List (Nat × Nat)) (i j : Nat) : Nat :=
  e.foldl (fun a x => if x.1 = i then a ^^^ (x.2 >>> (8 * j)) % 256 else a) 0

/-- Syndromes of the poison pattern, S0 first (R147: SP). -/
def poisonSyndromes (light : Bool) : List Nat :=
  let p := poisonPattern light; let t := codeT light
  (List.range t).map (fun k => (List.range t).foldl (fun a n => a ^^^ gfMul (p.getD n 0) (gfExp (k * (19 - (20 - t + n))))) 0)

/-- Syndromes of codeword j of a stored line with an error pattern: the codeword itself contributes zero. -/
def syndromes (light poison : Bool) (e : List (Nat × Nat)) (j : Nat) : List Nat :=
  let s := (List.range (codeT light)).map (fun k =>
    (List.range 20).foldl (fun a i => a ^^^ gfMul (errByte e i j) (gfExp (k * (19 - i)))) 0)
  if poison then List.zipWith (· ^^^ ·) s (poisonSyndromes light) else s

/-- Coefficients of the product of (x - X_q) over the positions `qs`, lowest power first. -/
def locatorPoly : List Nat → List Nat
  | [] => [1]
  | q :: qs =>
    let p := locatorPoly qs
    List.zipWith (· ^^^ ·) (0 :: p) (p.map (gfMul (locator q)) ++ [0])

/-- Sum of coefficients times syndromes from index k. -/
def dotSynd (lam s : List Nat) (k : Nat) : Nat :=
  (List.range lam.length).foldl (fun a i => a ^^^ gfMul (lam.getD i 0) (s.getD (k + i) 0)) 0

/-- Errors confined to the positions `qs` explain the syndromes `s`. -/
def explains (t : Nat) (qs s : List Nat) : Bool :=
  let lam := locatorPoly qs
  (List.range (t - qs.length)).all (fun k => dotSynd lam s k == 0)

/-- Value of a polynomial (lowest power first) at x. -/
def polyAt (p : List Nat) (x : Nat) : Nat := p.reverse.foldl (fun a c => gfMul a x ^^^ c) 0

/-- The error value at position q when errors are confined to `qs`. -/
def errorValue (qs s : List Nat) (q : Nat) : Nat :=
  let lam := locatorPoly (qs.filter (· != q))
  gfMul (dotSynd lam s 0) (gfInv (polyAt lam (locator q)))

/-- Smallest error set outside the marks that explains the syndromes with 2e + f ≤ t (R147). -/
def findErrors (t : Nat) (marks s : List Nat) : Option (List Nat) :=
  let free := (List.range 20).filter (fun i => !marks.contains i)
  let f := marks.length
  if explains t marks s then some []
  else if 2 + f ≤ t then
    match free.find? (fun i => explains t (marks ++ [i]) s) with
    | some i => some [i]
    | none =>
      if 4 + f ≤ t then
        (free.flatMap (fun i => (free.filter (fun k => i < k)).map (fun k => [i, k]))).find? (fun p => explains t (marks ++ p) s)
      else none
  else none

/-- decode_all of R147: the corrections (codeword, position, value), or none. -/
def decodeAll (light : Bool) (marks : List Nat) (ss : List (List Nat)) : Option (List (Nat × Nat × Nat)) :=
  let t := codeT light
  let go := fun (acc : Option (List Nat × List (Nat × Nat × Nat))) (js : Nat × List Nat) =>
    match acc with
    | none => none
    | some (u, cs) =>
      if js.2.all (· == 0) then some (u, cs)
      else match findErrors t marks js.2 with
        | none => none
        | some e =>
          let qs := marks ++ e
          some (u ++ e.filter (fun i => !u.contains i), cs ++ qs.map (fun q => (js.1, q, errorValue qs js.2 q)))
  match (List.zip (List.range 8) ss).foldl go (some ([], [])) with
  | none => none
  | some (u, cs) => if 2 * u.length + marks.length ≤ t then some (cs.filter (fun c => c.2.2 != 0)) else none

/-- What a decode says (R147): the residual error that its corrections leave in the data and in metadata bytes 8 to 11 of LIGHT, or poison, or
uncorrectable. -/
inductive Decoded where
  | data (residual : Line) (tags : Nat) (corrected : List Nat)
  | poisoned (corrected : List Nat)
  | uncorrectable
  deriving DecidableEq, Repr

/-- The error left in codeword j at position i after the corrections. -/
def residualByte (e : List (Nat × Nat)) (cs : List (Nat × Nat × Nat)) (i j : Nat) : Nat :=
  cs.foldl (fun a c => if c.1 = j ∧ c.2.1 = i then a ^^^ c.2.2 else a) (errByte e i j)

/-- The error left in the 128 data bytes after the corrections. -/
def residualOf (e : List (Nat × Nat)) (cs : List (Nat × Nat × Nat)) : Line :=
  bytesBits 1024 ((List.range 128).map (fun k => BitVec.ofNat 8 (residualByte e cs (k % 16) (k / 16))))

/-- The error left in TAG_REGION and TAG_KEY, metadata bytes 8 to 11: byte n is byte n div 2 of device 16 + (n mod 2) (R145, Table 6-4). -/
def residualTags (e : List (Nat × Nat)) (cs : List (Nat × Nat × Nat)) : Nat :=
  leNat ((List.range 4).map (fun k => BitVec.ofNat 8 (residualByte e cs (16 + (8 + k) % 2) ((8 + k) / 2))))

/-- Positions that a decode corrected. -/
def correctedOf (cs : List (Nat × Nat × Nat)) : List Nat := (List.range 20).filter (fun i => cs.any (fun c => c.2.1 == i))

/-- The whole-line decode of R147 of a stored line (`poison`: it was written in the form of R148) read with an error pattern. -/
def decodeLine (light poison : Bool) (marks : List Nat) (e : List (Nat × Nat)) : Decoded :=
  if e = [] then (if poison then .poisoned [] else .data 0 0 [])
  else
    let ss := (List.range 8).map (syndromes light poison e)
    let sp := poisonSyndromes light
    if ss.all (· == sp) then .poisoned []
    else match decodeAll light marks ss with
      | some cs =>
        -- the data are those of the codeword nearest to the burst: its difference from the stored codeword is the residual
        .data (residualOf e cs) (if light then residualTags e cs else 0) (correctedOf cs)
      | none =>
        match decodeAll light marks (ss.map (List.zipWith (· ^^^ ·) sp)) with
        | some cs => .poisoned (correctedOf cs)
        | none => .uncorrectable

end Sys2Proof.Machine
end

