-- ==== Sys2Proof/Machine/Chart.lean ====
section
/-!
DEFINITION. Reading a Chart from its bytes (R29 to R47, R499 and the body rules of the other chapters), its validation in
the order of Table 2-5, and the default bodies (R35, R61, R500).
-/
namespace Sys2Proof.Machine
open Sys2Proof

/-! ### Bytes -/

/-- The little-endian number of `w` bytes at offset `o` (R5). -/
def uAt (b : List Byte) (o w : Nat) : Nat := leNat ((b.drop o).take w)

/-- Bit `n` of the byte at offset `o`. -/
def bitAt (b : List Byte) (o n : Nat) : Bool := (uAt b o 1).testBit n

/-- The `w` bytes at offset `o` are all zero. -/
def zeroAt (b : List Byte) (o w : Nat) : Bool := ((b.drop o).take w).all (· == 0)

/-- The number of set bits among the low `n`. -/
def popcount : Nat → Nat → Nat
  | 0, _ => 0
  | n + 1, v => (if v.testBit n then 1 else 0) + popcount n v

/-- The set bits among the low `n`, ascending. -/
def bitsOf (n v : Nat) : List Nat := (List.range n).filter (fun i => v.testBit i)

/-- A set of bit positions as a mask. -/
def maskOf (l : List Nat) : Nat := l.foldl (fun m i => m ||| (1 <<< i)) 0

/-- A two's-complement number of `w` bits. -/
def toSigned (w v : Nat) : Int := if v < 2 ^ (w - 1) then (v : Int) else (v : Int) - 2 ^ w

def mib : Nat := 2 ^ 20
def gib : Nat := 2 ^ 30

/-- Far device physical addresses start here (R90, R236). -/
def farBase : Nat := 0x4000_0000_0000

/-! ### Envelope -/

/-- A section: its TYPE, FLAGS, the offset of its header and its body (R31). -/
structure Sect where
  type : Nat
  flags : Nat
  off : Nat
  body : List Byte
  deriving DecidableEq, Repr

/-- One check of a Chart: whether it holds, and where its field lies (SECTION and FAULT_OFFSET). -/
structure Chk where
  ok : Bool
  sect : Nat
  off : Nat
  deriving DecidableEq, Repr

/-- The first check that fails. -/
def firstFail : List Chk → Option Chk
  | [] => none
  | c :: cs => if c.ok then firstFail cs else some c

/-- Walk the sections from `off` to the signature block at `sigOff` (R31); the section that overruns it, with its LENGTH field (LENGTH).
See assumption 41 (DEDUCED). -/
def walk : Nat → List Byte → Nat → Nat → Sum (List Sect) Chk
  | 0, b, off, sigOff => if off = sigOff then .inl [] else .inr ⟨false, uAt b off 2, off + 4⟩
  | n + 1, b, off, sigOff =>
    if off = sigOff then .inl []
    else if sigOff < off + 8 + uAt b (off + 4) 4 then .inr ⟨false, uAt b off 2, off + 4⟩
    else
      let len := uAt b (off + 4) 4
      match walk n b (off + 8 + len) sigOff with
      | .inr k => .inr k
      | .inl r => .inl (⟨uAt b off 2, uAt b (off + 2) 2, off, (b.drop (off + 8)).take len⟩ :: r)

/-- The section types of Table 2-2. -/
def sectTypes : List Nat :=
  [0x0001, 0x0010, 0x0011, 0x0020, 0x0030, 0x0031, 0x0040, 0x0050, 0x0060, 0x0070, 0x0080, 0x0090, 0x00A0, 0x00B0,
   0x00C0, 0x00D0, 0x00E0]

/-- The body of the section of a TYPE, with its offset in the Chart. -/
def findSect (ss : List Sect) (t : Nat) : Option Sect := ss.find? (fun x => x.type == t)

/-- Values with the offsets of their fields: every one is above the one before it. -/
def ascending (chk : Nat → Bool → Chk) : List (Nat × Nat) → List Chk
  | [] => []
  | [_] => []
  | a :: b :: r => chk b.1 (decide (a.2 < b.2)) :: ascending chk (b :: r)

/-- Values with the offsets of their fields: none repeats one of `seen` or an earlier one. -/
def distinct (chk : Nat → Bool → Chk) : List Nat → List (Nat × Nat) → List Chk
  | _, [] => []
  | seen, a :: r => chk a.1 (!seen.contains a.2) :: distinct chk (a.2 :: seen) r

/-- Entry `i` of a body of `n` entries of `w` bytes that start at `o`. -/
def entries (b : List Byte) (o w n : Nat) : List (Nat × List Byte) :=
  (List.range n).map (fun i => (o + w * i, (b.drop (o + w * i)).take w))

/-- A check of a section's field at offset `o` of its body. -/
def at' (s : Sect) (o : Nat) (ok : Bool) : Chk := ⟨ok, s.type, s.off + 8 + o⟩

/-- Zero checks of reserved byte ranges (R499). -/
def resv (s : Sect) (rs : List (Nat × Nat)) : List Chk := rs.map (fun r => at' s r.1 (zeroAt s.body r.1 r.2))

/-- The bits of the byte at `o` from bit `n` up are reserved (R499). -/
def resvBits (s : Sect) (o n : Nat) : Chk := at' s o (uAt s.body o 1 < 2 ^ n)

/-! ### Bodies -/

/-- "TXA-9480", zero-padded to 16 bytes (R30). -/
def partName : List Byte := [0x54, 0x58, 0x41, 0x2D, 0x39, 0x34, 0x38, 0x30, 0, 0, 0, 0, 0, 0, 0, 0]

def parseTarget (b : List Byte) : TargetCfg := ⟨b.take 16, uAt b 0x10 4, uAt b 0x14 2⟩

def topoOf (n : Nat) : Topo := if n = 0 then .solo else if n = 1 then .twin else .binary

def parseTopo (b : List Byte) : TopoCfg :=
  ⟨topoOf (uAt b 0 1), uAt b 4 4, (b.drop 8).take 16, (b.drop 0x18).take 16⟩

def parsePorts (b : List Byte) : SMap PortCfg :=
  (entries b 8 16 (uAt b 0 2)).foldl (fun m e =>
    let x := e.2
    if uAt x 1 1 = 1 then
      SMap.put PortCfg.off m (uAt x 0 1)
        ⟨true, uAt x 2 1, uAt x 3 1, uAt x 4 2, bitAt x 6 0, uAt x 8 2⟩
    else m) []

def parseMeridian (b : List Byte) : MeridianCfg :=
  ⟨uAt b 0 1, uAt b 2 2, uAt b 4 2, uAt b 8 4, uAt b 0xC 1, uAt b 0xD 1, uAt b 0xE 1, uAt b 0x10 8⟩

def parseNear (b : List Byte) : NearCfg :=
  let n := uAt b 0 2
  let m := uAt b 2 2
  { sets := (entries b 8 16 n).map (fun e => ⟨uAt e.2 0 8, uAt e.2 8 2, uAt e.2 0xA 1, uAt e.2 0xC 4⟩)
    carves := (entries b (8 + 16 * n) 16 m).map (fun e => ⟨uAt e.2 0 8, uAt e.2 8 4, uAt e.2 12 1⟩)
    fastBringUp := bitAt b 4 0 }

def mirrorOf (n : Nat) : Mirror := if n = 0 then .none else if n = 1 then .cold else .hot
def sharingOf (n : Nat) : Sharing := if n = 0 then .priv else if n = 1 then .shared else .sharedDb

def parseRegion (x : List Byte) : Region :=
  { id := uAt x 0 2, far := uAt x 2 1 == 1, light := uAt x 3 1 == 1, mirror := mirrorOf (uAt x 4 1)
    sharing := sharingOf (uAt x 5 1), keySlot := uAt x 6 2, base := uAt x 8 8, size := uAt x 0x10 8
    maskA := uAt x 0x18 8, maskB := uAt x 0x20 8, fastRestore := bitAt x 0x28 0, dynamic := bitAt x 0x28 1 }

def parseRegions (b : List Byte) : List Region := (entries b 8 48 (uAt b 0 2)).map (fun e => parseRegion e.2)

def parseFar (b : List Byte) : FarCfg :=
  { farGib := uAt b 0 4, sparePages := uAt b 4 1, reserve := uAt b 5 1, badReserve := uAt b 6 1
    rebuildShare := uAt b 7 1, seed := uAt b 8 8, patrolDays := uAt b 0x10 2, members := uAt b 0x18 32 }

def parseHalo (b : List Byte) : HaloCfg :=
  let np := uAt b 5 1
  { haloMib := uAt b 0 2, snoopMib := uAt b 2 2, byRegion := uAt b 4 1 == 1, defaultPart := uAt b 6 1
    parts := (entries b 16 8 np).map (fun e => ⟨bitAt e.2 1 0, bitAt e.2 1 1, uAt e.2 2 2⟩)
    map := (entries b (16 + 8 * np) 8 (uAt b 8 2)).map (fun e => (uAt e.2 0 2, uAt e.2 2 1)) }

def parsePers (b : List Byte) : PersCfg :=
  { energy := uAt b 0 1 == 1, journalGib := uAt b 2 2, normal := uAt b 4 4, degraded := uAt b 8 4
    govEpochs := uAt b 0xC 4, lifeDays := uAt b 0x10 4, peRated := uAt b 0x14 4, enduranceShare := uAt b 0x18 2
    bucketWindows := uAt b 0x1C 4, minAgeEpochs := uAt b 0x20 4 }

def parseTwin (b : List Byte) : TwinCfg :=
  ⟨uAt b 0 2, uAt b 2 2, uAt b 4 1, uAt b 5 1, uAt b 6 1, uAt b 8 4⟩

def parseOrbit (b : List Byte) : OrbitCfg :=
  { enable := uAt b 0 1 == 1, ethMode := uAt b 1 1 == 1, udpPort := uAt b 2 2, nodeA := uAt b 4 2, nodeB := uAt b 6 2
    dscp := uAt b 8 1, vlan := bitAt b 9 0, vlanTag := uAt b 0xA 2, backedQueues := uAt b 0xC 4, keys := uAt b 0x10 4
    lifetimeUs := uAt b 0x14 4, rtoMinUs := uAt b 0x18 4, targetDelayUs := uAt b 0x1C 4, maxInflight := uAt b 0x20 2
    macA := uAt b 0x28 6, macB := uAt b 0x30 6, nodePrefix := uAt b 0x40 16
    gateways := (List.range 8).map (fun p => uAt b (0x50 + 8 * p) 6)
    sas := (entries b 0x90 8 (uAt b 0x22 2)).map (fun e => ⟨uAt e.2 0 2, bitAt e.2 2 0⟩) }

def parseTransit (b : List Byte) : TransitCfg :=
  { enable := uAt b 0 1 == 1, pinWays := uAt b 1 1, stallUs := uAt b 4 4
    windows := (entries b 16 16 (uAt b 2 2)).map (fun e =>
      ⟨uAt e.2 0 2, uAt e.2 2 1, uAt e.2 3 1, uAt e.2 4 1, bitAt e.2 5 0, uAt e.2 8 4⟩) }

def parseCipher (b : List Byte) : CipherCfg :=
  { ranges := uAt b 0 1 == 1, pages := uAt b 1 1 == 1, xtsFirst := uAt b 4 2, xtsCount := uAt b 6 2
    gcmFirst := uAt b 8 2, gcmCount := uAt b 0xA 2, shareOrbit := uAt b 0xC 1, shareCrn := uAt b 0xD 1
    shareMedia := uAt b 0xE 1, shareQueue := uAt b 0xF 1, xtsQueueShare := uAt b 0x10 1
    queueOwner := ((List.range 256).map (fun q => (q, uAt b (0x20 + q) 1))).filter (fun e => e.2 != 0xFF) }

def parseThermal (b : List Byte) : ThermalCfg :=
  ⟨uAt b 0 1, uAt b 1 1, uAt b 2 1, uAt b 3 1, uAt b 4 1, uAt b 5 1, uAt b 6 1, uAt b 7 1, uAt b 8 1⟩

def parsePower (b : List Byte) : PowerCfg :=
  { retries := uAt b 0 1, dawnLimit := uAt b 1 1, slotMask := uAt b 2 2
    rails := (entries b 0x10 8 16).map (fun e =>
      ⟨uAt e.2 0 1, bitAt e.2 1 0, bitAt e.2 1 1, bitAt e.2 1 2, uAt e.2 2 2, uAt e.2 4 2, uAt e.2 6 2⟩) }

def actionOf (n : Nat) : FaultAction :=
  if n = 1 then .release else if n = 2 then .firmwareRestart else if n = 3 then .duskOff
  else if n = 4 then .duskCycle else .none

def parseFaults (b : List Byte) : SMap FaultAction :=
  (entries b 8 4 (uAt b 0 2)).foldl (fun m e => SMap.put FaultAction.none m (uAt e.2 0 1) (actionOf (uAt e.2 1 1))) []

def parseAlm (b : List Byte) : AlmCfg :=
  { freezeMaxMs := uAt b 2 2
    entries := (entries b 16 32 (uAt b 0 2)).map (fun e =>
      { slot := uAt e.2 0 2, metric := uAt e.2 2 2, inst := uAt e.2 4 2, rate := uAt e.2 6 1 == 1
        log2 := uAt e.2 7 1 == 1, low := toSigned 64 (uAt e.2 8 8), width := uAt e.2 0x10 8
        interval := uAt e.2 0x18 4 }) }

/-- The text of a Chart: its header values and the bodies of the sections it carries. -/
def parseText (b : List Byte) (ss : List Sect) : ChartText :=
  let get (t : Nat) : Option (List Byte) := (findSect ss t).map (·.body)
  { serial := uAt b 8 4, tag := uAt b 0x38 8, keyId := (b.drop 0x28).take 16, headPart := (b.drop 0x18).take 16
    digest := bytesBits 512 (Config.shake256 64 (b.take (uAt b 0x10 4 - 128)))
    target := parseTarget ((get 0x0001).getD []), topo := parseTopo ((get 0x0010).getD [])
    ports := (get 0x0011).map parsePorts, portsBody := get 0x0011, meridian := (get 0x0020).map parseMeridian
    near := (get 0x0030).map parseNear, regions := (get 0x0031).map parseRegions, far := (get 0x0040).map parseFar
    halo := (get 0x0050).map parseHalo, pers := (get 0x0060).map parsePers, twin := (get 0x0070).map parseTwin
    orbit := (get 0x0080).map parseOrbit, transit := (get 0x0090).map parseTransit
    cipher := (get 0x00A0).map parseCipher, thermal := (get 0x00B0).map parseThermal
    power := (get 0x00C0).map parsePower, faults := (get 0x00D0).map parseFaults, alm := (get 0x00E0).map parseAlm }

/-! ### Section format (R31, R34, R499) -/

/-- The body length a section's layout gives, from its own counts. A FAULT_REACTION of an odd COUNT ends 4 bytes short of the multiple of 8 that R31
asks: its LENGTH takes 4 bytes more, of any value (assumption 116, DESIGN CHOICE). -/
def bodyLen (t : Nat) (b : List Byte) : Nat :=
  if t = 0x0001 then 32 else if t = 0x0010 then 48
  else if t = 0x0011 then 8 + 16 * uAt b 0 2
  else if t = 0x0020 then 32
  else if t = 0x0030 then 8 + 16 * uAt b 0 2 + 16 * uAt b 2 2
  else if t = 0x0031 then 8 + 48 * uAt b 0 2
  else if t = 0x0040 then 56
  else if t = 0x0050 then 16 + 8 * uAt b 5 1 + 8 * uAt b 8 2
  else if t = 0x0060 then 48 else if t = 0x0070 then 16
  else if t = 0x0080 then 144 + 8 * uAt b 0x22 2
  else if t = 0x0090 then 16 + 16 * uAt b 2 2
  else if t = 0x00A0 then 288 else if t = 0x00B0 then 16 else if t = 0x00C0 then 144
  else if t = 0x00D0 then 8 + 8 * ((uAt b 0 2 + 1) / 2)
  else 16 + 32 * uAt b 0 2

/-- Reserved bytes and bits, order and uniqueness within one body (R499, R39, R381). See assumption 40 (DEDUCED). A set bit in FLAGS [7:2] of a region,
which R45 neither defines nor marks reserved, is a format error too (assumption 117, DESIGN CHOICE). -/
def formatOf (s : Sect) : List Chk :=
  let b := s.body
  let t := s.type
  let each (o w n : Nat) (f : Nat → List Byte → List Chk) : List Chk :=
    (entries b o w n).flatMap (fun e => f e.1 e.2)
  let order (o w n k : Nat) : List Chk :=
    ascending (at' s) ((entries b o w n).map (fun e => (e.1, uAt e.2 0 k)))
  if t = 0x0001 then resv s [(0x16, 10)]
  else if t = 0x0010 then resv s [(1, 3), (0x28, 8)]
  else if t = 0x0011 then
    resv s [(2, 6)] ++ order 8 16 (uAt b 0 2) 1 ++
    each 8 16 (uAt b 0 2) (fun o e =>
      [at' s (o + 7) (zeroAt e 7 1), at' s (o + 10) (zeroAt e 10 6)] ++
      (if uAt e 1 1 = 1 then [at' s (o + 6) (decide (uAt e 6 1 < 2))] else []))
  else if t = 0x0020 then resv s [(1, 1), (6, 2), (0xF, 1), (0x18, 8)] ++ [resvBits s 0xE 2]
  else if t = 0x0030 then
    resv s [(5, 3)] ++ [resvBits s 4 1] ++
    each 8 16 (uAt b 0 2) (fun o e => [at' s (o + 0xB) (zeroAt e 0xB 1)]) ++
    each (8 + 16 * uAt b 0 2) 16 (uAt b 2 2) (fun o e => [at' s (o + 13) (zeroAt e 13 3)]) ++
    distinct (at' s) [] ((entries b (8 + 16 * uAt b 0 2) 16 (uAt b 2 2)).map (fun e => (e.1 + 12, uAt e.2 12 1)))
  else if t = 0x0031 then
    resv s [(2, 6)] ++
    each 8 48 (uAt b 0 2) (fun o e =>
      [at' s (o + 0x28) (decide (uAt e 0x28 1 < 4)), at' s (o + 0x29) (zeroAt e 0x29 7)]) ++
    distinct (at' s) [] ((entries b 8 48 (uAt b 0 2)).map (fun e => (e.1, uAt e.2 0 2)))
  else if t = 0x0040 then resv s [(0x12, 6)]
  else if t = 0x0050 then
    let np := uAt b 5 1
    resv s [(7, 1), (0xA, 6)] ++
    each 16 8 np (fun o e =>
      [at' s o (decide (uAt e 0 1 = (o - 16) / 8)), at' s (o + 1) (decide (uAt e 1 1 < 4)), at' s (o + 4) (zeroAt e 4 4)]) ++
    order (16 + 8 * np) 8 (uAt b 8 2) 2 ++
    each (16 + 8 * np) 8 (uAt b 8 2) (fun o e => [at' s (o + 3) (zeroAt e 3 5)])
  else if t = 0x0060 then resv s [(1, 1), (0x1A, 2), (0x24, 12)]
  else if t = 0x0070 then resv s [(7, 1), (0xC, 4)]
  else if t = 0x0080 then
    resv s [(0x24, 4), (0x2E, 2), (0x36, 10)] ++ [resvBits s 9 1] ++
    each 0x50 8 8 (fun o e => [at' s (o + 6) (zeroAt e 6 2)]) ++
    each 0x90 8 (uAt b 0x22 2) (fun o e => [at' s (o + 2) (decide (uAt e 2 1 < 2)), at' s (o + 3) (zeroAt e 3 5)])
  else if t = 0x0090 then
    resv s [(8, 8)] ++ order 16 16 (uAt b 2 2) 2 ++
    each 16 16 (uAt b 2 2) (fun o e =>
      [at' s (o + 5) (decide (uAt e 5 1 < 2)), at' s (o + 6) (zeroAt e 6 2), at' s (o + 12) (zeroAt e 12 4)])
  else if t = 0x00A0 then resv s [(2, 2), (0x11, 15)]
  else if t = 0x00B0 then resv s [(9, 7)]
  else if t = 0x00C0 then
    resv s [(4, 12)] ++
    each 0x10 8 16 (fun o e =>
      if (uAt b 2 2).testBit ((o - 0x10) / 8) then [at' s (o + 1) (decide (uAt e 1 1 < 8))] else [])
  else if t = 0x00D0 then
    resv s [(2, 6)] ++ order 8 4 (uAt b 0 2) 1 ++
    each 8 4 (uAt b 0 2) (fun o e => [at' s (o + 2) (zeroAt e 2 2)])
  else
    resv s [(4, 12)] ++ order 16 32 (uAt b 0 2) 2 ++
    each 16 32 (uAt b 0 2) (fun o e => [at' s (o + 0x1C) (zeroAt e 0x1C 4)])

/-- Every check of reason SECTION_FORMAT. -/
def formatChecks (b : List Byte) (ss : List Sect) : List Chk :=
  let sigOff := uAt b 0x10 4 - 128
  [ ⟨zeroAt b 0xE 2, 0, 0xE⟩, ⟨zeroAt b 0x14 4, 0, 0x14⟩, ⟨zeroAt b 0x40 192, 0, 0x40⟩,
    ⟨uAt b 0xC 2 == ss.length, 0, 0xC⟩ ] ++
  ascending (fun o ok => ⟨ok, uAt b o 2, o⟩) (ss.map (fun s => (s.off, s.type))) ++
  ss.map (fun s => ⟨sectTypes.contains s.type, s.type, s.off⟩) ++
  [ ⟨(findSect ss 0x0001).isSome, 0x0001, 0x100⟩,
    ⟨(findSect ss 0x0010).isSome, 0x0010, 0x100⟩,
    ⟨uAt b sigOff 2 == 0xFFFF && uAt b (sigOff + 2) 2 == 0 && uAt b (sigOff + 4) 4 == 120
      && zeroAt b (sigOff + 122) 6, 0xFFFF, sigOff⟩ ] ++
  ss.flatMap (fun s =>
    [⟨s.flags == 0, s.type, s.off + 2⟩,
     ⟨s.body.length % 8 == 0 && s.body.length == bodyLen s.type s.body, s.type, s.off + 4⟩] ++ formatOf s)

/-! ### Default bodies (R35, R61, R500) -/

/-- Logical devices that HOST_PORTS enables, as a mask (R40). -/
def enabledLds (ps : SMap PortCfg) : Nat :=
  ps.foldl (fun m e => if e.2.enable then m ||| ((2 ^ e.2.ldCount - 1) <<< (16 * e.1)) else m) 0

/-- The default HOST_PORTS body (R61). -/
def defaultPorts : SMap PortCfg := (List.range 4).map (fun p => (p, ⟨true, 0, 0, 1, false, 4096⟩))

/-- The default HOST_PORTS body as bytes (R39, R61). -/
def defaultPortsBody : List Byte := natLe 8 4 ++ (List.range 4).flatMap (fun p => natLe 1 p ++ natLe 1 1 ++ natLe 2 0 ++ natLe 2 1 ++ natLe 2 0 ++ natLe 8 4096)

/-- Split a group of channels into sets of 16, 8, 4, 2 and 1, largest first (R61). -/
def splitGroup : List Nat → Nat → List Nat → List (List Nat)
  | [], _, _ => []
  | k :: ks, cap, cs =>
    if k ≤ cs.length ∧ 0 < k then (cs.take k) :: splitGroup ks cap (cs.drop k) else splitGroup ks cap cs

/-- Place sets contiguously from `base` (R61). -/
def placeSets : Nat → List (List Nat × Nat) → List ISet
  | _, [] => []
  | base, (cs, size) :: r => ⟨base, maskOf cs, 8, size⟩ :: placeSets (base + size * gib) r

/-- Insert into a list sorted by `le`. -/
def insertBy (le : α → α → Bool) (x : α) : List α → List α
  | [] => [x]
  | y :: ys => if le x y then x :: y :: ys else y :: insertBy le x ys

/-- Sort by `le`. -/
def sortBy (le : α → α → Bool) : List α → List α
  | [] => []
  | x :: xs => insertBy le x (sortBy le xs)

/-- The default interleave sets of the discovered population (R61). -/
def defaultSets (pop : Population) : List ISet :=
  let caps := (pop.chans.map (·.2)).eraseDups
  let groups := caps.flatMap (fun cap =>
    let cs := (List.filter (fun e => e.2 == cap) pop.chans).map (·.1)
    (splitGroup [16, 8, 4, 2, 1] cap cs).map (fun g => (g, g.length * cap)))
  placeSets 0 (sortBy (fun x y => x.2 < y.2 || (x.2 == y.2 && x.1.headD 0 ≤ y.1.headD 0)) groups)

/-- Total bytes of a list of sets. -/
def setsBytes (ss : List ISet) : Nat := (ss.map (fun s => s.sizeGib * gib)).foldl (· + ·) 0

/-- Total bytes of a list of carve-outs. -/
def carvesBytes (cs : List Carve) : Nat := (cs.map (fun c => c.sizeMib * mib)).foldl (· + ·) 0

/-- A size in MiB rounded up to a multiple of 2. -/
def even (m : Nat) : Nat := 2 * ceilDiv m 2

/-- Lay carve-outs from `base` upward. -/
def layCarves : Nat → List (Nat × Nat) → List Carve
  | _, [] => []
  | base, (kind, m) :: r => ⟨base, m, kind⟩ :: layCarves (base + m * mib) r

/-- The default NEAR_LAYOUT of the discovered population, with FAR_STAGING when a Far region exists (R61). -/
def defaultNear (pop : Population) (far : Bool) : NearCfg :=
  let ss := defaultSets pop
  let n := setsBytes ss
  let hi := (ss.getLast?.map (·.sizeGib)).getD 0
  let stag := max 1 (min 64 (hi / 8))
  let kinds := [(7, 256), (8, even (ceilDiv (ceilDiv n 32768) mib)), (1, even (ceilDiv (ceilDiv n 16384) mib)),
    (6, even (ceilDiv (ceilDiv n 512) mib))] ++ (if far then [(4, stag * 1024)] else [])
  let total := ceilDiv ((kinds.map (·.2)).foldl (· + ·) 0) 1024 * gib
  { sets := ss, carves := layCarves (n - total) kinds, fastBringUp := false }

/-- Bytes of local Near: the end of the highest interleave set (R41). -/
def nearTop (n : NearCfg) : Nat := (n.sets.map (fun s => s.base + s.sizeGib * gib)).foldl Nat.max 0

/-- The lowest carve-out address of a layout. -/
def carveFloor (n : NearCfg) : Nat := (n.carves.map (·.base)).foldl min (setsBytes n.sets + 2 ^ 63)

/-- The carve-out of a kind (Table 2-3). -/
def carveOf (n : NearCfg) (kind : Nat) : Option Carve := n.carves.find? (fun c => c.kind == kind)

/-- Bytes of a carve-out kind; 0 when absent. -/
def carveSize (n : NearCfg) (kind : Nat) : Nat := ((carveOf n kind).map (fun c => c.sizeMib * mib)).getD 0

/-- 256 MiB, the unit of regions, frames and dynamic capacity blocks (R45, R93, R261). -/
def frame : Nat := 2 ^ 28

/-- Region 0 of the default Chart (R61). In a Binary Chart that omits REGIONS it covers one unit's Near below its carve-outs, U and not 2 x U. See
assumption 44 (DESIGN CHOICE). -/
def defaultRegion0 (n : NearCfg) (mode : Topo) (mask : Nat) : Region :=
  { id := 0, far := false, light := false, mirror := if mode = .twin then .hot else .none, sharing := .priv
    keySlot := 0xFFFF, base := 0, size := carveFloor n / frame * frame, maskA := mask
    maskB := if mode = .binary then mask else 0, fastRestore := false, dynamic := true }

/-- Region 1 of the default Chart (R61). In a Binary Chart that omits REGIONS it covers FAR_GIB and not twice that. See assumption 44 (DESIGN CHOICE). -/
def defaultRegion1 (farGib : Nat) (mode : Topo) (mask : Nat) : Region :=
  { id := 1, far := true, light := false, mirror := .none, sharing := .priv, keySlot := 0xFFFF, base := farBase
    size := farGib * gib, maskA := mask, maskB := if mode = .binary then mask else 0
    fastRestore := false, dynamic := true }

/-- Bytes of `[0, x)` of a pair address space homed on unit A, or on unit B (R260). -/
def homedBelow (b : Bool) (x : Nat) : Nat :=
  (x >>> 31) <<< 30 + (if b then x % 2 ^ 31 - 2 ^ 30 else min (x % 2 ^ 31) (2 ^ 30))

/-- Bytes of a region that are local to this unit (R260). -/
def localBytes (mode : Topo) (isB : Bool) (base size : Nat) : Nat :=
  if mode = .binary then homedBelow isB (base + size) - homedBelow isB base else size

/-- Tracked Near capacity T: local Near regions with the MEMORY_KEYS and FAR_STAGING carve-outs (R174). -/
def nearTracked (n : NearCfg) (rs : List Region) (mode : Topo) (isB : Bool) : Nat :=
  ((rs.filter (fun r => !r.far)).map (fun r => localBytes mode isB r.base r.size)).foldl (· + ·) 0
    + carveSize n 3 + carveSize n 4

/-- COLD Near and Far capacity that a unit of a Binary pair mirrors for its twin (R275). -/
def coldMirrored (rs : List Region) (mode : Topo) (isB : Bool) : Nat :=
  if mode = .binary then
    ((rs.filter (fun r => r.mirror == .cold)).map (fun r => let o := if r.far then r.base - farBase else r.base; localBytes mode (!isB) o r.size)).foldl (· + ·) 0
  else 0

/-- T with the COLD capacity mirrored for the twin, which R209 adds to T and F (R275). -/
def trackedBytes (n : NearCfg) (rs : List Region) (mode : Topo) (isB : Bool) : Nat := nearTracked n rs mode isB + coldMirrored rs mode isB

/-- Stripe data bytes (R209, R210). -/
def stripeBytes : Nat := 2 ^ 18

/-- Does R209's inequality hold for a pool? -/
def poolCloses (pop : Population) (f : FarCfg) (t journalGib : Nat) : Bool :=
  let ms := bitsOf 256 f.members
  let n := ms.length
  let k := (n - f.sparePages) / 18
  let w := pop.pagesPerBlock
  let slc := w / 3 * k * stripeBytes
  let tlc := w * k * stripeBytes
  let fb := f.farGib * gib
  let b := (ms.map (fun g => SMap.get 0 pop.goodBlocks g)).foldl min (2 ^ 32)
  let zJrnl := ceilDiv (journalGib * gib) slc
  let zMeta := ceilDiv (ceilDiv (32 * (t + fb)) 4096) slc + 2
  let zTlc := ceilDiv (ceilDiv ((t + fb) * (1024 + f.reserve)) 1024) tlc + 4
  let zBad := ceilDiv (b * f.badReserve) 1000
  decide (18 + f.sparePages ≤ n) && ms.any (· < 128) && ms.any (128 ≤ ·) && decide (0 < slc)
    && decide (128 + zMeta + zJrnl + zTlc + zBad ≤ b)

/-- The largest FAR_GIB in `lo .. lo + 2 ^ fuel - 1` for which the pool closes, by halving. -/
def largestFar : Nat → Population → FarCfg → Nat → Nat → Nat → Nat
  | 0, _, _, _, _, lo => lo
  | n + 1, pop, f, t, j, lo =>
    let mid := lo + 2 ^ n
    if mid ≤ 40960 ∧ poolCloses pop { f with farGib := mid } t j = true then largestFar n pop f t j mid
    else largestFar n pop f t j lo

/-- The default FAR_LAYOUT (R233): all present dies, the largest FAR_GIB for which R209 closes. -/
def defaultFar (pop : Population) (t journalGib : Nat) : FarCfg :=
  let f : FarCfg := { members := maskOf pop.dies }
  { f with farGib := largestFar 16 pop f t journalGib 0 }

/-- The default ALMANAC entries (Table 16-7, R428) under a MERIDIAN body. -/
def defaultAlm (m : MeridianCfg) : AlmCfg :=
  let hour := 3_600_000_000_000 / (m.l * m.tickNs)
  let minute := 60_000_000_000 / (m.l * m.tickNs)
  let rows : List (Nat × Nat × Bool × Bool × Int × Nat × Nat) :=
    [(1, 4, false, true, 64, 0, 0), (2, 4, false, true, 64, 0, 0), (3, 16, true, false, 0, 1, hour),
     (4, 32, false, false, -640, 80, 0), (5, 32, false, false, -640, 80, 0), (6, 16, false, true, 100, 0, 0),
     (7, 2, false, false, 0, m.l / 32, 0), (8, 1, false, false, 0, 32, 0), (9, 2, true, false, 0, 1, minute),
     (10, 2, false, true, 500, 0, 0), (11, 1, false, true, 1000, 0, 0)]
  let es := rows.flatMap (fun r => (List.range r.2.1).map (fun i =>
    (⟨0, r.1, i, r.2.2.1, r.2.2.2.1, r.2.2.2.2.1, r.2.2.2.2.2.1, r.2.2.2.2.2.2⟩ : AlmEntry)))
  { freezeMaxMs := 1000, entries := es.zipIdx.map (fun e => { e.1 with slot := e.2 }) }

/-- Fill in the omitted bodies, in the order of R500. -/
def resolve (pop : Population) (isB : Bool) (x : ChartText) (isDefault : Bool) : Chart :=
  let ports := x.ports.getD defaultPorts
  let mask := enabledLds ports
  let mode := x.topo.mode
  let pers := x.pers.getD {}
  let farExists := match x.regions with
    | some rs => rs.any (·.far)
    | none => !((x.far.map (fun f => f.farGib == 0)).getD false) && ((x.near.map (fun n => (carveOf n 4).isSome)).getD true)
  let near0 := x.near.getD (defaultNear pop farExists)
  let regs0 := x.regions.getD [defaultRegion0 near0 mode mask]
  let far := x.far.getD (defaultFar pop (trackedBytes near0 regs0 mode isB) pers.journalGib)
  let near := if x.near.isNone && x.regions.isNone && farExists && far.farGib == 0 then defaultNear pop false else near0
  let regions := x.regions.getD
    ([defaultRegion0 near mode mask] ++ (if far.farGib == 0 then [] else [defaultRegion1 far.farGib mode mask]))
  { serial := x.serial, tag := x.tag, digest := x.digest, isDefault := isDefault, target := x.target, topo := x.topo
    ports := ports, portsBody := x.portsBody.getD defaultPortsBody, meridian := x.meridian.getD {}, near := near, regions := regions, far := far
    halo := x.halo.getD {}, pers := pers, twin := x.twin.getD {}, orbit := x.orbit.getD {}
    transit := x.transit.getD {}, cipher := x.cipher.getD {}, thermal := x.thermal.getD {}
    power := x.power.getD {}, faults := x.faults.getD [], alm := x.alm.getD (defaultAlm (x.meridian.getD {})) }

/-- The built-in default Chart for a population (R61); its topology is decided at D6 (R62). -/
def defaultChart (pop : Population) (mode : Topo) (isB : Bool) : Chart :=
  resolve pop isB { topo := { mode := mode } } true

end Sys2Proof.Machine
end

