-- ==== Sys2Proof/Machine/ChartCheck.lean ====
section
/-!
DEFINITION. Validation of a Chart in the order of Table 2-5 (R49): ranges (RESOURCE), sums (SUM), population, and the
whole check of an envelope.
-/
namespace Sys2Proof.Machine
open Sys2Proof

/-- `lo ≤ v ≤ hi`. -/
def within (v lo hi : Nat) : Bool := decide (lo ≤ v) && decide (v ≤ hi)

/-- Does an LD mask name only enabled logical devices (R46)? -/
def maskOk (enabled m : Nat) : Bool := m &&& enabled == m

/-- Is the slot a user slot (R334)? -/
def userSlot (k : Nat) : Bool := within k 32 8191

/-- Is a slot inside the XTS range (R334)? -/
def inXts (c : CipherCfg) (k : Nat) : Bool := !c.ranges || (decide (c.xtsFirst ≤ k) && decide (k < c.xtsFirst + c.xtsCount))

/-- Is a slot inside the GCM range (R334)? -/
def inGcm (c : CipherCfg) (k : Nat) : Bool := !c.ranges || (decide (c.gcmFirst ≤ k) && decide (k < c.gcmFirst + c.gcmCount))

/-- Ethernet ports of an ETH_MODE (R293). -/
def ethPorts (o : OrbitCfg) : Nat := if o.ethMode then 4 else 8

/-- Range checks of one section (RESOURCE), as its own rule gives them. -/
def resourceOf (c : Chart) (s : Sect) : List Chk :=
  let b := s.body
  let t := s.type
  let each (o w n : Nat) (f : Nat → List Byte → List Chk) : List Chk := (entries b o w n).flatMap (fun e => f e.1 e.2)
  let f (o w lo hi : Nat) : Chk := at' s o (within (uAt b o w) lo hi)
  let lds := enabledLds c.ports
  if t = 0x0011 then
    [f 0 2 1 4] ++ each 8 16 (uAt b 0 2) (fun o e =>
      [at' s o (within (uAt e 0 1) 0 3), at' s (o + 1) (within (uAt e 1 1) 0 1)] ++
      (if uAt e 1 1 = 1 then
        [at' s (o + 2) (within (uAt e 2 1) 0 2), at' s (o + 3) (within (uAt e 3 1) 0 2),
         at' s (o + 4) (within (uAt e 4 2) 1 16), at' s (o + 8) (within (uAt e 8 2) 1 4096)] else []))
  else if t = 0x0020 then
    let m := c.meridian
    [f 0 1 0 2, at' s 2 (within m.tickNs 40 1000 && m.tickNs % 10 == 0), f 4 2 0 300,
     at' s 8 (within (m.l * m.tickNs) 100_000 100_000_000),
     at' s 0xD (m.source != 1 || decide (m.ptpPort < ethPorts c.orbit))]
  else if t = 0x0030 then
    [f 0 2 1 16, f 2 2 4 8] ++
    each 8 16 (uAt b 0 2) (fun o e =>
      let k := popcount 16 (uAt e 8 2)
      [at' s o (uAt e 0 8 % gib == 0), at' s (o + 8) ([1, 2, 4, 8, 16].contains k),
       at' s (o + 0xA) (within (uAt e 0xA 1) 7 12),
       at' s (o + 0xC) (uAt e 0xC 4 != 0 && uAt e 0xC 4 % (max k 1) == 0)]) ++
    each (8 + 16 * uAt b 0 2) 16 (uAt b 2 2) (fun o e =>
      [at' s o (uAt e 0 8 % (2 * mib) == 0), at' s (o + 8) (uAt e 8 4 != 0 && uAt e 8 4 % 2 == 0),
       at' s (o + 12) (within (uAt e 12 1) 1 8)])
  else if t = 0x0031 then
    [f 0 2 1 1024] ++ each 8 48 (uAt b 0 2) (fun o e =>
      let far := uAt e 2 1 == 1
      let mirror := uAt e 4 1
      let mA := uAt e 0x18 8
      let mB := uAt e 0x20 8
      let dyn := bitAt e 0x28 1
      let slot := uAt e 6 2
      [at' s o (within (uAt e 0 2) 0 1023), at' s (o + 2) (within (uAt e 2 1) 0 1),
       at' s (o + 3) (within (uAt e 3 1) 0 1 && (!far || uAt e 3 1 == 0)),
       at' s (o + 4) (within mirror 0 2 && (mirror != 2 || (!far && c.topo.mode != .solo)) && (mirror != 1 || c.topo.mode != .solo)),
       at' s (o + 5) (within (uAt e 5 1) 0 2 && (!far || uAt e 5 1 != 2)),
       at' s (o + 6) (slot == 0xFFFF || (userSlot slot && inXts c.cipher slot)),
       at' s (o + 8) (uAt e 8 8 % frame == 0), at' s (o + 0x10) (uAt e 0x10 8 % frame == 0 && uAt e 0x10 8 != 0),
       at' s (o + 0x18) (maskOk lds mA), at' s (o + 0x20) (maskOk lds mB && (c.topo.mode == .binary || mB == 0)),
       at' s (o + 0x18) (uAt e 5 1 != 0 || dyn || popcount 64 mA + popcount 64 mB == 1)]) ++
    [at' s 8 ((List.range 64).all (fun l =>
      decide ((c.regions.filter (fun r => r.dynamic && r.maskA.testBit l)).length ≤ 8) &&
      decide ((c.regions.filter (fun r => r.dynamic && r.maskB.testBit l)).length ≤ 8)))]
  else if t = 0x0040 then
    [f 0 4 0 40960, f 4 1 1 8, f 5 1 32 255, f 6 1 10 100, f 7 1 1 16, f 0x10 2 1 365]
  else if t = 0x0050 then
    let h := c.halo
    let np := uAt b 5 1
    [at' s 0 (within h.haloMib 16 192 && h.haloMib % 16 == 0), at' s 2 ([0, 16, 32, 48, 64].contains h.snoopMib),
     f 4 1 0 1, f 5 1 1 16, at' s 6 (decide (h.defaultPart < np)), f 8 2 0 1024] ++
    each 16 8 np (fun o e => [at' s (o + 2) (decide (2 ≤ popcount 16 (uAt e 2 2)))]) ++
    each (16 + 8 * np) 8 (uAt b 8 2) (fun o e =>
      [at' s (o + 2) (decide (uAt e 2 1 < np)), at' s o (h.byRegion || (decide (uAt e 0 2 < 64) && lds.testBit (uAt e 0 2)))])
  else if t = 0x0060 then
    let en := c.pers.energy
    [f 0 1 0 1, f 2 2 64 1024, (if en then f 4 4 201 1_000_000 else f 4 4 4 1024),
     (if en then f 8 4 201 1_000_000 else f 8 4 1 1024), f 0xC 4 1 100_000, f 0x10 4 365 7305,
     at' s 0x14 (c.pers.peRated == 0 || within c.pers.peRated 100 100_000), f 0x18 2 1 1024, f 0x1C 4 1 1_000_000,
     f 0x20 4 0 1_000_000]
  else if t = 0x0070 then
    let w := c.twin
    let l := w.leaseMs * 1_000_000 / c.meridian.tickNs
    let g := ceilDiv 1_000_000 c.meridian.tickNs + 2
    if c.topo.mode = .solo then [] else
      [f 0 2 2 500, f 2 2 100 5000, f 4 1 2 64, f 5 1 1 16, f 6 1 1 50, f 8 4 100 10_000,
       at' s 2 (decide (w.heartbeatUs * 4 ≤ w.leaseMs * 1000)), at' s 0 (decide (g + 864 < l))]
  else if t = 0x0080 then
    let o := c.orbit
    [f 0 1 0 1, f 1 1 0 1, at' s 2 (!o.enable || o.udpPort != 0),
     at' s 4 (c.topo.mode == .solo || o.nodeA != o.nodeB), f 8 1 0 63, at' s 0xA (decide (o.vlanTag % 4096 ≤ 4094)),
     f 0xC 4 1 4_194_304, f 0x10 4 1 16_777_216, f 0x14 4 1000 1_000_000, f 0x18 4 10 10_000, f 0x1C 4 2 1000,
     f 0x20 2 1 1024, f 0x22 2 0 4096, at' s 0x28 (!(o.macA.testBit 40)), at' s 0x30 (!(o.macB.testBit 40)),
     at' s 0x40 (o.nodePrefix % 65536 == 0)] ++
    each 0x90 8 (uAt b 0x22 2) (fun p e => [at' s p (userSlot (uAt e 0 2) && inGcm c.cipher (uAt e 0 2))])
  else if t = 0x0090 then
    [f 0 1 0 1, f 1 1 0 15, f 2 2 0 256, f 4 4 100 100_000] ++
    each 16 16 (uAt b 2 2) (fun o e =>
      [at' s o (within (uAt e 0 2) 0 255), at' s (o + 2) (within (uAt e 2 1) 0 1 && (uAt e 2 1 == 0 || c.topo.mode == .binary)),
       at' s (o + 3) (decide (uAt e 3 1 < 64) && lds.testBit (uAt e 3 1)), at' s (o + 4) (within (uAt e 4 1) 2 64),
       at' s (o + 8) (within (uAt e 8 4) 2 4096 && uAt e 8 4 % 2 == 0)]) ++
    [at' s 16 ((List.range 64).all (fun l =>
      decide ((c.transit.windows.filter (fun w => w.owner == l && w.unit == 0)).length ≤ 16) &&
      decide ((c.transit.windows.filter (fun w => w.owner == l && w.unit == 1)).length ≤ 16)))]
  else if t = 0x00A0 then
    let i := c.cipher
    [f 0 1 0 1, f 1 1 0 1, f 0xC 1 0 16, f 0xD 1 0 16, f 0xE 1 2 16, f 0xF 1 0 16, f 0x10 1 0 8] ++
    (if i.ranges then [f 4 2 32 8191, f 6 2 0 8160, f 8 2 32 8191, f 0xA 2 0 8160,
      at' s 4 (decide (i.xtsFirst + i.xtsCount ≤ 8192)), at' s 8 (decide (i.gcmFirst + i.gcmCount ≤ 8192))] else []) ++
    [at' s 0x20 (i.queueOwner.all (fun e => decide (e.2 < 64) && lds.testBit e.2))]
  else if t = 0x00B0 then
    [f 0 1 70 115, f 1 1 60 114, f 2 1 80 119, f 3 1 70 118, f 4 1 105 120, f 5 1 1 15, f 6 1 1 100, f 7 1 70 95, f 8 1 1 15]
  else if t = 0x00C0 then
    [f 0 1 1 7, f 1 1 1 7, at' s 2 (uAt b 2 2 != 0)] ++
    each 0x10 8 16 (fun o e =>
      if (uAt b 2 2).testBit ((o - 0x10) / 8) then
        [at' s o (within (uAt e 0 1) 0 15), at' s (o + 1) (!(bitAt e 1 0 && bitAt e 1 1)),
         at' s (o + 2) (within (uAt e 2 2) 1 10_000), at' s (o + 4) (within (uAt e 4 2) 1 10_000),
         at' s (o + 6) (within (uAt e 6 2) 0 10_000)] else [])
  else if t = 0x00D0 then
    [f 0 2 0 91] ++ each 8 4 (uAt b 0 2) (fun o e =>
      [at' s o (within (uAt e 0 1) 0 90), at' s (o + 1) (within (uAt e 1 1) 0 4)])
  else if t = 0x00E0 then
    [f 0 2 0 512, f 2 2 10 10_000] ++ each 16 32 (uAt b 0 2) (fun o e =>
      let i := uAt e 4 2
      let lim := [0, 4, 4, 16, 32, 32, 16, 2, 1, 2, 2, 1, 256, 2]
      [at' s o (within (uAt e 0 2) 0 511), at' s (o + 2) (within (uAt e 2 2) 1 13),
       at' s (o + 4) (decide (i < nth 0 lim (uAt e 2 2))), at' s (o + 6) (within (uAt e 6 1) 0 1),
       at' s (o + 7) (within (uAt e 7 1) 0 1),
       at' s (o + 0x10) (uAt e 6 1 == 1 || uAt e 7 1 == 1 || uAt e 0x10 8 != 0),
       at' s (o + 8) (uAt e 7 1 != 1 || uAt e 6 1 == 1 || decide ((0 : Int) < toSigned 64 (uAt e 8 8))),
       at' s (o + 0x18) (uAt e 6 1 == 0 || uAt e 0x18 4 != 0)])
  else []

/-- Two half-open ranges share an address. -/
def overlaps (a n b m : Nat) : Bool := decide (a < b + m) && decide (b < a + n)

/-- Of every two distinct elements, none related by `r`. -/
def pairwiseNot (r : α → α → Bool) : List α → Bool
  | [] => true
  | x :: xs => xs.all (fun y => !r x y) && pairwiseNot r xs

/-- Bytes of `[a, a + n)` that lie inside some set. -/
def insideSets (ss : List ISet) (a n : Nat) : Nat :=
  (ss.map (fun s => min (a + n) (s.base + s.sizeGib * gib) - max a s.base)).foldl (· + ·) 0

/-- Usable local Near U in Binary: the 1 GiB boundary C below the carve-outs (R44). -/
def usableU (n : NearCfg) : Nat := carveFloor n / gib * gib

/-- The pair address of a local address of a unit (the inverse of R260). -/
def pairAddr (isB : Bool) (l : Nat) : Nat := (l >>> 30) <<< 31 + (if isB then gib else 0) + l % gib

/-- The region that holds a pair (or Solo) address. -/
def regionAt (rs : List Region) (a : Nat) : Option Region :=
  rs.find? (fun r => decide (r.base ≤ a) && decide (a < r.base + r.size))

/-- Local 256 MiB frames that regions may take: those of the usable Near in Binary, else all (R44, R261). -/
def frameCount (c : Chart) : Nat :=
  (if c.topo.mode = .binary then Nat.min (usableU c.near) (nearTop c.near) else nearTop c.near) / frame

/-- Does the pair address of a unit's local frame lie in a Near region that satisfies `p` (R261)? -/
def frameHas (c : Chart) (isB : Bool) (p : Region → Bool) (f : Nat) : Bool :=
  match regionAt (c.regions.filter (fun r => !r.far)) (if c.topo.mode = .binary then pairAddr isB (f * frame) else f * frame) with
  | some r => p r
  | none => false

/-- Local frames of a unit in a Near region that satisfies `p`, ascending (R261). -/
def framesOf (c : Chart) (isB : Bool) (p : Region → Bool) : List Nat := (List.range (frameCount c)).filter (frameHas c isB p)

/-- The SUM checks that no population enters (Table 2-5 value 11). A sum compares several fields, so it has no FAULT_OFFSET of its own: `off` is
1 where it rests on REGIONS as well, 2 where it rests on FAR_LAYOUT. -/
def sumChecks (c : Chart) : List Chk :=
  let n := c.near
  let ss := n.sets
  let cs := n.carves
  let tot := setsBytes ss
  let bin := c.topo.mode == .binary
  let nearR := c.regions.filter (fun r => !r.far)
  let farR := c.regions.filter (·.far)
  let u := usableU n
  let minSize (k m : Nat) : Bool := match carveOf n k with | some x => decide (m ≤ x.sizeMib * mib) | none => true
  let maxSize (k m : Nat) : Bool := match carveOf n k with | some x => decide (x.sizeMib * mib ≤ m) | none => true
  let top := (cs.map (fun x => x.base + x.sizeMib * mib)).foldl max 0
  let k (t : Nat) (ok : Bool) : Chk := ⟨ok, t, 0⟩
  [ k 0x0030 (pairwiseNot (fun a b => overlaps a.base (a.sizeGib * gib) b.base (b.sizeGib * gib)) ss),
    k 0x0030 (pairwiseNot (fun a b => a.mask &&& b.mask != 0) ss),
    k 0x0030 (ss.all (fun s => decide (s.base + s.sizeGib * gib ≤ 2 ^ 43))),
    k 0x0030 ([1, 8, 6, 7].all (fun m => (carveOf n m).isSome)),
    k 0x0030 (minSize 1 (ceilDiv tot 16384) && minSize 6 (ceilDiv tot 512) && minSize 7 (64 * mib) && minSize 8 (ceilDiv tot 32768)),
    k 0x0030 (maxSize 2 (512 * mib) && maxSize 3 (512 * mib)),
    ⟨farR.isEmpty || ((carveOf n 4).isSome && minSize 4 gib), 0x0030, 1⟩,
    k 0x0030 (cs.all (fun x => ss.any (fun s => decide (s.base ≤ x.base)
      && decide (x.base + x.sizeMib * mib ≤ s.base + s.sizeGib * gib)))),
    k 0x0030 (pairwiseNot (fun a b => overlaps a.base (a.sizeMib * mib) b.base (b.sizeMib * mib)) cs),
    k 0x0030 (!c.orbit.enable || ((carveOf n 2).isSome && (carveOf n 3).isSome)),
    k 0x0030 (!c.transit.enable || (carveOf n 5).isSome),
    k 0x0030 (!bin || (ss.all (fun s => decide (s.base + s.sizeGib * gib ≤ top)))),
    k 0x0031 (nearR.all (fun r => if bin then decide (r.base + r.size ≤ 2 * u) && [false, true].all (fun v =>
        let lo := homedBelow v r.base; let n := homedBelow v (r.base + r.size) - lo
        insideSets ss lo n == n && cs.all (fun x => n == 0 || !overlaps lo n x.base (x.sizeMib * mib))) else
      insideSets ss r.base r.size == r.size && cs.all (fun x => !overlaps r.base r.size x.base (x.sizeMib * mib)))),
    ⟨farR.all (fun r => decide (farBase ≤ r.base) &&
      decide (r.base + r.size ≤ farBase + (if bin then 2 else 1) * c.far.farGib * gib)), 0x0031, 2⟩,
    k 0x0031 (pairwiseNot (fun a b => overlaps a.base a.size b.base b.size) c.regions),
    k 0x0031 (if bin then
        decide ((nearR.map (fun r => r.size * (if r.mirror = .hot then 2 else 1))).foldl (· + ·) 0 ≤ 2 * u)
      else decide ((nearR.map (·.size)).foldl (· + ·) 0 ≤ tot - carvesBytes cs)),
    k 0x0031 (!bin || (decide ((framesOf c false (fun _ => true)).length + (framesOf c true (fun r => r.mirror == .hot)).length
        ≤ u / frame) && decide ((framesOf c true (fun _ => true)).length
        + (framesOf c false (fun r => r.mirror == .hot)).length ≤ u / frame))),
    k 0x0050 (decide (c.halo.haloMib + c.halo.snoopMib ≤ 192)),
    ⟨c.halo.snoopMib != 0 || c.regions.all (fun r => r.sharing != .sharedDb), 0x0050, 1⟩,
    ⟨!c.halo.byRegion || c.halo.map.all (fun e => c.regions.any (fun r => r.id == e.1)), 0x0050, 1⟩,
    k 0x0060 (decide (c.pers.degraded ≤ c.pers.normal)),
    k 0x0060 (c.pers.energy || decide (c.pers.normal ≤ c.pers.journalGib)),
    k 0x0080 ((!c.orbit.enable && (carveOf n 2).isNone) || decide (128 * c.orbit.backedQueues ≤ carveSize n 2)),
    k 0x0080 ((!c.orbit.enable && (carveOf n 3).isNone) || decide (32 * c.orbit.keys ≤ carveSize n 3)),
    k 0x0090 ([0, 1].all (fun v => decide (((c.transit.windows.filter (fun w => w.unit == v)).map
      (fun w => w.slots * w.slotMib * mib)).foldl (· + ·) 0 ≤ carveSize n 5))),
    k 0x00A0 (decide (c.cipher.shareOrbit + c.cipher.shareCrn + c.cipher.shareMedia + c.cipher.shareQueue ≤ 16)),
    k 0x00A0 (!c.cipher.ranges || !overlaps c.cipher.xtsFirst c.cipher.xtsCount c.cipher.gcmFirst c.cipher.gcmCount),
    k 0x00B0 (decide (c.thermal.warnClearC < c.thermal.warnC) && decide (c.thermal.warnC < c.thermal.throttleC)
      && decide (c.thermal.throttleC < c.thermal.shutdownC)),
    k 0x00B0 (decide (c.thermal.throttleClearC < c.thermal.throttleC)) ]

/-- The pool sum of R209, which needs the population. See assumption 42 (DEDUCED). -/
def poolCheck (pop : Population) (isB : Bool) (c : Chart) : Bool :=
  poolCloses pop c.far (trackedBytes c.near c.regions c.topo.mode isB) c.pers.journalGib

/-- Interleave sets lie over present capacity (R41). -/
def setsPresent (pop : Population) (c : Chart) : Bool :=
  c.near.sets.all (fun s => (bitsOf 16 s.mask).all (fun ch => decide (s.sizeGib / (max (popcount 16 s.mask) 1) ≤ SMap.get 0 pop.chans ch)))

/-- The population check of R49: sets over present capacity, members among present dies (R233). -/
def populationOk (pop : Population) (c : Chart) : Bool := setsPresent pop c && (bitsOf 256 c.far.members).all (fun g => pop.dies.contains g)

/-- The section that fails the population check: NEAR_LAYOUT, else FAR_LAYOUT. -/
def populationSect (pop : Population) (c : Chart) : Nat := if setsPresent pop c then 0x0040 else 0x0030

/-- The outcome of a validation: the Chart, or the reason with SECTION and FAULT_OFFSET (which `noteReject` leaves open for a check over several
fields). -/
inductive Verdict where
  | ok (c : Chart)
  | bad (r : Reason) (sect off : Nat)
  deriving DecidableEq, Repr

/-- What a validation reads besides the Chart. -/
structure CheckEnv where
  ownerKey : Option (List Byte)
  floor : Nat
  fwVersion : Nat
  unitId : List Byte
  pop : Population
  deriving DecidableEq, Repr

/-- This unit is unit B of a Chart's TOPOLOGY (R37). -/
def unitIsB (t : TopoCfg) (unitId : List Byte) : Bool := t.mode != .solo && t.unitB == unitId

/-- The TOPOLOGY checks of R37 with the offsets of their fields in the body: MODE first, then PAIR_TAG and the identifiers. -/
def topologyChecks (t : TopoCfg) (b0 : Nat) (unitId : List Byte) : List (Nat × Bool) :=
  let zero (l : List Byte) := l.all (· == 0)
  if b0 = 0 then [(4, t.pairTag == 0), (8, zero t.unitA || t.unitA == unitId), (0x18, zero t.unitB)]
  else [(0, decide (b0 ≤ 2)), (8, !zero t.unitA), (0x18, !zero t.unitB && t.unitA != t.unitB), (8, t.unitA == unitId || t.unitB == unitId)]

/-- The envelope checks of Table 2-5 values 1 to 7: the sections, or the failure. -/
def checkEnvelope (e : CheckEnv) (b : List Byte) : Sum (List Sect) (Reason × Nat × Nat) :=
  let total := uAt b 0x10 4
  let sigOff := total - 128
  if uAt b 0 4 ≠ 0x4348_5254 then .inr (.magic, 0, 0)
  else if uAt b 6 2 ≠ 0x0100 then .inr (.magic, 0, 6)
  else if uAt b 4 2 ≠ 1 then .inr (.version, 0, 4)
  else if 1_048_576 < total ∨ total ≠ b.length ∨ total < 384 then .inr (.length, 0, 0x10)
  else match walk (sigOff / 8 + 1) b 0x100 sigOff with
    | .inr k => .inr (.length, k.sect, k.off)
    | .inl ss =>
      match firstFail (formatChecks b ss) with
      | some k => .inr (.sectionFormat, k.sect, k.off)
      | none =>
        match e.ownerKey with
        | none => .inr (.ownerKey, 0, 0x28)
        | some key =>
          if (Config.shake256 64 key).take 16 ≠ (b.drop 0x28).take 16 then .inr (.ownerKey, 0, 0x28)
          else if Config.ed448Verify key (b.take sigOff) ((b.drop (sigOff + 8)).take 114) = false then
            .inr (.signature, 0xFFFF, sigOff + 8)
          else if uAt b 8 4 < e.floor then .inr (.rollback, 0, 8)
          else .inl ss

/-- A sum that rests on a body that only the population decides: an omitted NEAR_LAYOUT, FAR_LAYOUT or REGIONS (R61, R500). -/
def ChartText.openSum (x : ChartText) (k : Chk) : Bool :=
  (x.near.isNone && [0x0030, 0x0031, 0x0080, 0x0090].contains k.sect) || (x.regions.isNone && (k.sect == 0x0031 || k.off == 1)) ||
  (x.far.isNone && k.off == 2)

/-- Validate a Chart up to SUM (R49); `withPool` says whether the population is known (R209): without it, sums over bodies that the population
decides are left to the check that knows it. -/
def validate (e : CheckEnv) (b : List Byte) (withPool : Bool) : Verdict :=
  match checkEnvelope e b with
  | .inr (r, s, o) => .bad r s o
  | .inl ss =>
    let x := parseText b ss
    let isB := unitIsB x.topo e.unitId
    let c := resolve e.pop isB x false
    let off (t : Nat) : Nat := ((findSect ss t).map (·.off)).getD 0
    if x.headPart ≠ partName ∨ x.target.part ≠ partName then .bad .target 1 (off 1 + 8)
    else if e.fwVersion < x.target.minFw then .bad .target 1 (off 1 + 0x18)
    else if x.target.minStep ≠ 0 ∧ Config.stepping < x.target.minStep then .bad .target 1 (off 1 + 0x1C)
    else match (topologyChecks x.topo (uAt b (off 0x10 + 8) 1) e.unitId).find? (fun k => !k.2) with
    | some k => .bad .topology 0x10 (off 0x10 + 8 + k.1)
    | none =>
      match firstFail (ss.flatMap (resourceOf c)) with
      | some k => .bad .resource k.sect k.off
      | none =>
        match firstFail ((sumChecks c).filter (fun k => withPool || !x.openSum k)) with
        | some k => .bad .sum k.sect 0
        | none =>
          if withPool && !poolCheck e.pop isB c then .bad .sum 0x40 0
          else .ok c

end Sys2Proof.Machine
end

