-- ==== Sys2Proof/Machine/Ops.lean ====
section
/-!
DEFINITION. The shared operations every family uses: time, what the block sends, ERR bits with their Almanac counters,
Logbook records, event records, the eFlash job queue, and where an address lies.
-/
namespace Sys2Proof.Machine
open Sys2Proof

/-! ### Time, free values and outputs -/

/-- A fresh open value (assumption 3). -/
def drawFree (b : Blk) : Nat × Blk := (Config.freeNat b.free, { b with free := b.free + 1 })

/-- Send one message or answer. See assumption 7 (DESIGN CHOICE). -/
def send (o : Output) (b : Blk) : Blk := { b with out := b.out ++ [o] }

/-- Local microseconds since always-on power came up (R80, R383). -/
def Blk.us (b : Blk) : Nat := b.cyc / 100

/-- Local milliseconds, wrapping in 32 bits (Table 16-4). -/
def Blk.ms (b : Blk) : Nat := b.cyc / 100000 % 2 ^ 32

/-- The Meridian count as a record shows it: all ones unless LOCKED (Tables 14-3, 16-4). -/
def Blk.recCount (b : Blk) : Nat := if b.mer.state = .locked then b.mer.count else ones64.toNat

/-- The Dusk trigger has fired and the Dusk has not ended (PSQ_STATUS.DUSK). -/
def Blk.inDusk (b : Blk) : Bool := b.pers.dusk.isSome

/-- The unit is in service: D7 has completed. -/
def Blk.inService (b : Blk) : Bool := b.pwr.stage = .service

/-- Work of R25's waiting rows waits: the cores restart, or Solo's work is paused (R27). -/
def Blk.fwWaits (b : Blk) : Bool := b.fw.restarting || b.fw.paused

/-- The current epoch (R73). -/
def Blk.epoch (b : Blk) : Nat := b.mer.now

/-! ### The Almanac -/

/-- Count one occurrence of group `g`, code `c` (R427, R429). Codes past 31 and groups past 0x12 have no counter. -/
def countEvent (g c : Nat) (b : Blk) : Blk :=
  if 0x12 < g ∨ 31 < c then b
  else if b.alm.frozen then { b with alm := { b.alm with dropped := sat32 b.alm.dropped } }
  else { b with alm := { b.alm with events := SMap.upd 0 b.alm.events (32 * g + c) sat32 } }

/-- floor(log2 q) for q ≥ 1. -/
def ilog2 (q : Nat) : Nat := Nat.log2 q

/-- The bin of a sample (R425). -/
def AlmRec.bin (r : AlmRec) (v : Int) : Nat :=
  if r.log2 then (if v < r.low then 0 else Nat.min 31 (1 + ilog2 ((v / r.low).toNat)))
  else Nat.min 31 ((v - r.low) / ((Nat.max r.width 1 : Nat) : Int)).toNat

/-- A sample into a VALUE record (R425, R426). -/
def AlmRec.sample (r : AlmRec) (v : Int) : AlmRec :=
  { r with seq := r.seq + 1, samples := r.samples + 1,
           min := some (match r.min with | some m => Min.min m v | none => v),
           max := some (match r.max with | some m => Max.max m v | none => v),
           bins := SMap.upd 0 r.bins (r.bin v) sat32 }

/-- `n` events into a RATE record (R425). -/
def AlmRec.events (r : AlmRec) (n : Nat) : AlmRec :=
  { r with seq := r.seq + 1, samples := r.samples + n, bins := SMap.upd 0 r.bins r.current (sat32Add · n) }

/-- Feed metric `m`, instance `i` with `v`: a sample of a VALUE record, `v` events of a RATE record (R423, R427). -/
def feedMetric (m i : Nat) (v : Int) (b : Blk) : Blk :=
  if b.alm.frozen then
    if b.alm.recs.any (fun e => e.2.metric = m ∧ e.2.inst = i) then { b with alm := { b.alm with dropped := sat32 b.alm.dropped } }
    else b
  else { b with alm := { b.alm with recs := SMap.mapVal b.alm.recs (fun _ r =>
    if r.metric = m ∧ r.inst = i then (if r.rate then r.events v.toNat else r.sample v) else r) } }

/-! ### ERR registers (R417, R429) -/

/-- An ERR register's value. -/
def Blk.err (b : Blk) (r : ErrReg) : W64 := SMap.get 0 b.errs r.key

/-- Set bit `n` of an ERR register and count the event. -/
def setErr (r : ErrReg) (n : Nat) (b : Blk) : Blk :=
  let b := { b with errs := SMap.upd 0 b.errs r.key (fun w => w ||| (1 <<< n)) }
  match r.group with
  | some g => countEvent g n b
  | none => b

/-- Clear the bits of an ERR register that are written 1 (R7). -/
def clearErr (r : ErrReg) (w : W64) (b : Blk) : Blk :=
  { b with errs := SMap.upd 0 b.errs r.key (fun x => x &&& ~~~w) }

/-! ### The eFlash job queue (R432, R434) -/

/-- The head's sector still takes a record, or the erased sector ahead does. -/
def Logbook.takes (l : Logbook) : Bool := decide (l.headPos < 509) || l.aheadErased

/-- May a job run now? No erase starts from the Dusk trigger on (R419), none while one is suspended, and a record waits for a place. -/
def Blk.jobRuns (b : Blk) (j : EflJob) : Bool :=
  match j with
  | .erase _ => !b.inDusk && b.efl.susp.isNone
  | .logRecord => b.logbook.takes
  | _ => true

/-- Forget a Logbook sector's records. -/
def dropSector (s : Nat) (l : Logbook) : Logbook := { l with recs := SMap.keep l.recs (fun p _ => p / 512 != s) }

/-- A sector's erase begins: its information word says so (R436), and its records or its Almanac image are gone. -/
def startErase (s : Nat) (b : Blk) : Blk :=
  let b := { b with efl := { b.efl with begun := if b.efl.begun.contains s then b.efl.begun else b.efl.begun ++ [s] } }
  if 832 ≤ s && decide (s < 960) then { b with alm := { b.alm with images := SMap.erase b.alm.images ((s - 832) / 4) } }
  else if 576 ≤ s && decide (s < 832) then { b with logbook := dropSector (s - 576) b.logbook }
  else b

/-- Start the first job that may run. -/
def pickJob (b : Blk) : Blk :=
  if b.efl.cur.isSome then b
  else match b.efl.jobs.find? (fun j => b.jobRuns j) with
    | none => b
    | some j =>
      let b := { b with efl := { b.efl with cur := some j, jobs := b.efl.jobs.erase j } }
      match j with | .erase s => startErase s b | _ => b

/-- Queue a job behind the others and start what may run. -/
def addJob (j : EflJob) (b : Blk) : Blk := pickJob { b with efl := { b.efl with jobs := b.efl.jobs ++ [j] } }

/-- The job under way ends. -/
def jobEnds (b : Blk) : Blk := pickJob { b with efl := { b.efl with cur := none } }

/-! ### The Logbook (R415 to R419) -/

/-- Content of a Logbook record besides its TYPE. -/
structure LogArgs where
  pin : Nat := 0xFF
  kind : LocKind := .none
  loc : W64 := 0
  detail : List Byte := []

/-- Erased record positions still to be used from the Dusk trigger on: the head sector's and the erased sector ahead, without
their seal positions (R419). -/
def Logbook.space (l : Logbook) : Nat := (509 - l.headPos) + (if l.aheadErased then 509 else 0)

/-- Put a record into the buffer, with its RECORD_SEQ, or drop it (R419). -/
def bufferRecord (type : Nat) (a : LogArgs) (b : Blk) : Blk :=
  let full := decide (1024 ≤ b.logbook.buf.length) || (b.inDusk && decide (b.logbook.space ≤ b.logbook.buf.length))
  if full then { b with logbook := { b.logbook with dropped := b.logbook.dropped + 1 } }
  else
    let r : LogRec := { seq := b.logbook.nextSeq, type := type, pin := a.pin, locKind := a.kind, hours := b.pwr.boot.hours,
                        cycles := b.pwr.boot.cycles, localMs := b.ms, meridian := b.recCount, location := a.loc, detail := a.detail }
    addJob .logRecord { b with logbook := { b.logbook with buf := b.logbook.buf ++ [r], nextSeq := b.logbook.nextSeq + 1 } }

/-- Record an event in the Logbook: at most 16 of one TYPE in a local second (R418). -/
def logRecord (type : Nat) (a : LogArgs) (b : Blk) : Blk :=
  if type / 0x100 = 0x13 then bufferRecord type a b
  else if SMap.get 0 b.logbook.perSecond type < 16 then
    bufferRecord type a { b with logbook := { b.logbook with perSecond := SMap.upd 0 b.logbook.perSecond type (· + 1) } }
  else { b with logbook := { b.logbook with suppressed := SMap.upd 0 b.logbook.suppressed type (· + 1) } }

/-- An event that the spec records in the Logbook and that has no ERR bit (group 0x12): counted and recorded (R417, R429). -/
def logEvent (code : Nat) (a : LogArgs) (b : Blk) : Blk := logRecord (0x1200 + code) a (countEvent 0x12 code b)

/-- An ERR bit that the spec records in the Logbook: set, counted and recorded (R417). -/
def setErrLog (r : ErrReg) (n : Nat) (a : LogArgs) (b : Blk) : Blk :=
  match r.group with
  | some g => logRecord (0x100 * (g % 0x100) + n) a (setErr r n b)
  | none => setErr r n b

/-! ### Event records (R108) -/

/-- Logical devices that the Chart in force enables (R40). -/
def Chart.lds (c : Chart) : List Nat :=
  c.ports.flatMap (fun e => if e.2.enable then (List.range e.2.ldCount).map (fun i => e.1 * 16 + i) else [])

/-- A logical device's state. -/
def Blk.ld (b : Blk) (n : Nat) : LdSt := SMap.get LdSt.fresh b.host.lds n

/-- Change a logical device's state. -/
def modLd (n : Nat) (f : LdSt → LdSt) (b : Blk) : Blk :=
  { b with host := { b.host with lds := SMap.upd LdSt.fresh b.host.lds n f } }

/-- A port's state. -/
def Blk.port (b : Blk) (p : Nat) : PortSt := SMap.get PortSt.fresh b.host.ports p

/-- Change a port's state. -/
def modPort (p : Nat) (f : PortSt → PortSt) (b : Blk) : Blk :=
  { b with host := { b.host with ports := SMap.upd PortSt.fresh b.host.ports p f } }

/-- One more record in an event log of 64; past that the record is discarded and counted as overflow (R108). See assumption 59 (PRESUMED). -/
def EvLog.add (l : EvLog) (r : EvRec) : EvLog :=
  if l.recs.length < 64 then { l with recs := l.recs ++ [r] } else { l with overflow := l.overflow + 1 }

/-- An MSI-X vector of a logical device: sent, or pending while its entry is masked; nothing while MSI-X is not enabled (R87, R111). -/
def raiseMsix (n v : Nat) (b : Blk) : Blk :=
  let l := b.ld n
  let e := SMap.get (0, 0, true) l.msix v
  if !l.cfg.msixEnable then b
  else if e.2.2 then modLd n (fun l => { l with pba := if l.pba.contains v then l.pba else l.pba ++ [v] }) b
  else send (.msix n e.1 e.2.1) b

/-- The interrupt of an event log by Set Event Interrupt Policy: mode 1 in bits [1:0] is an MSI-X vector in bits [7:4] (R87; CXL 3.1's form). See
assumption 125 (PRESUMED). -/
def eventInterrupt (n : Nat) (k : LogKind) (b : Blk) : Blk :=
  let p := (b.ld n).evPolicy.getD k.code 0
  if p % 4 = 1 then raiseMsix n (p / 16 % 16) b else b

/-- Post a record in a log of each listed logical device, with the log's interrupt. -/
def postTo (lds : List Nat) (k : LogKind) (r : EvRec) (b : Blk) : Blk :=
  lds.foldl (fun b n => eventInterrupt n k (modLd n (fun l => { l with logs := SMap.upd EvLog.empty l.logs k.code (fun g => g.add r) }) b)) b

/-- The LD mask of this unit's ports: LD_MASK_B for unit B of a Binary pair, else LD_MASK_A (R45). -/
def Blk.maskOf (b : Blk) (r : Region) : Nat := if b.cht.mode = .binary && b.cht.isB then r.maskB else r.maskA

/-- Logical devices of this unit in a region's masks. -/
def Blk.maskLds (b : Blk) (r : Region) : List Nat := b.cht.cur.lds.filter (fun n => (b.maskOf r).testBit n)

/-- The region with a given ID. -/
def Chart.region? (c : Chart) (id : Nat) : Option Region := c.regions.find? (fun r => r.id = id)

/-- Content of a vendor record. -/
structure EvArgs where
  region : Nat := 0xFFFF
  first : Nat := ones64.toNat
  last : Nat := ones64.toNat
  loc : W64 := 0
  locKind : Nat := 0
  detail : List Nat := []

/-- The 80 bytes of a vendor record (Table 4-4); DETAIL's words little-endian, padded with zeros. -/
def EvRec.vendorBytes : EvRec → List Byte
  | .vendor sub region count first last loc kind detail =>
    natLe 2 sub.code ++ natLe 2 region ++ natLe 4 0 ++ natLe 8 count ++ natLe 8 first ++ natLe 8 last ++ bitsBytes 8 loc ++ natLe 1 kind ++ natLe 7 0 ++
      ((detail.flatMap (natLe 8)) ++ List.replicate 32 0).take 32
  | _ => []

/-- A vendor record, whose fields `EvRec.vendorBytes` lays out as Table 4-4. -/
def vendorRec (sub : VendorEv) (a : EvArgs) (b : Blk) : EvRec :=
  .vendor sub a.region b.mer.count a.first a.last a.loc a.locKind a.detail

/-- Post a vendor record: to the masks of its region, else to every enabled logical device (R108). From the Dusk trigger no
CXL record is posted (R411). -/
def postVendor (sub : VendorEv) (a : EvArgs) (b : Blk) : Blk :=
  let lds := match b.cht.cur.region? a.region with
    | some r => b.maskLds r
    | none => b.cht.cur.lds
  postTo lds sub.log (vendorRec sub a b) b

/-! ### Host protocol violations (R114) -/

/-- A violation by logical device `ld`: the ERR bit with its Almanac counter, HP_VIOL_COUNT, the Logbook where its row says so,
and a VIOLATION record to the offender. -/
def violation (ld bit dpa : Nat) (toLog post : Bool) (b : Blk) : Blk :=
  let p := ld / 16
  let b := if toLog then setErrLog (.hp p) bit { kind := .address, loc := BitVec.ofNat 64 dpa } b else setErr (.hp p) bit b
  let b := modPort p (fun x => { x with viol := sat32 x.viol }) b
  if post then postTo [ld] .warning (vendorRec .violation { detail := [bit, dpa] } b) b else b

/-! ### Where an address lies -/

/-- Pair addresses use the Binary homing of R260. -/
def Blk.binary (b : Blk) : Bool := b.cht.mode = .binary

/-- Unit that homes a Near or Far DPA: false for unit A (R260). -/
def homeB (dpa : Nat) : Bool := dpa.testBit 30

/-- The half a DPA lies in (R258). -/
def Blk.halfOf (b : Blk) (dpa : Nat) : Nat := if b.binary && homeB dpa then 1 else 0

/-- Is the DPA homed on this unit? In Solo and Twin the local space is the pair's space. -/
def Blk.homed (b : Blk) (dpa : Nat) : Bool := !b.binary || homeB dpa == b.cht.isB

/-- Pair offset of a local offset on the given unit (the inverse of R260's local function). -/
def unlocal (isB : Bool) (l : Nat) : Nat := (l >>> 30) <<< 31 + (if isB then gib else 0) + l % gib

/-- The local offset of a pair offset (R260). -/
def localOff (o : Nat) : Nat := (o >>> 31) <<< 30 + o % gib

/-- Start of the Transit slot aliases (Table 4-3). -/
def aliasBase : Nat := 0xA000_0000_0000

/-- The area of a DPA (Table 4-3). -/
inductive Area where
  | near | far | slot | none
  deriving DecidableEq, Repr

/-- Which range of Table 4-3 a DPA lies in. Inside Near and Far the Chart's regions decide what is mapped (R91). -/
def Blk.area (b : Blk) (dpa : Nat) : Area :=
  if dpa < farBase then .near
  else if dpa < aliasBase then .far
  else if dpa - aliasBase < carveSize b.cht.cur.near 5 then .slot
  else .none

/-- The unit's own local Near address of a Near DPA. -/
def Blk.nearLocal (b : Blk) (dpa : Nat) : Nat := if b.binary then localOff dpa else dpa

/-- The DPA of a local Near address homed on this unit. -/
def Blk.nearDpa (b : Blk) (l : Nat) : Nat := if b.binary then unlocal b.cht.isB l else l

/-- Page number F of a Far DPA, and the DPA of a Far page (R236). -/
def Blk.farPage (_b : Blk) (dpa : Nat) : Nat := (dpa - farBase) / 4096
def Blk.farDpa (_b : Blk) (f : Nat) : Nat := farBase + f * 4096

/-- The Chart's region at a DPA. -/
def Blk.regionOf (b : Blk) (dpa : Nat) : Option Region := regionAt b.cht.cur.regions dpa

end Sys2Proof.Machine
end

