-- ==== Sys2Proof/Machine/OpsMem.lean ====
section
/-!
DEFINITION. Shared operations over Near memory: where a line lies (R42, R140), what it belongs to (R146, R151, R335), stores to
DRAM, Halo's organisation (R116), the merge buffer's contents (R122), and the flush of R129 and R269.
-/
namespace Sys2Proof.Machine
open Sys2Proof

/-! ### Placement -/

/-- Channel and channel offset of a local Near address (R42). -/
def placeNear (n : NearCfg) (a : Nat) : Option (Nat × Nat) :=
  match n.sets.find? (fun s => decide (s.base ≤ a) && decide (a < s.base + s.sizeGib * gib)) with
  | none => none
  | some s =>
    let o := a - s.base
    let chans := bitsOf 16 s.mask
    let k := Nat.max chans.length 1
    let u := o >>> s.gran
    some (chans.getD (u % k) 0, (u / k) <<< s.gran + o % 2 ^ s.gran)

/-- Channel and channel offset of a local line. -/
def Blk.placeLine (b : Blk) (l : Nat) : Option (Nat × Nat) := placeNear b.cht.cur.near (l * 128)

/-- Channel of a local line; 0 where no set holds it. -/
def Blk.chanNo (b : Blk) (l : Nat) : Nat := ((b.placeLine l).map (·.1)).getD 0

/-- Home hemisphere of a local line: 0 north, 1 south (R10). -/
def Blk.hemi (b : Blk) (l : Nat) : Nat := if b.chanNo l < 8 then 0 else 1

/-- A channel's state. -/
def Blk.chan (b : Blk) (c : Nat) : Chan := SMap.get Chan.absent b.dram.chans c

/-- Change a channel's state. -/
def modChan (c : Nat) (f : Chan → Chan) (b : Blk) : Blk :=
  { b with dram := { b.dram with chans := SMap.upd Chan.absent b.dram.chans c f } }

/-- Is the line's channel frozen? -/
def Blk.frozenLine (b : Blk) (l : Nat) : Bool := (b.chan (b.chanNo l)).state = .frozen

/-- Place of a burst inside its channel (R140). -/
structure Geo where
  dimm : Nat
  rank : Nat
  bg : Nat
  bank : Nat
  row : Nat
  col : Nat
  deriving DecidableEq, Repr

/-- The procedure of R140 for a channel of D DIMMs of R ranks. -/
def geometry (ranks dimms cofs : Nat) : Geo :=
  let l := cofs >>> 7
  let r := l >>> 12
  let rn := Nat.max ranks 1; let dn := Nat.max dimms 1
  { dimm := r / rn % dn, rank := r % rn, bg := (l >>> 7) % 8, bank := (l >>> 10) % 4, row := r / (rn * dn), col := l % 128 * 16 }

/-- DRAM media location code (Table 1-4); position 0x1F is unused. -/
def dramLoc (ch : Nat) (g : Geo) (pos : Nat) : W64 :=
  view [place ch 5 59, place g.dimm 1 58, place g.rank 2 56, place pos 5 51, place g.bg 3 48, place g.bank 2 46, place g.row 18 28,
        place g.col 11 17, 2 ^ 17 - 1]

/-- Media location code of a DRAM channel, or of a DIMM of it: the fields below are unused, all ones (R15). -/
def chanLoc (ch : Nat) : W64 := dramLoc ch ⟨1, 3, 7, 3, 2 ^ 18 - 1, 2 ^ 11 - 1⟩ 0x1F
def dimmLoc (ch dimm : Nat) : W64 := dramLoc ch ⟨dimm, 3, 7, 3, 2 ^ 18 - 1, 2 ^ 11 - 1⟩ 0x1F

/-- Geometry of a local line. -/
def Blk.geo (b : Blk) (l : Nat) : Geo :=
  match b.placeLine l with
  | some (c, o) => geometry (b.chan c).ranks (b.chan c).dimms o
  | none => geometry 1 1 0

/-- Media location code of a local line. -/
def Blk.lineLoc (b : Blk) (l : Nat) : W64 := dramLoc (b.chanNo l) (b.geo l) 0x1F

/-- Marked positions of the line's rank (R147, R152). -/
def Blk.marksOf (b : Blk) (l : Nat) : List Nat :=
  let g := b.geo l
  ((b.chan (b.chanNo l)).marks.filter (fun m => m.1 = g.dimm ∧ m.2.1 = g.rank)).map (·.2.2)

/-- Fault location code (Tables 1-2 and 1-3); unused fields all ones (R12 to R14). -/
def faultLoc (die cluster slice macroNo word bit : Nat) : W64 :=
  view [place die 2 62, place cluster 6 56, place slice 8 48, place macroNo 12 36, place word 24 12, place bit 12 0]

/-- A fault location resolved to a cluster only. -/
def faultCluster (die cluster : Nat) : W64 := faultLoc die cluster 0xFF 0xFFF 0xFFFFFF 0xFFF

/-- A fault location resolved to a slice only. -/
def faultSlice (die cluster slice : Nat) : W64 := faultLoc die cluster slice 0xFFF 0xFFFFFF 0xFFF

/-! ### What a line belongs to -/

/-- What a local line's data is: the region (if any), the DPA its data has, its code, its key slot and its LIGHT tag. -/
structure LineInfo where
  region : Option Region
  dpa : Nat
  light : Bool
  keySlot : Nat
  tagRegion : Nat
  deriving DecidableEq, Repr

/-- The carve-out that holds a local address. -/
def carveAt (n : NearCfg) (a : Nat) : Option Carve :=
  n.carves.find? (fun c => decide (c.base ≤ a) && decide (a < c.base + c.sizeMib * mib))

/-- Region of a page number F of the staging directory and Far map: 2^35 + P names Near page P of the twin (R286). -/
def Blk.farInfo (b : Blk) (f : Nat) : Option Region × Nat :=
  let dpa := if 2 ^ 35 ≤ f then pairAddr (!b.cht.isB) ((f - 2 ^ 35) * 4096) else b.farDpa f
  (b.regionOf dpa, dpa)

/-- MIRROR of a region as traffic sees it: a region whose change to HOT or COLD is being copied since E is mirrored or shipped already, so that
its copy stays current while it is made (R57, R268, R272). See assumption 51 (DESIGN CHOICE). -/
def Blk.mirrorClass (b : Blk) (r : Region) : Mirror :=
  match b.cht.apply with
  | some a => if a.switched && a.mirrorLeft.contains r.id then ((a.next.region? r.id).map (fun (x : Region) => x.mirror)).getD r.mirror else r.mirror
  | none => r.mirror

/-- The Chart in force with the mirror classes as traffic sees them. -/
def Blk.mirChart (b : Blk) : Chart := { b.cht.cur with regions := b.cht.cur.regions.map (fun r => { r with mirror := b.mirrorClass r }) }

/-- The mirror frame of the twin's HOT frame that local frame `fr` holds in Binary (R261): the n-th frame of this unit
in no region holds the n-th HOT frame of the twin. -/
def Chart.mirrorFrame (c : Chart) (isB : Bool) (fr : Nat) : Option Nat :=
  if frameCount c ≤ fr || frameHas c isB (fun _ => true) fr then none
  else (framesOf c (!isB) (fun r => r.mirror = .hot))[(List.range fr).countP (fun x => !frameHas c isB (fun _ => true) x)]?

/-- The local frame that holds the twin's HOT frame `fr` in Binary (R261). -/
def Chart.mirrorHome (c : Chart) (isB : Bool) (fr : Nat) : Option Nat :=
  if frameCount c ≤ fr || !frameHas c (!isB) (fun r => r.mirror = .hot) fr then none
  else ((List.range (frameCount c)).filter (fun x => !frameHas c isB (fun _ => true) x))[(List.range fr).countP (frameHas c (!isB) (fun r => r.mirror = .hot))]?

/-- Windows of TRANSIT on this unit with the start of each in the TRANSIT_SLOTS carve-out (R246): in entry order. -/
def windowStarts : Nat → List WindowCfg → List (WindowCfg × Nat)
  | _, [] => []
  | o, w :: ws => (w, o) :: windowStarts (o + w.slots * w.slotMib * mib) ws

/-- The windows configured for this unit. -/
def Blk.myWindows (b : Blk) : List (WindowCfg × Nat) :=
  windowStarts 0 (b.cht.cur.transit.windows.filter (fun w => (w.unit = 1) == b.cht.isB))

/-- Window number, slot number and offset in the slot of an offset in the slot area. -/
def Blk.slotAt (b : Blk) (o : Nat) : Option (WindowCfg × Nat × Nat) :=
  match b.myWindows.find? (fun w => decide (w.2 ≤ o) && decide (o < w.2 + w.1.slots * w.1.slotMib * mib)) with
  | some (w, s) => some (w, (o - s) / (w.slotMib * mib), (o - s) % (w.slotMib * mib))
  | none => none

/-- A Transit window's state. -/
def Blk.window (b : Blk) (w : Nat) : TrnWindow := SMap.get TrnWindow.fresh b.far.windows w

/-- The DPA of the data at a local Near address outside the carve-outs: in Binary a mirror frame holds the twin's (R260, R261). -/
def Chart.dataDpa (c : Chart) (binary isB : Bool) (a : Nat) : Nat :=
  if !binary then a
  else match c.mirrorFrame isB (a / frame) with
    | some f => pairAddr (!isB) (f * frame + a % frame)
    | none => unlocal isB a

/-- What a local line holds (R146, R151, R335). -/
def Blk.lineInfo (b : Blk) (l : Nat) : LineInfo :=
  let a := l * 128
  let strong : Nat → LineInfo := fun t => ⟨none, a, false, 0xFFFF, t⟩
  match carveAt b.cht.cur.near a with
  | some c =>
    let bytes := c.sizeMib * mib
    if c.kind = 4 && decide (bytes / 64 ≤ a - c.base) then
      let e := SMap.get StageEntry.free b.far.dir ((a - c.base - bytes / 64) / 4096)
      let i := b.farInfo e.farPage
      ⟨i.1, i.2 + a % 4096, false, (i.1.map (·.keySlot)).getD 0xFFFF, 0x8004⟩
    else if c.kind = 5 then
      match b.slotAt (a - c.base) with
      | some (w, s, off) =>
        let sl := SMap.get TrnSlot.fresh (b.window w.window).slots s
        let r := b.regionOf sl.src
        ⟨r, sl.src + off, true, (r.map (·.keySlot)).getD 0xFFFF, 0x8005⟩
      | none => ⟨none, a, true, 0xFFFF, 0x8005⟩
    else strong (0x8000 + c.kind)
  | none =>
    let dpa := (if b.binary then b.mirChart else b.cht.cur).dataDpa b.binary b.cht.isB a
    match b.regionOf dpa with
    | some r => ⟨some r, dpa, r.light, r.keySlot, r.id⟩
    | none => strong 0xFFFF

/-- A key slot's state. -/
def Blk.slot (b : Blk) (n : Nat) : KeySlot := SMap.get KeySlot.fresh b.cph.slots n

/-- Change a key slot. -/
def modSlot (n : Nat) (f : KeySlot → KeySlot) (b : Blk) : Blk :=
  { b with cph := { b.cph with slots := SMap.upd KeySlot.fresh b.cph.slots n f } }

/-- The key a line is encrypted under now: none for no tenant encryption. -/
def Blk.keyOf (b : Blk) (slot : Nat) : Option Nat := if slot = 0xFFFF then none else some (b.slot slot).key

/-- Is the region's KEY_SLOT empty, which takes the region out of every view (R336)? -/
def Blk.keyEmpty (b : Blk) (r : Region) : Bool := r.keySlot != 0xFFFF && (b.slot r.keySlot).state == .empty

/-- The tweak of a line (R335). -/
def tweakOf (dpa : Nat) : Nat := dpa / 128

/-- The stored 128 data bytes of a line as DRAM holds them: ciphertext under its key, or the contents. -/
def DramLine.stored (d : DramLine) (dpa : Nat) : Line :=
  match d.key with
  | some k => Config.xtsEnc k (tweakOf dpa) d.plain
  | none => d.plain

/-- What a read of a stored line decrypts to under key `k`, with an error that the code left in the ciphertext (R17, R335). -/
def DramLine.decrypt (d : DramLine) (k : Option Nat) (dpa : Nat) (residual : Line) : Line :=
  if residual = 0 ∧ d.key = k then d.plain
  else
    let c := d.stored dpa ^^^ residual
    match k with
    | some key => Config.xtsDec key (tweakOf dpa) c
    | none => c

/-! ### Use counts of the inline path -/

/-- One more use of slot `n` by `u` units: EXHAUSTED when the count reaches the limit; INLINE_OVER once for inline uses beyond
it (R344, R345). -/
def useSlot (n u : Nat) (isInline : Bool) (b : Blk) : Blk :=
  if n < 32 ∨ 8191 < n then b
  else
    let k := b.slot n
    let spent := k.state == .exhausted
    let k' := { k with count := k.count + u }
    let b := modSlot n (fun _ => k') b
    let b :=
      if k.state == .loaded && decide (k.limit ≤ k'.count) then
        setErrLog .cph 2 { kind := .perType, loc := BitVec.ofNat 64 n } (modSlot n (fun x => { x with state := .exhausted }) b)
      else b
    if spent && isInline then
      if k.overLogged then setErr .cph 3 b
      else setErrLog .cph 3 { kind := .perType, loc := BitVec.ofNat 64 n } (modSlot n (fun x => { x with overLogged := true }) b)
    else b

/-! ### DRAM lines -/

/-- The line a write leaves in DRAM under its region's key and code (R17, R146, R148). -/
def Blk.lineFor (b : Blk) (l : Nat) (data : Line) (poison : Bool) (stamp : Nat) : DramLine :=
  let i := b.lineInfo l
  { plain := data, key := b.keyOf i.keySlot, light := i.light, poison := poison,
    stamp := if i.light then stamp else 0, tagRegion := if i.light then i.tagRegion else 0, tagKey := if i.light then i.keySlot else 0 }

/-- The line that a fill wrote: zeros under the region's key and code, with the LIGHT tags and EPOCH_STAMP 0 (R165). -/
def Fill.line (f : Fill) (l : Nat) : DramLine :=
  let a := l * 128
  match carveAt f.chart.near a with
  | some c => if c.kind = 5 then { light := true, tagRegion := 0x8005, tagKey := 0xFFFF } else DramLine.zero
  | none =>
    match regionAt f.chart.regions (f.chart.dataDpa (f.mode == .binary) f.isB a) with
    | some r => { key := if r.keySlot = 0xFFFF then none else some (SMap.get 0 f.keys r.keySlot), light := r.light,
                  tagRegion := if r.light then r.id else 0, tagKey := if r.light then r.keySlot else 0 }
    | none => DramLine.zero

/-- Presence of a page that is not listed: its newest run's, else the base's. -/
def runPresence (runs : List (Nat × Nat × Presence)) (base : Presence) (p : Nat) : Presence :=
  match runs.find? (fun r => decide (r.1 ≤ p) && decide (p < r.1 + r.2.1)) with
  | some r => r.2.2
  | none => base

/-- The fill wrote page `p`: it was ZERO. -/
def Fill.reached (f : Fill) (p : Nat) : Bool := SMap.get (runPresence f.runs f.base p) f.pres p == .zero

/-- What an unlisted line holds: what the newest fill that reached its page wrote (R165). -/
def Dram.filled (d : Dram) (l : Nat) : DramLine :=
  match d.fills.find? (fun f => f.reached (l / 32)) with
  | some f => f.line l
  | none => DramLine.zero

/-- Put a line into DRAM as it is: a frozen channel keeps it in its queue (R160). See assumption 20 (DESIGN CHOICE). -/
def putLine (l : Nat) (d : DramLine) (b : Blk) : Blk :=
  if b.frozenLine l then modChan (b.chanNo l) (fun c => { c with queued := SMap.insert c.queued l d }) b
  else { b with dram := { b.dram with lines := SMap.put (b.dram.filled l) b.dram.lines l d } }

/-- Write a line to DRAM: encrypt, encode, store, and count the encryption (R17, R344). -/
def writeLine (l : Nat) (data : Line) (poison : Bool) (stamp : Nat) (b : Blk) : Blk :=
  useSlot (b.lineInfo l).keySlot 1 true (putLine l (b.lineFor l data poison stamp) b)

/-- What DRAM holds of a line: an unlisted line is a filled line (R165). See assumption 13 (DEDUCED). -/
def Blk.dramLine (b : Blk) (l : Nat) : DramLine := SMap.get (b.dram.filled l) b.dram.lines l

/-- Is the line in its channel's drop list (R161)? -/
def Blk.dropped (b : Blk) (l : Nat) : Bool := (b.chan (b.chanNo l)).drops.contains l

/-- Presence of a page that is not listed. -/
def Blk.presDefault (b : Blk) (p : Nat) : Presence := runPresence b.dram.presRuns b.dram.presBase p

/-- Presence of a local page (R163). See assumption 15 (DESIGN CHOICE). -/
def Blk.presence (b : Blk) (p : Nat) : Presence :=
  match carveAt b.cht.cur.near (p * 4096) with
  | some c => if c.kind = 1 then .resident else SMap.get (b.presDefault p) b.dram.pres p
  | none => SMap.get (b.presDefault p) b.dram.pres p

/-- Set a page's presence. -/
def setPresence (p : Nat) (v : Presence) (b : Blk) : Blk :=
  { b with dram := { b.dram with pres := SMap.put (b.presDefault p) b.dram.pres p v } }

/-- The parts of a run outside the `n` pages from `p` on. -/
def cutRun (p n : Nat) (r : Nat × Nat × Presence) : List (Nat × Nat × Presence) :=
  ([(r.1, Nat.min (r.1 + r.2.1) p - r.1, r.2.2), (Nat.max r.1 (p + n), r.1 + r.2.1 - Nat.max r.1 (p + n), r.2.2)]).filter (fun x => decide (0 < x.2.1))

/-- Set the presence of the `n` pages from `p` on together. -/
def setRun (p n : Nat) (v : Presence) (b : Blk) : Blk :=
  { b with dram := { b.dram with pres := SMap.keep b.dram.pres (fun q _ => decide (q < p) || decide (p + n ≤ q)),
                                 presRuns := (p, n, v) :: b.dram.presRuns.flatMap (cutRun p n) } }

/-- Set the presence of one page or of a run of pages. -/
def setPages (v : Presence) (b : Blk) (r : Nat × Nat) : Blk := if r.2 = 1 then setPresence r.1 v b else setRun r.1 r.2 v b

/-- Remove every DRAM line of a page that is not RESIDENT: nothing of it is read before it is written again. -/
def dropPageLines (p : Nat) (b : Blk) : Blk :=
  { b with dram := { b.dram with lines := SMap.keep b.dram.lines (fun l _ => l / 32 != p) } }

/-- Write filled lines to the lines of a page that satisfy a test (R165, R166, R240). -/
def fillLines (p : Nat) (which : Nat → Bool) (b : Blk) : Blk :=
  ((List.range 32).filter which).foldl (fun b j => putLine (32 * p + j) (b.lineFor (32 * p + j) 0 false 0) b) b

/-- A line of a ZERO page that the page's fill has not reached: it reads as zeros (R163, R166). -/
def Blk.zeroLine (b : Blk) (l : Nat) : Bool := b.presence (l / 32) == .zero && !SMap.has b.dram.lines l

/-- The contents a read of a line would decrypt to, with its poison, leaving errors of the medium aside. -/
def Blk.peekLine (b : Blk) (l : Nat) : Line × Bool :=
  let i := b.lineInfo l
  let d := b.dramLine l
  if b.zeroLine l then (0, b.dropped l) else (d.decrypt (b.keyOf i.keySlot) i.dpa 0, d.poison || b.dropped l)

/-- The local line at a channel offset, when an interleave set maps it (R42). -/
def Blk.lineAtCofs (b : Blk) (c cofs : Nat) : Option Nat :=
  b.cht.cur.near.sets.findSome? (fun s =>
    match (bitsOf 16 s.mask).idxOf? c with
    | none => none
    | some i =>
      let k := (bitsOf 16 s.mask).length
      let o := (cofs >>> s.gran * k + i) <<< s.gran + cofs % 2 ^ s.gran
      if decide (o < s.sizeGib * gib) && b.placeLine ((s.base + o) / 128) == some (c, cofs / 128 * 128) then some ((s.base + o) / 128) else none)

/-! ### Halo -/

/-- Sets per quadrant (R116). -/
def Blk.haloSets (b : Blk) : Nat := Nat.max (b.cht.cur.halo.haloMib * 128) 1

/-- Quadrant and set of a line (R116). -/
def Blk.haloPlace (b : Blk) (l : Nat) : Nat × Nat :=
  (2 * b.hemi l + (if l.testBit 0 != l.testBit 7 then 1 else 0), l / 2 % b.haloSets)

/-- Key of a Halo entry. -/
def haloKey (q set way : Nat) : Nat := (q * 2 ^ 15 + set) * 16 + way

/-- The entry that holds a line. -/
def Blk.haloFind (b : Blk) (l : Nat) : Option (Nat × HaloLine) :=
  let p := b.haloPlace l
  ((List.range 16).findSome? (fun w =>
    match SMap.find? b.halo.lines (haloKey p.1 p.2 w) with
    | some h => if h.line = l then some (haloKey p.1 p.2 w, h) else none
    | none => none))

/-- Put a line into a Halo entry; a dirty one has its tag in the dirty-tag copy too (R117). -/
def haloPut (k : Nat) (h : HaloLine) (b : Blk) : Blk :=
  { b with halo := { b.halo with lines := SMap.insert b.halo.lines k h,
                                 copyTags := if h.dirty then SMap.insert b.halo.copyTags k h.line else b.halo.copyTags } }

/-- Invalidate a Halo entry. -/
def haloDrop (k : Nat) (b : Blk) : Blk := { b with halo := { b.halo with lines := SMap.erase b.halo.lines k } }

/-- Partition of a request from logical device `ld` (none for Orbit) to a region (R120). -/
def Blk.partition (b : Blk) (ld : Option Nat) (r : Option Region) : Nat :=
  let h := b.cht.cur.halo
  let key := if h.byRegion then r.map (·.id) else ld
  match key with
  | some k => ((h.map.find? (fun e => e.1 = k)).map (·.2)).getD h.defaultPart
  | none => h.defaultPart

/-- A partition's entry. -/
def Blk.partCfg (b : Blk) (p : Nat) : HaloPart := b.cht.cur.halo.parts.getD p ⟨false, false, 0xFFFF⟩

/-- Ways of a set into which a partition may allocate now: in its mask, not masked, not pinned by a frozen channel (R124, R127). -/
def Blk.waysFor (b : Blk) (l part : Nat) : List Nat :=
  let p := b.haloPlace l
  (bitsOf 16 (b.partCfg part).wayMask).filter (fun w =>
    let k := haloKey p.1 p.2 w
    !b.halo.masked.contains k &&
    (match SMap.find? b.halo.lines k with | some h => !b.frozenLine h.line | none => true))

/-- The victim among the ways: an empty way first, else the way the pseudo-LRU order names (R127; its order is a free value).
See assumption 12 (DESIGN CHOICE). -/
def Blk.victim (b : Blk) (l part : Nat) : Option Nat :=
  let p := b.haloPlace l
  let ws := b.waysFor l part
  match ws.find? (fun w => !SMap.has b.halo.lines (haloKey p.1 p.2 w)) with
  | some w => some (haloKey p.1 p.2 w)
  | none =>
    match ws with
    | [] => none
    | w :: rest =>
      let rank := Config.plruRank b.free (p.1 * 2 ^ 15 + p.2)
      some (haloKey p.1 p.2 (rest.foldl (fun x y => if rank y < rank x then y else x) w))

/-- Pass an entry's line to its channel's write queue when dirty, and drop the entry (R127). -/
def evictEntry (k : Nat) (b : Blk) : Blk :=
  match SMap.find? b.halo.lines k with
  | some h => haloDrop k (if h.dirty then writeLine h.line h.data h.poison h.stamp b else b)
  | none => b

/-- Does this unit home the data of a local line? Halo takes no other (R116): not the twin's mirrored lines, nor its pages in staging slots. -/
def Blk.homedLine (b : Blk) (l : Nat) : Bool :=
  match carveAt b.cht.cur.near (l * 128) with
  | some c => c.kind != 4 || b.homed (b.lineInfo l).dpa
  | none => b.homed (b.lineInfo l).dpa

/-! ### Halves and the merge buffer -/

/-- Half `i` of a line. -/
def halfOf (d : Line) (i : Nat) : Half := (d >>> (512 * i)).setWidth 512

/-- A line with half `i` replaced. -/
def withHalf (d : Line) (i : Nat) (h : Half) : Line :=
  if i = 0 then (halfOf d 1 ++ h : BitVec 1024) else (h ++ halfOf d 0 : BitVec 1024)

/-- An entry's half. -/
def MbEntry.half (e : MbEntry) (i : Nat) : Option Half := if i = 0 then e.half0 else e.half1

/-- An entry with a half placed, which replaces an earlier one; a poisoned half marks the line poisoned (R106, R122). -/
def MbEntry.put (e : MbEntry) (i : Nat) (h : Half) (poison : Bool) (stamp : Nat) : MbEntry :=
  let e := if i = 0 then { e with half0 := some h, bad0 := poison } else { e with half1 := some h, bad1 := poison }
  { e with poison := e.poison || poison, stamp := stamp }

/-- Both halves are present. -/
def MbEntry.full (e : MbEntry) : Bool := e.half0.isSome && e.half1.isSome

/-- The line an entry makes of what memory holds: a clean half leaves a poisoned line poisoned, two clean halves in one window clear the mark
(R106, R123). -/
def MbEntry.merge (e : MbEntry) (old : Line × Bool) : Line × Bool :=
  let d := match e.half0 with | some h => withHalf old.1 0 h | none => old.1
  let d := match e.half1 with | some h => withHalf d 1 h | none => d
  (d, if e.full then e.bad0 || e.bad1 else e.poison || old.2)

/-- Open entries of a hemisphere. -/
def Blk.mbCount (b : Blk) (h : Nat) : Nat := SMap.count b.halo.mb (fun l _ => b.hemi l == h)

/-- Is an entry free on a hemisphere (R122, R134)? -/
def Blk.mbFree (b : Blk) (h : Nat) : Bool := decide (b.mbCount h + SMap.get 0 b.halo.mbRetired h < 4096)

/-! ### The flush (R129, R269, R444) -/

/-- Write one Halo line to DRAM if dirty; a pinned line stays as it is (R128, R444). -/
def flushHalo (keepLine : Bool) (e : Nat × HaloLine) (b : Blk) : Blk :=
  if b.frozenLine e.2.line then b
  else
    let b := if e.2.dirty then writeLine e.2.line e.2.data e.2.poison e.2.stamp b else b
    if keepLine then haloPut e.1 { e.2 with dirty := false } b else haloDrop e.1 b

/-- Complete one merge-buffer entry to DRAM (R123, R129). -/
def flushEntry (e : Nat × MbEntry) (b : Blk) : Blk :=
  let m := e.2.merge (b.peekLine e.1)
  let b := if e.2.full then b else feedMetric 9 (b.hemi e.1) 1 (countEvent 0x12 1 b)
  let b := { b with halo := { b.halo with mb := SMap.erase b.halo.mb e.1 } }
  writeLine e.1 m.1 m.2 e.2.stamp b

/-- The half whose data a local line holds (R258, R260). -/
def Blk.lineHalf (b : Blk) (l : Nat) : Nat := b.halfOf (b.lineInfo l).dpa

/-- The flush of a fence: every dirty Halo line and every entry of the half reaches DRAM, and the half's Halo lines are invalidated (R269); arrays and
media show no error meanwhile (assumption 2). See assumption 21 (DEDUCED). -/
def flushHalf (h : Nat) (b : Blk) : Blk :=
  let b := (b.halo.lines.filter (fun (e : Nat × HaloLine) => b.lineHalf e.2.line == h)).foldl (fun b e => flushHalo false e b) b
  (b.halo.mb.filter (fun (e : Nat × MbEntry) => b.lineHalf e.1 == h)).foldl (fun b e => flushEntry e b) b

end Sys2Proof.Machine
end

