-- ==== Sys2Proof/Machine/OpsView.lean ====
section
/-!
DEFINITION. What a logical device may reach (R91), the dirty level and ceilings (R175 to R184), and the window values a host
sees: HP_LD_STATUS (Table 4-8) and the epoch status block (Table 3-10).
-/
namespace Sys2Proof.Machine
open Sys2Proof

/-! ### Views (R91) -/

/-- The region's LD mask on this unit names logical device `n`. -/
def Blk.maskHas (b : Blk) (r : Region) (n : Nat) : Bool := (b.maskOf r).testBit n

/-- An extent of `n` covers the DPA. -/
def Blk.extentHas (b : Blk) (n dpa : Nat) : Bool :=
  (b.ld n).extents.any (fun e => decide (e.base ≤ dpa) && decide (dpa < e.base + e.size))

/-- How a DPA of a region answers logical device `n`. -/
inductive Reach where
  | ok | unmapped | masked | keyEmpty
  deriving DecidableEq, Repr

/-- May `n` access the DPA through region `r` (R91, R336)? -/
def Blk.reachRegion (b : Blk) (n dpa : Nat) (r : Region) : Reach :=
  if !b.maskHas r n then .masked
  else if r.dynamic && !b.extentHas n dpa then .unmapped
  else if b.keyEmpty r then .keyEmpty
  else .ok

/-- The Transit slot behind an alias DPA: window, slot and offset in the slot (R252). -/
def Blk.aliasAt (b : Blk) (dpa : Nat) : Option (WindowCfg × Nat × Nat) := b.slotAt (dpa - aliasBase)

/-- May `n` access the DPA (R91)? A Transit alias belongs to its window's owner. -/
def Blk.reach (b : Blk) (n dpa : Nat) : Reach :=
  match b.area dpa with
  | .slot =>
    match b.aliasAt dpa with
    | some (w, _, _) => if w.owner = n then .ok else .unmapped
    | none => .unmapped
  | .none => .unmapped
  | _ =>
    match b.regionOf dpa with
    | some r => b.reachRegion n dpa r
    | none => .unmapped

/-- What is mapped for logical device `n` (R91): base, size, whether it is HDM-DB (R92), and whether a key slot keeps it out of the view (R336). -/
def Blk.mapped (b : Blk) (n : Nat) : List (Nat × Nat × Bool × Bool) :=
  (b.cht.cur.regions.filter (fun r => !r.dynamic && b.maskHas r n)).map (fun r => (r.base, r.size, r.sharing == .sharedDb, b.keyEmpty r)) ++
  (b.ld n).extents.filterMap (fun e => match b.cht.cur.region? e.region with
    | some r => if b.maskHas r n then some (e.base, e.size, r.sharing == .sharedDb, b.keyEmpty r) else none
    | none => none) ++
  (b.myWindows.filter (fun w => w.1.owner = n)).map (fun w => (aliasBase + w.2, w.1.slots * w.1.slotMib * mib, false, false))

/-- How far from `a` on the ranges of a list reach without a gap. -/
def coverEnd : Nat → List (Nat × Nat) → Nat → Nat
  | 0, _, a => a
  | k + 1, ps, a => match ps.find? (fun p => decide (p.1 ≤ a) && decide (a < p.1 + p.2)) with | some p => coverEnd k ps (p.1 + p.2) | none => a

/-- Is every byte of `[dpa, dpa + len)` in the view of `n` (R91)? -/
def Blk.inView (b : Blk) (n dpa len : Nat) : Bool :=
  let ps := ((b.mapped n).filter (fun x => !x.2.2.2)).map (fun x => (x.1, x.2.1))
  decide (len = 0) || decide (dpa + len ≤ coverEnd ps.length ps dpa)

/-! ### Tracked pages, D and C -/

/-- The region, carve-out or neither that a local page belongs to, when it is tracked (R174). -/
def Blk.tracked (b : Blk) (p : Nat) : Bool :=
  match carveAt b.cht.cur.near (p * 4096) with
  | some c => c.kind = 3 || c.kind = 4
  | none => (b.lineInfo (p * 32)).region.isSome

/-- The dirty level D (R175). -/
def Blk.dirtyBytes (b : Blk) : Nat := b.pers.dirty.length * 4096

/-- Is the page's dirty bit set? -/
def Blk.isDirty (b : Blk) (p : Nat) : Bool := SMap.has b.pers.dirty p

/-- Size of the dirty map image M (R179). -/
def Blk.mapBytes (b : Blk) : Nat := carveSize b.cht.cur.near 8

/-- Whole GiB at or below a number of bytes. -/
def floorGib (n : Nat) : Nat := n / gib * gib

/-- C_E for a declared NORMAL or DEGRADED value (R177). -/
def energyCeiling (c : PersCfg) (v rSave : Nat) : Nat :=
  if c.energy then floorGib ((v - 200) * rSave / 390) else v * gib

/-- C_E in force (R177). -/
def Blk.ceilE (b : Blk) : Nat :=
  energyCeiling b.cht.cur.pers (if b.pers.degraded then b.cht.cur.pers.degraded else b.cht.cur.pers.normal) b.pers.rSave

/-- C_J (R179). -/
def Blk.ceilJ (b : Blk) : Nat := floorGib ((b.nvf.jReady - b.mapBytes - mib) * 63 / 64)

/-- The ceiling C (R177). -/
def Blk.ceiling (b : Blk) : Nat := Nat.min b.ceilE b.ceilJ / 4096 * 4096

/-- The governor state (Table 7-2). -/
def Blk.gov (b : Blk) : GovState :=
  let d := b.dirtyBytes; let c := b.ceiling
  if c < d then .draining
  else if c * 15 / 16 < d then (if 0 < b.pers.credit then .pressed else .throttling)
  else .normal

/-- K of R182. -/
def Blk.reserveK (b : Blk) : Nat := Nat.min gib (b.ceiling / 4)

/-- F of R183: bytes whose write-back program is issued and not complete. -/
def Blk.issuedBytes (b : Blk) : Nat := b.pers.inFlight.length * 4096

/-- The release test of R183. -/
def Blk.releaseOk (b : Blk) : Bool := decide (b.dirtyBytes - b.issuedBytes + 4096 ≤ b.ceiling - b.reserveK)

/-- Is any write held by R183? -/
def Blk.throttling (b : Blk) : Bool := b.host.held.any (fun h => h.why == .throttle)

/-- The stamp of a RESIDENT page (R176). -/
def Blk.stampOf (b : Blk) (p : Nat) : Nat := SMap.get 0 b.pers.stamps p

/-- The restore descriptor of a PENDING page (R197). -/
def Blk.descriptor (b : Blk) (p : Nat) : Nat :=
  match SMap.find? b.pers.from' p with
  | some (.journal l) => 2 ^ 63 + l
  | some .lost => 2 ^ 61
  | _ => 2 ^ 62

/-- The 128 bytes of a line of the PRESENCE, DIRTY_MAP or EPOCH_STAMPS carve-out, which hold what the maps of State do: 2 bits, 1 bit and 8 bytes for
each page (R163, R175, R176). -/
def Blk.tableLine (b : Blk) (l : Nat) : Option Line :=
  match carveAt b.cht.cur.near (l * 128) with
  | none => none
  | some c =>
    let o := l * 128 - c.base
    let bits : Nat → (Nat → Nat) → Line := fun w v => BitVec.ofNat 1024 ((List.range (1024 / w)).foldl (fun a i => a + v (o * 8 / w + i) * 2 ^ (w * i)) 0)
    match c.kind with
    | 1 => some (bits 2 (fun p => (b.presence p).code))
    | 8 => some (bits 1 (fun p => if b.isDirty p then 1 else 0))
    | 6 => some (bits 64 (fun p => (if b.presence p == .pending then b.descriptor p else b.stampOf p) % 2 ^ 64))
    | _ => none

/-- What the medium holds at a line: the maps' carve-outs hold the maps. -/
def Blk.mediaLine (b : Blk) (l : Nat) : DramLine :=
  match b.tableLine l with
  | some x => { plain := x }
  | none => b.dramLine l

/-- 256 MiB frames of tracked pages in a run that is PENDING (R60). -/
def Blk.pendingFrames (b : Blk) : List Nat :=
  (b.dram.presRuns.filter (fun r => r.2.2 == .pending)).flatMap (fun r =>
    ((List.range (r.2.1 / 65536)).map (fun i => r.1 / 65536 + i)).filter (fun f => b.tracked (f * 65536)))

/-- PENDING pages. -/
def Blk.pendingCount (b : Blk) : Nat :=
  SMap.count b.dram.pres (fun p v => v == .pending && b.tracked p) +
    (b.pendingFrames.map (fun f => 65536 - SMap.count b.dram.pres (fun p _ => p / 65536 == f))).foldl (· + ·) 0

/-! ### Window values -/

/-- The local Near page of a DPA that this unit homes, if it is Near. -/
def Blk.pageOf (b : Blk) (dpa : Nat) : Nat := b.nearLocal dpa / 4096

/-- DPA of a local tracked page's first byte. -/
def Blk.pageDpa (b : Blk) (p : Nat) : Nat := (b.lineInfo (p * 32)).dpa

/-- Does the page lie in the view of `n`? -/
def Blk.pageInView (b : Blk) (n p : Nat) : Bool :=
  match (b.lineInfo (p * 32)).region with
  | some r => !r.far && b.reachRegion n (b.pageDpa p) r == .ok
  | none => false

/-- Is some channel frozen or some flash member retired (HP_LD_STATUS.DEGRADED)? -/
def Blk.anyDegraded (b : Blk) : Bool :=
  b.dram.chans.any (fun e => e.2.state == .frozen) || b.nvf.dies.any (fun e => e.2.state == .retired)

/-- A half's state. -/
def Blk.half (b : Blk) (h : Nat) : HalfSt := SMap.get HalfSt.fresh b.twin.halves h

/-- Change a half's state. -/
def modHalf (h : Nat) (f : HalfSt → HalfSt) (b : Blk) : Blk :=
  { b with twin := { b.twin with halves := SMap.upd HalfSt.fresh b.twin.halves h f } }

/-- Halves that exist in the topology in force (R258). -/
def Blk.halvesOf (b : Blk) : List Nat := match b.cht.mode with | .solo => [] | .twin => [0] | .binary => [0, 1]

/-- Halves that a region of the view of `n` touches. In Binary a region longer than 1 GiB touches both (R260). -/
def Blk.viewHalves (b : Blk) (n : Nat) : List Nat :=
  b.halvesOf.filter (fun h => b.cht.cur.regions.any (fun r =>
    b.maskHas r n && !r.far && (!b.binary || decide (2 ^ 30 < r.size) || b.halfOf r.base == h || b.halfOf (r.base + r.size - 1) == h)))

/-- The current epoch will be flagged (MER_STATUS.FLAGGING): some tick of it has flagged it. -/
def Blk.flagging (b : Blk) : Bool := b.mer.flagNow != 0

/-- HP_LD_STATUS (Table 4-8), live. -/
def Blk.ldStatus (b : Blk) (n : Nat) : W64 :=
  view [placeBit (b.dram.pres.any (fun e => e.2 == .pending && b.pageInView n e.1) || b.pendingFrames.any (fun f => b.pageInView n (f * 65536))) 0,
        placeBit (b.host.held.any (fun h => (h.why == .throttle || h.why == .ship) && b.reach n h.req.dpa == .ok)) 1,
        placeBit b.anyDegraded 2,
        placeBit ((b.viewHalves n).any (fun h => (b.half h).role != .holder)) 3,
        placeBit b.flagging 4]

/-- The last sealed epoch is flagged. -/
def Blk.sealedFlagged (b : Blk) : Bool :=
  match b.mer.sealedEpoch with
  | none => false
  | some e => b.mer.runs.any (fun r => decide (r.1 ≤ e) && decide (e ≤ r.2)) || (b.mer.runOpen && decide (b.mer.runFirst ≤ e))

/-- MER_LD_CLEAN_FROM (Table 3-10). -/
def Blk.cleanFrom (b : Blk) : Nat :=
  if b.mer.runOpen then ones64.toNat
  else match b.mer.runs.getLast? with
    | some r => r.2 + 1
    | none => 0

/-- The epoch status block, live (Table 3-10). -/
def Blk.epochBlock (b : Blk) : List W64 :=
  [BitVec.ofNat 64 b.epoch,
   view [place (b.mer.sealedEpoch.getD 0) 63 0, placeBit b.sealedFlagged 63],
   BitVec.ofNat 64 b.cleanFrom,
   view [place b.mer.body.tickNs 16 0, place b.mer.body.skewNs 16 16, place b.mer.body.l 32 32],
   view [place b.mer.state.code 3 0, placeBit b.mer.capable 3]]

/-- Hold the window values of every enabled logical device at what they are (R83, R112). -/
def holdWindows (b : Blk) : Blk :=
  b.cht.cur.lds.foldl (fun b n =>
    match (b.ld n).heldWin with
    | some _ => b
    | none => let w : HeldWindow := ⟨b.ldStatus n, b.epochBlock⟩; modLd n (fun l => { l with heldWin := some w }) b) b

/-- End the hold of every logical device whose view no half still in Eclipse touches; from the Dusk trigger none ends (R83). -/
def releaseEclipsed (b : Blk) : Blk :=
  if b.inDusk then b
  else
    let past := fun (n : Nat) => (b.viewHalves n).all (fun h => !(b.half h).eclipse)
    { b with host := { b.host with lds := b.host.lds.map (fun e => (e.1, if past e.1 then { e.2 with heldWin := none } else e.2)) } }

/-- End the hold (R83). -/
def releaseWindows (b : Blk) : Blk :=
  { b with host := { b.host with lds := b.host.lds.map (fun e => (e.1, { e.2 with heldWin := none })) } }

end Sys2Proof.Machine
end

