-- ==== Sys2Proof/Machine/OpsPower.lean ====
section
/-!
DEFINITION. Shared operations of the power sequencer and the Dawn (R374 to R390): the power log, raising and lowering by
groups, and how a Dawn ends.
-/
namespace Sys2Proof.Machine
open Sys2Proof

/-- Content of a power log record besides its TYPE. -/
structure PowArgs where
  slot : Nat := 0xFF
  attempt : Nat := 0
  stage : Nat := 0xFF
  reason : DawnReason := .none
  detail : Nat := 0

/-- The 64 bytes of a power log record (Table 14-3). -/
def PowRec.bytes (r : PowRec) : List Byte :=
  natLe 1 r.type.code ++ natLe 1 r.slot ++ natLe 1 r.attempt ++ natLe 1 r.stage ++ natLe 1 r.reason.code ++ [0] ++ natLe 2 r.detail ++ natLe 4 r.hours ++
  natLe 4 r.cycles ++ natLe 8 r.localUs ++ natLe 8 r.seq ++ natLe 8 r.meridian ++ List.replicate 20 0 ++ natLe 4 0x474F4C50

/-- Append a record to the power log ring of 32 sectors of 512 records; the ring erases a sector before it reaches it (R383). -/
def powRecord (t : PowType) (a : PowArgs) (b : Blk) : Blk :=
  let r : PowRec := { type := t, slot := a.slot, attempt := a.attempt, stage := a.stage, reason := a.reason, detail := a.detail,
                      hours := b.pwr.boot.hours, cycles := b.pwr.boot.cycles, localUs := b.us, seq := b.pwr.logSeq, meridian := b.recCount }
  { b with pwr := { b.pwr with log := r :: (if b.pwr.logSeq % 512 = 0 then b.pwr.log.take 15872 else b.pwr.log), logSeq := b.pwr.logSeq + 1 } }

/-- Change the power state. -/
def modPwr (f : PowerSt → PowerSt) (b : Blk) : Blk := { b with pwr := f b.pwr }

/-- A slot's entry of the POWER_SEQUENCE body in force. -/
def Blk.rail (b : Blk) (s : Nat) : RailCfg := b.pwr.body.rails.getD s {}

/-- Slots the body enables. -/
def Blk.railSlots (b : Blk) : List Nat := (bitsOf 16 b.pwr.body.slotMask)

/-- The Twilight rails: slots with TWILIGHT, none after RAIL or PG_LOST (R395). -/
def Blk.twilightKeep (b : Blk) : Nat :=
  if b.pwr.boot.lastReason = .rail || b.pwr.boot.lastReason = .pgLost then 0
  else Sys2Proof.Machine.maskOf (b.railSlots.filter (fun s => (b.rail s).twilight))

/-- Slots that a power-up raises: all enabled ones, or in Twilight those of R395. -/
def Blk.raiseSlots (b : Blk) : List Nat := if b.pwr.stage = .twilight then bitsOf 16 b.twilightKeep else b.railSlots

/-- Slots of a list in the group of an ORDER. -/
def Blk.groupOf (b : Blk) (l : List Nat) (o : Nat) : List Nat := l.filter (fun s => (b.rail s).order = o)

/-- Set a bit of a mask. -/
def setBit (m n : Nat) : Nat := m ||| (1 <<< n)

/-- Clear a bit of a mask. -/
def clearBit (m n : Nat) : Nat := if m.testBit n then m - 1 <<< n else m

/-- Is local SEQ_EN of the slot raised? -/
def Blk.railEn (b : Blk) (s : Nat) : Bool := b.pwr.en.testBit s

/-- A slot of the group being raised has passed its PG_TIMEOUT with power-good low (R375). -/
def Blk.slotTimedOut (b : Blk) (s : Nat) : Bool := !(b.rail s).noPg && b.pwr.waited.testBit s

/-- A slot of the group being raised is done: power-good, or its PG_TIMEOUT has passed (R375). -/
def Blk.slotDone (b : Blk) (s : Nat) : Bool := b.pwr.waited.testBit s || (!(b.rail s).noPg && b.pwr.pg.testBit s)

/-- A slot of the group being lowered is done (R377). -/
def Blk.slotLow (b : Blk) (s : Nat) : Bool := b.pwr.lowered.testBit s || (!(b.rail s).noPg && !b.pwr.pg.testBit s)

/-- The least ORDER above `lo` (or at all) among slots. -/
def Blk.nextOrder (b : Blk) (l : List Nat) (above : Option Nat) : Option Nat :=
  (List.range 16).find? (fun o => (match above with | some x => decide (x < o) | none => true) && !(b.groupOf l o).isEmpty)

/-- The greatest ORDER among slots. -/
def Blk.topOrder (b : Blk) (l : List Nat) : Option Nat := ((List.range 16).filter (fun o => !(b.groupOf l o).isEmpty)).getLast?

/-- Raised slots that the power-down under way lowers. -/
def Blk.toLower (b : Blk) : List Nat := (List.range 16).filter (fun s => b.railEn s && !b.pwr.keep.testBit s)

/-- The Dawn ends with a DAWN_END record (R388). -/
def endDawn (e : DawnEnd) (b : Blk) : Blk :=
  modPwr (fun p => { p with boot := { p.boot with dawnOpen := none, lastEnd := some e } }) b

/-- DRAM that no self-refresh keeps loses its contents when its rails fall (R167, R384). See assumption 78 (DESIGN CHOICE). -/
def dropDram (retained : Nat) (b : Blk) : Blk :=
  let keepLine := fun (l : Nat) => retained.testBit (2 * b.chanNo l + (b.geo l).dimm)
  { b with dram := { b.dram with lines := SMap.keep b.dram.lines (fun l _ => keepLine l), powered := false, fills := if retained = 0 then [] else b.dram.fills,
                                 chans := SMap.mapVal b.dram.chans (fun _ c => { c with queued := [] }) } }

/-- Power fails during the page save: of the pages still to save, those of a number of whole chunks have been written (R188), which the
spec does not fix (a free value). See assumption 35 (DESIGN CHOICE). -/
def cutSave (b : Blk) : Blk :=
  match b.pers.dusk, b.pers.gens.getLast? with
  | some d, some g =>
    if d.step = .saving then
      let f := drawFree b
      let k := f.1 % (g.chunks.length + 1)
      let kept := (g.chunks.take k).flatten
      let g := { g with units := SMap.keep g.units (fun p _ => kept.contains p) }
      { f.2 with pers := { f.2.pers with gens := f.2.pers.gens.dropLast ++ [g] } }
    else b
  | _, _ => b

/-- The rails are down: the hemispheres lose Halo and every request (R443), the minimum off time runs (R378). -/
def railsDown (b : Blk) : Blk :=
  let thermalOff := b.therm.shutdown
  let b := cutSave b
  let b := dropDram (if b.pwr.keep = 0 then 0 else b.dram.selfRefresh) b
  let b := modPwr (fun p => { p with seq := .minOff, stage := .down, twilight := false, boot := { p.boot with railsWentDown := true } }) b
  { b with pers := { b.pers with dusk := none }, host := { b.host with held := [], fwd := [], mirror := [], gpf := [] },
           halo := { b.halo with lines := [], mb := [], copyTags := [], waitClose := [] },
           therm := { b.therm with downAt := b.us, disarmed := b.therm.disarmed || thermalOff } }

/-- Put a power-up's group on: assert its enables (R375). -/
def raiseGroup (o : Nat) (b : Blk) : Blk :=
  modPwr (fun p => { p with seq := .raising, group := o, settling := false, waited := 0,
                            en := (b.groupOf b.raiseSlots o).foldl setBit p.en }) b

/-- Begin an attempt at the lowest group (R376); with no slot to raise the sequencer stays as it is. -/
def beginRaise (attempt : Nat) (b : Blk) : Blk :=
  match b.nextOrder b.raiseSlots none with
  | some o => raiseGroup o (modPwr (fun p => { p with attempt := attempt, keep := 0 }) b)
  | none => modPwr (fun p => { p with seq := if p.en = 0 then .off else .on }) b

/-- What follows when every group has been lowered (R375 to R396). -/
def lowerDone (b : Blk) : Blk :=
  match b.pwr.lowerWhy with
  | .retry => modPwr (fun p => { p with seq := .minOff }) b
  | .twilight => modPwr (fun p => { p with seq := if p.en = 0 then .off else .on }) b
  | .beforeRaise => beginRaise 1 b
  | _ => railsDown b

/-- Deassert the next group's enables, or finish (R377). Fuel 16 covers every group. -/
def lowerNext (b : Blk) : Blk :=
  match b.topOrder b.toLower with
  | none => lowerDone b
  | some o =>
    let ss := b.groupOf b.toLower o
    modPwr (fun p => { p with group := o, lowered := 0, en := ss.foldl clearBit p.en }) b

/-- The slots of the group being lowered. -/
def Blk.lowering (b : Blk) : List Nat := (b.groupOf b.railSlots b.pwr.group).filter (fun s => !b.pwr.keep.testBit s)

/-- Go on to the next groups while the one being lowered has discharged (R377). -/
def lowerWhile : Nat → Blk → Blk
  | 0, b => b
  | n + 1, b =>
    if b.pwr.seq = .lowering && b.lowering.all (fun s => b.slotLow s) then lowerWhile n (lowerNext b) else b

/-- Begin a power-down, for a reason, keeping some slots raised. -/
def startLower (why : LowerWhy) (keep : Nat) (b : Blk) : Blk :=
  let b := modPwr (fun p => { p with seq := .lowering, lowerWhy := why, keep := keep, offReq := false, onReq := false,
                                      settling := false, attempt := p.attempt }) b
  lowerWhile 17 (lowerNext b)

/-- Cut every SEQ_EN at once, with no order (R405, R503). -/
def cutRails (b : Blk) : Blk := railsDown (modPwr (fun p => { p with en := 0, keep := 0, lowerWhy := .offRequest }) b)

/-- The conditions of R378 but for the minimum off time, which SEQ holds as MIN_OFF. -/
def Blk.mayRaise (b : Blk) : Bool := b.aon && b.pwr.pwrStable && !b.pwr.holdOff && !b.therm.shutdown

/-- An on request, the return of every condition of R378, that comes during a power-down outside a Dusk (R379, R384). -/
def noteOn (before b : Blk) : Blk :=
  if !before.mayRaise && b.mayRaise && b.pwr.seq = .lowering && !b.inDusk && !b.pwr.onReq then
    powRecord .onDuringDown {} (modPwr (fun p => { p with onReq := true }) b)
  else b

/-- Every slot of the group being raised has reached power-good or its PG timeout. -/
def Blk.groupDone (b : Blk) : Bool := (b.groupOf b.raiseSlots b.pwr.group).all (fun s => b.slotDone s)

/-- An off request ends the Dawn under way, if one is, as ABORTED (R388, R390). -/
def abortDawn (b : Blk) : Blk := match b.pwr.stage with | .dawn _ => endDawn .aborted b | _ => b

/-- An off request during a power-up takes effect once the group being raised has settled: every raised group is lowered, and a timeout
in that last group is no RAIL_FAIL (R379). -/
def offIfSettled (b : Blk) : Blk :=
  if b.pwr.seq = .raising && b.pwr.offReq && b.groupDone then startLower .offRequest 0 (abortDawn (powRecord .offDuringUp {} b)) else b

/-- Off request before D7 (R379, R390): during D1 the power-up is broken off, also between its attempts; from D2 to D6 the rails are
lowered at once. See assumption 68 (DEDUCED). -/
def offRequest (b : Blk) : Blk :=
  match b.pwr.seq, b.pwr.lowerWhy with
  | .raising, _ => offIfSettled (modPwr (fun p => { p with offReq := true }) b)
  | .lowering, .retry => modPwr (fun p => { p with lowerWhy := .offRequest }) (abortDawn (powRecord .offDuringUp {} b))
  | .minOff, .retry => modPwr (fun p => { p with lowerWhy := .offRequest, stage := .down, twilight := false }) (abortDawn (powRecord .offDuringUp {} b))
  | .on, _ => if b.pwr.stage = .service then b else startLower .offRequest 0 (abortDawn b)
  | _, _ => b

end Sys2Proof.Machine
end

