-- ==== Sys2Proof/Machine/OpsFault.lean ====
section
/-!
DEFINITION. Shared operations on faults: leaving the HOLDER role (R269, R280, R285), the Dusk trigger (R24, R186), firmware-class
resets (R25), the fault collector with its reactions (R410 to R414), and a DRAM channel's freeze (R160).
-/
namespace Sys2Proof.Machine
open Sys2Proof

/-! ### The lease: fences and RELEASE -/

/-- The half whose data this unit's Halo holds: half 0 in Solo and Twin, its own half in Binary (R116, R258). -/
def Blk.ownHalf (b : Blk) : Nat := if b.binary && b.cht.isB then 1 else 0

/-- The last sealed epoch as a message carries it. -/
def Blk.sealedNo (b : Blk) : Nat := b.mer.sealedEpoch.getD ones64.toNat

/-- PAIR_TAG of this unit: 0 under the default Chart. -/
def Blk.pairTag (b : Blk) : Nat := if b.cht.cur.isDefault then 0 else b.cht.cur.topo.pairTag

/-- Send an arbiter message of this unit (R278); COUNT and EPOCH as Table 10-5 gives. -/
def sendArb (t : ArbType) (h code epoch : Nat) (b : Blk) : Blk :=
  let m : ArbMsg := { type := t, seq := b.twin.arbSeq, pairTag := b.pairTag, unit := b.ident.unitId, half := h, code := code, leaseNo := (b.half h).leaseNo,
                      count := b.mer.count, epoch := epoch }
  send (.arb m) { b with twin := { b.twin with arbSeq := b.twin.arbSeq + 1 } }

/-- An Eclipse of a half begins as this unit knows it (R283): window values hold, the start count is recorded, and the event is
logged (group 0x12, code 6). -/
def beginEclipse (h : Nat) (b : Blk) : Blk :=
  let b := holdWindows b
  let b := modHalf h (fun x => { x with role := .eclipse, gateOpen := false, eclipse := true, expiry := none, renewSent := none }) b
  logEvent 6 {} { b with twin := { b.twin with eclipseStart := b.mer.count } }

/-- Fence a half this unit holds: its gates close, the data plane flushes and invalidates the half (R269), and an Eclipse begins. -/
def fenceHalf (h : Nat) (b : Blk) : Blk :=
  if (b.half h).role = .holder then
    let b := beginEclipse h b
    flushHalf h b
  else b

/-- Fence a half and send RELEASE with a CODE (R285). -/
def releaseHalf (code h : Nat) (b : Blk) : Blk :=
  if (b.half h).role = .holder then sendArb .release h code b.sealedNo (fenceHalf h b) else b

/-- Fence and release every half this unit holds. -/
def releaseAll (code : Nat) (b : Blk) : Blk := b.halvesOf.foldl (fun b h => releaseHalf code h b) b

/-! ### The Dusk trigger -/

/-- The summary record of a freeze's dropped writes (R161): group 0x05 code 4, which counts nothing more. -/
def dropSummary (c : Nat) (b : Blk) : Blk :=
  let x := b.chan c
  if x.dropCount = 0 then b
  else modChan c (fun x => { x with dropCount := 0 })
    (logRecord 0x504 { kind := .address, loc := BitVec.ofNat 64 x.dropFirst,
                       detail := natLe 8 x.dropLast ++ natLe 4 x.dropCount ++ [BitVec.ofNat 8 c] } b)

/-- Pages being programmed stay dirty: a Dusk saves them like every other dirty page (R187). -/
def stopWriteback (b : Blk) : Blk :=
  { b with pers := { b.pers with inFlight := SMap.mapVal b.pers.inFlight (fun _ _ => true) } }

/-- D7 has begun (R24, R390). -/
def Blk.fromD7 (b : Blk) : Bool := b.pwr.stage == .service || b.pwr.stage == .dawn 7

/-- A firmware update under way ends with UPDATE_ABORT; the partial bank stays as it is (R472). -/
def abortUpdate (b : Blk) : Blk :=
  if b.mgt.update = .idle then b
  else
    let js := b.efl.jobs.filter (fun j => match j with | .erase s => decide (512 ≤ s) | .firmware _ => false | _ => true)
    setErr .mgt 5 { b with mgt := { b.mgt with update := .idle, updateSize := 0, updateGot := 0, header := [] }, efl := { b.efl with jobs := js } }

/-- An hourly image under way is abandoned, and the Dusk's goes into the other erased slot (R430). -/
def abandonHourly (b : Blk) : Blk :=
  let js := b.efl.jobs.filter (fun j => j != .almImage 0)
  if b.efl.cur = some (.almImage 0) then
    pickJob { b with efl := { b.efl with cur := none, jobs := js }, alm := { b.alm with used := b.alm.used + 1, storing := none } }
  else { b with efl := { b.efl with jobs := js } }

/-- The Dusk trigger (R24, R186): from D7, once; writes are held, outputs hold, the lease is released (R285), background work
stops, the Almanac's freeze ends and its image is written (R427, R430), and what an Eclipse holds is discarded (R443). See assumption 69 (DEDUCED). -/
def trigger (thermal noResume : Bool) (b : Blk) : Blk :=
  if b.inDusk || !b.fromD7 then b
  else
    let b := abortUpdate (abortDawn (holdWindows b))
    let b := { b with pers := { b.pers with dusk := some { thermal := thermal, pwrFail := b.pwr.pwrFail } } }
    let b := modPwr (fun p => { p with noResume := noResume, boot := { p.boot with duskBegun := true, credit := b.pers.credit, countFloor := b.mer.count, duskCount := some b.mer.count } }) b
    let b := { b with therm := { b.therm with frozen := true }, alm := { b.alm with frozen := false } }
    let b := logEvent 10 {} (addJob .bootRecord b)
    let b := addJob (.almImage 1) (addJob .keyRecords (abandonHourly b))
    let b := (b.dram.chans.filter (fun (e : Nat × Chan) => e.2.state == .frozen)).foldl (fun b e => dropSummary e.1 b) b
    let eclipsed := b.halvesOf.filter (fun h => (b.half h).eclipse)
    let b := { b with host := { b.host with held := b.host.held.filter (fun (h : HeldReq) => !(eclipsed.any (fun e => h.why == .gate e))) } }
    let b := releaseAll (if thermal then 4 else 3) b
    let b := modHalf 0 (fun x => { x with gateOpen := false }) b
    let b := modHalf 1 (fun x => { x with gateOpen := false }) b
    { stopWriteback b with nvf := { b.nvf with patrolPaused := b.nvf.patrolPaused }, cht := { b.cht with commitWait := none } }

/-- DUSK_OFF, PSQ_CMD OFF and the like: HOLD_OFF (R386, R414). -/
def setHoldOff (b : Blk) : Blk := modPwr (fun p => { p with holdOff := true }) b

/-- Fire the trigger from D7, or treat it as an off request before (R386, R390, R414). -/
def duskOrOff (thermal noResume : Bool) (b : Blk) : Blk := if b.fromD7 then trigger thermal noResume b else offRequest b

/-! ### Firmware-class resets (R25, R27) -/

/-- A Chart slot's programming ends unfinished: its commit leaves nothing (R50, R52). See assumption 54 (DEDUCED). -/
def dropCommit (b : Blk) : Blk :=
  let isChart : EflJob → Bool := fun j => match j with | .chartSlot _ => true | _ => false
  let cur := if (b.efl.cur.map isChart).getD false then none else b.efl.cur
  pickJob { b with efl := { b.efl with cur := cur, jobs := b.efl.jobs.filter (fun j => !isChart j) }, cht := { b.cht with commitNext := none, commitWait := none, staged := none } }

/-- A firmware-class reset begins: the cores restart, the staging registers and the buffer take their reset values (R52, R63), and waiting work
waits. Not performed after the Dusk trigger or in Twilight (R458). -/
def firmwareReset (b : Blk) : Blk :=
  if b.inDusk || b.pwr.stage = .twilight then b
  else
    let st := if b.cht.slotRec.pending then StageState.pendingDawn else .idle
    let b := dropCommit b
    { b with fw := { b.fw with restarting := true, retried := false }, flt := { b.flt with lastRestart := some b.cyc },
             cht := { b.cht with state := st, buf := [], seqErr := false, reason := .none, sect := 0, offset := 0 } }

/-- A firmware-class reset was begun in the preceding 10 s, or one is under way (R414). -/
def Blk.restartTooSoon (b : Blk) : Bool :=
  b.fw.restarting || (match b.flt.lastRestart with | some t => decide (b.cyc < t + 1000000000) | none => false)

/-! ### The fault collector (R410 to R414) -/

/-- A pin's FAULT_REACTION (Table 16-3). -/
def react (a : FaultAction) (b : Blk) : Blk :=
  if b.inDusk then b
  else match a with
    | .none => b
    | .release => if b.inService then releaseAll 6 b else b
    | .firmwareRestart => if b.restartTooSoon then b else firmwareReset b
    | .duskOff => duskOrOff false true (setHoldOff b)
    | .duskCycle => duskOrOff false true b

/-- Latch a pin (R410, R411): status bit, first-source capture, ALERT_N and interrupt, Logbook record, reaction, with the given FAULT
record, and with what else is recorded before the reaction. -/
def latchWith (post note : Blk → Blk) (pin : Nat) (loc : W64) (b : Blk) : Blk :=
  let f := b.flt
  let f := if f.firstValid then { f with overflow := true }
           else { f with firstPin := pin, firstValid := true, firstLoc := loc, firstCount := b.mer.count, firstUs := b.us }
  let b := { b with flt := { f with status := f.status ||| (1 <<< pin), irq := true } }
  let b := if b.inDusk then b else post b
  let b := note (logRecord (0x2000 + pin) { pin := pin, kind := .fault, loc := loc } b)
  react (SMap.get FaultAction.none b.cht.cur.faults pin) b

/-- Latch a pin with the FAULT record of Table 4-5. -/
def latchPin (pin : Nat) (loc : W64) (b : Blk) : Blk :=
  latchWith (postVendor .fault { loc := loc, locKind := 1, detail := [pin] }) id pin loc b

/-- A block asserts its error pin: while the status bit is set, nothing is added (R411). -/
def assertPin (pin : Nat) (loc : W64) (b : Blk) : Blk :=
  if b.flt.status.getLsbD pin then b else latchPin pin loc b

/-! ### Channel freeze (R159, R160) -/

/-- Who found the error (DRM_FRZ_CAUSE.SOURCE). -/
inductive Reader where
  | host | rmw | wb | scrub
  deriving DecidableEq, Repr

def Reader.code : Reader → Nat
  | .host => 0 | .rmw => 1 | .wb => 2 | .scrub => 3

/-- One DRM_FRZ_SYNDj value (Table 16-6): syndromes, result, located positions. -/
def syndWord (light poison : Bool) (marks : List Nat) (e : List (Nat × Nat)) (j : Nat) : W64 :=
  let s := syndromes light poison e j
  let found := findErrors (codeT light) marks s
  let result := if s.all (· == 0) then 0 else if s == poisonSyndromes light then 3 else if found.isSome then 1 else 2
  let qs := if s.all (· == 0) then [] else match found with
    | some f => (marks ++ f).filter (fun q => errorValue (marks ++ f) s q != 0)
    | none => []
  view [place (s.getD 0 0) 8 0, place (s.getD 1 0) 8 8, place (s.getD 2 0) 8 16, place (s.getD 3 0) 8 24, place result 8 32,
        place (qs.getD 0 0xFF) 8 40, place (qs.getD 1 0xFF) 8 48]

/-- The raw burst of a stored line with an error pattern: 20 device symbols (R143, Table 6-16). -/
def rawBurst (d : DramLine) (dpa : Nat) (e : List (Nat × Nat)) : List W64 :=
  let syms := burstSymbols d.light d.poison (d.stored dpa) (metaBytes d.stamp d.tagRegion d.tagKey)
  (List.range 20).map (fun i => BitVec.ofNat 64 (e.foldl (fun a x => if x.1 = i then a ^^^ x.2 else a) (syms.getD i 0)))

/-- The channel engine's error pin index and die (Tables 16-1, 1-2). -/
def chanDie (c : Nat) : Nat := if c < 8 then 0 else 1

/-- Freeze a channel after it has captured what failed (R160 steps 1, 3 and 4): the pin with its FAULT record, the CHANNEL_FROZEN record, then the
Logbook. The depths of its queues and its command history are not modelled and are free values. -/
def freezeChan (c : Nat) (ca : Bool) (cap : FreezeCapture) (fail : Option Nat) (loc : W64) (b : Blk) : Blk :=
  let cap := { cap with rqDepth := Config.freeNat b.free % 256, wqDepth := Config.freeNat (b.free + 1) % 257, count := b.mer.count,
                        hist := (List.range 16).map (fun k => BitVec.ofNat 64 (Config.freeNat (b.free + 2 + k))) }
  let b := { b with free := b.free + 18 }
  let b := modChan c (fun x => { x with state := .frozen, cap := cap, failLine := fail, failCa := ca, dropCount := 0 }) b
  let at' := if ca then faultLoc (chanDie c) (c % 8) 0 2 0xFFFFFF 0xFFF else faultSlice (chanDie c) (c % 8) 1
  let post : Blk → Blk := postVendor .channelFrozen { loc := loc, locKind := 2 }
  let note : Blk → Blk := setErrLog (.drm c) (if ca then 1 else 0) { kind := .dramMedia, loc := loc }
  if b.flt.status.getLsbD c then note (if b.inDusk then b else post b)
  else latchWith (fun b => post (postVendor .fault { loc := at', locKind := 1, detail := [c] } b)) note c at' b

/-- Freeze the channel of a line whose burst decodes UNCORRECTABLE (R159). -/
def freezeData (l : Nat) (src : Reader) (e : List (Nat × Nat)) (b : Blk) : Blk :=
  let c := b.chanNo l
  let i := b.lineInfo l
  let d := b.mediaLine l
  let marks := b.marksOf l
  let cap : FreezeCapture :=
    { cause := 1, source := src.code, code := if i.light then 1 else 0, media := b.lineLoc l, addr := l * 128, cmd := 1,
      synd := (List.range 8).map (syndWord i.light d.poison marks e), raw := rawBurst d i.dpa e }
  freezeChan c false cap (some l) (b.lineLoc l) b

/-! ### Device marks (R152) -/

/-- A channel's marks change: the boot records keep them (R152). -/
def setMarks (c : Nat) (marks : List (Nat × Nat × Nat)) (b : Blk) : Blk :=
  let b := modPwr (fun p => { p with boot := { p.boot with marks := SMap.put [] p.boot.marks c marks } }) b
  addJob .bootRecord (modChan c (fun x => { x with marks := marks }) b)

/-- Position key of the corrected-line counts. -/
def posKey (g : Geo) (p : Nat) : Nat := (g.dimm * 4 + g.rank) * 32 + p

/-- A corrected line: counts per position, and a mark at 256 while the rank holds fewer than two (R152). -/
def noteCorrected (l : Nat) (ps : List Nat) (b : Blk) : Blk :=
  if ps.isEmpty then b
  else
    let c := b.chanNo l
    let g := b.geo l
    let b := feedMetric 3 c 1 (modChan c (fun x => { x with ce := sat32 x.ce }) b)
    ps.foldl (fun b p =>
      let n := SMap.get 0 (b.chan c).corr (posKey g p) + 1
      let b := modChan c (fun x => { x with corr := SMap.put 0 x.corr (posKey g p) n }) b
      if n = 256 then
        let rec' : EvRec := .dram c g.dimm g.rank p
        let lds := match (b.lineInfo l).region with | some r => b.maskLds r | none => b.cht.cur.lds
        let b := if b.inDusk then b else postTo lds .warning rec' b
        if (b.marksOf l).length < 2 && !(b.marksOf l).contains p then
          setErrLog (.drm c) 7 { kind := .dramMedia, loc := dramLoc c g p }
            (setMarks c ((b.chan c).marks ++ [(g.dimm, g.rank, p)]) b)
        else b
      else b) b

/-! ### Reading a burst (R147, R149, R159) -/

/-- What a read of a line from DRAM gives. -/
inductive Read where
  | data (d : Line)
  | poison
  /-- The channel froze, now or before. -/
  | frozen
  deriving DecidableEq, Repr

/-- The error pattern of a line in this step. -/
def Phys.burst (p : Phys) (l : Nat) : List (Nat × Nat) := ((p.bursts.find? (fun x => x.1 = l)).map (·.2)).getD []

/-- Read, decode and decrypt a line of a channel that is not frozen; decoded tags that do not match read as poison (R149). -/
def readDram (phys : Phys) (l : Nat) (src : Reader) (b : Blk) : Read × Blk :=
  if b.frozenLine l then (.frozen, b)
  else
    let i := b.lineInfo l
    let d := b.dramLine l
    match decodeLine i.light d.poison (b.marksOf l) (phys.burst l) with
    | .uncorrectable => (.frozen, freezeData l src (phys.burst l) b)
    | .poisoned ps => (.poison, noteCorrected l ps b)
    | .data res tags ps =>
      let b := noteCorrected l ps b
      if i.light && (d.tagRegion + d.tagKey * 2 ^ 16) ^^^ tags != i.tagRegion + i.keySlot * 2 ^ 16 then
        (.poison, setErr (.drm (b.chanNo l)) 3 b)
      else if b.dropped l then (.poison, b)
      else (.data (d.decrypt (b.keyOf i.keySlot) i.dpa res), b)

end Sys2Proof.Machine
end

