-- ==== Sys2Proof/Machine/OpsAccess.lean ====
section
/-!
DEFINITION. Shared operations that read and write Near lines for every agent: parity faults of Halo and the merge buffer (R131 to
R134), the merge buffer (R122, R123), allocation (R124, R127), the streaming detector (R125, R126), dirty marks and stamps (R175,
R176), COLD lists and captures (R272), the accesses to frozen channels (R161) and the mirroring of HOT writes (R268).
-/
namespace Sys2Proof.Machine
open Sys2Proof

/-! ### Parity (R130 to R134) -/

/-- Fault location of a Halo word (Table 5-1). -/
def haloLoc (q way macroNo word : Nat) : W64 :=
  faultLoc (q / 2) (0x12 + q % 2) way macroNo word 0xFFF

/-- Mask a Halo entry until the next system reset (R134). -/
def maskEntry (k : Nat) (b : Blk) : Blk :=
  if b.halo.masked.contains k then b else { b with halo := { b.halo with masked := b.halo.masked ++ [k] } }

/-- HAL_ERR_LOC and HAL_ERR_ADDR take the first error since HAL_ERR was last all clear (Table 5-8). See assumption 18 (DEDUCED). -/
def noteHaloErr (loc addr : W64) (b : Blk) : Blk :=
  if b.err .hal == 0 then { b with halo := { b.halo with errLoc := loc, errAddr := addr } } else b

/-- The same for an error on a word that belongs to no line: the address is a free value. -/
def noteHaloErrFree (loc : W64) (b : Blk) : Blk :=
  let f := drawFree b
  if b.err .hal == 0 then noteHaloErr loc (BitVec.ofNat 64 f.1) f.2 else b

/-- A clean parity error on an entry: recorded, invalidated, counted, masked after the fourth (R131, R134). -/
def cleanParity (k : Nat) (loc : W64) (b : Blk) : Blk :=
  let b :=
    match SMap.find? b.halo.lines k with
    | some h => noteHaloErr loc (BitVec.ofNat 64 (h.line * 128)) b
    | none => noteHaloErrFree loc b
  let n := SMap.get 0 b.halo.cleanErrs k + 1
  let b := setErr .hal 0 (haloDrop k { b with halo := { b.halo with cleanErrs := SMap.put 0 b.halo.cleanErrs k n } })
  if 4 ≤ n then maskEntry k b else b

/-- Steps 1 to 3 of R132 for a fatal error with HAL_ERR bit `bit`, a location, an address view and an error pin. -/
def fatalSteps (bit : Nat) (loc addr : W64) (pin : Nat) (b : Blk) : Blk :=
  let b := setErr .hal bit (noteHaloErr loc addr b)
  let b := { b with halo := { b.halo with holding := true, fatalPins := b.halo.fatalPins ++ [(pin, loc)], fatalLogs := b.halo.fatalLogs ++ [(bit, loc)] } }
  assertPin pin loc b

/-- A dirty Halo line is lost: it is written to DRAM marked poisoned and its entry is masked (R132, R134). -/
def fatalLine (k : Nat) (h : HaloLine) (loc : W64) (q : Nat) (b : Blk) : Blk :=
  let b := fatalSteps 1 loc (BitVec.ofNat 64 (h.line * 128)) (36 + q) b
  writeLine h.line h.data true h.stamp (maskEntry k (haloDrop k b))

/-- Lines of a quadrant and set that LOST_SET poisons: homed here, in a region, not resident, not HOT (R116, R133). See assumption 19 (DEDUCED). -/
def Blk.lostSet (b : Blk) (q set : Nat) : List Nat :=
  ((List.range (nearTop b.cht.cur.near / 128 / (2 * b.haloSets) + 1)).flatMap (fun n =>
    [2 * (n * b.haloSets + set), 2 * (n * b.haloSets + set) + 1])).filter (fun l =>
      b.haloPlace l == (q, set) && (b.haloFind l).isNone && (b.placeLine l).isSome &&
      (match (b.lineInfo l).region with | some r => r.mirror != .hot && b.homed (b.lineInfo l).dpa | none => false))

/-- The tag of a way that counts as dirty fails: the dirty-tag copy names the line, which is lost (R133). Where the copy names another line than the way
held, a clean way's under a set-control failure, it is that line that is poisoned. -/
def lostTag (q set way : Nat) (b : Blk) : Blk :=
  let k := haloKey q set way; let loc := haloLoc q way 0x1A set
  match SMap.find? b.halo.copyTags k with
  | none => cleanParity k loc b
  | some l =>
    match (SMap.find? b.halo.lines k).filter (fun h => h.line = l) with
    | some h => fatalLine k h loc q b
    | none =>
      let b := fatalSteps 1 loc (BitVec.ofNat 64 (l * 128)) (36 + q) (maskEntry k (haloDrop k b))
      writeLine l (b.peekLine l).1 true 0 b

/-- The tag and its copy fail: the line cannot be named, and every line that it could have been is marked poisoned (R133). -/
def lostUnnamed (q set way : Nat) (b : Blk) : Blk :=
  let k := haloKey q set way
  let dropped := maskEntry k (haloDrop k b)
  let addr := view [1 <<< 63, place q 2 61, place set 15 0]
  let b := setErr .hal 3 (fatalSteps 1 (haloLoc q way 0x1B set) addr (36 + q) dropped)
  (dropped.lostSet q set).foldl (fun b l => writeLine l (b.peekLine l).1 true 0 b) b

/-- A tag word fails in a lookup of its set: clean, or dirty by set control or because set control fails too (R131, R133). -/
def tagFault (phys : Phys) (q set way : Nat) (copy : Bool) (b : Blk) : Blk :=
  let k := haloKey q set way
  let dirty := phys.halo.contains (.control q set) || (match SMap.find? b.halo.lines k with | some h => h.dirty | none => false)
  if !dirty then cleanParity k (haloLoc q way 0x1A set) b
  else if copy then lostUnnamed q set way b
  else lostTag q set way b

/-- A set-control word fails: it is rebuilt, and every way of the set takes no allocation any more (R131). -/
def controlFault (q set : Nat) (b : Blk) : Blk :=
  let b := setErr .hal 0 (noteHaloErrFree (haloLoc q 0x10 (set / 1024) (set % 1024)) b)
  (List.range 16).foldl (fun b w => maskEntry (haloKey q set w) b) b

/-- A word of a line's merge-buffer entry fails: the entry is retired and its line lost (R132, R134). A bad address word is taken as a failure of the
line that the entry holds (assumption 134, DEDUCED). -/
def mergeFault (l macroNo word entry : Nat) (b : Blk) : Blk :=
  match SMap.find? b.halo.mb l with
  | none => b
  | some e =>
    let h := b.hemi l
    let b := { b with halo := { b.halo with mb := SMap.erase b.halo.mb l, mbRetired := SMap.upd 0 b.halo.mbRetired h (· + 1),
                                            waitClose := b.halo.waitClose.filter (fun x => x.1 != l) } }
    let b := fatalSteps 2 (faultLoc h 0x15 (entry / 256 % 16) macroNo word 0xFFF) (BitVec.ofNat 64 (l * 128)) (40 + h) b
    writeLine l (e.merge (b.peekLine l)).1 true e.stamp b

/-- A lookup of line `l` reads the tag words and the set-control word of its set, and the address word of its merge-buffer entry (R130). -/
def lookupFault (phys : Phys) (l : Nat) (b : Blk) : Blk :=
  let p := b.haloPlace l
  phys.halo.foldl (fun b f => match f with
    | .tag q set way copy => if (q, set) = p then tagFault phys q set (way % 16) copy b else b
    | .control q set => if (q, set) = p then controlFault q set b else b
    | .mergeAddr l' n => if l' = l then mergeFault l 1 (n % 256) n b else b
    | _ => b) b

/-- The data words of the given quarters of line `l` are read, in its Halo entry or its merge-buffer entry (R130 to R132). -/
def useWords (phys : Phys) (l : Nat) (quarters : List Nat) (b : Blk) : Blk :=
  phys.halo.foldl (fun b f => match f with
    | .data l' quarter =>
      if l' = l && quarters.contains quarter then
        match b.haloFind l with
        | none => b
        | some (k, h) =>
          let p := b.haloPlace l
          let loc := haloLoc p.1 (k % 16) (p.2 / 1024) (p.2 % 1024 * 4 + quarter)
          if h.dirty then fatalLine k h loc p.1 b else cleanParity k loc b
      else b
    | .mergeData l' quarter n => if l' = l && quarters.contains quarter then mergeFault l 0 (n % 256 * 4 + quarter % 4) n b else b
    | _ => b) b

/-- Every quarter of a line. -/
def wholeLine : List Nat := [0, 1, 2, 3]

/-- The quarters of half `i`. -/
def halfQuarters (i : Nat) : List Nat := [2 * i, 2 * i + 1]

/-! ### The streaming detector (R125, R126) -/

/-- A hemisphere's detector. -/
def Blk.detector (b : Blk) (h : Nat) : Detector := SMap.get {} b.halo.det h

/-- The 2 MiB region of a line is in streaming state in either table (R126). -/
def Blk.streaming (b : Blk) (l : Nat) : Bool :=
  (b.detector 0).streams.contains (l * 128 / 2 ^ 21) || (b.detector 1).streams.contains (l * 128 / 2 ^ 21)

/-- The tracker step of R125: the tracker after a store to line `l`, at local time `now` in cycles of 10 ns. -/
def Tracker.step (t : Tracker) (l now : Nat) : Tracker :=
  let restart : Tracker := { g := t.g, count := 1, last := l, dir := none, start := now }
  if t.count = 0 ∨ 400 < now - t.start then restart
  else if l = t.last then t
  else if l = t.last + 1 ∧ t.dir ≠ some false then { t with count := t.count + 1, last := l, dir := some true }
  else if l + 1 = t.last ∧ t.dir ≠ some true then { t with count := t.count + 1, last := l, dir := some false }
  else restart

/-- Put a region at the recent end of a streaming table of 64 (R126). -/
def enterStream (g : Nat) (s : List Nat) : List Nat :=
  let s := s.filter (· != g)
  (if 64 ≤ s.length then s.drop 1 else s) ++ [g]

/-- A store to line `l` seen by hemisphere `h`'s detector (R125); it restarts its region's idle timer in either table (R126). `watch` is false for a partition with NO_STREAM. -/
def detectStore (h l : Nat) (watch : Bool) (b : Blk) : Blk :=
  let g := l * 128 / 2 ^ 21
  let renew : Detector → Detector := fun d => if d.streams.contains g then { d with streams := enterStream g d.streams } else d
  let b := { b with halo := { b.halo with det := SMap.put {} (SMap.put {} b.halo.det 0 (renew (b.detector 0))) 1 (renew (b.detector 1)) } }
  let d := b.detector h
  let d :=
    if !watch then d
    else
      let t : Tracker := ((d.trackers.find? (fun t => t.g = g)).getD ⟨g, 0, l, none, b.cyc⟩).step l b.cyc
      let rest := d.trackers.filter (fun t => t.g != g)
      let rest := if 256 ≤ rest.length then rest.drop 1 else rest
      if t.count = 64 then { trackers := rest, streams := enterStream g d.streams }
      else { d with trackers := rest ++ [t] }
  { b with halo := { b.halo with det := SMap.put {} b.halo.det h d } }

/-! ### Dirty marks, stamps and COLD lists -/

/-- Mark a tracked page dirty at an accepted write of epoch `e` (R175, R176). -/
def markDirty (p e : Nat) (b : Blk) : Blk :=
  if b.tracked p then
    { b with pers := { b.pers with dirty := SMap.insert b.pers.dirty p (), stamps := SMap.put 0 b.pers.stamps p e,
                                   inFlight := if SMap.has b.pers.inFlight p then SMap.insert b.pers.inFlight p true else b.pers.inFlight } }
  else b

/-- The topology has a twin. -/
def Blk.paired (b : Blk) : Bool := b.cht.mode != .solo

/-- Ship-list key of a shippable local page: P, or 2^36 + F for a staging page of a COLD Far region (R272). -/
def Blk.shipKey (b : Blk) (p : Nat) : Option Nat :=
  let i := b.lineInfo (p * 32)
  match i.region with
  | some r =>
    if b.paired && b.mirrorClass r = .cold && (b.half (b.halfOf i.dpa)).role == .holder && (b.homed i.dpa) then
      some (if r.far then 2 ^ 36 + b.farPage i.dpa else p)
    else none
  | none => none

/-- Hemisphere of a ship-list key: that of the page's first line; a Far page's staging slot decides by F. -/
def Blk.shipHemi (b : Blk) (key : Nat) : Nat := if key < 2 ^ 36 then b.hemi (key * 32) else key % 2

/-- A capture that a write of epoch `c` to line `j` of a listed page still needs: its label (R272). -/
def Blk.captureNeeded (b : Blk) (key j c : Nat) : Option Nat :=
  match ((b.twin.shipList.filter (fun x => x.1 = key)).map (·.2)).foldl (fun m e => Nat.max m (e + 1)) 0 with
  | 0 => none
  | e1 =>
    let e := e1 - 1
    if e < c && !(b.twin.captures.any (fun x => x.1 = key * 32 + j && x.2.1 = e)) then some e else none

/-- A write to line `j` of a shippable page would need room that the lists lack (R274). -/
def Blk.shipFull (b : Blk) (key j c : Nat) : Bool :=
  let h := b.shipHemi key
  (!b.twin.shipList.contains (key, c) && decide (524288 ≤ (b.twin.shipList.filter (fun x => b.shipHemi x.1 == h)).length)) ||
  ((b.captureNeeded key j c).isSome && decide (131072 ≤ (b.twin.captures.filter (fun x => b.shipHemi (x.1 / 32) == h)).length))

/-- The line as it stands, wherever it is held, with its poison. -/
def Blk.currentLine (b : Blk) (l : Nat) : Line × Bool :=
  match b.haloFind l with
  | some (_, h) => (h.data, h.poison)
  | none =>
    match SMap.find? b.halo.mb l with
    | some e => e.merge (b.peekLine l)
    | none => b.peekLine l

/-- Enter a write of epoch `c` to a line of a shippable page in the ship list, capturing the line's prior contents (R272). -/
def shipWrite (phys : Phys) (l c : Nat) (b : Blk) : Blk :=
  match b.shipKey (l / 32) with
  | none => b
  | some key =>
    let j := l % 32
    let b := match b.captureNeeded key j c with
      | some e =>
        let b := useWords phys l wholeLine b
        let cur := b.currentLine l
        { b with twin := { b.twin with captures := b.twin.captures ++ [(key * 32 + j, e, b.lineFor l cur.1 cur.2 (b.stampOf (l / 32)))] } }
      | none => b
    if b.twin.shipList.contains (key, c) then b else { b with twin := { b.twin with shipList := b.twin.shipList ++ [(key, c)] } }

/-! ### The merge buffer -/

/-- The victim whose place an allocation of line `l` for a partition would take, when it is dirty. -/
def Blk.dirtyVictim (b : Blk) (l part : Nat) : Option HaloLine :=
  ((b.victim l part).bind (fun k => SMap.find? b.halo.lines k)).filter (fun h => h.dirty)

/-- Allocate a line, evicting the victim (R124, R127): false where every way is pinned or masked. A dirty victim's words are read (R130); where they
fail, its way is masked and the next victim is taken. -/
def allocate (phys : Phys) (h : HaloLine) (b : Blk) : Bool × Blk :=
  let b := match b.dirtyVictim h.line h.part with | some v => useWords phys v.line wholeLine b | none => b
  match b.victim h.line h.part with
  | none => (false, b)
  | some k => (true, { haloPut k h (evictEntry k b) with free := b.free + 1 })

/-- Does a merged line go past Halo (R124)? -/
def Blk.bypasses (b : Blk) (l : Nat) (e : MbEntry) : Bool := e.foreign || b.streaming l || (b.partCfg e.part).noAllocate

/-- Place a merged line: in Halo when it allocates (R124), else in the DRAM write queue. An allocation whose dirty victim finds its channel's queue full
waits, with the line kept whole in its entry (R127). -/
def placeLine (phys : Phys) (l : Nat) (m : Line × Bool) (e : MbEntry) (b : Blk) : Blk :=
  if b.bypasses l e then writeLine l m.1 m.2 e.stamp b
  else if phys.queueFull && (b.dirtyVictim l e.part).isSome then
    let whole : MbEntry := { e with half0 := some (halfOf m.1 0), half1 := some (halfOf m.1 1), bad0 := m.2, bad1 := m.2, poison := m.2, waiting := true }
    let ahead := (b.host.held.filter (fun x => x.why == .victim)).length
    { b with halo := { b.halo with mb := SMap.insert b.halo.mb l whole,
                                   waitClose := if b.halo.waitClose.any (fun x => x.1 = l) then b.halo.waitClose else b.halo.waitClose ++ [(l, ahead)] } }
  else match allocate phys { line := l, data := m.1, poison := m.2, dirty := true, part := e.part, stamp := e.stamp } b with
    | (true, b) => b
    | (false, b) => writeLine l m.1 m.2 e.stamp b

/-- The line that a half-filled entry merges with, read from DRAM (R123); a line that cannot be read merges as poisoned. -/
def rmwBase (phys : Phys) (l : Nat) (b : Blk) : (Line × Bool) × Blk :=
  if b.zeroLine l then ((0, false), b)
  else match readDram phys l .rmw b with
    | (.data d, b) => ((d, false), b)
    | (_, b) => ((0, true), b)

/-- The whole line of an open entry, which leaves the buffer: merged with DRAM by a counted read-modify-write when it holds one half (R123). -/
def takeEntry (phys : Phys) (l : Nat) (e : MbEntry) (b : Blk) : (Line × Bool) × Blk :=
  let b := { b with halo := { b.halo with mb := SMap.erase b.halo.mb l } }
  if e.full then (e.merge (0, false), b)
  else
    let r := rmwBase phys l (feedMetric 9 (b.hemi l) 1 (countEvent 0x12 1 b))
    (e.merge r.1, r.2)

/-- Close an entry (R123): merge, and place the line. -/
def closeEntry (phys : Phys) (l : Nat) (b : Blk) : Blk :=
  let b := useWords phys l wholeLine b
  match SMap.find? b.halo.mb l with
  | none => b
  | some e => let r := takeEntry phys l e b; placeLine phys l r.1 e r.2

/-- Store a half into a resident Halo line: dirty; poison clears only when both halves are written clean in one merge window
(R106, R122). See assumption 23 (DEDUCED). -/
def HaloLine.store (h : HaloLine) (i : Nat) (d : Half) (poison : Bool) (e : Nat) : HaloLine :=
  let h := { h with data := withHalf h.data i d, dirty := true, stamp := e }
  if poison then { h with poison := true, fixing := none }
  else if h.poison then
    if h.fixing = some (1 - i) then { h with poison := false, fixing := none } else { h with fixing := some i }
  else h

/-- A half reaches Halo or the merge buffer (Table 5-3); the caller has made sure that an entry is free. -/
def storeHalf (phys : Phys) (l i : Nat) (d : Half) (poison : Bool) (part : Nat) (foreign : Bool) (e : Nat) (b : Blk) : Blk :=
  match b.haloFind l with
  | some (k, h) => haloPut k (h.store i d poison e) b
  | none =>
    let ent := ((SMap.find? b.halo.mb l).getD { part := part, foreign := foreign }).put i d poison e
    let b := { b with halo := { b.halo with mb := SMap.insert b.halo.mb l ent } }
    if ent.full then closeEntry phys l b else b

/-! ### The twin as a source and a sink -/

/-- The twin can answer: the link is up and the unit is not ALONE (R451). -/
def Blk.twinAnswers (b : Blk) : Bool := b.paired && !b.twin.linkDown && !b.twin.alone

/-- Ask the twin for a half of a line (R161), once. See assumption 102 (DEDUCED). -/
def askTwin (l i : Nat) (b : Blk) : Blk :=
  if b.twin.fetches.any (fun x => x.2 = 2 * l + i) then b
  else
    let t := b.twin.nextTag
    let dpa := (b.lineInfo l).dpa + 64 * i
    send (.crn (b.hemi l) (.fwdRead t dpa 0)) { b with twin := { b.twin with nextTag := t + 1, fetches := b.twin.fetches ++ [(t, 2 * l + i)] } }

/-- Send MIRROR_WRITE of a half with a fresh tag (R268). -/
def mirrorHalf (l i : Nat) (d : Half) (poison : Bool) (e : Nat) (b : Blk) : Nat × Blk :=
  let t := b.twin.nextTag
  (t, send (.crn (b.hemi l) (.mirrorWrite t (l * 128 + 64 * i) d poison e)) { b with twin := { b.twin with nextTag := t + 1 } })

/-! ### Reads -/

/-- What a read of a half gives. -/
inductive Got where
  | data (d : Half)
  | poison
  | hold (h : Hold)
  deriving DecidableEq, Repr

/-- The half of a line with poison. -/
def gotHalf (m : Line × Bool) (i : Nat) : Got := if m.2 then .poison else .data (halfOf m.1 i)

/-- Ask the twin for a half, or take its answer (R161, R451). -/
def remoteHalf (l i : Nat) (b : Blk) : Got × Blk :=
  match SMap.find? b.twin.fetched (2 * l + i) with
  | some (d, p) => (if p then .poison else .data d, b)
  | none => if b.twinAnswers then (.hold (.remote (2 * l + i)), askTwin l i b) else (.poison, b)

/-- The line lies in a HOT region. -/
def Blk.lineHot (b : Blk) (l : Nat) : Bool :=
  match (b.lineInfo l).region with
  | some r => r.mirror == .hot
  | none => false

/-- The line's write was dropped and no host has rewritten half `i` of it since (R161). -/
def Blk.droppedHalf (b : Blk) (l i : Nat) : Bool := b.dropped l && !(b.chan (b.chanNo l)).redone.contains (2 * l + i)

/-- A read of a line on a frozen channel that Halo does not hold (Table 6-9). -/
def frozenRead (l i : Nat) (b : Blk) : Got × Blk :=
  if b.droppedHalf l i then (.poison, b) else if b.lineHot l then remoteHalf l i b else (.poison, b)

/-- A line that missed Halo and the merge buffer, read from DRAM and allocated for partition `part` (none: no allocation); a line that this unit does
not home never allocates (R124). -/
def missRead (phys : Phys) (l i : Nat) (part : Option Nat) (b : Blk) : Got × Blk :=
  if b.frozenLine l then frozenRead l i b
  else
    let part := part.filter (fun _ => b.homedLine l)
    if phys.queueFull && (match part with | some pt => (b.dirtyVictim l pt).isSome | none => false) then (.hold .victim, b)
    else
      let keep : Line → Bool → Blk → Blk := fun d poison b =>
        match part with
        | some pt => (allocate phys { line := l, data := d, poison := poison, part := pt } b).2
        | none => b
      match readDram phys l .host b with
      | (.data d, b) => (.data (halfOf d i), keep d false b)
      | (.poison, b) => (.poison, keep (b.peekLine l).1 true b)
      | (.frozen, b) => frozenRead l i b

/-- The presence word of a page is read, from its hemisphere's SRAM or, at a miss, with one DRAM read of the PRESENCE carve-out, which may correct or
freeze like any other (R164). The unit of the SRAM and what it replaces are not given: lines, and a free choice. See assumption 135 (DESIGN CHOICE). -/
def presenceRead (phys : Phys) (p : Nat) (b : Blk) : Blk :=
  match carveOf b.cht.cur.near 1 with
  | none => b
  | some c =>
    let l := (c.base + p / 32 * 8) / 128
    let h := b.hemi (32 * p)
    let have' := SMap.get [] b.dram.presCache h
    if have'.contains l then b
    else
      let r := readDram phys l .host b
      let b := { r.2 with free := r.2.free + 1 }
      let kept := if 16384 ≤ have'.length then have'.eraseIdx (Config.freeNat r.2.free % 16384) else have'
      { b with dram := { b.dram with presCache := SMap.insert b.dram.presCache h (kept ++ [l]) } }

/-- Some line of a page lies on a frozen channel. -/
def Blk.frozenPage (b : Blk) (p : Nat) : Bool := (List.range 32).any (fun j => b.frozenLine (32 * p + j))

/-- Read half `i` of a local line that neither Halo nor an open entry holds: by its page's presence (R163, R166, R198), else from DRAM. A REMOTE page is
read at the twin while a channel of it is frozen; after the thaw its copy comes first (R161, R162). -/
def presentRead (phys : Phys) (l i : Nat) (part : Option Nat) (b : Blk) : Got × Blk :=
  let b := presenceRead phys (l / 32) b
  match b.presence (l / 32) with
  | .zero => if b.zeroLine l then (.data 0, b) else missRead phys l i part b
  | .pending => (.hold (.restore (l / 32)), b)
  | .remote =>
    if b.droppedHalf l i then (.poison, b)
    else if b.frozenPage (l / 32) then remoteHalf l i b
    else (.hold (.remote (2 * l + i)), b)
  | .resident => missRead phys l i part b

/-- Read half `i` of a local line (R99, R123, R130): Halo, then an open entry (which closes), then what `presentRead` gives. `part` is the partition a
miss allocates for. See assumption 22 (DEDUCED). -/
def readHalf (phys : Phys) (l i : Nat) (part : Option Nat) (b : Blk) : Got × Blk :=
  let b := useWords phys l (halfQuarters i) (lookupFault phys l b)
  match b.haloFind l with
  | some (_, h) => (gotHalf (h.data, h.poison) i, b)
  | none =>
    match SMap.find? b.halo.mb l with
    | some e =>
      if e.full then (gotHalf (e.merge (0, false)) i, b)
      else
        let b := useWords phys l wholeLine b
        if (SMap.find? b.halo.mb l).isNone then presentRead phys l i part b
        else
          let r := takeEntry phys l e b
          (gotHalf r.1 i, placeLine phys l r.1 e r.2)
    | none => presentRead phys l i part b

/-- A line as an engine reads it whole (R124, R130, R159): Halo first, then an open entry merged with DRAM, then DRAM; none where its burst freezes the
channel. -/
def lineOut (phys : Phys) (src : Reader) (l : Nat) (b : Blk) : Option DramLine × Blk :=
  let b := useWords phys l wholeLine (lookupFault phys l b)
  match b.haloFind l with
  | some (_, h) => (some (b.lineFor l h.data h.poison h.stamp), b)
  | none =>
    match SMap.find? b.halo.mb l with
    | some e =>
      if e.full then let m := e.merge (0, false); (some (b.lineFor l m.1 m.2 e.stamp), b)
      else
        let r := rmwBase phys l b
        let m := e.merge r.1
        (if r.2.frozenLine l then none else some (r.2.lineFor l m.1 m.2 e.stamp), r.2)
    | none =>
      if b.zeroLine l then (some (b.lineFor l 0 false 0), b)
      else match readDram phys l src b with
      | (.data d, b) => (some (if (phys.burst l).isEmpty then b.dramLine l else b.lineFor l d false (b.dramLine l).stamp), b)
      | (.poison, b) => (some { b.dramLine l with poison := true }, b)
      | (.frozen, b) => (none, b)

/-! ### The flush with what arrays and media show (R129, R132) -/

/-- Write one Halo entry to DRAM if dirty. -/
def flushOne (phys : Phys) (keepLine : Bool) (k : Nat) (b : Blk) : Blk :=
  match SMap.find? b.halo.lines k with
  | none => b
  | some h =>
    let b := lookupFault phys h.line b
    let b := if h.dirty then useWords phys h.line wholeLine b else b
    match SMap.find? b.halo.lines k with
    | some h => flushHalo keepLine (k, h) b
    | none => b

/-- Complete one merge-buffer entry to DRAM. -/
def flushEntryOne (phys : Phys) (l : Nat) (b : Blk) : Blk :=
  let b := useWords phys l wholeLine (lookupFault phys l b)
  match SMap.find? b.halo.mb l with
  | some e => let r := takeEntry phys l e b; writeLine l r.1.1 r.1.2 e.stamp r.2
  | none => b

/-- Write every dirty line and every entry to DRAM (R129, R132 step 5). -/
def flushMet (phys : Phys) (keepLines : Bool) (b : Blk) : Blk :=
  let b := (SMap.keys b.halo.lines).foldl (fun b k => flushOne phys keepLines k b) b
  let b := (SMap.keys b.halo.mb).foldl (fun b l => flushEntryOne phys l b) b
  { b with halo := { b.halo with waitClose := [] } }

/-! ### Writes -/

/-- Move a line's page lines into place over a resident Halo line: fills and restores update it there and otherwise go to DRAM (R124). -/
def landLine (l : Nat) (d : DramLine) (b : Blk) : Blk :=
  let b := putLine l d b
  match b.haloFind l with
  | some (k, h) => haloPut k { h with data := d.decrypt (b.keyOf (b.lineInfo l).keySlot) (b.lineInfo l).dpa 0, poison := d.poison, dirty := false } b
  | none => b

/-- What becomes of a write. -/
inductive Wrote where
  /-- Accepted; its completion waits for MIRROR_ACK of a tag when there is one. -/
  | accepted (tag : Option Nat)
  | hold (h : Hold)
  deriving DecidableEq, Repr

/-- A host's rewrite of half `i` of a dropped line at the twin: with both halves rewritten the line answers poison no more (R161). -/
def redoHalf (l i : Nat) (b : Blk) : Blk :=
  if !b.dropped l then b
  else modChan (b.chanNo l) (fun x =>
    if x.redone.contains (2 * l + (1 - i)) then { x with drops := x.drops.filter (· != l), redone := x.redone.filter (fun k => k / 2 != l) }
    else { x with redone := if x.redone.contains (2 * l + i) then x.redone else x.redone ++ [2 * l + i] }) b

/-- A write that a frozen channel drops (R161): completed and not performed, its line in the drop list, its page dirty (R444). An older write of the
line that is still queued goes with it, so that the line's former contents never come back (R162). -/
def dropWrite (l e : Nat) (b : Blk) : Blk :=
  let c := b.chanNo l
  let b := setErr (.drm c) 4 b
  let full := decide (65536 ≤ (b.chan c).drops.length)
  let b := if !(b.dropped l) && full then setErr (.drm c) 10 b else b
  let b := modChan c (fun x => { x with drops := if x.drops.contains l || full then x.drops else x.drops ++ [l],
                                        redone := x.redone.filter (fun k => k / 2 != l), queued := SMap.erase x.queued l,
                                        dropCount := x.dropCount + 1, dropFirst := if x.dropCount = 0 then l * 128 else x.dropFirst,
                                        dropLast := l * 128 }) b
  markDirty (l / 32) e b

/-- The page lies in a set that a Near reshape changes (R60): sets of the Chart in force that the next Chart's layout lacks. -/
def Blk.reshapePage (b : Blk) (p : Nat) : Bool :=
  match b.cht.apply with
  | some a =>
    a.switched && a.nearLeft &&
    (b.cht.cur.near.sets.any (fun s => !a.next.near.sets.contains s && decide (s.base ≤ p * 4096) && decide (p * 4096 < s.base + s.sizeGib * gib)))
  | none => false

/-- Why a write to a local line is not accepted now: PENDING or REMOTE page, COLD lists, the ceiling, no merge-buffer entry or an older half that waits
for one (R122, R183, R198, R274). -/
def Blk.writeHold (b : Blk) (l : Nat) (passed turn : Bool) : Option Hold :=
  let p := l / 32
  let e := b.epoch
  let pres := b.presence p
  let h := b.hemi l
  if pres == .pending then some (.restore p)
  else if (match b.cht.apply with | some x => x.nearHold | none => false) && b.reshapePage p then some .reshape
  else if pres == .remote && !b.frozenPage p then some (.remote (2 * l))
  else if (match b.shipKey p with | some k => b.twin.catchUp.isSome || b.shipFull k (l % 32) e | none => false) then some .ship
  else if b.tracked p && !b.isDirty p && !passed && (b.throttling || b.gov == .throttling || b.gov == .draining) then some .throttle
  else if (b.haloFind l).isNone && (SMap.find? b.halo.mb l).isNone && !b.frozenLine l &&
      (!b.mbFree h || (!turn && b.host.held.any (fun x => x.why == .mergeFull h))) then some (.mergeFull h)
  else none

/-- The ERR bit of a held write (Tables 5-3, 7-13, 10-15). -/
def noteHold (h : Hold) (b : Blk) : Blk :=
  match h with
  | .mergeFull _ => setErr .hal 4 b
  | .throttle => setErr .per 0 b
  | .ship => setErr .twn 4 b
  | _ => b

/-- Write half `i` of a local line for any agent (R122, R161, R166, R175, R268, R272). -/
def writeHalf (phys : Phys) (l i : Nat) (d : Half) (poison : Bool) (part : Nat) (passed turn : Bool) (b : Blk) : Wrote × Blk :=
  let b := lookupFault phys l b
  let b := if (b.haloFind l).isSome then b else presenceRead phys (l / 32) b
  let p := l / 32
  let e := b.epoch
  let info := b.lineInfo l
  let hot := (match info.region with | some r => b.mirrorClass r = .hot && !r.far | none => false) && b.paired
  match b.writeHold l passed turn with
  | some h => (.hold h, noteHold h b)
  | none =>
    if (b.frozenLine l || b.presence p == .remote) && (b.haloFind l).isNone then
      if hot && b.twinAnswers then
        let m := mirrorHalf l i d poison e (setPresence p .remote (markDirty p e (redoHalf l i b)))
        (.accepted (some m.1), m.2)
      else (.accepted none, dropWrite l e b)
    else
      let b := shipWrite phys l e b
      let b := storeHalf phys l i d poison part (!b.homedLine l) e b
      let b := markDirty p e b
      if hot && !b.twin.alone then let m := mirrorHalf l i d poison e b; (.accepted (some m.1), m.2)
      else (.accepted none, b)

end Sys2Proof.Machine
end

