-- ==== Sys2Proof/Machine/OpsFlash.lean ====
section
/-!
DEFINITION. Shared operations of the flash array (chapter 8): the row permutation (R211), pool sizes (R208, R209), the TLC log (R212
to R214), relocation and reclaim (R215), stripe-journal records (R216, R217), retirement of a member (R220), spare positions (R222)
and lost stripes (R225).
-/
namespace Sys2Proof.Machine
open Sys2Proof

/-! ### The permutation (R211) -/

/-- mix of R211. -/
def mix (x : Nat) : Nat :=
  let m := 2 ^ 64
  let x := ((x ^^^ (x >>> 30)) * 0xBF58476D1CE4E5B9) % m
  let x := ((x ^^^ (x >>> 27)) * 0x94D049BB133111EB) % m
  x ^^^ (x >>> 31)

/-- One draw of the generator: the value in 0 .. n-1 and the next state. -/
def rand (st n : Nat) : Nat × Nat :=
  let st := (st + 0x9E37_79B9_7F4A_7C15) % 2 ^ 64
  (mix st % Nat.max n 1, st)

/-- Swap two positions of a list. -/
def swapAt (l : List Nat) (i j : Nat) : List Nat := (l.set i (l.getD j 0)).set j (l.getD i 0)

/-- Fisher-Yates from the top: positions i = n, n-1, … 1. -/
def shuffleFrom : Nat → List Nat → Nat → List Nat × Nat
  | 0, l, st => (l, st)
  | i + 1, l, st =>
    let r := rand st (i + 2)
    shuffleFrom i (swapAt l (i + 1) r.1) r.2

/-- Shuffle a list. -/
def shuffle (l : List Nat) (st : Nat) : List Nat × Nat := shuffleFrom (l.length - 1) l st

/-- Round robin over channels in the order `cs`, `n` rounds. -/
def dealRounds : Nat → List Nat → List (List Nat) → List Nat
  | 0, _, _ => []
  | n + 1, cs, ls =>
    cs.filterMap (fun c => (ls.getD c []).head?) ++ dealRounds n cs (ls.map (fun l => l.drop 1))

/-- The order a of row r of zone z (R211). -/
def rowOrder (seed : Nat) (members : List Nat) (z r : Nat) : List Nat :=
  let st0 := (seed ^^^ (z <<< 32) ^^^ r) % 2 ^ 64
  let s := (List.range 16).foldl (fun (acc : List (List Nat) × Nat) c =>
    let x := shuffle (members.filter (fun g => g / 16 = c)) acc.2
    (acc.1 ++ [x.1], x.2)) ([], st0)
  let cs := (shuffle ((List.range 16).filter (fun c => members.any (fun g => g / 16 = c))) s.2).1
  dealRounds 16 cs s.1

/-! ### Dies and their blocks (R207, R208) -/

/-- Blocks that the vendor has not marked bad. -/
def Die.good (d : Die) : Nat := d.blocks - d.bad.length

/-- The n-th physical block that is not marked bad: the block map before any retirement (R207). `k` is the block looked at. -/
def mapBlock (bad : List Nat) : Nat → Nat → Nat → Nat
  | 0, k, _ => k
  | f + 1, k, n => if bad.contains k then mapBlock bad f (k + 1) n else if n = 0 then k else mapBlock bad f (k + 1) (n - 1)

/-- The physical block of a logical block (R207, R208). -/
def Die.phys (d : Die) (n : Nat) : Nat :=
  match SMap.find? d.remap n with
  | some p => p
  | none => mapBlock d.bad (n + d.bad.length + 1) 0 n

/-! ### Pools (R208, R209) -/

/-- A die's state. -/
def Blk.die (b : Blk) (g : Nat) : Die := SMap.get Die.absent b.nvf.dies g

/-- Change a die. -/
def modDie (g : Nat) (f : Die → Die) (b : Blk) : Blk :=
  { b with nvf := { b.nvf with dies := SMap.upd Die.absent b.nvf.dies g f } }

/-- Change the flash array's state. -/
def modNvf (f : NvfSt → NvfSt) (b : Blk) : Blk := { b with nvf := f b.nvf }

/-- The newest layout generation. -/
def Blk.layout (b : Blk) : Layout := b.nvf.layouts.getLast?.getD ⟨0, 0, 0, []⟩

/-- The layout of a generation. -/
def Blk.layoutOf (b : Blk) (g : Nat) : Layout := (b.nvf.layouts.find? (fun l => l.gen = g)).getD b.layout

/-- Z_bad: logical blocks of each die's bad-block reserve (R208, R209). -/
def Blk.zBad (b : Blk) : Nat :=
  let good := b.layout.members.map (fun g => (b.die g).good)
  ceilDiv (good.foldl Nat.min (good.headD 0) * b.cht.cur.far.badReserve) 1000

/-- TLC pages per block W of the members. -/
def Blk.tlcPages (b : Blk) : Nat := (b.die (b.layout.members.headD 0)).pagesPerBlock

/-- Stripes per row of a layout (R209). -/
def Layout.perRow (l : Layout) : Nat := (l.members.length - l.spare) / 18

/-- Bytes of an SLC zone and of a TLC zone of the newest layout. -/
def Blk.slcZone (b : Blk) : Nat := b.tlcPages / 3 * b.layout.perRow * stripeBytes
def Blk.tlcZone (b : Blk) : Nat := b.tlcPages * b.layout.perRow * stripeBytes

/-- T + F of R209 for the Chart in force. -/
def Blk.poolBytes (b : Blk) : Nat :=
  let c := b.cht.cur
  trackedBytes c.near c.regions b.cht.mode b.cht.isB + c.far.farGib * gib

/-- Zones of the metadata, journal and TLC pools (R209); an array without members has none. -/
def Blk.zMeta (b : Blk) : Nat := if b.slcZone = 0 then 0 else ceilDiv (ceilDiv (32 * b.poolBytes) 4096) b.slcZone + 2
def Blk.zJrnl (b : Blk) : Nat := if b.slcZone = 0 then 0 else ceilDiv (Nat.max (b.cht.cur.pers.journalGib * gib) b.nvf.jRing) b.slcZone
def Blk.zTlc (b : Blk) : Nat :=
  if b.tlcZone = 0 then 0 else ceilDiv (ceilDiv (b.poolBytes * (1024 + b.cht.cur.far.reserve)) 1024) b.tlcZone + 4

/-- The zones of the TLC log (Table 8-1). See assumption 114 (DEDUCED). -/
def Blk.tlcZones (b : Blk) : List Nat := (List.range b.zTlc).map (fun i => b.zMeta + b.zJrnl + i)

/-- A zone's state. -/
def Blk.zone (b : Blk) (z : Nat) : Zone := SMap.get Zone.fresh b.nvf.zones z

/-- A zone's pool: the one it was opened for, else that of its place (Table 8-1). -/
def Blk.poolOfZone (b : Blk) (z : Nat) : Option Pool :=
  if SMap.has b.nvf.zones z then some (b.zone z).pool
  else if z < b.zMeta then some .metadata
  else if z < b.zMeta + b.zJrnl then some .journal
  else if z < b.zMeta + b.zJrnl + b.zTlc then some .tlc
  else none

/-- Set a zone's state. -/
def setZone (z : Nat) (v : Zone) (b : Blk) : Blk := modNvf (fun n => { n with zones := SMap.put Zone.fresh n.zones z v }) b

/-- Free erased TLC zones (R215, R231): every zone of the pool without an entry. -/
def Blk.freeTlc (b : Blk) : Nat := b.tlcZones.countP (fun z => !SMap.has b.nvf.zones z)

/-- The lowest free TLC zone. -/
def Blk.nextFreeZone (b : Blk) : Option Nat := b.tlcZones.find? (fun z => !SMap.has b.nvf.zones z)

/-- R231's state and its error bit follow the free zones. -/
def noteStarved (b : Blk) : Blk :=
  let st := decide (b.freeTlc ≤ 2) && !b.nvf.layouts.isEmpty
  let b := if st && !b.nvf.starved then setErr .nvf 9 b else b
  modNvf (fun n => { n with starved := st }) b

/-! ### Stripes -/

/-- A stripe. -/
def Blk.stripe (b : Blk) (s : Nat) : Stripe := SMap.get {} b.nvf.stripes s

/-- Change a stripe. -/
def modStripe (s : Nat) (f : Stripe → Stripe) (b : Blk) : Blk :=
  modNvf (fun n => { n with stripes := SMap.insert n.stripes s (f (SMap.get {} n.stripes s)) }) b

/-- Zone, row and place in the row of a stripe's place. -/
def Blk.stripeAt (b : Blk) (s : Nat) : Nat × Nat × Nat :=
  let w := Nat.max b.tlcPages 1
  (s / 32 / w, s / 32 % w, s % 32)

/-- The place of stripe t of row r of zone z. -/
def Blk.placeOf (b : Blk) (z r t : Nat) : Nat := (z * Nat.max b.tlcPages 1 + r) * 32 + t

/-- The physical stripe number (R211). -/
def Blk.stripeNo (b : Blk) (s : Nat) : Nat := s / 32 * (b.layoutOf (b.stripe s).gen).perRow + s % 32

/-- Rows of a zone of a pool (R209). -/
def Blk.rowsOf (b : Blk) (p : Pool) : Nat := if p = .tlc then b.tlcPages else b.tlcPages / 3

/-- The place after `s` in its zone; none after the last. -/
def Blk.nextPlace (b : Blk) (p : Pool) (s : Nat) : Option Nat :=
  let x := b.stripeAt s
  if x.2.2 + 1 < b.layout.perRow then some (s + 1)
  else if x.2.1 + 1 < b.rowsOf p then some (b.placeOf x.1 (x.2.1 + 1) 0)
  else none

/-- The place of the journal ring's stripe n: the ring fills the journal zones in order (R190, R208). -/
def Blk.ringStripe (b : Blk) (n : Nat) : Nat :=
  let k := Nat.max b.layout.perRow 1
  let per := Nat.max (b.rowsOf .journal * k) 1
  b.placeOf (b.zMeta + n / per) (n % per / k) (n % k)

/-- The stripe at a byte offset of the ring. -/
def Blk.ringPlace (b : Blk) (offset : Nat) : Nat := b.ringStripe (offset / stripeBytes)

/-- The ring's number of a journal stripe's place. -/
def Blk.ringIndex (b : Blk) (s : Nat) : Nat :=
  let x := b.stripeAt s
  ((x.1 - b.zMeta) * b.rowsOf .journal + x.2.1) * Nat.max b.layout.perRow 1 + x.2.2

/-- The next `n` stripes of the ring from one on that hold nothing, with a wrap. -/
def Blk.freeRing (b : Blk) (from' n : Nat) : List Nat :=
  let all := Nat.max (b.nvf.jRing / stripeBytes) 1
  let i := b.ringIndex from'
  let used := (b.nvf.stripes.filter (fun e => e.2.pool == .journal)).map (fun e => e.1)
  (((List.range (Nat.min all (n + used.length + 1))).map (fun j => b.ringStripe ((i + j) % all))).filter (fun s => !used.contains s)).take n

/-! ### The stripe journal (R216, R217) and layouts -/

/-- Is some stripe-journal replica valid (R219)? -/
def Blk.replicaOk (b : Blk) : Bool := b.nvf.rep0.valid || b.nvf.rep1.valid

/-- Change both replicas that are valid. -/
def modReplicas (f : Replica → Replica) (b : Blk) : Blk :=
  let g : Replica → Replica := fun r => if r.valid then f r else r
  modNvf (fun n => { n with rep0 := g n.rep0, rep1 := g n.rep1 }) b

/-- Collect a stripe-journal record. -/
def sjRecord (r : SjRec) (b : Blk) : Blk :=
  modNvf (fun n => { n with sjPending := n.sjPending ++ [{ r with seq := n.sjSeq, count := b.mer.count }], sjSeq := n.sjSeq + 1 }) b

/-- Write the label of every member die (R207). -/
def writeLabels (b : Blk) : Blk :=
  b.layout.members.foldl (fun b g => modDie g (fun d => { d with label := some ⟨.member, b.layout.gen, b.cht.cur.digest⟩ }) b) b

/-- A new layout generation: 16 GENERATION records that carry its members (Table 8-2), and new labels (R207). -/
def newLayout (members : List Nat) (seed spare : Nat) (b : Blk) : Blk :=
  let g := b.layout.gen + 1
  let b := modNvf (fun n => { n with layouts := n.layouts ++ [⟨g, seed, spare, members⟩] }) b
  writeLabels ((List.range 16).foldl (fun b i =>
    sjRecord { type := .generation, gen := g, seqFirst := seed, members := (members.drop (16 * i)).take 16 } b) b)

/-! ### SEQ values and the superblock (R194, R195) -/

/-- Write the home-image superblock to each valid replica. Issued values that have reached SEQ_LIMIT - 2^32 raise SEQ_LIMIT (R195). -/
def writeSb (f : Superblock → Superblock) (b : Blk) : Blk :=
  let s := b.pers.nextSeq
  let p := b.pers.sb
  let sb := f p
  let limit := if sb.seqLimit ≤ s + 1 + 2 ^ 32 then sb.seqLimit + 2 ^ 40 else sb.seqLimit
  let sb := { sb with update := p.update + 1, seq := s, digest := b.cht.cur.digest, unitId := b.ident.unitId,
                      trackedPages := nearTracked b.cht.cur.near b.cht.cur.regions b.cht.mode b.cht.isB / 4096,
                      seqLimit := limit, liveFirst := b.pers.live.head?, count := b.mer.count }
  modReplicas (fun r => { r with sb := sb }) { b with pers := { b.pers with nextSeq := s + 1, sb := sb } }

/-- The superblock that the replicas give: the copy with the higher valid UPDATE wins (R194). The flags say which copies fail their tag. -/
def Blk.readSb (b : Blk) (bad0 bad1 : Bool) : Superblock :=
  let s := if b.nvf.rep0.valid && !bad0 then b.nvf.rep0.sb else {}
  let t := if b.nvf.rep1.valid && !bad1 then b.nvf.rep1.sb else {}
  if s.update < t.update then t else s

/-- The media key that a SEQ uses (R338), as the GCM pipes take it. -/
def Blk.mediaKey (b : Blk) (seq : Nat) : Nat := leNat ((b.ident.fuse.mediaKey (seq / 2 ^ 40)).getD [])

/-- The media key of a SEQ is derived into its slot (Table 12-2, R338). -/
def keyMedia (seq : Nat) (b : Blk) : Blk := modSlot (8 + seq / 2 ^ 40 % 16) (fun s => { s with key := b.mediaKey seq, mode := .gcm }) b

/-- The first of `n` SEQ values that follow each other; a superblock write comes first where they would reach SEQ_LIMIT (R195). See assumption 139
(DESIGN CHOICE). -/
def takeSeqs (n : Nat) (b : Blk) : Nat × Blk :=
  let b := if b.pers.sb.seqLimit ≤ b.pers.nextSeq + n + 1 then writeSb id b else b
  (b.pers.nextSeq, keyMedia (b.pers.nextSeq + n - 1) (keyMedia b.pers.nextSeq { b with pers := { b.pers with nextSeq := b.pers.nextSeq + n } }))

/-- The next SEQ value. -/
def takeSeq (b : Blk) : Nat × Blk := takeSeqs 1 b

/-! ### Spare positions (R222) -/

/-- Dies that took no part any more in generation `g`, in retirement order. -/
def Blk.goneFor (b : Blk) (g : Nat) : List Nat := (b.nvf.retired.filter (fun r => decide (g ≤ r.2))).map (·.1)

/-- Spare positions assigned in a row: each retired die that holds a stripe slot takes the i-th spare whose die is neither retired nor
assigned (R222). Pairs of retired die and spare die. -/
def spareMap (order gone : List Nat) (k : Nat) : List (Nat × Nat) :=
  let spares := order.drop (18 * k)
  gone.foldl (fun m g =>
    if (order.take (18 * k)).contains g then
      match spares.find? (fun s => !gone.contains s && !m.any (fun x => x.2 == s)) with
      | some s => m ++ [(g, s)]
      | none => m
    else m) []

/-- The die that page q (0 to 17) of a stripe lies on; none where the page's die is retired and no spare is left (R211, R222). -/
def Blk.slotDie (b : Blk) (s q : Nat) : Option Nat :=
  let l := b.layoutOf (b.stripe s).gen
  let k := l.perRow
  let p := b.stripeAt s
  let order := rowOrder l.seed l.members p.1 p.2.1
  let d := order.getD (18 * p.2.2 + q) 0xFFFF
  let gone := b.goneFor l.gen
  if gone.contains d then ((spareMap order gone k).find? (fun x => x.1 == d)).map (·.2) else some d

/-! ### The map (R213, R214) -/

/-- The unit that a map entry locates. -/
def Blk.unitAt (b : Blk) (e : MapEntry) : Option FlashUnit :=
  (SMap.find? (b.stripe e.stripe).units e.slot).map (fun u => if e.poisoned then { u with poisonMask := 2 ^ 32 - 1 } else u)

/-- The current home unit of a page, and the current Far unit of a page number F (for F ≥ 2^35 the twin's COLD page, R286). -/
def Blk.homeUnit (b : Blk) (p : Nat) : Option FlashUnit := (SMap.find? b.nvf.homeMap p).bind b.unitAt
def Blk.farUnit (b : Blk) (f : Nat) : Option FlashUnit := (SMap.find? b.nvf.farMap f).bind b.unitAt

/-- Map pages by index: home leaves from 0, Far leaves from 2^24, mid pages from 2^25. See assumption 138 (DESIGN CHOICE). -/
def homeLeaf (p : Nat) : Nat := p / 2048
def farLeaf (f : Nat) : Nat := 2 ^ 24 + f / 2048
def midOf (leaf : Nat) : Nat := 2 ^ 25 + leaf / 2048

/-- A map page is used: it is in the cache of its hemisphere, even indices north, 512 pages of 16 KiB each (R213). -/
def touchMap (i : Nat) (b : Blk) : Blk :=
  let use : List Nat → List Nat := fun l => (i :: l.filter (· != i)).take 512
  modNvf (fun n => if i % 2 = 0 then { n with cacheN := use n.cacheN } else { n with cacheS := use n.cacheS }) b

/-- A map page is changed. -/
def dirtyMap (i : Nat) (b : Blk) : Blk :=
  touchMap i (modNvf (fun n => { n with mapDirty := if n.mapDirty.contains i then n.mapDirty else n.mapDirty ++ [i] }) b)

/-- Units that a kept COLD delta lists: the map does not point to them until the delta is folded (R275). SEQ values name units. -/
def Blk.inDelta (b : Blk) (seq : Nat) : Bool :=
  b.twin.deltas.any (fun d => d.units.any (fun (e : Nat × FlashUnit) => e.2.seq == seq) || d.farUnits.any (fun (e : Nat × FlashUnit) => e.2.seq == seq))

/-- Point a unit's map entry to it. -/
def pointTo (u : FlashUnit) (s slot : Nat) (b : Blk) : Blk :=
  let x := b.stripe s
  let e : MapEntry := { stripe := s, slot := slot, gen := x.gen, poisoned := x.dead }
  match u.kind with
  | .far => dirtyMap (farLeaf u.page) (modNvf (fun n => { n with farMap := SMap.insert n.farMap u.page e }) b)
  | .home => dirtyMap (homeLeaf u.page) (modNvf (fun n => { n with homeMap := SMap.insert n.homeMap u.page e }) b)
  | _ => b

/-- SEQ of the unit that a unit's map entry points to. -/
def Blk.currentSeq (b : Blk) (u : FlashUnit) : Option Nat :=
  ((if u.kind = .far then b.farUnit u.page else b.homeUnit u.page)).map (fun x => x.seq)

/-- Make a unit current: its map entry points to it unless a newer unit holds it, since entries change in SEQ order (R213, R214). -/
def setCurrent (u : FlashUnit) (s slot : Nat) (b : Blk) : Blk :=
  if b.inDelta u.seq || (match b.currentSeq u with | some q => decide (u.seq ≤ q) | none => false) then b else pointTo u s slot b

/-- The map takes a stripe's units in slot order. -/
def mapStripe (s : Nat) (b : Blk) : Blk :=
  (b.stripe s).units.foldl (fun b (e : Nat × FlashUnit) => setCurrent e.2 s e.1 b) (modStripe s (fun x => { x with mapped := true }) b)

/-- Stripes of the TLC log by a test, in log order. -/
def Blk.logStripes (b : Blk) (p : Stripe → Bool) : List Nat :=
  (sortBy (fun (x y : Nat × Stripe) => decide (x.2.seqFirst ≤ y.2.seqFirst)) (b.nvf.stripes.filter (fun e => e.2.pool == .tlc && p e.2))).map (·.1)

/-- Stripes whose units the map has not taken, in log order. -/
def Blk.unmapped (b : Blk) : List Nat := b.logStripes (fun x => !x.mapped && !x.torn && !x.dead)

/-- Is a unit current: the map points to it, or a kept delta lists it? -/
def Blk.isCurrent (b : Blk) (s slot : Nat) (u : FlashUnit) : Bool :=
  let here := fun (m : Option MapEntry) => match m with | some x => x.stripe == s && x.slot == slot | none => false
  u.kind != .pad && (here (if u.kind = .far then SMap.find? b.nvf.farMap u.page else SMap.find? b.nvf.homeMap u.page) || b.inDelta u.seq)

/-- Current units of a stripe of the TLC log, as the map gives them. -/
def Blk.currentUnits (b : Blk) (s : Nat) : List FlashUnit :=
  (b.stripe s).units.filterMap (fun e =>
    if b.isCurrent s e.1 e.2 then some (if (b.stripe s).dead then { e.2 with poisonMask := 2 ^ 32 - 1 } else e.2) else none)

/-- Map pages of a metadata stripe that are current: the last CHECKPOINT places them there. -/
def Blk.currentPages (b : Blk) (s : Nat) : List Nat :=
  (b.stripe s).pages.filterMap (fun e => match SMap.find? b.nvf.saved.places e.2 with
    | some x => if x.1.1 == s || x.2.1 == s then some e.2 else none
    | none => none)

/-- What a stripe still holds: current units or map pages, or units of a live generation. -/
def Blk.stripeLoad (b : Blk) (s : Nat) : Nat :=
  match (b.stripe s).pool with
  | .tlc => (b.currentUnits s).length
  | .metadata => (b.currentPages s).length
  | .journal => if b.pers.gens.any (fun g => b.pers.live.contains g.gen && g.stripes.contains s) then 1 else 0

/-- Stripes that lie in a zone. -/
def Blk.zoneStripes (b : Blk) (z : Nat) : List Nat := (b.nvf.stripes.filter (fun e => (b.stripeAt e.1).1 == z)).map (·.1)

/-- Current units of a zone. -/
def Blk.zoneLoad (b : Blk) (z : Nat) : Nat := ((b.zoneStripes z).map b.stripeLoad).foldl (· + ·) 0

/-- Begin to erase a zone: its stripes are forgotten. -/
def eraseZone (z : Nat) (b : Blk) : Blk :=
  let gone := b.zoneStripes z
  let pool := (b.zone z).pool
  modNvf (fun n => { n with stripes := SMap.keep n.stripes (fun s _ => !gone.contains s), erasing := n.erasing ++ [z] })
    (setZone z ⟨.erasing, 0, pool⟩ b)

/-- TORN_DONE for each torn stripe that holds no current unit any more (R218). -/
def settleTorn (b : Blk) : Blk :=
  let ts := (b.nvf.stripes.filter (fun e => e.2.torn && !e.2.tornDone && b.stripeLoad e.1 == 0)).map (·.1)
  ts.foldl (fun b s =>
    let x := b.stripe s
    sjRecord { type := .tornDone, pool := if x.pool = .metadata then 0 else 1, gen := x.gen, stripe := b.stripeNo s, seqFirst := x.seqFirst }
      (modStripe s (fun x => { x with tornDone := true }) b)) b

/-- The zone being reclaimed is erased once it holds no current unit (R215). -/
def settleReclaim (b : Blk) : Blk :=
  match b.nvf.reclaiming with
  | some z => if b.zoneLoad z = 0 && !b.inDusk then noteStarved (eraseZone z (modNvf (fun n => { n with reclaiming := none }) b)) else b
  | none => b

/-- Map entries follow the closed stripes in SEQ order (R214), and what waited for units to move goes on (R215, R218). -/
def mapUpdates (b : Blk) : Blk :=
  let ready := b.unmapped.takeWhile (fun s => (b.stripe s).closed)
  settleReclaim (settleTorn (ready.foldl (fun b s => mapStripe s b) b))

/-! ### Checkpoints of the map (R213) -/

/-- Metadata zones of a stream: one copy of each map page lies in even zones, the other in odd ones. -/
def Blk.metaZones (b : Blk) (i : Nat) : List Nat := (List.range b.zMeta).filter (fun z => z % 2 = i)

/-- The next place of a metadata stripe of a stream: in the open zone, else in the first free zone after it. -/
def nextMeta (i : Nat) (b : Blk) : Option (Nat × Blk) :=
  let l := b.layout
  let h := if i = 0 then b.nvf.metaHead0 else b.nvf.metaHead1
  let set : Nat → Blk → Blk := fun n b => modNvf (fun v => if i = 0 then { v with metaHead0 := n } else { v with metaHead1 := n }) b
  let go : Nat → Blk → Nat × Blk := fun s b =>
    (s, match b.nextPlace .metadata s with
        | some n => set n b
        | none => set s (setZone (b.stripeAt s).1 ⟨.closed, l.gen, .metadata⟩ b))
  let z := (b.stripeAt h).1
  if l.perRow = 0 || b.tlcPages < 3 then none
  else if SMap.has b.nvf.zones z && (b.zone z).state == .open' && (b.zone z).pool == .metadata && (b.zone z).gen == l.gen then some (go h b)
  else
    let zs := b.metaZones i
    match (zs.filter (fun x => decide (z < x)) ++ zs).find? (fun x => !SMap.has b.nvf.zones x) with
    | none => none
    | some x =>
      let b := if SMap.has b.nvf.zones z && (b.zone z).state == .open' && (b.zone z).pool == .metadata then setZone z { b.zone z with state := .closed } b else b
      some (go (b.placeOf x 0 0) (setZone x ⟨.open', l.gen, .metadata⟩ b))

/-- Write up to 16 map pages as one metadata stripe of a stream, its last pages padding. -/
def openMeta (i : Nat) (pages : List Nat) (b : Blk) : Option (Nat × Blk) :=
  (nextMeta i b).map (fun r =>
    let q := takeSeq r.2
    let l := b.layout
    let b := modStripe r.1 (fun _ => { pool := .metadata, pages := pages.zipIdx.map (fun x => (x.2, x.1)), used := 64, gen := l.gen, seqFirst := q.1, firstEpoch := b.epoch }) q.2
    (r.1, sjRecord { type := .open', pool := 0, gen := l.gen, stripe := b.stripeNo r.1, seqFirst := q.1 } b))

/-- A list in groups of 16. -/
def groups16 : Nat → List Nat → List (List Nat)
  | 0, _ => []
  | n + 1, l => if l.isEmpty then [] else l.take 16 :: groups16 n (l.drop 16)

/-- Log position up to which every map update is made: the first SEQ of the oldest stripe whose units the map has not taken. -/
def Blk.mapPos (b : Blk) : Nat := match b.unmapped.head? with | some s => (b.stripe s).seqFirst | none => b.pers.nextSeq

/-- The stripe that a log position names, for a CHECKPOINT record. -/
def Blk.posStripe (b : Blk) : Nat := match b.unmapped.head? with | some s => b.stripeNo s | none => b.stripeNo b.nvf.logHead

/-- Map pages whose copy lies in the metadata zone after the open one of a stream: they are written again ahead of the zone's turn. -/
def Blk.metaAhead (b : Blk) (i : Nat) : List Nat :=
  let z := (b.stripeAt (if i = 0 then b.nvf.metaHead0 else b.nvf.metaHead1)).1
  let zs := b.metaZones i
  match (zs.filter (fun x => decide (z < x)) ++ zs).head? with
  | some x => if x = z then [] else (b.zoneStripes x).flatMap b.currentPages
  | none => []

/-- The CHECKPOINT record, once every map page of the checkpoint lies in closed stripes. -/
def checkpointRecord (b : Blk) : Blk :=
  match b.nvf.ckpt with
  | some c => if c.left.isEmpty then sjRecord { type := .checkpoint, gen := b.layout.gen, stripe := b.posStripe, seqFirst := c.image.pos } b else b
  | none => b

/-- Begin a checkpoint: the changed map pages, with the mid pages above them, are written to the metadata pool in two copies in different zones
(R213). Where a stream has no free zone it waits. See assumption 138 (DESIGN CHOICE). -/
def startCheckpoint (b : Blk) : Blk :=
  if b.nvf.ckpt.isSome || b.inDusk then b
  else
    let leaves := (b.nvf.mapDirty ++ b.metaAhead 0 ++ b.metaAhead 1).eraseDups
    let all := sortBy (fun x y => decide (x ≤ y)) (leaves ++ (leaves.filter (fun i => decide (i < 2 ^ 25))).map midOf).eraseDups
    let step := fun (acc : Option (SMap ((Nat × Nat) × (Nat × Nat)) × List Nat × Blk)) (g : List Nat) =>
      match acc with
      | none => none
      | some (m, ss, b) =>
        match openMeta 0 g b with
        | none => none
        | some (s, b) =>
          match openMeta 1 g b with
          | none => none
          | some (t, b) => some (g.zipIdx.foldl (fun m x => SMap.insert m x.1 ((s, x.2), (t, x.2))) m, ss ++ [s, t], b)
    match (groups16 all.length all).foldl step (some (b.nvf.saved.places, [], b)) with
    | none => b
    | some (m, ss, b) =>
      let image : MapImage := { home := b.nvf.homeMap, far := b.nvf.farMap, places := m, pos := b.mapPos }
      checkpointRecord (modNvf (fun n => { n with mapDirty := [], sinceCheckpoint := 0, ckpt := some ⟨image, ss⟩ }) b)

/-- A CHECKPOINT record is durable: D5 starts from its image, the map root goes to the replicas, and metadata zones without a current page are erased. -/
def finishCheckpoint (b : Blk) : Blk :=
  match b.nvf.ckpt with
  | some c =>
    let b := modNvf (fun n => { n with saved := c.image, ckpt := none }) b
    let b := modReplicas (fun r => { r with root := SMap.keep c.image.places (fun i _ => decide (2 ^ 25 ≤ i)) }) b
    let old := (SMap.keys b.nvf.zones).filter (fun z => (b.zone z).pool == .metadata && (b.zone z).state == .closed && b.zoneLoad z == 0)
    old.foldl (fun b z => eraseZone z b) b
  | none => b

/-! ### The TLC log (R212 to R214) -/

/-- Close a stripe whose pages are programmed: CLOSE (R217); the map follows the TLC log, with a checkpoint each 1 GiB of it (R213, R214). -/
def closeStripe (s : Nat) (b : Blk) : Blk :=
  let x := b.stripe s
  let b := modStripe s (fun x => { x with closed := true }) b
  let rec' := fun (pool : Nat) (b : Blk) => sjRecord { type := .close, pool := pool, gen := x.gen, stripe := b.stripeNo s, seqFirst := x.seqFirst } b
  match x.pool with
  | .journal => b
  | .metadata =>
    let b := rec' 0 b
    match b.nvf.ckpt with
    | some c =>
      if c.left.contains s then checkpointRecord (modNvf (fun n => { n with ckpt := some { c with left := c.left.filter (· != s) } }) b) else b
    | none => b
  | .tlc =>
    let b := mapUpdates (rec' 1 b)
    let b := modNvf (fun n => { n with sinceCheckpoint := n.sinceCheckpoint + stripeBytes }) b
    if 2 ^ 30 ≤ b.nvf.sinceCheckpoint then startCheckpoint b else b

/-- Page q of a stripe is programmed; the last one closes the stripe. -/
def pageProgrammed (s q : Nat) (b : Blk) : Blk :=
  let b := modStripe s (fun x => { x with done := if x.done.contains q then x.done else x.done ++ [q] }) b
  if (b.stripe s).done.length = 18 && (b.stripe s).used = 64 && !(b.stripe s).closed then closeStripe s b else b

/-- May page q of a stripe be programmed: its units are placed, for P and Q all of them, and its OPEN record is durable (R217)? -/
def Blk.mayProgram (b : Blk) (s q : Nat) : Bool :=
  let x := b.stripe s
  SMap.has b.nvf.stripes s && !x.closed && !x.torn && (x.openDurable || x.pool == .journal) && decide (q ≤ 17) &&
    (if q ≤ 15 then decide (4 * (q + 1) ≤ x.used) else x.used == 64)

/-- Open the next stripe of the TLC log: the next one of the open zone, else the first of the lowest free zone, when an open zone of an older
generation closes; none at no free zone. `seq` is the SEQ of its first unit. -/
def openStripeNow (seq : Nat) (b : Blk) : Option (Nat × Blk) :=
  let l := b.layout
  if l.perRow = 0 || b.tlcPages = 0 then none
  else
    let go := fun (s : Nat) (b : Blk) =>
      let b := modStripe s (fun _ => { gen := l.gen, firstEpoch := b.epoch, seqFirst := seq }) b
      let b := sjRecord { type := .open', gen := l.gen, stripe := b.stripeNo s, seqFirst := seq } b
      let b := match b.nextPlace .tlc s with
        | some n => modNvf (fun v => { v with logHead := n }) b
        | none => setZone (b.stripeAt s).1 ⟨.closed, l.gen, .tlc⟩ b
      (s, modNvf (fun n => { n with openStripe := some s }) b)
    let z := (b.stripeAt b.nvf.logHead).1
    if SMap.has b.nvf.zones z && (b.zone z).state == .open' && (b.zone z).gen == l.gen && (b.zone z).pool == .tlc then some (go b.nvf.logHead b)
    else
      match b.nextFreeZone with
      | none => none
      | some z =>
        let olds := (SMap.keys b.nvf.zones).filter (fun y => (b.zone y).pool == .tlc && (b.zone y).state == .open')
        let b := olds.foldl (fun b y => setZone y { b.zone y with state := .closed } b) b
        some (go (b.placeOf z 0 0) (noteStarved (setZone z ⟨.open', l.gen, .tlc⟩ b)))

/-- Complete the open stripe with padding units (R212). -/
def padStripe (b : Blk) : Blk :=
  match b.nvf.openStripe with
  | none => b
  | some s =>
    let n := (b.stripe s).used
    let q := takeSeqs (64 - n) b
    modNvf (fun v => { v with openStripe := none })
      (modStripe s (fun x => { x with units := x.units ++ (List.range (64 - n)).map (fun i => (n + i, FlashUnit.padding (q.1 + i))), used := 64 }) q.2)

/-- Place a unit in the open TLC stripe (R212): its stripe and slot. A part-filled stripe of an older generation is completed first. -/
def placeUnit (u : FlashUnit) (b : Blk) : Option ((Nat × Nat) × Blk) :=
  let put := fun (s : Nat) (b : Blk) =>
    let n := (b.stripe s).used
    let b := modStripe s (fun x => { x with units := SMap.insert x.units n u, used := n + 1 }) b
    ((s, n), if n + 1 = 64 then modNvf (fun v => { v with openStripe := none }) b else b)
  let b := match b.nvf.openStripe with | some s => if (b.stripe s).gen = b.layout.gen then b else padStripe b | none => b
  match b.nvf.openStripe with
  | some s => some (put s b)
  | none => (openStripeNow u.seq b).map (fun r => put r.1 r.2)

/-- Stripe and slot that hold a unit. -/
def Blk.unitPlace (b : Blk) (u : FlashUnit) : Option (Nat × Nat) :=
  b.nvf.stripes.findSome? (fun e => (SMap.first? e.2.units (fun _ v => v.seq == u.seq && v.kind == u.kind && v.page == u.page)).map (fun x => (e.1, x.1)))

/-- Units that satisfy a test are void: nothing ever makes them current again. -/
def voidUnits (hit : FlashUnit → Bool) (b : Blk) : Blk :=
  modNvf (fun n => { n with stripes := SMap.mapVal n.stripes (fun _ x => { x with units := SMap.keep x.units (fun _ u => !hit u) }) }) b

/-- Drop the COLD deltas that fail a test, with their units. -/
def dropDeltas (left : ColdDelta → Bool) (b : Blk) : Blk :=
  let gone := b.twin.deltas.filter (fun d => !left d)
  let b := voidUnits (fun u => gone.any (fun d => (d.units ++ d.farUnits).any (fun (x : Nat × FlashUnit) => x.2.seq == u.seq))) b
  { b with twin := { b.twin with deltas := b.twin.deltas.filter left } }

/-! ### The governor's credit (R181 to R183) -/

/-- A page written back debits 4 KiB; what goes beyond the credit is overdraw (R181, R183, Table 7-12). -/
def debit (b : Blk) : Blk :=
  let c := b.pers.credit - 4096
  let b := if c < 0 && 0 ≤ b.pers.credit then setErr .per 1 b else b
  { b with pers := { b.pers with credit := c, overdraw := b.pers.overdraw + (if c < 0 then Nat.min 4096 c.natAbs else 0) } }

/-! ### Relocation (R215, R227) -/

/-- A newer unit of the same page waits in a stripe whose units the map has not taken. -/
def Blk.newerWaits (b : Blk) (u : FlashUnit) : Bool :=
  b.nvf.stripes.any (fun e => !e.2.mapped && !e.2.torn && !e.2.dead && e.2.units.any (fun x => x.2.kind == u.kind && x.2.page == u.page && decide (u.seq < x.2.seq)))

/-- Relocate one unit into the log under a new SEQ: a home unit counts as write-back and debits the governor credit (R215). A unit that a newer
one of its page is about to replace stays. See assumption 29 (DESIGN CHOICE). -/
def relocateUnit (b : Blk) (u : FlashUnit) : Blk :=
  if b.newerWaits u then b
  else
    let q := takeSeq b
    let v := { u with seq := q.1 }
    match placeUnit v q.2 with
    | none => b
    | some (_, b) =>
      let move : SMap FlashUnit → SMap FlashUnit := fun m => SMap.mapVal m (fun _ x => if x.seq = u.seq then v else x)
      let b := { b with twin := { b.twin with deltas := b.twin.deltas.map (fun d => { d with units := move d.units, farUnits := move d.farUnits }) } }
      if u.kind = .far then b else debit { b with pers := { b.pers with spent := b.pers.spent + 4096 } }

/-- Relocate what a stripe holds: its current units into the log; current map pages are written again by the next checkpoint; of a live generation
the units that are newest, as home units (R215, R227). -/
def relocateStripe (s : Nat) (b : Blk) : Blk :=
  match (b.stripe s).pool with
  | .tlc => (b.currentUnits s).foldl relocateUnit b
  | .metadata => (b.currentPages s).foldl (fun b i => dirtyMap i b) b
  | .journal =>
    let units := b.pers.gens.flatMap (fun g =>
      match g.stripes.idxOf? s with
      | some i =>
        let first := g.stripes.length - g.chunks.length
        if b.pers.live.contains g.gen && decide (first ≤ i) then (g.chunks.getD (i - first) []).filterMap (fun p => SMap.find? g.units p) else []
      | none => [])
    (units.filter (fun u => decide (u.region < 0x8000) && (match b.homeUnit u.page with | some h => decide (h.seq < u.seq) | none => true))).foldl
      (fun b u => relocateUnit b { u with kind := .home }) b

/-! ### Lost stripes (R225) and retirement (R220) -/

/-- NAND error pin of a die's channel, with the engine's location (R234, Tables 16-1, 8-5). -/
def nandPin (g : Nat) (b : Blk) : Blk :=
  let c := g / 16 % 16
  assertPin (16 + c) (faultCluster (c / 8) (0x08 + c % 8)) b

/-- What a lost stripe held (Table 8-3). -/
def loseUnits (s : Nat) (b : Blk) : Blk :=
  match (b.stripe s).pool with
  | .metadata => (b.currentPages s).foldl (fun b i => dirtyMap i b) b
  | .journal =>
    { b with pers := { b.pers with gens := b.pers.gens.map (fun g =>
        match g.stripes.idxOf? s with
        | some i =>
          let first := g.stripes.length - g.chunks.length
          let ps := if first ≤ i then g.chunks.getD (i - first) [] else []
          { g with units := SMap.keep g.units (fun p _ => !ps.contains p) }
        | none => g) } }
  | .tlc =>
    (b.stripe s).units.foldl (fun b (e : Nat × FlashUnit) =>
      if !b.isCurrent s e.1 e.2 || b.inDelta e.2.seq then b
      else match e.2.kind with
        | .far =>
          dirtyMap (farLeaf e.2.page) (modNvf (fun n => { n with farMap := SMap.upd ⟨0, 0, 0, true⟩ n.farMap e.2.page (fun x => { x with poisoned := true }),
                                                                 farPoisoned := sat32 n.farPoisoned }) b)
        | _ =>
          let b := dirtyMap (homeLeaf e.2.page) (modNvf (fun n => { n with homeMap := SMap.erase n.homeMap e.2.page }) b)
          if b.presence e.2.page == .resident then { b with pers := { b.pers with dirty := SMap.insert b.pers.dirty e.2.page () } } else b) b

/-- A stripe that lacks three or more pages is lost. `die` names the channel whose pin is asserted. See assumption 31 (DEDUCED). -/
def loseStripe (s die : Nat) (b : Blk) : Blk :=
  if (b.stripe s).dead then b
  else
    let b := modNvf (fun n => { n with lostStripes := sat32 n.lostStripes }) b
    let b := setErrLog .nvf 6 { kind := .perType, loc := BitVec.ofNat 64 (b.stripeNo s) } b
    nandPin die (modStripe s (fun x => { x with dead := true }) (loseUnits s b))

/-- A page of a stripe is lost or unreadable. -/
def losePage (s q die : Nat) (b : Blk) : Blk :=
  if (b.stripe s).lost.contains q then b
  else
    let b := modStripe s (fun x => { x with lost := x.lost ++ [q] }) b
    if (b.stripe s).lost.length = 3 then loseStripe s die b else b

/-- Pages (stripe, q) that lie on a die now. -/
def Blk.pagesOnDie (b : Blk) (g : Nat) : List (Nat × Nat) :=
  (b.nvf.stripes.map (·.1)).flatMap (fun s => ((List.range 18).filter (fun q => b.slotDie s q == some g)).map (fun q => (s, q)))

/-- PER_ERR bits that follow the ceiling: DRAINING where D exceeds C, JOURNAL_SHORT where C_J is below C_E (R179, Table 7-13). -/
def noteCeiling (b : Blk) : Blk :=
  let b := if b.ceiling < b.dirtyBytes then setErr .per 2 b else b
  if b.ceilJ < b.ceilE then setErr .per 6 b else b

/-- Steps 1 to 4 of R220: the die is retired, a new generation is laid out without it, its pages are lost, R_save is scaled. What a replica on it
held is gone (R219). -/
def retireDie (g cause : Nat) (b : Blk) : Blk :=
  let pages := b.pagesOnDie g
  let before := b.layout.members.length
  let left := b.layout.members.filter (· != g)
  let b := modDie g (fun d => { d with state := .retired, cause := cause }) b
  let b := modNvf (fun n => { n with retired := n.retired ++ [(g, b.layout.gen)] }) b
  let b := sjRecord { type := .retire, gen := b.layout.gen, die := g } b
  let b := newLayout left b.layout.seed b.layout.spare b
  let b := pages.foldl (fun b x => losePage x.1 x.2 g b) b
  let b := { b with pers := { b.pers with rSave := b.pers.rSave * left.length / Nat.max before 1 } }
  let hit := b.nvf.rep0.die == some g || b.nvf.rep1.die == some g
  let drop : Replica → Replica := fun r => if r.die == some g then { die := r.die } else r
  let b := noteCeiling (modNvf (fun n => { n with rep0 := drop n.rep0, rep1 := drop n.rep1, reshapePaused := n.reshaping }) b)
  if hit then setErr .nvf 8 b else b

/-- A logical block of a die fails: its physical block is retired and the next block of the reserve takes its place; the die is retired when
the reserve is used up (R208, R220). -/
def failBlock (g block bit : Nat) (b : Blk) : Blk :=
  let d := b.die g
  let used := d.retiredBlocks.length
  let b := setErr .nvf bit b
  if used < b.zBad then
    modDie g (fun d => { d with grownBad := Nat.min (d.grownBad + 1) 0xFFFF, retiredBlocks := d.retiredBlocks ++ [d.phys block],
                                remap := SMap.insert d.remap block (d.phys (d.good - b.zBad + used)) }) b
  else
    let b := modDie g (fun d => { d with grownBad := Nat.min (d.grownBad + 1) 0xFFFF, retiredBlocks := d.retiredBlocks ++ [d.phys block] }) b
    if (b.die g).state == .member then nandPin g (retireDie g 4 b) else b

end Sys2Proof.Machine
end

