-- ==== Sys2Proof/Machine/OpsFar.lean ====
section
/-!
DEFINITION. Shared operations of flash units (R191, R198), of the Far staging cache (R236 to R245) and of Transit reads (R252).
-/
namespace Sys2Proof.Machine
open Sys2Proof

/-! ### Units -/

/-- Lines of a page as DRAM holds them, for a unit. None where a burst is UNCORRECTABLE, which freezes the channel (R159). -/
def pageLines (phys : Phys) (p : Nat) (src : Reader) (b : Blk) : Option PageLines × Blk :=
  (List.range 32).foldl (fun (acc : Option PageLines × Blk) j =>
    match acc with
    | (none, b) => (none, b)
    | (some ls, b) => let r := lineOut phys src (32 * p + j) b; (r.1.map (fun d => SMap.put DramLine.zero ls j d), r.2)) (some [], b)

/-- POISON_MASK of a page's lines (Table 7-4). -/
def poisonMaskOf (ls : PageLines) : Nat := ls.foldl (fun m e => if e.2.poison then m ||| (1 <<< e.1) else m) 0

/-- A unit of a local page (Table 7-4): a staged page makes a Far unit of F (R212, R242). -/
def Blk.unitOf (b : Blk) (p seq : Nat) (journal : Bool) (ls : PageLines) : FlashUnit :=
  let i := b.lineInfo (32 * p)
  let far := (match carveAt b.cht.cur.near (p * 4096) with | some c => c.kind == 4 && decide (c.sizeMib * mib / 64 ≤ p * 4096 - c.base) | none => false) && !journal
  { kind := if journal then .journal else if far then .far else .home,
    page := if far then (match carveAt b.cht.cur.near (p * 4096) with
                         | some c => (SMap.get StageEntry.free b.far.dir ((p * 4096 - c.base - c.sizeMib * mib / 64) / 4096)).farPage
                         | none => b.farPage i.dpa) else p,
    region := (match i.region with | some r => if r.far && journal then 0x8004 else r.id | none => i.tagRegion),
    keySlot := i.keySlot, light := i.light, poisonMask := poisonMaskOf ls, stamp := b.stampOf p, seq := seq, lines := ls }

/-- A unit's lines written to a local page as DRAM holds them: ciphertext unchanged, LIGHT metadata rebuilt (R191, R198); a resident Halo line is
updated in place (R124). -/
def loadUnit (p : Nat) (u : FlashUnit) (b : Blk) : Blk :=
  let i := b.lineInfo (32 * p)
  let b := (List.range 32).foldl (fun b j =>
    let x := SMap.get DramLine.zero u.lines j
    let d := { x with light := i.light, stamp := if i.light then u.stamp else 0, tagRegion := if i.light then i.tagRegion else 0,
                      tagKey := if i.light then i.keySlot else 0, poison := x.poison || u.poisonMask.testBit j }
    landLine (32 * p + j) d b) b
  setPresence p .resident b

/-- Lines of a page in the poisoned form of R148. -/
def poisonLines (p : Nat) (js : List Nat) (b : Blk) : Blk :=
  js.foldl (fun b j => landLine (32 * p + j) (b.lineFor (32 * p + j) 0 true 0) b) b

/-- Every line of a page in that form. -/
def poisonPage (p : Nat) (b : Blk) : Blk := poisonLines p (List.range 32) b

/-! ### The staging directory -/

/-- FAR_STAGING: base and size in bytes. -/
def Blk.stageArea (b : Blk) : Nat × Nat := match carveOf b.cht.cur.near 4 with | some c => (c.base, c.sizeMib * mib) | none => (0, 0)

/-- Sets of the staging cache (R236). -/
def Blk.stageSets (b : Blk) : Nat := let s := b.stageArea.2; (s - s / 64) / 65536

/-- Local page of slot `i`. -/
def Blk.slotPage (b : Blk) (i : Nat) : Nat := (b.stageArea.1 + b.stageArea.2 / 64) / 4096 + i

/-- The slot whose data a local page is, if it is a staging slot. -/
def Blk.slotOfPage (b : Blk) (p : Nat) : Option Nat :=
  let first := b.slotPage 0
  if 0 < b.stageSets && decide (first ≤ p) && decide (p < first + 16 * b.stageSets) then some (p - first) else none

/-- A directory entry. -/
def Blk.dirEntry (b : Blk) (i : Nat) : StageEntry := SMap.get StageEntry.free b.far.dir i

/-- References held (COUNT, R238). -/
def StageEntry.count (e : StageEntry) : Nat := popcount 64 e.holdA + popcount 64 e.holdB

/-- The 64 bytes of a directory entry (Table 9-1). -/
def StageEntry.bytes (e : StageEntry) : List Byte :=
  natLe 8 (e.farPage % 2 ^ 36) ++ natLe 1 e.state.code ++ natLe 1 0 ++ natLe 2 e.count ++ natLe 4 0 ++ natLe 8 e.holdA ++ natLe 8 e.holdB ++ natLe 8 e.roaA ++ natLe 8 e.roaB ++
    natLe 8 e.fillCount ++ natLe 8 0

/-- The entry that 64 bytes hold. -/
def StageEntry.ofBytes (x : List Byte) : StageEntry :=
  { farPage := leNat (x.take 8) % 2 ^ 36, state := .ofCode (leNat ((x.drop 8).take 1)), holdA := leNat ((x.drop 16).take 8), holdB := leNat ((x.drop 24).take 8),
    roaA := leNat ((x.drop 32).take 8), roaB := leNat ((x.drop 40).take 8), fillCount := leNat ((x.drop 48).take 8) }

/-- Local line of the carve-out that holds entries 2 k and 2 k + 1 of the directory (R236). -/
def Blk.dirLine (b : Blk) (k : Nat) : Nat := b.stageArea.1 / 128 + k

/-- An entry reaches the carve-out, to which the directory set cache is written through (R238): a write to a tracked page, which a frozen channel drops. -/
def writeEntry (i : Nat) (b : Blk) : Blk :=
  let l := b.dirLine (i / 2)
  let data : Line := BitVec.ofNat 1024 (leNat ((b.dirEntry (i / 2 * 2)).bytes ++ (b.dirEntry (i / 2 * 2 + 1)).bytes))
  if b.frozenLine l then dropWrite l b.epoch b
  else markDirty (l / 32) b.epoch (writeLine l data false 0 (if b.presence (l / 32) == .zero then setPresence (l / 32) .resident b else b))

/-- Change a directory entry. -/
def modEntry (i : Nat) (f : StageEntry → StageEntry) (b : Blk) : Blk :=
  let e := b.dirEntry i
  let b := { b with far := { b.far with dir := SMap.upd StageEntry.free b.far.dir i f } }
  if (f e).bytes == e.bytes then b else writeEntry i b

/-- A directory set is looked at: its hemisphere's directory set cache holds it, or its eight lines are read from DRAM, also after a parity error, which
drops the cached set (R238). What the cache replaces is not given. See assumption 142 (DESIGN CHOICE). -/
def dirRead (phys : Phys) (s : Nat) (b : Blk) : Blk :=
  let h := b.hemi (b.dirLine (8 * s))
  let have' := (SMap.get [] b.far.cache h).filter (fun x => x != s || !phys.dir.contains s)
  if have'.contains s || b.stageSets = 0 then b
  else
    let b := (List.range 8).foldl (fun b k => (readDram phys (b.dirLine (8 * s + k)) .host b).2) b
    let b := { b with free := b.free + 1 }
    let kept := if 4096 ≤ have'.length then have'.eraseIdx (Config.freeNat b.free % 4096) else have'
    { b with far := { b.far with cache := SMap.insert b.far.cache h (kept ++ [s]) } }

/-- Set of a Far page (R236). -/
def Blk.stageSet (b : Blk) (f : Nat) : Nat := mix f % Nat.max b.stageSets 1

/-- The slot that holds a Far page. -/
def Blk.stageFind (b : Blk) (f : Nat) : Option Nat :=
  let s := b.stageSet f
  ((List.range 16).map (fun w => 16 * s + w)).find? (fun i => (b.dirEntry i).state != .free && (b.dirEntry i).farPage == f)

/-- A miss on a Far page waits for a way: a held request, or a promote. -/
def Blk.missWaits (b : Blk) (f : Nat) : Bool :=
  b.host.held.any (fun h => h.why == .dirtyWay f) || b.far.ctl.any (fun (e : Nat × StageCtl) => match e.2.busy with | some (dpa, _) => !e.2.evict && b.farPage dpa == f | none => false)

/-- A way that another page's miss takes when its write-back ends (R241 step 3). -/
def Blk.reserved (b : Blk) (f i : Nat) : Bool :=
  match (b.dirEntry i).taker with | some g => g != f && b.missWaits g | none => false

/-- The CLEAN way with COUNT 0 that the set's clock names for page `f`: it passes pages accessed since it last passed them (R241 step 2). -/
def Blk.clockVictim (b : Blk) (f s : Nat) : Option Nat :=
  let c := SMap.get 0 b.far.clock s
  let order := (List.range 16).map (fun k => 16 * s + (c + k) % 16)
  let ok := order.filter (fun i => (b.dirEntry i).state == .clean && (b.dirEntry i).count == 0 && !b.reserved f i)
  match ok.find? (fun i => !(b.dirEntry i).accessed) with
  | some i => some i
  | none => ok.head?

/-- Advance the clock past a victim, clearing the accessed marks it passes; a victim that was itself accessed was passed before, with every other way
(R241). -/
def advanceClock (s i : Nat) (b : Blk) : Blk :=
  let c := SMap.get 0 b.far.clock s
  let n := if (b.dirEntry i).accessed then 16 else (i % 16 + 16 - c) % 16
  let b := (List.range n).foldl (fun b k => modEntry (16 * s + (c + k) % 16) (fun e => { e with accessed := false }) b) b
  { b with far := { b.far with clock := SMap.put 0 b.far.clock s ((i + 1) % 16) } }

/-- A page's program has its place: it debits the credit and is in flight until it completes (R175, R181, R182). -/
def noteIssue (p : Nat) (u : FlashUnit) (b : Blk) : Blk :=
  let b := debit { b with pers := { b.pers with inFlight := SMap.insert b.pers.inFlight p false, programs := SMap.insert b.pers.programs p u } }
  match b.slotOfPage p with
  | some i => modEntry i (fun e => { e with state := .writing, redirtied := false }) b
  | none => b

/-- Issue a page's write-back program from its present contents. None at no free zone (R215), or where the page cannot be read. -/
def issueProgram (phys : Phys) (p : Nat) (b : Blk) : Option Blk :=
  match pageLines phys p .wb b with
  | (none, _) => none
  | (some ls, b) =>
    let s := takeSeq b
    let u := s.2.unitOf p s.1 false ls
    (placeUnit u s.2).map (fun x => noteIssue p u x.2)

/-- The trailers of the stripes that hold units since the last CHECKPOINT give the entries of one map page again: it is dropped from the cache,
read from flash and brought up to date (R213). -/
def reloadMap (i : Nat) (b : Blk) : Blk :=
  let img := b.nvf.saved
  let pick : (Nat → Nat) → SMap MapEntry → SMap MapEntry → SMap MapEntry := fun leaf now old =>
    SMap.merge (SMap.keep old (fun k _ => leaf k == i)) (SMap.keep now (fun k _ => leaf k != i))
  let b := modNvf (fun n => { n with homeMap := pick homeLeaf n.homeMap img.home, farMap := pick farLeaf n.farMap img.far }) b
  let mine : FlashUnit → Bool := fun u => (u.kind == .far && farLeaf u.page == i) || (u.kind == .home && homeLeaf u.page == i)
  (b.logStripes (fun x => decide (img.pos ≤ x.seqFirst) && !x.torn)).foldl (fun b s =>
    let x := b.stripe s
    x.units.foldl (fun b (e : Nat × FlashUnit) =>
      if mine e.2 && (if e.2.kind = .far then x.mapped || x.done.contains (e.1 / 4) else x.mapped && !x.dead) then setCurrent e.2 s e.1 b else b) b) b

/-- A map page is read: an uncorrectable word in its cached copy reloads it (R213). -/
def readMap (phys : Phys) (i : Nat) (b : Blk) : Blk :=
  let cached := b.nvf.cacheN.contains i || b.nvf.cacheS.contains i
  if cached && phys.map.contains i then touchMap i (reloadMap i b) else touchMap i b

/-- Start a fill of a Far page into a slot (R240): zeros at once where the map has no entry, else FILLING. -/
def startFill (phys : Phys) (i f : Nat) (b : Blk) : Blk :=
  let b := readMap phys (farLeaf f) b
  let b := modEntry i (fun _ => { farPage := f, state := .filling, fillCount := b.mer.count }) b
  let p := b.slotPage i
  let b := setPresence p .resident (dropPageLines p b)
  if SMap.has b.nvf.farMap f then b
  else modEntry i (fun e => { e with state := .clean }) (fillLines p (fun _ => true) b)

/-- Halo lines and entries of a local page are dropped: the page's slot takes another page. -/
def dropPageHalo (p : Nat) (b : Blk) : Blk :=
  { b with halo := { b.halo with lines := SMap.keep b.halo.lines (fun _ h => h.line / 32 != p), mb := SMap.keep b.halo.mb (fun l _ => l / 32 != p) } }

/-- What the staging cache does for a Far page: its slot, or the hold (Table 9-3, R241). -/
def stageAccess (phys : Phys) (f : Nat) (b : Blk) : Sum Nat Hold × Blk :=
  let s := b.stageSet f
  let b := dirRead phys s b
  match b.stageFind f with
  | some i =>
    if (b.dirEntry i).state == .filling then (.inr (.staging f), b)
    else (.inl i, modEntry i (fun e => { e with accessed := true }) b)
  | none =>
    let ways := (List.range 16).map (fun w => 16 * s + w)
    let mine := ways.filter (fun i => (b.dirEntry i).taker == some f)
    let take := fun (i : Nat) (b : Blk) =>
      let b := startFill phys i f (dropPageHalo (b.slotPage i) b)
      if (b.dirEntry i).state == .clean then (Sum.inl i, modEntry i (fun e => { e with accessed := true }) b) else (.inr (.staging f), b)
    if mine.any (fun i => (b.dirEntry i).state == .writing) then (.inr (.dirtyWay f), b)
    else
    match (mine.filter (fun i => (b.dirEntry i).state == .clean && (b.dirEntry i).count == 0)) ++ ways.filter (fun i => (b.dirEntry i).state == .free) with
    | i :: _ => take i b
    | [] =>
      match b.clockVictim f s with
      | some i => take i (advanceClock s i b)
      | none =>
        let dirty := ways.filter (fun i => (b.dirEntry i).state == .dirty && (b.dirEntry i).count == 0)
        match dirty with
        | [] => (.inr (.dirtyWay f), b)
        | d :: ds =>
          let old := ds.foldl (fun x y => if b.stampOf (b.slotPage y) < b.stampOf (b.slotPage x) then y else x) d
          let b := setErr .trn 4 b
          let room := decide (b.pers.inFlight.length < 262144) && decide (0 < b.freeTlc)
          (.inr (.dirtyWay f), if room then match issueProgram phys (b.slotPage old) b with
                                            | some b => modEntry old (fun e => { e with taker := some f }) b
                                            | none => b
                               else b)

/-- A write accepted into a staging slot makes the page DIRTY, or a WRITING page redirtied (Table 9-3). -/
def stageWritten (i : Nat) (b : Blk) : Blk :=
  modEntry i (fun e => if e.state == .writing then { e with redirtied := true } else { e with state := .dirty }) b

/-! ### Transit slots -/

/-- A slot of a window. -/
def Blk.trnSlot (b : Blk) (w s : Nat) : TrnSlot := SMap.get TrnSlot.fresh (b.window w).slots s

/-- Change a window. -/
def modWindow (w : Nat) (f : TrnWindow → TrnWindow) (b : Blk) : Blk :=
  { b with far := { b.far with windows := SMap.upd TrnWindow.fresh b.far.windows w f } }

/-- Change a slot. -/
def modTrnSlot (w s : Nat) (f : TrnSlot → TrnSlot) (b : Blk) : Blk :=
  modWindow w (fun x => { x with slots := SMap.upd TrnSlot.fresh x.slots s f }) b

/-- Local line of an offset of the TRANSIT_SLOTS carve-out. -/
def Blk.slotLine (b : Blk) (o : Nat) : Nat := (((carveOf b.cht.cur.near 5).map (·.base)).getD 0 + o) / 128

/-- A read of a slot alias at offset `o` of the carve-out, half `i`, for partition `part` (R252). -/
def aliasRead (phys : Phys) (o i part : Nat) (b : Blk) : Got × Blk :=
  match b.slotAt o with
  | none => (.poison, b)
  | some (w, s, off) =>
    let sl := b.trnSlot w.window s
    let page := off / 4096
    match sl.state with
    | .failed => (.poison, b)
    | .ready => if sl.length ≤ off then (.data 0, b) else readHalf phys (b.slotLine o) i (some part) b
    | .empty =>
      let win := b.window w.window
      let wn := Nat.max w.slots 1
      let m := win.nextFill + (s + wn - win.nextFill % wn) % wn
      if win.state = .running && (w.loop || decide (m < win.listLen)) then (.hold (.slot w.window s), b)
      else (.poison, setErr .trn 2 b)
    | _ =>
      if sl.length ≤ off then (.data 0, b)
      else if !sl.todo.contains page then readHalf phys (b.slotLine o) i (some part) b
      else (.hold (.slot w.window s),
            modTrnSlot w.window s (fun x => { x with state := .urgent, todo := page :: (x.todo.filter (fun q => page < q) ++ x.todo.filter (fun q => q < page)) }) b)

end Sys2Proof.Machine
end

