-- ==== Sys2Proof/Machine/OpsHost.lean ====
section
/-!
DEFINITION. Shared operations of requests to memory (R85 to R100): checks of a logical device's view, forwarding (R259), the snoop
filter (R96 to R98), service of a request or its hold, and the release of held requests in order of arrival.
-/
namespace Sys2Proof.Machine
open Sys2Proof

/-! ### Answers -/

/-- The logical device of a request. -/
def Src.ld : Src → Nat
  | .host n _ => n
  | .twin n _ _ => n % 64
  | .mirror .. => 0
  | .agent n _ _ => n

/-- Outputs of a half are withheld: an Eclipse of it, or the Dusk trigger (R186, R283). -/
def Blk.withheld (b : Blk) (dpa : Nat) : Bool := b.inDusk || (b.half (b.halfOf dpa)).eclipse && b.paired

/-- A job's access `ix` is answered, with data for a read. -/
def jobAnswer (job ix : Nat) (d : Option (Half × Bool)) (b : Blk) : Blk :=
  let f : Job → Job := fun j =>
    if j.id = job then { j with left := j.left.filter (· != ix), got := (match d with | some x => SMap.insert j.got ix x | none => j.got) } else j
  { b with host := { b.host with jobs := b.host.jobs.map f } }

/-- An atomic's prior half, before its write reaches the completion point (R315). -/
def jobPrior (src : Src) (d : Half) (b : Blk) : Blk :=
  match src with
  | .agent _ job ix =>
    let f : Job → Job := fun j => if j.id = job then { j with got := SMap.insert j.got ix (d, false) } else j
    { b with host := { b.host with jobs := b.host.jobs.map f } }
  | _ => b

/-- Answer a read. -/
def answerRead (src : Src) (d : Half) (poison : Bool) (b : Blk) : Blk :=
  match src with
  | .host n t => send (.readData n t d poison) b
  | .twin _ t h => send (.crn h (.fwdData t d poison)) b
  | .mirror .. => b
  | .agent _ job ix => jobAnswer job ix (some (d, poison)) b

/-- Complete a write. -/
def answerWrite (src : Src) (b : Blk) : Blk :=
  match src with
  | .host n t => send (.writeDone n t) b
  | .twin _ t h => send (.crn h (.fwdDone t)) b
  | .mirror t _ h => send (.crn h (.mirrorAck t)) b
  | .agent _ job ix => jobAnswer job ix none b

/-- Answer a request that touches no memory: poison for a read, a completion for a write (Table 4-9). -/
def answerNothing (r : MemReq) (b : Blk) : Blk :=
  match r.write with
  | none => answerRead r.src 0 true b
  | some _ => answerWrite r.src b

/-- Hold a request behind all that are held. -/
def holdReq (h : Hold) (r : MemReq) (b : Blk) : Blk := { b with host := { b.host with held := b.host.held ++ [⟨h, r⟩] } }

/-! ### The snoop filter (R96 to R98) -/

/-- Entries of the filter's half on each hemisphere (R96). -/
def Blk.sfRoom (b : Blk) : Nat := b.cht.cur.halo.snoopMib * 2 ^ 17

/-- The local line that holds a line of the twin's HOT data: the same line in Twin, the mirror frame's in Binary (R261, R268). -/
def Blk.mirrorLine (b : Blk) (dpa : Nat) : Option Nat :=
  if b.binary && !b.homed dpa then
    let a := localOff dpa
    (b.mirChart.mirrorHome b.cht.isB (a / frame)).map (fun f => (f * frame + a % frame) / 128)
  else some (b.nearLocal dpa / 128)

/-- Local line of a Near DPA that this unit homes, or of its mirror copy (R261). -/
def Blk.lineOf (b : Blk) (dpa : Nat) : Nat := (b.mirrorLine dpa).getD (b.nearLocal dpa / 128)

/-- The page number under which the staging cache serves a DPA: a Far page's F, or 2^35 + P for a COLD Near page of the twin after a takeover
in Binary (R236, R286). -/
def Blk.stagedPage (b : Blk) (dpa : Nat) : Option Nat :=
  match b.area dpa with
  | .far => some (b.farPage dpa)
  | .near =>
    if b.homed dpa then none
    else match b.regionOf dpa with
      | some r => if r.mirror = .cold then some (2 ^ 35 + b.nearLocal dpa / 4096) else none
      | none => none
  | _ => none

/-- Home hemisphere of a DPA's line; a Far page's staging slot decides by F (R236, R263). -/
def Blk.dpaHemi (b : Blk) (dpa : Nat) : Nat := if b.area dpa = .far then b.farPage dpa % 2 else b.hemi (b.lineOf dpa)

/-- Store or remove an entry, and tell the twin (R268). -/
def sfSet (g : Nat) (who : Option Holders) (b : Blk) : Blk :=
  let t := b.host.sfTick + 1
  let sf := match who with
    | none => SMap.erase b.host.sf g
    | some (.exact []) => SMap.erase b.host.sf g
    | some w => SMap.insert b.host.sf g ⟨w, t⟩
  let b := { b with host := { b.host with sf := sf, sfTick := t } }
  if b.paired && !b.twin.linkDown then send (.crn (b.dpaHemi (g * 128)) (.sfUpdate g who)) b else b

/-- A logical device of this unit as a holder: by its number, in Binary with bit 6 on unit B (R45, R259). -/
def Blk.holder (b : Blk) (n : Nat) : Nat := if b.binary && b.cht.isB then n + 64 else n

/-- The holder that a request comes from; a forwarded request carries its unit in bit 6 (Table 10-3), which counts in Binary alone (R259). -/
def Blk.holderOf (b : Blk) (src : Src) : Nat :=
  match src with
  | .twin n _ _ => if b.binary then n else n % 64
  | s => b.holder s.ld

/-- Every holder that a region's masks name (R45, R96). -/
def Region.holders (r : Region) : List Nat := bitsOf 64 r.maskA ++ (bitsOf 64 r.maskB).map (· + 64)

/-- Holders an entry stands for: the named ones, or all in the region's masks when coarse, but for those removed (R96). -/
def Blk.sfHolders (b : Blk) (g : Nat) : List Nat :=
  match SMap.find? b.host.sf g with
  | none => []
  | some ⟨.exact ls, _⟩ => ls
  | some ⟨.coarse gone, _⟩ => match b.regionOf (g * 128) with | some r => r.holders.filter (fun n => !gone.contains n) | none => []

/-- Record that `n` obtains a granule: two holders exactly, a third makes the entry coarse (R96). -/
def sfAdd (g n : Nat) (b : Blk) : Blk :=
  match SMap.find? b.host.sf g with
  | some ⟨.coarse gone, _⟩ => sfSet g (some (.coarse (gone.erase n))) b
  | some ⟨.exact ls, _⟩ =>
    if ls.contains n then sfSet g (some (.exact ls)) b
    else if ls.length < 2 then sfSet g (some (.exact (ls ++ [n]))) b
    else sfSet g (some (.coarse [])) b
  | none => sfSet g (some (.exact [n])) b

/-- An entry without some holders: they leave it without a back-invalidate (R98, R113). -/
def SfEntry.without (lds : List Nat) (e : SfEntry) : SfEntry :=
  match e.who with
  | .exact ls => { e with who := Holders.exact (ls.filter (fun n => !lds.contains n)) }
  | .coarse gone => { e with who := Holders.coarse (gone ++ lds.filter (fun n => !gone.contains n)) }

/-- Send BISnpInv of a granule to holders and wait for their answers (R97). To a holder of the other unit in Binary it travels by a way that Table 10-3 does
not give (assumption 126, DESIGN CHOICE). -/
def backInvalidate (g : Nat) (lds : List Nat) (evict : Bool) (b : Blk) : Blk :=
  let b := lds.foldl (fun b n => send (.biSnp n g) b) b
  { b with host := { b.host with bi := b.host.bi ++ [⟨g, lds, evict⟩] } }

/-- The least recently used entry of the filter half that holds granule `g` (R97). The part's set structure is not given: the half
is one set (DESIGN CHOICE, assumption 14). -/
def Blk.sfVictim (b : Blk) (g : Nat) : Option Nat :=
  let h := b.hemi (b.lineOf (g * 128))
  let es := b.host.sf.filter (fun e => b.hemi (b.lineOf (e.1 * 128)) == h)
  if es.length < b.sfRoom then none
  else match es with
    | [] => none
    | e :: rest => some (rest.foldl (fun x y => if y.2.used < x.2.used then y else x) e).1

/-- What a SHARED_DB granule asks before a request of `n` may proceed: nothing, or a hold while BISnp answers are awaited. -/
def snoopGate (n : Nat) (r : MemReq) (b : Blk) : Option Hold × Blk :=
  let g := r.dpa / 128
  if b.host.bi.any (fun w => w.granule = g) then (some (.bi g), b)
  else
    let others := (b.sfHolders g).filter (· != n)
    if (r.write.isSome || r.exclusive) && !r.biDone && !others.isEmpty then (some (.bi g), backInvalidate g others false b)
    else if r.write.isNone && !SMap.has b.host.sf g then
      match b.sfVictim g with
      | some v =>
        if b.host.bi.any (fun w => w.granule = v) then (some (.biEvict v), b)
        else (some (.biEvict v), backInvalidate v (b.sfHolders v) true b)
      | none => (none, b)
    else (none, b)

/-- The filter after a request of `n` has proceeded: a reader is recorded; a write or an exclusive grant leaves only `n`. -/
def snoopDone (n : Nat) (r : MemReq) (b : Blk) : Blk :=
  let g := r.dpa / 128
  if r.write.isSome then
    (if SMap.has b.host.sf g then sfSet g (some (.exact ((b.sfHolders g).filter (· == n)))) b else b)
  else if r.exclusive then sfSet g (some (.exact [n])) b
  else sfAdd g n b

/-! ### Checks -/

/-- How a request of the twin or of a host answers by its view (R91); a forwarded request uses the sender unit's mask (R259). -/
def Blk.reachSrc (b : Blk) (src : Src) (dpa : Nat) : Reach :=
  match src with
  | .host n _ => b.reach n dpa
  | .twin n _ _ =>
    match b.regionOf dpa with
    | some r => if b.binary then (if (if b.cht.isB then r.maskA else r.maskB).testBit (n % 64) then (if b.keyEmpty r then .keyEmpty else .ok) else .masked)
                else b.reachRegion (n % 64) dpa r
    | none => .unmapped
  | .mirror .. => .ok
  | .agent _ _ _ => .ok

/-- A request to a DPA outside the view (Table 4-9, R336). -/
def refuseReach (reach : Reach) (r : MemReq) (b : Blk) : Blk :=
  let b := if reach = .keyEmpty then setErr .cph 4 b else b
  let b := match r.src with
    | .host n _ => violation n (if reach = .masked then 2 else 1) r.dpa false true b
    | _ => b
  answerNothing r b

/-! ### Forwarding (R259, R260) -/

/-- This unit serves the address: it holds the Lodestar for its half. -/
def Blk.serves (b : Blk) (dpa : Nat) : Bool :=
  !b.paired || (b.half (b.halfOf dpa)).role == .holder

/-- The message that forwards a request, which names the logical device with its unit in bit 6 (Table 10-3). A write of part of a half reads the half
first. -/
def Blk.fwdMsg (b : Blk) (t : Nat) (r : MemReq) : TwinMsg :=
  let who := r.src.ld % 64 + if b.cht.isB then 64 else 0
  match r.write, r.part with
  | some (d, p), .whole => .fwdWrite t r.dpa who d p
  | _, _ => .fwdRead t r.dpa who

/-- Forward a request over the link (R259). -/
def forward (r : MemReq) (b : Blk) : Blk :=
  let t := b.twin.nextTag
  send (.crn (b.dpaHemi r.dpa) (b.fwdMsg t r)) { b with twin := { b.twin with nextTag := t + 1 }, host := { b.host with fwd := b.host.fwd ++ [{ tag := t, req := r }] } }

/-- What becomes of a request this unit does not serve: forwarded; held while neither unit holds the Lodestar or the link is DOWN;
after the grace time in Binary, reads return poison and writes are discarded without completion (R259, R276). -/
def notServed (r : MemReq) (b : Blk) : Blk :=
  let h := b.halfOf r.dpa
  if b.twin.linkDown then
    if b.twin.graceExpired && b.binary then
      let b := setErr .twn 5 b
      (match r.write with | none => answerRead r.src 0 true b | some _ => b)
    else holdReq (.gate h) r b
  else if (b.half h).eclipse || (b.half h).role = .eclipse then holdReq (.gate h) r b
  else match r.src with
    | .host _ _ => forward r b
    | .agent _ _ _ => forward r b
    | _ => holdReq (.gate h) r b

/-! ### Pages made ZERO (R48, R95) -/

/-- Local pages, given by a test and as runs of first page and count, become ZERO: no dirty bit, no stored copy that could become current again, nothing in Halo or
the merge buffer. See assumption 38 (DEDUCED). -/
def zeroPages (hit : Nat → Bool) (runs : List (Nat × Nat)) (b : Blk) : Blk :=
  let units := fun (m : SMap FlashUnit) => SMap.keep m (fun p _ => !hit p)
  let b := { b with halo := { b.halo with lines := SMap.keep b.halo.lines (fun _ h => !hit (h.line / 32)), mb := SMap.keep b.halo.mb (fun l _ => !hit (l / 32)) } }
  let b := runs.foldl (setPages .zero) { b with dram := { b.dram with lines := SMap.keep b.dram.lines (fun l _ => !hit (l / 32)) } }
  let ps := b.pers
  let ps := { ps with dirty := SMap.keep ps.dirty (fun p _ => !hit p), stamps := SMap.keep ps.stamps (fun p _ => !hit p) }
  let ps := { ps with from' := SMap.keep ps.from' (fun p _ => !hit p), inFlight := SMap.keep ps.inFlight (fun p _ => !hit p) }
  let ps := { ps with programs := SMap.keep ps.programs (fun p _ => !hit p) }
  let ps := { ps with gens := ps.gens.map (fun g => { g with units := units g.units, mapImage := g.mapImage.filter (fun p => !hit p) }) }
  let left : SMap MapEntry → SMap MapEntry := fun m => SMap.keep m (fun p _ => !hit p)
  voidUnits (fun u => u.kind == .home && hit u.page)
    { b with pers := ps, nvf := { b.nvf with homeMap := left b.nvf.homeMap, saved := { b.nvf.saved with home := left b.nvf.saved.home } } }

/-- One local page becomes ZERO. -/
def zeroPage (p : Nat) (b : Blk) : Blk := zeroPages (fun q => q == p) [(p, 1)] b

/-- Far pages given by a test lose their contents: their map entries go, and their staging slots become FREE (R48). -/
def zeroFarPages (hit : Nat → Bool) (b : Blk) : Blk :=
  let slots := (SMap.keep b.far.dir (fun _ e => e.state != .free && hit e.farPage)).map (·.1)
  let left : SMap MapEntry → SMap MapEntry := fun m => SMap.keep m (fun f _ => !hit f)
  let b := voidUnits (fun u => u.kind == .far && hit u.page)
    { b with nvf := { b.nvf with farMap := left b.nvf.farMap, saved := { b.nvf.saved with far := left b.nvf.saved.far } } }
  slots.foldl (fun b i => modEntry i (fun _ => {}) (zeroPage (b.slotPage i) b)) b

/-- The local pages of the 256 MiB blocks of a Near DPA range that this unit homes. -/
def Blk.rangeRuns (b : Blk) (base size : Nat) : List (Nat × Nat) :=
  (((List.range (ceilDiv size frame)).map (fun i => base + frame * i)).filter b.homed).map (fun a => (b.pageOf a, frame / 4096))

/-- Every page of a DPA range of whole 256 MiB blocks that this unit homes becomes ZERO (R95), and the COLD copies it keeps of the twin's pages there go. -/
def zeroRange (base size : Nat) (b : Blk) : Blk :=
  let inside := fun (a : Nat) => decide (base ≤ a) && decide (a < base + size)
  let b := zeroFarPages (fun f => inside (b.farInfo f).2) b
  if b.area base = .far then b
  else zeroPages (fun p => inside (b.nearDpa (p * 4096))) (b.rangeRuns base size) b

/-! ### Service -/

/-- The partition and the local line of a request's data, or the hold that finding it meets. -/
def locate (phys : Phys) (r : MemReq) (b : Blk) : Sum Nat Hold × Blk :=
  match b.stagedPage r.dpa with
  | some f =>
    match stageAccess phys f b with
    | (.inl i, b) => (.inl (b.slotPage i * 32 + r.dpa % 4096 / 128), b)
    | (.inr h, b) => (.inr h, b)
  | none => (.inl (b.lineOf r.dpa), b)

/-- The half of a line that a DPA names. -/
def halfIx (dpa : Nat) : Nat := dpa / 64 % 2

/-- The logical device whose partition a request takes; Orbit's take DEFAULT_PART (R120). -/
def Blk.partLd (b : Blk) (src : Src) : Option Nat :=
  match src with
  | .agent n job _ =>
    (match (b.host.jobs.find? (fun j => j.id = job)).map (fun (j : Job) => j.use) with
     | some (.cphIn _ _) => some n | some (.cphOut _ _) => some n | some (.cphDesc _) => some n | some (.cphNote _) => some n
     | some (.blob _) => some n | _ => none)
  | s => some s.ld

/-- The 8-byte word at byte `o` of a half. -/
def wordOf (d : Half) (o : Nat) : Nat := d.toNat / 2 ^ (8 * o) % 2 ^ 64

/-- The half with the word at byte `o` replaced. -/
def withWord (d : Half) (o v : Nat) : Half := BitVec.ofNat 512 (d.toNat - wordOf d o * 2 ^ (8 * o) + v % 2 ^ 64 * 2 ^ (8 * o))

/-- The bytes of `new` that a mask selects, over `old`. -/
def blend (mask : Nat) (old new : Half) : Half :=
  bytesBits 512 ((List.range 64).map (fun i => if mask.testBit i then Line.byte new i else Line.byte old i))

/-- What a write of part of a half becomes at its home: data to write with the prior half, or an end without a write. -/
inductive Merged where
  | go (d : Half) (poison : Bool) (prior : Option Half)
  | stop (poison : Bool) (prior : Half)
  | hold (h : Hold)
  deriving DecidableEq, Repr

/-- Read and merge for a write of part of a half (R313, R315), which allocates for partition `pt` like any read (R124). -/
def mergePart (phys : Phys) (l i pt : Nat) (part : Part) (d : Half) (poison : Bool) (b : Blk) : Merged × Blk :=
  match part with
  | .whole => (.go d poison none, b)
  | .bytes m =>
    match readHalf phys l i (some pt) b with
    | (.hold h, b) => (.hold h, b)
    | (.data cur, b) => (.go (blend m cur d) poison none, b)
    | (.poison, b) => (.go (blend m 0 d) true none, b)
  | .add w v =>
    match readHalf phys l i (some pt) b with
    | (.hold h, b) => (.hold h, b)
    | (.data cur, b) => (.go (withWord cur w (wordOf cur w + v)) false (some cur), b)
    | (.poison, b) => (.stop true 0, b)
  | .cas w c s =>
    match readHalf phys l i (some pt) b with
    | (.hold h, b) => (.hold h, b)
    | (.data cur, b) => (if wordOf cur w = c then .go (withWord cur w s) false (some cur) else .stop false cur, b)
    | (.poison, b) => (.stop true 0, b)

/-- Serve a read at its home (R99). -/
def serveRead (phys : Phys) (r : MemReq) (b : Blk) : Blk :=
  if b.area r.dpa = .slot then
    match aliasRead phys (r.dpa - aliasBase) (halfIx r.dpa) (b.partition (b.partLd r.src) (b.regionOf r.dpa)) b with
    | (.data d, b) => answerRead r.src d false b
    | (.poison, b) => answerRead r.src 0 true b
    | (.hold h, b) => holdReq h r b
  else
    match locate phys r b with
    | (.inr h, b) => holdReq h r b
    | (.inl l, b) =>
      let part := b.partition (b.partLd r.src) (b.regionOf r.dpa)
      match readHalf phys l (halfIx r.dpa) (some part) b with
      | (.data d, b) => answerRead r.src d false b
      | (.poison, b) => answerRead r.src 0 true b
      | (.hold h, b) => holdReq h r b

/-- The DPA lies in a region that an assumption of its half marked LOST (R284 step 4). -/
def Blk.lostRegion (b : Blk) (dpa : Nat) : Bool :=
  match b.regionOf dpa with
  | some r => b.twin.lostRegions.contains (2 * r.id + b.halfOf dpa)
  | none => false

/-- Post one THROTTLE record per logical device and window for a held write (R183, R274). -/
def noteThrottle (dpa : Nat) (b : Blk) : Blk :=
  let lds := (match b.regionOf dpa with | some r => b.maskLds r | none => []).filter (fun n => b.reach n dpa == Reach.ok && !b.pers.throttlePosted.contains n)
  let r := vendorRec .throttle { detail := [b.dirtyBytes, b.ceiling] } b
  let b := if b.inDusk then b else postTo lds .warning r b
  { b with pers := { b.pers with throttlePosted := b.pers.throttlePosted ++ lds } }

/-- A write is held: THROTTLE records where it waits for the ceiling or for room in the COLD lists (R183, R274). -/
def noteHeld (h : Hold) (dpa : Nat) (b : Blk) : Blk := if h = .throttle ∨ h = .ship then noteThrottle dpa b else b

/-- The hemisphere on whose host or Ethernet ports a store entered; none for what is no store of R125. -/
def Blk.storeDoor (b : Blk) (src : Src) : Option Nat :=
  match src with
  | .host n _ => some (n / 32)
  | .agent _ job _ =>
    match (b.host.jobs.find? (fun j => j.id = job)).map (fun (j : Job) => j.use) with
    | some (.place _ port _) => some (if b.cht.cur.orbit.ethMode then port / 2 else port / 4)
    | _ => none
  | _ => none

/-- The local line that a DPA has now: none while a Far page has no staging slot, or for what this unit does not serve. -/
def Blk.storeLine (b : Blk) (dpa : Nat) : Option Nat :=
  match b.stagedPage dpa with
  | some f => (b.stageFind f).map (fun i => b.slotPage i * 32 + dpa % 4096 / 128)
  | none => if b.area dpa = .near && (b.homed dpa || b.serves dpa) then some (b.lineOf dpa) else none

/-- A store is offered, once, to the detector of the hemisphere where it entered, as soon as it has a Near address (R125, R126). -/
def offerStore (r : MemReq) (b : Blk) : MemReq × Blk :=
  match b.storeDoor r.src, b.storeLine r.dpa with
  | some h, some l =>
    if r.seen || r.write.isNone then (r, b)
    else
      let part := b.partition (b.partLd r.src) (b.regionOf r.dpa)
      ({ r with seen := true }, detectStore h l (!(b.partCfg part).noStream) b)
  | _, _ => (r, b)

/-- Serve a write at its home: acceptance, then completion or the wait for the twin (R16, R122, R268). -/
def serveWrite (phys : Phys) (r : MemReq) (d : Half) (poison : Bool) (b : Blk) : Blk :=
  match locate phys r b with
  | (.inr h, b) => holdReq h r b
  | (.inl l, b) =>
    let part := b.partition (b.partLd r.src) (b.regionOf r.dpa)
    let o := offerStore r b
    let r := o.1
    match mergePart phys l (halfIx r.dpa) part r.part d poison o.2 with
    | (.hold h, b) => holdReq h r b
    | (.stop p prior, b) => answerRead r.src prior p b
    | (.go d poison prior, b) =>
    match writeHalf phys l (halfIx r.dpa) d poison part r.passed r.turn b with
    | (.hold h, b) => holdReq h r (noteHeld h r.dpa b)
    | (.accepted tag, b) =>
      let b := match prior with | some x => jobPrior r.src x b | none => b
      let b := match (b.stagedPage r.dpa).bind (fun f => b.stageFind f) with
        | some i => stageWritten i b
        | none => b
      match tag with
      | none => answerWrite r.src b
      | some t => { b with host := { b.host with mirror := b.host.mirror ++ [{ tag := t, src := some r.src, addr := l * 128 + 64 * halfIx r.dpa }] } }

/-- Accept a MIRROR_WRITE (R268): into the merge buffer, never into Halo; the ceiling may hold it, and its acknowledgement with it. On a
frozen channel the write is dropped like any other (R161) and the copy is STALE. -/
def serveMirror (phys : Phys) (r : MemReq) (d : Half) (poison : Bool) (epoch : Nat) (b : Blk) : Blk :=
  match b.mirrorLine r.dpa with
  | none => b
  | some l =>
    match b.writeHold l r.passed r.turn with
    | some h => holdReq h r (noteHeld h r.dpa (noteHold h b))
    | none =>
      if b.frozenLine l then answerWrite r.src (dropWrite l epoch { b with twin := { b.twin with stale := true } })
      else
        let b := storeHalf phys l (halfIx r.dpa) d poison 0 true epoch b
        answerWrite r.src (markDirty (l / 32) epoch b)

/-- Serve a request that has passed its port: view, home, gate, snoop filter, line order, then memory (R91, R99, R100, R259). -/
def serve (phys : Phys) (r : MemReq) (b : Blk) : Blk :=
  let reach := b.reachSrc r.src r.dpa
  let toAlias := b.area r.dpa = .slot && r.write.isSome
  let o := if reach = .ok then offerStore r b else (r, b)
  let r := o.1; let b := o.2
  if reach ≠ .ok ∨ toAlias then refuseReach (if toAlias then .unmapped else reach) r b
  else match b.host.held.find? (fun h => h.req.dpa / 128 = r.dpa / 128) with
  | some h => holdReq h.why r b
  | none =>
    match r.src, r.write with
    | .mirror _ e _, some (d, p) => serveMirror phys r d p e b
    | _, _ =>
    if b.inDusk then holdReq .dusk r b
    else if b.area r.dpa = .slot then serveRead phys r b
    else if !b.serves r.dpa then notServed r b
    else
      let h := b.halfOf r.dpa
      if b.paired && (b.half h).eclipse then holdReq (.gate h) r b
      else if b.lostRegion r.dpa then answerNothing r b
      else if r.write.isSome && !(b.half h).gateOpen then holdReq (.gate h) r b
      else if r.write.isSome && b.halo.holding then holdReq .fatal r b
      else
        let db : Bool := match b.regionOf r.dpa with | some x => x.sharing == .sharedDb | none => false
        match (if db then snoopGate (b.holderOf r.src) r b else (none, b)) with
        | (some hold, b) => holdReq hold r b
        | (none, b) =>
          let b := if db then snoopDone (b.holderOf r.src) r b else b
          match r.write with
          | none => serveRead phys r b
          | some (d, p) => serveWrite phys r d p b

/-- Take the held requests that satisfy `p`, in order of arrival, and serve each again. -/
def retry (phys : Phys) (p : HeldReq → Bool) (b : Blk) : Blk :=
  let go := b.host.held.filter p
  go.foldl (fun b h => serve phys h.req b) { b with host := { b.host with held := b.host.held.filter (fun h => !p h) } }

/-- Serve again every request held for one reason. -/
def retryWhy (phys : Phys) (why : Hold) (b : Blk) : Blk := retry phys (fun h => h.why == why) b

/-- Serve only the oldest request held for a reason, and after it those held behind it on its line. -/
def retryOldest (phys : Phys) (why : Hold) (b : Blk) : Blk :=
  match b.host.held.find? (fun h => h.why == why) with
  | none => b
  | some o => retry phys (fun h => h.why == why && h.req.dpa / 128 == o.req.dpa / 128) b

end Sys2Proof.Machine
end

