-- ==== Sys2Proof/Machine/Host.lean ====
section
/-!
DEFINITION. Effects of the host commands of chapter 4: links, reads and writes, back-invalidate, decoders, dynamic capacity, GPF,
window violations and IDE.
-/
namespace Sys2Proof.Machine
open Sys2Proof

/-! ### Links (R84 to R86) -/

/-- HP_STATUS.SPEED of a negotiated speed class: MAX_SPEED 0, 1, 2 stand for 64, 32, 16 GT/s (R39, Table 4-10). -/
def speedField (maxSpeed partner : Nat) : Nat := 3 - Nat.min 2 (Nat.max maxSpeed partner)

/-- The port's HOST_PORTS entry. -/
def Blk.portCfg (b : Blk) (p : Nat) : PortCfg := SMap.get PortCfg.off b.cht.cur.ports p

/-- A port may train: enabled by HOST_PORTS and not held by DISABLE, in service; in Twilight HP0 alone (R86, R88, R395). -/
def Blk.mayTrain (b : Blk) (p : Nat) : Bool :=
  decide (p < 4) && !(b.port p).disable && !(b.port p).inReset &&
  (if b.pwr.stage = .twilight then p == 0 && decide (b.pwr.en ≠ 0) else b.inService && (b.portCfg p).enable)

/-- LINK_TRAINED: the port trains at the highest speed and width that the partner and HOST_PORTS allow; a partner without CXL in
256-byte flit mode gets configuration space only, no logical device's window or mailbox, and NO_FLIT256 (R85). `speed` and `width` are the
partner's, coded as MAX_SPEED and MAX_WIDTH. See assumption 57 (PRESUMED). -/
def linkTrained (p speed width : Nat) (cxl : Bool) (b : Blk) : Blk :=
  if !b.mayTrain p then b
  else
    let tw := b.pwr.stage = .twilight
    let c := if tw then { b.portCfg p with maxSpeed := 0, maxWidth := 0, ldCount := 1 } else b.portCfg p
    let b := modPort p (fun x => { x with
      speed := speedField c.maxSpeed speed, width := speedField c.maxWidth width, flit256 := cxl, cxlMem := cxl && !tw,
      retrain := false, twilight := tw, present := if cxl then 2 ^ c.ldCount - 1 else 0 }) b
    if cxl then b else setErr (.hp p) 0 b

/-- The link stops carrying traffic: HP_STATUS shows it down (Table 4-10), and no IDE stream is active. What an integrity failure left insecure
stays so until new keys are active (R104). -/
def linkStatusDown (p : Nat) (b : Blk) : Blk :=
  modPort p (fun x => { x with speed := 0, width := 0, flit256 := false, cxlMem := false, ideActive := false, ideIo := false }) b

/-- HP_CTRL.RETRAIN: a retrain is requested; the bit clears when training starts, at the LINK_TRAINED that follows (Table 4-11). -/
def retrainPort (p : Nat) (b : Blk) : Blk := if p < 4 then modPort p (fun x => { x with retrain := true }) b else b

/-- Logical devices of a port. -/
def portLds (p : Nat) : List Nat := (List.range 16).map (fun i => p * 16 + i)

/-- Every holder has answered the BISnp of a wait: an evicted entry goes, and the requests that waited for it or on its granule proceed; else
the oldest request held on the granule proceeds, and those behind it follow with back-invalidates of their own (R97, R99). -/
def biSettled (phys : Phys) (b : Blk) (w : BiWait) : Blk :=
  let g := w.granule
  if w.evict then retry phys (fun h => h.why == .biEvict g || h.why == .bi g) (sfSet g none b)
  else match b.host.held.find? (fun h => h.why == .bi g) with
    | none => b
    | some o =>
      let pass : HeldReq → HeldReq := fun h => if h == o then { h with req := { h.req with biDone := true } } else h
      retry phys (fun h => h.why == .bi g) { b with host := { b.host with held := b.host.held.map pass } }

/-- Settle the work in flight of some logical devices (R113): accepted writes stay, without completions; other requests are
discarded; they leave the snoop filter without a back-invalidate. -/
def settleLds (phys : Phys) (lds : List Nat) (b : Blk) : Blk :=
  let isHost : Src → Bool := fun s => match s with | .host n _ => lds.contains n | _ => false
  let deadFwd : FwdWait → FwdWait := fun f => if isHost f.req.src then { f with dead := true } else f
  let anon : MirrorWait → MirrorWait := fun m => if (m.src.map isHost).getD false then { m with src := none } else m
  let gone := lds.map b.holder
  let leave : Nat × SfEntry → Nat × SfEntry := fun e => (e.1, e.2.without gone)
  let b := { b with host := { b.host with
    held := b.host.held.filter (fun (h : HeldReq) => !isHost h.req.src),
    fwd := b.host.fwd.map deadFwd,
    mirror := b.host.mirror.map anon,
    sf := (b.host.sf.map leave).filter (fun (e : Nat × SfEntry) => e.2.who != Holders.exact []) } }
  let trim : BiWait → BiWait := fun w => { w with lds := w.lds.filter (fun n => !gone.contains n) }
  let waits := b.host.bi.map trim
  let done := waits.filter (fun (w : BiWait) => w.lds.isEmpty)
  let b := { b with host := { b.host with bi := waits.filter (fun (w : BiWait) => !w.lds.isEmpty) } }
  done.foldl (biSettled phys) b

/-- FLIT_CRC_ERROR: link-layer replay; after replay exhaustion a retrain, recorded in the Logbook. No rule gives that record's
TYPE, which is a free value (assumption 16). -/
def flitCrcError (p : Nat) (exhausted : Bool) (b : Blk) : Blk :=
  if exhausted && p < 4 then
    let t := drawFree b
    modPort p (fun x => { x with retrain := true }) (logRecord (t.1 % 0x1000) { kind := .fault, loc := faultCluster (p / 2) (0x10 + p % 2) } t.2)
  else b

/-! ### CXL.mem (R99, R104, R105, R122) -/

/-- A logical device takes CXL.mem requests: its port carries CXL.mem, nothing is in reset (R85, R113). -/
def Blk.takesMem (b : Blk) (n : Nat) : Bool :=
  let p := b.port (n / 16)
  p.cxlMem && !p.inReset && p.present.testBit (n % 16) && !(b.ld n).resetting && b.aon && !p.lockMem && !p.lockIo

/-- An IDE integrity check fails on a stream of a port: the flit is discarded, the stream is insecure, and the port takes no CXL.mem request until
new keys are active (R104). See assumption 65 (DEDUCED). -/
def ideFail (n : Nat) (s : IdeStream) (b : Blk) : Blk :=
  violation n 7 0 true true (modPort (n / 16) (fun x => match s with
    | .mem => { x with ideInsecure := true, lockMem := true }
    | .io => { x with ideIoInsecure := true, lockIo := true }) b)

/-- A CXL.mem request at its port: IDE (R104, R105), then service. -/
def portRequest (phys : Phys) (n : Nat) (r : MemReq) (b : Blk) : Blk :=
  if !b.takesMem n then b
  else if phys.ide && (b.port (n / 16)).ideActive then ideFail n .mem b
  else if (b.portCfg (n / 16)).ideRequired && !(b.port (n / 16)).ideActive then answerNothing r (violation n 6 r.dpa true true b)
  else serve phys r b

/-- HOST_WRITE of the half at a DPA. -/
def hostWrite (phys : Phys) (n tag dpa : Nat) (d : Half) (poison : Bool) (b : Blk) : Blk :=
  portRequest phys n { src := .host n tag, dpa := dpa / 64 * 64, write := some (d, poison) } b

/-- HOST_READ of the half at a DPA; `exclusive` asks for exclusive access to a SHARED_DB granule (R97). -/
def hostRead (phys : Phys) (n tag dpa : Nat) (exclusive : Bool) (b : Blk) : Blk :=
  portRequest phys n { src := .host n tag, dpa := dpa / 64 * 64, write := none, exclusive := exclusive } b

/-! ### Back-invalidate (R97, R98) -/

/-- A holder no longer counts as awaited for a granule. -/
def biAnswered (phys : Phys) (g n : Nat) (b : Blk) : Blk :=
  match b.host.bi.find? (fun w => w.granule = g && w.lds.contains n) with
  | none => b
  | some w =>
    let left := w.lds.filter (· != n)
    let others := b.host.bi.filter (fun x => x.granule != g)
    if !left.isEmpty then { b with host := { b.host with bi := b.host.bi.map (fun x => if x.granule = g then { x with lds := left } else x) } }
    else biSettled phys { b with host := { b.host with bi := others } } w

/-- A violation of a back-invalidate by a holder: one of this unit's logical devices; the other unit counts its own (R114, R259). -/
def biViolation (n bit g : Nat) (toLog : Bool) (b : Blk) : Blk := if b.holder (n % 64) = n then violation (n % 64) bit (g * 128) toLog true b else b

/-- BIRSPI: an answer to a BISnp; a late answer is discarded, a stray one is a violation (R98, Table 4-9). -/
def biRspI (phys : Phys) (n g : Nat) (b : Blk) : Blk :=
  if b.host.bi.any (fun w => w.granule = g && w.lds.contains n) then biAnswered phys g n b
  else if b.host.biLate.contains (g, n) then { b with host := { b.host with biLate := b.host.biLate.erase (g, n) } }
  else biViolation n 5 g false b

/-- BI_TIMEOUT: the holder is treated as having answered and leaves the entry (R98). -/
def biTimeout (phys : Phys) (n g : Nat) (b : Blk) : Blk :=
  if b.host.bi.any (fun w => w.granule = g && w.lds.contains n) then
    let b := biViolation n 4 g true b
    let b := { b with host := { b.host with biLate := (g, n) :: b.host.biLate.erase (g, n) } }
    let b := match SMap.find? b.host.sf g with
      | some e => sfSet g (some (e.without [n]).who) b
      | none => b
    biAnswered phys g n b
  else b

/-! ### HDM decoders (R92) -/

/-- Coherence models found in a DPA range that logical device `n` may access: HDM-DB present, HDM-H present. -/
def Blk.models (b : Blk) (n base size : Nat) : Bool × Bool :=
  let hit := (b.mapped n).filter (fun x => decide (x.1 < base + size) && decide (base < x.1 + x.2.1))
  (hit.any (fun x => x.2.2.1), hit.any (fun x => !x.2.2.1))

/-- Host-side interleave that is accepted: 1 to 16 ways, granularity 256 B to 16 KiB, a power of two (R92). -/
def interleaveOk (ways gran : Nat) : Bool :=
  decide (1 ≤ ways) && decide (ways ≤ 16) && decide (256 ≤ gran) && decide (gran ≤ 16384) && decide (2 ^ Nat.log2 gran = gran)

/-- HDM_DECODER_COMMIT: refused with Error Not Committed when the range mixes models or BI does not match (R92). An interleave that R92 does not
accept is refused in the same way (assumption 130, DEDUCED). -/
def decoderCommit (n dec base size ways gran : Nat) (bi : Bool) (b : Blk) : Blk :=
  if 8 ≤ dec || !(b.port (n / 16)).present.testBit (n % 16) then b
  else
    let m := b.models n base size
    let ok := !(m.1 && m.2) && !(m.1 && !bi) && !(m.2 && bi) && interleaveOk ways gran
    let b := modLd n (fun l => { l with decoders := SMap.insert l.decoders dec ⟨base, size, bi, ways, gran, ok, !ok⟩ }) b
    if ok then b else violation n 3 base false false b

/-! ### Dynamic capacity (R93 to R95) -/

/-- Logical devices of this unit that hold or are offered an extent. -/
def Blk.extentUsers (b : Blk) (p : Extent → Bool) : List Nat :=
  (b.host.lds.filter (fun e => (e.2.extents ++ e.2.offers).any p)).map (·.1)

/-- Every block of a region that no extent, offer or tag takes: bases of 256 MiB blocks (R93, R94). -/
def Blk.freeBlocks (b : Blk) (r : Region) : List Nat :=
  ((List.range (r.size / frame)).map (fun i => r.base + i * frame)).filter (fun a =>
    (b.extentUsers (fun e => decide (e.base ≤ a) && decide (a < e.base + e.size))).isEmpty &&
    !b.host.dcTags.any (fun t => decide (t.base ≤ a) && decide (a < t.base + t.size)))

/-- Starts of runs of `k` free blocks. -/
def runsOf (free : List Nat) (k : Nat) : List Nat := free.filter (fun a => (List.range k).all (fun i => free.contains (a + i * frame)))

/-- The DPA offsets the controller chooses for `k` blocks: one run where there is one, else single blocks (its choice is free,
assumption 3). None when the region lacks the capacity. See assumption 60 (DESIGN CHOICE). -/
def chooseBlocks (free : List Nat) (k pick : Nat) : Option (List (Nat × Nat)) :=
  match runsOf free k with
  | [] => if k ≤ free.length then some ((free.take k).map (fun a => (a, frame))) else none
  | rs => some [((rs.getD (pick % rs.length) 0), k * frame)]

/-- A region put before the first of a list with a higher ID. -/
def insertById (r : Region) : List Region → List Region
  | [] => [r]
  | x :: xs => if r.id < x.id then r :: x :: xs else x :: insertById r xs

/-- The DC regions of a logical device, in ascending region ID (R93). -/
def Blk.dcRegions (b : Blk) (n : Nat) : List Region :=
  (b.cht.cur.regions.filter (fun r => r.dynamic && b.maskHas r n)).foldl (fun l r => insertById r l) []

/-- Offer extents: an Add Capacity event record each, in the dynamic capacity log (R94). An extent already on offer is not listed twice. -/
def offerExtents (n : Nat) (es : List Extent) (b : Blk) : Blk :=
  let b := modLd n (fun l => { l with offers := l.offers ++ es.filter (fun e => !l.offers.contains e) }) b
  es.foldl (fun b e => postTo [n] .dynCap (.dynCap true e) b) b

/-- The range a tag already has (R94, R504). -/
def Blk.tagRange (b : Blk) (tag : Nat) : Option (Nat × Nat × Nat) :=
  match b.host.dcTags.find? (fun t => t.tag = tag) with
  | some t => some (t.region, t.base, t.size)
  | none => none

/-- Tags that no logical device was ever assigned and that none is offered any more go, and their capacity is free again (R94). -/
def pruneTags (b : Blk) : Blk :=
  { b with host := { b.host with dcTags := b.host.dcTags.filter (fun t => t.held || !(b.extentUsers (fun e => e.base = t.base && e.tag = t.tag)).isEmpty) } }

/-- The extent at `base` is assigned to a logical device other than `n`. -/
def Blk.assignedElse (b : Blk) (n base : Nat) : Bool := b.host.lds.any (fun e => e.1 != n && e.2.extents.any (fun x => x.base = base))

/-- INITIATE_DYNAMIC_CAPACITY_ADD for DC region `dc` of logical device `n`, `len` bytes, with a tag (R94). Answers by FM API code:
0 accepted, 2 Invalid Input, 3 no capacity. A length of 0 or of no whole number of blocks is Invalid Input (assumption 128, DESIGN CHOICE). -/
def dcAdd (n dc len tag : Nat) (b : Blk) : Blk :=
  let reply := fun (c : Nat) (b : Blk) => send (.mbox n 0x5604 c []) b
  match (b.dcRegions n)[dc]? with
  | none => reply 2 b
  | some r =>
    if len = 0 ∨ len % frame ≠ 0 then reply 2 b
    else
      match (if tag = 0 then none else b.tagRange tag) with
      | some (rid, base, size) =>
        if rid ≠ r.id ∨ size ≠ len ∨ (r.sharing = .priv ∧ b.assignedElse n base = true) then reply 2 b
        else reply 0 (offerExtents n [⟨r.id, base, size, tag⟩] b)
      | none =>
        let f := drawFree b
        match chooseBlocks (f.2.freeBlocks r) (len / frame) f.1 with
        | none => reply 3 b
        | some [(base, size)] =>
          let b := f.2
          let b := if tag = 0 then b else { b with host := { b.host with dcTags := b.host.dcTags ++ [{ tag := tag, region := r.id, base := base, size := size }] } }
          reply 0 (offerExtents n [⟨r.id, base, size, tag⟩] b)
        | some bs =>
          if tag ≠ 0 then reply 3 b     -- a tag names one DPA range
          else reply 0 (offerExtents n (bs.map (fun x => ⟨r.id, x.1, x.2, 0⟩)) f.2)

/-- Offers of a logical device are withdrawn; their capacity returns to the free pool (R94). -/
def dropOffers (n : Nat) (gone : List Extent) (b : Blk) : Blk :=
  pruneTags (modLd n (fun l => { l with offers := l.offers.filter (fun e => !gone.contains e) }) b)

/-- An accepted extent of a PRIVATE region is no longer on offer to others (R94). -/
def Blk.withdrawPrivate (b : Blk) (n : Nat) (es : List Extent) : Blk :=
  let mine := es.filter (fun e => ((b.cht.cur.region? e.region).map (fun r => r.sharing == Sharing.priv)).getD false)
  { b with host := { b.host with lds := b.host.lds.map (fun x =>
      if x.1 = n then x else (x.1, { x.2 with offers := x.2.offers.filter (fun o => !mine.any (fun e => e.base = o.base)) })) } }

/-- Add Dynamic Capacity Response: the accepted extents become assigned, the rest of the offers are declined; extents not offered,
or more than MAX_EXTENTS, are rejected (R94, Table 4-9). -/
def dcResponse (n : Nat) (accept : List (Nat × Nat)) (b : Blk) : Nat × Blk :=
  let l := b.ld n
  let ok := accept.all (fun a => l.offers.any (fun e => e.base = a.1 && e.size = a.2))
  let yes := l.offers.filter (fun e => accept.contains (e.base, e.size))
  let new := yes.filter (fun e => !l.extents.contains e)
  if !ok || decide ((b.portCfg (n / 16)).maxExtents < l.extents.length + new.length) then
    (2, violation n 8 ((accept.headD (0, 0)).1) false true b)
  else
    let b := (modLd n (fun l => { l with extents := l.extents ++ new, offers := [] }) b).withdrawPrivate n yes
    let keep : DcTag → DcTag := fun t => if yes.any (fun e => e.tag = t.tag && e.tag != 0) then { t with held := true } else t
    (0, pruneTags { b with host := { b.host with dcTags := b.host.dcTags.map keep } })

/-- The last holder releases an extent: untagged pages become ZERO, tagged contents stay (R95). -/
def extentReleased (e : Extent) (b : Blk) : Blk :=
  if (b.extentUsers (fun x => x.base = e.base)).isEmpty && e.tag = 0 then zeroRange e.base e.size b else b

/-- Remove an extent from a logical device. -/
def dropExtent (n : Nat) (e : Extent) (b : Blk) : Blk :=
  extentReleased e (modLd n (fun l => { l with extents := l.extents.erase e }) b)

/-- Release Dynamic Capacity by the host: rejected for an extent that is not held (R95, Table 4-9). -/
def dcRelease (n base size : Nat) (b : Blk) : Nat × Blk :=
  match (b.ld n).extents.find? (fun e => e.base = base && e.size = size) with
  | some e => (0, dropExtent n e b)
  | none => (2, violation n 8 base false true b)

/-- DC_OFFER_TIMEOUT: an unanswered offer is withdrawn (R94). -/
def dcOfferTimeout (n base : Nat) (b : Blk) : Blk :=
  dropOffers n ((b.ld n).offers.filter (fun e => e.base = base)) b

/-- INITIATE_DYNAMIC_CAPACITY_RELEASE with forced removal: unmapped at once, with an event record (R95). Without the flag the same record asks the
host to release, and nothing else happens (assumption 129, DESIGN CHOICE: R95 gives the forced form alone). -/
def dcForce (n base size : Nat) (forced : Bool) (b : Blk) : Blk :=
  match (b.ld n).extents.find? (fun e => e.base = base && e.size = size) with
  | some e =>
    let b := postTo [n] .dynCap (.dynCap false e) b
    send (.mbox n 0x5605 0 []) (if forced then dropExtent n e b else b)
  | none => send (.mbox n 0x5605 2 []) b

/-! ### Global Persistent Flush (R101) -/

/-- GPF Phase 1: acknowledged at once. See assumption 64 (DEDUCED). -/
def gpfPhase1 (p : Nat) (b : Blk) : Blk := if (b.port p).cxlMem then send (.gpf p 1) b else b

/-- A Phase 2 may complete: every HOT write accepted before it is acknowledged, and no Eclipse or Dusk holds completions. -/
def Blk.gpfReady (b : Blk) (w : GpfWait) : Bool :=
  w.tags.all (fun t => !b.host.mirror.any (fun m => m.tag = t)) && !b.inDusk && !(b.halvesOf.any (fun h => (b.half h).eclipse))

/-- GPF Phase 2 arrives: it waits for the HOT writes accepted before it. -/
def gpfPhase2 (p : Nat) (b : Blk) : Blk :=
  if (b.port p).cxlMem then { b with host := { b.host with gpf := b.host.gpf ++ [⟨p, b.host.mirror.map (·.tag)⟩] } } else b

/-- GPF_PHASE2_COMPLETE: the oldest Phase 2 of the port that may complete is acknowledged. -/
def gpfComplete (p : Nat) (b : Blk) : Blk :=
  match b.host.gpf.find? (fun w => w.port = p) with
  | some w => if b.gpfReady w then send (.gpf p 2) { b with host := { b.host with gpf := b.host.gpf.erase w } } else b
  | none => b

/-- WINDOW_VIOLATION: an access that the window does not allow reads all ones or writes nothing (R112). -/
def windowViolation (n off : Nat) (read : Bool) (b : Blk) : Blk :=
  let b := violation n 10 off false true b
  if read then send (.windowData n ones64) b else b

/-! ### IDE (R104) -/

/-- IDE_KEY_PROG: keys of a stream are programmed, to be activated by K_SET_GO. -/
def ideKeyProg (p : Nat) (s : IdeStream) (b : Blk) : Blk :=
  if p < 4 then
    match s with
    | .mem => modPort p (fun x => { x with ideKeys := true }) b
    | .io => modPort p (fun x => { x with ideIoKeys := true }) b
  else b

/-- IDE_K_SET_GO: programmed keys of a stream become active; its insecure state ends, and with it the stop of CXL.mem that its failure began. -/
def ideSetGo (p : Nat) (s : IdeStream) (b : Blk) : Blk :=
  if p < 4 then
    match s with
    | .mem => if (b.port p).ideKeys then modPort p (fun x => { x with ideActive := true, ideInsecure := false, lockMem := false, ideKeys := false }) b else b
    | .io => if (b.port p).ideIoKeys then modPort p (fun x => { x with ideIo := true, ideIoInsecure := false, lockIo := false, ideIoKeys := false }) b else b
  else b

/-- IDE_K_SET_STOP: the key set stops. -/
def ideSetStop (p : Nat) (s : IdeStream) (b : Blk) : Blk :=
  if p < 4 then
    match s with
    | .mem => modPort p (fun x => { x with ideActive := false }) b
    | .io => modPort p (fun x => { x with ideIo := false }) b
  else b

/-- IDE_QUERY: the port's IDE capabilities: link stream, containment mode, no skid, no selective streams (Table 4-2). -/
def ideQuery (p : Nat) (b : Blk) : Blk := if p < 4 then send (.ideCaps p true true false false) b else b

end Sys2Proof.Machine
end

