-- ==== Sys2Proof/Machine/Mailbox.lean ====
section
/-!
DEFINITION. A logical device's CXL mailbox (R106 to R110, R202): the commands of CXL 3.1 that R109 names, the vendor opcodes of Table 4-6 with their
bytes, poison, and Scan Media.
-/
namespace Sys2Proof.Machine
open Sys2Proof

/-! ### Poison (R106, R107) -/

/-- Local line of a DPA as the poison commands reach it: a slot alias's own line, a staged page's, or the line at home; none for a page that is
not staged. -/
def Blk.lineNow (b : Blk) (dpa : Nat) : Option Nat :=
  if b.area dpa = .slot then some (b.slotLine (dpa - aliasBase))
  else match b.stagedPage dpa with
    | some f => (b.stageFind f).map (fun i => b.slotPage i * 32 + dpa % 4096 / 128)
    | none => some (b.lineOf dpa)

/-- The DPAs under which a host reaches a local line: a line of the slot carve-out by its alias, any other by its data's address. -/
def Blk.hostDpa (b : Blk) (l : Nat) : Nat :=
  match carveAt b.cht.cur.near (l * 128) with
  | some c => if c.kind = 5 then aliasBase + (l * 128 - c.base) else (b.lineInfo l).dpa
  | none => (b.lineInfo l).dpa

/-- Poisoned lines of the PENDING pages: those of the page's newest stored copy, every line of a page that has none (R198). -/
def Blk.pendingPoison (b : Blk) : List Nat :=
  b.pers.from'.flatMap (fun e =>
    if b.presence e.1 != .pending then []
    else
      let mask := match e.2 with
        | .lost => 2 ^ 32 - 1
        | .journal _ => match b.pers.gens.reverse.findSome? (fun g => SMap.find? g.units e.1) with | some u => u.poisonMask | none => 0
        | _ => ((b.homeUnit e.1).map (fun (u : FlashUnit) => u.poisonMask)).getD 0
      (bitsOf 32 mask).map (fun j => 32 * e.1 + j))

/-- Lines known poisoned in the view of `n`, as DPAs: in Halo, the merge buffer, DRAM, the drop lists, stored copies that a restore will place, and
Far units (R107). -/
def Blk.poisonList (b : Blk) (n dpa len : Nat) : List Nat :=
  let near := (b.halo.lines.filter (fun e => e.2.poison)).map (fun e => e.2.line) ++
    (b.halo.mb.filter (fun e => e.2.poison)).map (·.1) ++ (b.dram.lines.filter (fun e => e.2.poison)).map (·.1) ++
    b.dram.chans.flatMap (fun c => c.2.drops) ++ b.pendingPoison
  let ds := near.map (fun l => b.hostDpa l / 128 * 128) ++
    b.nvf.farMap.flatMap (fun e => if !b.homed (b.farInfo e.1).2 && !b.serves (b.farInfo e.1).2 then [] else (bitsOf 32 ((b.farUnit e.1).map (fun (u : FlashUnit) => u.poisonMask) |>.getD 0)).map (fun j => (b.farInfo e.1).2 + 128 * j))
  (ds.eraseDups).filter (fun a => decide (dpa ≤ a) && decide (a < dpa + len) && b.reach n a == .ok)

/-- The line is not in memory yet, so a poison command on it waits: a PENDING or REMOTE page, a Far page whose fill has not landed, or a page of a
Transit slot still to land (R198, R240, R252). -/
def Blk.poisonWaits (b : Blk) (dpa : Nat) : Bool :=
  if b.area dpa = .slot then
    match b.slotAt (dpa - aliasBase) with
    | some (w, s, off) =>
      let x := b.trnSlot w.window s
      (x.state == .filling || x.state == .urgent) && x.todo.contains (off / 4096)
    | none => false
  else match b.stagedPage dpa with
    | some f => match b.stageFind f with | some i => (b.dirEntry i).state == .filling | none => true
    | none => let p := b.presence (b.lineOf dpa / 32); p == .pending || p == .remote

/-- Mark or clear the poison of a line where it is held; clean contents are those given for one half and the line's own for the other (R106, R107). On
a frozen channel the change is dropped with its line, which reads poisoned (R161). -/
def setPoison (dpa : Nat) (data : Option Half) (b : Blk) : Blk :=
  match b.lineNow dpa with
  | none => b
  | some l =>
    let cur := b.currentLine l
    let d := match data with | some h => withHalf cur.1 (halfIx dpa) h | none => cur.1
    let b := { b with halo := { b.halo with mb := SMap.erase b.halo.mb l } }
    let b := match (b.stagedPage dpa).bind (fun f => b.stageFind f) with
      | some i => stageWritten i b
      | none => b
    match b.haloFind l with
    | some (k, h) => markDirty (l / 32) b.epoch (haloPut k { h with data := d, poison := data.isNone, dirty := true, fixing := none, stamp := b.epoch } b)
    | none => if b.frozenLine l then dropWrite l b.epoch b else markDirty (l / 32) b.epoch (writeLine l d data.isNone b.epoch b)

/-- End of the highest non-DYNAMIC region in the view of `n` (R92). -/
def Blk.persistentSpan (b : Blk) (n : Nat) : Nat :=
  (b.cht.cur.regions.filter (fun r => !r.dynamic && b.maskHas r n)).foldl (fun m r => Nat.max m (r.base + r.size)) 0

/-! ### Output bytes -/

/-- One row of GET_REGION_MAP: 32 bytes (Table 4-6). -/
def regionRow (r : Region) : List Byte :=
  natLe 2 r.id ++ natLe 1 (if r.far then 1 else 0) ++ natLe 1 (if r.light then 1 else 0) ++ natLe 1 (match r.mirror with | .none => 0 | .cold => 1 | .hot => 2) ++
  natLe 1 (match r.sharing with | .priv => 0 | .shared => 1 | .sharedDb => 2) ++ natLe 1 ((if r.fastRestore then 1 else 0) + (if r.dynamic then 2 else 0)) ++ natLe 1 0 ++
  natLe 8 r.base ++ natLe 8 r.size ++ natLe 8 0

/-- The refill of R181 in bytes per window. -/
def Blk.refill (b : Blk) : Nat :=
  let c := b.cht.cur
  let pages := nearTracked c.near c.regions b.cht.mode b.cht.isB / 4096
  let pe := if c.pers.peRated = 0 then (b.nvf.dies.foldl (fun m e => if e.2.state == .member && (m = 0 || e.2.peRated < m) then e.2.peRated else m) 0) else c.pers.peRated
  let w := c.pers.lifeDays * 86400 * 10 ^ 9 / Nat.max (c.pers.govEpochs * b.mer.body.l * b.mer.body.tickNs) 1
  pages * 4096 * pe * c.pers.enduranceShare / 1024 / Nat.max w 1

/-- Is any generation live (PER_STATUS.FOLDING)? -/
def Blk.folding (b : Blk) : Bool := !b.pers.live.isEmpty

/-- GET_PERSISTENCE_STATUS: 64 bytes (Table 7-10). -/
def Blk.persistenceBytes (b : Blk) : List Byte :=
  natLe 8 b.dirtyBytes ++ natLe 8 b.ceiling ++ natLe 8 b.ceilE ++ natLe 8 b.ceilJ ++ natLe 8 (signedBits 64 b.pers.credit) ++ natLe 8 b.refill ++
  natLe 1 b.gov.code ++ natLe 1 ((if b.pers.holdupLow then 1 else 0) + (if b.throttling then 2 else 0) + (if b.folding then 4 else 0)) ++ natLe 6 0 ++
  natLe 8 b.pers.rSave

/-- GET_RESTORE_STATUS: four 8-byte numbers in Table 4-6's order; the restore rate is a matter of timing, a free value. See assumption 132 (DEDUCED). -/
def Blk.restoreBytes (b : Blk) : List Byte := [b.pendingCount, b.pers.restored, b.pers.d7Count, Config.freeNat b.free].flatMap (natLe 8)

/-- GET_EPOCH_HISTORY: six 8-byte numbers in Table 4-6's order, then 16 reserved bytes. See assumption 132 (DEDUCED). -/
def Blk.historyBytes (b : Blk) : List Byte :=
  [b.sealedNo, b.cleanFrom, b.twin.takeover.getD ones64.toNat, b.twin.lostFirst.getD ones64.toNat, b.twin.lostLast.getD ones64.toNat,
    b.mer.runsSinceDawn].flatMap (natLe 8) ++ natLe 16 0

/-- GET_TOPOLOGY_STATUS: MODE, UNIT, the Lodestar and the Eclipse count as 4-byte numbers, the two counts as 8-byte ones. See assumption 132 (DEDUCED). -/
def Blk.topologyBytes (b : Blk) (n : Nat) : List Byte :=
  [b.cht.mode.code, if b.cht.isB then 1 else 0, if (b.viewHalves n).all (fun h => (b.half h).role == .holder) then 1 else 0, b.twin.eclipses].flatMap (natLe 4) ++
  [b.twin.eclipseStart, b.twin.eclipseEnd].flatMap (natLe 8)

/-- GET_CHART_IDENTITY: 80 bytes (Table 4-6); in Twilight of the Chart in the active slot, zeros without one. -/
def Blk.chartBytes (b : Blk) : List Byte :=
  if b.pwr.stage = .twilight && !SMap.has b.cht.slots b.cht.slotRec.active then natLe 80 0
  else natLe 4 b.cht.cur.serial ++ natLe 4 0 ++ natLe 8 b.cht.cur.tag ++ bitsBytes 64 b.cht.cur.digest

/-- Opcodes that the mailbox supports (R109, R110): what the command effects log lists. -/
def mboxOpcodes : List Nat :=
  [0x0100, 0x0101, 0x0102, 0x0103, 0x0300, 0x0301, 0x0400, 0x0401, 0x4000, 0x4200, 0x4201, 0x4202, 0x4203, 0x4204, 0x4300, 0x4301, 0x4302, 0x4303,
   0x4304, 0x4305, 0x4800, 0x4801, 0x4802, 0x4803, 0x5500, 0xC000, 0xC001, 0xC002, 0xC003, 0xC004, 0xC005]

/-! ### Commands -/

/-- A command of CXL 3.1 in the sets of R109 that the table of commands gives no row of its own. Bodies that CXL 3.1 lays out stand as their fields'
numbers. See assumption 131 (PRESUMED). -/
def runStandard (n op : Nat) (input : List Byte) (b : Blk) : Blk :=
  let reply := fun (code : Nat) (body : List Nat) (b : Blk) => send (.mbox n op code body) b
  let l := b.ld n
  let none' := fun (body : List Nat) => if input.isEmpty then reply 0 body b else reply 2 [] b
  match op with
  | 0x0102 => none' ((List.range 5).map (fun k => l.evPolicy.getD k 0))
  | 0x0103 => if input.length = 5 then reply 0 [] (modLd n (fun l => { l with evPolicy := input.map (·.toNat) }) b) else reply 2 [] b
  | 0x0300 => none' [wrap64 (l.timestamp + 10 * (b.cyc - l.timestampAt))]
  | 0x4201 => none' (l.alerts.map (·.toNat))
  | 0x4202 => if input.length = 12 then reply 0 [] (modLd n (fun l => { l with alerts := input }) b) else reply 2 [] b
  | 0x4203 => none' [l.shutdown]
  | 0x4204 => if input.length = 1 then reply 0 [] (modLd n (fun l => { l with shutdown := leNat input }) b) else reply 2 [] b
  | 0x4303 => if input.length = 16 then let f := drawFree b; reply 0 [f.1 % 2 ^ 32] f.2 else reply 2 [] b
  | 0x4305 => none' l.scanFound
  | 0x4800 =>
    if input.length = 2 then
      let rs := (b.dcRegions n).drop ((input.getD 1 0).toNat)
      reply 0 ((b.dcRegions n).length :: (rs.take ((input.getD 0 0).toNat)).flatMap (fun r => [r.base, r.size, frame])) b
    else reply 2 [] b
  | 0x4801 =>
    if input.length = 8 then
      let es := l.extents.drop (leNat (input.drop 4))
      reply 0 (l.extents.length :: (es.take (leNat (input.take 4))).flatMap (fun e => [e.base, e.size, e.tag])) b
    else reply 2 [] b
  | _ => reply 1 [] b

/-- What Twilight's mailbox answers: a zero-capacity device (R89, R395). -/
def MboxCmd.inTwilight : MboxCmd → Bool
  | .identify => true | .health => true | .getEvents _ => true | .clearEvents _ _ => true | .supportedLogs => true | .getLog _ => true
  | .chartIdentity _ => true | _ => false

/-- Run one mailbox command: its return code and output (R109, R110). A maximum count above 1,000 is Invalid Input (assumption 127, DESIGN CHOICE:
Table 4-6 gives the limit alone). -/
def runMbox (n : Nat) (c : MboxCmd) (b : Blk) : Blk :=
  let reply := fun (code : Nat) (body : List Nat) (b : Blk) => send (.mbox n c.opcode code body) b
  let bytes := fun (code : Nat) (body : List Byte) => send (.mboxBytes n c.opcode code body) b
  let fixed := fun (len : Nat) (body : List Byte) => if len = 0 then bytes 0 body else bytes 2 []
  let tw : Bool := b.pwr.stage = .twilight
  if tw && !c.inTwilight then reply 1 [] b
  else match c with
  | .identify => reply 0 (if tw then [0, 0] else [0, b.persistentSpan n]) b
  | .health => reply 0 [b.host.dirtyShutdowns] b
  | .getEvents k =>
    let l := SMap.get EvLog.empty (b.ld n).logs k.code
    send (.events n k l.recs l.overflow) b
  | .clearEvents k cnt =>
    let b := modLd n (fun l => { l with logs := SMap.upd EvLog.empty l.logs k.code (fun g => { recs := g.recs.drop cnt, overflow := if g.recs.length ≤ cnt then 0 else g.overflow }) }) b
    reply 0 [] b
  | .supportedLogs => reply 0 [1, 4 * mboxOpcodes.length] b
  | .getLog id => if id = 0 then reply 0 (mboxOpcodes.flatMap (fun o => [o, Config.celEffect o % 65536])) b else reply 2 [] b
  | .chartIdentity len => fixed len b.chartBytes
  | .setTimestamp t => reply 0 [] (modLd n (fun l => { l with timestamp := t, timestampAt := b.cyc }) b)
  | .multiHeaded => reply 0 [4, n / 16] b
  | .getPoison dpa len =>
    let l := b.poisonList n dpa len
    reply 0 ((if 4096 < l.length then 1 else 0) :: l.take 4096) b
  | .injectPoison dpa =>
    if b.ident.lc = .sealedState && !b.mgt.permit.injectPoison then reply 1 [] b
    else if b.reach n dpa == .ok then reply 0 [] (setPoison (dpa / 128 * 128) none b)
    else reply 2 [] b
  | .clearPoison dpa d => if b.reach n dpa == .ok then reply 0 [] (setPoison (dpa / 64 * 64) (some d) b) else reply 2 [] b
  | .scanMedia dpa len =>
    if b.inView n dpa len then reply 0 [] (modLd n (fun l => { l with scan := some (dpa, len), scanFound := [] }) b) else reply 2 [] b
  | .addDcResponse a => let r := dcResponse n a b; reply r.1 [] r.2
  | .releaseDc base size => let r := dcRelease n base size b; reply r.1 [] r.2
  | .regionMap start mx len =>
    let rs := b.cht.cur.regions.filter (fun r => b.maskHas r n)
    if len ≠ 4 ∨ 1000 < mx ∨ rs.length < start then bytes 2 []
    else let out := (rs.drop start).take mx; bytes 0 (natLe 4 out.length ++ natLe 4 rs.length ++ out.flatMap regionRow)
  | .persistence len => fixed len b.persistenceBytes
  | .restore len => if len = 0 then send (.mboxBytes n c.opcode 0 b.restoreBytes) { b with free := b.free + 1 } else bytes 2 []
  | .epochHistory len => fixed len b.historyBytes
  | .topology len => fixed len (b.topologyBytes n)
  | .other op input => if 32768 < input.length then reply 2 [] b else runStandard n op input b

/-- A mailbox command waits: the cores restart (R25), an Eclipse holds the mailbox (R110), or a Dusk does. -/
def Blk.mboxWaits (b : Blk) : Bool := b.fwWaits || b.inDusk || b.halvesOf.any (fun h => (b.half h).eclipse && (b.half h).role == .eclipse)

/-- The DPA of a poison command that would act on its line. -/
def Blk.poisonTarget (b : Blk) (n : Nat) (c : MboxCmd) : Option Nat :=
  match c with
  | .injectPoison dpa => if (b.ident.lc = .sealedState && !b.mgt.permit.injectPoison) || b.reach n dpa != .ok then none else some dpa
  | .clearPoison dpa _ => if b.reach n dpa == .ok then some dpa else none
  | _ => none

/-- Must a mailbox command wait now: with the whole mailbox, or for the line it poisons or clears (R198, R240, R252)? -/
def Blk.mboxHeld (b : Blk) (n : Nat) (c : MboxCmd) : Bool :=
  b.mboxWaits || (match b.poisonTarget n c with | some a => b.poisonWaits a | none => false)

/-- A Far page that a waiting poison command needs is staged as for an access (R240). -/
def touchFor (phys : Phys) (n : Nat) (c : MboxCmd) (b : Blk) : Blk :=
  match (b.poisonTarget n c).bind b.stagedPage with
  | some f => if (b.stageFind f).isSome || b.mboxWaits then b else (stageAccess phys f b).2
  | none => b

/-- A mailbox command of logical device `n`: ignored while its doorbell is set (R114); kept until it may run (R25, R110). -/
def mailbox (phys : Phys) (n : Nat) (c : MboxCmd) (b : Blk) : Blk :=
  if !(b.port (n / 16)).present.testBit (n % 16) || (b.port (n / 16)).inReset || (b.ld n).resetting then b
  else if (b.ld n).doorbell then violation n 9 0 false true b
  else
    let b := touchFor phys n c b
    if b.mboxHeld n c then modLd n (fun l => { l with doorbell := true }) { b with fw := { b.fw with deferred := b.fw.deferred ++ [.mbox n c] } }
    else runMbox n c b

/-- MAILBOX_WRITE_BUSY: a write while the doorbell is set is ignored as a violation (Table 4-9). -/
def mailboxWriteBusy (n : Nat) (b : Blk) : Blk := if (b.ld n).doorbell then violation n 9 0 false true b else b

/-- SCAN_MEDIA_DONE: the scan's poisoned lines are known (R107). -/
def scanMediaDone (n : Nat) (b : Blk) : Blk :=
  match (b.ld n).scan with
  | some (dpa, len) => modLd n (fun l => { l with scan := none, scanFound := b.poisonList n dpa len }) b
  | none => b

/-! ### Configuration space (R84, R88, R89, R101, R111) -/

/-- Device Serial Number of every logical device: this unit's identifier in Solo, UNIT_A's in a pair (R89). -/
def Blk.serialNumber (b : Blk) : Nat := leNat ((if b.cht.mode = .solo then b.ident.unitId else b.cht.cur.topo.unitA).take 8)

/-- What a logical device's configuration space shows of what this manual gives: the Device Serial Number; BAR0's address, its 64-bit form, that it is not
prefetchable, and its size; the power state; and the GPF DVSEC's Phase 2 duration of 100 µs (R84, R89, R101, R111). -/
structure LdCfgView where
  serial : Nat
  bar0 : Nat
  bar64 : Bool := true
  prefetchable : Bool := false
  barBytes : Nat := 64 * mib
  d3hot : Bool
  gpfPhase2Us : Nat := 100
  deriving DecidableEq, Repr

def Blk.ldCfgView (b : Blk) (n : Nat) : LdCfgView := { serial := b.serialNumber, bar0 := (b.ld n).cfg.bar0, d3hot := (b.ld n).cfg.d3hot }

end Sys2Proof.Machine
end

