-- ==== Sys2Proof/Machine/Halo.lean ====
section
/-!
DEFINITION. Effects of the Halo commands of chapter 5: timers of the streaming table and the merge buffer, held halves and fills, and
the end of the steps of a fatal parity error.
-/
namespace Sys2Proof.Machine
open Sys2Proof

/-- STREAM_IDLE_EXPIRE: 2 MiB region `g` leaves streaming state in a hemisphere's table (R126). -/
def streamIdleExpire (h g : Nat) (b : Blk) : Blk :=
  let d := b.detector h
  { b with halo := { b.halo with det := SMap.put {} b.halo.det h { d with streams := d.streams.filter (· != g) } } }

/-- MERGE_WINDOW_EXPIRE: the entry of local line `l` closes (R123); a resident line's merge window ends (R106). -/
def mergeWindowExpire (phys : Phys) (l : Nat) (b : Blk) : Blk :=
  let b := closeEntry phys l (lookupFault phys l b)
  match b.haloFind l with
  | some (k, h) => if h.fixing.isSome then haloPut k { h with fixing := none } b else b
  | none => b

/-- A half held for a merge-buffer entry of a hemisphere that has one free. -/
def Blk.entryFree (b : Blk) (x : HeldReq) : Bool := match x.why with | .mergeFull h => b.mbFree h | _ => false

/-- HELD_HALF_ACCEPT: the oldest half held for an entry of a hemisphere that has one free is accepted (R122). -/
def heldHalfAccept (phys : Phys) (b : Blk) : Blk :=
  match b.host.held.find? b.entryFree with
  | some o =>
    let pass : HeldReq → HeldReq := fun x => if x == o then { x with req := { x.req with turn := true } } else x
    retry phys (fun x => x.why == o.why && x.req.dpa / 128 == o.req.dpa / 128) { b with host := { b.host with held := b.host.held.map pass } }
  | none => b

/-- FILL_VICTIM_ACCEPTED: the write queue takes the victim and the oldest waiting fill proceeds, a held read or a closed merge-buffer entry (R127). -/
def fillVictimAccepted (phys : Phys) (b : Blk) : Blk :=
  let phys := { phys with queueFull := false }
  let rest : List (Nat × Nat) → List (Nat × Nat) := fun ws => ws.map (fun x => (x.1, x.2 - 1))
  match b.halo.waitClose with
  | (l, 0) :: ws => closeEntry phys l { b with halo := { b.halo with waitClose := ws } }
  | ws => retryOldest phys .victim { b with halo := { b.halo with waitClose := rest ws } }

/-- Answer STATUS for a half with a code; EPOCH is S of the deltas held for it (Table 10-5). -/
def sendStatus (h code : Nat) (b : Blk) : Blk :=
  sendArb .status h code (b.twin.coldHeld.getD ones64.toNat) { b with twin := { b.twin with statusSent := some code } }

/-- FATAL_FLUSH_DONE: steps 5 to 8 of R132. -/
def fatalFlushDone (phys : Phys) (b : Blk) : Blk :=
  if !b.halo.holding then b
  else
    let pair := b.paired
    let b := flushMet phys true b
    let b := b.halo.fatalLogs.foldl (fun b e => logRecord (0x400 + e.1) { kind := .fault, loc := e.2 } b) b
    let b := { b with halo := { b.halo with fatal := true, holding := false, fatalPins := [], fatalLogs := [] } }
    let b :=
      if pair && !b.inDusk then
        let b := releaseAll 2 { b with twin := { b.twin with faulted := true } }
        b.halvesOf.foldl (fun b h => sendStatus h 5 b) b
      else b
    retryWhy phys .fatal b

end Sys2Proof.Machine
end

