-- ==== Sys2Proof/Machine/Dram.lean ====
section
/-!
DEFINITION. Effects of the DRAM commands of chapter 6: the refresh beat, the hub polls, channel freezes from command/address parity,
the DRM_CH_CMD operations, and the completions of REMOTE copies and ZERO fills.
-/
namespace Sys2Proof.Machine
open Sys2Proof

/-- REFRESH_BEAT: every rank of every channel refreshes; the interval chosen by the last polls takes effect (R154 to R156). Of
R157 only timing shows: no state of the model changes. -/
def refreshBeat (b : Blk) : Blk := { b with dram := { b.dram with hotInterval := b.dram.hotNext } }

/-- Channels with a DIMM, in order. -/
def Blk.populated (b : Blk) : List Nat := (b.dram.chans.filter (fun e => decide (0 < e.2.dimms))).map (·.1)

/-- A DIMM's reading by number 2c + d. -/
def Blk.dimm (b : Blk) (n : Nat) : DimmTemp := SMap.get DimmTemp.fresh b.therm.dimms n

/-- One hub's answer at a poll, in 1/16 °C; none where the read failed (R155, R406). See assumption 26 (DEDUCED). -/
def hubRead (n : Nat) (r : Option Int) (b : Blk) : Blk :=
  let c := n / 2
  let fails := match r with | some _ => 0 | none => SMap.get 0 (b.chan c).hubFails (n % 2) + 1
  let failed := decide (2 ≤ fails)
  let b := modChan c (fun x => { x with hubFails := SMap.put 0 x.hubFails (n % 2) fails }) b
  let b := if failed then setErr (.drm c) 6 b else b
  let b := match r with | some t => feedMetric 5 n t b | none => b
  let limit : Int := b.cht.cur.thermal.dimmThrottleC * 16
  let old := b.dimm n
  let thr : Bool := match r with
    | some t => decide (limit < t) || (old.throttling && decide (limit - 48 < t))
    | none => failed || old.throttling
  let new : DimmTemp := { reading := if failed then none else match r with | some t => some t | none => old.reading, failed := failed, throttling := thr }
  let b := if thr && !old.throttling then setErr .thm 5 b else b
  let peak := match r, b.therm.peakDimm with
    | some t, some p => some (Max.max t p)
    | some t, none => some t
    | none, p => p
  { b with therm := { b.therm with dimms := SMap.put DimmTemp.fresh b.therm.dimms n new, peakDimm := peak } }

/-- SPD_TEMP_POLL: every hub's answer (R155, R406). A DIMM without an entry answered nothing. -/
def spdTempPoll (reads : SMap Int) (b : Blk) : Blk :=
  let ns := b.populated.flatMap (fun c => (List.range (b.chan c).dimms).map (fun d => 2 * c + d))
  let b := ns.foldl (fun b n => hubRead n (SMap.find? reads n) b) b
  let hotDimm := fun (n : Nat) => (b.dimm n).failed || (match SMap.find? reads n with | some t => decide (1360 < t) | none => false)
  let cool := ns.all (fun n => match SMap.find? reads n with | some t => decide (t ≤ 1328) | none => false)
  let polls := if cool then b.dram.coolPolls + 1 else 0
  let next := if ns.any hotDimm then true else if 4 ≤ polls then false else b.dram.hotNext
  let b := b.populated.foldl (fun b c => modChan c (fun x => { x with hot := (List.range x.dimms).any (fun d => hotDimm (2 * c + d)) }) b) b
  { b with dram := { b.dram with coolPolls := polls, hotNext := next } }

/-- READ_AGE_LIMIT: a read that has waited 600 ns goes ahead of younger commands (R158). The model serves a request in the step that
brings it, so its order against younger ones is already kept; nothing changes. -/
def readAgeLimit (b : Blk) : Blk := b

/-- CA_PARITY_ALERT: the window replays; after two replays the channel freezes (R159). `replays` counts the replays that have
failed; the failing command's type and address are what the engine saw. -/
def caParityAlert (c replays cmd : Nat) (loc : W64) (addr : Nat) (b : Blk) : Blk :=
  if (b.chan c).state != .ready then b
  else if replays < 2 then setErr (.drm c) 2 b
  else freezeChan c true { cause := 2, source := 0, media := loc, addr := addr, cmd := cmd } none loc b

/-- DRM_CH_CMD is refused: CMD_ERR, nothing else (R171, Table 6-13). -/
def drmRefuse (c : Nat) (b : Blk) : Blk := setErr (.drm c) 8 b

/-- DRM_CH_CMD operations are refused from the Dusk trigger until the rails are down or service resumes. -/
def Blk.drmTakes (b : Blk) (c : Nat) : Bool := !b.inDusk && decide (c < 16)

/-- A DIMM and rank of a channel are present. -/
def Chan.hasRank (x : Chan) (dimm rank : Nat) : Bool := decide (dimm < x.dimms) && decide (rank < x.ranks)

/-- MARK (R152). See assumption 25 (DEDUCED). -/
def drmMark (c dimm rank pos : Nat) (b : Blk) : Blk :=
  let x := b.chan c
  let here := x.marks.filter (fun m => m.1 = dimm && m.2.1 = rank)
  if !b.drmTakes c || !x.hasRank dimm rank || decide (19 < pos) || !(x.state == .ready || x.state == .frozen) then drmRefuse c b
  else if x.marks.contains (dimm, rank, pos) then b
  else if 2 ≤ here.length then drmRefuse c b
  else setErr (.drm c) 7 (setMarks c (x.marks ++ [(dimm, rank, pos)]) b)

/-- UNMARK (R152). -/
def drmUnmark (c dimm rank pos : Nat) (b : Blk) : Blk :=
  let x := b.chan c
  if !b.drmTakes c || !x.hasRank dimm rank || decide (19 < pos) || !(x.state == .ready || x.state == .frozen) then drmRefuse c b
  else if !x.marks.contains (dimm, rank, pos) then b
  else setMarks c (x.marks.filter (· != (dimm, rank, pos))) b

/-- Rows of a device by DENSITY: 16 Gbit holds 2^16 rows of 1,024 columns in 32 banks; 24 Gbit three quarters of 2^17; 32 Gbit 2^17
(DDR5). PRESUMED: the capacities of R136 give no row count of their own. See assumption 24 (PRESUMED). -/
def rowsOf (density : Nat) : Nat := if density = 0 then 2 ^ 16 else if density = 1 then 3 * 2 ^ 15 else 2 ^ 17

/-- The local line at a geometry of a channel, when an interleave set maps it. -/
def Blk.lineAtGeo (b : Blk) (c : Nat) (g : Geo) : Option Nat :=
  let x := b.chan c
  let r := (g.row * x.dimms + g.dimm) * x.ranks + g.rank
  let cofs := ((r <<< 12) + (g.bank <<< 10) + (g.bg <<< 7) + g.col / 16) <<< 7
  b.lineAtCofs c cofs

/-- DIAG_READ: the raw burst that DRM_CH_DIAG_LOC names (R162). A burst that no interleave set maps holds what nothing has written: a
free value. -/
def drmDiagRead (c : Nat) (phys : Phys) (b : Blk) : Blk :=
  let x := b.chan c
  let w := x.diagLoc
  let g : Geo := { dimm := fieldOf w 58 58, rank := fieldOf w 57 56, bg := fieldOf w 50 48, bank := fieldOf w 47 46, row := fieldOf w 45 28,
                   col := fieldOf w 27 17 }
  if !b.drmTakes c || x.state != .frozen || fieldOf w 63 59 != c || !x.hasRank g.dimm g.rank || decide (rowsOf x.density ≤ g.row) || g.col % 16 != 0
  then drmRefuse c b
  else match b.lineAtGeo c g with
    | some l => modChan c (fun x => { x with cap := { x.cap with raw := rawBurst (b.mediaLine l) (b.lineInfo l).dpa (phys.burst l) } }) b
    | none =>
      let raw := (List.range 20).map (fun i => BitVec.ofNat 64 (Config.freeNat (b.free + i)))
      modChan c (fun x => { x with cap := { x.cap with raw := raw } }) { b with free := b.free + 20 }

/-- A line rewritten in the poisoned form of R148 under its region's key and code. -/
def poisonLine (l : Nat) (b : Blk) : Blk := putLine l (b.lineFor l (b.peekLine l).1 true (b.dramLine l).stamp) b

/-- A HOT sync runs that would rewrite lines of the channel (R453). -/
def Blk.syncTouches (b : Blk) (c : Nat) : Bool :=
  b.twin.syncing && ((b.twin.syncTodo.any (fun r => (List.range r.2).any (fun i => (List.range 32).any (fun j => b.chanNo (32 * (r.1 + i) + j) == c)))) || b.twin.stale)

/-- The failing line of a data freeze is rewritten: from the twin in a HOT region where it can answer, else poisoned (R162 step 1).
`twin` is the twin's copy of the line. -/
def rewriteFailing (l : Nat) (twin : Option Line) (b : Blk) : Blk :=
  match twin with
  | some d => if b.lineHot l && b.twinAnswers then writeLine l d false b.epoch b else poisonLine l b
  | none => poisonLine l b

/-- THAW runs (R162, R453): the failing line, the dropped lines, then the writes that stayed queued, with service; REMOTE pages are copied back after it. -/
def thawNow (c : Nat) (twin : Option Line) (b : Blk) : Blk :=
  let x := b.chan c
  if !b.drmTakes c || x.state != .frozen || b.syncTouches c || decide (65536 ≤ x.drops.length) then drmRefuse c b
  else
    let fail := x.failLine; let queued := x.queued; let drops := x.drops
    let b := dropSummary c b
    let b := modChan c (fun x => { x with state := .ready, queued := [], drops := [], redone := [], failLine := none, failCa := false }) b
    let b := match fail with | some l => rewriteFailing l twin b | none => b
    let b := drops.foldl (fun b l => poisonLine l b) b
    queued.foldl (fun b e => putLine e.1 e.2 b) b

/-- THAW: waits for a restart's end (R25). -/
def drmThaw (c : Nat) (twin : Option Line) (b : Blk) : Blk :=
  if b.fwWaits then { b with fw := { b.fw with deferred := b.fw.deferred ++ [.thaw c twin] } } else thawNow c twin b

/-- REMOTE_PAGE_COPY_DONE: a REMOTE page's copy lands, it becomes RESIDENT and held touches go on (R162 step 4). -/
def remotePageCopyDone (phys : Phys) (p : Nat) (lines : SMap (Line × Bool)) (b : Blk) : Blk :=
  if b.presence p != .remote || (List.range 32).any (fun j => b.frozenLine (32 * p + j)) then b
  else
    let b := setPresence p .resident b
    let b := (List.range 32).foldl (fun b j =>
      if (b.haloFind (32 * p + j)).isSome then b
      else let m := SMap.get (0, false) lines j; writeLine (32 * p + j) m.1 m.2 (b.stampOf p) b) b
    retry phys (fun h => match h.why with | .remote x => x / 64 == p | _ => false) b

/-- A page has been written: some line of it stands in Halo, in the merge buffer or in DRAM, or its dirty bit is set. -/
def Blk.touchedPage (b : Blk) (p : Nat) : Bool :=
  b.isDirty p || (List.range 32).any (fun j => let l := 32 * p + j; (b.haloFind l).isSome || SMap.has b.halo.mb l || SMap.has b.dram.lines l)

/-- ZERO_FILL_DONE: a ZERO page that was written has filled lines in its other lines and becomes RESIDENT (R166). -/
def zeroFillDone (p : Nat) (b : Blk) : Blk :=
  if b.presence p == .zero && b.touchedPage p then setPresence p .resident (fillLines p (fun j => !SMap.has b.dram.lines (32 * p + j)) b) else b

end Sys2Proof.Machine
end

