-- ==== Sys2Proof/Machine/FlashForm.lean ====
section
/-!
DEFINITION. Byte forms of what flash holds (R190 to R194, R210, R212, R213, R216), all little-endian (R5).
-/
namespace Sys2Proof.Machine
open Sys2Proof

/-- A byte string cut or filled with zeros to a length. -/
def padTo (n : Nat) (l : List Byte) : List Byte := (l ++ List.replicate (n - l.length) 0).take n

/-- A GMAC tag of 16 bytes under the media key: nonce `n` of 4 bytes followed by SEQ (R192 to R194). -/
def Blk.gmac (b : Blk) (n seq : Nat) (aad : List Byte) : List Byte :=
  natLe 16 (Config.gcmTag (b.mediaKey seq) (leNat (natLe 4 n ++ natLe 8 seq)) aad [])

/-- A structure followed by its GMAC tag. -/
def Blk.sealed (b : Blk) (n seq : Nat) (body : List Byte) : List Byte := body ++ b.gmac n seq body

/-! ### Units (R191, R212) -/

/-- DPA whose tweak encrypts a unit's first line (R335). -/
def Blk.unitDpa (b : Blk) (u : FlashUnit) : Nat := if u.kind = .far then (b.farInfo u.page).2 else (b.lineInfo (32 * u.page)).dpa

/-- The 4 KiB of a unit exactly as DRAM holds them. -/
def Blk.unitPlain (b : Blk) (u : FlashUnit) : List Byte :=
  if u.kind = .pad then List.replicate 4096 0
  else (List.range 32).flatMap (fun j => bitsBytes 128 ((SMap.get DramLine.zero u.lines j).stored (b.unitDpa u + 128 * j)))

/-- Trailer bytes 0x00 to 0x1F (Table 7-4, R212): a mirror unit in Binary carries the sender's local number and FLAGS bit [3], MIRROR (R275). See assumption 141 (DEDUCED). -/
def Blk.trailer (b : Blk) (u : FlashUnit) : List Byte :=
  let far := decide (u.kind = .far) && decide (u.page < 2 ^ 35)
  let mirror := decide (u.kind = .far) && (!far || !b.homed (b.farDpa u.page))
  let page := if !mirror then u.page else if far then localOff (u.page * 4096) / 4096 else u.page - 2 ^ 35
  natLe 4 page ++ natLe 2 u.region ++ natLe 2 u.keySlot ++
  natLe 1 ((if u.light then 1 else 0) + (if u.kind = .journal then 2 else 0) + (if far then 4 else 0) + (if mirror then 8 else 0)) ++
  natLe 1 (if far then page / 2 ^ 32 % 16 else 0) ++ natLe 2 0 ++ natLe 4 u.poisonMask ++ natLe 8 u.stamp ++ natLe 8 u.seq

/-- A 4 KiB unit's ciphertext and 48-byte trailer (R191): the nonce is PAGE followed by SEQ. -/
def Blk.seal48 (b : Blk) (seq : Nat) (trailer plain : List Byte) : List Byte × List Byte :=
  let iv := leNat (trailer.take 4 ++ natLe 8 seq)
  let ct := Config.gcmCrypt (b.mediaKey seq) iv plain
  (ct, trailer ++ natLe 16 (Config.gcmTag (b.mediaKey seq) iv trailer ct))

def Blk.unitForm (b : Blk) (u : FlashUnit) : List Byte × List Byte := b.seal48 u.seq (b.trailer u) (b.unitPlain u)

/-- Unit i of a dirty map image: bit n is page 32,768 * i + n (R190, Table 7-4). -/
def Blk.mapUnit (b : Blk) (g : SaveGen) (i : Nat) : List Byte × List Byte :=
  let ps := (g.mapImage.filter (fun p => p / 32768 == i)).map (fun p => p % 32768)
  let plain := (List.range 4096).map (fun k => BitVec.ofNat 8 (ps.foldl (fun a p => if p / 8 = k then a ||| 1 <<< (p % 8) else a) 0))
  b.seal48 (g.mapSeq + i) (natLe 4 i ++ natLe 2 0xFFFE ++ natLe 2 0xFFFF ++ natLe 1 2 ++ natLe 3 0 ++ natLe 4 0 ++ natLe 8 0 ++ natLe 8 (g.mapSeq + i)) plain

/-! ### The save (R192, R193) -/

/-- Bytes of a record as stored (Table 16-4, R420). -/
def LogRec.bytes (r : LogRec) : List Byte :=
  match r.sealPart with
  | some (p, sig) => natLe 8 r.seq ++ natLe 2 r.type ++ natLe 1 p ++ [0] ++ (sig ++ List.replicate 48 0).take 48 ++ natLe 4 0x4B4F4F42
  | none =>
    natLe 8 r.seq ++ natLe 2 r.type ++ natLe 1 r.pin ++ natLe 1 r.locKind.code ++ natLe 4 r.hours ++ natLe 4 r.cycles ++ natLe 4 r.localMs ++
    natLe 8 r.meridian ++ bitsBytes 8 r.location ++ (r.detail ++ List.replicate 20 0).take 20 ++ natLe 4 0x4B4F4F42

/-- A Chart region entry (R45) and the REGIONS body. -/
def Region.bytes (r : Region) : List Byte :=
  natLe 2 r.id ++ natLe 1 (if r.far then 1 else 0) ++ natLe 1 (if r.light then 1 else 0) ++
  natLe 1 (match r.mirror with | .none => 0 | .cold => 1 | .hot => 2) ++ natLe 1 (match r.sharing with | .priv => 0 | .shared => 1 | .sharedDb => 2) ++
  natLe 2 r.keySlot ++ natLe 8 r.base ++ natLe 8 r.size ++ natLe 8 r.maskA ++ natLe 8 r.maskB ++
  natLe 1 ((if r.fastRestore then 1 else 0) + (if r.dynamic then 2 else 0)) ++ natLe 7 0

def regionsBody (rs : List Region) : List Byte := natLe 2 rs.length ++ natLe 6 0 ++ rs.flatMap Region.bytes

/-- A carve-out entry (R43). -/
def Carve.bytes (c : Carve) : List Byte := natLe 8 c.base ++ natLe 4 c.sizeMib ++ natLe 1 c.kind ++ natLe 3 0

/-- An entry of RETAINED (Table 7-5). -/
def retainedBytes (n : Nat) (d : DimmId) : List Byte :=
  natLe 1 (n / 2) ++ natLe 1 (n % 2) ++ natLe 2 0 ++ natLe 4 d.serial ++ natLe 2 d.maker ++ natLe 2 d.date ++ natLe 4 0

/-- The save header, 131,072 bytes (Table 7-5). -/
def Blk.headerBytes (b : Blk) (g : SaveGen) (mapBytes : Nat) : List Byte :=
  let body := regionsBody g.regions
  b.sealed 0xFFFFFF01 g.seq (padTo 0x1FFF0 (
    natLe 4 0x4E52554A ++ natLe 2 1 ++ natLe 1 g.cause ++ natLe 1 0 ++ natLe 8 g.gen ++ natLe 8 g.seq ++ natLe 8 g.count ++ natLe 8 g.epochSealed ++
    natLe 4 g.hours ++ natLe 4 g.cycles ++ natLe 4 g.pagesDirty ++ natLe 4 g.flaggedCount ++ natLe 8 g.ceiling ++ natLe 8 g.rSave ++ bitsBytes 64 g.digest ++
    padTo 16 g.unitId ++ natLe 4 mapBytes ++ natLe 4 g.retained.length ++
    ((g.flaggedRuns.flatMap (fun (r : Nat × Nat) => natLe 8 r.1 ++ natLe 8 r.2)) ++ List.replicate 512 0xFF).take 512 ++
    padTo 512 (g.retained.flatMap (fun (e : Nat × DimmId) => retainedBytes e.1 e.2)) ++ padTo 128 (g.carves.flatMap Carve.bytes) ++ List.replicate 2784 0 ++
    padTo 65536 (g.logbook.flatMap LogRec.bytes) ++ natLe 4 body.length ++ natLe 4 0 ++ padTo 49160 body))

/-- A chunk header: slot s describes the unit at chunk offset (s + 1) * 4 KiB (Table 7-6). -/
def Blk.chunkHeader (b : Blk) (g : SaveGen) (i : Nat) : List Byte :=
  let ps := g.chunks.getD i []
  let seq := g.chunkSeqs.getD i 0
  let entry : Nat → List Byte := fun p => match SMap.find? g.units p with
    | some u => natLe 4 p ++ natLe 2 u.region ++ natLe 2 u.keySlot ++ natLe 8 u.stamp
    | none => natLe 4 p ++ natLe 12 0
  b.sealed 0xFFFFFF02 seq (padTo 0xFF0 (natLe 4 0x4B4E4843 ++ natLe 4 ps.length ++ natLe 8 g.gen ++ natLe 8 seq ++ natLe 4 i ++ natLe 4 0 ++ ps.flatMap entry))

/-- The completion mark (Table 7-6). -/
def Blk.markBytes (b : Blk) (g : SaveGen) (mapBytes saved : Nat) : List Byte :=
  b.sealed 0xFFFFFF03 g.markSeq (padTo 0xFF0 (natLe 4 0x4B52414D ++ natLe 4 g.chunks.length ++ natLe 8 g.gen ++ natLe 8 g.markSeq ++ natLe 4 saved ++ natLe 4 0 ++
    Config.shake256 64 (b.headerBytes g mapBytes)))

/-- The home-image superblock (Table 7-7). -/
def Blk.sbBytes (b : Blk) (s : Superblock) : List Byte :=
  b.sealed 0xFFFFFF04 s.seq (padTo 0xFF0 (natLe 4 0x454D4F48 ++ natLe 2 1 ++ natLe 2 0 ++ natLe 8 s.update ++ natLe 8 s.seq ++ bitsBytes 64 s.digest ++ padTo 16 s.unitId ++
    natLe 4 s.trackedPages ++ natLe 4 0 ++ natLe 8 s.seqLimit ++ natLe 8 (s.liveFirst.getD (2 ^ 64 - 1)) ++ natLe 8 s.nextGen ++ natLe 8 s.nextGenStart ++ natLe 8 s.count))

/-! ### The stripe journal and the map (R213, R216) -/

/-- TYPE of a stripe-journal record (Table 8-2). -/
def SjType.code : SjType → Nat
  | .open' => 1 | .close => 2 | .checkpoint => 3 | .retire => 4 | .readmit => 5 | .generation => 6 | .tornDone => 7

/-- A record's bytes 0x00 to 0x37, and the whole record with CHECK, the first 8 bytes of their SHAKE256 digest (R216). -/
def SjRec.body (r : SjRec) : List Byte :=
  natLe 1 r.type.code ++ natLe 1 r.pool ++ natLe 2 r.gen ++ natLe 2 r.die ++ natLe 2 0 ++ natLe 8 r.seq ++ natLe 8 r.stripe ++ natLe 8 r.count ++ natLe 8 r.seqFirst ++
  padTo 16 (r.members.map (fun m => BitVec.ofNat 8 m))

def SjRec.bytes (r : SjRec) : List Byte := r.body ++ Config.shake256 8 r.body

/-- A map entry's 8 bytes (R213). -/
def Blk.entryWord (b : Blk) (e : MapEntry) : W64 :=
  view [place (b.stripeNo e.stripe * 64 + e.slot) 40 0, place e.gen 16 40, placeBit e.poisoned 56, placeBit true 57]

/-- The 16 KiB of a leaf map page of an image. -/
def Blk.leafBytes (b : Blk) (m : MapImage) (i : Nat) : List Byte :=
  let t := if i < 2 ^ 24 then m.home else m.far
  (List.range 2048).flatMap (fun k => match SMap.find? t (i % 2 ^ 24 * 2048 + k) with | some e => bitsBytes 8 (b.entryWord e) | none => natLe 8 0)

/-! ### Stripe pages (R206, R210) -/

/-- A 4 KiB slot of a journal stripe: ciphertext and trailer. The save header and the chunk headers, which have no trailer, leave theirs zero. -/
def Blk.journalSlot (b : Blk) (g : SaveGen) (i n : Nat) : List Byte × List Byte :=
  let first := g.stripes.length - g.chunks.length
  let plain : List Byte → List Byte × List Byte := fun x => (padTo 4096 x, List.replicate 48 0)
  if i < first then
    let k := 64 * i + n
    if k < 32 then plain ((b.headerBytes g b.mapBytes).drop (4096 * k)) else if k - 32 < b.mapBytes / 4096 then b.mapUnit g (k - 32) else plain []
  else if n = 0 then plain (b.chunkHeader g (i - first))
  else match ((g.chunks.getD (i - first) [])[n - 1]?).bind (fun p => SMap.find? g.units p) with
    | some u => b.unitForm u
    | none => plain []

/-- The four units of a data page of a stripe, where the model holds them all. -/
def Blk.pageUnits (b : Blk) (s q : Nat) : Option (List (List Byte × List Byte)) :=
  let x := b.stripe s
  match x.pool with
  | .tlc =>
    let us := (List.range 4).filterMap (fun j => SMap.find? x.units (4 * q + j))
    if us.length = 4 then some (us.map b.unitForm) else none
  | .journal =>
    (b.pers.gens.findSome? (fun g => (g.stripes.idxOf? s).map (fun i => (g, i)))).map (fun r => (List.range 4).map (fun j => b.journalSlot r.1 r.2 (4 * q + j)))
  | .metadata => none

/-- The 16,576 bytes of a data page: 16,384 bytes of data, then the four trailers (R210). -/
def Blk.dataPage (b : Blk) (s q : Nat) : Option (List Byte) :=
  (b.pageUnits s q).map (fun us => us.flatMap (fun u => u.1) ++ us.flatMap (fun u => u.2))

/-- Bytes of two pages exclusive-ored. -/
def xorBytes (x y : List Byte) : List Byte := List.zipWith (fun a c => a ^^^ c) x y

/-- A page multiplied by g^i in GF(2^8) with polynomial 0x11D and g = 2 (R210). -/
def scaleBytes (i : Nat) (x : List Byte) : List Byte := x.map (fun a => BitVec.ofNat 8 (gfMul (gfExp i) a.toNat))

/-- What page q of a stripe holds: a data page, P or Q (R210); none where the model does not hold its data. -/
def Blk.stripePage (b : Blk) (s q : Nat) : Option (List Byte) :=
  if q < 16 then
    match (b.stripe s).pool, SMap.find? (b.stripe s).pages q with
    | .metadata, some i => if decide (i < 2 ^ 25) && (b.currentPages s).contains i then some (b.leafBytes b.nvf.saved i) else none
    | _, _ => b.dataPage s q
  else
    let zero := List.replicate 16576 (0 : Byte)
    (List.range 16).foldl (fun (acc : Option (List Byte)) i =>
      match acc, b.dataPage s i with
      | some a, some d => some (xorBytes a (if q = 16 then d else scaleBytes i d))
      | _, _ => none) (some zero)

end Sys2Proof.Machine
end

