-- ==== Sys2Proof/Machine/Flash.lean ====
section
/-!
DEFINITION. Effects of the flash-array commands of chapter 8: NAND operations and their failures, the stripe journal, reclaim, replicas,
rebuild, NVF_CMD, the patrol and the end of a reshape.
-/
namespace Sys2Proof.Machine
open Sys2Proof

/-- A refused NVF_CMD (Table 8-7). See assumption 36 (DEDUCED). -/
def nvfRefuse (b : Blk) : Blk := setErr .nvf 11 b

/-! ### NAND operations (R206, R208, R220, R230) -/

/-- A host-path read suspends an operation on its die, with no limit (R230). -/
def noteSuspend (g : Nat) (b : Blk) : Blk :=
  let old := ((b.nvf.suspends.find? (fun s => s.die = g)).map (·.count)).getD 0
  modNvf (fun n => { n with suspends := n.suspends.filter (fun s => s.die != g) ++ [⟨g, old + 1⟩] }) b

/-- NAND_READ_DONE: a page of a stripe is read; bit j of `failing` says that its unit j still fails to decode after the last read-retry level, which
makes the page unreadable (R206). `suspended` says that the read suspended an operation of the die. See assumption 113 (DEDUCED). -/
def nandReadDone (s q failing : Nat) (suspended : Bool) (b : Blk) : Blk :=
  let d := (b.slotDie s q).getD 0
  let b := if suspended then noteSuspend d b else b
  if failing % 16 = 0 || !SMap.has b.nvf.stripes s || decide (17 < q) then b
  else losePage s q d (setErr .nvf 5 b)

/-- A program of the save journal fails during a save: what its page and the later ones of the stripe were to hold moves to the next stripe (R187).
The chunk's header lies in slot 0 of data page 0. -/
def moveChunk (s q : Nat) (b : Blk) : Blk :=
  match b.pers.dusk, b.pers.gens.getLast? with
  | some d, some g =>
    match g.stripes.idxOf? s with
    | some i =>
      if d.step != .saving || decide (15 < q) then b
      else
        let first := g.stripes.length - g.chunks.length
        let next := (b.freeRing (g.stripes.getLastD 0) 1).headD 0
        let n := takeSeq b
        let g := { g with stripes := g.stripes ++ [next], bytes := g.bytes + stripeBytes }
        let g := if i < first then g
                 else
                   let c := g.chunks.getD (i - first) []
                   { g with chunks := g.chunks.take (i - first) ++ [c.take (4 * q - 1), c.drop (4 * q - 1)] ++ g.chunks.drop (i - first + 1),
                            chunkSeqs := g.chunkSeqs.take (i - first + 1) ++ [n.1] ++ g.chunkSeqs.drop (i - first + 1) }
        let b := modStripe next (fun _ => { pool := .journal, used := 64, gen := b.layout.gen, seqFirst := n.1 }) n.2
        { b with pers := { b.pers with gens := b.pers.gens.dropLast ++ [g] } }
    | none => b
  | _, _ => b

/-- The die of a page of a stripe. -/
def Blk.pageDie (b : Blk) (s q : Nat) : Nat := (b.slotDie s q).getD 0

/-- NAND_PROGRAM_DONE: page q of a stripe is programmed, or its block is retired and the page waits for its reserve block (R208); the last page closes
the stripe (R217), and the map cache may meet an uncorrectable word (R213). A failed page of the save journal is lost to its stripe (R187). -/
def nandProgramDone (phys : Phys) (s q : Nat) (ok : Bool) (b : Blk) : Blk :=
  if !b.mayProgram s q then b
  else if ok then phys.map.foldl (fun b i => readMap phys i b) (pageProgrammed s q b)
  else
    let g := b.pageDie s q
    let b := if (b.stripe s).pool == .journal then losePage s q g (moveChunk s q b) else b
    failBlock g (128 + (b.stripeAt s).1) 3 b

/-- NAND_ERASE_DONE: a zone's erase completes on every die, or a block's erase fails and retires the block (R208, R215). An erased
journal zone counts in J_ready (R179); the calibration's blocks come first (R180). -/
def nandEraseDone (z : Nat) (failed : Option Nat) (b : Blk) : Blk :=
  match failed with
  | some g => failBlock g (128 + z) 4 b
  | none =>
    if b.poolOfZone z == some .journal then
      let take := Nat.min b.slcZone b.nvf.jErase
      noteCeiling { modNvf (fun n => { n with jErase := n.jErase - take, jReady := n.jReady + take, erasing := n.erasing.erase z }) b with
        pers := { b.pers with calBytes := b.pers.calBytes - take } }
    else if (b.zone z).state == .erasing then
      noteStarved (modNvf (fun n => { n with erasing := n.erasing.erase z, zones := SMap.erase n.zones z }) b)
    else b

/-- CAUSE of NVF_DIEg and bit of NVF_ERR for a timeout. -/
def NandOp.code : NandOp → Nat
  | .read => 0 | .program => 1 | .erase => 2

/-- MEMBER_TIMEOUT: the die is retired and its channel's pin asserted (R220); a page whose read exceeds the timeout is unreadable (R206). -/
def memberTimeout (g : Nat) (op : NandOp) (b : Blk) : Blk :=
  if (b.die g).state != .member then b
  else
    let b := if op = .read then setErr .nvf 5 b else b
    nandPin g (retireDie g (op.code + 1) (setErr .nvf op.code b))

/-! ### The log and the stripe journal -/

/-- STRIPE_PAD_TIMEOUT: the open stripe is older than one epoch and is completed with padding (R212); from the Dusk trigger nothing starts (R186). -/
def stripePadTimeout (b : Blk) : Blk :=
  match b.nvf.openStripe with
  | some s => if !b.inDusk && decide ((b.stripe s).firstEpoch < b.epoch) then padStripe b else b
  | none => b

/-- STRIPE_JOURNAL_COMMIT: the collected records become durable on each valid replica and enter the Near ring, which holds every
record since the last CHECKPOINT (R217). With no valid replica the ring alone serves (R219). -/
def stripeJournalCommit (b : Blk) : Blk :=
  let rs := b.nvf.sjPending
  let ring := b.nvf.sjRing ++ rs
  let since := (ring.reverse.takeWhile (fun r => r.type != .checkpoint)).reverse
  let ring := match ring.reverse.find? (fun r => r.type == .checkpoint) with | some c => c :: since | none => ring
  let opened := rs.filter (fun r => r.type == .open')
  let b := modReplicas (fun r => { r with sj := r.sj ++ rs }) (modNvf (fun n => { n with sjPending := [], sjRing := ring }) b)
  let hit : Nat → Stripe → Bool := fun s x => opened.any (fun r => r.gen == x.gen && r.stripe == b.stripeNo s && r.seqFirst == x.seqFirst)
  let b := modNvf (fun n => { n with stripes := SMap.mapVal n.stripes (fun s x => if hit s x then { x with openDurable := true } else x) }) b
  if rs.any (fun r => r.type == .checkpoint) then finishCheckpoint b else b

/-- Every stripe of a zone is settled: the map has taken its units, or no more will. -/
def Blk.zoneSettled (b : Blk) (z : Nat) : Bool := (b.zoneStripes z).all (fun s => (b.stripe s).mapped || (b.stripe s).torn || (b.stripe s).dead)

/-- RECLAIM: at 6 or fewer free TLC zones the closed zone with the fewest current units is relocated, and erased once none is left (R215); from the
Dusk trigger nothing starts (R186). -/
def reclaim (b : Blk) : Blk :=
  if b.inDusk then b
  else
    let pick :=
      match b.nvf.reclaiming with
      | some z => some z
      | none =>
        if 6 < b.freeTlc then none
        else
          match (SMap.keys b.nvf.zones).filter (fun z => (b.zone z).pool == .tlc && (b.zone z).state == .closed && b.zoneSettled z) with
          | [] => none
          | z :: zs => some (zs.foldl (fun x y => if b.zoneLoad y < b.zoneLoad x then y else x) z)
    match pick with
    | none => b
    | some z => settleReclaim ((b.zoneStripes z).foldl (fun b s => relocateStripe s b) (modNvf (fun n => { n with reclaiming := some z }) b))

/-- The lowest-numbered member of a channel half; a retired replica die is no member any more (R219). -/
def Blk.nextReplica (b : Blk) (south : Bool) : Option Nat :=
  (b.layout.members.filter (fun g => decide (128 ≤ g) == south)).foldl (fun m g => match m with | some x => some (Nat.min x g) | none => some g) none

/-- REPLICA_REPLACE: to the next member of the half the controller writes the superblock, the map root and the Near ring's records, and marks it
valid (R219). -/
def replicaReplace (b : Blk) : Blk :=
  if b.nvf.layouts.isEmpty then b
  else
    let new : Nat → Replica := fun g =>
      { die := some g, valid := true, sb := b.pers.sb, root := SMap.keep b.nvf.saved.places (fun i _ => decide (2 ^ 25 ≤ i)), sj := b.nvf.sjRing }
    let b := if b.nvf.rep0.valid then b else match b.nextReplica false with
      | some g => modNvf (fun n => { n with rep0 := new g }) b
      | none => b
    if b.nvf.rep1.valid then b else match b.nextReplica true with
      | some g => modNvf (fun n => { n with rep1 := new g }) b
      | none => b

/-! ### Rebuild (R222 to R224) -/

/-- Lost pages with a spare position, critical stripes first, then by pool and stripe number (R223). -/
def Blk.rebuildList (b : Blk) : List (Nat × Nat) :=
  let hit := b.nvf.stripes.filter (fun e => !e.2.torn && !e.2.dead && !e.2.lost.isEmpty)
  let crit := hit.filter (fun e => decide (2 ≤ e.2.lost.length))
  let rest := hit.filter (fun e => decide (e.2.lost.length < 2))
  let pages := fun (e : Nat × Stripe) => (e.2.lost.filter (fun q => (b.slotDie e.1 q).isSome)).map (fun q => (e.1, q))
  crit.flatMap pages ++ rest.flatMap pages

/-- NVF_CMD START_REBUILD (R223); from the Dusk trigger nothing starts (R442). -/
def startRebuild (b : Blk) : Blk :=
  if b.inDusk then b
  else
    let todo := b.rebuildList
    modNvf (fun n => { n with rebuilding := !todo.isEmpty, rebuildTodo := todo, reshapePaused := n.reshapePaused && !todo.isEmpty }) b

/-- REBUILD_STRIPE: the next lost page is reconstructed at its spare position (R223, R224). -/
def rebuildStripe (b : Blk) : Blk :=
  if b.inDusk then b
  else
    match b.nvf.rebuildTodo with
    | [] => modNvf (fun n => { n with rebuilding := false, reshapePaused := false }) b
    | (s, q) :: rest =>
      let ok := decide ((b.stripe s).lost.length ≤ 2) && (b.slotDie s q).isSome && SMap.has b.nvf.stripes s
      let b := if ok then modStripe s (fun x => { x with lost := x.lost.filter (· != q) }) b else b
      modNvf (fun n => { n with rebuildTodo := rest, rebuilding := !rest.isEmpty, reshapePaused := n.reshapePaused && !rest.isEmpty }) b

/-- ADMIT runs (R221): every block is erased, the block map is rebuilt without the retired blocks, and the die joins a new generation with a new label. -/
def admitNow (g : Nat) (b : Blk) : Blk :=
  if b.nvf.rebuilding || (b.die g).state != .retired then nvfRefuse b
  else
    let b := modDie g (fun d => { d with state := .member, bad := sortBy (fun x y => decide (x ≤ y)) (d.bad ++ d.retiredBlocks).eraseDups, retiredBlocks := [], remap := [] }) b
    let b := sjRecord { type := .readmit, gen := b.layout.gen, die := g } b
    newLayout (sortBy (fun x y => decide (x ≤ y)) (b.layout.members ++ [g])) b.layout.seed b.layout.spare b

/-- NVF_CMD ADMIT: waits for a restart's end (R25). -/
def admitDie (g : Nat) (b : Blk) : Blk :=
  if b.fwWaits then { b with fw := { b.fw with deferred := b.fw.deferred ++ [.readmit g] } } else admitNow g b

/-- NVF_CMD START_REBUILD: waits for a restart's end (R25). -/
def startRebuildCmd (b : Blk) : Blk :=
  if b.fwWaits then { b with fw := { b.fw with deferred := b.fw.deferred ++ [.startRebuild] } } else startRebuild b

/-- NVF_CMD RETIRE (R505). -/
def retireCmd (g : Nat) (b : Blk) : Blk :=
  if (b.die g).state != .member then nvfRefuse b
  else logEvent 15 { kind := .perType, loc := BitVec.ofNat 64 g } (retireDie g 5 b)

/-! ### Raw reads (R15, R232) -/

/-- The die that a NAND media location code names: channel, target and LUN (Table 1-4, R205). Dies of a channel are numbered in
ascending (chip enable, LUN) order; the state keeps each die's `lun` field as 16 * chip enable + LUN. -/
def Blk.dieAt (b : Blk) (loc : W64) : Option Nat :=
  let phys := fieldOf loc 58 55 * 16 + fieldOf loc 54 51
  (SMap.first? b.nvf.dies (fun g d => decide (g / 16 = fieldOf loc 63 59) && decide (d.lun = phys) && d.state != .absent)).map (·.1)

/-- NVF_CMD RAW_READ of the page that NVF_RAW_LOC names. See assumption 28 (DEDUCED). -/
def rawRead (b : Blk) : Blk := modNvf (fun n => { n with rawResult := 1 }) b

/-- The zone that a physical block of a die serves now: that of its logical block (R207, R208). -/
def Blk.zoneOfBlock (b : Blk) (g block : Nat) : Option Nat :=
  let d := b.die g
  match (SMap.first? d.remap (fun _ x => x == block)).map (fun e => e.1) with
  | some l => if 128 ≤ l then some (l - 128) else none
  | none =>
    if d.bad.contains block || d.retiredBlocks.contains block then none
    else
      let l := block - d.bad.countP (fun x => decide (x < block))
      if 128 ≤ l then some (l - 128) else none

/-- The stripe page that a die holds in a row of a zone, when it has been programmed. -/
def Blk.pageOfDie (b : Blk) (g z r : Nat) : Option (Nat × Nat) :=
  (b.zoneStripes z).findSome? (fun s =>
    if (b.stripeAt s).2.1 = r then ((List.range 18).find? (fun q => (b.stripe s).done.contains q && b.slotDie s q == some g)).map (fun q => (s, q)) else none)

/-- RAW_READ_DONE: the result; a page of a block under a suspended erase gives no data (R232), a programmed page of a TLC stripe gives what the model
holds of it, with the spare bytes past the trailers as the medium answers, and any other page what the medium answers. -/
def rawReadDone (a : RawAnswer) (b : Blk) : Blk :=
  if b.nvf.rawResult != 1 then b
  else
    let res := fun (r : Nat) (d : List Byte) => modNvf (fun n => { n with rawResult := r, rawData := d }) b
    match b.dieAt b.nvf.rawLoc with
    | none => res 6 []
    | some g =>
      let zone := b.zoneOfBlock g (fieldOf b.nvf.rawLoc 47 32)
      if b.nvf.erasing.any (fun z => zone == some z) then res 3 []
      else match a with
        | .data d =>
          match (zone.bind (fun z => b.pageOfDie g z (fieldOf b.nvf.rawLoc 31 20))).bind (fun x => b.stripePage x.1 x.2) with
          | some known => res 2 (known ++ d.drop known.length)
          | none => res 2 d
        | .uncorrectable => res 4 []
        | .timeout => res 5 []

/-! ### The patrol (R226, R227) -/

/-- NVF_CMD PATROL_PAUSE and PATROL_RESUME. -/
def patrolPause (b : Blk) : Blk := modNvf (fun n => { n with patrolPaused := true }) b
def patrolResume (b : Blk) : Blk := modNvf (fun n => { n with patrolPaused := false }) b

/-- The patrol is running. -/
def Blk.patrolling (b : Blk) : Bool :=
  b.nvf.patrolOn && !b.nvf.patrolPaused && !b.inDusk && !b.nvf.rebuilding && !b.nvf.reshaping

/-- The next closed stripe that is not torn, in ascending number with a wrap; true when it wrapped. -/
def Blk.patrolNext (b : Blk) : Option (Nat × Bool) :=
  let ok := (b.nvf.stripes.filter (fun e => e.2.closed && !e.2.torn && !e.2.dead)).map (·.1)
  match ok.find? (fun s => decide (b.nvf.patrolPos ≤ s)) with
  | some s => some (s, false)
  | none => ok.head?.map (fun s => (s, true))

/-- Bytes in which a stripe's pages differ from what was programmed: page 0-17, byte position 0-16,575 and the difference (R227). -/
abbrev PageErrs := List (Nat × Nat × Nat)

/-- Sp at a byte position: the difference of P and of the data pages (R227). -/
def parityP (es : PageErrs) (pos : Nat) : Nat := es.foldl (fun a e => if e.2.1 = pos && decide (e.1 ≤ 16) then a ^^^ e.2.2 else a) 0

/-- Sq at a byte position (R210, R227). -/
def parityQ (es : PageErrs) (pos : Nat) : Nat :=
  es.foldl (fun a e => if e.2.1 = pos then (if e.1 = 17 then a ^^^ e.2.2 else if e.1 ≤ 15 then a ^^^ gfMul (gfExp e.1) e.2.2 else a) else a) 0

/-- The unit of a data page that a byte position belongs to: 4 KiB of data each, then their trailers of 48 bytes (R210). -/
def unitOfByte (pos : Nat) : Nat := if pos < 16384 then pos / 4096 else (pos - 16384) / 48

/-- What the parity check names (R227): none of them where everything agrees, a page 0-17, or no page. -/
inductive Culprit where
  | clean
  | page (q : Nat)
  | none
  deriving DecidableEq, Repr

/-- The culprit of a stripe's differences (R227). A current unit of a corrected page fails its tag where some byte of it still differs. -/
def Blk.culprit (b : Blk) (s : Nat) (es : PageErrs) : Culprit :=
  let ps := (es.map (fun e => e.2.1)).eraseDups
  let sp0 := ps.all (fun x => parityP es x == 0); let sq0 := ps.all (fun x => parityQ es x == 0)
  if sp0 && sq0 then .clean
  else if sq0 then .page 16
  else if sp0 then .page 17
  else
    match (List.range 16).find? (fun x => ps.all (fun p => parityQ es p == gfMul (gfExp x) (parityP es p))) with
    | some x =>
      let left := fun (p : Nat) => (es.foldl (fun a e => if e.1 = x && e.2.1 = p then a ^^^ e.2.2 else a) 0) ^^^ parityP es p
      let bad := (b.stripe s).units.any (fun e => decide (e.1 / 4 = x) && b.isCurrent s e.1 e.2 && ps.any (fun p => unitOfByte p == e.1 % 4 && left p != 0))
      if bad then .none else .page x
    | none => .none

/-- Units whose stored bytes still differ after the check: their tags fail. -/
def spoilUnits (s : Nat) (es : PageErrs) (fixed : Option Nat) (b : Blk) : Blk :=
  let bad := fun (slot : Nat) => es.any (fun e => decide (e.1 = slot / 4) && e.2.2 != 0 && unitOfByte e.2.1 == slot % 4 && fixed != some e.1)
  modStripe s (fun x => { x with units := SMap.mapVal x.units (fun k u => if bad k then { u with tagOk := false } else u) }) b

/-- PATROL_STRIPE: the unreadable pages and the differing bytes of the next stripe, and what follows (R227), at most STRIPES_PER_EPOCH times in an
epoch (R226). -/
def patrolStripe (unread : List Nat) (es : PageErrs) (b : Blk) : Blk :=
  let n := if b.nvf.patrolEpoch = b.epoch then b.nvf.patrolCount else 0
  if !b.patrolling || decide (b.nvf.patrolRate ≤ n) then b
  else
    match b.patrolNext with
    | none => b
    | some (s, wrapped) =>
      let b := modNvf (fun v => { v with patrolPos := s + 1, patrolPasses := if wrapped then sat32 v.patrolPasses else v.patrolPasses, patrolEpoch := b.epoch, patrolCount := n + 1 }) b
      let b := if unread.isEmpty then b else setErr .nvf 5 b
      let bad := ((b.stripe s).lost ++ unread).eraseDups
      if 3 ≤ bad.length then unread.foldl (fun b q => losePage s q (b.pageDie s q) b) b
      else if !bad.isEmpty then relocateStripe s b
      else match b.culprit s es with
        | .clean => b
        | .none =>
          let b := setErrLog .nvf 7 { kind := .perType, loc := BitVec.ofNat 64 (b.stripeNo s) } (relocateStripe s (spoilUnits s es none b))
          modNvf (fun v => { v with unattributed := sat32 v.unattributed }) b
        | .page q => modNvf (fun v => { v with attributed := sat32 v.attributed }) (relocateStripe s (spoilUnits s es (some q) b))

/-- PATROL_DAILY: STRIPES_PER_EPOCH from the stripes in use (R226). -/
def patrolDaily (b : Blk) : Blk :=
  let epochs := b.cht.cur.far.patrolDays * 86400 * 10 ^ 9 / Nat.max (b.mer.body.l * b.mer.body.tickNs) 1
  modNvf (fun n => { n with patrolRate := ceilDiv n.stripes.length (Nat.max epochs 1) }) b

/-! ### Reshape (R228, R229) -/

/-- RESHAPE_COMPLETE: the relocation has moved every current unit of an older generation; the older generations are dropped at the next
epoch boundary (R228 step 3). -/
def reshapeComplete (b : Blk) : Blk :=
  if !b.nvf.reshaping || b.nvf.reshapePaused || b.inDusk then b
  else
    let g := b.layout.gen
    let old := (b.nvf.stripes.filter (fun e => e.2.gen != g)).map (·.1)
    let b := old.foldl (fun b s => relocateStripe s b) b
    let b := if b.nvf.mapDirty.any (fun i => (SMap.find? b.nvf.saved.places i).isSome) && old.any (fun s => (b.stripe s).pool == .metadata && b.stripeLoad s != 0) then startCheckpoint b else b
    let moved := (b.nvf.stripes.filter (fun e => e.2.gen != g && (e.2.pool == .tlc && !e.2.mapped && !e.2.torn && !e.2.dead))).isEmpty && old.all (fun s => b.stripeLoad s == 0)
    match b.cht.apply with
    | some a => if moved then { b with cht := { b.cht with apply := some { a with farDone := true } } } else b
    | none => if moved then modNvf (fun n => { n with reshapeDone := true }) b else b

end Sys2Proof.Machine
end

