-- ==== Sys2Proof/Machine/OpsDusk.lean ====
section
/-!
DEFINITION. Shared operations of persistence: the write-back choice of the governor (R182), the save's contents (R187 to R193, R444), the
retained DIMMs (R167), the superblock (R194), and how a Dusk hands over or resumes (R189, R384, R385).
-/
namespace Sys2Proof.Machine
open Sys2Proof

/-- Change persistence's state. -/
def modPers (f : PersSt → PersSt) (b : Blk) : Blk := { b with pers := f b.pers }

/-! ### The governor's choice (R182, R199) -/

/-- Live generations, newest first. -/
def Blk.liveGens (b : Blk) : List SaveGen := (b.pers.gens.filter (fun g => b.pers.live.contains g.gen)).reverse

/-- SEQ of the home or Far unit that is current for a local page. -/
def Blk.homeSeq (b : Blk) (p : Nat) : Option Nat :=
  match b.slotOfPage p with
  | some i => (b.farUnit (b.dirEntry i).farPage).map (fun (u : FlashUnit) => u.seq)
  | none => (b.homeUnit p).map (fun (u : FlashUnit) => u.seq)

/-- The newest durable copy of a page lies in a live generation: such a page is folded (R199). -/
def Blk.journalNewest (b : Blk) (p : Nat) : Option SaveGen :=
  match b.liveGens.find? (fun g => SMap.has g.units p) with
  | some g =>
    let s := ((SMap.find? g.units p).map (fun (u : FlashUnit) => u.seq)).getD 0
    match b.homeSeq p with
    | some h => if s < h then none else some g
    | none => some g
  | none => none

/-- A page may be written back: dirty, RESIDENT, not in flight, on no frozen channel; a staging slot only with COUNT 0 as Table 9-3 lets
every dirty way be written back. -/
def Blk.canWriteBack (b : Blk) (p : Nat) : Bool :=
  b.isDirty p && b.presence p == .resident && !SMap.has b.pers.inFlight p &&
  !(List.range 32).any (fun j => b.frozenLine (32 * p + j)) &&
  (match b.slotOfPage p with | some i => (b.dirEntry i).state == .dirty | none => true)

/-- Pages the engine takes at no governor limit: folds, and pages of a Near reshape (R182). -/
def Blk.unpaced (b : Blk) (p : Nat) : Bool := (b.journalNewest p).isSome || b.reshapePage p

/-- Of two pages the one with the older stamp, then the lower number. -/
def Blk.older (b : Blk) (x y : Nat) : Nat := if b.stampOf y < b.stampOf x then y else x

/-- The oldest page of a list. See assumption 34 (DESIGN CHOICE). -/
def Blk.oldest (b : Blk) (ps : List Nat) : Option Nat :=
  match ps with
  | [] => none
  | p :: rest => some (rest.foldl (fun x y => b.older x y) p)

/-- The page the engine takes now, and whether the window's paced budget pays for it (R181, R182, R215): pages of a Near reshape first (R60), then folds. -/
def Blk.nextWriteBack (b : Blk) : Option (Nat × Bool) :=
  if b.inDusk || decide (262144 ≤ b.pers.inFlight.length) || decide (b.freeTlc ≤ 2) then none
  else
    let ps := (SMap.keys b.pers.dirty).filter b.canWriteBack
    let first := match b.oldest (ps.filter b.reshapePage) with | some p => some p | none => b.oldest (ps.filter b.unpaced)
    match first with
    | some p => some (p, false)
    | none =>
      let paced := decide (b.pers.spent + 4096 ≤ b.refill) && decide (4096 ≤ b.pers.credit)
      match b.gov with
      | .normal => if paced then (b.oldest (ps.filter (fun p => decide (b.stampOf p + b.cht.cur.pers.minAgeEpochs ≤ b.epoch)))).map (fun p => (p, true)) else none
      | .pressed => (b.oldest ps).map (fun p => (p, false))
      | .throttling => if paced then (b.oldest ps).map (fun p => (p, true)) else none
      | .draining => (b.oldest ps).map (fun p => (p, false))

/-! ### The save -/

/-- Bytes of the journal ring. -/
def Blk.ringBytes (b : Blk) : Nat := b.nvf.jRing

/-- Journal stripes before the chunks: the save header and the dirty map image, filled up to a whole stripe, since each chunk is one stripe's data pages
(R190). See assumption 32 (DEDUCED). -/
def Blk.headStripes (b : Blk) : Nat := ceilDiv (131072 + b.mapBytes) stripeBytes

/-- Bytes of the journal ring that a generation takes: header, dirty map image, chunks (R190); the mark lies in the replica dies' local areas (R207). -/
def Blk.genBytes (b : Blk) (pages : Nat) : Nat := (b.headStripes + ceilDiv pages 63) * stripeBytes

/-- DIMMs to retain, bit 2n + d: those that hold a line of a FAST_RESTORE region and lie on no frozen channel (R167). Every channel of a
set holds lines of each 256 MiB frame of the set, on each of its DIMMs (R41, R140). -/
def Blk.retainMask (b : Blk) : Nat :=
  let frames := framesOf b.cht.cur b.cht.isB (fun r => !r.far && r.fastRestore)
  Sys2Proof.Machine.maskOf (b.cht.cur.near.sets.flatMap (fun s =>
    if frames.any (fun f => decide (s.base ≤ f * frame) && decide (f * frame < s.base + s.sizeGib * gib)) then
      ((bitsOf 16 s.mask).filter (fun c => (b.chan c).state == .ready)).flatMap (fun c => (List.range (b.chan c).dimms).map (fun d => 2 * c + d))
    else []))

/-- Retained DIMMs with their identities (Table 7-5). -/
def Blk.retainedList (b : Blk) : SMap DimmId := (bitsOf 32 b.retainMask).map (fun n => (n, (b.chan (n / 2)).ids.getD (n % 2) {}))

/-- Group of a page in the order of R187: carve-outs and NONE, COLD, HOT. -/
def Blk.saveGroup (b : Blk) (p : Nat) : Nat :=
  match (b.lineInfo (32 * p)).region with
  | some r => if (carveAt b.cht.cur.near (p * 4096)).isSome then 0 else match r.mirror with | .none => 0 | .cold => 1 | .hot => 2
  | none => 0

/-- Dirty pages in the order of R187. -/
def Blk.saveOrder (b : Blk) : List Nat :=
  let ps := SMap.keys b.pers.dirty
  [0, 1, 2].flatMap (fun g => ps.filter (fun p => b.saveGroup p == g))

/-- The lines of a page as the save takes them (R187, R444, R445): lines that cannot be read as poisoned. -/
def saveLines (phys : Phys) (p : Nat) (b : Blk) : PageLines × Blk :=
  (List.range 32).foldl (fun (acc : PageLines × Blk) j =>
    let r := lineOut phys .wb (32 * p + j) acc.2
    (SMap.put DramLine.zero acc.1 j (r.1.getD (r.2.lineFor (32 * p + j) 0 true 0)), r.2)) ([], b)

/-- Save one page into the generation under way: its journal unit. -/
def savePage (phys : Phys) (acc : SMap FlashUnit × Bool × Blk) (p : Nat) : SMap FlashUnit × Bool × Blk :=
  let r := saveLines phys p acc.2.2
  let q := takeSeq r.2
  let u := { q.2.unitOf p q.1 true r.1 with kind := .journal, page := p }
  let hotLost := u.poisonMask != 0 && (match (q.2.lineInfo (32 * p)).region with | some x => x.mirror == .hot | none => false)
  (SMap.insert acc.1 p u, acc.2.1 || hotLost, q.2)

/-- The newest 1,024 record positions in ring order, with the buffer (R422). -/
def Blk.logTail (b : Blk) : List LogRec :=
  let all := (b.logbook.recs.map (·.2)) ++ b.logbook.buf
  let all := sortBy (fun x y => decide (x.seq ≤ y.seq)) all
  all.drop (all.length - 1024)

/-- A list in groups of 63. -/
def groups63 : Nat → List Nat → List (List Nat)
  | 0, _ => []
  | n + 1, l => if l.isEmpty then [] else l.take 63 :: groups63 n (l.drop 63)

/-- Write the save header, the dirty map image and the chunks, after the NAND programs in flight: a generation without its mark (R190 to R193). -/
def writeSave (phys : Phys) (d : Dusk) (b : Blk) : Blk :=
  let order := b.saveOrder
  let q := takeSeq b
  let m := takeSeqs (b.mapBytes / 4096) q.2
  let retained := m.2.retainedList
  let r := order.foldl (savePage phys) (([] : SMap FlashUnit), false, m.2)
  let chunks := groups63 order.length order
  let c := takeSeqs chunks.length r.2.2
  let b := c.2
  let ring := b.freeRing (b.ringPlace b.pers.sb.nextGenStart) (b.headStripes + chunks.length)
  let b := ring.foldl (fun b s => modStripe s (fun _ => { pool := .journal, used := 64, gen := b.layout.gen, seqFirst := q.1 }) b) b
  let g : SaveGen :=
    { gen := b.pers.sb.nextGen, seq := q.1, cause := if d.thermal then 1 else 0, count := b.mer.count, epochSealed := b.mer.sealedEpoch.getD ones64.toNat,
      hours := b.pwr.boot.hours, cycles := b.pwr.boot.cycles, pagesDirty := order.length, ceiling := b.ceiling, rSave := b.pers.rSave,
      digest := b.cht.cur.digest, unitId := b.ident.unitId, flaggedCount := b.mer.runsSinceDawn, flaggedRuns := b.mer.runs.drop (b.mer.runs.length - 32),
      retained := retained, carves := b.cht.cur.near.carves, regions := b.cht.cur.regions, logbook := b.logTail,
      mapImage := SMap.keys b.pers.dirty, mapSeq := m.1, units := r.1, chunks := chunks, chunkSeqs := (List.range chunks.length).map (fun i => c.1 + i), stripes := ring,
      stale := (r.2.1 && b.paired) || b.twin.stale, start := b.pers.sb.nextGenStart, bytes := b.genBytes order.length }
  modPers (fun p => { p with gens := p.gens.filter (fun x => x.gen != g.gen) ++ [g], dusk := some { d with step := .saving, todo := order } }) b

/-- Write the completion mark to the replica dies, once the save's programs are done (R188, R193). -/
def writeMark (g : SaveGen) (b : Blk) : SaveGen × Blk :=
  let q := takeSeq b
  let dies := (if b.nvf.rep0.valid then b.nvf.rep0.die.toList else []) ++ (if b.nvf.rep1.valid then b.nvf.rep1.die.toList else [])
  let b := g.stripes.foldl (fun b s => modStripe s (fun x => { x with done := List.range 18, closed := true }) b) q.2
  ({ g with mark := some g.chunks.flatten.length, markSeq := q.1, markDies := dies }, b)

/-- A generation's completion mark verifies: one copy suffices, on a die that is not retired (R193). -/
def Blk.markOk (b : Blk) (g : SaveGen) : Bool := g.mark.isSome && g.markDies.any (fun d => (b.die d).state != .retired)

/-- Journal location of a saved page of a generation, in 4 KiB units of the ring (R190, R197): unit s of chunk c lies at chunk offset (s + 1) * 4 KiB. -/
def SaveGen.location (g : SaveGen) (ring p : Nat) : Nat :=
  let first := g.stripes.length - g.chunks.length
  let at' := (g.chunks.zipIdx.findSome? (fun c => (c.1.idxOf? p).map (fun s => 64 * (first + c.2) + s + 1))).getD 0
  (g.start / 4096 + at') % Nat.max (ring / 4096) 1

/-- A completed generation becomes live; the superblock moves on to the next (R189, R196). -/
def goLive (g : SaveGen) (b : Blk) : Blk :=
  let b := modPers (fun p => { p with live := if p.live.contains g.gen then p.live else p.live ++ [g.gen], saveGen := some g.gen }) b
  let b := modNvf (fun n => { n with jReady := n.jReady - g.bytes }) b
  noteCeiling (writeSb (fun s => { s with nextGen := g.gen + 1, nextGenStart := (g.start + g.bytes) % Nat.max b.ringBytes 1 }) b)

/-! ### Hand-over and resumption -/

/-- May service resume at the end of step 8 (R385, R386, R447)? See assumption 76 (DEDUCED). -/
def Blk.mayResume (b : Blk) (d : Dusk) : Bool := b.pwr.pwrStable && !d.thermal && !b.pwr.noResume && !b.therm.shutdown

/-- Service resumes without a restore (R189, R385): the generation is live, background work resumes, held requests are released in their
order of arrival. In a pair the unit resumes as STANDBY. -/
def resumeService (phys : Phys) (b : Blk) : Blk :=
  let b := match b.pers.gens.getLast? with | some g => goLive g b | none => b
  let b := powRecord .inputReturn {} b
  let b := modPers (fun p => { p with dusk := none }) b
  let b := { modPwr (fun p => { p with noResume := false, boot := { p.boot with duskBegun := false } }) b with therm := { b.therm with frozen := false } }
  let b := releaseWindows b
  let b := if b.paired then b.halvesOf.foldl (fun b h => modHalf h (fun x => { x with role := .standby, gateOpen := false, eclipse := false }) b) b
           else modHalf 0 (fun x => { x with gateOpen := true }) b
  let b := noteCeiling b
  retry phys (fun h => h.why != .throttle) b

/-- Step 9: partial-array self-refresh of the retained DIMMs, the other DIMMs' PMICs off (R167 steps 1 to 4), then the rails are lowered; slots with RETAIN stay up while a DIMM is retained, except after a
thermal Dusk (R167, R384). -/
def handOver (d : Dusk) (b : Blk) : Blk :=
  let m := b.retainMask
  let thermal := d.thermal || b.therm.shutdown
  let keep := if m = 0 || thermal then 0 else Sys2Proof.Machine.maskOf (b.railSlots.filter (fun s => (b.rail s).retain && b.railEn s))
  let found := b.dram.chans.flatMap (fun (e : Nat × Chan) => (List.range e.2.dimms).map (fun d => 2 * e.1 + d))
  let others := Sys2Proof.Machine.maskOf (found.filter (fun n => !m.testBit n))
  let b := { b with dram := { b.dram with selfRefresh := m, rcdIgnore := m, pmicCleared := m, pmicOff := others } }
  startLower .dusk keep (modPers (fun p => { p with dusk := some { d with step := .handedOver } }) b)

/-- The eFlash has nothing left to program. -/
def Blk.eflIdle (b : Blk) : Bool := b.efl.cur.isNone && b.efl.jobs.isEmpty

/-- After step 8: resume, or hand over once the Logbook programming has ended (R385, R419). -/
def afterSave (phys : Phys) (b : Blk) : Blk :=
  match b.pers.dusk with
  | some d =>
    if d.step = .complete then
      if b.mayResume d then resumeService phys b
      else if d.logDone || b.eflIdle then handOver d b
      else b
    else b
  | none => b

end Sys2Proof.Machine
end

