-- ==== Sys2Proof/Machine/Persist.lean ====
section
/-!
DEFINITION. Effects of the persistence commands of chapter 7: write-back, the governor, the ceiling's inputs, the Dusk, restores and the
death of a journal generation.
-/
namespace Sys2Proof.Machine
open Sys2Proof

/-! ### Write-back and the governor -/

/-- A Far miss waits for a dirty way whose write-back has not been issued, for want of a zone (R215, R239): it is tried again. -/
def issueForMiss (phys : Phys) (b : Blk) : Blk :=
  if b.inDusk || b.freeTlc = 0 then b
  else
    let waits := fun (f : Nat) => !((List.range 16).any (fun w => (b.dirEntry (16 * b.stageSet f + w)).state == .writing))
    match b.host.held.findSome? (fun h => match h.why with | .dirtyWay f => if waits f then some f else none | _ => none) with
    | some f => retryOldest phys (.dirtyWay f) b
    | none => b

/-- WRITEBACK_ISSUE: the engine takes the next page (R175, R182). -/
def writebackIssue (phys : Phys) (b : Blk) : Blk :=
  match b.nextWriteBack with
  | some (p, paced) =>
    match issueProgram phys p b with
    | some b => if paced then modPers (fun x => { x with spent := x.spent + 4096 }) b else b
    | none => b
  | none => issueForMiss phys b

/-- A page leaves the programs in flight: its dirty bit clears unless it was redirtied (R175), and a program of a PRESSED or DRAINING unit counts
towards the measured rate. -/
def programEnds (p : Nat) (redirtied : Bool) (gov : GovState) (b : Blk) : Blk :=
  modPers (fun x => { x with inFlight := SMap.erase x.inFlight p, programs := SMap.erase x.programs p,
                             dirty := if redirtied then x.dirty else SMap.erase x.dirty p,
                             rwbBytes := if gov == .pressed || gov == .draining then x.rwbBytes + 4096 else x.rwbBytes }) b

/-- A page's program completes: its dirty bit clears unless the page was redirtied (R175, R214), and a Far page's map entry points to the new unit
(R242); a home page's follows when the stripe is closed (R214). No program is issued before its stripe page is filled and its OPEN record is
durable (R217). See assumption 33 (DEDUCED). -/
def programDone (p : Nat) (b : Blk) : Option Blk :=
  match SMap.find? b.pers.inFlight p, SMap.find? b.pers.programs p with
  | some redirtied, some u =>
    match b.unitPlace u with
    | some (s, slot) =>
      let ended := (b.stripe s).done.contains (slot / 4)
      if !ended && !b.mayProgram s (slot / 4) then none
      else
        let gov := b.gov
        let b := if ended then b else pageProgrammed s (slot / 4) b
        let b := if u.kind = .far && !redirtied then setCurrent u s slot b else b
        some (programEnds p redirtied gov b)
    | none => none
  | _, _ => none

/-- WRITEBACK_PROGRAM_DONE of a home page. -/
def writebackProgramDone (p : Nat) (b : Blk) : Blk := if (b.slotOfPage p).isSome then b else (programDone p b).getD b

/-- Bytes a window may hold in the credit bucket (R181). -/
def Blk.creditCap (b : Blk) : Int := b.cht.cur.pers.bucketWindows * b.refill

/-- GOVERNOR_WINDOW: at the end of a window of GOV_EPOCHS epochs, the refill, and what is measured per window (R80, R181, R184). Logical devices whose
writes are still held hear of it again in the new window (R183). -/
def governorWindow (b : Blk) : Blk :=
  if b.epoch < b.pers.windowEnd then b
  else
    let ns := Nat.max (b.cht.cur.pers.govEpochs * b.mer.body.l * b.mer.body.tickNs) 1
    let b := modPers (fun p => { p with credit := Min.min (p.credit + (b.refill : Int)) b.creditCap, spent := 0, throttlePosted := [],
                                        windowEnd := p.windowEnd + Nat.max b.cht.cur.pers.govEpochs 1,
                                        rwb := if p.rwbBytes = 0 then p.rwb else p.rwbBytes * 10 ^ 9 / ns, rwbBytes := 0 }) b
    (b.host.held.filter (fun h => h.why == .throttle)).foldl (fun b h => noteThrottle h.req.dpa b) b

/-- THROTTLE_RELEASE: the oldest held write passes the test of R183. -/
def throttleRelease (phys : Phys) (b : Blk) : Blk :=
  match b.host.held.find? (fun h => h.why == .throttle) with
  | none => b
  | some o =>
    if !b.releaseOk || b.inDusk then b
    else
      let pass : HeldReq → HeldReq := fun h => if h.why == .throttle && h.req.dpa / 128 == o.req.dpa / 128 then { h with req := { h.req with passed := true } } else h
      retryOldest phys .throttle { b with host := { b.host with held := b.host.held.map pass } }

/-- THROTTLE_OVERDRAW: the oldest held write has waited 1 ms, and one page is written back beyond the credit (R183). -/
def throttleOverdraw (phys : Phys) (b : Blk) : Blk :=
  if !b.throttling || b.inDusk || decide (262144 ≤ b.pers.inFlight.length) || decide (b.freeTlc ≤ 2) then b
  else
    match b.oldest ((SMap.keys b.pers.dirty).filter b.canWriteBack) with
    | none => b
    | some p =>
      (issueProgram phys p b).getD b

/-- HOLDUP_LOW_N_ASSERT: the ceiling falls to the degraded value (R184). -/
def holdupAssert (b : Blk) : Blk := noteCeiling (modPers (fun p => { p with holdupLow := true, degraded := true, holdupTimer := false }) b)

/-- HOLDUP_LOW_N_DEASSERT: the 1 s timer starts (R184). -/
def holdupDeassert (b : Blk) : Blk := modPers (fun p => { p with holdupLow := false, holdupTimer := p.degraded }) b

/-- HOLDUP_RESTORE: deasserted for 1 s, the ceiling returns (R184). -/
def holdupRestore (b : Blk) : Blk :=
  if b.pers.holdupTimer && !b.pers.holdupLow then noteCeiling (modPers (fun p => { p with degraded := false, holdupTimer := false }) b) else b

/-! ### The Dusk -/

/-- PWR_FAIL_N_ASSERT: the Dusk trigger from D7, an off request before it (R24, R390, R447). -/
def pwrFailAssert (b : Blk) : Blk :=
  let b := modPwr (fun p => { p with pwrFail := true, pwrStable := false }) b
  match b.pers.dusk with
  | some d => if d.thermal && !d.pwrFail then logEvent 14 {} (modPers (fun p => { p with dusk := some { d with pwrFail := true } }) b) else b
  | none => duskOrOff false false b

/-- The NAND programs in flight are waited out (R186 step 5). -/
def finishPrograms (b : Blk) : Blk :=
  (b.nvf.stripes.flatMap (fun e => (List.range 18).map (fun q => (e.1, q)))).foldl (fun b x => if b.mayProgram x.1 x.2 then pageProgrammed x.1 x.2 b else b) b

/-- DUSK_FLUSH_DONE: Halo and the merge buffer reach DRAM; where no stripe-journal replica is valid the save engine makes two first; then
the save header, the dirty map image and the pages (Table 7-3 steps 4 to 7, R446). While a RETURN has begun, steps 5 to 8 are skipped (R367). -/
def duskFlushDone (phys : Phys) (b : Blk) : Blk :=
  match b.pers.dusk with
  | some d =>
    if d.step = .flush then
      let b := flushMet phys true b
      if b.ident.fuse.returnBegun != 0 then handOver d b
      else
      let b := if b.replicaOk then b else replicaReplace b
      writeSave phys d (finishPrograms b)
    else b
  | none => b

/-- SAVE_COMPLETE: the completion mark is written (R188, R193), then the hand-over or the resumption. -/
def saveComplete (phys : Phys) (b : Blk) : Blk :=
  match b.pers.dusk, b.pers.gens.getLast? with
  | some d, some g =>
    if d.step = .saving then
      let m := writeMark g b
      let b := modPers (fun p => { p with gens := p.gens.dropLast ++ [m.1], dusk := some { d with step := .complete, todo := [] } }) m.2
      afterSave phys b
    else b
  | _, _ => b

/-- PWR_FAIL_RETURN: PWR_FAIL_N has stayed deasserted for 10 ms (R378, R379, R385). -/
def pwrFailReturn (phys : Phys) (b : Blk) : Blk :=
  afterSave phys (noteOn b (modPwr (fun p => { p with pwrFail := false, pwrStable := true }) b))

/-- HAND_OVER_DEADLINE: 250 ms after the trigger the hand-over waits for the Logbook no longer (R419). -/
def handOverDeadline (phys : Phys) (b : Blk) : Blk :=
  match b.pers.dusk with
  | some d => afterSave phys (modPers (fun p => { p with dusk := some { d with logDone := true } }) b)
  | none => b

/-! ### Restore and folding (R196 to R199) -/

/-- Stored copies of a PENDING page by its descriptor, newest first: live generations, then the home image (R198). The flag says that the
copy comes from a generation. -/
def Blk.copiesOf (b : Blk) (p : Nat) : List (FlashUnit × Bool) :=
  let home := ((b.homeUnit p).filter (fun u => u.tagOk)).toList.map (fun u => (u, false))
  match SMap.find? b.pers.from' p with
  | some (.journal _) => ((b.liveGens.filterMap (fun g => SMap.find? g.units p)).filter (fun u => u.tagOk)).map (fun u => (u, true)) ++ home
  | some .lost => []
  | _ => home

/-- A PENDING page of a Near reshape without a stored copy, which held only filled lines: its restore is a fill (R60, R197). See assumption 120 (DEDUCED). -/
def Blk.fillsOnRestore (b : Blk) (p : Nat) : Bool := (SMap.find? b.pers.from' p).isNone && !SMap.has b.nvf.homeMap p

/-- Logical devices that hear of a page's loss. -/
def Blk.pageLds (b : Blk) (p : Nat) : List Nat :=
  match (b.lineInfo (32 * p)).region with | some r => b.maskLds r | none => b.cht.cur.lds

/-- A page restores as lost: poisoned, dirty, one General Media record for each run of consecutive lost pages (R198). -/
def restoreLost (p : Nat) (b : Blk) : Blk :=
  let b := setPresence p .resident (poisonPage p b)
  let run := match b.pers.lastLost with | some q => q + 1 == p | none => false
  let b := if run || b.inDusk then b else postTo (b.pageLds p) .failure (.generalMedia (b.pageDpa p)) b
  modPers (fun x => { x with dirty := if b.tracked p then SMap.insert x.dirty p () else x.dirty, stamps := SMap.put 0 x.stamps p (wrap64 (x.lostEpoch + 1)),
                             lostPages := sat32 x.lostPages, lastLost := some p }) b

/-- RESTORE_DONE: a PENDING page's restore lands; `bad` newest copies fail their tag (R198). -/
def restoreDone (phys : Phys) (p bad : Nat) (b : Blk) : Blk :=
  if b.presence p != .pending || b.inDusk then b
  else
    let b := if SMap.find? b.pers.from' p == some .lost then b else readMap phys (homeLeaf p) b
    let b := if b.fillsOnRestore p then setPresence p .resident b else match (b.copiesOf p).drop bad with
      | [] => restoreLost p b
      | (u, journal) :: _ =>
        let b := loadUnit p u b
        modPers (fun x => { x with dirty := if journal then SMap.insert x.dirty p () else x.dirty, stamps := SMap.put 0 x.stamps p u.stamp }) b
    let b := modPers (fun x => { x with from' := SMap.erase x.from' p, restored := sat32 x.restored, issued := x.issued.filter (· != p) }) b
    retryWhy phys (.restore p) (noteCeiling b)

/-- The background restore's next page: lost ones by P, then journal ones by location, then home ones by P (R198). -/
def Blk.nextRestore (b : Blk) : Option Nat :=
  let ps := (b.pers.from'.filter (fun (e : Nat × RestoreFrom) => b.presence e.1 == .pending && !b.pers.issued.contains e.1))
  match ps.find? (fun (e : Nat × RestoreFrom) => e.2 == .lost) with
  | some e => some e.1
  | none =>
    let js := ps.filterMap (fun (e : Nat × RestoreFrom) => match e.2 with | .journal l => some (l, e.1) | _ => none)
    match js with
    | j :: rest => some (rest.foldl (fun (x y : Nat × Nat) => if y.1 < x.1 then y else x) j).2
    | [] =>
      match ps.head? with
      | some e => some e.1
      | none => b.pendingFrames.findSome? (fun f =>
          (List.range 65536).findSome? (fun i => let p := f * 65536 + i; if b.presence p == .pending && !b.pers.issued.contains p then some p else none))

/-- BACKGROUND_RESTORE: the next page's restore is issued; it yields to touches (R198). -/
def backgroundRestore (b : Blk) : Blk :=
  let touched := b.host.held.any (fun h => match h.why with | .restore _ => true | _ => false)
  if touched || b.inDusk then b
  else match b.nextRestore with
    | some p => modPers (fun x => { x with issued := x.issued ++ [p] }) b
    | none => b

/-- No unit of the generation is the newest durable copy of any page (R199). See assumption 37 (DEDUCED). -/
def Blk.genDead (b : Blk) (g : SaveGen) : Bool :=
  g.units.all (fun (e : Nat × FlashUnit) => !b.tracked e.1 || (match b.journalNewest e.1 with | some n => n.gen != g.gen | none => true))

/-- GENERATION_DEATH: the superblock is written with the new LIVE_FIRST and the generation's blocks are erased (R194, R199). Where the PERSISTENCE body
in force has a smaller journal than the ring, blocks return to the spare pool instead (R201). -/
def generationDeath (n : Nat) (b : Blk) : Blk :=
  match b.pers.gens.find? (fun g => g.gen = n) with
  | none => b
  | some g =>
    if !b.pers.live.contains n || !b.genDead g || b.inDusk then b
    else
      let b := writeSb id (modPers (fun p => { p with gens := p.gens.filter (fun x => x.gen != n), live := p.live.filter (· != n) }) b)
      let back := Nat.min g.bytes (b.nvf.jRing - b.cht.cur.pers.journalGib * gib)
      modNvf (fun v => { v with jErase := v.jErase + (g.bytes - back), jRing := v.jRing - back, stripes := SMap.keep v.stripes (fun s _ => !g.stripes.contains s) }) b

end Sys2Proof.Machine
end

