-- ==== Sys2Proof/Machine/Transit.lean ====
section
/-!
DEFINITION. Effects of the Far staging and Transit commands of chapter 9: fills and write-backs of staging slots, promote and evict,
windows, fills, releases and the stall ceiling.
-/
namespace Sys2Proof.Machine
open Sys2Proof

/-- Change the Far tier's state. -/
def modFar (f : FarSt → FarSt) (b : Blk) : Blk := { b with far := f b.far }

/-! ### Sources (R240, R249) -/

/-- Filled lines land in every line of a page (R165, R240). -/
def landZeros (p : Nat) (b : Blk) : Blk := (List.range 32).foldl (fun b j => landLine (32 * p + j) (b.lineFor (32 * p + j) 0 false 0) b) b

/-- Write Far page `f` from its current unit to local page `p`; lines of `bad` cannot be read or reconstructed (R240). Answers whether a
line was written poisoned. -/
def fillFrom (p f : Nat) (bad : List Nat) (b : Blk) : Bool × Blk :=
  let b := setPresence p .resident b
  let lost := match SMap.find? b.nvf.farMap f with | some e => e.poisoned | none => false
  match b.farUnit f with
  | none => if SMap.has b.nvf.farMap f then (true, poisonPage p b) else (false, landZeros p b)
  | some u =>
    if lost || !u.tagOk then (true, poisonPage p b)
    else
      let b := loadUnit p u b
      (u.poisonMask != 0 || !bad.isEmpty, poisonLines p (bad.filter (fun j => decide (j < 32))) b)

/-! ### Staging (R240 to R245) -/

/-- Bits of a logical device in an entry's HOLD and ROA fields: HOLD_B and ROA_B for unit B of a Binary pair. -/
def Blk.sideB (b : Blk) : Bool := b.binary && b.cht.isB

/-- The device holds a reference on the entry. -/
def StageEntry.holds (e : StageEntry) (sideB : Bool) (n : Nat) : Bool := if sideB then e.holdB.testBit n else e.holdA.testBit n

/-- Set or clear a device's HOLD and ROA bits. -/
def StageEntry.setRefs (e : StageEntry) (sideB : Bool) (n : Nat) (hold roa : Bool) : StageEntry :=
  let put := fun (m : Nat) (v : Bool) => if v then setBit m n else clearBit m n
  if sideB then { e with holdB := put e.holdB hold, roaB := put e.roaB roa } else { e with holdA := put e.holdA hold, roaA := put e.roaA roa }

/-- A write-back of the page has ended (R242). -/
def StageEntry.written (e : StageEntry) : StageEntry :=
  if e.redirtied then { e with state := .dirty, redirtied := false, taker := none } else { e with state := .clean }

/-- References whose ROA bit is set are released (R245). -/
def StageEntry.arrive (e : StageEntry) : StageEntry :=
  { e with holdA := e.holdA &&& (2 ^ 64 - 1 - e.roaA), holdB := e.holdB &&& (2 ^ 64 - 1 - e.roaB), roaA := 0, roaB := 0 }

/-- A logical device's staging control block. -/
def Blk.stageCtl (b : Blk) (n : Nat) : StageCtl := SMap.get StageCtl.fresh b.far.ctl n

/-- Change a staging control block. -/
def modCtl (n : Nat) (f : StageCtl → StageCtl) (b : Blk) : Blk := modFar (fun x => { x with ctl := SMap.upd StageCtl.fresh x.ctl n f }) b

/-- How one page of a command ends: done, failed with a RESULT, or waiting for a way (R241). -/
inductive StageStep where
  | done (b : Blk) | fail (result : Nat) (b : Blk) | wait (b : Blk)

/-- One page of a promote (R244). -/
def promotePage (phys : Phys) (n dpa : Nat) (b : Blk) : StageStep :=
  if b.area dpa != .far || b.reach n dpa != .ok then .fail 2 b
  else if !b.homed dpa then .done b
  else
    let f := b.farPage dpa
    let take := fun (i : Nat) (b : Blk) => modEntry i (fun e => e.setRefs b.sideB n true false) b
    let b := dirRead phys (b.stageSet f) b
    match b.stageFind f with
    | some i =>
      if (b.dirEntry i).count = 0 && decide (b.cht.cur.transit.pinWays ≤ ((List.range 16).filter (fun w => decide (0 < (b.dirEntry (16 * b.stageSet f + w)).count))).length)
      then .fail 3 (setErr .trn 5 b)
      else
        let filling := (b.dirEntry i).state == .filling
        .done (if filling then modCtl n (fun c => { c with filling := c.filling ++ [f] }) (take i b) else take i b)
    | none =>
      let pinned := ((List.range 16).filter (fun w => decide (0 < (b.dirEntry (16 * b.stageSet f + w)).count))).length
      if b.cht.cur.transit.pinWays ≤ pinned then .fail 3 (setErr .trn 5 b)
      else
        let r := stageAccess phys f b
        match r.2.stageFind f with
        | some i =>
          let filling := (r.2.dirEntry i).state == .filling
          let b := modEntry i (fun e => { e with accessed := false }) (take i r.2)
          .done (if filling then modCtl n (fun c => { c with filling := c.filling ++ [f] }) b else b)
        | none => .wait r.2

/-- One page of an evict (R244). -/
def evictPage (phys : Phys) (n dpa : Nat) (b : Blk) : StageStep :=
  if !b.homed dpa && b.area dpa == .far then .done b
  else
    let b := if b.area dpa = .far then dirRead phys (b.stageSet (b.farPage dpa)) b else b
    match (if b.area dpa = .far then b.stageFind (b.farPage dpa) else none) with
    | none => .fail 4 b
    | some i =>
      let e := b.dirEntry i
      if !e.holds b.sideB n then .fail 4 b
      else if e.state == .filling then .done (modEntry i (fun e => e.setRefs b.sideB n true true) b)
      else .done (modEntry i (fun e => e.setRefs b.sideB n false false) b)

/-- Process a command's pages in ascending order up to the first that fails or waits (R244). -/
def stageRun (phys : Phys) (n : Nat) : Nat → Blk → Blk
  | 0, b => b
  | k + 1, b =>
    match (b.stageCtl n).busy with
    | none => b
    | some (dpa, left) =>
      if left = 0 then modCtl n (fun c => { c with busy := none, result := 0 }) b
      else
        match (if (b.stageCtl n).evict then evictPage phys n dpa b else promotePage phys n dpa b) with
        | .done b => stageRun phys n k (modCtl n (fun c => { c with busy := some (dpa + 4096, left - 1), pagesDone := c.pagesDone + 1 }) b)
        | .fail r b => modCtl n (fun c => { c with busy := none, result := r }) b
        | .wait b => b

/-- A staging command begins (Table 9-12). -/
def stageBegin (evict : Bool) (n dpa count : Nat) (b : Blk) : Blk :=
  modCtl n (fun c => { c with result := 1, pagesDone := 0, evict := evict, busy := some (dpa / 4096 * 4096, Nat.min count 4096),
                              filling := if evict then c.filling else [] }) b

/-- A staging command of a logical device: TRN_LD_PROMOTE or TRN_LD_EVICT of `count` pages from a DPA (R244). -/
def stageCommand (phys : Phys) (evict : Bool) (n dpa count : Nat) (b : Blk) : Blk :=
  if (b.stageCtl n).busy.isSome then modCtl n (fun c => { c with result := 5 }) b
  else stageRun phys n 4097 (stageBegin evict n dpa count b)

/-- TRN_LD_PROMOTE. -/
def trnPromote (phys : Phys) (n dpa count : Nat) (b : Blk) : Blk := stageCommand phys false n dpa count b

/-- TRN_LD_EVICT. -/
def trnEvict (phys : Phys) (n dpa count : Nat) (b : Blk) : Blk := stageCommand phys true n dpa count b

/-- Commands that wait for a way go on. -/
def stageResume (phys : Phys) (b : Blk) : Blk :=
  (b.far.ctl.filter (fun (e : Nat × StageCtl) => e.2.busy.isSome)).foldl (fun b e => stageRun phys e.1 4097 b) b

/-- A way of a page's set may be free: misses that wait for one are served again, then commands that wait go on (R241). -/
def wayFreed (phys : Phys) (f : Nat) (b : Blk) : Blk :=
  stageResume phys (retry phys (fun h => match h.why with | .dirtyWay g => b.stageSet g == b.stageSet f | _ => false) b)

/-- STAGING_FILL_LAND: the page lands, references marked for release go, held requests are released (R240, R245). -/
def stagingFillLand (phys : Phys) (f : Nat) (bad : List Nat) (b : Blk) : Blk :=
  let b := dirRead phys (b.stageSet f) b
  match b.stageFind f with
  | none => b
  | some i =>
    if (b.dirEntry i).state != .filling || b.inDusk then b
    else
      let b := (fillFrom (b.slotPage i) f bad b).2
      let b := modEntry i (fun e => { e.arrive with state := .clean }) b
      let drop : StageCtl → StageCtl := fun c => { c with filling := c.filling.filter (· != f) }
      let b := modFar (fun x => { x with ctl := SMap.mapVal x.ctl (fun _ c => drop c) }) b
      wayFreed phys f (retryWhy phys (.staging f) b)

/-- FAR_WRITEBACK_DONE: a staged page's program completes; the entry becomes CLEAN, or stays DIRTY when redirtied (R242), and a miss that
waits for a way of its set goes on (R241). -/
def farWritebackDone (phys : Phys) (f : Nat) (b : Blk) : Blk :=
  match b.stageFind f with
  | none => b
  | some i =>
    match programDone (b.slotPage i) b with
    | none => b
    | some b => wayFreed phys f (modEntry i StageEntry.written b)

/-! ### Windows (R246 to R253) -/

/-- The i-th window that a logical device owns on this unit, in ascending window number (R256). -/
def Blk.ownWindow (b : Blk) (n i : Nat) : Option WindowCfg := (b.myWindows.filter (fun w => w.1.owner = n))[i]?.map (·.1)

/-- A window's configuration. -/
def Blk.windowCfg (b : Blk) (w : Nat) : Option WindowCfg := (b.myWindows.find? (fun x => x.1.window = w)).map (·.1)

/-- A window without LOOP is done when every fill has started and every slot has been released (R248). -/
def noteDone (w : WindowCfg) (b : Blk) : Blk :=
  let x := b.window w.window
  if x.state = .running && !w.loop && decide (x.listLen ≤ x.nextFill) && (List.range w.slots).all (fun s => (b.trnSlot w.window s).state == .empty)
  then modWindow w.window (fun x => { x with state := .done }) b else b

/-- Release a slot (R251): EMPTY; reads held on it complete with poison. -/
def releaseSlot (w : WindowCfg) (s : Nat) (b : Blk) : Blk :=
  if (b.trnSlot w.window s).state == .empty then b
  else
    let b := modTrnSlot w.window s (fun _ => {}) b
    let mine := b.host.held.filter (fun (h : HeldReq) => h.why == .slot w.window s)
    let b := { b with host := { b.host with held := b.host.held.filter (fun (h : HeldReq) => h.why != .slot w.window s) } }
    let b := mine.foldl (fun b h => answerNothing h.req b) b
    noteDone w (if mine.isEmpty then b else setErr .trn 3 b)

/-- Stop a window: every slot is released and the window becomes IDLE (R253). -/
def stopWindow (w : WindowCfg) (b : Blk) : Blk :=
  let b := (List.range w.slots).foldl (fun b s => releaseSlot w s b) b
  modWindow w.window (fun x => { x with state := .idle }) b

/-- A write to a window area that the device does not own (R112, R256). -/
def noWindow (n i : Nat) (b : Blk) : Blk := windowViolation n (0x2100000 + i * 0x40000) false b

/-- START (R248); ignored while RUNNING and while TRANSIT is not enabled (R254). -/
def trnStart (n i : Nat) (b : Blk) : Blk :=
  match b.ownWindow n i with
  | none => noWindow n i b
  | some w =>
    if !b.cht.cur.transit.enable || (b.window w.window).state = .running then b
    else modWindow w.window (fun x => { x with state := .running, nextFill := 0, slots := [] }) b

/-- STOP (R253). -/
def trnStop (n i : Nat) (b : Blk) : Blk :=
  match b.ownWindow n i with
  | none => noWindow n i b
  | some w => stopWindow w b

/-- TRN_W_RELEASE: a slot number at or above W writes nothing and is a violation (Table 9-11). -/
def trnRelease (n i s : Nat) (b : Blk) : Blk :=
  match b.ownWindow n i with
  | none => noWindow n i b
  | some w => if w.slots ≤ s then noWindow n i b else releaseSlot w s b

/-- A descriptor passes the checks of R248. -/
def Blk.descOk (b : Blk) (w : WindowCfg) (d : TrnDesc) : Bool :=
  let len := d.word1 % 2 ^ 32
  d.src % 4096 == 0 && len % 4096 == 0 && decide (4096 ≤ len) && decide (len ≤ w.slotMib * mib) &&
  (List.range (len / 4096)).all (fun i => b.area (d.src + 4096 * i) == .far && b.reach w.owner (d.src + 4096 * i) == .ok)

/-- TRANSIT_FILL_START: the next fill of a window starts in its EMPTY slot, or fails (R248); it starts URGENT when a read already waits for
it (R252), and not while the lease gate is closed (R249) or from the Dusk trigger. -/
def transitFillStart (phys : Phys) (wn : Nat) (b : Blk) : Blk :=
  match b.windowCfg wn with
  | none => b
  | some w =>
    let x := b.window wn
    let s := x.nextFill % Nat.max w.slots 1
    let k := x.nextFill % Nat.max x.listLen 1
    if x.state != .running || (b.trnSlot wn s).state != .empty || (!w.loop && decide (x.listLen ≤ x.nextFill)) || b.inDusk || !(b.half b.ownHalf).gateOpen then b
    else
      let d := SMap.get TrnDesc.zero x.descs k
      let len := d.word1 % 2 ^ 32
      let waiting := b.host.held.any (fun h => h.why == .slot wn s)
      let base : TrnSlot := { desc := k, layerTag := d.word1 / 2 ^ 32 % 2 ^ 16, fillNo := x.nextFill, src := d.src, length := len,
                              due := if (d.word1 / 2 ^ 48).testBit 0 then some d.due else none }
      let b := modWindow wn (fun x => { x with nextFill := x.nextFill + 1 }) b
      if b.descOk w d then
        let b := modTrnSlot wn s (fun _ => { base with state := if waiting then .urgent else .filling, todo := List.range (len / 4096) }) b
        if waiting then retryWhy phys (.slot wn s) b else b
      else retryWhy phys (.slot wn s) (setErr .trn 1 (modTrnSlot wn s (fun _ => { base with state := .failed, length := 0 }) b))

/-- The page's contents come over the link from the twin that homes it; no message carries them, so they are open. See assumption 143 (DESIGN CHOICE). -/
def landTwin (p : Nat) (b : Blk) : Blk :=
  (List.range 32).foldl (fun b j =>
    let b := { b with free := b.free + 1 }
    landLine (32 * p + j) (b.lineFor (32 * p + j) (BitVec.ofNat 1024 (Config.freeNat b.free)) false 0) b) (setPresence p .resident b)

/-- Local page of an offset of a window's slot. -/
def Blk.trnPage (b : Blk) (wn s off : Nat) : Nat :=
  match b.myWindows.find? (fun x => x.1.window = wn) with
  | some (w, start) => (((carveOf b.cht.cur.near 5).map (·.base)).getD 0 + start + s * w.slotMib * mib + off) / 4096
  | none => 0

/-- TRANSIT_PAGE_LAND: the page that a fill reads next lands, from the staging slot or from the current Far unit (R249); held reads of it
are served. A slot whose page is PENDING is restored first (R198, R243). While the lease gate is closed the fill is held (R21, R249). -/
def transitPageLand (phys : Phys) (wn s : Nat) (bad : List Nat) (b : Blk) : Blk :=
  let sl := b.trnSlot wn s
  match sl.todo with
  | [] => b
  | q :: rest =>
    let slot := b.stageFind (b.farPage (sl.src + 4096 * q))
    if b.inDusk || !(b.half b.ownHalf).gateOpen || (match slot with | some i => b.presence (b.slotPage i) == .pending | none => false) then b
    else
      let dpa := sl.src + 4096 * q
      let f := b.farPage dpa
      let b := dirRead phys (b.stageSet f) b
      let p := b.trnPage wn s (4096 * q)
      let fromFlash : Blk → Bool × Blk := fun b => if b.homed dpa then fillFrom p f bad b else (false, landTwin p b)
      let r : Bool × Blk := match slot with
        | some i =>
          if (b.dirEntry i).state == .filling then fromFlash b
          else match pageLines phys (b.slotPage i) .wb b with
            | (some ls, b) => let u := b.unitOf (b.slotPage i) 0 false ls; (u.poisonMask != 0, loadUnit p u b)
            | (none, b) => (true, setPresence p .resident (poisonPage p b))
        | none => fromFlash b
      let b := modTrnSlot wn s (fun x => { x with todo := rest, poison := x.poison || r.1, state := if rest.isEmpty then .ready else x.state }) r.2
      retryWhy phys (.slot wn s) b

/-- TRANSIT_DUE: the count reaches the slot's DUE (R251). -/
def transitDue (wn s : Nat) (b : Blk) : Blk :=
  match b.windowCfg wn, (b.trnSlot wn s).due with
  | some w, some d => if d ≤ b.mer.count then releaseSlot w s b else b
  | _, _ => b

/-- TRANSIT_STALL_CEILING: the oldest held read of a slot has been held STALL_US and completes with poison (R252). -/
def transitStall (wn s : Nat) (b : Blk) : Blk :=
  match b.windowCfg wn, b.host.held.find? (fun h => h.why == .slot wn s) with
  | some w, some h =>
    let b := { b with host := { b.host with held := b.host.held.erase h } }
    let b := answerNothing h.req b
    let sl := b.trnSlot wn s
    let b := modTrnSlot wn s (fun x => { x with late := true }) b
    let last := view [place wn 8 0, place s 6 8, place sl.desc 12 14, place sl.fillNo 38 26]
    let b := setErr .trn 0 (modFar (fun x => { x with lateCount := sat32 x.lateCount, lastLate := last }) b)
    postTo [w.owner] .warning (vendorRec .transitLate { detail := [wn % 2 ^ 16 + s * 2 ^ 16] } b) b
  | _, _ => b

end Sys2Proof.Machine
end

