-- ==== Sys2Proof/Machine/Meridian.lean ====
section
/-!
DEFINITION. Effects of the Meridian commands of chapter 3: ticks of the pins, dead reckoning, frames, slewing, PTP, epoch boundaries and
seals, and the hourly record.
-/
namespace Sys2Proof.Machine
open Sys2Proof

/-- Change the Meridian front end. -/
def modMer (f : Mer → Mer) (b : Blk) : Blk := { b with mer := f b.mer }

/-! ### Flags (R76) -/

/-- Reason bits of RUN_REASON (Table 3-7). -/
def reasonDr : Nat := 1
def reasonAlign : Nat := 2
def reasonConfig : Nat := 4
def reasonPtp : Nat := 8

/-- Reasons for which a tick counted now flags its epoch. -/
def Mer.reasons (m : Mer) : Nat :=
  (match m.state with | .locked => 0 | .slewing => reasonAlign | _ => reasonDr) ||| (if m.capable then 0 else reasonConfig) |||
  (if m.ptpExcursion then reasonPtp else 0)

/-- Flag the current epoch: a run opens, with its Logbook record, or goes on (R76). -/
def flagEpoch (why first : Nat) (b : Blk) : Blk :=
  if why = 0 then b
  else if b.mer.runOpen then
    modMer (fun m => { m with flagNow := m.flagNow ||| why, runReason := m.runReason ||| why, runFirst := Nat.min m.runFirst first }) b
  else
    logEvent 7 {} (modMer (fun m => { m with runOpen := true, runFirst := first, runLast := none, runReason := why, flagNow := why }) b)

/-- Flag the epoch of the tick just counted, for the state's reasons. -/
def flagTick (b : Blk) : Blk := flagEpoch b.mer.reasons b.epoch b

/-- Close the run at the end of an epoch that was not flagged: its record, and FLAGGED_RUN (Table 4-5). -/
def closeRun (last : Nat) (b : Blk) : Blk :=
  let first := b.mer.runFirst
  let b := modMer (fun m => { m with runOpen := false, runLast := some last, runs := m.runs ++ [(first, last)], runsSinceDawn := m.runsSinceDawn + 1 }) b
  let b := logEvent 8 {} b
  if b.inDusk then b else postVendor .flaggedRun { first := first, last := last } b

/-! ### Drift (R78) -/

/-- The drift allowance A in ticks. -/
def Mer.drift (m : Mer) : Nat :=
  match m.state with
  | .locked => 0
  | .slewing => (if m.count ≤ m.shadow then m.shadow - m.count else m.count - m.shadow) + 1
  | _ => ceilDiv (m.drTicks * 50) 1000000 + 1

/-! ### Faults (Table 3-6) -/

/-- The Meridian front end's error pin with its location (Tables 1-3, 16-1). -/
def merPin (b : Blk) : Blk := assertPin 86 (faultCluster 2 0x06) b

/-- A fault with error pin and Logbook record. -/
def merFault (bit : Nat) (b : Blk) : Blk := merPin (setErrLog .mer bit { kind := .fault, loc := faultCluster 2 0x06 } b)

/-- A fault with a Logbook record only. -/
def merNote (bit : Nat) (b : Blk) : Blk := setErrLog .mer bit { kind := .fault, loc := faultCluster 2 0x06 } b

/-- The source is lost: dead reckoning from the present count. A count that no source drives goes on in the dead reckoning it is in (R65, R66). -/
def loseSource (b : Blk) : Blk :=
  let f : Mer → Mer := fun m => { m with state := .deadReckoning, drTicks := if m.state = .locked ∨ m.state = .slewing then 0 else m.drTicks, source := false }
  modMer (fun m => { f m with prevFrame := none, disagreed := none, adjust := false, ptpGood := 0, ptpBad := 0, ptpOwed := 0 }) b

/-! ### Counting -/

/-- Advance the count by `n`. -/
def advance (n : Nat) (b : Blk) : Blk := flagTick (modMer (fun m => { m with count := wrap64 (m.count + n) }) b)

/-- SLEW_ADJUST: on the 1,024th tick of a slew, which the shadow count has counted already, the count advances by 2 where the offset before the tick is
positive and holds where it is negative; at offset 0 the state becomes LOCKED (R79). -/
def slewAdjust (b : Blk) : Blk :=
  if b.mer.state != .slewing || !b.mer.adjust then b
  else
    let n := if b.mer.count + 1 < b.mer.shadow then 2 else if b.mer.shadow < b.mer.count + 1 then 0 else 1
    let b := advance n (modMer (fun m => { m with adjust := false }) b)
    if b.mer.shadow = b.mer.count then modMer (fun m => { m with state := .locked }) b else b

/-- A source tick: an accepted edge of the pins, or a tick of the PTP tick generator. -/
def sourceTick (b : Blk) : Blk :=
  match b.mer.state with
  | .locked => advance 1 b
  | .slewing =>
    let b := slewAdjust b
    if b.mer.state = .slewing then
      let b := modMer (fun m => { m with shadow := wrap64 (m.shadow + 1), slewTicks := m.slewTicks + 1 }) b
      if b.mer.slewTicks % 1024 = 0 then modMer (fun m => { m with adjust := true }) b else advance 1 b
    else advance 1 b
  | _ => b

/-- MERIDIAN_TICK: an edge of MER_TICK, `gap` nanoseconds after the previous accepted one (R66). It counts only under SOURCE PINS (R502). -/
def meridianTick (gap : Nat) (b : Blk) : Blk :=
  if b.mer.body.source != 0 || b.mer.holdAtFloor then b
  else if 2 * gap < b.mer.body.tickNs then setErr .mer 1 b
  else sourceTick (modMer (fun m => { m with edges := m.edges + 1, source := true }) b)

/-- TICK_LOSS (R66). -/
def tickLoss (b : Blk) : Blk :=
  if b.mer.body.source != 0 || !b.mer.source then b
  else merFault 0 (loseSource b)

/-- A tick of the reference under PTP: the disciplined generator makes one tick, two while it runs ahead, none while it is held back (R71). How the
discipline spreads over the ticks is not given (assumption 56, DESIGN CHOICE). -/
def generatorTick (b : Blk) : Blk :=
  if b.mer.ptpOwed < 0 then modMer (fun m => { m with ptpOwed := m.ptpOwed + 1 }) b
  else if 0 < b.mer.ptpOwed then sourceTick (sourceTick (modMer (fun m => { m with ptpOwed := m.ptpOwed - 1 }) b))
  else sourceTick b

/-- DEAD_RECKONING_TICK: TICK_NS / 10 cycles of the reference (R77); under PTP it is a tick of the disciplined generator (R71). -/
def deadReckoningTick (b : Blk) : Blk :=
  if b.mer.holdAtFloor then b
  else match b.mer.state with
    | .acquiring => advance 1 (modMer (fun m => { m with drTicks := m.drTicks + 1 }) b)
    | .deadReckoning => advance 1 (modMer (fun m => { m with drTicks := m.drTicks + 1 }) b)
    | _ => if b.mer.body.source = 1 then generatorTick b else b

/-! ### Acquisition and re-alignment -/

/-- The count may step: before D7, before the first STATUS of D6 (R456), and not after a Dusk has fired (R69, R79). -/
def Blk.mayStep (b : Blk) : Bool := !b.fromD7 && !b.inDusk && b.twin.statusSent.isNone

/-- The epoch that a step lands in begins, flagged (R76). -/
def landStep (b : Blk) : Blk :=
  flagEpoch reasonAlign b.epoch (modMer (fun m => { m with epoch := m.now, flagNow := if m.now = m.epoch then m.flagNow else 0 }) b)

/-- Step the count (R68, R69): the epochs left and entered are flagged (R76), from `first` on. -/
def stepCount (n first : Nat) (b : Blk) : Blk :=
  let b := flagEpoch reasonAlign (Nat.min first b.epoch) b
  let b := modMer (fun m => { m with count := wrap64 n, state := .locked, drTicks := 0, disagreed := none }) b
  landStep b

/-- Begin to slew toward a source count, or be LOCKED at offset 0; pins more than 2^20 ticks behind are BACKWARD (R79). -/
def beginSlew (n : Nat) (b : Blk) : Blk :=
  if b.inDusk then b
  else if b.mer.body.source = 0 ∧ n + 2 ^ 20 < b.mer.count then merFault 5 b
  else if n = b.mer.count then modMer (fun m => { m with state := .locked, drTicks := 0, disagreed := none }) b
  else flagTick (modMer (fun m => { m with state := .slewing, shadow := n, slewTicks := 0, adjust := false, disagreed := none }) b)

/-- The source shows count `n` now, by frames whose last COUNT is `frames`, and the controller follows it; a source below the floor before D7 is
BACKWARD. A BACKWARD source met in LOCKED or SLEWING leaves that state as it is: Table 3-6 says only that dead reckoning goes on (assumption 124, DESIGN
CHOICE). -/
def follow (n frames first : Nat) (b : Blk) : Blk :=
  if b.mayStep then
    if frames < b.mer.floor then merFault 5 b else stepCount n first b
  else beginSlew n b

/-! ### The frame (R67) -/

/-- The bit of a Manchester cell by its level before and after mid-cell; none without a mid-cell transition. -/
def cellBit : Bool × Bool → Option Bool
  | (false, true) => some true
  | (true, false) => some false
  | _ => none

/-- The number that bits spell, most significant first. -/
def msbNat (bits : List Bool) : Nat := bits.foldl (fun n x => 2 * n + (if x then 1 else 0)) 0

/-- CRC-16 with polynomial 0x1021, initial value 0xFFFF, no reflection and no final XOR (Table 3-1). -/
def frameCrc (bits : List Bool) : Nat :=
  bits.foldl (fun c x => let top := c.testBit 15 != x; let s := c * 2 % 2 ^ 16; if top then s ^^^ 0x1021 else s) 0xFFFF

/-- COUNT and FLAGS of a valid frame of 96 cells (Table 3-1, R68). -/
def decodeFrame (cells : List (Bool × Bool)) : Option (Nat × Nat) :=
  match cells.mapM cellBit with
  | none => none
  | some bits =>
    let count := msbNat ((bits.drop 8).take 64)
    if bits.length = 96 ∧ msbNat (bits.take 8) = 0xD5 ∧ msbNat (bits.drop 80) = frameCrc ((bits.drop 8).take 72) ∧ count % 2 ^ 20 = 0 then
      some (count, msbNat ((bits.drop 72).take 8))
    else none

/-- A valid frame's COUNT and FLAGS, `since` accepted edges after its anchor edge, act by the state (R68, R69). -/
def takeFrame (count flags since : Nat) (b : Blk) : Blk :=
  let m := b.mer
  let anchor := m.edges - since
  let b := modMer (fun m => { m with frameLast := count, frameFlags := flags, prevFrame := some (count, anchor) }) b
  let compare := fun (mine : Nat) (b : Blk) =>
    let b := modMer (fun m => { m with offsetNs := ((count : Int) - mine) * m.body.tickNs }) b
    if count = mine then modMer (fun m => { m with disagreed := none }) b
    else
      let b := modMer (fun m => { m with disagreed := some (count, mine) }) (merNote 3 b)
      match m.disagreed with
      | some (c, at') => if count = c + 2 ^ 20 then follow (count + since) count (at' / Nat.max m.body.l 1) b else b
      | none => b
  match m.state with
  | .locked => compare (m.count - since) b
  | .slewing => compare (m.shadow - since) b
  | _ =>
    match m.prevFrame with
    | some (c, a) =>
      if count = c + 2 ^ 20 && anchor = a + 2 ^ 20 then
        follow (count + since) count b.epoch (modMer (fun m => { m with offsetNs := ((count + since : Nat) - (m.count : Int)) * m.body.tickNs }) b)
      else b
    | none => b

/-- MER_FRAME: a frame's 96 cells, as their levels before and after mid-cell; `since` edges have been accepted since its anchor edge (R67 to R69). An
invalid frame is discarded. -/
def merFrame (cells : List (Bool × Bool)) (since : Nat) (b : Blk) : Blk :=
  if b.mer.body.source != 0 || b.mer.holdAtFloor then b
  else match decodeFrame cells with
    | none => setErr .mer 2 b
    | some (count, flags) => takeFrame count flags since b

/-- FRAME_MISSING: no frame within 768 ticks of its anchor edge; the count continues (Table 3-6). -/
def frameMissing (b : Blk) : Blk := if b.mer.body.source = 0 then setErr .mer 4 b else b

/-- MERIDIAN_WAIT_TIMEOUT: the wait of D6 ends without lock, and the controller goes on in dead reckoning (R69), which the count has been in
since the floor (R65). See assumption 55 (DEDUCED). -/
def meridianWaitTimeout (b : Blk) : Blk :=
  modMer (fun m => { m with waitDone := true, state := if m.state = .acquiring then .deadReckoning else m.state }) b

/-! ### PTP (R70, R71) -/

/-- Lock and excursion by one measured offset in nanoseconds: 16 consecutive Syncs in range lock, 16 out of range are an excursion, which ends at the next
in range (R71). -/
def ptpJudge (off : Int) (b : Blk) : Blk :=
  let inRange := decide (2 * off.natAbs ≤ b.mer.body.skewNs)
  let good := if inRange then b.mer.ptpGood + 1 else 0
  let bad := if inRange then 0 else b.mer.ptpBad + 1
  let exc := decide (16 ≤ bad)
  let b := if exc && !b.mer.ptpExcursion then merNote 7 b else b
  modMer (fun m => { m with offsetNs := off, ptpGood := good, ptpBad := bad, ptpExcursion := exc, source := true }) b

/-- LOCKED after 16 consecutive Syncs in range, the generator taking the rest of the offset (R71). -/
def ptpLock (target : Nat) (b : Blk) : Blk :=
  if 16 ≤ b.mer.ptpGood then modMer (fun m => { m with state := .locked, drTicks := 0, ptpOwed := (target : Int) - m.count }) b else b

/-- A measurement of PTP time `t` in nanoseconds at this instant: the count's due value, and the way to it (R69, R71, R79). See assumption 56 (DEDUCED). -/
def ptpMeasure (t : Int) (b : Blk) : Blk :=
  let rel := t - (b.mer.body.ptpOrigin * 10 ^ 9 : Nat)
  if rel < 0 then merFault 5 b
  else
    let target := (rel / (Nat.max b.mer.body.tickNs 1 : Nat)).toNat
    let b := ptpJudge (rel - (b.mer.count * b.mer.body.tickNs : Nat)) b
    match b.mer.state with
    | .locked => modMer (fun m => { m with ptpOwed := (target : Int) - m.count }) b
    | .slewing =>
      modMer (fun m => if target = m.count then { m with shadow := target, state := .locked, ptpOwed := 0 } else { m with shadow := target }) b
    | _ =>
      if b.mayStep then
        if target < b.mer.floor then merFault 5 b
        else ptpLock target (landStep (modMer (fun m => { m with count := wrap64 target }) (flagEpoch reasonAlign b.epoch b)))
      else if b.mer.ptpBad = 0 then ptpLock target b
      else beginSlew target b

/-- PTP_PORT is up and the message on it has the transport and domain of the body in force (R70). -/
def Blk.ptpTakes (b : Blk) (h : PtpHdr) : Bool :=
  b.mer.body.source = 1 && !b.mer.holdAtFloor && h.port == b.mer.body.ptpPort && h.annexE == b.mer.body.ptpFlags.testBit 0 &&
  h.domain == b.mer.body.ptpDomain && (SMap.get EthPort.down b.orb.ports h.port).up

/-- A message of the selected time transmitter. -/
def Blk.ptpFrom (b : Blk) (h : PtpHdr) : Bool := b.ptpTakes h && b.mer.ptpMaster == some h.master

/-- PTP_SYNC: a Sync with its origin time, or the first half of a two-step one (R70). `t` is the origin timestamp in nanoseconds. -/
def ptpSync (h : PtpHdr) (t : Int) (twoStep : Bool) (b : Blk) : Blk :=
  if !b.ptpFrom h then b
  else if twoStep then modMer (fun m => { m with ptpSyncAt := some m.count }) b
  else ptpMeasure (t + b.mer.ptpDelay) b

/-- PTP_FOLLOW_UP: the precise origin timestamp of the last two-step Sync, brought forward by the ticks counted since (R70). -/
def ptpFollowUp (h : PtpHdr) (t : Int) (b : Blk) : Blk :=
  match b.ptpFrom h, b.mer.ptpSyncAt with
  | true, some c => ptpMeasure (t + b.mer.ptpDelay + ((b.mer.count - c) * b.mer.body.tickNs : Nat)) (modMer (fun m => { m with ptpSyncAt := none }) b)
  | _, _ => b

/-- PTP_ANNOUNCE: the best master clock algorithm selects the transmitter of the lowest rank among those heard. `rank` is the announced data set as one
number: priority 1, clock class, accuracy, variance, priority 2 and identity, the first most significant (IEEE 1588). -/
def ptpAnnounce (h : PtpHdr) (rank : Nat) (b : Blk) : Blk :=
  if !b.ptpTakes h then b
  else modMer (fun m => { m with ptpMasters := m.ptpMasters.filter (fun x => x.1 != h.master) ++ [(h.master, rank)] }) b

/-- PTP_DELAY_REQ_SEND: a delay request, or a peer-delay request where PTP_FLAGS says so (R70). -/
def ptpDelayReqSend (b : Blk) : Blk :=
  let body := b.mer.body
  if body.source != 1 || b.mer.ptpMaster.isNone || !(SMap.get EthPort.down b.orb.ports body.ptpPort).up then b
  else
    let s := drawFree b
    let q := s.1 % 65536
    send (.ptpDelayReq body.ptpPort (body.ptpFlags.testBit 0) (body.ptpFlags.testBit 1) q) (modMer (fun m => { m with ptpDelayReq := some q }) s.2)

/-- PTP_DELAY_RESP: the measured path delay, when it answers the request outstanding by the mechanism of the body in force (R70). -/
def ptpDelayResp (h : PtpHdr) (peer : Bool) (seq : Nat) (delay : Int) (b : Blk) : Blk :=
  if b.ptpTakes h && peer == b.mer.body.ptpFlags.testBit 1 && b.mer.ptpDelayReq == some seq then
    modMer (fun m => { m with ptpDelayReq := none, ptpDelay := delay }) b
  else b

/-- PTP_LOSS: the selected transmitter is heard no more (R71). -/
def ptpLoss (b : Blk) : Blk :=
  if b.mer.body.source != 1 then b
  else
    let gone := b.mer.ptpMaster
    merFault 6 (modMer (fun m => { m with ptpMasters := m.ptpMasters.filter (fun x => some x.1 != gone), ptpSyncAt := none, ptpExcursion := false }) (loseSource b))

/-! ### Epochs (R73, R153, R231) -/

/-- Scrub reads one line: a corrected one is rewritten as it was decoded (R153). -/
def scrubLine (phys : Phys) (l : Nat) (b : Blk) : Blk :=
  let b := lookupFault phys l b
  if b.presence (l / 32) != .resident || (b.haloFind l).isSome then b
  else match readDram phys l .scrub b with
    | (.data d, b) => if (phys.burst l).isEmpty then b else putLine l { b.dramLine l with plain := d, key := b.keyOf (b.lineInfo l).keySlot } b
    | (_, b) => b

/-- Scrub of channel offsets `from'` to `from' + n - 1` of a channel, in lines, as far as the channel does not freeze: how many it read, and the state. -/
def scrubLines (phys : Phys) (c from' n : Nat) (b : Blk) : Nat × Blk :=
  (List.range n).foldl (fun (acc : Nat × Blk) i =>
    if (acc.2.chan c).state != .ready then acc
    else (i + 1, match acc.2.lineAtCofs c ((from' + i) * 128) with | some l => scrubLine phys l acc.2 | none => acc.2)) (0, b)

/-- One epoch's scrub of a channel (R153): LINES_PER_EPOCH lines in ascending offset, wrapping at the end, where a channel pass ends. -/
def scrubChannel (phys : Phys) (c : Nat) (b : Blk) : Blk :=
  let x := b.chan c
  let total := x.capGib * gib / 128
  let n := b.dram.scrubLines
  if x.state != .ready || !b.dram.scrubOn || b.inDusk || total = 0 then b
  else
    let first := Nat.min n (total - x.scrubPos)
    let r := scrubLines phys c x.scrubPos first b
    let b := modChan c (fun y => { y with scrubPos := (x.scrubPos + r.1) % total }) r.2
    if x.scrubPos + r.1 < total then b
    else
      let b := modChan c (fun y => { y with scrubPasses := y.scrubPasses + 1, scrubDone := true, corr := [] }) b
      let r := scrubLines phys c 0 (n - first) b
      modChan c (fun y => { y with scrubPos := r.1 % total }) r.2

/-- A scrub pass ends when every READY channel has completed a channel pass since the last one (R153). -/
def scrubPass (b : Blk) : Blk :=
  let ready := (b.dram.chans.filter (fun (e : Nat × Chan) => e.2.state == .ready)).map (·.1)
  if !ready.isEmpty && ready.all (fun c => (b.chan c).scrubDone) then
    let b := ready.foldl (fun b c => modChan c (fun x => { x with scrubDone := false }) b) b
    { b with dram := { b.dram with scrubPasses := sat32 b.dram.scrubPasses } }
  else b

/-- The flags of a new epoch: the flagged run closes after an unflagged epoch, and the epoch of the tick just counted is flagged for the state's
reasons (R76). -/
def newEpoch (b : Blk) : Blk :=
  let old := b.mer.epoch
  let b := if b.mer.runOpen && b.mer.flagNow = 0 then closeRun (old - 1) b else b
  flagTick (modMer (fun m => { m with epoch := m.now, flagNow := 0 }) b)

/-- What an epoch boundary starts: each channel's scrub (R153), and the count of an epoch spent erase-starved (R231). -/
def epochWork (phys : Phys) (b : Blk) : Blk :=
  let b := if b.inService then scrubPass ((b.dram.chans.map (·.1)).foldl (fun b c => scrubChannel phys c b) b) else b
  if b.nvf.starved then countEvent 0x12 2 b else b

/-- EPOCH_BOUNDARY: a new epoch begins (R72). -/
def epochBoundary (phys : Phys) (b : Blk) : Blk := if b.epoch ≤ b.mer.epoch then b else epochWork phys (newEpoch b)

/-- EPOCH_SEAL: the count has reached (E + 1) × L + 2, and the next epoch in order is sealed (R73). The first seal after a power-on reset seals the highest
epoch that may be sealed then: the spec does not say with which epoch sealing begins (assumption 123, DESIGN CHOICE). -/
def epochSeal (b : Blk) : Blk :=
  let l := Nat.max b.mer.body.l 1
  if b.mer.count < l + 2 then b
  else
    let reach := (b.mer.count - 2) / l - 1
    match b.mer.sealedEpoch with
    | none => modMer (fun m => { m with sealedEpoch := some reach }) b
    | some e => if e + 1 ≤ reach then modMer (fun m => { m with sealedEpoch := some (e + 1) }) b else b

/-- HOURLY_RECORD: an hour of operation has passed; the count floor, the governor credit and the changed cipher slot records are written
(R65, R181, R343). -/
def hourlyRecord (b : Blk) : Blk :=
  let b := modPwr (fun p => { p with boot := { p.boot with hours := p.boot.hours + 1, countFloor := b.mer.count, credit := b.pers.credit } }) b
  addJob .keyRecords (addJob .bootRecord b)

end Sys2Proof.Machine
end

