-- ==== Sys2Proof/Machine/OpsOrbit.lean ====
section
/-!
DEFINITION. Shared operations of Orbit (chapter 11): jobs of memory accesses, queues and memory keys, transmission (R295 to R297, R310),
completion of messages (R304 to R308) and starting descriptors (R309).
-/
namespace Sys2Proof.Machine
open Sys2Proof

/-! ### Jobs: accesses to memory by Orbit and the cipher engine -/

/-- The halves that the bytes `[a, a + n)` touch: each half's address, and the first and last-plus-one byte in it. -/
def spans (a n : Nat) : List (Nat × Nat × Nat) :=
  if n = 0 then []
  else (List.range ((a + n - 1) / 64 - a / 64 + 1)).map (fun k =>
    let h := (a / 64 + k) * 64
    (h, Nat.max a h - h, Nat.min (a + n) (h + 64) - h))

/-- An access of a job. -/
structure Access where
  dpa : Nat
  write : Option (Half × Bool) := none
  part : Part := .whole
  deriving DecidableEq, Repr

/-- Reads of a range of bytes. -/
def readAccesses (a n : Nat) : List Access := (spans a n).map (fun s => { dpa := s.1 })

/-- Writes of bytes at an address (R313): a half covered only in part is merged at its home. -/
def writeAccesses (a : Nat) (bs : List Byte) : List Access :=
  (spans a bs.length).map (fun s =>
    let mine := (bs.drop (s.1 + s.2.1 - a)).take (s.2.2 - s.2.1)
    let d : Half := bytesBits 512 (List.replicate s.2.1 0 ++ mine)
    { dpa := s.1, write := some (d, false),
      part := if s.2.1 = 0 ∧ s.2.2 = 64 then .whole else .bytes (2 ^ s.2.2 - 2 ^ s.2.1) })

/-- Begin a job of logical device `ld`: each access is served or held like any request (R99, R122). -/
def startJob (phys : Phys) (ld : Nat) (use : AgentUse) (as : List Access) (b : Blk) : Blk :=
  let id := b.host.nextJob
  let b := { b with host := { b.host with nextJob := id + 1, jobs := b.host.jobs ++ [{ id := id, ld := ld, use := use, left := List.range as.length }] } }
  (as.zipIdx).foldl (fun b x => serve phys { src := .agent ld id x.2, dpa := x.1.dpa, write := x.1.write, part := x.1.part } b) b

/-- End jobs without their continuation: their held accesses go (R113, R322, R350). -/
def dropJobs (p : Job → Bool) (b : Blk) : Blk :=
  let ids := (b.host.jobs.filter p).map (fun (j : Job) => j.id)
  let mine : Src → Bool := fun s => match s with | .agent _ id _ => ids.contains id | _ => false
  { b with host := { b.host with jobs := b.host.jobs.filter (fun (j : Job) => !p j), held := b.host.held.filter (fun (h : HeldReq) => !mine h.req.src) } }

/-- Bytes of a job's reads of `[a, a + n)`. A poisoned half gives the bytes of `fill`. See assumption 98 (DESIGN CHOICE). -/
def Job.bytes (j : Job) (a n : Nat) (fill : Half) : List Byte :=
  ((spans a n).zipIdx).flatMap (fun x =>
    let h := match SMap.find? j.got x.2 with | some (d, false) => d | _ => fill
    ((bitsBytes 64 h).drop x.1.2.1).take (x.1.2.2 - x.1.2.1))

/-- Some read of the job met poison. -/
def Job.poisoned (j : Job) : Bool := j.got.any (fun e => e.2.2)

/-- Offsets from `a` of the bytes that a job's reads found poisoned, as ranges. -/
def Job.badRanges (j : Job) (a n : Nat) : List (Nat × Nat) :=
  ((spans a n).zipIdx).filterMap (fun x =>
    match SMap.find? j.got x.2 with
    | some (_, true) => some (x.1.1 + x.1.2.1 - a, x.1.1 + x.1.2.2 - a)
    | _ => none)

/-! ### Configuration and queues -/

/-- Change Orbit's state. -/
def modOrb (f : OrbSt → OrbSt) (b : Blk) : Blk := { b with orb := f b.orb }

/-- This unit's node (R294). -/
def Blk.node (b : Blk) : Nat := if b.cht.mode != .solo && b.cht.isB then b.cht.cur.orbit.nodeB else b.cht.cur.orbit.nodeA

/-- The other unit's node. -/
def Blk.otherNode (b : Blk) : Nat := if b.cht.mode != .solo && b.cht.isB then b.cht.cur.orbit.nodeA else b.cht.cur.orbit.nodeB

/-- LT (R309). -/
def Blk.orbLt (b : Blk) : Nat := b.cht.cur.orbit.lifetimeUs * 1000 / Nat.max b.mer.body.tickNs 1

/-- A queue. -/
def Blk.oq (b : Blk) (q : Nat) : Option OrbQueue := SMap.find? b.orb.queues q

/-- Change a queue. -/
def modOq (q : Nat) (f : OrbQueue → OrbQueue) (b : Blk) : Blk :=
  match b.oq q with
  | some x => modOrb (fun o => { o with queues := SMap.insert o.queues q (f x) }) b
  | none => b

/-- Change a message of a queue. -/
def modMsg (q msgId : Nat) (f : OrbMsg → OrbMsg) (b : Blk) : Blk :=
  let g : OrbMsg → OrbMsg := fun m => if m.msgId = msgId ∧ m.op ≠ 6 then f m else m
  modOq q (fun x => { x with msgs := x.msgs.map g }) b

/-- A running message of a queue by MSG_ID. -/
def Blk.omsg (b : Blk) (q msgId : Nat) : Option OrbMsg :=
  (b.oq q).bind (fun x => x.msgs.find? (fun m => m.msgId = msgId && m.op != 6 && m.status.isNone))

/-- Segments in flight of a queue. -/
def OrbQueue.inFlight (q : OrbQueue) : Nat := (q.msgs.map (fun m => m.segs.length)).foldl (· + ·) 0

/-- Segments in flight of an engine, 0 north and 1 south. -/
def Blk.segsOf (b : Blk) (e : Nat) : Nat := ((b.orb.queues.filter (fun x => x.1 % 2 == e)).map (fun x => x.2.inFlight)).foldl (· + ·) 0

/-- A WAIT that holds its queue (R307). -/
def OrbQueue.waiting (q : OrbQueue) : Option OrbMsg := q.msgs.find? (fun m => m.op = 6 && m.status.isNone)

/-- Waits in an engine's table. -/
def Blk.waitsOf (b : Blk) (e : Nat) : Nat :=
  (b.orb.queues.filter (fun x => x.1 % 2 == e && (match x.2.waiting with | some m => !m.waitFull | none => false))).length

/-- A queue makes progress: Orbit is open, its context is on chip, no Dusk, and the gate of the half that homes its rings is open
(R319, R321, R322). -/
def Blk.queueMoves (b : Blk) (qn : Nat) (q : OrbQueue) : Bool :=
  b.orb.isOpen && !b.inDusk && SMap.has b.orb.ctx qn && (b.half (b.halfOf q.sq)).gateOpen

/-! ### Transmission (R295 to R297, R310) -/

/-- Ethernet ports that are up, ascending. -/
def Blk.portsUp (b : Blk) : List Nat := (b.orb.ports.filter (fun e => e.2.up)).map (·.1)

/-- The security association of a packet, when it is valid. -/
def Blk.sa? (b : Blk) (s : Nat) : Option SaCfg := (b.cht.cur.orbit.sas[s]?).bind (fun a => if a.valid then some a else none)

/-- The path of a transmission (R310). -/
def orbPath (q msgId offset retry : Nat) : Nat := mix ((q * 2 ^ 40 + msgId * 2 ^ 18 + offset / 4096 + retry * 2 ^ 60) % 2 ^ 64) % 16384

/-- Local time in units of 10 ns, as TX_STAMP carries it. -/
def Blk.txStamp (b : Blk) : Nat := b.cyc % 2 ^ 32

/-- An engine takes its next PN; the limit in eFlash moves on 2^32 before it is reached (R297). -/
def takePn (e : Nat) (b : Blk) : Nat × Blk :=
  let n := SMap.get 0 b.orb.pn e
  let lim := SMap.get 0 b.orb.pnLimit e
  let b := modOrb (fun o => { o with pn := SMap.put 0 o.pn e (n + 1) }) b
  if lim ≤ n + 1 + 2 ^ 32 then (n, addJob .bootRecord (modOrb (fun o => { o with pnLimit := SMap.put 0 o.pnLimit e (lim + 2 ^ 40) }) b)) else (n, b)

/-- Is the SA usable to send: valid, its slot LOADED? -/
def Blk.saState (b : Blk) (s : Nat) : KeyState := match b.sa? s with | some a => (b.slot a.keySlot).state | none => .empty

/-- Transmit a packet from an engine on a path. Nothing is sent with no port up, after the Dusk trigger, while Orbit is closed, or under
an SA whose slot is not LOADED (R296, R322). -/
def transmit (e path : Nat) (p : OrbPkt) (b : Blk) : Blk :=
  let up := b.portsUp
  if !b.orb.isOpen || b.inDusk || up.isEmpty then b
  else match b.saState p.sa with
  | .loaded =>
    let n := takePn e b
    let b := useSlot (((b.sa? p.sa).map (fun (a : SaCfg) => a.keySlot)).getD 0) 1 false n.2
    send (.orb { p with src := b.node, engine := e, pn := n.1, stamp := b.txStamp } path (up.getD (path % Nat.max up.length 1) 0)) b
  | .exhausted => setErr .orb 9 b
  | .empty => b

/-- Answer a packet with an acknowledgement code (Table 11-8); NAKs are counted. -/
def answerAck (e : Nat) (p : OrbPkt) (code home : Nat) (b : Blk) : Blk :=
  let b := if code = 0 then b else modOrb (fun o => { o with naksSent := sat32 o.naksSent }) b
  let b := if code = 1 ∨ code = 7 then setErr .orb 2 b
           else if code = 2 ∨ code = 3 ∨ code = 4 then setErr .orb 6 b
           else if code = 5 then setErr .orb 7 b else if code = 11 then setErr .orb 8 b else b
  let ack : OrbAck := { queue := p.srcQ, offset := if p.notify then p.msgLen else p.offset, msgId := p.msgId, stamp := p.stamp, code := code, home := home }
  transmit e (orbPath p.srcQ p.msgId p.offset 0) { kind := 3, dst := p.src, sa := p.sa, msgCount := p.msgCount, acks := [ack] } b

/-- Answer with a READ_DATA packet (Table 11-2). OPERAND1 is the poison mask, OPERAND2 an atomic's prior value. -/
def answerData (e : Nat) (p : OrbPkt) (offset op1 op2 : Nat) (bs : List Byte) (b : Blk) : Blk :=
  transmit e (orbPath p.srcQ p.msgId offset 0)
    { p with kind := 2, retx := false, notify := false, dst := p.src, offset := offset, op1 := op1, op2 := op2, payload := bs, acks := [] } b

/-- A REQUEST of a message at an offset. -/
def OrbMsg.packet (m : OrbMsg) (q offset : Nat) (s : OrbSeg) (bs : List Byte) (asked : Nat) : OrbPkt :=
  { kind := 1, op := m.op, retx := s.again, notify := s.notify, dst := m.dst, sa := m.sa, msgCount := m.msgCount, srcQ := q,
    dstQ := m.dstQ, msgId := m.msgId, msgLen := m.len, offset := offset, key := m.key, remote := m.remote,
    op1 := if m.op = 3 then asked else m.op1, op2 := m.op2, payload := bs }

/-! ### Completion (R304, R306, R308) -/

/-- Give a message its status: its remaining segments are not sent; a status other than OK or POISONED puts the queue in ERROR. -/
def finishMsg (q idx status : Nat) (b : Blk) : Blk :=
  let g : OrbMsg → OrbMsg := fun m => if m.idx = idx ∧ m.status.isNone then { m with status := some status, segs := [], next := m.len } else m
  modOq q (fun x =>
    let x := { x with msgs := x.msgs.map g }
    if 2 ≤ status then { x with err := true, errStatus := status } else x) b

/-- Write a counter's value to COUNTER_DPA (R304). -/
def noteCounter (phys : Phys) (q : Nat) (x : OrbQueue) (b : Blk) : Blk :=
  startJob phys x.owner (.note q) (writeAccesses x.counterDpa (natLe 8 x.counter)) b

/-- PHASE of a free-running index in a ring of 2^n entries (R306, R346). -/
def phaseOf (n idx : Nat) : Nat := if (idx >>> n) % 2 = 0 then 1 else 0

/-- The oldest message of a queue has its status: its completion entry and counter are written (R304, R306). -/
def drainQueue (phys : Phys) (qn : Nat) (q : OrbQueue) (m : OrbMsg) (status : Nat) (b : Blk) : Blk :=
  let x := { q with msgs := q.msgs.drop 1, cqNext := (q.cqNext + 1) % 2 ^ 32, counter := if m.countFlag then wrap64 (q.counter + 1) else q.counter }
  let b := modOq qn (fun _ => x) b
  let entry := natLe 8 m.user ++ natLe 4 m.done ++ natLe 1 status ++ natLe 1 (phaseOf q.log2 m.idx) ++ natLe 2 0 ++ natLe 8 m.result ++ natLe 8 x.counter
  let b := startJob phys q.owner (.note qn) (writeAccesses (q.cq + 32 * (m.idx % 2 ^ q.log2)) entry) b
  if m.countFlag then noteCounter phys qn x b else b

/-- A WAIT is satisfied: the counter it names has reached its value (R307). -/
def Blk.waitMet (b : Blk) (q : OrbQueue) (m : OrbMsg) : Option Nat :=
  if m.waitFull then none
  else match b.oq (m.op2 % 2 ^ 22) with
    | some t => if t.owner = q.owner && decide (m.op1 ≤ t.counter) then some t.counter else none
    | none => none

/-- End a WAIT with the counter value seen. -/
def endWait (qn idx status seen : Nat) (b : Blk) : Blk :=
  let g : OrbMsg → OrbMsg := fun m => if m.idx = idx then { m with result := seen } else m
  finishMsg qn idx status (modOq qn (fun x => { x with msgs := x.msgs.map g }) b)

/-! ### Starting descriptors (R309) -/

/-- A started message still has units to send. -/
def OrbMsg.unsent (m : OrbMsg) : Bool := m.status.isNone && m.op != 6 && decide (m.next < m.len)

/-- May the queue read its next descriptor now? -/
def Blk.mayStart (b : Blk) (qn : Nat) (q : OrbQueue) : Bool :=
  b.queueMoves qn q && !q.err && !q.fetching && decide (q.head ≠ q.tail) && !(q.fence && !q.msgs.isEmpty) && q.waiting.isNone &&
  !q.msgs.any (fun m => m.unsent)

/-- Read the descriptor at SQ_HEAD. -/
def fetchDesc (phys : Phys) (qn : Nat) (q : OrbQueue) (b : Blk) : Blk :=
  startJob phys q.owner (.desc qn) (readAccesses (q.sq + 64 * (q.head % 2 ^ q.log2)) 64) (modOq qn (fun x => { x with fetching := true }) b)

/-- Add a message at SQ_HEAD and advance SQ_HEAD. -/
def pushMsg (qn : Nat) (m : OrbMsg) (b : Blk) : Blk :=
  modOq qn (fun x => { x with msgs := x.msgs ++ [m], head := (x.head + 1) % 2 ^ 32, fence := false }) b

/-- The timer of a segment's transmission in µs: RTO x 2^retry, at most 64 x RTO_MIN, with RTO = max(RTO_MIN, srtt + 4 x rttvar) (R310).
A queue with no sample yet has RTO_MIN. -/
def OrbQueue.timer (q : OrbQueue) (rtoMin retry : Nat) : Rat :=
  let est : Rat := match q.srtt with | some s => s + 4 * q.rttvar | none => 0
  let rto : Rat := if est < (rtoMin : Rat) then (rtoMin : Rat) else est
  let t := rto * (2 ^ retry : Nat)
  if ((64 * rtoMin : Nat) : Rat) < t then ((64 * rtoMin : Nat) : Rat) else t

/-- A segment whose timer starts with its transmission. -/
def Blk.timed (b : Blk) (q : OrbQueue) (s : OrbSeg) : OrbSeg := { s with timer := q.timer b.cht.cur.orbit.rtoMinUs s.retry }

/-- Send the notify packet of a message whose data segments are all acknowledged (R309, R316). -/
def sendNotify (qn : Nat) (m : OrbMsg) (b : Blk) : Blk :=
  let s : OrbSeg := (b.oq qn).elim { notify := true } (fun q => b.timed q { notify := true })
  let b := modMsg qn m.msgId (fun x => { x with segs := SMap.insert x.segs m.len s }) b
  if m.msgCount + b.orbLt ≤ b.mer.count then b
  else transmit (qn % 2) (orbPath qn m.msgId m.len 0) (m.packet qn m.len s [] 0) b

/-- A descriptor that has been read starts (R307, R309). The RESULT of a WRITE is its settle count, however it ends (R306, R317). -/
def startDesc (qn : Nat) (q : OrbQueue) (d : List Byte) (poison : Bool) (b : Blk) : Blk :=
  let flags := uAt d 1 1
  let op := uAt d 0 1
  let len := uAt d 8 4
  let m : OrbMsg := { idx := q.head, op := op, countFlag := flags.testBit 1, user := uAt d 0x38 8, dst := uAt d 2 2, dstQ := uAt d 4 4 % 2 ^ 22,
                      len := len, sa := uAt d 0x0C 2, localDpa := uAt d 0x10 8, key := uAt d 0x18 8, remote := uAt d 0x20 8, op1 := uAt d 0x28 8,
                      op2 := uAt d 0x30 8 }
  let ends : Nat → Blk → Blk := fun st b => finishMsg qn q.head st (pushMsg qn { m with next := m.len } b)
  let atomic := op == 4 || op == 5
  if poison then ends 14 b
  else if flags.testBit 0 && !q.msgs.isEmpty then modOq qn (fun x => { x with fence := true }) b
  else if op = 6 then
    match b.oq (m.op2 % 2 ^ 22) with
    | some t => if t.owner = q.owner then pushMsg qn { m with waitFull := decide (16384 ≤ b.waitsOf (qn % 2)) } b else ends 14 b
    | none => ends 14 b
  else if !(decide (1 ≤ op) && decide (op ≤ 5)) || (b.sa? m.sa).isNone then ends 14 b
  else if 2 ^ 30 < len || (atomic && (len != 8 || m.remote % 8 != 0)) then ends 2 b
  else if !b.inView q.owner m.localDpa len then ends 12 b
  else if len = 0 && (op == 1 || op == 3) then ends 0 b
  else if b.saState m.sa = .exhausted then ends 15 (setErr .orb 9 b)
  else
    let m := { m with msgId := q.nextMsgId, msgCount := b.mer.count, result := if op ≤ 2 then wrap64 (b.mer.count + b.orbLt) else 0 }
    let b := modOq qn (fun x => { x with nextMsgId := wrap64 (x.nextMsgId + 1), lastStart := b.mer.count }) (pushMsg qn m b)
    if len = 0 then sendNotify qn m b else b

/-! ### Sending segments (R309, R310) -/

/-- Transmit a segment's REQUEST, reading its payload first when it has one. -/
def sendSeg (phys : Phys) (qn : Nat) (q : OrbQueue) (m : OrbMsg) (offset : Nat) (s : OrbSeg) (b : Blk) : Blk :=
  if m.msgCount + b.orbLt ≤ b.mer.count then b
  else if b.saState m.sa = .exhausted then finishMsg qn m.idx 15 (setErr .orb 9 b)
  else if (m.op == 1 || m.op == 2) && !s.notify then
    startJob phys q.owner (.payload qn m.msgId offset (decide (0 < s.retry)) (m.localDpa + offset)) (readAccesses (m.localDpa + offset) s.len)
      (modMsg qn m.msgId (fun x => { x with segs := SMap.insert x.segs offset { s with busy := true } }) b)
  else transmit (qn % 2) (orbPath qn m.msgId offset s.retry) (m.packet qn offset s [] s.len) b

/-- Resend a segment: one more transmission on another path (R310). -/
def resendSeg (phys : Phys) (qn msgId offset : Nat) (counts : Bool) (b : Blk) : Blk :=
  match b.oq qn, b.omsg qn msgId with
  | some q, some m =>
    match SMap.find? m.segs offset with
    | some s =>
      if s.busy || b.inDusk then b
      else
        let s := b.timed q { s with retry := if counts then s.retry + 1 else s.retry, again := true }
        let b := modOrb (fun o => { o with retransmits := sat32 o.retransmits }) b
        sendSeg phys qn q m offset s (modMsg qn msgId (fun x => { x with segs := SMap.insert x.segs offset s }) b)
    | none => b
  | _, _ => b

/-- The next unit of a message, when its queue has room for so many segments more: their offsets and lengths (R309). -/
def OrbMsg.unit (m : OrbMsg) (room : Nat) : List (Nat × OrbSeg) :=
  let n := if m.op = 3 then Nat.min 16 room else 1
  ((List.range n).map (fun k => m.next + 4096 * k)).filterMap (fun o => if o < m.len then some (o, { len := Nat.min 4096 (m.len - o) }) else none)

/-- Send the next unit of a queue when its window, its engine's segment table and MAX_INFLIGHT allow (R309 to R311). See assumption 97 (DEDUCED). -/
def sendUnit (phys : Phys) (qn : Nat) (b : Blk) : Blk :=
  match b.oq qn with
  | none => b
  | some q =>
    match q.msgs.find? (fun m => m.unsent) with
    | none => b
    | some m =>
      let u := (m.unit (b.cht.cur.orbit.maxInflight - q.inFlight)).map (fun e => (e.1, b.timed q e.2))
      if !b.queueMoves qn q || u.isEmpty || !decide ((q.inFlight : Rat) < q.cwnd) || decide (32768 < b.segsOf (qn % 2) + u.length) || b.portsUp.isEmpty then b
      else if m.msgCount + b.orbLt ≤ b.mer.count then b
      else
        let nextOff := m.next + 4096 * u.length
        let b := modMsg qn m.msgId (fun x => { x with next := Nat.min nextOff x.len, segs := u.foldl (fun s e => SMap.insert s e.1 e.2) x.segs }) b
        match u with
        | [] => b
        | (o, s) :: rest =>
          if m.op = 3 then
            let n := (u.map (fun e => e.2.len)).foldl (· + ·) 0
            if b.saState m.sa = .exhausted then finishMsg qn m.idx 15 (setErr .orb 9 b)
            else transmit (qn % 2) (orbPath qn m.msgId o 0) (m.packet qn o s [] n) b
          else if rest.isEmpty then sendSeg phys qn q m o s b else b

/-! ### Congestion (R311) -/

/-- A round-trip sample in µs updates srtt and rttvar as IETF RFC 6298 gives. See assumption 96 (DESIGN CHOICE). -/
def OrbQueue.sampleRtt (q : OrbQueue) (r : Rat) : OrbQueue :=
  match q.srtt with
  | none => { q with srtt := some r, rttvar := r / 2 }
  | some s =>
    let d := if s ≤ r then r - s else s - r
    { q with srtt := some (7 / 8 * s + 1 / 8 * r), rttvar := 3 / 4 * q.rttvar + 1 / 4 * d }

/-- The window after an acknowledgement with a sample. -/
def OrbQueue.onAck (q : OrbQueue) (r : Rat) (target maxIn now : Nat) : OrbQueue :=
  let q := q.sampleRtt r
  if r ≤ (target : Rat) then
    let w := q.cwnd + 1 / q.cwnd
    { q with cwnd := if (maxIn : Rat) < w then (maxIn : Rat) else w }
  else if (q.srtt.getD 0) ≤ ((now - q.lastCut : Nat) : Rat) / 100 then
    let w := q.cwnd * (1 - (1 / 2) * (r - target) / r)
    { q with cwnd := if w < 1 then 1 else w, lastCut := now }
  else q

/-! ### Contexts and keys (R300, R319) -/

/-- Local line and half of a key table entry (R300): 32 bytes at 32 i of the MEMORY_KEYS carve-out. -/
def Blk.keyPlace (b : Blk) (i : Nat) : Nat × Nat :=
  let a := ((carveOf b.cht.cur.near 3).map (·.base)).getD 0 + 32 * i
  (a / 128, a / 64 % 2)

/-- The 32 bytes of an entry (Table 11-5). -/
def KeyEntry.toBytes (k : KeyEntry) : List Byte :=
  natLe 8 k.base ++ natLe 8 k.length ++ natLe 8 (k.tag % 2 ^ 40 + k.rights % 8 * 2 ^ 40 + (if k.valid then 2 ^ 43 else 0)) ++ natLe 2 k.group ++
    natLe 1 k.owner ++ natLe 5 0

/-- An entry from its bytes. -/
def keyOfBytes (x : List Byte) : KeyEntry :=
  let t := uAt x 0x10 8
  { base := uAt x 0 8, length := uAt x 8 8, tag := t % 2 ^ 40, rights := t / 2 ^ 40 % 8, valid := t.testBit 43, group := uAt x 0x18 2, owner := uAt x 0x1A 1 }

/-- Write an entry through to the carve-out (R300); none while its line cannot take the write. -/
def writeKey (phys : Phys) (i : Nat) (k : KeyEntry) (b : Blk) : Option Blk :=
  let p := b.keyPlace i
  let o := if i % 2 = 0 then 0 else 32
  let d : Half := bytesBits 512 (List.replicate o 0 ++ k.toBytes)
  match mergePart phys p.1 p.2 b.cht.cur.halo.defaultPart (.bytes ((2 ^ 32 - 1) * 2 ^ o)) d false b with
  | (.go d poison _, b) =>
    match writeHalf phys p.1 p.2 d poison b.cht.cur.halo.defaultPart false false b with
    | (.accepted _, b) => some b
    | (.hold _, _) => none
  | _ => none

/-- Change an entry: the cache at once, the carve-out as soon as its line takes the write. -/
def setKey (phys : Phys) (i : Nat) (k : KeyEntry) (b : Blk) : Blk :=
  let b := modOrb (fun o => { o with keys := SMap.insert o.keys i k, keyUsed := if k.valid then SMap.insert o.keyUsed i () else SMap.erase o.keyUsed i }) b
  match writeKey phys i k b with
  | some b => b
  | none => modOrb (fun o => { o with keyTodo := o.keyTodo ++ [(i, k)] }) b

/-- Make room on chip for one more context of an engine; a queue with a segment in flight or a WAIT stays (R319). Which context goes is
open. None when no context may go. -/
def roomForCtx (q : Nat) (b : Blk) : Option Blk :=
  let mine := (SMap.keys b.orb.ctx).filter (fun x => x % 2 == q % 2)
  if mine.length < 131072 then some b
  else
    let ok := mine.filter (fun x => match b.oq x with | some y => y.inFlight == 0 && y.waiting.isNone | none => true)
    match ok with
    | [] => none
    | _ => let f := drawFree b; some (modOrb (fun o => { o with ctx := SMap.erase o.ctx (ok.getD (f.1 % ok.length) 0) }) f.2)

/-- A context comes on chip. -/
def loadCtx (q : Nat) (b : Blk) : Blk :=
  if SMap.has b.orb.ctx q then b
  else match roomForCtx q b with
    | some b => modOrb (fun o => { o with ctx := SMap.insert o.ctx q () }) b
    | none => b

/-- A key entry comes on chip; an entry of the same half goes when it holds 131,072 (R300). -/
def loadKey (i : Nat) (k : KeyEntry) (b : Blk) : Blk :=
  let mine := (SMap.keys b.orb.keys).filter (fun x => x % 2 == i % 2)
  let b := if mine.length < 131072 then b
           else let f := drawFree b; modOrb (fun o => { o with keys := SMap.erase o.keys (mine.getD (f.1 % mine.length) 0) }) f.2
  modOrb (fun o => { o with keys := SMap.insert o.keys i k }) b

/-- A packet needs a context that is not on chip. -/
def Blk.missingCtx (b : Blk) (p : OrbPkt) : Bool := decide (p.dstQ < b.cht.cur.orbit.backedQueues) && !SMap.has b.orb.ctx p.dstQ

/-- A packet needs a key entry that is not on chip. -/
def Blk.missingKey (b : Blk) (p : OrbPkt) : Bool := decide (p.key / 2 ^ 40 < b.cht.cur.orbit.keys) && !SMap.has b.orb.keys (p.key / 2 ^ 40)

/-- Destroy queues: their messages are abandoned without completion entries, their numbers rest for LT ticks (R322). -/
def destroyQueues (p : Nat → OrbQueue → Bool) (b : Blk) : Blk :=
  let gone := b.orb.queues.filter (fun (x : Nat × OrbQueue) => p x.1 x.2)
  let ids := gone.map (fun (x : Nat × OrbQueue) => x.1)
  let names : AgentUse → Bool := fun u => match u with
    | .desc q => ids.contains q | .payload q _ _ _ _ => ids.contains q | .land q _ _ => ids.contains q | .note q => ids.contains q | _ => false
  let lt := b.orbLt
  let b := dropJobs (fun j => names j.use) b
  modOrb (fun o => { o with
    queues := SMap.keep o.queues (fun k v => !p k v), ctx := SMap.keep o.ctx (fun k _ => !ids.contains k),
    retired := gone.foldl (fun m (x : Nat × OrbQueue) => SMap.insert m x.1 (x.2.lastStart + lt)) o.retired }) b

/-- Reception opens at D7 (R297, R318): the replay caches are empty, and the engines send from the recorded PN limits, which move on. -/
def openOrbit (b : Blk) : Blk :=
  if !b.cht.cur.orbit.enable then b
  else
    let lim := fun (e : Nat) => SMap.get 0 b.orb.pnLimit e
    addJob .bootRecord (modOrb (fun o => { o with
      isOpen := true, openCount := b.mer.count, replayN := [], replayS := [], window := [],
      pn := SMap.put 0 (SMap.put 0 o.pn 0 (lim 0)) 1 (lim 1),
      pnLimit := SMap.put 0 (SMap.put 0 o.pnLimit 0 (lim 0 + 2 ^ 40)) 1 (lim 1 + 2 ^ 40) }) b)

end Sys2Proof.Machine
end

