-- ==== Sys2Proof/Machine/Orbit.lean ====
section
/-!
DEFINITION. Effects of the Orbit commands of chapter 11: Ethernet ports, doorbells and segments, received packets, timers, contexts, the
replay cache, and the queue and key commands of a logical device.
-/
namespace Sys2Proof.Machine
open Sys2Proof

/-! ### Ethernet ports (R293 to R295) -/

/-- Change an Ethernet port. -/
def modEth (p : Nat) (f : EthPort → EthPort) (b : Blk) : Blk :=
  modOrb (fun o => { o with ports := SMap.upd EthPort.down o.ports p f }) b

/-- The IPv6 all-nodes address. -/
def allNodes : Nat := 0xFF020000000000000000000000000001

/-- ETH_PORT_UP: the port comes up and sends an unsolicited Neighbour Advertisement (R294). `cr` tells CR from KR. -/
def ethPortUp (p : Nat) (cr : Bool) (b : Blk) : Blk :=
  if p < ethPorts b.cht.cur.orbit && (b.cht.cur.orbit.enable || (b.mer.body.source == 1 && p == b.mer.body.ptpPort)) then
    send (.neighbour p false allNodes) (modEth p (fun x => { x with up := true, medium := if x.medium = 3 then 3 else if cr then 2 else 1 }) b)
  else b

/-- ETH_PORT_DOWN: the port leaves the ports over which paths are spread (R295). -/
def ethPortDown (p : Nat) (b : Blk) : Blk := modEth p (fun x => { x with up := false, medium := 0 }) b

/-- AUTO_NEGOTIATION_TIMEOUT: the port uses the chip-to-module option (R293). -/
def autoNegTimeout (p : Nat) (b : Blk) : Blk :=
  if p < ethPorts b.cht.cur.orbit && !(SMap.get EthPort.down b.orb.ports p).up then modEth p (fun x => { x with medium := 3 }) b else b

/-- The IPv6 address of a node (R294). -/
def Blk.nodeAddr (b : Blk) (n : Nat) : Nat := b.cht.cur.orbit.nodePrefix / 2 ^ 16 * 2 ^ 16 + n % 2 ^ 16

/-- The unit's IPv6 address (R294). -/
def Blk.ipv6 (b : Blk) : Nat := b.nodeAddr b.node

/-- NEIGHBOUR_SOLICITATION from an address, 0 for none: answered for the unit's own address (R294), to the one that asks or, where it
gives none, to all nodes. See assumption 147 (PRESUMED). -/
def neighbourSolicitation (p target source : Nat) (b : Blk) : Blk :=
  if target = b.ipv6 && (SMap.get EthPort.down b.orb.ports p).up then send (.neighbour p (decide (source ≠ 0)) (if source = 0 then allNodes else source)) b else b

/-- ETH_FRAME_DISCARD: dropped and counted (R325). -/
def ethFrameDiscard (k : EthDiscard) (b : Blk) : Blk :=
  match k with
  | .malformed => setErr .orb 2 b
  | .fec p => setErr .orb 2 (modEth p (fun x => { x with fec := sat32 x.fec }) b)
  | .macControl => countEvent 0x12 3 b
  | .icmp => countEvent 0x12 4 b

/-! ### Key checks at the target (R301) -/

/-- The right an opcode needs: bit of KeyEntry.rights (Table 11-4). -/
def rightOf (op : Nat) : Nat := if op = 1 ∨ op = 2 then 1 else if op = 3 then 0 else 2

/-- Bytes a REQUEST touches (R301 step 4). -/
def OrbPkt.span (p : OrbPkt) : Nat :=
  if p.notify then p.msgLen - p.offset else if p.op = 3 then p.op1 % 2 ^ 32 else if 4 ≤ p.op then 8 else p.payload.length

/-- The outcome of R301: the entry, or the NAK code. -/
def Blk.keyCheck (b : Blk) (p : OrbPkt) (group : Nat) : Sum KeyEntry Nat :=
  let i := p.key / 2 ^ 40
  match (if i < b.cht.cur.orbit.keys then SMap.find? b.orb.keys i else none) with
  | none => .inr 2
  | some k =>
    if !k.valid || k.tag != p.key % 2 ^ 40 then .inr 2
    else if group != k.group then .inr 2
    else if !k.rights.testBit (rightOf p.op) then .inr 4
    else if k.length < p.remote + p.offset + p.span then .inr 3
    else if p.notify then .inl k
    else
      let t := k.base + p.remote + p.offset
      if !b.inView k.owner t p.span || (p.op != 3 && b.area t == .slot) then .inr 3 else .inl k

/-- The bytes' region has an EMPTY key slot (R336). -/
def Blk.keyEmptyAt (b : Blk) (n a : Nat) : Bool := b.reach n a == .keyEmpty

/-! ### The replay cache (R315, R316) -/

/-- An engine's replay cache. -/
def Blk.replay (b : Blk) (e : Nat) : List Replay := if e = 0 then b.orb.replayN else b.orb.replayS

/-- Store an entry. -/
def addReplay (e : Nat) (r : Replay) (b : Blk) : Blk :=
  modOrb (fun o => if e = 0 then { o with replayN := o.replayN ++ [r] } else { o with replayS := o.replayS ++ [r] }) b

/-- The entry of a packet. -/
def Blk.replayFind (b : Blk) (e : Nat) (p : OrbPkt) : Option Replay :=
  (b.replay e).find? (fun r => r.src = p.src && r.queue = p.srcQ && r.msgId = p.msgId)

/-- The same atomic is under way. -/
def Blk.atomicBusy (b : Blk) (p : OrbPkt) : Bool :=
  b.host.jobs.any (fun j => match j.use with | .atomic x _ _ => x.src == p.src && x.srcQ == p.srcQ && x.msgId == p.msgId | _ => false)

/-- Entries and atomics under way of an engine. -/
def Blk.replayUsed (b : Blk) (e : Nat) : Nat :=
  (b.replay e).length + (b.host.jobs.filter (fun j => match j.use with | .atomic x _ _ => x.dstQ % 2 == e | _ => false)).length

/-! ### Requests (R312 to R316, R320, R321) -/

/-- Halves that a range of bytes lies in. -/
def Blk.homesOf (b : Blk) (t n : Nat) : List Nat := if b.binary then [b.halfOf t, b.halfOf (t + (n - 1))] else [0]

/-- Perform a request whose checks have passed: WRITE, READ or atomic at its target. -/
def perform (phys : Phys) (p : OrbPkt) (port owner target : Nat) (b : Blk) : Blk :=
  let e := p.dstQ % 2
  let i := p.key / 2 ^ 40
  if p.op = 1 ∨ p.op = 2 then
    let as := writeAccesses target p.payload
    startJob phys owner (.place p port i) as b
  else if p.op = 3 then startJob phys owner (.read p i target) (readAccesses target p.span) b
  else
    match b.replayFind e p with
    | some r => answerData e p 0 0 r.result [] b
    | none =>
      if 32768 ≤ b.replayUsed e then answerAck e p 5 0 b
      else if b.atomicBusy p then modOrb (fun o => { o with held := o.held ++ [⟨p, port, owner, target, none⟩] }) b
      else
        let o := target % 64
        if 56 < o then answerAck e p 1 0 b
        else startJob phys owner (.atomic p i target)
          [{ dpa := target / 64 * 64, write := some (0, false), part := if p.op = 4 then .add o p.op1 else .cas o p.op1 p.op2 }] b

/-- Apply a unit's role for the target (R320, R321): served, answered NAK_HOME or NAK_SPLIT, or held. -/
def applyRole (phys : Phys) (p : OrbPkt) (port owner target : Nat) (b : Blk) : Blk :=
  let e := p.dstQ % 2
  match b.homesOf target p.span with
  | [x, y] => if x ≠ y then answerAck e p 9 0 b else go x b
  | hs => go (hs.headD 0) b
where
  go (h : Nat) (b : Blk) : Blk :=
    let s := b.half h
    if b.paired && s.role == .standby then answerAck (p.dstQ % 2) p 8 b.otherNode b
    else if (p.op = 3 && !s.eclipse && !b.inDusk) || s.gateOpen then perform phys p port owner target b
    else
      let here := b.orb.held.filter (fun x => x.half.isSome && b.dpaHemi x.target == b.dpaHemi target)
      if 4096 ≤ here.length then setErr .orb 4 b
      else modOrb (fun o => { o with held := o.held ++ [⟨p, port, owner, target, some h⟩] }) b

/-- A notify packet (R316). -/
def notifyPkt (phys : Phys) (p : OrbPkt) (q : OrbQueue) (b : Blk) : Blk :=
  let e := p.dstQ % 2
  match b.keyCheck p q.group with
  | .inr c => answerAck e p c 0 b
  | .inl _ =>
    match b.replayFind e p with
    | some _ => answerAck e p 0 0 b
    | none =>
      if 32768 ≤ b.replayUsed e then answerAck e p 5 0 b
      else if p.msgCount < b.orb.openCount then answerAck e p 11 0 b
      else
        let q := { q with counter := wrap64 (q.counter + 1) }
        let b := modOq p.dstQ (fun _ => q) b
        answerAck e p 0 0 (addReplay e ⟨p.src, p.srcQ, p.msgId, p.msgCount, 0⟩ (noteCounter phys p.dstQ q b))

/-- A length fault of R312. -/
def OrbPkt.badLength (p : OrbPkt) : Bool :=
  let asked := p.op1 % 2 ^ 32
  decide (2 ^ 30 < p.msgLen) || decide (p.msgLen < p.offset + p.payload.length) ||
  (p.op == 3 && (asked == 0 || decide (65536 < asked) || decide (p.msgLen < p.offset + asked))) ||
  (decide (4 ≤ p.op) && (p.msgLen != 8 || p.remote % 8 != 0))

/-- A REQUEST that has passed R295, R296 and the age test (R312). See assumption 99 (DEDUCED). -/
def request (phys : Phys) (p : OrbPkt) (port : Nat) (b : Blk) : Blk :=
  let e := p.dstQ % 2
  let miss : Blk → Blk := fun b =>
    if 8192 ≤ (b.orb.miss.filter (fun x => x.1.dstQ % 2 == e)).length then
      setErr .orb 3 (modOrb (fun o => { o with missDrops := sat32 o.missDrops }) b)
    else modOrb (fun o => { o with miss := o.miss ++ [(p, port)] }) b
  if p.version != 1 || !(decide (1 ≤ p.op) && decide (p.op ≤ 5)) || p.flagBits != 0 || (p.notify && p.op != 2) then answerAck e p 7 0 b
  else if b.missingCtx p then miss b
  else match (if p.dstQ < b.cht.cur.orbit.backedQueues then b.oq p.dstQ else none) with
  | none => answerAck e p 6 0 b
  | some q =>
    if p.badLength then answerAck e p 1 0 b
    else if (p.notify || decide (4 ≤ p.op)) && SMap.has b.orb.window e then answerAck e p 11 0 b
    else if !p.notify && decide (4 ≤ p.op) && decide (p.msgCount < b.orb.openCount) then answerAck e p 11 0 b
    else if b.missingKey p then miss b
    else if p.notify then notifyPkt phys p q b
    else match b.keyCheck p q.group with
      | .inr c =>
        let k := SMap.get {} b.orb.keys (p.key / 2 ^ 40)
        answerAck e p c 0 (if c = 3 && b.keyEmptyAt k.owner (k.base + p.remote + p.offset) then setErr .cph 4 b else b)
      | .inl k => applyRole phys p port k.owner (k.base + p.remote + p.offset) b

/-! ### Answers (R310, R311, R314) -/

/-- The completion status of a NAK code (R323, Tables 11-8, 11-9); none for NAK_BUSY and NAK_HOME. -/
def nakStatus (code : Nat) : Option Nat :=
  match code with
  | 1 => some 2 | 2 => some 3 | 3 => some 4 | 4 => some 5 | 6 => some 6 | 7 => some 7 | 9 => some 8 | 10 => some 9 | 11 => some 10
  | _ => none

/-- A data segment is acknowledged: when it was the last, the notify packet is sent or the message completes (R309, R316). -/
def afterData (qn msgId : Nat) (b : Blk) : Blk :=
  match b.omsg qn msgId with
  | none => b
  | some m =>
    if m.segs.isEmpty && decide (m.len ≤ m.next) then
      if m.op = 2 then sendNotify qn m b else finishMsg qn m.idx 0 b
    else b

/-- One acknowledgement entry (R310 to R312). -/
def ackEntry (phys : Phys) (a : OrbAck) (b : Blk) : Blk :=
  match b.omsg a.queue a.msgId with
  | some m =>
    match SMap.find? m.segs a.offset with
    | none => setErr .orb 5 b
    | some s =>
      let rtt : Rat := (((b.txStamp + 2 ^ 32 - a.stamp % 2 ^ 32) % 2 ^ 32 : Nat) : Rat) / 100
      let o := b.cht.cur.orbit
      let b := modOq a.queue (fun x => x.onAck rtt o.targetDelayUs o.maxInflight b.cyc) b
      let b := feedMetric 10 (a.queue % 2) (rtt * 1000).floor b
      if a.code = 0 then
        let b := modMsg a.queue a.msgId (fun x => { x with segs := SMap.erase x.segs a.offset, done := x.done + s.len }) b
        if s.notify then finishMsg a.queue m.idx 0 b
        else afterData a.queue a.msgId b
      else if a.code = 5 then resendSeg phys a.queue a.msgId a.offset true b
      else if a.code = 8 then
        resendSeg phys a.queue a.msgId a.offset m.homed (modMsg a.queue a.msgId (fun x => { x with dst := a.home, homed := true }) b)
      else match nakStatus a.code with
        | some st => finishMsg a.queue m.idx st b
        | none => setErr .orb 5 b
  | none => setErr .orb 5 b

/-- A READ_DATA packet (R314, R315): its bytes, or an atomic's prior value, are written at LOCAL_DPA. -/
def readData (phys : Phys) (p : OrbPkt) (b : Blk) : Blk :=
  match b.oq p.srcQ, b.omsg p.srcQ p.msgId with
  | some q, some m =>
    match SMap.find? m.segs p.offset with
    | none => setErr .orb 5 b
    | some s =>
      if s.busy then b
      else if 4 ≤ m.op then
        let f : OrbMsg → OrbMsg := fun x => { x with result := p.op2 % 2 ^ 64, segs := SMap.insert x.segs p.offset { s with busy := true } }
        startJob phys q.owner (.land p.srcQ p.msgId p.offset) (writeAccesses m.localDpa (natLe 8 p.op2)) (modMsg p.srcQ p.msgId f b)
      else if m.op != 3 || p.payload.length != s.len then setErr .orb 5 b
      else
        let a := m.localDpa + p.offset
        let bad := (List.range 32).filter (fun n => p.op1.testBit n && decide (128 * n < s.len))
        let badLines := (bad.flatMap (fun n =>
          let lo := (a + 128 * n) / 128; let hi := (a + Nat.min (128 * n + 127) (s.len - 1)) / 128
          if lo = hi then [lo] else [lo, hi])).eraseDups
        let good := (writeAccesses a p.payload).filter (fun x => !badLines.contains (x.dpa / 128))
        let pz : List Access := badLines.flatMap (fun l => [{ dpa := l * 128, write := some (0, true) }, { dpa := l * 128 + 64, write := some (0, true) }])
        let f : OrbMsg → OrbMsg := fun x => { x with poisoned := x.poisoned || !bad.isEmpty, segs := SMap.insert x.segs p.offset { s with busy := true } }
        startJob phys q.owner (.land p.srcQ p.msgId p.offset) (good ++ pz) (modMsg p.srcQ p.msgId f b)
  | _, _ => setErr .orb 5 b

/-! ### Reception (R295, R296, R312) -/

/-- A packet dropped for its SA or tag: logged first in each epoch (Table 11-12). -/
def authDrop (b : Blk) : Blk :=
  let b := if b.orb.authEpoch = some b.epoch then setErr .orb 0 b else setErrLog .orb 0 {} b
  modOrb (fun o => { o with authDrops := sat32 o.authDrops, authEpoch := some b.epoch }) b

/-- A packet outside the age window (R312). -/
def Blk.aged (b : Blk) (m : Nat) : Bool :=
  let a := b.mer.drift; let lt := b.orbLt
  decide (m + lt < b.mer.count + a) || decide (b.mer.count + a + lt < m)

/-- A frame that R295 drops: too long, its FCS wrong, not IPv6 to this unit's address or with extension headers, its UDP checksum zero
or wrong, or not from the address of its SRC_NODE. -/
def Blk.badFrame (b : Blk) (w : Wire) (p : OrbPkt) : Bool :=
  decide (4352 < w.frameLen) || !w.fcsOk || !w.ipv6 || w.dstAddr != b.ipv6 || w.extHeaders != 0 || w.udpSum == 0 || w.udpSum != w.udpWant ||
  w.srcAddr != b.nodeAddr p.src

/-- Receive a packet (R312). -/
def receive (phys : Phys) (w : Wire) (p : OrbPkt) (b : Blk) : Blk :=
  if !b.orb.isOpen || !(SMap.get EthPort.down b.orb.ports w.port).up then b
  else if b.badFrame w p then setErr .orb 2 b
  else match b.sa? p.sa with
  | none => authDrop b
  | some a =>
    if (b.slot a.keySlot).state = .exhausted then setErr .orb 9 b
    else if (b.slot a.keySlot).state = .empty then authDrop b
    else
      let b := useSlot a.keySlot 1 false b
      if !w.tagOk then authDrop b
      else if b.aged p.msgCount then setErr .orb 1 b
      else if p.kind = 3 then p.acks.foldl (fun b a => ackEntry phys a b) b
      else if p.kind = 2 then readData phys p b
      else request phys p w.port b

/-- A REQUEST whose opcode names one of `ops`, or is unknown (R312). -/
def OrbPkt.asOp (p : OrbPkt) (ops : List Nat) : OrbPkt :=
  { p with kind := 1, op := if ops.contains p.op || p.op = 0 || decide (5 < p.op) then p.op else ops.headD 0 }

/-- WRITE: a data segment of WRITE or WRITE_NOTIFY arrives (R313). -/
def orbWrite (phys : Phys) (w : Wire) (p : OrbPkt) (b : Blk) : Blk := receive phys w { p.asOp [1, 2] with notify := false } b
/-- READ: a READ request arrives (R314). -/
def orbRead (phys : Phys) (w : Wire) (p : OrbPkt) (b : Blk) : Blk := receive phys w { p.asOp [3] with notify := false, payload := [] } b
/-- ATOMIC_ADD arrives (R315). -/
def orbAdd (phys : Phys) (w : Wire) (p : OrbPkt) (b : Blk) : Blk := receive phys w { p.asOp [4] with notify := false, payload := [] } b
/-- ATOMIC_CAS arrives (R315). -/
def orbCas (phys : Phys) (w : Wire) (p : OrbPkt) (b : Blk) : Blk := receive phys w { p.asOp [5] with notify := false, payload := [] } b
/-- WRITE_NOTIFY: a notify packet arrives (R316). -/
def orbNotify (phys : Phys) (w : Wire) (p : OrbPkt) (b : Blk) : Blk := receive phys w { p.asOp [2] with notify := true, payload := [] } b
/-- READ_DATA arrives (R314). -/
def orbReadData (phys : Phys) (w : Wire) (p : OrbPkt) (b : Blk) : Blk := receive phys w { p with kind := 2 } b
/-- ACK arrives (R310, R312). -/
def orbAck (phys : Phys) (w : Wire) (p : OrbPkt) (b : Blk) : Blk := receive phys w { p with kind := 3 } b

/-! ### What follows when a job's accesses are all answered -/

/-- READ_DATA packets of a READ request (R314). -/
def answerRead' (p : OrbPkt) (first : Nat) (j : Job) (b : Blk) : Blk :=
  let n := p.span
  let f := drawFree b
  let bs := j.bytes first n (BitVec.ofNat 512 f.1)
  let bad := j.badRanges first n
  (List.range (ceilDiv n 4096)).foldl (fun b k =>
    let part := (bs.drop (4096 * k)).take 4096
    let mask := Sys2Proof.Machine.maskOf ((List.range 32).filter (fun c =>
      bad.any (fun r => decide (r.1 < 4096 * k + 128 * (c + 1)) && decide (4096 * k + 128 * c < r.2))))
    answerData (p.dstQ % 2) p (p.offset + 4096 * k) mask 0 part b) f.2

/-- Continue after an Orbit job. -/
def orbJob (j : Job) (b : Blk) : Blk :=
  match j.use with
  | .place p _ _ => answerAck (p.dstQ % 2) p 0 0 b
  | .read p _ first => answerRead' p first j b
  | .atomic p _ target =>
    let e := p.dstQ % 2
    match SMap.find? j.got 0 with
    | some (d, false) =>
      let prior := wordOf d (target % 64)
      answerData e p 0 0 prior [] (addReplay e ⟨p.src, p.srcQ, p.msgId, p.msgCount, prior⟩ b)
    | _ => answerAck e p 10 0 b
  | .desc q =>
    match b.oq q with
    | some x => startDesc q x (j.bytes (x.sq + 64 * (x.head % 2 ^ x.log2)) 64 0) j.poisoned (modOq q (fun y => { y with fetching := false }) b)
    | none => b
  | .payload q msgId offset _ first =>
    match b.omsg q msgId with
    | none => b
    | some m =>
      match SMap.find? m.segs offset with
      | none => b
      | some s =>
        let f := drawFree b
        let s := { s with busy := false }
        let b := modMsg q msgId (fun x => { x with segs := SMap.insert x.segs offset s }) f.2
        if m.msgCount + b.orbLt ≤ b.mer.count then b
        else transmit (q % 2) (orbPath q msgId offset s.retry) (m.packet q offset s (j.bytes first s.len (BitVec.ofNat 512 f.1)) 0) b
  | .land q msgId offset =>
    match b.omsg q msgId with
    | none => b
    | some m =>
      let n := ((SMap.find? m.segs offset).map (fun (s : OrbSeg) => s.len)).getD 0
      let b := modMsg q msgId (fun x => { x with segs := SMap.erase x.segs offset, done := x.done + n }) b
      if 4 ≤ m.op then finishMsg q m.idx 0 b
      else if m.len ≤ m.done + n then finishMsg q m.idx (if m.poisoned then 1 else 0) b
      else b
  | _ => b

/-! ### Progress without a command: releases, completions, WAITs, starts, deregistrations -/

/-- A held packet may go on: its gate is open or this unit became STANDBY; or the atomic before it has ended (R321). -/
def Blk.heldReady (b : Blk) (x : OrbHeld) : Bool :=
  match x.half with
  | some h => !b.inDusk && ((b.half h).gateOpen || (b.paired && (b.half h).role == .standby))
  | none => !b.atomicBusy x.pkt

/-- Accesses under a key that are still being placed (R302). -/
def Blk.keyBusy (b : Blk) (i : Nat) : Bool :=
  b.host.jobs.any (fun j => match j.use with | .place _ _ k => k == i | .read _ k _ => k == i | .atomic _ k _ => k == i | _ => false) ||
  b.orb.held.any (fun h => h.pkt.key / 2 ^ 40 == i)

/-- One step of progress of Orbit, if there is one. -/
def orbProgress (phys : Phys) (b : Blk) : Option Blk :=
  match b.orb.held.find? (fun x => b.heldReady x) with
  | some x => some (applyRole phys x.pkt x.port x.owner x.target (modOrb (fun o => { o with held := o.held.erase x }) b))
  | none =>
  match b.orb.queues.findSome? (fun e =>
    if !b.queueMoves e.1 e.2 then none
    else match e.2.msgs.head? with
    | some m =>
      (match m.status with
       | some st => some (drainQueue phys e.1 e.2 m st b)
       | none => none)
    | none => none) with
  | some b' => some b'
  | none =>
  match b.orb.queues.findSome? (fun e => (e.2.waiting).bind (fun m => (b.waitMet e.2 m).map (fun v => endWait e.1 m.idx 0 v b))) with
  | some b' => some b'
  | none =>
  match SMap.first? b.orb.queues (fun q x => b.mayStart q x) with
  | some e => some (fetchDesc phys e.1 e.2 b)
  | none =>
  match b.orb.dereg.find? (fun d => !b.keyBusy d.2) with
  | some d => some (modOrb (fun o => { o with dereg := o.dereg.erase d, cmds := SMap.upd CmdRegs.fresh o.cmds d.1 (fun c => { c with state := 2, reason := 0 }) }) b)
  | none =>
  match b.orb.keyTodo with
  | (i, k) :: rest => (writeKey phys i k b).map (modOrb (fun o => { o with keyTodo := rest }))
  | [] => none

/-! ### Doorbells, segments, timers -/

/-- DOORBELL: a new tail, by the queue's owner; otherwise a WINDOW violation (R327). -/
def doorbell (n q tail : Nat) (b : Blk) : Blk :=
  match b.oq q with
  | some x => if x.owner = n then modOq q (fun y => { y with tail := tail % 2 ^ 32 }) b else windowViolation n (0x1100000 + 4 * q) false b
  | none => windowViolation n (0x1100000 + 4 * q) false b

/-- SEGMENT_SEND: the queue sends its next unit (R309). -/
def segmentSend (phys : Phys) (q : Nat) (b : Blk) : Blk := sendUnit phys q b

/-- RETRANSMIT_TIMER: a segment's timer expires (R310, R311). -/
def retransmitTimer (phys : Phys) (q msgId offset : Nat) (b : Blk) : Blk :=
  match b.omsg q msgId with
  | some m => if SMap.has m.segs offset then resendSeg phys q msgId offset true (modOq q (fun x => { x with cwnd := 1 }) b) else b
  | none => b

/-- MESSAGE_HORIZON: an incomplete message completes with TIMEOUT once the count has reached MSG_COUNT + LT (R310). -/
def messageHorizon (q msgId : Nat) (b : Blk) : Blk :=
  match b.omsg q msgId with
  | some m => if m.msgCount + b.orbLt ≤ b.mer.count then finishMsg q m.idx 11 b else b
  | none => b

/-- WAIT_TIMEOUT: a WAIT with a timeout completes with WAIT_TIMEOUT (R307). -/
def waitTimeout (q : Nat) (b : Blk) : Blk :=
  match (b.oq q).bind (fun x => x.waiting) with
  | some m => if m.op2 / 2 ^ 32 = 0 then b else endWait q m.idx 13 (((b.oq (m.op2 % 2 ^ 22)).map (fun (x : OrbQueue) => x.counter)).getD 0) b
  | none => b

/-- WAIT_TABLE_RETRY: a WAIT that found the table full is tried again (R307). -/
def waitTableRetry (q : Nat) (b : Blk) : Blk :=
  let g : OrbMsg → OrbMsg := fun m => if m.op = 6 then { m with waitFull := false } else m
  match (b.oq q).bind (fun x => x.waiting) with
  | some m => if m.waitFull && decide (b.waitsOf (q % 2) < 16384) then modOq q (fun x => { x with msgs := x.msgs.map g }) b else b
  | none => b

/-- CONTEXT_FETCH_DONE: a context (`ctx`) or key entry has been read; packets that wait for it are processed in order of arrival (R319). A
key entry whose line cannot be read yet stays missing; a poisoned one is taken as not VALID. -/
def contextFetchDone (phys : Phys) (ctx : Bool) (ix : Nat) (b : Blk) : Blk :=
  let b :=
    if ctx then (if ix < b.cht.cur.orbit.backedQueues then loadCtx ix b else b)
    else if ix < b.cht.cur.orbit.keys then
      let p := b.keyPlace ix
      match readHalf phys p.1 p.2 (some b.cht.cur.halo.defaultPart) b with
      | (.data d, b) => loadKey ix (keyOfBytes ((bitsBytes 64 d).drop (if ix % 2 = 0 then 0 else 32))) b
      | (.poison, b) => loadKey ix {} b
      | (.hold _, b) => b
    else b
  let waiting := b.orb.miss
  waiting.foldl (fun b x => request phys x.1 x.2 b) (modOrb (fun o => { o with miss := [] }) b)

/-! ### Replay cache (R315, R319) -/

/-- REPLAY_ENTRY_EXPIRE: an entry is freed once count - A exceeds MSG_COUNT + LT. -/
def replayExpire (e src queue msgId : Nat) (b : Blk) : Blk :=
  let gone : Replay → Bool := fun r => r.src = src && r.queue = queue && r.msgId = msgId && decide (r.msgCount + b.orbLt + b.mer.drift < b.mer.count)
  modOrb (fun o => if e = 0 then { o with replayN := o.replayN.filter (fun r => !gone r) } else { o with replayS := o.replayS.filter (fun r => !gone r) }) b

/-- An Orbit engine's error pin with its location (R326, Tables 11-13, 16-1). -/
def orbPin (e slice macroNo word : Nat) (b : Blk) : Blk := assertPin (58 + e) (faultLoc e 0x1D slice macroNo word 0xFFF) b

/-- REPLAY_CACHE_ECC: a bad word of one of the engine's tables (R319). The context and key caches are written through: a context is reloaded,
and a key entry dropped, to be read again when it is next needed (R300). -/
def replayCacheEcc (x : OrbEcc) (macroNo word : Nat) (b : Blk) : Blk :=
  match x with
  | .context _ => b
  | .key i => modOrb (fun o => { o with keys := SMap.erase o.keys i }) b
  | .replay e =>
    let b := orbPin (e % 2) 3 macroNo word (setErr .orb 10 b)
    modOrb (fun o => { o with window := SMap.insert o.window (e % 2) b.mer.count }) b
  | .segment q msgId =>
    let b := orbPin (q % 2) 2 macroNo word (setErr .orb 11 b)
    match b.omsg q msgId with
    | some m => finishMsg q m.idx 12 b
    | none => b

/-- REPLAY_WINDOW_END: count - A exceeds the count at the error plus LT (R318, R319). -/
def replayWindowEnd (e : Nat) (b : Blk) : Blk :=
  match SMap.find? b.orb.window e with
  | some c =>
    if c + b.orbLt + b.mer.drift < b.mer.count then
      modOrb (fun o => { o with window := SMap.erase o.window e, openCount := b.mer.count }) b
    else b
  | none => b

/-! ### Commands of a logical device (R303, R302, R322, R327, Table 11-16) -/

/-- A logical device's Orbit command registers. -/
def Blk.orbCmd (b : Blk) (n : Nat) : CmdRegs := SMap.get CmdRegs.fresh b.orb.cmds n

/-- Change them. -/
def modOrbCmd (n : Nat) (f : CmdRegs → CmdRegs) (b : Blk) : Blk := modOrb (fun o => { o with cmds := SMap.upd CmdRegs.fresh o.cmds n f }) b

/-- Argument `i`. -/
def CmdRegs.arg (c : CmdRegs) (i : Nat) : Nat := (SMap.get 0 c.args i).toNat

/-- Set argument `i`. -/
def CmdRegs.setArg (c : CmdRegs) (i v : Nat) : CmdRegs := { c with args := SMap.put 0 c.args i (BitVec.ofNat 64 v) }

/-- The command ends: DONE with outputs, or FAILED with a REASON. -/
def orbDone (n : Nat) (f : CmdRegs → CmdRegs) (b : Blk) : Blk := modOrbCmd n (fun c => { f c with state := 2, reason := 0 }) b
def orbFail (n reason : Nat) (b : Blk) : Blk := modOrbCmd n (fun c => { c with state := 3, reason := reason }) b

/-- The number of a queue may be used: backed, unused, and past LT ticks after a destroyed queue's last message start (R322). -/
def Blk.queueFree (b : Blk) (q : Nat) : Bool :=
  decide (q < b.cht.cur.orbit.backedQueues) && (b.oq q).isNone && decide (SMap.get 0 b.orb.retired q ≤ b.mer.count)

/-- A ring of `n` bytes at `a`: aligned, in the view, homed here, not a Transit alias (R303). -/
def Blk.ringOk (b : Blk) (ld a n : Nat) : Bool :=
  decide (a % n = 0) && b.inView ld a n && b.homed a && b.homed (a + (n - 1)) && b.area a != .slot

/-- CREATE_QUEUE. -/
def orbCreate (n : Nat) (b : Blk) : Blk :=
  let c := b.orbCmd n
  let a1 := c.arg 1
  let log2 := a1 % 32
  let explicit := a1.testBit 32
  let want := a1 / 2 ^ 36 % 2 ^ 22
  if !b.cht.cur.orbit.enable then orbFail n 5 b
  else if b.pwr.boot.duskCount.any (fun c => decide (b.mer.count ≤ c + b.orbLt)) then orbFail n 7 b
  else if log2 < 4 || 16 < log2 || !b.ringOk n (c.arg 0) (2 ^ log2 * 64) || !b.ringOk n (c.arg 2) (2 ^ log2 * 32) || !b.ringOk n (c.arg 3) 8 then orbFail n 3 b
  else
    match (if explicit then (if b.queueFree want then some want else none) else (List.range b.cht.cur.orbit.backedQueues).find? b.queueFree) with
    | none => orbFail n 1 b
    | some q =>
      let x : OrbQueue := { owner := n, sq := c.arg 0, cq := c.arg 2, counterDpa := c.arg 3, log2 := log2, group := a1 / 2 ^ 16 % 2 ^ 16 }
      orbDone n (fun c => c.setArg 5 q) (loadCtx q (modOrb (fun o => { o with queues := SMap.insert o.queues q x, retired := SMap.erase o.retired q }) b))

/-- A queue that the command's caller owns, or the REASON. -/
def Blk.ownQueue (b : Blk) (n q : Nat) : Sum OrbQueue Nat :=
  match b.oq q with
  | some x => if x.owner = n then .inl x else .inr 2
  | none => .inr 1

/-- DESTROY_QUEUE: abandons its messages; with them its segments leave the segment table, so none is in flight. See assumption 148 (DEDUCED). -/
def orbDestroy (n : Nat) (b : Blk) : Blk :=
  let q := (b.orbCmd n).arg 0
  match b.ownQueue n q with
  | .inl _ => orbDone n id (destroyQueues (fun k _ => k = q) b)
  | .inr r => orbFail n r b

/-- RESUME_QUEUE: back to service from the next unstarted descriptor (R308). -/
def orbResume (n : Nat) (b : Blk) : Blk :=
  let q := (b.orbCmd n).arg 0
  match b.ownQueue n q with
  | .inl _ => orbDone n id (modOq q (fun x => { x with err := false }) b)
  | .inr r => orbFail n r b

/-- REGISTER_KEY: the entry of R300, its index and tag drawn by the controller unless explicit. See assumption 100 (DESIGN CHOICE). -/
def registerKey (phys : Phys) (n : Nat) (b : Blk) : Blk :=
  let c := b.orbCmd n
  let a2 := c.arg 2
  let explicit := a2.testBit 32
  let lim := b.cht.cur.orbit.keys
  let f := drawFree b
  let free := (List.range lim).filter (fun i => !SMap.has b.orb.keyUsed i)
  if !b.cht.cur.orbit.enable then orbFail n 5 b
  else if c.arg 1 = 0 || !b.inView n (c.arg 0) (c.arg 1) || a2 % 8 = 0 then orbFail n 3 b
  else
    let key : Sum Nat Nat :=
      if explicit then
        (if lim ≤ c.arg 3 / 2 ^ 40 then .inr 3 else if SMap.has b.orb.keyUsed (c.arg 3 / 2 ^ 40) then .inr 8 else .inl (c.arg 3))
      else match free with
        | [] => .inr 4
        | _ => .inl (free.getD (f.1 % free.length) 0 * 2 ^ 40 + f.1 / 2 ^ 24 % 2 ^ 40)
    match key with
    | .inr r => orbFail n r b
    | .inl k =>
      let e : KeyEntry := { base := c.arg 0, length := c.arg 1, tag := k % 2 ^ 40, rights := a2 % 8, valid := true, group := a2 / 2 ^ 16 % 2 ^ 16, owner := n }
      orbDone n (fun c => c.setArg 3 k) (setKey phys (k / 2 ^ 40) e (if explicit then b else f.2))

/-- DEREGISTER_KEY: no later packet passes; done when no access under the old entry is being placed (R302). -/
def deregisterKey (phys : Phys) (n : Nat) (b : Blk) : Blk :=
  let k := (b.orbCmd n).arg 3
  let i := k / 2 ^ 40
  let p := b.keyPlace i
  let entry := match SMap.find? b.orb.keys i with
    | some e => e
    | none => keyOfBytes ((bitsBytes 64 (halfOf (b.currentLine p.1).1 p.2)).drop (if i % 2 = 0 then 0 else 32))
  if !SMap.has b.orb.keyUsed i || entry.tag != k % 2 ^ 40 then orbFail n 4 b
  else if entry.owner != n then orbFail n 2 b
  else modOrb (fun o => { o with dereg := o.dereg ++ [(n, i)] }) (setKey phys i {} b)

/-- QUERY_QUEUE. -/
def queryQueue (n : Nat) (b : Blk) : Blk :=
  let q := (b.orbCmd n).arg 0
  match b.ownQueue n q with
  | .inl x =>
    let st := if x.err then 3 else if x.waiting.isSome then 2 else 1
    orbDone n (fun c => ((c.setArg 1 (st + x.errStatus * 256)).setArg 2 (x.head + x.cqNext * 2 ^ 32)).setArg 3 x.counter) b
  | .inr 1 => if q < b.cht.cur.orbit.backedQueues then orbDone n (fun c => ((c.setArg 1 0).setArg 2 0).setArg 3 0) b else orbFail n 1 b
  | .inr r => orbFail n r b

/-- Run the command whose OP is in LAST_OP. -/
def runOrbCmd (phys : Phys) (n op : Nat) (b : Blk) : Blk :=
  match op with
  | 1 => orbCreate n b | 2 => orbDestroy n b | 3 => orbResume n b | 4 => registerKey phys n b | 5 => deregisterKey phys n b
  | 6 => queryQueue n b | _ => orbFail n 3 b

/-- ORB_LD_CMD is taken: its arguments, STATE BUSY and LAST_OP (Table 11-14). -/
def takeOrbCmd (n op : Nat) (args : List Nat) (b : Blk) : Blk :=
  modOrbCmd n (fun c => { (args.zipIdx).foldl (fun (c : CmdRegs) x => c.setArg x.2 x.1) c with state := 1, reason := 0, lastOp := op }) b

/-- A write of ORB_LD_CMD with its arguments: SEQ while BUSY; the cores' restart makes it wait (R26, R322). -/
def orbCommand (phys : Phys) (n op : Nat) (args : List Nat) (b : Blk) : Blk :=
  if !(b.port (n / 16)).present.testBit (n % 16) || (b.ld n).resetting then b
  else if (b.orbCmd n).state = 1 then modOrbCmd n (fun c => { c with reason := 6 }) b
  else
    let b := takeOrbCmd n op args b
    if b.fwWaits then { b with fw := { b.fw with deferred := b.fw.deferred ++ [.orbCmd n op] } } else runOrbCmd phys n op b

end Sys2Proof.Machine
end

