-- ==== Sys2Proof/Machine/OpsTwin.lean ====
section
/-!
DEFINITION. Shared operations of chapter 10: half-links and their frames (R263 to R266), lease arithmetic (R279, R280, R282), the end of an
Eclipse (R283, R285), COLD deltas (R272 to R275, R286, R448) and HOT sync (R270, R271).
-/
namespace Sys2Proof.Machine
open Sys2Proof

/-- Change the twin state. -/
def modTwin (f : TwinSt → TwinSt) (b : Blk) : Blk := { b with twin := f b.twin }

/-- Record a TWN_ERR bit in the Logbook. -/
def twinLog (bit : Nat) (b : Blk) : Blk := setErrLog .twn bit {} b

/-! ### Half-links -/

/-- A half-link, 0 north and 1 south. -/
def Blk.link (b : Blk) (l : Nat) : HalfLink := SMap.get HalfLink.fresh b.twin.links l
def modLink (l : Nat) (f : HalfLink → HalfLink) (b : Blk) : Blk := modTwin (fun t => { t with links := SMap.upd HalfLink.fresh t.links l f }) b

/-- A half-link is up. -/
def Blk.linkUp (b : Blk) (l : Nat) : Bool := decide (0 < (b.link l).width)

/-- TWN_STATUS.LINK. -/
def Blk.linkField (b : Blk) : Nat := (if b.linkUp 0 then 1 else 0) + (if b.linkUp 1 then 2 else 0)

/-- The half-link a message takes: that of its hemisphere, else the other (R263). See assumption 101 (DEDUCED). -/
def Blk.linkFor (b : Blk) (h : Nat) : Nat := if b.linkUp h then h else 1 - h

/-- The DATA frames of a message on a half-link, kept in its replay buffer (R265, R266). -/
def HalfLink.frame (m : TwinMsg) (l : HalfLink) : HalfLink :=
  { l with sendSeq := l.sendSeq + m.frames, frames := l.frames + m.frames,
           unacked := l.unacked ++ (List.range m.frames).map (fun k => { seq := l.sendSeq + k, phase := l.keyPhase, part := k, msg := m }) }

/-- The frames of a message for a line of a hemisphere, on the half-link that it takes (R265). -/
def frameMessage (h : Nat) (m : TwinMsg) (b : Blk) : Blk :=
  if b.linkUp (b.linkFor h) then modLink (b.linkFor h) (HalfLink.frame m) b else b

/-- The frames of an output, if it is a Crailanil message. -/
def frameOne (b : Blk) (o : Output) : Blk := match o with | .crn h m => frameMessage h m b | _ => b

/-- Number the frames of the messages that this step has sent (R265): a message begins a frame of its own. See assumption 101 (DEDUCED). -/
def frameOutputs (b : Blk) : Blk := b.out.foldl frameOne b

/-- Home hemisphere of a message that arrives, as its sender knew it (R263). -/
def Blk.cameFor (b : Blk) (m : TwinMsg) : Nat :=
  match m with
  | .mirrorWrite _ a _ _ _ => b.hemi (a / 128)
  | .mirrorAck t => ((b.host.mirror.find? (fun m => m.tag = t)).map (fun m => b.hemi (m.addr / 128))).getD 0
  | .fwdRead _ dpa _ => b.dpaHemi dpa
  | .fwdWrite _ dpa _ _ _ => b.dpaHemi dpa
  | .fwdData t _ _ =>
    match b.twin.fetches.find? (fun x => x.1 = t) with
    | some (_, k) => b.hemi (k / 2)
    | none => ((b.host.fwd.find? (fun f => f.tag = t)).map (fun f => b.dpaHemi f.req.dpa)).getD 0
  | .fwdDone t => ((b.host.fwd.find? (fun f => f.tag = t)).map (fun f => b.dpaHemi f.req.dpa)).getD 0
  | .coldPage k _ _ => b.shipHemi k
  | .syncDigest p _ _ => b.hemi (p * 32)
  | .syncPage p _ _ => b.hemi (p * 32)
  | .syncMatch p _ => b.hemi (p * 32)
  | .sfUpdate g _ => b.dpaHemi (g * 128)
  | _ => 0

/-- A message's frames have arrived in order on a half-link: an ACK is due (R266). -/
def frameIn (l : Nat) (m : TwinMsg) (b : Blk) : Blk :=
  modLink l (fun x => { x with recvSeq := x.recvSeq + m.frames, framesIn := x.framesIn + m.frames, ackDue := true }) b

/-- An event that the Almanac counts and that Table 16-5 gives no code: its code in group 0x12 is open (R290). See assumption 145 (DESIGN CHOICE). -/
def countUncoded (b : Blk) : Blk := let f := drawFree b; countEvent 0x12 (16 + f.1 % 16) f.2

/-- A message of the twin: its frames are taken and it is acted on, or its frame fails and a NAK asks for it again (R266, Table 10-9). -/
def viaFrame (phys : Phys) (m : TwinMsg) (act : Blk → Blk) (b : Blk) : Blk :=
  let l := b.linkFor (b.cameFor m)
  if !b.linkUp l || b.inDusk then act b
  else if phys.crn then send (.crnNak l (b.link l).recvSeq) (countUncoded b)
  else act (frameIn l m b)

/-- A half-link leaves service: its keys and its replay buffer go. -/
def dropLink (l : Nat) (b : Blk) : Blk := modLink l (fun _ => {}) b

/-! ### The lease (R279 to R282) -/

/-- L, G and D_rt in ticks. -/
def Blk.leaseL (b : Blk) : Nat := b.cht.cur.twin.leaseMs * 1000000 / Nat.max b.mer.body.tickNs 1
def Blk.leaseG (b : Blk) : Nat := ceilDiv 1000000 (Nat.max b.mer.body.tickNs 1) + 2
def Blk.roundTrip (b : Blk) : Nat := ceilDiv 43200 (Nat.max b.mer.body.tickNs 1)

/-- The fence instant of a half, X - G - A (R280); none without a grant. -/
def Blk.fenceAt (b : Blk) (h : Nat) : Option Int :=
  (b.half h).expiry.map (fun x => (x : Int) - b.leaseG - b.mer.drift)

/-- TWN_STATUS.FENCE_EARLY (R282). -/
def Blk.fenceEarly (b : Blk) : Bool := b.paired && decide ((b.leaseL : Int) - b.leaseG - b.roundTrip ≤ (b.mer.drift : Int))

/-- Roles of both halves as HEARTBEAT and STATE carry them. -/
def Blk.roles (b : Blk) : Nat := (b.half 0).role.code + 4 * (b.half 1).role.code

/-- The STATUS code the unit reports (Table 10-5). -/
def Blk.statusCode (b : Blk) : Nat :=
  if b.twin.faulted || b.halo.fatal then 5
  else if b.twin.linkDown && b.twin.graceExpired then 2
  else if b.twin.stale then 1 else 0

/-- Send STATUS for every half when the code it reports has changed (R278). -/
def noteStatus (b : Blk) : Blk :=
  if b.twin.statusSent.isSome && b.twin.statusSent != some b.statusCode && !b.inDusk then
    b.halvesOf.foldl (fun b h => sendStatus h b.statusCode b) b
  else b

/-! ### Completions held by an Eclipse (R283, R285) -/

/-- Complete a mirrored write, when it has someone to tell. -/
def mirrorDone (m : MirrorWait) (b : Blk) : Blk :=
  match m.src with
  | some s => answerWrite s b
  | none => b

/-- Send the completions that are due and that an Eclipse or a Dusk held back; writes the twin never acknowledged are not completed. -/
def sendWithheld (drop : Bool) (b : Blk) : Blk :=
  let due := b.host.mirror.filter (fun (m : MirrorWait) => m.acked)
  let b := { b with host := { b.host with mirror := if drop then [] else b.host.mirror.filter (fun (m : MirrorWait) => !m.acked) } }
  due.foldl (fun b m => mirrorDone m b) b

/-- The end of an Eclipse as this unit sees it: window values go live, the end count, the ECLIPSE record, the deferred mailbox commands and
the held requests of the half in their order of arrival (R110, R283, R285). -/
def eclipseOver (phys : Phys) (h : Nat) (b : Blk) : Blk :=
  let b := releaseEclipsed (modHalf h (fun x => { x with eclipse := false }) b)
  let b := modTwin (fun t => { t with eclipseEnd := b.mer.count, eclipses := t.eclipses + 1 }) b
  let b := postVendor .eclipse { detail := [b.twin.eclipseStart, b.mer.count] } b
  retryWhy phys (.gate h) (sendWithheld true b)

/-! ### COLD deltas -/

/-- The capture of a line with the smallest label at or above `e` (R272). -/
def Blk.captureFor (b : Blk) (key j e : Nat) : Option DramLine :=
  let cs := b.twin.captures.filter (fun x => x.1 = key * 32 + j && decide (e ≤ x.2.1))
  match cs with
  | [] => none
  | c :: rest => some (rest.foldl (fun x y => if y.2.1 < x.2.1 then y else x) c).2.2

/-- Lines of a local page that pass a test, read for shipment; a line that cannot be read ships poisoned (R159). -/
def shipPage (phys : Phys) (p : Nat) (want : Nat → Bool) (b : Blk) : PageLines × Blk :=
  ((List.range 32).filter want).foldl (fun (acc : PageLines × Blk) j =>
    let r := lineOut phys .wb (32 * p + j) acc.2
    (SMap.put DramLine.zero acc.1 j (r.1.getD (r.2.lineFor (32 * p + j) 0 true 0)), r.2)) ([], b)

/-- Contents of a page by its ship-list key as they stand, for the lines that pass a test: the local page, a staged Far page, or their stored copies. -/
def shipLines (phys : Phys) (key : Nat) (want : Nat → Bool) (b : Blk) : PageLines × Blk :=
  let stored : Option FlashUnit → PageLines := fun u => SMap.keep ((u.map (fun x => x.lines)).getD []) (fun j _ => want j)
  if key < 2 ^ 36 then
    (if b.presence key == .pending then (stored ((b.copiesOf key).head?.map (fun x => x.1)), b) else shipPage phys key want b)
  else
    match b.stageFind (key - 2 ^ 36) with
    | some i => if (b.dirEntry i).state == .filling then (stored (b.farUnit (key - 2 ^ 36)), b) else shipPage phys (b.slotPage i) want b
    | none => (stored (b.farUnit (key - 2 ^ 36)), b)

/-- Delta contents of a page for epoch `e` (R272). -/
def deltaLines (phys : Phys) (key e : Nat) (b : Blk) : PageLines × Blk :=
  let cap := fun (j : Nat) => b.captureFor key j e
  let r := shipLines phys key (fun j => (cap j).isNone) b
  ((List.range 32).foldl (fun m j => match cap j with | some d => SMap.put DramLine.zero m j d | none => m) r.1, r.2)

/-- Does a page have captures? -/
def Blk.hasCapture (b : Blk) (key : Nat) : Bool := b.twin.captures.any (fun x => x.1 / 32 == key)

/-- The next epoch to ship (R273): S + 1, or with nothing shipped yet the oldest listed epoch, else the last sealed one. -/
def Blk.nextShip (b : Blk) : Option Nat :=
  match b.twin.shipped with
  | some s => some (s + 1)
  | none => match b.twin.shipList.map (·.2) with
    | [] => b.mer.sealedEpoch
    | e :: es => some (es.foldl Nat.min e)

/-- A received COLD unit becomes the twin's stored version (R275): the map points to it, and it is durable there; a newer unit of the page that the fold of
an older delta left behind is void. In Binary a Near page of the twin is F = 2^35 + P (R286). See assumption 140 (DEDUCED). -/
def foldUnit (u : FlashUnit) (b : Blk) : Blk :=
  match b.unitPlace u with
  | none => b
  | some (s, slot) =>
    let b := voidUnits (fun x => x.kind == u.kind && x.page == u.page && decide (u.seq < x.seq) && !b.inDelta x.seq) b
    let b := pointTo u s slot b
    let put : SMap MapEntry → SMap MapEntry → SMap MapEntry := fun old now => match SMap.find? now u.page with | some e => SMap.insert old u.page e | none => old
    modNvf (fun n => { n with saved := if u.kind = .far then { n.saved with far := put n.saved.far n.farMap } else { n.saved with home := put n.saved.home n.homeMap } }) b

/-- Fold the oldest delta into the map (R213, R275). -/
def foldOldest (b : Blk) : Blk :=
  match b.twin.deltas with
  | [] => b
  | d :: rest =>
    let b := modTwin (fun t => { t with deltas := rest, folded := some d.epoch }) b
    let b := d.units.foldl (fun b x => foldUnit x.2 b) b
    d.farUnits.foldl (fun b x => foldUnit x.2 b) b

/-- Entries of the delta index (R275): 524,288 per hemisphere. -/
def Blk.deltaEntries (b : Blk) (h : Nat) : Nat :=
  (b.twin.deltas.map (fun d => (d.units.filter (fun e => b.shipHemi e.1 == h)).length + (d.farUnits.filter (fun e => e.1 % 2 == h)).length)).foldl (· + ·) 0

/-- Fold while more than KEEP_EPOCHS deltas are kept or an index is full. -/
def foldWhile : Nat → Blk → Blk
  | 0, b => b
  | n + 1, b =>
    if b.cht.cur.twin.keepEpochs < b.twin.deltas.length || decide (524288 < b.deltaEntries 0) || decide (524288 < b.deltaEntries 1) then foldWhile n (foldOldest b) else b

/-- The unit can open at an epoch (R275, R286, R448): the folded one or that of a kept delta. -/
def Blk.canOpen (b : Blk) (e : Nat) : Bool := b.twin.folded == some e || b.twin.deltas.any (fun d => d.complete && d.epoch == e)

/-- The unit of a received page is durable: its page program has completed (R214, R273), or it is no more. -/
def Blk.durable (b : Blk) (u : FlashUnit) : Bool :=
  match b.unitPlace u with
  | some (s, slot) => (b.stripe s).done.contains (slot / 4)
  | none => !b.twin.coldWait.any (fun x => x.seq == u.seq)

/-- Received pages take their places as stripes have room (R212). -/
def placeCold : Nat → Blk → Blk
  | 0, b => b
  | n + 1, b =>
    match b.twin.coldWait with
    | [] => b
    | u :: rest =>
      match placeUnit u b with
      | some x => placeCold n (modTwin (fun t => { t with coldWait := rest }) x.2)
      | none => b

/-- The receiving unit's own live application: the copies of regions that change to a class are complete (R57). -/
def copied (m : Mirror) (b : Blk) : Blk :=
  let f : LiveApply → LiveApply := fun a =>
    { a with mirrorDone := (a.mirrorDone ++ a.mirrorLeft.filter (fun r => ((a.next.region? r).map (fun (x : Region) => x.mirror == m)).getD false)).eraseDups }
  { b with cht := { b.cht with apply := b.cht.apply.map f } }

/-- COLD_ACK goes out when every page of the delta is durable; the delta is then kept, and older ones are folded (R273, R275). -/
def settleCold (b : Blk) : Blk :=
  match b.twin.coldDue with
  | none => b
  | some e =>
    let b := placeCold b.twin.coldWait.length b
    let mine := b.twin.deltas.filter (fun d => d.epoch == e)
    if b.inDusk || !b.twin.coldWait.isEmpty || !mine.all (fun d => d.units.all (fun x => b.durable x.2) && d.farUnits.all (fun x => b.durable x.2)) then b
    else
      let g : ColdDelta → ColdDelta := fun d => if d.epoch = e then { d with complete := true } else d
      let b := modTwin (fun t => { t with coldDue := none, coldHeld := some e, folded := if t.folded.isNone && t.deltas.length ≤ 1 then some (e - 1) else t.folded,
                                          deltas := t.deltas.map g }) b
      let receives := !b.binary && !(b.halvesOf.any (fun h => (b.half h).role == .holder))
      let after := match b.cht.apply with | some a => a.switched && decide (a.epoch ≤ e) | none => false
      send (.crn 0 (.coldAck e)) (foldWhile b.twin.deltas.length (if receives && after then copied .cold b else b))

/-- Open the COLD pages of a taken-over half at an epoch (R286): newer deltas are discarded, the others folded; in Twin the pages become
PENDING with home descriptors. -/
def openCold (e : Nat) (b : Blk) : Blk :=
  let b := dropDeltas (fun d => d.complete && decide (d.epoch ≤ e)) b
  let n := b.twin.deltas.length
  let b := modTwin (fun t => { t with takeover := some e }) b
  let b := (List.range n).foldl (fun b _ => foldOldest b) b
  if b.binary then b
  else
    let cold : Nat → Bool := fun p => match (b.lineInfo (p * 32)).region with | some r => r.mirror == .cold && !r.far | none => false
    ((SMap.keys b.nvf.homeMap).filter cold).foldl (fun b p =>
      { setPresence p .pending (dropPageHalo p (dropPageLines p b)) with pers := { b.pers with from' := SMap.erase b.pers.from' p } }) b

/-! ### HOT sync -/

/-- HOT regions of the Chart in force, by ID. -/
def Blk.hotRegions (b : Blk) : List Nat := (b.cht.cur.regions.filter (fun r => r.mirror == .hot && !r.far)).map (fun r => r.id)

/-- Local frames of HOT data of the halves this unit holds: its own, and in Binary the mirror frames of a half it has taken over. -/
def Blk.hotFrames (b : Blk) : List Nat :=
  let own := framesOf b.cht.cur b.cht.isB (fun r => b.mirrorClass r = .hot)
  if !b.binary then (if (b.half 0).role = .holder then own else [])
  else
    (if (b.half b.ownHalf).role = .holder then own else []) ++
    (if (b.half (1 - b.ownHalf)).role = .holder then
      (framesOf b.cht.cur (!b.cht.isB) (fun r => b.mirrorClass r = .hot)).filterMap (fun f => b.mirChart.mirrorHome b.cht.isB f) else [])

/-- Start a HOT sync (R270): the holder will walk the HOT pages in ascending P. -/
def startSync (regions : List Nat) (b : Blk) : Blk :=
  modTwin (fun t => { t with syncing := true, dawnSynced := true, syncTodo := (b.hotFrames.map (fun f => (f * 65536, 65536))), syncWait := [], syncRegions := regions }) b

/-- A local page as it stands, line by line with poison, read for the twin (R159, R270): a PENDING page's lines are those of its stored copy, and a line
that cannot be read is poisoned. -/
def pageNow (phys : Phys) (p : Nat) (b : Blk) : List (Line × Bool) × Blk :=
  if b.presence p == .pending then
    let u := (b.copiesOf p).head?.map (fun x => x.1)
    ((List.range 32).map (fun j =>
      let i := b.lineInfo (32 * p + j)
      match u with
      | some u => ((SMap.get DramLine.zero u.lines j).decrypt (b.keyOf i.keySlot) i.dpa 0, u.poisonMask.testBit j)
      | none => if b.fillsOnRestore p then (0, false) else (0, true)), b)
  else
    (List.range 32).foldl (fun (acc : List (Line × Bool) × Blk) j =>
      let l := 32 * p + j
      let r := lineOut phys .wb l acc.2
      let c := r.2.currentLine l
      (acc.1 ++ [match r.1 with | some d => (c.1, d.poison) | none => (0, true)], r.2)) ([], b)

/-- The digest of SYNC_DIGEST: the first 8 bytes of SHAKE256 of the page (Table 10-3). -/
def digestOf (ls : List (Line × Bool)) : Nat := leNat (Config.shake256 8 (ls.flatMap (fun x => bitsBytes 128 x.1)))

/-- SYNC_PAGE of a local page. -/
def sendSyncPage (phys : Phys) (p : Nat) (b : Blk) : Blk :=
  let r := pageNow phys p b
  send (.crn (b.hemi (p * 32)) (.syncPage p (b.stampOf p) r.1)) r.2

/-- The standby's STATE reports a copy of the page's region: compare mode (R270). -/
def Blk.compares (b : Blk) (p : Nat) : Bool :=
  match (b.lineInfo (p * 32)).region with
  | some r => b.twin.peerCopies.contains r.id
  | none => false

/-- The sync places the next page's message on the channel (R270). -/
def syncStep (phys : Phys) (b : Blk) : Blk :=
  if !b.twin.syncing || b.twin.linkDown || b.inDusk then b
  else match b.twin.syncTodo with
  | [] => b
  | (p, n) :: rest =>
    let b := modTwin (fun t => { t with syncTodo := if n ≤ 1 then rest else (p + 1, n - 1) :: rest }) b
    if n = 0 then b
    else if b.compares p then
      let r := pageNow phys p b
      send (.crn (b.hemi (p * 32)) (.syncDigest p (digestOf r.1) (b.stampOf p))) (modTwin (fun t => { t with syncWait := SMap.insert t.syncWait p (b.stampOf p) }) r.2)
    else sendSyncPage phys p b

/-- TWN_SYNC.PAGES_LEFT and MODE. -/
def Blk.syncLeft (b : Blk) : Nat := (b.twin.syncTodo.map (·.2)).foldl (· + ·) 0 + b.twin.syncWait.length
def Blk.syncCopy (b : Blk) : Bool := b.twin.syncing && (match b.twin.syncTodo with | (p, _) :: _ => !b.compares p | [] => false)

/-- The local line of this unit that corresponds to a local line of the twin (R261): the same in Twin; in Binary the mirror frame of the
twin's frame, or the own frame whose mirror the twin's frame is. -/
def Blk.twinLine (b : Blk) (l : Nat) : Option Nat :=
  if !b.binary then some l
  else
    let a := l * 128
    match b.mirChart.mirrorFrame (!b.cht.isB) (a / frame) with
    | some f => some ((f * frame + a % frame) / 128)
    | none => (b.mirChart.mirrorHome b.cht.isB (a / frame)).map (fun f => (f * frame + a % frame) / 128)

/-- Pages that the local unit holds contents of: stored copies, written lines and lines in Halo. -/
def Blk.writtenPages (b : Blk) : List Nat :=
  (SMap.keys b.nvf.homeMap ++ b.liveGens.flatMap (fun (g : SaveGen) => SMap.keys g.units) ++ (SMap.keys b.dram.lines).map (· / 32) ++
    b.halo.lines.map (fun (e : Nat × HaloLine) => e.2.line / 32)).eraseDups

/-- The ship-list keys of all written pages of regions that become COLD. See assumption 50 (DEDUCED). -/
def Blk.copyKeys (b : Blk) (ids : List Nat) : List Nat :=
  let near := b.writtenPages.filterMap (fun p =>
    match (b.lineInfo (32 * p)).region with
    | some r => if ids.contains r.id then b.shipKey p else none
    | none => none)
  let far := (SMap.keys b.nvf.farMap).filterMap (fun f =>
    match (b.farInfo f).1 with
    | some r => if ids.contains r.id && b.mirrorClass r == .cold && decide (f < 2 ^ 35) && b.homed (b.farDpa f) then some (2 ^ 36 + f) else none
    | none => none)
  (near ++ far).eraseDups

/-- The copy of regions that become COLD, or that a Dusk broke off, starts: their pages are listed under label E (R57, R200). -/
def shipRegions (ids : List Nat) (e : Nat) (b : Blk) : Blk :=
  let new := ((b.copyKeys ids).map (fun k => (k, e))).filter (fun x => !b.twin.shipList.contains x)
  { b with twin := { b.twin with shipList := b.twin.shipList ++ new } }

end Sys2Proof.Machine
end

