-- ==== Sys2Proof/Machine/Cipher.lean ====
section
/-!
DEFINITION. Effects of the cipher commands of chapter 12: request queues, unwrapping and clearing key slots, register pages and the slot
store; and the wrapping of keys (R340).
-/
namespace Sys2Proof.Machine
open Sys2Proof

/-- Change the cipher engine's state. -/
def modCph (f : CphSt → CphSt) (b : Blk) : Blk := { b with cph := f b.cph }

/-! ### Slots (R332 to R345) -/

/-- A region of the Chart in force names the slot. -/
def Blk.regionNames (b : Blk) (s : Nat) : Bool := b.cht.cur.regions.any (fun r => r.keySlot == s)

/-- A valid SA names the slot. -/
def Blk.saNames (b : Blk) (s : Nat) : Bool := b.cht.cur.orbit.sas.any (fun a => a.valid && a.keySlot == s)

/-- The largest USAGE_LIMIT of a mode, and its default (Table 12-6). -/
def maxLimit (xts : Bool) : Nat := if xts then 2 ^ 44 else 2 ^ 40
def defaultLimit (xts : Bool) : Nat := if xts then 2 ^ 44 else 2 ^ 32

/-- The check of a key (R342): the first 16 bytes of SHAKE256(KEK, key). -/
def keyCheckOf (kek key : List Byte) : Nat := leNat (Config.shake256 16 (kek ++ key))

/-- The format of a blob's header (Table 12-4). -/
def blobFormatOk (x : List Byte) : Bool :=
  let mode := uAt x 8 1
  let rights := uAt x 0x0A 2
  uAt x 0 4 == 0x424F4C42 && uAt x 4 2 == 1 && (mode == 1 || mode == 2) && uAt x 9 1 == 0 && decide (rights < 16) && rights != 0 &&
  !(rights.testBit 0 && mode != 1) && !(rights.testBit 3 && mode != 2)

/-- Unwrap a blob for a caller, a logical device or the management path: the result of Table 12-5 and the slot loaded (R341, R342).
See assumption 92 (DEDUCED). -/
def unwrap (x : List Byte) (caller : Option Nat) (b : Blk) : Nat × Blk :=
  let fail : Nat → Nat × Blk := fun r => (r, setErr .cph 1 b)
  if !blobFormatOk x then fail 1
  else if b.ident.ownerKeyId != some ((x.drop 0x30).take 16) then fail 2
  else match b.cph.kek with
  | none => fail 3
  | some kek =>
    let xts := uAt x 8 1 == 1
    let n := if xts then 64 else 32
    let hdr := x.take 64
    let wrapped := (x.drop 64).take n
    let nonce := uAt x 0x0C 12
    let s := uAt x 6 2
    if Config.gcmTag (leNat kek) nonce hdr wrapped != uAt x (64 + n) 16 then fail 3
    else if !userSlot s || !(if xts then inXts b.cht.cur.cipher s else inGcm b.cht.cur.cipher s) then fail 4
    else
      let mask := uAt x 0x28 8
      let lim0 := uAt x 0x18 8
      let serial := uAt x 0x20 8
      let rights := uAt x 0x0A 2
      let k := b.slot s
      let plain := Config.gcmCrypt (leNat kek) nonce wrapped
      let key := leNat plain
      let check := keyCheckOf kek plain
      if (match caller with | some c => !mask.testBit c | none => false) then fail 5
      else if maxLimit xts < lim0 then fail 6
      else if serial < k.floor || (serial = k.floor && !b.cph.countsClean) then fail 7
      else if (b.regionNames s && !(xts && rights.testBit 0)) || (b.saNames s && !(!xts && rights.testBit 3)) then fail 8
      else if b.regionNames s && (if k.state = .empty then (match k.check with | some c => c != check | none => false) else key != k.key) then fail 9
      else
        let lim := if lim0 = 0 then defaultLimit xts else lim0
        let count := if k.check = some check then (if b.cph.countsClean then k.count else lim) else 0
        let st := if lim ≤ count then KeyState.exhausted else .loaded
        let b' := modSlot s (fun _ => { state := st, key := key, mode := if xts then .xts else .gcm, rights := rights, ldMask := mask, limit := lim,
                                        count := count, floor := serial, check := some check,
                                        overLogged := k.overLogged && k.check == some check }) b
        (0, if lim ≤ count && k.state != .exhausted then setErrLog .cph 2 { kind := .perType, loc := BitVec.ofNat 64 s } b' else b')

/-- CLEAR_SLOT: EMPTY, with its floor, count and check kept (R342). -/
def clearSlot (s : Nat) (b : Blk) : Blk :=
  modSlot s (fun k => { floor := k.floor, count := k.count, check := k.check }) b

/-- A slot may be cleared: no region and no valid SA names it. -/
def Blk.slotInUse (b : Blk) (s : Nat) : Bool := b.regionNames s || b.saNames s

/-- CPH_SLOT_INFO of a slot (Table 12-17). -/
def Blk.slotInfo (b : Blk) (s : Nat) : W64 :=
  let k := b.slot s
  let st := if s < 32 then 3 else match k.state with | .empty => 0 | .loaded => 1 | .exhausted => 2
  view [place st 2 0, place k.mode.code 2 2, place k.rights 4 4, placeBit (b.regionNames s) 8, placeBit (b.saNames s) 9]

/-- Wrap a key under a header (R339, R340): the controller draws NONCE. None without a KEK. -/
def wrapBlob (hdr key : List Byte) (b : Blk) : Option (List Byte) × Blk :=
  match b.cph.kek with
  | none => (none, b)
  | some kek =>
    let f := drawFree b
    let nonce := f.1 % 2 ^ 96
    let h := hdr.take 12 ++ natLe 12 nonce ++ (hdr.drop 24).take 40
    let ct := Config.gcmCrypt (leNat kek) nonce key
    (some (h ++ ct ++ natLe 16 (Config.gcmTag (leNat kek) nonce h ct)), f.2)

/-! ### Command registers (Tables 12-14, 12-15) -/

/-- A logical device's cipher command registers. -/
def Blk.cphCmd (b : Blk) (n : Nat) : CmdRegs := SMap.get CmdRegs.fresh b.cph.cmds n
def modCphCmd (n : Nat) (f : CmdRegs → CmdRegs) (b : Blk) : Blk := modCph (fun o => { o with cmds := SMap.upd CmdRegs.fresh o.cmds n f }) b
def cphDone (n : Nat) (f : CmdRegs → CmdRegs) (b : Blk) : Blk := modCphCmd n (fun c => { f c with state := 2, reason := 0 }) b
def cphFail (n reason : Nat) (b : Blk) : Blk := modCphCmd n (fun c => { c with state := 3, reason := reason }) b

/-- A request queue. -/
def Blk.cq (b : Blk) (q : Nat) : Option CphQueue := SMap.find? b.cph.queues q
def modCq (q : Nat) (f : CphQueue → CphQueue) (b : Blk) : Blk :=
  match b.cq q with
  | some x => modCph (fun o => { o with queues := SMap.insert o.queues q (f x) }) b
  | none => b

/-- Owner of a queue by the Chart in force (R346). -/
def Blk.queueOwner (b : Blk) (q : Nat) : Option Nat := SMap.find? b.cht.cur.cipher.queueOwner q

/-- CREATE_QUEUE (R346). -/
def cphCreate (n : Nat) (b : Blk) : Blk :=
  let c := b.cphCmd n
  let q := c.arg 0 % 256
  let log2 := c.arg 3 % 16
  if b.queueOwner q != some n then cphFail n 1 b
  else if (b.cq q).isSome then cphFail n 4 b
  else if log2 < 4 || 12 < log2 || !b.ringOk n (c.arg 1) (2 ^ log2 * 64) || !b.ringOk n (c.arg 2) (2 ^ log2 * 16) then cphFail n 2 b
  else cphDone n id (modCph (fun o => { o with queues := SMap.insert o.queues q { owner := n, sq := c.arg 1, cq := c.arg 2, log2 := log2 } }) b)

/-- The queue a command names, owned by its caller; else its REASON. -/
def Blk.ownCq (b : Blk) (n q : Nat) : Sum CphQueue Nat :=
  match b.cq q with
  | some x => if x.owner = n then .inl x else .inr 1
  | none => if b.queueOwner q = some n then .inr 2 else .inr 1

/-- DESTROY_QUEUE: done when no descriptor is under way. -/
def cphDestroy (n : Nat) (b : Blk) : Blk :=
  let q := (b.cphCmd n).arg 0 % 256
  match b.ownCq n q with
  | .inl _ => modCq q (fun x => { x with closing := true }) b
  | .inr r => cphFail n r b

/-- RESUME_QUEUE (R347). -/
def cphResume (n : Nat) (b : Blk) : Blk :=
  let q := (b.cphCmd n).arg 0 % 256
  match b.ownCq n q with
  | .inl _ => cphDone n id (modCq q (fun x => { x with err := false }) b)
  | .inr r => cphFail n r b

/-- UNWRAP: the blob is read in the caller's view (R341). -/
def cphUnwrap (phys : Phys) (n : Nat) (b : Blk) : Blk :=
  let a := (b.cphCmd n).arg 1
  if a % 16 ≠ 0 || !b.inView n a 112 then cphFail n 2 b
  else startJob phys n (.blob n) (readAccesses a (if b.inView n a 144 then 144 else 112)) b

/-- CLEAR_SLOT of a logical device. -/
def cphClear (n : Nat) (b : Blk) : Blk :=
  let s := (b.cphCmd n).arg 0
  if !userSlot s then cphFail n 2 b
  else if !(b.slot s).ldMask.testBit n then cphFail n 1 b
  else if b.slotInUse s then cphFail n 4 b
  else cphDone n id (clearSlot s b)

/-- QUERY_SLOT. -/
def querySlot (n : Nat) (b : Blk) : Blk :=
  let s := (b.cphCmd n).arg 0
  if !userSlot s then cphFail n 2 b
  else if !(b.slot s).ldMask.testBit n then cphFail n 1 b
  else cphDone n (fun c => ((c.setArg 1 (b.slotInfo s).toNat).setArg 2 (b.slot s).count).setArg 3 (b.slot s).limit) b

/-- Run the command of OP. -/
def runCphCmd (phys : Phys) (n op : Nat) (b : Blk) : Blk :=
  match op with
  | 1 => cphCreate n b | 2 => cphDestroy n b | 3 => cphResume n b | 4 => cphUnwrap phys n b | 5 => cphClear n b | 6 => querySlot n b
  | _ => cphFail n 2 b

/-- CPH_LD_CMD is taken: its arguments, STATE BUSY and LAST_OP (Table 12-14). -/
def takeCphCmd (n op : Nat) (args : List Nat) (b : Blk) : Blk :=
  modCphCmd n (fun c => { (args.zipIdx).foldl (fun (c : CmdRegs) x => c.setArg x.2 x.1) c with state := 1, reason := 0, lastOp := op }) b

/-- A write of CPH_LD_CMD with its arguments: SEQ while BUSY; QUERY_SLOT runs on during a restart, the others wait (R350). -/
def cphCommand (phys : Phys) (n op : Nat) (args : List Nat) (b : Blk) : Blk :=
  if !(b.port (n / 16)).present.testBit (n % 16) || (b.ld n).resetting then b
  else if (b.cphCmd n).state = 1 then modCphCmd n (fun c => { c with reason := 3 }) b
  else
    let b := takeCphCmd n op args b
    if b.fwWaits && decide (1 ≤ op) && decide (op ≤ 5) then { b with fw := { b.fw with deferred := b.fw.deferred ++ [.cphCmd n op] } }
    else runCphCmd phys n op b

/-- The blob in CPH_BLOBn. -/
def Blk.blobBytes (b : Blk) : List Byte := (List.range 18).flatMap (fun i => bitsBytes 8 (SMap.get 0 b.cph.blob i))

/-- Run a CPH_CMD of the management path (Table 12-16): 1 UNWRAP, 2 CLEAR_SLOT. A clear of a slot in use, or of no user slot, fails. -/
def runMgmtCph (op slot : Nat) (b : Blk) : Blk :=
  if op = 1 then
    let r := unwrap b.blobBytes none b
    modCph (fun o => { o with cmd := { o.cmd with state := if r.1 = 0 then 2 else 3, unwrap := r.1, lastOp := 1 }, cmdSlot := uAt b.blobBytes 6 2 % 8192 }) r.2
  else if op = 2 then
    let ok := userSlot slot && !b.slotInUse slot
    modCph (fun o => { o with cmd := { o.cmd with state := if ok then 2 else 3, lastOp := 2 }, cmdSlot := slot }) (if ok then clearSlot slot b else b)
  else setErr .cph 7 b

/-- CPH_CMD: ignored while BUSY (R480); it waits for a restart's end (R350). -/
def mgmtCph (op slot : Nat) (b : Blk) : Blk :=
  if b.cph.cmd.state = 1 then b
  else if op ≠ 1 ∧ op ≠ 2 then setErr .cph 7 b
  else if b.fwWaits then
    modCph (fun o => { o with cmd := { o.cmd with state := 1 } }) { b with fw := { b.fw with deferred := b.fw.deferred ++ [.mgmtCph op slot] } }
  else runMgmtCph op slot b

/-! ### Descriptors (R347, R348) -/

/-- Units of a use (Table 12-6). -/
def useUnits (xts : Bool) (len : Nat) : Nat := if xts then ceilDiv len 128 else 1

/-- USES_LEFT of a slot (Table 12-8). -/
def Blk.usesLeft (b : Blk) (s : Nat) : Nat := (b.slot s).limit - (b.slot s).count

/-- The key checks of Table 12-9, KEY_EMPTY to LENGTH, for an operation by a logical device. -/
def Blk.opCheck (b : Blk) (n op s len aadLen : Nat) : Option Nat :=
  let k := b.slot s
  let xts := op == 1 || op == 2
  let enc := op == 1 || op == 3
  if !userSlot s || k.state == .empty then some 3
  else if k.state == .exhausted then some 4
  else if (decide (1 ≤ op) && decide (op ≤ 4) && (k.mode != (if xts then KeyMode.xts else .gcm) || !k.rights.testBit (if enc then 1 else 2))) || !k.ldMask.testBit n then some 5
  else if decide (1 ≤ op) && decide (op ≤ 4) &&
    (decide (16384 < len) || (xts && (len % 16 != 0 || len == 0)) || (!xts && decide (4096 < aadLen))) then some 6
  else none

/-- The memory checks of Table 12-9: FAULT and DESC. See assumption 94 (DEDUCED). -/
def Blk.descCheck (b : Blk) (n : Nat) (j : CphJob) (reservedOk : Bool) : Option Nat :=
  let gcm := j.op == 3 || j.op == 4
  let out := (j.len != 0 && b.area j.dst == .slot) || (gcm && b.area j.tag == .slot)
  if !b.inView n j.src j.len || !b.inView n j.dst j.len || (gcm && (!b.inView n j.aad j.aadLen || !b.inView n j.tag 16)) || out then some 7
  else if !(decide (1 ≤ j.op) && decide (j.op ≤ 4)) || !reservedOk || (j.src != j.dst && decide (j.src < j.dst + j.len) && decide (j.dst < j.src + j.len)) then some 8
  else none

/-- A DPA range starts in a region whose key slot is EMPTY (R336). -/
def Blk.descKeyEmpty (b : Blk) (n : Nat) (j : CphJob) : Bool := [j.src, j.dst, j.aad, j.tag].any (fun a => b.keyEmptyAt n a)

/-- Hemisphere of a queue, and of a logical device's register page: its port's (R329). -/
def cphHemi (q : Nat) : Nat := q % 2
def pageHemi (n : Nat) : Nat := n / 32 % 2

/-- The reads of a descriptor: SRC, AAD, and TAG of an OPEN (R347 step 2). -/
def CphJob.reads (j : CphJob) : List Access :=
  readAccesses j.src j.len ++ (if 3 ≤ j.op then readAccesses j.aad j.aadLen else []) ++ (if j.op = 4 then readAccesses j.tag 16 else [])

/-- Change a descriptor under way. -/
def modCphJob (q idx : Nat) (f : CphJob → CphJob) (b : Blk) : Blk :=
  let g : CphJob → CphJob := fun j => if j.index = idx then f j else j
  modCq q (fun x => { x with jobs := x.jobs.map g }) b

/-- Claim a verify buffer for an OPEN, or make it wait; then its reads begin (R348). -/
def beginReads (phys : Phys) (q : Nat) (x : CphQueue) (j : CphJob) (b : Blk) : Blk :=
  let h := cphHemi q
  if j.op = 4 && decide (32 ≤ SMap.get 0 b.cph.verify h) then modCphJob q j.index (fun y => { y with waitBuf := true }) b
  else
    let b := if j.op = 4 then modCph (fun o => { o with verify := SMap.upd 0 o.verify h (· + 1) }) (modCphJob q j.index (fun y => { y with waitBuf := false, holdsBuf := true }) b) else b
    startJob phys x.owner (.cphIn q j.index) j.reads b

/-- A descriptor that has been read starts: its checks, and when it passes them its use and its reads (R347 steps 1 and 2). See assumption 93 (DESIGN CHOICE). -/
def startCphDesc (phys : Phys) (q : Nat) (x : CphQueue) (d : List Byte) (poison : Bool) (b : Blk) : Blk :=
  let flags := uAt d 1 1
  let op := uAt d 0 1
  let s := uAt d 2 2
  let gcm := op == 3 || op == 4
  let j : CphJob := { index := x.next, op := op, slot := s, len := uAt d 4 4, src := uAt d 8 8, dst := uAt d 0x10 8, aad := uAt d 0x18 8,
                      aadLen := uAt d 0x20 2, iv := if gcm then uAt d 0x28 12 else uAt d 0x28 16, tag := uAt d 0x38 8 }
  let reservedOk := decide (flags < 2) && zeroAt d 0x22 6 && (!gcm || zeroAt d 0x34 4)
  let push : CphJob → Blk → Blk := fun j b => modCq q (fun y => { y with jobs := y.jobs ++ [j], next := (y.next + 1) % 2 ^ 32, fence := false }) b
  if flags.testBit 0 && !x.jobs.isEmpty then modCq q (fun y => { y with fence := true }) b
  else if poison then push { j with status := some 8 } b
  else match b.opCheck x.owner op s j.len j.aadLen with
  | some st => push { j with status := some st, left := b.usesLeft s } b
  | none =>
    match b.descCheck x.owner j reservedOk with
    | some st => push { j with status := some st, left := b.usesLeft s } (if st = 7 && b.descKeyEmpty x.owner j then setErr .cph 4 b else b)
    | none =>
      let b := useSlot s (useUnits (!gcm) j.len) false b
      let j := { j with key := (b.slot s).key, left := b.usesLeft s }
      beginReads phys q x j (push j b)

/-- The result of a cipher operation on bytes: output, tag, and whether an OPEN's tag fails. -/
def cphCompute (op key iv : Nat) (src aad : List Byte) (tag : Nat) : List Byte × Nat × Bool :=
  if op = 1 then (Config.xtsBytes true key iv src, 0, false)
  else if op = 2 then (Config.xtsBytes false key iv src, 0, false)
  else if op = 3 then
    let ct := Config.gcmCrypt key iv src
    (ct, Config.gcmTag key iv aad ct, false)
  else (Config.gcmCrypt key iv src, 0, Config.gcmTag key iv aad src != tag)

/-- An OPEN no longer needs its verify buffer; it is free at VERIFY_BUFFER_FREE. -/
def endVerify (q : Nat) (j : CphJob) (b : Blk) : Blk :=
  if j.holdsBuf then
    modCph (fun o => { o with verifyDone := SMap.upd 0 o.verifyDone (cphHemi q) (· + 1) }) (modCphJob q j.index (fun y => { y with holdsBuf := false }) b)
  else b

/-- A descriptor's reads are answered: it computes and writes (R347 step 3, R348). -/
def cphInDone (phys : Phys) (q idx : Nat) (w : Job) (b : Blk) : Blk :=
  match b.cq q with
  | none => b
  | some x =>
    match x.jobs.find? (fun j => j.index = idx) with
    | none => b
    | some j =>
      if w.poisoned then endVerify q j (modCphJob q idx (fun y => { y with status := some 2 }) b)
      else
        let n1 := (spans j.src j.len).length
        let n2 := if 3 ≤ j.op then (spans j.aad j.aadLen).length else 0
        let part : Nat → Nat → Job := fun o n => { w with got := (w.got.filter (fun (e : Nat × (Half × Bool)) => decide (o ≤ e.1) && decide (e.1 < o + n))).map (fun (e : Nat × (Half × Bool)) => (e.1 - o, e.2)) }
        let src := (part 0 n1).bytes j.src j.len 0
        let aad := if 3 ≤ j.op then (part n1 n2).bytes j.aad j.aadLen 0 else []
        let tag := if j.op = 4 then leNat ((part (n1 + n2) 4).bytes j.tag 16 0) else 0
        let r := cphCompute j.op j.key j.iv src aad tag
        if r.2.2 then endVerify q j (setErr .cph 0 (modCphJob q idx (fun y => { y with status := some 1 }) b))
        else startJob phys x.owner (.cphOut q idx) (writeAccesses j.dst r.1 ++ (if j.op = 3 then writeAccesses j.tag (natLe 16 r.2.1) else [])) b

/-- A descriptor's writes have reached their completion point. -/
def cphOutDone (q idx : Nat) (b : Blk) : Blk :=
  match (b.cq q).bind (fun x => x.jobs.find? (fun j => j.index = idx)) with
  | some j => endVerify q j (modCphJob q idx (fun y => { y with status := some 0 }) b)
  | none => b

/-- The queue's work goes on: no Dusk, and the gate of the half that homes its rings is open (R350). -/
def Blk.cphMoves (b : Blk) (x : CphQueue) : Bool := !b.inDusk && (b.half (b.halfOf x.sq)).gateOpen

/-- CIPHER_DESC_COMPLETE: the queue's oldest descriptor has its status: its completion entry is written (R346, R347 step 4). -/
def cipherDescComplete (phys : Phys) (q : Nat) (b : Blk) : Blk :=
  match b.cq q with
  | none => b
  | some x =>
    if !b.cphMoves x then b
    else match x.jobs with
    | [] => b
    | j :: rest =>
      match j.status with
      | none => b
      | some st =>
        let b := modCq q (fun y => { y with jobs := rest, done := (y.done + 1) % 2 ^ 32, err := y.err || decide (3 ≤ st) }) b
        let entry := natLe 4 (if st = 0 then j.len else 0) ++ natLe 1 st ++ natLe 1 (phaseOf x.log2 j.index) ++ natLe 2 0 ++ natLe 8 j.left
        startJob phys x.owner (.cphNote q) (writeAccesses (x.cq + 16 * (j.index % 2 ^ x.log2)) entry) b

/-- A logical device's register page. -/
def Blk.page (b : Blk) (n : Nat) : CphPage := SMap.get CphPage.fresh b.cph.pages n
def modPage (n : Nat) (f : CphPage → CphPage) (b : Blk) : Blk := modCph (fun o => { o with pages := SMap.upd CphPage.fresh o.pages n f }) b

/-- VERIFY_BUFFER_FREE: a buffer of a hemisphere frees and the oldest waiting OPEN proceeds, a queue's before a page's (R348). -/
def verifyBufferFree (phys : Phys) (h : Nat) (b : Blk) : Blk :=
  if SMap.get 0 b.cph.verifyDone h = 0 then b
  else
    let b := modCph (fun o => { o with verify := SMap.upd 0 o.verify h (· - 1), verifyDone := SMap.upd 0 o.verifyDone h (· - 1) }) b
    if b.inDusk then b
    else match b.cph.queues.findSome? (fun e => if e.1 % 2 = h then (e.2.jobs.find? (fun j => j.waitBuf)).map (fun j => (e.1, e.2, j)) else none) with
    | some (q, x, j) => beginReads phys q x j b
    | none =>
      match SMap.first? b.cph.pages (fun n p => pageHemi n == h && p.waitBuf) with
      | some e => modPage e.1 (fun p => { p with waitBuf := false, holdsBuf := true }) (modCph (fun o => { o with verify := SMap.upd 0 o.verify h (· + 1) }) b)
      | none => b

/-- CPH_DOORBELL: a new tail by the queue's owner; otherwise a WINDOW violation (R353). -/
def cphDoorbell (n q tail : Nat) (b : Blk) : Blk :=
  match b.cq q with
  | some x => if x.owner = n then modCq q (fun y => { y with tail := tail % 2 ^ 32 }) b else windowViolation n (0x2901000 + 4 * q) false b
  | none => windowViolation n (0x2901000 + 4 * q) false b

/-! ### Register pages (R349) -/

/-- A length field of CPH_PG_CTRL: a value past its limit is reserved and leaves the field as it was (R2, Tables 12-7 and 12-10). -/
def pageLimit (limit v old : Nat) : Nat := if v ≤ limit then v else old

/-- A write of CPH_PG_CTRL with GO set (Table 12-10). A BUSY page ignores it as a WINDOW violation; with PAGES 0 there is no page; after
the Dusk trigger no operation starts. -/
def pageGo (n : Nat) (w : W64) (b : Blk) : Blk :=
  if !b.cht.cur.cipher.pages || (b.page n).state = .busy then windowViolation n 0x2A00000 false b
  else if b.inDusk then b
  else
    let op := fieldOf w 3 1
    let s := fieldOf w 16 4
    let len := pageLimit 16384 (fieldOf w 31 17) (b.page n).length
    let aadLen := pageLimit 4096 (fieldOf w 44 32) (b.page n).aadLen
    let fail : Option Nat := match b.opCheck n op s len aadLen with
      | some st => some st
      | none => if decide (1 ≤ op) && decide (op ≤ 4) && !((op == 3 || op == 4) && fieldOf (b.page n).iv1 63 32 != 0) then none else some 8
    let b := if fail.isNone then useSlot s (useUnits (op == 1 || op == 2) len) false b else b
    let h := pageHemi n
    let opens := op == 4 && fail.isNone
    let full := decide (32 ≤ SMap.get 0 b.cph.verify h)
    let b := if opens && !full then modCph (fun o => { o with verify := SMap.upd 0 o.verify h (· + 1) }) b else b
    modPage n (fun p => { p with op := op, slot := s, length := len, aadLen := aadLen, state := .busy, fail := fail, key := (b.slot s).key,
                                 waitBuf := opens && full, holdsBuf := opens && !full }) b

/-- The first `n` bytes of a buffer. -/
def bufBytes (m : SMap Byte) (n : Nat) : List Byte := (List.range n).map (fun i => SMap.get 0 m i)

/-- A buffer with bytes written from its start. -/
def bufPut (m : SMap Byte) (bs : List Byte) : SMap Byte := (bs.zipIdx).foldl (fun m x => SMap.put 0 m x.2 x.1) m

/-- A page no longer needs its verify buffer; it is free at VERIFY_BUFFER_FREE (R348). -/
def endPageVerify (n : Nat) (b : Blk) : Blk :=
  if (b.page n).holdsBuf then
    modCph (fun o => { o with verifyDone := SMap.upd 0 o.verifyDone (pageHemi n) (· + 1) }) (modPage n (fun p => { p with holdsBuf := false }) b)
  else b

/-- PAGE_DONE: the operation works on the data buffer in place; the page reaches DONE with STATUS (R349). An OPEN that waits for a verify buffer
goes on waiting (R348). -/
def pageDone (n : Nat) (b : Blk) : Blk :=
  let p := b.page n
  let b := if p.waitBuf then b else endPageVerify n b
  if p.state ≠ .busy || p.waitBuf then b
  else match p.fail with
  | some st => modPage n (fun p => { p with state := .done, status := st, fail := none }) b
  | none =>
    let iv := p.iv0.toNat + 2 ^ 64 * p.iv1.toNat
    let r := cphCompute p.op p.key iv (bufBytes p.data p.length) (bufBytes p.aad p.aadLen) (p.tag0.toNat + 2 ^ 64 * p.tag1.toNat)
    if r.2.2 then setErr .cph 0 (modPage n (fun p => { p with state := .done, status := 1 }) b)
    else modPage n (fun p => { p with state := .done, status := 0, data := bufPut p.data r.1,
                                      tag0 := if p.op = 3 then BitVec.ofNat 64 r.2.1 else p.tag0,
                                      tag1 := if p.op = 3 then BitVec.ofNat 64 (r.2.1 / 2 ^ 64) else p.tag1 }) b

/-! ### The slot store (Table 12-11) -/

/-- SLOT_STORE_ECC: the slot becomes EMPTY on both hemispheres; a Crailanil slot is reloaded by a retrain of its half-link, a media slot by
derivation (R350, R352). -/
def slotStoreEcc (h s : Nat) (b : Blk) : Blk :=
  let b := if userSlot s then clearSlot s b
           else if s < 8 then modTwin (fun t => { t with retrains := Nat.min (t.retrains + 1) 0xFFFF }) (dropLink (s / 4) (clearSlot s b))
           else b
  let loc := faultLoc (h % 2) 0x16 4 (s / 512) (s % 512) 0xFFF
  assertPin (if h % 2 = 0 then 44 else 48) loc (setErrLog .cph 6 { kind := .fault, loc := loc } b)

/-! ### Progress -/

/-- May a queue read its next descriptor? -/
def Blk.cphMayStart (b : Blk) (x : CphQueue) : Bool :=
  b.cphMoves x && !x.err && !x.fetching && !x.closing && decide (x.next ≠ x.tail) && decide (x.jobs.length < 8) && !(x.fence && !x.jobs.isEmpty)

/-- One step of progress of the cipher engine, if there is one: a destroyed queue's command ends, a descriptor is read. -/
def cphProgress (phys : Phys) (b : Blk) : Option Blk :=
  match SMap.first? b.cph.queues (fun _ x => x.closing && x.jobs.isEmpty && !x.fetching) with
  | some e => some (cphDone e.2.owner id (modCph (fun o => { o with queues := SMap.erase o.queues e.1 }) b))
  | none =>
  match SMap.first? b.cph.queues (fun _ x => b.cphMayStart x) with
  | some (q, x) =>
    some (startJob phys x.owner (.cphDesc q) (readAccesses (x.sq + 64 * (x.next % 2 ^ x.log2)) 64) (modCq q (fun y => { y with fetching := true }) b))
  | none => none

/-- Continue after a job's accesses have all been answered. -/
def jobDone (phys : Phys) (j : Job) (b : Blk) : Blk :=
  match j.use with
  | .cphDesc q =>
    match b.cq q with
    | some x => startCphDesc phys q x (j.bytes (x.sq + 64 * (x.next % 2 ^ x.log2)) 64 0) j.poisoned (modCq q (fun y => { y with fetching := false }) b)
    | none => b
  | .cphIn q idx => cphInDone phys q idx j b
  | .cphOut q idx => cphOutDone q idx b
  | .blob n =>
    let bs := j.bytes ((b.cphCmd n).arg 1) 144 0
    let r := if j.poisoned then (1, setErr .cph 1 b) else unwrap bs (some n) b
    modCphCmd n (fun c => { c with state := if r.1 = 0 then 2 else 3, unwrap := r.1, reason := 0 }) r.2
  | _ => orbJob j b

/-- One step of the block's own progress, if there is one. -/
def progress (phys : Phys) (b : Blk) : Option Blk :=
  match b.host.jobs.find? (fun j => j.left.isEmpty) with
  | some j => some (jobDone phys j { b with host := { b.host with jobs := b.host.jobs.erase j } })
  | none =>
    match orbProgress phys b with
    | some b => some b
    | none => cphProgress phys b

/-- Let the block's own work go on as far as it can in this step: `fuel` bounds its steps. -/
def pump (phys : Phys) : Nat → Blk → Blk
  | 0, b => b
  | fuel + 1, b => match progress phys b with | some b => pump phys fuel b | none => b

/-- Fuel of `pump`: more steps than one command gives rise to. -/
def pumpFuel : Nat := 1000000

/-! ### Owner resets (R113, R322, R350) -/

/-- Request queues end at once: descriptors under way are abandoned without completion entries, their verify buffers freed, and a DESTROY_QUEUE
that waited for them is done. -/
def endCphQueues (hit : Nat → CphQueue → Bool) (b : Blk) : Blk :=
  let gone := b.cph.queues.filter (fun (x : Nat × CphQueue) => hit x.1 x.2)
  let ids := gone.map (fun (x : Nat × CphQueue) => x.1)
  let names : AgentUse → Bool := fun u => match u with
    | .cphDesc q => ids.contains q | .cphIn q _ => ids.contains q | .cphOut q _ => ids.contains q | .cphNote q => ids.contains q | _ => false
  let b := (gone.filter (fun (x : Nat × CphQueue) => x.2.closing)).foldl (fun b x => cphDone x.2.owner id b) (dropJobs (fun j => names j.use) b)
  modCph (fun o => { o with
    queues := SMap.keep o.queues (fun q _ => !ids.contains q),
    verifyDone := gone.foldl (fun m (x : Nat × CphQueue) => SMap.upd 0 m (cphHemi x.1) (· + (x.2.jobs.filter (fun j => j.holdsBuf)).length)) o.verifyDone }) b

/-- The Orbit and cipher work of logical devices ends with their port's reset: queues are destroyed, pages return to IDLE, command
registers reset. -/
def settleEngines (lds : List Nat) (b : Blk) : Blk :=
  let b := endCphQueues (fun _ x => lds.contains x.owner) (destroyQueues (fun _ x => lds.contains x.owner) b)
  let blobs : AgentUse → Bool := fun u => match u with | .blob n => lds.contains n | _ => false
  let b := lds.foldl (fun b n => endPageVerify n b) (dropJobs (fun j => blobs j.use) b)
  let b := modOrb (fun o => { o with cmds := SMap.keep o.cmds (fun n _ => !lds.contains n), dereg := o.dereg.filter (fun (d : Nat × Nat) => !lds.contains d.1) }) b
  modCph (fun o => { o with pages := SMap.keep o.pages (fun n _ => !lds.contains n), cmds := SMap.keep o.cmds (fun n _ => !lds.contains n) }) b

end Sys2Proof.Machine
end

