-- ==== Sys2Proof/Machine/Twin.lean ====
section
/-!
DEFINITION. Effects of the Crailanil, arbiter and TWN_CMD commands of chapter 10.
-/
namespace Sys2Proof.Machine
open Sys2Proof

/-! ### Half-links (R263 to R266) -/

/-- The peer's identifier: the first 16 bytes of SHAKE256 of its identity key. -/
def TrainPeer.id (p : TrainPeer) : List Byte := (Config.shake256 64 p.key).take 16

/-- The identifier that TOPOLOGY names for the other unit. -/
def Blk.otherUnit (b : Blk) : List Byte := if b.cht.isB then b.cht.cur.topo.unitA else b.cht.cur.topo.unitB

/-- The fields that a unit signs in round 2 of training (R264), most significant byte first as in every frame (R265): PAIR_TAG, identity key, Chart
digest, X448 public key. -/
def trainRecord (pairTag : Nat) (key : List Byte) (digest : BitVec 512) (share : List Byte) : List Byte := natBe 4 pairTag ++ key ++ bitsBytes 64 digest ++ share

/-- The checks of R264; `challenge` is what this unit sent. -/
def Blk.trainOk (b : Blk) (challenge : List Byte) (p : TrainPeer) : Bool :=
  Config.ed448Verify p.key (trainRecord p.pairTag p.key p.digest p.share ++ challenge) p.sig &&
  (if b.cht.cur.isDefault then p.digest == 0 && p.pairTag == 0 else p.pairTag == b.cht.cur.topo.pairTag && p.id == b.otherUnit)

/-- A half-link may train: the Chart pairs the units, or the default Chart decides at D6 (R62). -/
def Blk.mayPair (b : Blk) : Bool :=
  (b.cht.cur.isDefault || b.cht.cur.topo.mode != .solo) && !b.twin.trainTimedOut && !b.inDusk &&
  (b.pwr.stage == .dawn 6 || b.pwr.stage == .dawn 7 || b.pwr.stage == .service)

/-- Under the default Chart the unit whose identifier is lower, byte 0 most significant, is unit A (R62). -/
def Blk.defaultIsB (b : Blk) (peer : List Byte) : Bool := decide (leNat peer.reverse < leNat b.ident.unitId.reverse)

/-- Key a half-link's GCM slots from 64 bytes, A to B and then B to A, for one key phase: slot 4h + 2d + p (R264, Table 12-2). -/
def keyLink (l phase : Nat) (isB : Bool) (k : List Byte) (b : Blk) : Blk :=
  let ab := leNat (k.take 32); let ba := leNat (k.drop 32)
  modSlot (4 * l + phase) (fun s => { s with key := if isB then ba else ab, mode := .gcm })
    (modSlot (4 * l + 2 + phase) (fun s => { s with key := if isB then ab else ba, mode := .gcm }) b)

/-- The 64 bytes of key of a transcript: unit A's part, then unit B's (R264). See assumption 146 (DEDUCED). -/
def linkKeys (isB : Bool) (shared mine theirs : List Byte) : List Byte := Config.shake256 64 (shared ++ (if isB then theirs ++ mine else mine ++ theirs))

/-- CRAILANIL_TRAIN: both units exchange challenges and signed fields; the checks key the half-link at a width, or it stays down (R264). -/
def crailanilTrain (l width : Nat) (p : TrainPeer) (b : Blk) : Blk :=
  if !b.mayPair || 2 ≤ l || !(width = 4 || width = 8 || width = 12) then b
  else
    let c := drawFree b
    let f := drawFree c.2
    let challenge := natBe 32 c.1
    let share := Config.x448Public f.1
    let own := trainRecord b.pairTag b.ident.identityPub b.cht.cur.digest share
    let record := own ++ Config.ed448Sign (b.ident.fuse.identityKey.getD []) (own ++ p.challenge)
    let b := send (.crnTrain l challenge record) f.2
    if !b.trainOk challenge p then twinLog 2 (dropLink l b)
    else
      let isB := if b.cht.cur.isDefault then b.defaultIsB p.id else b.cht.isB
      let theirs := p.challenge ++ trainRecord p.pairTag p.key p.digest p.share ++ p.sig
      let k := linkKeys isB (Config.x448 f.1 p.share) (challenge ++ record) theirs
      let b := keyLink l 0 isB k (modLink l (fun _ => { width := width, keys := some k }) b)
      let first := !b.twin.trained
      modTwin (fun t => { t with trained := true, linkDown := if first then false else t.linkDown, peerId := some p.id, peerDigest := some p.digest }) b

/-- TRAIN_TIMEOUT: no twin trains in time at D6 and the default Chart runs Solo (R62). -/
def trainTimeout (b : Blk) : Blk :=
  if b.cht.cur.isDefault && b.pwr.stage == .dawn 6 && !b.twin.trained then
    { modTwin (fun t => { t with trainTimedOut := true }) b with cht := { b.cht with mode := .solo } }
  else b

/-- CRAILANIL_REKEY: after 2^31 frames in one direction the X448 exchange is repeated and KEY_PHASE toggles (R264); `share` is the peer's public key. -/
def crailanilRekey (l : Nat) (share : List Byte) (b : Blk) : Blk :=
  let x := b.link l
  if b.linkUp l && (decide (2 ^ 31 ≤ x.frames) || decide (2 ^ 31 ≤ x.framesIn)) then
    let f := drawFree b
    let isB := if b.cht.cur.isDefault then b.defaultIsB (b.twin.peerId.getD []) else b.cht.isB
    let k := linkKeys isB (Config.x448 f.1 share) (Config.x448Public f.1) share
    keyLink l (if x.keyPhase then 0 else 1) isB k (modLink l (fun x => { x with keyPhase := !x.keyPhase, frames := 0, framesIn := 0, keys := some k }) f.2)
  else b

/-- CRN_ACK: frames up to its SEQ leave the replay buffer (R266). -/
def crnAck (l seq : Nat) (b : Blk) : Blk :=
  modLink l (fun x => { x with unacked := x.unacked.filter (fun (f : CrnFrame) => decide (seq < f.seq)), resends := if x.nak ≤ seq then 0 else x.resends }) b

/-- CRN_NAK: frames are resent from its SEQ; at the eighth resend of one SEQ the half-link retrains (R266, Table 10-9). -/
def crnNak (l seq : Nat) (b : Blk) : Blk :=
  let x := b.link l
  if !x.unacked.any (fun f => f.seq == seq) then b
  else
    let n := if x.nak = seq then x.resends + 1 else 1
    let again := x.unacked.filter (fun (f : CrnFrame) => decide (seq ≤ f.seq))
    let b := modTwin (fun t => { t with replays := sat32Add t.replays again.length }) b
    let b := send (.crnResend l seq again) (modLink l (fun x => { x with nak := seq, resends := n }) b)
    if 8 ≤ n then twinLog 3 (modTwin (fun t => { t with retrains := Nat.min (t.retrains + 1) 0xFFFF }) (dropLink l b)) else b

/-- CRN_ACK_TIMER: an ACK of what has arrived in order (R266). -/
def crnAckTimer (l : Nat) (b : Blk) : Blk :=
  let x := b.link l
  if x.ackDue && b.linkUp l then send (.crnAck l (x.recvSeq - 1)) (modLink l (fun x => { x with ackDue := false }) b) else b

/-- HALF_LINK_DOWN: its traffic moves to the other half-link; with both down the link is DOWN (R263, R276). -/
def halfLinkDown (l : Nat) (b : Blk) : Blk :=
  if !b.linkUp l then b
  else
    let b := setErr .twn 1 (dropLink l b)
    if b.linkUp 0 || b.linkUp 1 then b
    else setErr .twn 0 (modTwin (fun t => { t with linkDown := true, graceExpired := false }) b)

/-! ### Link loss and return (R276) -/

/-- Answer what a Binary unit holds for the other half when the grace time passes: reads get poison, writes are discarded. -/
def dropForwarded (b : Blk) : Blk :=
  let other : HeldReq → Bool := fun h => match h.why with | .gate x => (b.half x).role != .holder | _ => false
  let held := (b.host.held.filter other).map (fun (h : HeldReq) => h.req)
  let fwd := (b.host.fwd.filter (fun (f : FwdWait) => !f.dead)).map (fun (f : FwdWait) => f.req)
  let b := { b with host := { b.host with held := b.host.held.filter (fun (h : HeldReq) => !other h), fwd := [] } }
  (held ++ fwd).foldl (fun b r =>
    let b := setErr .twn 5 b
    match r.write with | none => answerRead r.src 0 true b | some _ => b) b

/-- LINK_GRACE_EXPIRE: the holder enters ALONE and completes what waits; the standby's copies are STALE. -/
def linkGraceExpire (b : Blk) : Blk :=
  if !b.twin.linkDown || b.twin.graceExpired || b.inDusk then b
  else
    let holds := b.halvesOf.any (fun h => (b.half h).role == .holder)
    let stands := b.halvesOf.any (fun h => (b.half h).role != .holder)
    let b := modTwin (fun t => { t with graceExpired := true, alone := t.alone || holds, stale := t.stale || stands,
                                        staleFrom := if stands && !t.stale then b.epoch else t.staleFrom, syncing := false, syncTodo := [], syncWait := [] }) b
    let b := if holds then
        let due := b.host.mirror
        due.foldl (fun b m => mirrorDone m b) { b with host := { b.host with mirror := [] } }
      else b
    let b := if b.binary then dropForwarded b else b
    noteStatus b

/-- LINK_RETURN: what was in flight is sent again, a compare-mode sync starts and COLD shipping goes on from S + 1. -/
def linkReturn (phys : Phys) (b : Blk) : Blk :=
  if !b.twin.linkDown || !(b.linkUp 0 || b.linkUp 1) || b.inDusk then b
  else
    let b := modTwin (fun t => { t with linkDown := false, graceExpired := false, shipping := none }) b
    let b := b.host.mirror.foldl (fun b m =>
      let l := m.addr / 128
      let c := b.currentLine l
      send (.crn (b.hemi l) (.mirrorWrite m.tag m.addr (halfOf c.1 (m.addr / 64 % 2)) c.2 (b.stampOf (l / 32)))) b) b
    let b := b.host.fwd.foldl (fun b f =>
      send (.crn (b.dpaHemi f.req.dpa) (b.fwdMsg f.tag f.req)) b) b
    let holds := b.halvesOf.any (fun h => (b.half h).role == .holder)
    let b := if holds then startSync [] b else b
    let b := b.halvesOf.foldl (fun b h => if (b.half h).role = .holder then b else retryWhy phys (.gate h) b) b
    noteStatus b

/-! ### HOT mirroring (R268) -/

/-- A message whose address lies outside what it needs (Table 10-9). -/
def twinViolation (stray : Bool) (b : Blk) : Blk := if stray then setErr .twn 8 b else twinLog 8 b

/-- The unit takes messages of the twin: paired, no Dusk (R460). -/
def Blk.twinTakes (b : Blk) : Bool := b.paired && !b.inDusk && (b.linkUp 0 || b.linkUp 1)

/-- The HOT line of this unit that a twin's local address names, unless this unit holds its half. -/
def Blk.mirrorTarget (b : Blk) (addr : Nat) : Option Nat :=
  (b.twinLine (addr / 128)).bind (fun l =>
    match (b.lineInfo l).region with
    | some r => if b.mirrorClass r = .hot && (b.half (b.halfOf (b.lineInfo l).dpa)).role != .holder then some l else none
    | none => none)

/-- MIRROR_WRITE: accepted into the merge buffer, then acknowledged; a region whose key is EMPTY discards it (R268, R336). See assumption 67 (DEDUCED). -/
def mirrorWrite (phys : Phys) (tag addr : Nat) (d : Half) (poison : Bool) (epoch : Nat) (b : Blk) : Blk :=
  if !b.twinTakes then b
  else
    match b.mirrorTarget addr with
    | none => twinViolation false b
    | some l =>
      let i := b.lineInfo l
      if (match i.region with | some r => b.keyEmpty r | none => false) then setErr .cph 4 b
      else serve phys { src := .mirror tag epoch (b.hemi (addr / 128)), dpa := i.dpa / 128 * 128 + addr % 128 / 64 * 64, write := some (d, poison) } b

/-- MIRROR_ACK: releases the completion, unless an Eclipse or a Dusk withholds it (R268, R283). -/
def mirrorAck (tag : Nat) (b : Blk) : Blk :=
  match b.host.mirror.find? (fun m => m.tag = tag && !m.acked) with
  | none => twinViolation true b
  | some m =>
    let g : MirrorWait → MirrorWait := fun x => if x.tag = tag then { x with acked := true } else x
    if b.withheld (b.lineInfo (m.addr / 128)).dpa then { b with host := { b.host with mirror := b.host.mirror.map g } }
    else mirrorDone m { b with host := { b.host with mirror := b.host.mirror.filter (fun (x : MirrorWait) => x.tag != tag) } }

/-- MIRROR_ACK_TIMEOUT: treated as link DOWN (Table 10-9). -/
def mirrorAckTimeout (b : Blk) : Blk :=
  if b.host.mirror.any (fun m => !m.acked) && !b.twin.linkDown && !b.inDusk then
    twinLog 0 (modTwin (fun t => { t with linkDown := true, graceExpired := false }) b)
  else b

/-! ### Forwarding (R259) -/

/-- FWD_READ: served like a request of the same logical device; a standby answers the holder from its own copy (R161). -/
def fwdRead (phys : Phys) (tag dpa ld : Nat) (b : Blk) : Blk :=
  if !b.twinTakes then b
  else
    let dpa := dpa / 64 * 64
    match b.regionOf dpa with
    | none => if b.area dpa = .none then twinViolation false b else serve phys { src := .twin ld tag (b.dpaHemi dpa), dpa := dpa, write := none } b
    | some r =>
      if r.mirror = .hot && (b.half (b.halfOf dpa)).role == .standby then
        let l := b.lineOf dpa
        match readHalf phys l (halfIx dpa) none b with
        | (.data d, b) => send (.crn (b.dpaHemi dpa) (.fwdData tag d false)) b
        | (_, b) => send (.crn (b.dpaHemi dpa) (.fwdData tag 0 true)) b
      else serve phys { src := .twin ld tag (b.dpaHemi dpa), dpa := dpa, write := none } b

/-- FWD_WRITE. -/
def fwdWrite (phys : Phys) (tag dpa ld : Nat) (d : Half) (poison : Bool) (b : Blk) : Blk :=
  if !b.twinTakes then b
  else serve phys { src := .twin ld tag (b.dpaHemi dpa), dpa := dpa / 64 * 64, write := some (d, poison) } b

/-- FWD_DATA: read data for a host, for a line of a frozen channel or REMOTE page (R161), or for a write of part of a half. -/
def fwdData (phys : Phys) (tag : Nat) (d : Half) (poison : Bool) (b : Blk) : Blk :=
  if b.inDusk then b
  else
    match b.twin.fetches.find? (fun x => x.1 = tag) with
    | some (_, k) =>
      let b := modTwin (fun t => { t with fetches := t.fetches.filter (fun x => x.1 != tag), fetched := SMap.insert t.fetched k (d, poison) }) b
      modTwin (fun t => { t with fetched := SMap.erase t.fetched k }) (retryWhy phys (.remote k) b)
    | none =>
      match b.host.fwd.find? (fun f => f.tag = tag) with
      | none => twinViolation true b
      | some f =>
        let b := { b with host := { b.host with fwd := b.host.fwd.filter (fun (x : FwdWait) => x.tag != tag) } }
        if f.dead then b
        else match f.req.write with
        | none => answerRead f.req.src d poison b
        | some (new, p) =>
          match f.req.part with
          | .bytes m => forward { f.req with write := some (blend m d new, p || poison), part := .whole } b
          | _ => answerRead f.req.src d poison b

/-- FWD_DONE: a forwarded write has completed. -/
def fwdDone (tag : Nat) (b : Blk) : Blk :=
  if b.inDusk then b
  else
    match b.host.fwd.find? (fun f => f.tag = tag) with
    | none => twinViolation true b
    | some f =>
      let b := { b with host := { b.host with fwd := b.host.fwd.filter (fun (x : FwdWait) => x.tag != tag) } }
      if f.dead then b else answerWrite f.req.src b

/-- TWIN_ANSWER_TIMEOUT: the read of a half that the twin has not answered returns poison (R451). -/
def twinAnswerTimeout (phys : Phys) (l i : Nat) (b : Blk) : Blk :=
  let k := 2 * l + i
  if b.twin.fetches.any (fun x => x.2 = k) then
    let b := modTwin (fun t => { t with fetches := t.fetches.filter (fun x => x.2 != k), fetched := SMap.insert t.fetched k (0, true) }) b
    modTwin (fun t => { t with fetched := SMap.erase t.fetched k }) (retryWhy phys (.remote k) b)
  else b

/-! ### COLD (R272 to R275, R448) -/

/-- COLD_SHIP_START: the next sealed epoch, or the catch-up delta, is sent: pages with captures first, then COLD_END. `twinS` is the twin's
S, which a catch-up delta needs. -/
def coldShipStart (phys : Phys) (twinS : Nat) (b : Blk) : Blk :=
  if !b.paired || b.inDusk || b.twin.linkDown || b.twin.shipping.isSome || !(b.halvesOf.any (fun h => (b.half h).role == .holder)) then b
  else
    let go : Nat → List Nat → Blk → Blk := fun e keys b =>
      let ks := keys.filter (fun k => b.hasCapture k) ++ keys.filter (fun k => !b.hasCapture k)
      let b := ks.foldl (fun b k => let r := deltaLines phys k e b; send (.crn (b.shipHemi k) (.coldPage k e r.1)) r.2) b
      send (.crn 0 (.coldEnd ks.length e)) (modTwin (fun t => { t with shipping := some e }) b)
    match b.twin.catchUp with
    | some c =>
      let near := (SMap.keys b.pers.stamps).filter (fun p => decide (twinS < b.stampOf p) && (match b.shipKey p with | some k => k == p | none => false))
      let cold : Nat → Bool := fun f => decide (f < 2 ^ 35) && b.homed (b.farDpa f) && (match (b.farInfo f).1 with | some r => r.mirror == .cold | none => false)
      let far := ((SMap.keys b.nvf.farMap).filter (fun f => decide (twinS < ((b.farUnit f).map (fun (u : FlashUnit) => u.stamp)).getD 0) && cold f)).map (fun f => 2 ^ 36 + f)
      let staged := ((SMap.keys b.pers.stamps).filter (fun p => decide (twinS < b.stampOf p))).filterMap (fun p => (b.shipKey p).bind (fun k => if k < 2 ^ 36 then none else some k))
      let again := b.copyKeys (b.twin.recopy.map (fun x => x.1))
      go c ((near ++ (far ++ staged)) ++ again).eraseDups b
    | none =>
      match b.nextShip, b.mer.sealedEpoch with
      | some e, some s => if e ≤ s then go e ((b.twin.shipList.filter (fun x => x.2 = e)).map (·.1)) b else b
      | _, _ => b

/-- COLD_PAGE: the page is programmed as a unit of the delta being received (R275). -/
def coldPage (key epoch : Nat) (lines : PageLines) (b : Blk) : Blk :=
  if !b.twinTakes then b
  else
    let far := decide (2 ^ 36 ≤ key)
    let page := if far then key - 2 ^ 36 else if b.binary then 2 ^ 35 + key else key
    let dpa := if far then b.farDpa page else if b.binary then pairAddr (!b.cht.isB) (key * 4096) else key * 4096
    match b.regionOf dpa with
    | some r =>
      if b.mirrorClass r != .cold then twinViolation false b
      else
        let q := takeSeq b
        let u : FlashUnit := { kind := if far || b.binary then .far else .home, page := page, region := r.id, keySlot := r.keySlot, light := r.light,
                               poisonMask := poisonMaskOf lines, stamp := epoch, seq := q.1, lines := lines }
        let g : ColdDelta → ColdDelta := fun d => if d.epoch = epoch then
          (if far then { d with farUnits := SMap.insert d.farUnits page u } else { d with units := SMap.insert d.units page u }) else d
        let b := placeCold (b.twin.coldWait.length + 1) (modTwin (fun t => { t with coldWait := t.coldWait ++ [u] }) q.2)
        let b := modTwin (fun t => { t with deltas := (if t.deltas.any (fun d => d.epoch == epoch) then t.deltas else t.deltas ++ [{ epoch := epoch }]).map g,
                                            coldCount := t.coldCount + 1 }) b
        if b.binary || far then b else setPresence page .pending (dropPageLines page b)
    | none => twinViolation false b

/-- COLD_END: the delta's pages have all come, and it is acknowledged when they are durable (R273, R275). A count of pages that differs means
that pages are missing, and nothing is acknowledged. -/
def coldEnd (pages epoch : Nat) (b : Blk) : Blk :=
  if !b.twinTakes then b
  else if pages ≠ b.twin.coldCount then
    modTwin (fun t => { t with coldCount := 0, coldWait := [] }) (dropDeltas (fun d => d.epoch != epoch || d.complete) b)
  else
    settleCold (modTwin (fun t => { t with coldCount := 0, coldDue := some epoch, deltas := if t.deltas.any (fun d => d.epoch == epoch) then t.deltas else t.deltas ++ [{ epoch := epoch }] }) b)

/-- COLD_ACK: S is recorded and the epoch's entries and captures are freed (R273). See assumption 104 (DEDUCED). -/
def coldAck (phys : Phys) (epoch : Nat) (b : Blk) : Blk :=
  if b.twin.shipping != some epoch then twinViolation true b
  else
    let caught := b.twin.catchUp == some epoch
    let b := modTwin (fun t => { t with shipping := none, shipped := some epoch, catchUp := if caught then none else t.catchUp, recopy := if caught then [] else t.recopy.filter (fun (x : Nat × Nat) => decide (epoch < x.2)), shipList := t.shipList.filter (fun (x : Nat × Nat) => decide (epoch < x.2)), captures := t.captures.filter (fun (x : Nat × Nat × DramLine) => decide (epoch < x.2.1)) }) b
    let f : LiveApply → LiveApply := fun a =>
      if a.switched && decide (a.epoch ≤ epoch) then
        { a with mirrorDone := (a.mirrorDone ++ a.mirrorLeft.filter (fun r => ((a.next.region? r).map (fun (x : Region) => x.mirror == .cold)).getD false)).eraseDups }
      else a
    let b := { b with cht := { b.cht with apply := b.cht.apply.map f } }
    if caught then retryWhy phys .ship b else b

/-- SHIP_HOLD_RELEASE: the oldest held write is accepted as an entry frees (R274). -/
def shipHoldRelease (phys : Phys) (b : Blk) : Blk := retryOldest phys .ship b

/-! ### HOT sync (R270, R271) -/

/-- The copy is STALE while a sync runs. -/
def noteSync (b : Blk) : Blk :=
  modTwin (fun t => { t with stale := true, staleFrom := if t.stale then t.staleFrom else b.epoch }) b

/-- SYNC_DIGEST: the standby compares its page and answers SYNC_MATCH. -/
def syncDigest (phys : Phys) (page digest : Nat) (b : Blk) : Blk :=
  if !b.twinTakes then b
  else
    match b.mirrorTarget (page * 4096) with
    | none => twinViolation false b
    | some l => let r := pageNow phys (l / 32) b; send (.crn (b.hemi (page * 32)) (.syncMatch page (digestOf r.1 != digest))) (noteSync r.2)

/-- SYNC_PAGE: the standby writes the page into its DRAM, keeping its own line where the holder's is poisoned (R269 to R271). -/
def syncPage (page stamp : Nat) (lines : List (Line × Bool)) (b : Blk) : Blk :=
  if !b.twinTakes then b
  else
    match b.mirrorTarget (page * 4096) with
    | none => twinViolation false b
    | some l0 =>
      let p := l0 / 32
      if (match (b.lineInfo l0).region with | some r => b.keyEmpty r | none => false) then setErr .cph 4 b
      else
        let b := { b with halo := { b.halo with mb := SMap.keep b.halo.mb (fun l _ => l / 32 != p) } }
        let b := (lines.zipIdx).foldl (fun b x => if x.1.2 then b else writeLine (32 * p + x.2) x.1.1 false stamp b) (noteSync b)
        let b := setPresence p .resident b
        if b.tracked p then { b with pers := { b.pers with dirty := SMap.insert b.pers.dirty p (), stamps := SMap.put 0 b.pers.stamps p stamp } } else b

/-- SYNC_MATCH: equal, or the holder sends its page; equal stamps mean that the page was divergent (R271). `stamp` is the standby's stamp
as it comes with the answer. See assumption 103 (DEDUCED). -/
def syncMatch (phys : Phys) (page : Nat) (differ : Bool) (stamp : Nat) (b : Blk) : Blk :=
  match SMap.find? b.twin.syncWait page with
  | none => twinViolation true b
  | some mine =>
    let b := modTwin (fun t => { t with syncWait := SMap.erase t.syncWait page }) b
    if !differ then b
    else
      let b := if mine = stamp then
          let b := modTwin (fun t => { t with divergent := sat32 t.divergent }) b
          let f := drawFree b
          let b := logRecord (0x1200 + f.1 % 256) { kind := .address, loc := BitVec.ofNat 64 (page * 4096), detail := natLe 8 mine ++ natLe 8 stamp } f.2
          postVendor .divergent { region := ((b.lineInfo (page * 32)).region.map (fun (r : Region) => r.id)).getD 0xFFFF, detail := [b.pageDpa page, mine, stamp] } b
        else b
      sendSyncPage phys page b

/-- HOT_SYNC_DONE: at the holder the walk is over, ALONE ends and a region's change to HOT may switch (R57); at the standby the copy is no
longer STALE (R276, R288). -/
def hotSyncDone (b : Blk) : Blk :=
  if b.inDusk then b
  else if b.twin.syncing then
    if b.twin.syncTodo.isEmpty && b.twin.syncWait.isEmpty then
      let rs := b.twin.syncRegions
      let b := modTwin (fun t => { t with syncing := false, alone := false, syncRegions := [] }) b
      let f : LiveApply → LiveApply := fun a => { a with mirrorDone := a.mirrorDone ++ a.mirrorLeft.filter (fun r => rs.contains r) }
      noteStatus { b with cht := { b.cht with apply := b.cht.apply.map f } }
    else b
  else if b.halvesOf.any (fun h => (b.half h).role != .holder) then
    noteStatus (copied .hot (modTwin (fun t => { t with stale := false, copies := b.hotRegions }) b))
  else b

/-- SF_UPDATE: the twin's snoop filter follows the holder's (R268). -/
def sfUpdate (granule : Nat) (who : Option Holders) (b : Blk) : Blk :=
  if !b.twinTakes then b
  else
    let sf := match who with
      | none => SMap.erase b.host.sf granule
      | some w => SMap.insert b.host.sf granule ⟨w, b.host.sfTick + 1⟩
    { b with host := { b.host with sf := sf, sfTick := b.host.sfTick + 1 } }

/-! ### STATE, SWITCH_EPOCH, CHART_CONFIRM (R56, R58, R267) -/

/-- Requests that this unit has forwarded, or holds to forward, for a half (R259, R283). -/
def Blk.holdsFor (b : Blk) (h : Nat) : Bool :=
  b.host.fwd.any (fun f => !f.dead && b.halfOf f.req.dpa == h) || b.host.held.any (fun x => x.why == .gate h)

/-- STATE: the twin's roles and copies. While the twin's ECLIPSE lasts, a unit that holds forwarded requests for the half holds its host-facing outputs
as well (R283). A unit that gave up a half learns here that the other opened it (R285); two holders of one half both
fence and send RELEASE (Table 17-3). See assumption 105 (DEDUCED). -/
def twinState (phys : Phys) (roles : Nat) (sealedEpoch : Option Nat) (copies : List Nat) (b : Blk) : Blk :=
  if !b.twinTakes then b
  else
    let b := modTwin (fun t => { t with peerRoles := roles, peerSealed := sealedEpoch, peerCopies := copies }) b
    let holds := b.halvesOf.any (fun h => (b.half h).role == .holder)
    let b := if holds && b.inService && !b.twin.dawnSynced && !b.hotRegions.isEmpty then startSync [] b else b
    b.halvesOf.foldl (fun b h =>
      let theirs := roles / 4 ^ h % 4
      if theirs = 1 then
        match (b.half h).role with
        | .holder => releaseHalf 6 h (twinLog 11 b)
        | .eclipse => eclipseOver phys h (modHalf h (fun x => { x with role := .standby }) b)
        | _ => if (b.half h).eclipse then eclipseOver phys h b else b
      else if theirs = 3 && (b.half h).role != .holder && !(b.half h).eclipse && b.holdsFor h then
        modTwin (fun t => { t with eclipseStart := b.mer.count }) (modHalf h (fun x => { x with eclipse := true }) (holdWindows b))
      else b) b

/-- STATE_TIMER: every 100 µs (R267). -/
def stateTimer (b : Blk) : Blk :=
  if b.twinTakes then send (.crn 0 (.state b.roles b.mer.sealedEpoch b.twin.copies b.twin.stale)) b else b

/-- SWITCH_EPOCH: both units apply at the proposed epoch (R58). -/
def switchEpoch (e : Nat) (b : Blk) : Blk :=
  if !b.twinTakes then b
  else
    let f : LiveApply → LiveApply := fun a => if a.switched then a else { a with epoch := e }
    let b := modTwin (fun t => { t with switchEpoch := some e }) b
    let waits := (b.cht.apply.map (fun a => !a.switched)).getD false
    { b with cht := { b.cht with apply := b.cht.apply.map f, commitNext := b.cht.commitNext.map f, applyEpoch := if waits then e else b.cht.applyEpoch } }

/-! ### The arbiter link (R277 to R288) -/

/-- The supervisor takes part in the lease: STATUS was sent at D6, no Dusk (R278). -/
def Blk.arbTakes (b : Blk) : Bool := b.paired && b.twin.statusSent.isSome && !b.inDusk

/-- HEARTBEAT (R278). -/
def heartbeat (b : Blk) : Blk := if b.arbTakes then sendArb .heartbeat 0 b.roles b.sealedNo b else b

/-- RENEW: from X - L/2 on (R279). -/
def renew (h : Nat) (b : Blk) : Blk :=
  match (b.half h).expiry with
  | some x =>
    if b.arbTakes && (b.half h).role == .holder && decide (x ≤ b.mer.count + b.leaseL / 2) then
      modHalf h (fun s => { s with renewSent := some b.mer.count }) (sendArb .renew h 0 0 b)
    else b
  | none => b

/-- FENCE: the count has reached the fence instant without a renewal (R280, R283). -/
def fence (h : Nat) (b : Blk) : Blk :=
  match b.fenceAt h with
  | some f => if (b.half h).role = .holder && decide (f ≤ (b.mer.count : Int)) && !b.inDusk then fenceHalf h (twinLog 6 b) else b
  | none => b

/-- NONE regions that touch a half. -/
def Blk.noneRegions (b : Blk) (h : Nat) : List Nat :=
  (b.cht.cur.regions.filter (fun r => r.mirror == .none && (!b.binary || decide (2 ^ 30 < r.size) || b.halfOf r.base == h || b.halfOf (r.base + r.size - 1) == h))).map (fun r => 2 * r.id + h)

/-- COLD regions exist. -/
def Blk.hasCold (b : Blk) : Bool := b.cht.cur.regions.any (fun r => r.mirror == .cold)

/-- The assumption of a half in which the unit was STANDBY, at a COLD opening epoch (R284, R286, R287, R448). -/
def assume (h : Nat) (opening : Option Nat) (b : Blk) : Blk :=
  let wasStale := b.twin.stale
  let b := modTwin (fun t => { t with alone := true, lostRegions := (t.lostRegions ++ b.noneRegions h).eraseDups }) b
  let b := match opening with
    | some e => if b.hasCold then openCold e b else b
    | none => b
  let lost : Nat → Nat → Blk → Blk := fun f l b =>
    postVendor .lostEpochs { first := f, last := l } (modTwin (fun t => { t with lostFirst := some f, lostLast := some l }) b)
  let b := match opening, b.twin.peerSealed with
    | some e, some s => if b.hasCold && decide (e < s) then lost (e + 1) s b else b
    | _, _ => b
  if wasStale then lost b.twin.staleFrom (b.twin.peerSealed.getD ones64.toNat) b else b

/-- The label of the catch-up delta of a holder that regains the Lodestar after a Dawn (R448). -/
def Blk.catchUpLabel (b : Blk) : Option Nat :=
  if b.hasCold && b.twin.shipped.isNone && b.twin.shipList.isEmpty then
    (b.pers.gens.getLast?).map (fun (g : SaveGen) => g.count / Nat.max b.mer.body.l 1)
  else none

/-- The gates of a half open under a grant: the role is HOLDER; an Eclipse of the half ends (R280, R284). -/
def openHalf (phys : Phys) (h x no : Nat) (b : Blk) : Blk :=
  let b := modHalf h (fun s => { s with role := .holder, gateOpen := true, expiry := some x, leaseNo := no, renewSent := none }) b
  if (b.half h).eclipse then eclipseOver phys h b else retryWhy phys (.gate h) b

/-- GRANT (R280 to R288, Table 10-9). See assumption 85 (DEDUCED). See assumption 106 (DEDUCED). -/
def grant (phys : Phys) (g : Grant) (b : Blk) : Blk :=
  let h := g.half
  if !b.arbTakes || !b.twin.arbUp then b
  else if g.unit != b.ident.unitId || g.pairTag != b.pairTag || !b.halvesOf.contains h then twinLog 11 b
  else if b.halo.fatal || b.twin.faulted then sendStatus h 5 b
  else
    let far := decide (b.mer.count + b.leaseL + b.leaseG < g.expiry)
    let x := if far then b.mer.count + b.leaseL else g.expiry
    let b := if far then twinLog 11 b else b
    if (x : Int) - b.leaseG - b.mer.drift ≤ (b.mer.count : Int) then twinLog 10 b
    else match (b.half h).role with
    | .holder => openHalf phys h x g.leaseNo b
    | .eclipse => openHalf phys h x g.leaseNo b
    | _ =>
      if b.twin.stale && !g.force then sendStatus h 1 b
      else
        let opening := match g.epoch with | some e => some e | none => b.twin.coldHeld
        let ok := match opening with | some e => b.canOpen e || !b.hasCold | none => true
        if !ok then sendStatus h 3 (setErr .twn 7 b)
        else
          let took := b.twin.coldHeld.isSome || b.twin.peerRoles / 4 ^ h % 4 = 1 || b.twin.peerRoles / 4 ^ h % 4 = 3
          if took then openHalf phys h x g.leaseNo (assume h opening b)
          else
            let b := modTwin (fun t => { t with catchUp := b.catchUpLabel }) b
            let lists := b.twin.catchUp.isNone && b.twin.shipped.isNone && b.twin.shipList.isEmpty && !b.twin.recopy.isEmpty
            let ids := b.twin.recopy.map (fun x => x.1)
            let e := b.epoch
            openHalf phys h x g.leaseNo (if lists then shipRegions ids e (modTwin (fun t => { t with recopy := ids.map (fun i => (i, e)) }) b) else b)

/-- REVOKE: a half held is given up with FENCE_ACK; of any other half FENCE_ACK is sent at once (R283, R285, Table 10-9). -/
def revoke (h : Nat) (b : Blk) : Blk :=
  if !b.arbTakes || !b.twin.arbUp then b
  else sendArb .fenceAck h 0 b.sealedNo (if (b.half h).role == .holder then fenceHalf h b else countUncoded b)

/-- STATUS_QUERY: answered with the code the unit reports (R278). -/
def statusQuery (h : Nat) (b : Blk) : Blk :=
  if b.arbTakes && b.twin.arbUp then sendStatus h b.statusCode b else b

/-- ARBITER_MESSAGE_INVALID: discarded, without a Logbook record. -/
def arbInvalid (k : ArbFault) (b : Blk) : Blk :=
  if b.inDusk then b else setErr .twn (match k with | .crc => 9 | .unknownType => 11) b

/-- ARB_SYMBOL_LOCK and ARB_SYMBOL_LOCK_LOSS: TWN_STATUS.ARB_UP (R277). -/
def arbLock (up : Bool) (b : Blk) : Blk := modTwin (fun t => { t with arbUp := up }) b

/-! ### TWN_CMD (R271, R285) -/

/-- AUDIT: the holder starts a compare-mode sync of the HOT pages. -/
def audit (b : Blk) : Blk :=
  if b.inDusk then b
  else if b.halvesOf.any (fun h => (b.half h).role == .holder) && b.paired then startSync [] b
  else setErr .twn 12 b

/-- RELEASE: the lease of a half is given up, CODE 6 (R285). -/
def twnRelease (h : Nat) (b : Blk) : Blk :=
  if b.inDusk || !b.paired then b else releaseHalf 6 h b

/-- An OP of TWN_CMD that Table 10-13 does not name. -/
def twnBadOp (b : Blk) : Blk := setErr .twn 12 b

end Sys2Proof.Machine
end

