-- ==== Sys2Proof/Machine/Ports.lean ====
section
/-!
DEFINITION. Port-class resets, link-down and HP_CTRL (R9, R86, R113, R115, R253, R256, R481).
-/
namespace Sys2Proof.Machine
open Sys2Proof

/-- The whole port that a reset takes, if it takes one. -/
def PortReset.port? : PortReset → Option Nat
  | .conventional p => some p | .hot p => some p | .linkDisable p => some p | _ => none

/-- The logical devices that a reset takes. -/
def PortReset.lds : PortReset → List Nat
  | .conventional p => portLds p | .hot p => portLds p | .linkDisable p => portLds p
  | .functionLevel n => [n] | .cxl n => [n]

/-- The reset names a port or logical device that the part has. -/
def PortReset.exists? : PortReset → Bool
  | .conventional p => decide (p < 4) | .hot p => decide (p < 4) | .linkDisable p => decide (p < 4)
  | .functionLevel n => decide (n < 64) | .cxl n => decide (n < 64)

/-- The kind of a reset among those that may overlap on its port or logical device (R9). -/
def PortReset.kind : PortReset → Nat
  | .conventional _ => 0 | .hot _ => 1 | .linkDisable _ => 2 | .functionLevel _ => 0 | .cxl _ => 1

/-- A kind of reset joins those under way. -/
def addReset (k : Nat) (l : List Nat) : List Nat := if l.contains k then l else k :: l

/-- HDM decoders return to uncommitted: CXL leaves them alone in a Function Level Reset (assumption 61). -/
def PortReset.decoders : PortReset → Bool
  | .functionLevel _ => false | _ => true

/-- The port-class registers of a logical device's window take their reset values (R481), with CXL's own registers of the window
(assumption 61): the MSI-X table, the doorbell, a scan under way and, but for a Function Level Reset, the decoders. -/
def resetWindow (decoders : Bool) (n : Nat) (b : Blk) : Blk :=
  let w := b.cht.cur.transit.windows.filter (fun (w : WindowCfg) => w.owner = n)
  let b := w.foldl (fun b w =>
    let b := stopWindow w b
    modFar (fun f => { f with windows := SMap.erase f.windows w.window }) b) b
  let b := modFar (fun f => { f with ctl := SMap.erase f.ctl n }) b
  let mine : Deferred → Bool := fun d => match d with | .mbox m _ => m == n | .orbCmd m _ => m == n | .cphCmd m _ => m == n | _ => false
  let b := { b with fw := { b.fw with deferred := b.fw.deferred.filter (fun (d : Deferred) => !mine d) } }
  modLd n (fun l => { l with doorbell := false, scan := none, msix := [], pba := [], cfg := {}, decoders := if decoders then [] else l.decoders }) b

/-- A port's Global Persistent Flush waits no longer: its answer has no link to go by (R113). -/
def dropGpf (p : Nat) (b : Blk) : Blk := { b with host := { b.host with gpf := b.host.gpf.filter (fun (g : GpfWait) => g.port != p) } }

/-- PORT_RESET_BEGIN: the work in flight is settled (R113), queues and windows of the owner end (R253, R322), and the port-class registers
show their reset values until the reset ends (R479). -/
def portResetBegin (phys : Phys) (r : PortReset) (b : Blk) : Blk :=
  if !r.exists? || !b.aon then b
  else
    let b := settleEngines r.lds (settleLds phys r.lds b)
    let b := r.lds.foldl (fun b n => resetWindow r.decoders n b) b
    match r.port? with
    | some p =>
      let b := dropGpf p b
      let calm : PortSt → PortSt := fun x => { x with ideKeys := false, ideIoKeys := false, ideInsecure := false, ideIoInsecure := false }
      modPort p (fun x => { calm x with inReset := true, resets := addReset r.kind x.resets, present := 0 }) (linkStatusDown p b)
    | none => r.lds.foldl (fun b n => modLd n (fun l => { l with resetting := true, resets := addReset r.kind l.resets }) b) b

/-- PORT_RESET_END: a reset ends; once none is under way the registers of the port or device are in use again, and HP_LD_ registers and the epoch
status block read live values (R9, R111, R481). -/
def portResetEnd (r : PortReset) (b : Blk) : Blk :=
  if !r.exists? then b
  else match r.port? with
    | some p =>
      let left := (b.port p).resets.erase r.kind
      let b := modPort p (fun x => { x with inReset := !left.isEmpty, resets := left }) b
      if left.isEmpty then r.lds.foldl (fun b n => modLd n (fun l => { l with heldWin := none }) b) b else b
    | none => r.lds.foldl (fun b n =>
        let left := (b.ld n).resets.erase r.kind
        modLd n (fun l => { l with resetting := !left.isEmpty, resets := left, heldWin := if left.isEmpty then none else l.heldWin }) b) b

/-- LINK_DOWN without a reset: the work in flight is settled in the same way (R113); no register takes its reset value but the link's own
state in HP_STATUS. -/
def linkDown (phys : Phys) (p : Nat) (b : Blk) : Blk :=
  if p < 4 then linkStatusDown p (dropGpf p (settleLds phys (portLds p) b)) else b

/-- HP_CTRL.DISABLE: 1 holds the port in electrical idle, a link disable that lasts until DISABLE is 0 (R9, R86, Table 4-11).
See assumption 58 (DEDUCED). -/
def portDisable (phys : Phys) (p : Nat) (on : Bool) (b : Blk) : Blk :=
  if 4 ≤ p || (b.port p).disable == on then b
  else if on then modPort p (fun x => { x with disable := true }) (portResetBegin phys (.linkDisable p) b)
  else modPort p (fun x => { x with disable := false }) (portResetEnd (.linkDisable p) b)

/-- HP_CTRL.BI_TIMEOUT: 1 to 63 ms; 0 is reserved (R2). -/
def portBiTimeout (p v : Nat) (b : Blk) : Blk :=
  if p < 4 && decide (0 < v) && decide (v < 64) then modPort p (fun x => { x with biTimeout := v }) b else b

end Sys2Proof.Machine
end

