-- ==== Sys2Proof/Machine/Identity.lean ====
section
/-!
DEFINITION. Chapter 13: fuses and derived keys, the life-cycle commands, the TAP, the SPDM responder, and the wrapping of keys (R340, R464).
-/
namespace Sys2Proof.Machine
open Sys2Proof

/-- Change the identity state. -/
def modId (f : IdSt → IdSt) (b : Blk) : Blk := { b with ident := f b.ident }

/-- Key ID of a key: the first 16 bytes of its 64-byte SHAKE256 digest (R30, R358). -/
def keyId (k : List Byte) : List Byte := (Config.shake256 64 k).take 16

/-- The LCS_ registers follow the fuses (R373). -/
def loadIdentity (b : Blk) : Blk :=
  let o := b.ident.fuse
  let pub := match o.identityKey with | some k => Config.ed448Public k | none => b.ident.identityPub
  modId (fun i => { i with lc := LcState.ofBits o.lcBits, identityPub := pub, unitId := if pub.isEmpty then [] else keyId pub, ownerKeyId := o.owner.map keyId }) b

/-- The owner's Chart-signing key. -/
def Blk.ownerKey (b : Blk) : Option (List Byte) := b.ident.fuse.owner

/-! ### Programming fuses -/

/-- The bits of a value as fuse bits of a field. -/
def fuseBits (f : FuseField) (w v : Nat) : List (FuseField × Nat) := ((List.range w).filter (fun i => v.testBit i)).map (fun i => (f, i))

/-- The bank with the listed bits blown. -/
def Otp.ofBits (l : List (FuseField × Nat)) : Otp := l.foldl (fun o x => o.blow (Otp.bit x.1 x.2)) {}

/-- Program fuse bits in order; of a run that fails, which bits are blown is open (a free value). -/
def burnBits (l : List (FuseField × Nat)) (r : FuseRun) (b : Blk) : Blk :=
  let x := match r with
    | .whole => (l, b)
    | .cut n => (l.take n, b)
    | .fails => let f := drawFree b; ((l.zipIdx.filter (fun (y : (FuseField × Nat) × Nat) => f.1.testBit y.2)).map (fun (y : (FuseField × Nat) × Nat) => y.1), f.2)
  let m := Otp.ofBits x.1
  modId (fun i => { i with burn := i.burn.blow m, fuse := i.fuse.blow m }) x.2

/-- The bits that carry every LC_STATE copy to a number of blown bits. -/
def Otp.lcForward (o : Otp) (n : Nat) : List (FuseField × Nat) :=
  [(.lc 0, o.lc0.toNat), (.lc 1, o.lc1.toNat), (.lc 2, o.lc2.toNat)].flatMap
    (fun (x : FuseField × Nat) => fuseBits x.1 3 (2 ^ n - 1 - (x.2 &&& (2 ^ n - 1))))

/-- The unblown bits of the fields that RETURN destroys (R367 step 3). -/
def Otp.secretBits (o : Otp) : List (FuseField × Nat) :=
  fuseBits (.salt 0) 256 (2 ^ 256 - 1 - o.salt0.toNat) ++ fuseBits (.salt 1) 256 (2 ^ 256 - 1 - o.salt1.toNat) ++
  fuseBits (.seed 0) 256 (2 ^ 256 - 1 - o.seed0.toNat) ++ fuseBits (.seed 1) 256 (2 ^ 256 - 1 - o.seed1.toNat) ++
  fuseBits (.key 0) 456 (2 ^ 456 - 1 - o.key0.toNat) ++ fuseBits (.key 1) 456 (2 ^ 456 - 1 - o.key1.toNat)

/-! ### Life-cycle commands (Tables 13-10, 13-11) -/

/-- Bytes of LCS_DATA. -/
def Blk.lcsBytes (b : Blk) (off n : Nat) : List Byte := (List.range n).map (fun i => SMap.get 0 b.ident.data (off + i))

/-- Place bytes in LCS_DATA. -/
def putLcs (off : Nat) (d : List Byte) (b : Blk) : Blk :=
  modId (fun i => { i with data := d.zipIdx.foldl (fun (m : SMap Byte) x => SMap.put 0 m (off + x.2) x.1) i.data }) b

/-- A command ends with a RESULT. -/
def lcsEnd (result : Nat) (b : Blk) : Blk := modId (fun i => { i with state := if result = 0 then .done else .failed, result := result }) b

/-- Start a life-cycle command in the states Table 13-11 gives it: BUSY while one runs (RESULT BUSY, ignored), STATE in any other state. -/
def lcs (op : Nat) (states : List LcState) (f : Blk → Blk) (b : Blk) : Blk :=
  if !b.ident.loaded || !b.aon then b
  else if b.ident.state = .busy then modId (fun i => { i with result := 5 }) b
  else
    let b := modId (fun i => { i with lastOp := op }) b
    if states.contains b.ident.lc then f b else lcsEnd 1 b

/-- How a command ends whose programming ran to its end, was cut (the command does not resume) or failed. -/
def fuseEnd (r : FuseRun) (b : Blk) : Blk :=
  match r with
  | .whole => lcsEnd 0 (loadIdentity b)
  | .cut _ => modId (fun i => { i with state := .busy }) b
  | .fails => lcsEnd 7 (setErr .lcs 1 (loadIdentity b))

/-- INSTALL_OWNER: an owner seed is drawn and fused, then the owner key (R360). Fuses partly blown by an earlier run leave no way to install
(R368). See assumption 89 (DEDUCED). -/
def installOwner (r : FuseRun) (b : Blk) : Blk :=
  lcs 1 [.provision] (fun b =>
    let o := b.ident.fuse
    if o.seed0 != 0 || o.seed1 != 0 || o.key0 != 0 || o.key1 != 0 then lcsEnd 1 b
    else
      let k := b.lcsBytes 0 57
      if !Config.ed448Valid k then lcsEnd 2 b
      else
        let f := drawFree b
        let s := f.1 % 2 ^ 256
        fuseEnd r (burnBits (fuseBits (.seed 0) 256 s ++ fuseBits (.seed 1) 256 s ++ fuseBits (.key 0) 456 (leNat k) ++ fuseBits (.key 1) 456 (leNat k)) r f.2)) b

/-- The alias public key; none without an owner. -/
def Blk.aliasPub (b : Blk) : Option (List Byte) := b.ident.fuse.aliasKey.map Config.ed448Public

/-- ALIAS_BIND: the signed binding in LCS_DATA (R359). -/
def aliasBind (b : Blk) : Blk :=
  lcs 2 [.provision, .sealedState] (fun b =>
    match b.aliasPub, b.ident.ownerKeyId, b.ident.fuse.identityKey with
    | some a, some o, some k =>
      let m := a ++ o ++ b.ident.unitId
      lcsEnd 0 (putLcs 0 (m ++ Config.ed448Sign k m) b)
    | _, _, _ => lcsEnd 1 b) b

/-- INSTALL_ALIAS_CHAIN: ARG [14:0] piece index, [15] last; the last piece installs the chain when its leaf certifies the alias key (R359). -/
def installAliasChain (arg : Nat) (b : Blk) : Blk :=
  lcs 3 [.provision, .sealedState] (fun b =>
    if b.ident.ownerKeyId.isNone then lcsEnd 1 b
    else
      let ix := arg % 2 ^ 15
      if 16 ≤ ix then lcsEnd 2 b
      else
        let b := modId (fun i => { i with aliasPieces := SMap.insert i.aliasPieces ix (b.lcsBytes 0 512) }) b
        if !arg.testBit 15 then lcsEnd 0 b
        else
          let chain := (List.range (ix + 1)).flatMap (fun i => SMap.get [] b.ident.aliasPieces i)
          let ok := (List.range (ix + 1)).all (fun i => SMap.has b.ident.aliasPieces i) && Config.leafKey chain == b.aliasPub && b.aliasPub.isSome
          let b := modId (fun i => { i with aliasPieces := [] }) b
          if ok then lcsEnd 0 (addJob .bootRecord (modId (fun i => { i with aliasChain := some chain }) b)) else lcsEnd 2 b) b

/-- SEAL: PROVISION to SEALED with an owner and no open debug; MGT_PERMIT is cleared (R365, R467). -/
def lcsSeal (r : FuseRun) (b : Blk) : Blk :=
  lcs 4 [.provision] (fun b =>
    if b.ident.ownerKeyId.isNone || b.ident.debugOpen then lcsEnd 1 b
    else
      let b := fuseEnd r (burnBits (b.ident.fuse.lcForward 2) r b)
      if b.ident.lc = .sealedState then { b with mgt := { b.mgt with permit := {}, savedPermit := {} } } else b) b

/-- A Treldex signature by a key that is not revoked, over the 64-byte digest of a message. -/
def Blk.treldexSigned (b : Blk) (ix : Nat) (msg sig : List Byte) : Bool :=
  decide (ix < 4) && !b.ident.fuse.revoke.getLsbD ix && Config.ed448Verify ((Config.treldexKeys.drop (57 * ix)).take 57) (Config.shake256 64 msg) sig

/-- A fresh nonce of 32 bytes. -/
def drawNonce (b : Blk) : List Byte × Blk := let f := drawFree b; (natLe 32 f.1, f.2)

/-- DEBUG_CHALLENGE (R366). -/
def debugChallenge (b : Blk) : Blk :=
  lcs 5 [.provision, .returned] (fun b =>
    let n := drawNonce b
    lcsEnd 0 (putLcs 0 n.1 (modId (fun i => { i with debugNonce := some n.1 }) n.2))) b

/-- DEBUG_UNLOCK: the nonce is consumed whatever the result (R366). -/
def debugUnlock (b : Blk) : Blk :=
  lcs 6 [.provision, .returned] (fun b =>
    let nonce := b.ident.debugNonce
    let b := modId (fun i => { i with debugNonce := none }) b
    match nonce with
    | none => lcsEnd 4 (setErr .lcs 2 b)
    | some n =>
      if b.treldexSigned ((b.lcsBytes 0 1).headD 0).toNat (ascii "TXA-9480 DEBUG v1" ++ b.ident.unitId ++ n) (b.lcsBytes 8 114) then
        lcsEnd 0 (modId (fun i => { i with debugOpen := true }) b)
      else lcsEnd 3 (setErr .lcs 2 b)) b

/-- RETURN_CHALLENGE. -/
def returnChallenge (b : Blk) : Blk :=
  lcs 7 [.provision, .sealedState] (fun b =>
    let n := drawNonce b
    lcsEnd 0 (putLcs 0 n.1 (modId (fun i => { i with returnNonce := some n.1 }) n.2))) b

/-- Zeroise every cipher slot and the horizon key store (R333, R367). -/
def zeroiseSlots (b : Blk) : Blk := modCph (fun c => { c with slots := [], kek := none }) b

/-- RETURN: conditions, then RETURN_BEGUN, the slots, the secret fields and LC_STATE, in this order (R367). -/
def lcsReturn (arg : Nat) (r : FuseRun) (b : Blk) : Blk :=
  lcs 8 [.provision, .sealedState] (fun b =>
    let nonce := b.ident.returnNonce
    let b := modId (fun i => { i with returnNonce := none }) b
    let refuse : Nat → Blk → Blk := fun n b => lcsEnd n (setErr .lcs 3 b)
    if !((List.range 4).all (fun p => (b.port p).disable)) || b.halvesOf.any (fun h => (b.half h).role == .holder) then refuse 6 b
    else match nonce with
    | none => refuse 4 b
    | some n =>
      let msg := ascii "TXA-9480 RETURN v1" ++ b.ident.unitId ++ n
      let owner := match b.ownerKey with
        | some k => Config.ed448Verify k (Config.shake256 64 msg) (b.lcsBytes 114 114)
        | none => false
      if !b.treldexSigned (arg % 4) msg (b.lcsBytes 0 114) || (b.ident.lc == .sealedState && !owner) then refuse 3 b
      else
        let o := b.ident.fuse
        let first := (List.range 3).map (fun i => ((FuseField.returnBegun i, 0) : FuseField × Nat))
        let b := burnBits (first ++ o.secretBits ++ o.lcForward 3) r b
        let b := match r with | .cut n => if n < 3 then b else zeroiseSlots b | _ => zeroiseSlots b
        fuseEnd r b) b

/-- COMMIT_SVN: FW_SVN rises to the SVN of the running firmware; below it, ROLLBACK (R362). -/
def commitSvn (r : FuseRun) (b : Blk) : Blk :=
  lcs 9 [.provision, .sealedState] (fun b =>
    let svn := (b.mgt.running.map (fun (x : Running) => x.svn)).getD 0
    if svn < b.ident.fuse.svn then lcsEnd 8 b
    else fuseEnd r (burnBits (fuseBits .fwSvn 64 (2 ^ svn - 1 - (b.ident.fuse.fwSvn.toNat &&& (2 ^ svn - 1)))) r b)) b

/-- An OP that Table 13-11 does not name: no state lists it, and it is answered with STATE (R365). -/
def lcsUnknown (op : Nat) (b : Blk) : Blk := lcs op [] (fun b => b) b

/-- TAP_PROVISION: the Treldex test command carries FOUNDRY to PROVISION once the identity is generated and its certificate chain, which
the command writes, is there (R365). -/
def tapProvision (chain : List Byte) (b : Blk) : Blk :=
  if b.ident.loaded && b.aon && b.ident.lc == .foundry && b.ident.fuse.identityKey.isSome && !chain.isEmpty then
    loadIdentity (burnBits (b.ident.fuse.lcForward 1) .whole (modId (fun i => { i with identityChain := chain }) b))
  else b

/-! ### The TAP (R364) -/

/-- A number for each instruction, as State shows the one in force. -/
def TapInstr.num : TapInstr → Nat
  | .bypass => 0 | .idcode => 1 | .samplePreload => 2 | .extest => 3 | .clamp => 4 | .highz => 5 | .internalScan => 6 | .coreDebug => 7

/-- Boundary scan is honoured now: LCS_STATE.SCAN_OPEN (Table 13-3). -/
def Blk.scanOpen (b : Blk) : Bool := b.ident.lc != .sealedState || b.pwr.sysRst

/-- An instruction executes as itself in the present life-cycle state (Table 13-3). -/
def Blk.tapAllows (b : Blk) (i : TapInstr) : Bool :=
  match i with
  | .idcode => true
  | .bypass => true
  | .internalScan => b.ident.lc == .foundry || b.ident.debugOpen
  | .coreDebug => b.ident.lc == .foundry || b.ident.debugOpen
  | _ => b.scanOpen

/-- TAP_INSTRUCTION: a loaded instruction executes, or executes as BYPASS. -/
def tapInstruction (i : TapInstr) (b : Blk) : Blk :=
  let by' := !b.tapAllows i || i == .bypass
  send (.tap i.num by') (modId (fun x => { x with tap := i.num, tapBypass := by' }) b)

/-! ### The SPDM responder (R369 to R372) -/

/-- An SPDM response. -/
def spdmSay (t : Nat) (s : Option Nat) (code : Nat) (body : List Byte) (b : Blk) : Blk := send (.spdm t s code body) b

/-- An SPDM ERROR response of DSP0274 (assumption 63 names the codes). -/
def spdmError (t : Nat) (s : Option Nat) (code : Nat) (b : Blk) : Blk := spdmSay t s 0x7F [BitVec.ofNat 8 code] b

def Blk.conn (b : Blk) (t : Nat) : SpdmConn := SMap.get SpdmConn.fresh b.ident.conns t
def modConn (t : Nat) (f : SpdmConn → SpdmConn) (b : Blk) : Blk := modId (fun i => { i with conns := SMap.upd SpdmConn.fresh i.conns t f }) b

/-- The responder answers: always-on power is up. In RETURN it answers only the requests R369 lists. -/
def spdmAnswer (t : Nat) (s : Option Nat) (inReturn : Bool) (f : Blk → Blk) (b : Blk) : Blk :=
  if !b.ident.loaded || !b.aon then b
  else if b.ident.lc == .returned && !inReturn then spdmError t s 5 b
  else f b

/-- Requests after the negotiation. -/
def afterNegotiation (t : Nat) (s : Option Nat) (inReturn : Bool) (f : Blk → Blk) (b : Blk) : Blk :=
  spdmAnswer t s inReturn (fun b => if (b.conn t).algorithms then f b else spdmError t s 4 b) b

/-- GET_VERSION: 1.2 and 1.3; the connection starts anew. -/
def spdmVersion (t : Nat) (b : Blk) : Blk :=
  spdmAnswer t none true (fun b => spdmSay t none 0x04 [0, 2, 0, 0x12, 0, 0x13] (modConn t (fun _ => {}) b)) b

/-- GET_CAPABILITIES in a version: the flags of Table 13-6 (CERT, CHAL, MEAS with signature, ENCRYPT, MAC, MUT_AUTH, KEY_EX, HBEAT, KEY_UPD). -/
def spdmCapabilities (t version : Nat) (b : Blk) : Blk :=
  spdmAnswer t none true (fun b =>
    if version = 0x12 || version = 0x13 then
      spdmSay t none 0x61 (natLe 4 (view [placeBit true 1, placeBit true 2, place 2 2 3, placeBit true 6, placeBit true 7, placeBit true 8,
        placeBit true 9, placeBit true 13, placeBit true 14]).toNat) (modConn t (fun _ => { version := version, capabilities := true, algorithms := false }) b)
    else spdmError t none 0x41 b) b

/-- The algorithms of Table 13-6 by their bits of DSP0274 (assumption 63): measurement hash and base hash SHA3-512, base asymmetric Ed448; then the
structures of DHE SECP_384_R1, AEAD AES_256_GCM and requester asymmetric Ed448. -/
def spdmChoices : List Byte :=
  natLe 4 0x40 ++ natLe 4 0x800 ++ natLe 4 0x20 ++ [2, 0x20] ++ natLe 2 0x10 ++ [3, 0x20] ++ natLe 2 2 ++ [4, 0x20] ++ natLe 2 0x800

/-- NEGOTIATE_ALGORITHMS: the choices of Table 13-6 and no others. `offered` says whether the requester offers each of them. -/
def spdmAlgorithms (t : Nat) (offered : Bool) (b : Blk) : Blk :=
  spdmAnswer t none true (fun b =>
    if !(b.conn t).capabilities then spdmError t none 4 b
    else if offered then spdmSay t none 0x63 spdmChoices (modConn t (fun c => { c with algorithms := true }) b)
    else spdmError t none 1 b) b

/-- The certificate chain of a slot (Table 13-6). -/
def Blk.chainOf (b : Blk) (slot : Nat) : Option (List Byte) :=
  if slot = 0 then some b.ident.identityChain else if slot = 1 then b.ident.aliasChain else none

/-- The signing key of a slot (R371). -/
def Blk.slotKey (b : Blk) (slot : Nat) : Option (List Byte) :=
  if slot = 0 then b.ident.fuse.identityKey else if slot = 1 && b.ident.aliasChain.isSome then b.ident.fuse.aliasKey else none

/-- GET_DIGESTS: the installed chains' digests. -/
def spdmDigests (t : Nat) (s : Option Nat) (b : Blk) : Blk :=
  afterNegotiation t s false (fun b =>
    spdmSay t s 0x01 ((if b.ident.aliasChain.isSome then 3 else 1) :: [0, 1].flatMap (fun i => match b.chainOf i with | some c => Config.sha3 c | none => [])) b) b

/-- GET_CERTIFICATE: a portion of a slot's chain with the remainder's length. -/
def spdmCertificate (t : Nat) (s : Option Nat) (slot off len : Nat) (b : Blk) : Blk :=
  afterNegotiation t s false (fun b =>
    match b.chainOf slot with
    | some c =>
      if c.length < off then spdmError t s 1 b
      else let p := (c.drop off).take len
           spdmSay t s 0x02 (natLe 2 p.length ++ natLe 2 (c.length - off - p.length) ++ p) b
    | none => spdmError t s 1 b) b

/-- CHALLENGE: signed with the slot's key over the transcript and a fresh nonce (R371). -/
def spdmChallenge (t slot : Nat) (transcript : List Byte) (b : Blk) : Blk :=
  afterNegotiation t none false (fun b =>
    match b.slotKey slot, b.chainOf slot with
    | some k, some c =>
      let n := drawNonce b
      spdmSay t none 0x03 (Config.sha3 c ++ n.1 ++ Config.ed448Sign k (transcript ++ Config.sha3 c ++ n.1)) n.2
    | _, _ => spdmError t none 1 b) b

/-- Content of a measurement block (Table 13-7). -/
def Blk.measurement (b : Blk) (i : Nat) : List Byte :=
  match i with
  | 1 => Config.romDigest
  | 2 => (b.mgt.running.map (fun (r : Running) => r.supDigest)).getD []
  | 3 => (b.mgt.running.map (fun (r : Running) => r.coreDigest)).getD []
  | 4 => bitsBytes 64 b.cht.cur.digest
  | 5 => Config.deviceMode b.ident.lc.code b.ident.debugOpen b.ident.fuse.returning
  | 6 => natLe 4 b.ident.fuse.svn ++ natLe 4 ((b.mgt.running.map (fun (r : Running) => r.svn)).getD 0)
  | 7 => (b.ident.ownerKeyId).getD (List.replicate 16 0xFF)
  | _ => []

/-- DMTF value type of a measurement block; bit 7 marks raw contents (Table 13-7). -/
def measureType (i : Nat) : Nat :=
  match i with | 1 => 0x00 | 2 => 0x01 | 3 => 0x01 | 4 => 0x83 | 5 => 0x85 | 6 => 0x87 | _ => 0x89

/-- A measurement block: its index, the DMTF specification, its size, its value type, and its content with its size (assumption 63, PRESUMED). -/
def Blk.measureBlock (b : Blk) (i : Nat) : List Byte :=
  let m := b.measurement i
  [BitVec.ofNat 8 i, 1] ++ natLe 2 (m.length + 3) ++ natLe 1 (measureType i) ++ natLe 2 m.length ++ m

/-- GET_MEASUREMENTS: block `index` (0xFF all), with a signature by the slot's key when one is asked for; in RETURN without (R369, R372). -/
def spdmMeasurements (t : Nat) (s : Option Nat) (index : Nat) (signSlot : Option Nat) (transcript : List Byte) (b : Blk) : Blk :=
  afterNegotiation t s signSlot.isNone (fun b =>
    let ix := if index = 0xFF then [1, 2, 3, 4, 5, 6, 7] else if 1 ≤ index && decide (index ≤ 7) then [index] else []
    if ix.isEmpty && index != 0 then spdmError t s 1 b
    else
      let rec' := ix.flatMap b.measureBlock
      let body := BitVec.ofNat 8 (if index = 0 then 7 else ix.length) :: (natLe 3 rec'.length ++ rec')
      match signSlot with
      | none => spdmSay t s 0x60 body b
      | some slot => match b.slotKey slot with
        | some k => let n := drawNonce b
                    spdmSay t s 0x60 (body ++ n.1 ++ Config.ed448Sign k (transcript ++ body ++ n.1)) n.2
        | none => spdmError t s 1 b) b

/-- KEY_EXCHANGE: a session opens for its handshake; at most 8 at once (Table 13-6). -/
def spdmKeyExchange (t slot : Nat) (transcript : List Byte) (b : Blk) : Blk :=
  afterNegotiation t none false (fun b =>
    if 8 ≤ b.ident.sessions.length then spdmError t none 0x0A b
    else match b.slotKey slot with
    | none => spdmError t none 1 b
    | some k =>
      let n := drawNonce b
      let id := n.2.ident.nextSession
      let b := modId (fun i => { i with sessions := i.sessions ++ [⟨id, t, false, false, 0⟩], nextSession := id + 1 }) n.2
      spdmSay t none 0x64 (natLe 4 id ++ n.1 ++ Config.ed448Sign k (transcript ++ n.1)) b) b

/-- A session of a transport. -/
def Blk.session (b : Blk) (t id : Nat) : Option Session := b.ident.sessions.find? (fun s => s.id == id && s.transport == t)

/-- FINISH: the handshake completes; a requester whose chain is rooted in the fused owner key makes an owner session (R371). `root` is the
key ID of the requester's root, none when it does not authenticate; `ok` whether its signature and MAC verify. -/
def spdmFinish (t id : Nat) (root : Option (List Byte)) (ok : Bool) (b : Blk) : Blk :=
  afterNegotiation t (some id) false (fun b =>
    match b.session t id with
    | none => spdmError t none 2 b
    | some s =>
      if s.established then spdmError t (some id) 4 b
      else if !ok then spdmError t (some id) 6 (modId (fun i => { i with sessions := i.sessions.filter (fun (x : Session) => x.id != id) }) b)
      else
        let own := root.isSome && root == b.ident.ownerKeyId
        let f : Session → Session := fun x => if x.id = id then { x with established := true, owner := own } else x
        spdmSay t (some id) 0x65 [] (modId (fun i => { i with sessions := i.sessions.map f }) b)) b

/-- Requests inside an established session. -/
def inSession (t id : Nat) (f : Blk → Blk) (b : Blk) : Blk :=
  afterNegotiation t (some id) false (fun b =>
    match b.session t id with
    | some s => if s.established then f b else spdmError t (some id) 4 b
    | none => spdmError t none 2 b) b

/-- HEARTBEAT. -/
def spdmHeartbeat (t id : Nat) (b : Blk) : Blk := inSession t id (fun b => spdmSay t (some id) 0x68 [] b) b

/-- KEY_UPDATE. -/
def spdmKeyUpdate (t id : Nat) (b : Blk) : Blk :=
  inSession t id (fun b =>
    let f : Session → Session := fun x => if x.id = id then { x with updates := x.updates + 1 } else x
    spdmSay t (some id) 0x69 [] (modId (fun i => { i with sessions := i.sessions.map f }) b)) b

/-- END_SESSION. -/
def spdmEnd (t id : Nat) (b : Blk) : Blk :=
  inSession t id (fun b => spdmSay t (some id) 0x6C [] (modId (fun i => { i with sessions := i.sessions.filter (fun (x : Session) => x.id != id) }) b)) b

/-- The caller's session is an established owner session (R371). -/
def Blk.ownerSession (b : Blk) (t : Nat) (s : Option Nat) : Bool :=
  match s.bind (b.session t) with
  | some x => x.established && x.owner
  | none => false

/-- CXL IDE key management is accepted in any secured session of the port's DOE mailbox (R104, R371). -/
def inIdeSession (t id : Nat) (f : Blk → Blk) (b : Blk) : Blk :=
  match b.session t id with
  | some s => if s.established && b.ident.lc != .returned then f b else b
  | none => b

/-! ### Wrapping keys (R340, R464) -/

/-- The bytes of a vendor response: the header of Table 18-2 with the request's TAG, then DATA. -/
def vendorMsg (cmd status tag count addr : Nat) (data : List Byte) : List Byte :=
  natLe 1 cmd ++ natLe 1 status ++ natLe 2 tag ++ natLe 4 count ++ natLe 8 addr ++ data

/-- A vendor command is refused with a STATUS of Table 18-4: the matching MGT_ERR bit, and a register access violation for PERMISSION, ALIGN
and RANGE (R465). -/
def vendorFail (t tag cmd status count addr : Nat) (b : Blk) : Blk :=
  let bad : Nat → Blk → Blk := fun n b => countEvent 0x12 0 (setErr .mgt n b)
  send (.vendor t (vendorMsg cmd status tag count addr [])) (match status with | 1 => bad 0 b | 2 => bad 1 b | 3 => bad 2 b | 6 => setErr .mgt 3 b | _ => b)

/-- WRAP_KEY and GENERATE_KEY: the blob of a header and a key, in an owner session only; before D3 has derived the KEK, BUSY.
See assumption 91 (DEDUCED). -/
def wrapCommand (cmd t : Nat) (s : Option Nat) (tag count addr : Nat) (hdr : List Byte) (key : Option (List Byte)) (b : Blk) : Blk :=
  if !b.aon then b
  else if !b.ownerSession t s then vendorFail t tag cmd 6 count addr b
  else
    let n := if uAt hdr 8 1 = 1 then 64 else 32
    if count != 1 || addr != 0 || hdr.length != 64 || (match key with | some k => k.length != n | none => false) then
      vendorFail t tag cmd 3 count addr b
    else
      let k : List Byte × Blk := match key with
        | some k => (k, b)
        | none => let f := drawFree b; (natLe n f.1, f.2)
      match wrapBlob hdr k.1 k.2 with
      | (some x, b) => send (.vendor t (vendorMsg cmd 0 tag 1 0 x)) b
      | (none, b) => vendorFail t tag cmd 4 count addr b

def wrapKey (t : Nat) (s : Option Nat) (tag count addr : Nat) (hdr key : List Byte) (b : Blk) : Blk := wrapCommand 5 t s tag count addr hdr (some key) b
def generateKey (t : Nat) (s : Option Nat) (tag count addr : Nat) (hdr : List Byte) (b : Blk) : Blk := wrapCommand 6 t s tag count addr hdr none b

end Sys2Proof.Machine
end

