-- ==== Sys2Proof/Machine/Reset.lean ====
section
/-!
DEFINITION. The system class and the power-on class of reset (R9, R391 to R393): what each leaves, SYS_RST_N, and the loss and return of
always-on power (R384, R489).
-/
namespace Sys2Proof.Machine
open Sys2Proof

/-! ### What outlives a reset -/

/-- ERR bits that a system reset clears: the CMD_ERR bits, which are not marked ST, of the registers of the system class (Tables 6-15,
8-9, 10-14, 12-16). -/
def errNonSt (key : Nat) : W64 :=
  match key % 0x100 with
  | 0x05 => 1 <<< 8 | 0x07 => 1 <<< 11 | 0x09 => 1 <<< 12 | 0x0B => 1 <<< 7 | _ => 0

/-- ERR registers after a system reset (R9). -/
def keepErrs (errs : SMap W64) : SMap W64 := (SMap.mapVal errs (fun k w => w &&& ~~~(errNonSt k))).filter (fun (e : Nat × W64) => e.2 != 0)

/-- Untagged extents offered or assigned now: their pages are set to ZERO at the next D5 (R504). Tags that were only offered go with their offers. -/
def noteExtents (b : Blk) : Blk :=
  let xs := b.host.lds.flatMap (fun (e : Nat × LdSt) => (e.2.extents ++ e.2.offers).filter (fun x => x.tag = 0))
  { b with host := { b.host with dcScratch := b.host.dcScratch ++ xs, dcTags := b.host.dcTags.filter (fun t => t.held) } }

/-- eFlash jobs that a reset drops: what they would program lies in memory that the reset clears. See assumption 72 (DEDUCED). -/
def EflJob.lost : EflJob → Bool
  | .chartSlot _ => true | .firmware _ => true | .keyRecords => true | .almImage _ => true | _ => false

/-- Drop those jobs. -/
def dropLostJobs (e : EFlash) : EFlash :=
  let js := e.jobs.filter (fun j => !j.lost)
  match e.cur with
  | some j => if j.lost then { e with cur := none, jobs := js } else { e with jobs := js }
  | none => { e with jobs := js }

/-- A die as the flash itself and the fields marked ST keep it. -/
def Die.kept (d : Die) : Die :=
  { state := if d.state = .retired then .retired else .absent, cause := d.cause, grownBad := d.grownBad, lun := d.lun, pagesPerBlock := d.pagesPerBlock,
    retiredBlocks := d.retiredBlocks, remap := d.remap, label := d.label }

/-- What the flash array keeps through a system reset: the media's contents and the fields marked ST. Records collected and not yet
programmed, the Near ring, the map as it stands and its cache are lost (R217, R218). -/
def NvfSt.kept (n : NvfSt) : NvfSt :=
  { dies := (SMap.mapVal n.dies (fun _ d => d.kept)).filter (fun (e : Nat × Die) => e.2 != Die.absent), retired := n.retired, layouts := n.layouts,
    zones := n.zones, stripes := n.stripes, saved := n.saved, metaHead0 := n.metaHead0, metaHead1 := n.metaHead1, logHead := n.logHead,
    sjSeq := n.sjSeq, rep0 := n.rep0, rep1 := n.rep1, attributed := n.attributed, unattributed := n.unattributed, lostStripes := n.lostStripes,
    farPoisoned := n.farPoisoned, reshaping := n.reshaping, jErase := n.jErase }

/-- What a channel keeps: the counter and capture marked ST. Its DIMMs are found again at D4. -/
def Chan.kept (c : Chan) : Chan := { ce := c.ce, cap := c.cap }

/-- Persistence through a system reset: what DRAM and flash hold, the pins and the fields marked ST. -/
def PersSt.kept (p : PersSt) : PersSt :=
  { dirty := p.dirty, stamps := p.stamps, from' := p.from', holdupLow := p.holdupLow, degraded := p.degraded, holdupTimer := p.holdupTimer,
    rSave := p.rSave, overdraw := p.overdraw, gens := p.gens }

/-- Twin state through a system reset: fields marked ST, and the COLD deltas and copies that the flash holds. -/
def TwinSt.kept (t : TwinSt) : TwinSt :=
  { divergent := t.divergent, eclipseStart := t.eclipseStart, eclipseEnd := t.eclipseEnd, replays := t.replays, retrains := t.retrains,
    deltas := t.deltas, coldHeld := t.coldHeld, folded := t.folded, recopy := t.recopy }

/-- The Chart slots of eFlash, with the staging state that they imply (R63). -/
def ChartSt.kept (c : ChartSt) : ChartSt :=
  { slots := c.slots, slotRec := c.slotRec, prev := c.prev, state := if c.slotRec.pending then .pendingDawn else .idle }

/-- Orbit through a system reset: fields marked ST and the records of eFlash and of the MEMORY_KEYS carve-out. -/
def OrbSt.kept (o : OrbSt) : OrbSt :=
  { keyUsed := o.keyUsed, pnLimit := o.pnLimit, missDrops := o.missDrops, authDrops := o.authDrops, retransmits := o.retransmits, naksSent := o.naksSent,
    ports := (SMap.mapVal o.ports (fun _ (p : EthPort) => { up := false, medium := 0, fec := p.fec })).filter (fun (e : Nat × EthPort) => e.2 != EthPort.down) }

/-- Host ports through a system reset: the violation counts, a PERST_N that stays asserted, the tag table and the ranges to zero, the Dirty Shutdown Count. -/
def HostSt.kept (h : HostSt) : HostSt :=
  { ports := (SMap.mapVal h.ports (fun _ (p : PortSt) => ({ viol := p.viol, inReset := p.resets.contains 0, resets := p.resets.filter (· == 0) } : PortSt))).filter (fun (e : Nat × PortSt) => e.2 != PortSt.fresh),
    dcTags := h.dcTags, dcScratch := h.dcScratch, dirtyShutdowns := h.dirtyShutdowns }

/-- The system class of reset takes effect (R9, R63, R333, R373, R391): everything of that class and of weaker classes takes its reset
values. The front end, the sequencer, eFlash and the fields marked ST keep theirs; key slots are zeroised. -/
def systemReset (b : Blk) : Blk :=
  let b := dropDeltas (fun d => d.complete) (abortUpdate (noteExtents b))
  let i := b.ident
  let r : Blk :=
  { free := b.free, cyc := b.cyc, aon := b.aon, straps := b.straps, errs := keepErrs b.errs,
    flt := { b.flt with irq := false },
    logbook := { b.logbook with skipped := b.logbook.skipped.filter (fun s => b.efl.begun.contains (576 + s)) },
    alm := b.alm, efl := dropLostJobs b.efl, mer := b.mer, cht := b.cht.kept,
    halo := { fatal := b.halo.fatal, errLoc := b.halo.errLoc, errAddr := b.halo.errAddr },
    dram := { lines := b.dram.lines, fills := b.dram.fills, pres := b.dram.pres, presRuns := b.dram.presRuns, presBase := b.dram.presBase, powered := b.dram.powered,
              selfRefresh := b.dram.selfRefresh, rcdIgnore := b.dram.rcdIgnore, pmicCleared := b.dram.pmicCleared, pmicOff := b.dram.pmicOff,
              chans := SMap.mapVal b.dram.chans (fun _ c => c.kept) },
    pers := b.pers.kept, nvf := b.nvf.kept, far := { dir := b.far.dir, clock := b.far.clock, lateCount := b.far.lateCount, lastLate := b.far.lastLate },
    twin := b.twin.kept, host := b.host.kept, orb := b.orb.kept, cph := { records := b.cph.records, closed := b.cph.closed },
    ident := { burn := i.burn, identityPub := i.identityPub, identityChain := i.identityChain, aliasChain := i.aliasChain, debugOpen := i.debugOpen,
               tap := i.tap, tapBypass := i.tapBypass },
    pwr := b.pwr, therm := { peak := b.therm.peak, peakDimm := b.therm.peakDimm, disarmed := b.therm.disarmed, downAt := b.therm.downAt },
    mgt := { b.mgt with assembling := [] }, fw := {}, out := b.out }
  pickJob r

/-! ### SYS_RST_N -/

/-- Lines that a system reset would lose: pinned lines of frozen channels, writes queued there, and dropped lines. Each is written
poisoned, so that no older contents ever come back (assumption 70). -/
def poisonFrozen (b : Blk) : Blk :=
  let ls := b.dram.chans.flatMap (fun (e : Nat × Chan) => if e.2.state = .frozen then e.2.drops ++ SMap.keys e.2.queued else [])
  let pinned := b.halo.lines.filterMap (fun (e : Nat × HaloLine) => if e.2.dirty then some e.2.line else none)
  (ls ++ pinned).foldl (fun b l =>
    let d : DramLine := { b.lineFor l 0 true (b.dramLine l).stamp with poison := true }
    { b with dram := { b.dram with lines := SMap.put (b.dram.filled l) b.dram.lines l d } }) b

/-- Every DIMM that is present, as a WARM record lists it (R392). -/
def Blk.dimmList (b : Blk) : List (Nat × Nat × Nat) :=
  b.dram.chans.flatMap (fun (e : Nat × Chan) =>
    if e.2.state = .ready || e.2.state = .frozen then (List.range e.2.dimms).map (fun d => (e.1, d, (e.2.ids.getD d {}).serial)) else [])

/-- Bits 2n + d of a DIMM list. -/
def dimmMask (l : List (Nat × Nat × Nat)) : Nat := maskOf (l.map (fun x => 2 * x.1 + x.2.1))

/-- DRAM holds what D5 gave it: D5 has completed, or the Dawn keeps the contents of an earlier warm reset. See assumption 71 (DEDUCED). -/
def Blk.dramCurrent (b : Blk) : Bool :=
  b.fromD7 || b.pwr.stage == .dawn 6 || (b.pwr.stage == .dawn 5 && b.pwr.warmKeep)

/-- The stage as SYS_RESET records it: 0xFF in service (Table 14-4). -/
def Blk.stageNo (b : Blk) : Nat := match b.pwr.stage with | .dawn n => n | _ => 0xFF

/-- SYS_RST_N_ASSERT (R392, R393): requests not accepted are discarded, the lease is released, the data plane flushes, DRAM enters
self-refresh with a WARM record, and the reset takes effect. A Dawn under way ends ABORTED. Ignored during a Dusk. See assumption 73 (DEDUCED). -/
def sysRstAssert (phys : Phys) (b : Blk) : Blk :=
  if b.inDusk || b.pwr.sysRst then b
  else
    let stage := b.stageNo
    let b := { b with host := { b.host with held := [], fwd := [], mirror := [], bi := [], gpf := [] } }
    let b := releaseAll 6 b
    let b := (b.dram.chans.filter (fun (e : Nat × Chan) => e.2.state == .frozen)).foldl (fun b e => dropSummary e.1 b) b
    let b := poisonFrozen (flushMet phys false b)
    let l := b.dimmList
    let fresh := b.pwr.stage == .service || b.dramCurrent
    let keepOld := match b.pwr.stage with | .dawn n => decide (n < 5) | _ => false
    let w := if fresh then some (Warm.mk l b.cht.cur.digest) else if keepOld then b.pwr.boot.warm else none
    let b := { b with dram := { b.dram with selfRefresh := if fresh then dimmMask l else b.dram.selfRefresh } }
    let b := modPwr (fun p => { p with boot := { p.boot with warm := w, stale := b.twin.stale, credit := if fresh then b.pers.credit else p.boot.credit } }) b
    let b := abortDawn (powRecord .sysReset { stage := stage } b)
    let b := systemReset b
    modPwr (fun p => { p with sysRst := true, twilight := false, warmKeep := false,
                              stage := if p.seq = .lowering || p.seq = .minOff then .down else .dawn 0 }) b

/-- SYS_RST_N_DEASSERT: straps are sampled, the TAP leaves EXTEST, and D0 may begin (R364, R393, R487). -/
def sysRstDeassert (straps : Nat) (b : Blk) : Blk :=
  if !b.pwr.sysRst then b
  else
    let b := modPwr (fun p => { p with sysRst := false }) { b with straps := straps % 4 }
    modId (fun i => { i with tapBypass := i.tapBypass || i.tap == TapInstr.extest.num }) b

/-! ### Always-on power -/

/-- AON_POWER_LOSS: every rail falls, those with RETAIN too, and nothing further is recorded (R384, R489, R503). -/
def aonPowerLoss (b : Blk) : Blk :=
  if !b.aon then b
  else
    let b := noteExtents (cutRails b)
    { b with aon := false }

/-- What eFlash holds of the Logbook: records still in the buffer are lost, and RECORD_SEQ goes on from the newest programmed one (R416). -/
def Logbook.kept (l : Logbook) (begun : List Nat) : Logbook :=
  { recs := l.recs, nextSeq := (l.recs.map (fun (e : Nat × LogRec) => e.2.seq + 1)).foldl Nat.max 0, head := l.head, headPos := l.headPos, spare := l.spare,
    erases := l.erases, moveWaits := l.moveWaits, aheadErased := l.aheadErased, unsealed := l.unsealed, skipped := l.skipped.filter (fun s => begun.contains (576 + s)),
    lastSeal := l.lastSeal }

/-- The power-on class of reset: every register takes its reset value; eFlash, the flash array and the count floor stay (R9, R65, R501). -/
def powerOnReset (straps : Nat) (b : Blk) : Blk :=
  let b := dropDeltas (fun d => d.complete) b
  let n := b.nvf.kept
  let i := b.ident
  { free := b.free, straps := straps % 4, logbook := b.logbook.kept b.efl.begun,
    alm := { images := b.alm.images, slot := b.alm.slot, used := b.alm.used }, efl := { begun := b.efl.begun },
    mer := { count := b.pwr.boot.countFloor, floor := b.pwr.boot.countFloor },
    cht := b.cht.kept, pers := { gens := b.pers.gens },
    nvf := { n with dies := (SMap.mapVal n.dies (fun _ (d : Die) => { d with cause := 0, grownBad := 0 })).filter (fun (e : Nat × Die) => e.2 != Die.absent),
                    attributed := 0, unattributed := 0, lostStripes := 0, farPoisoned := 0 },
    far := { dir := b.far.dir, clock := b.far.clock },
    twin := { deltas := b.twin.deltas, coldHeld := b.twin.coldHeld, folded := b.twin.folded },
    host := { dcTags := b.host.dcTags, dcScratch := b.host.dcScratch, dirtyShutdowns := b.host.dirtyShutdowns },
    orb := { keyUsed := b.orb.keyUsed, pnLimit := b.orb.pnLimit }, cph := { records := b.cph.records, closed := b.cph.closed },
    ident := { identityPub := i.identityPub, identityChain := i.identityChain, aliasChain := i.aliasChain, burn := i.burn },
    pwr := { stage := .dawn 0, log := b.pwr.log, logSeq := b.pwr.logSeq, boot := b.pwr.boot },
    mgt := { savedPermit := b.mgt.savedPermit, savedEid := b.mgt.savedEid, active := b.mgt.active, trial := b.mgt.trial, pendingReset := b.mgt.pendingReset,
             banks := b.mgt.banks } }

/-- AON_POWER_UP: the power-on reset; the straps are sampled (R9, R487). Where always-on power has not been lost before, this is a loss and a
return. -/
def aonPowerUp (straps : Nat) (b : Blk) : Blk :=
  let ended := b.mgt.update != .idle
  let b := powerOnReset straps (aonPowerLoss b)
  if ended then setErr .mgt 5 b else b

end Sys2Proof.Machine
end

