-- ==== Sys2Proof/Machine/Power.lean ====
section
/-!
DEFINITION. The power sequencer's commands, and how a Dawn fails and Twilight begins and ends (R374 to R396, R503).
-/
namespace Sys2Proof.Machine
open Sys2Proof

/-! ### Failed Dawns and Twilight (R389, R395, R396, R471) -/

/-- DAWN_LIMIT of the body in force. -/
def Blk.dawnLimit (b : Blk) : Nat := b.pwr.body.dawnLimit

/-- The sequencer's error pin with its location (Table 16-1). -/
def psqLoc : W64 := faultCluster 2 0x04

/-- Enter Twilight: TWILIGHT_ENTER, the Twilight rails alone, the error pin and the FAULT record with stage and reason (R395). -/
def enterTwilight (b : Blk) : Blk :=
  let r := b.pwr.boot
  let b := powRecord .twilightEnter { stage := r.lastStage, reason := r.lastReason, detail := r.lastDetail } b
  let b := setErr .psq 4 (modPwr (fun p => { p with stage := .twilight, twilight := true }) b)
  let b := startLower .twilight b.twilightKeep b
  let post := fun (b : Blk) =>
    postTo [0] .failure (vendorRec .fault { loc := psqLoc, locKind := 1, detail := [84 + r.lastStage * 2 ^ 16 + r.lastReason.code * 2 ^ 24] } b) b
  if b.flt.status.getLsbD 84 then post b else latchWith post id 84 psqLoc b

/-- A Dawn with TRIAL set has failed before D7: the other bank is active again (R471). -/
def trialFallback (b : Blk) : Blk :=
  if b.mgt.trial then setErr .mgt 6 { b with mgt := { b.mgt with active := 1 - b.mgt.active, trial := false, pendingReset := false } } else b

/-- Record a failed Dawn (R389 steps 1 and 2). -/
def recordFail (stage : Nat) (reason : DawnReason) (detail : Nat) (b : Blk) : Blk :=
  let b := trialFallback (powRecord .dawnFail { stage := stage, reason := reason, detail := detail } b)
  let n := if reason = .lifecycle then b.dawnLimit else b.pwr.boot.failed + 1
  modPwr (fun p => { p with boot := { p.boot with failed := n, lastStage := stage, lastReason := reason, lastDetail := detail } }) b

/-- A stage fails (R389): a new Dawn after the rails have been lowered, or Twilight. -/
def failDawn (stage : Nat) (reason : DawnReason) (detail : Nat) (b : Blk) : Blk :=
  let b := setErr .psq 3 (endDawn (.failed stage reason) (recordFail stage reason detail b))
  if b.pwr.boot.failed < b.dawnLimit then startLower .dawnFail 0 b else enterTwilight b

/-- Leave Twilight: DETAIL 1 DAWN_RETRY, 2 firmware, 3 Chart (R396). -/
def exitTwilight (detail : Nat) (b : Blk) : Blk :=
  if b.pwr.stage != .twilight then b
  else
    let n := if detail = 1 then b.dawnLimit - 1 else 0
    let b := powRecord .twilightExit { detail := detail } (modPwr (fun p => { p with boot := { p.boot with failed := n } }) b)
    startLower .twilightExit 0 b

/-! ### Raising (R375, R376) -/

/-- A Dawn stage ends: its duration, and the stage that follows (R387, Table 14-11). -/
def stageDone (n next : Nat) (b : Blk) : Blk :=
  modPwr (fun p => { p with stage := .dawn next, stageUs := SMap.put 0 p.stageUs n (Nat.min (b.us - p.stageStart) 0xFFFF_FFFF), stageStart := b.us,
                            boot := { p.boot with dawnOpen := some next } }) b

/-- D1 completes when the sequence is up. -/
def d1Done (b : Blk) : Blk := if b.pwr.seq == .on && b.pwr.stage == .dawn 1 then stageDone 1 2 b else b

/-- The first failing slot of the group (R376): of those timed out, the one whose PG_TIMEOUT is least, the lowest-numbered of equals. -/
def Blk.firstFail (b : Blk) : Option Nat :=
  match (b.groupOf b.raiseSlots b.pwr.group).filter (fun s => b.slotTimedOut s && !b.pwr.pg.testBit s) with
  | [] => none
  | s :: rest => some (rest.foldl (fun x y => if (b.rail y).pgTimeout < (b.rail x).pgTimeout then y else x) s)

/-- An attempt fails: RAIL_FAIL, every raised group is lowered, and the next attempt or the Dawn's failure (R375, R376). -/
def railFail (s : Nat) (b : Blk) : Blk :=
  let b := setErr .psq 0 (powRecord .railFail { slot := s, attempt := b.pwr.attempt, stage := b.stageNo } b)
  let b := modPwr (fun p => { p with failSlot := some s }) b
  if b.pwr.attempt ≤ b.pwr.body.retries then startLower .retry 0 b
  else match b.pwr.stage with
    | .dawn 1 => failDawn 1 .rail s b
    | .twilight => startLower .twilight 0 b
    | _ => startLower .dawnFail 0 b

/-- The group being raised: when each slot has reached power-good or its timeout, settle, fail, or obey an off request. -/
def checkGroup (b : Blk) : Blk :=
  if b.pwr.seq != .raising || b.pwr.settling || !b.groupDone then b
  else if b.pwr.offReq then offIfSettled b
  else match b.firstFail with
    | some s => railFail s b
    | none => modPwr (fun p => { p with settling := true }) b

/-- SEQUENCER_POWER_UP: every condition of R378 holds and the rails are raised; slots kept through a Dusk fall first (R384). -/
def sequencerPowerUp (b : Blk) : Blk :=
  if b.pwr.seq == .off && b.mayRaise && (b.pwr.stage == .dawn 1 || b.pwr.stage == .twilight) && !b.pwr.sysRst then
    let b := if b.pwr.en != 0 then startLower .beforeRaise 0 b else beginRaise 1 b
    d1Done (checkGroup b)
  else b

/-- SEQ_PG_RISE: the filtered power-good of an enabled slot without NO_PG rises (R374). -/
def seqPgRise (n : Nat) (b : Blk) : Blk :=
  if b.railSlots.contains n && !(b.rail n).noPg then checkGroup (modPwr (fun p => { p with pg := setBit p.pg n }) b) else b

/-- PG_TIMEOUT: a slot of the group being raised has waited its PG_TIMEOUT (R375). -/
def pgTimeout (n : Nat) (b : Blk) : Blk :=
  if b.pwr.seq == .raising && !b.pwr.settling && (b.groupOf b.raiseSlots b.pwr.group).contains n && ((b.rail n).noPg || !b.pwr.pg.testBit n) then
    checkGroup (modPwr (fun p => { p with waited := setBit p.waited n }) b)
  else b

/-- SETTLE_DONE: the next group is raised, or the sequence is up (R375). -/
def settleDone (b : Blk) : Blk :=
  if b.pwr.seq == .raising && b.pwr.settling then
    match b.nextOrder b.raiseSlots (some b.pwr.group) with
    | some o => checkGroup (raiseGroup o b)
    | none => d1Done (modPwr (fun p => { p with seq := .on, settling := false }) b)
  else b

/-! ### Lowering (R377), and the loss of a rail (R380, R503) -/

/-- An enabled slot's power-good falls with the rails up (R380, R503). -/
def pgLostAt (n : Nat) (b : Blk) : Blk :=
  let b := setErr .psq 2 (powRecord .pgLost { slot := n, stage := b.stageNo } (modPwr (fun p => { p with pgLost := true }) b))
  let b := assertPin 84 psqLoc b
  if b.inDusk then cutRails b
  else match b.pwr.stage with
    | .dawn 7 => trigger false true b
    | .service => trigger false true b
    | .dawn s => failDawn s .pgLost n b
    | _ => b

/-- SEQ_PG_FALL: a slot has discharged, or has been lost (R374, R377, R380). -/
def seqPgFall (n : Nat) (b : Blk) : Blk :=
  if !(b.railSlots.contains n) || (b.rail n).noPg || !b.pwr.pg.testBit n then b
  else
    let b := modPwr (fun p => { p with pg := clearBit p.pg n }) b
    match b.pwr.seq with
    | .lowering => lowerWhile 17 b
    | .on => if b.railEn n then pgLostAt n b else b
    | _ => b

/-- DISCHARGE_TIMEOUT: a slot of the group being lowered has waited its DISCHARGE_TIMEOUT (R377). -/
def dischargeTimeout (n : Nat) (b : Blk) : Blk :=
  if b.pwr.seq == .lowering && b.lowering.contains n && !b.pwr.lowered.testBit n then
    let slow := !(b.rail n).noPg && b.pwr.pg.testBit n
    let b := if slow then setErr .psq 1 (powRecord .dischargeSlow { slot := n } b) else b
    lowerWhile 17 (modPwr (fun p => { p with lowered := setBit p.lowered n }) b)
  else b

/-- MIN_OFF_END: the minimum off time ends; a failed attempt is followed by the next (R375, R378). -/
def minOffEnd (b : Blk) : Blk :=
  if b.pwr.seq != .minOff then b
  else if b.pwr.lowerWhy == .retry && (b.pwr.stage == .dawn 1 || b.pwr.stage == .twilight) then d1Done (checkGroup (beginRaise (b.pwr.attempt + 1) b))
  else modPwr (fun p => { p with seq := .off }) b

/-! ### PSQ_CMD (R386, R396, Table 14-10) -/

/-- Commands are refused from the Dusk trigger until the rails are down. -/
def psqCmd (f : Blk → Blk) (b : Blk) : Blk := if b.inDusk then setErr .psq 6 b else f b

/-- ON clears HOLD_OFF. -/
def psqOn (b : Blk) : Blk := psqCmd (fun b => noteOn b (modPwr (fun p => { p with holdOff := false }) b)) b

/-- OFF sets HOLD_OFF and fires the Dusk trigger from D7, or is an off request before it. -/
def psqOff (b : Blk) : Blk := psqCmd (fun b => duskOrOff false true (setHoldOff b)) b

/-- CYCLE fires the Dusk trigger from D7, or is an off request before it. -/
def psqCycle (b : Blk) : Blk := psqCmd (fun b => duskOrOff false true b) b

/-- DAWN_RETRY leaves Twilight; outside it, CMD_ERR. -/
def psqDawnRetry (b : Blk) : Blk := psqCmd (fun b => if b.pwr.stage == .twilight then exitTwilight 1 b else setErr .psq 6 b) b

/-- Any other OP sets CMD_ERR. -/
def psqBadOp (b : Blk) : Blk := setErr .psq 6 b

/-! ### Stages -/

/-- Stage n of the Dawn is in progress with the rails up. -/
def Blk.atStage (b : Blk) (n : Nat) : Bool := b.pwr.stage == .dawn n && b.pwr.seq == .on && !b.pwr.sysRst && !b.inDusk

/-- STAGE_TIMEOUT: the stage in progress overruns its limit; D1 has none (R387). -/
def stageTimeout (b : Blk) : Blk :=
  match b.pwr.stage with
  | .dawn 0 => if b.pwr.sysRst || b.pwr.seq == .lowering || b.pwr.seq == .minOff then b else failDawn 0 .stageTimeout 0 b
  | .dawn n => if n != 1 && b.atStage n then failDawn n .stageTimeout n b else b
  | _ => b

end Sys2Proof.Machine
end

