-- ==== Sys2Proof/Machine/Faults.lean ====
section
/-!
DEFINITION. Effects of the fault collector's, the Logbook's, the Almanac's and the eFlash's commands (R410 to R440).
-/
namespace Sys2Proof.Machine
open Sys2Proof

/-! ### The fault collector (R411, R412) -/

/-- ERROR_PIN_ASSERT: a block asserts its pin (R411). -/
def errorPinAssert (pin : Nat) (loc : W64) (b : Blk) : Blk := if pin ≤ 90 then assertPin pin loc b else b

/-- Pins that the model knows to stay asserted: those of frozen channels, and of Halo while its fatal steps run (R132, R160). -/
def Blk.pinsHigh (b : Blk) : List (Nat × W64) :=
  (b.dram.chans.filterMap (fun (e : Nat × Chan) =>
    if e.2.state = .frozen then
      some (e.1, if e.2.failCa then faultLoc (chanDie e.1) (e.1 % 8) 0 2 0xFFFFFF 0xFFF else faultSlice (chanDie e.1) (e.1 % 8) 1)
    else none)) ++ b.halo.fatalPins

/-- FLT_STATUS_CLEAR: bits written 1 clear, and those whose pins stay asserted latch again as new latches (R412); `more` names pins of other
blocks that stay asserted, with their locations. See assumption 112 (DESIGN CHOICE). -/
def fltStatusClear (mask : BitVec 128) (more : List (Nat × W64)) (b : Blk) : Blk :=
  let hit := b.flt.status &&& mask
  let again := ((b.pinsHigh ++ more).filter (fun (x : Nat × W64) => hit.getLsbD x.1))
  let b := { b with flt := { b.flt with status := b.flt.status &&& ~~~mask } }
  again.foldl (fun b x => assertPin x.1 x.2 b) b

/-- FLT_FIRST_REARM: VALID and OVERFLOW clear together (R412). -/
def fltFirstRearm (b : Blk) : Blk := { b with flt := { b.flt with firstValid := false, overflow := false } }

/-! ### The Logbook (R415 to R420) -/

/-- The next usable window sector after one, in ring order: not the spare and not skipped (R415). -/
def Logbook.next (l : Logbook) (from' : Nat) : Nat :=
  (((List.range 255).map (fun k => (from' + 1 + k) % 256)).find? (fun s => s != l.spare && !l.skipped.contains s)).getD from'

/-- Change the Logbook. -/
def modLog (f : Logbook → Logbook) (b : Blk) : Blk := { b with logbook := f b.logbook }

/-- A Logbook sector is to be erased, which discards its records. -/
def eraseLogSector (s : Nat) (b : Blk) : Blk := addJob (.erase (576 + s)) b

/-- The window moves one position: the sector that follows the spare is copied into it and becomes the spare (R415). -/
def moveWindow (b : Blk) : Blk :=
  let l := b.logbook
  let src := (l.spare + 1) % 256
  if src = l.head then modLog (fun l => { l with moveWaits := true }) b
  else
    let moved := (l.recs.filter (fun (e : Nat × LogRec) => e.1 / 512 == src)).map (fun (e : Nat × LogRec) => (512 * l.spare + e.1 % 512, e.2))
    let b := modLog (fun l => { l with recs := moved.foldl (fun m x => SMap.insert m x.1 x.2) l.recs }) b
    let b := eraseLogSector src (modLog (fun l => { l with spare := src, moveWaits := false, erases := 0, aheadErased := l.aheadErased || l.next l.head == src }) b)
    logRecord 0x1303 {} b

/-- The 509 records of a sector as stored; a position without a record reads all ones. -/
def Logbook.sectorBytes (l : Logbook) (s : Nat) : List Byte :=
  (List.range 509).flatMap (fun i => match SMap.find? l.recs (512 * s + i) with | some r => r.bytes | none => List.replicate 64 0xFF)

/-- Positions 509 to 511 of the head's sector receive the SEAL records (R420). -/
def sealSector (b : Blk) : Blk :=
  let l := b.logbook
  let prev := if l.lastSeal.isEmpty then List.replicate 114 0 else l.lastSeal
  let msg := ascii "TXA-9480 LOGBOOK v1" ++ b.ident.unitId ++ prev ++ l.sectorBytes l.head
  let key := b.ident.fuse.identityKey
  let sig := match key with | some k => (Config.ed448Sign k (Config.shake256 64 msg)).take 114 | none => List.replicate 114 0
  let part := fun (i : Nat) => ({ seq := l.nextSeq + i, type := 0x1300, sealPart := some (i, (sig.drop (48 * i)).take 48) } : LogRec)
  let recs := (List.range 3).foldl (fun m i => SMap.insert m (512 * l.head + 509 + i) (part i)) l.recs
  modLog (fun l => { l with recs := recs, nextSeq := l.nextSeq + 3, lastSeal := sig, unsealed := key.isNone }) b

/-- The head enters the erased sector ahead, and the next one's erase begins; every 64 such erases the window moves (R415). -/
def enterSector (b : Blk) : Blk :=
  let n := b.logbook.next b.logbook.head
  let b := modLog (fun l => { l with head := n, headPos := 0, aheadErased := false }) b
  let b := if b.logbook.moveWaits && !b.inDusk then moveWindow b else b
  let b := eraseLogSector (b.logbook.next n) b
  let b := modLog (fun l => { l with erases := l.erases + 1 }) b
  if 64 ≤ b.logbook.erases && !b.inDusk then moveWindow b else b

/-- A sector that cannot be used: the window passes over it (R415). -/
def skipSector (s : Nat) (b : Blk) : Blk :=
  setErr .log 2 (modLog (fun l => { l with skipped := if l.skipped.contains s then l.skipped else l.skipped ++ [s] }) b)

/-- The oldest buffered record is programmed at the head (R419). -/
def programRecord (b : Blk) : Blk :=
  match b.logbook.buf with
  | [] => b
  | r :: rest =>
    if !b.logbook.takes then { b with efl := { b.efl with jobs := b.efl.jobs ++ [.logRecord] } }
    else
    let b := if 509 ≤ b.logbook.headPos && b.logbook.aheadErased then enterSector b else b
    let b := modLog (fun l => { l with recs := SMap.insert l.recs (512 * l.head + l.headPos) r, buf := rest, headPos := l.headPos + 1 }) b
    if b.logbook.headPos = 509 then sealSector b else b

/-- LOGBOOK_SECOND: the local second ends; each suppressed TYPE has its SUPPRESSED record (R418). Local time stands at the next second. -/
def logbookSecond (b : Blk) : Blk :=
  let sup := b.logbook.suppressed
  let b := modLog (fun l => { l with perSecond := [], suppressed := [] }) { b with cyc := (b.cyc / 10 ^ 8 + 1) * 10 ^ 8 }
  sup.foldl (fun b (e : Nat × Nat) => setErr .log 1 (logRecord 0x1301 { kind := .perType, detail := natLe 2 e.1 ++ [0, 0] ++ natLe 4 e.2 } b)) b

/-! ### The Almanac (R423 to R430) -/

/-- Change the Almanac. -/
def modAlm (f : Almanac → Almanac) (b : Blk) : Blk := { b with alm := f b.alm }

/-- ALMANAC_SAMPLE: a sample or events of a metric (R425). -/
def almanacSample (m i : Nat) (v : Int) (b : Blk) : Blk := feedMetric m i v b

/-- The epoch at which the current interval of a slot ends: INTERVAL epochs after the one it began in (R425, Table 3-5). -/
def Blk.intervalEnd (b : Blk) (slot : Nat) (r : AlmRec) : Nat := SMap.get 0 b.alm.begun slot + r.interval

/-- ALMANAC_INTERVAL: the interval of a RATE record ends once its INTERVAL epochs have passed; MIN and MAX take the completed interval's count,
but those of an interval that ends during a freeze (R425, R427). -/
def almanacInterval (slot : Nat) (b : Blk) : Blk :=
  match SMap.find? b.alm.recs slot with
  | some r =>
    if !r.rate || decide (b.epoch < b.intervalEnd slot r) then b
    else
      let b := modAlm (fun a => { a with begun := SMap.insert a.begun slot (SMap.get 0 a.begun slot + r.interval) }) b
      let n := (r.current + 1) % 32
      let v : Int := (SMap.get 0 r.bins r.current : Nat)
      let r' : AlmRec := { r with seq := r.seq + 1, current := n, bins := SMap.erase r.bins n }
      let r' := if b.alm.frozen then r'
        else { r' with min := some (match r.min with | some m => Min.min m v | none => v), max := some (match r.max with | some m => Max.max m v | none => v) }
      modAlm (fun a => { a with recs := SMap.insert a.recs slot r' }) b
  | none => b

/-- A record as its Chart entry configures it, empty. -/
def almFresh (e : AlmEntry) (b : Blk) : AlmRec :=
  { metric := e.metric, inst := e.inst, rate := e.rate, log2 := e.log2, low := e.low, width := e.width, interval := e.interval,
    hours := b.pwr.boot.hours, cycles := b.pwr.boot.cycles }

/-- A record keeps to its entry. -/
def AlmRec.matches (r : AlmRec) (e : AlmEntry) : Bool :=
  r.metric == e.metric && r.inst == e.inst && r.rate == e.rate && r.log2 == e.log2 && r.low == e.low && r.width == e.width && r.interval == e.interval

/-- Records follow the ALMANAC section: a slot whose entry has not changed keeps its record, the others are empty and their first interval begins
with the current epoch (R428). See assumption 150 (DESIGN CHOICE). -/
def configAlmanac (es : List AlmEntry) (b : Blk) : Blk :=
  let one := fun (m : SMap AlmRec) (e : AlmEntry) =>
    let r := SMap.get AlmRec.empty b.alm.recs e.slot
    SMap.insert m e.slot (if r.matches e then r else almFresh e b)
  let since := fun (m : SMap Nat) (e : AlmEntry) =>
    let kept := if (SMap.get AlmRec.empty b.alm.recs e.slot).matches e then SMap.find? b.alm.begun e.slot else none
    SMap.insert m e.slot (kept.getD b.epoch)
  modAlm (fun a => { a with recs := es.foldl one [], begun := es.foldl since [] }) b

/-- An image is to be written (R430). -/
def storeImage (cause : Nat) (b : Blk) : Blk :=
  addJob (.almImage cause) (modAlm (fun a => { a with storing := match a.storing with | some c => some c | none => some cause }) b)

/-- The CAUSE of the image that is written next, when one waits. -/
def Blk.nextImage (b : Blk) : Option Nat := b.efl.jobs.findSome? (fun j => match j with | .almImage c => some c | _ => none)

/-- ALMANAC_HOURLY: an image every hour of operation, after the end of a freeze that runs (R427, R430). -/
def almanacHourly (b : Blk) : Blk :=
  if b.inDusk then b else if b.alm.frozen then modAlm (fun a => { a with hourlyDue := true }) b else storeImage 0 b

/-- A freeze ends; the hourly image that fell due is written (R427). -/
def unfreeze (b : Blk) : Blk :=
  let due := b.alm.frozen && b.alm.hourlyDue
  let b := modAlm (fun a => { a with frozen := false, hourlyDue := false }) b
  if due then storeImage 0 b else b

/-- FREEZE: ALM_CTRL.FREEZE is set or cleared (R427). -/
def almFreeze (on : Bool) (b : Blk) : Blk := if on then modAlm (fun a => { a with frozen := true }) b else unfreeze b

/-- FREEZE_EXPIRE: FREEZE_MAX_MS ends the freeze (R427). -/
def freezeExpire (b : Blk) : Blk := if b.alm.frozen then setErr .alm 0 (unfreeze b) else b

/-- STORE: an image now (R430); refused while an image is being written (Table 18-4, BUSY). -/
def almStore (b : Blk) : Blk := if b.alm.storing.isSome then b else storeImage 2 b

/-- CLEAR: every record and counter, refused during a freeze (R427). -/
def almClear (b : Blk) : Blk :=
  if b.alm.frozen then b
  else
    let clear := fun (_ : Nat) (r : AlmRec) =>
      { r with seq := r.seq + 1, current := 0, samples := 0, min := none, max := none, bins := [], hours := b.pwr.boot.hours, cycles := b.pwr.boot.cycles }
    modAlm (fun a => { a with recs := SMap.mapVal a.recs clear, events := [] }) b

/-- An image has been written into the next erased slot; two slots stay erased ahead (R430). -/
def imageDone (cause : Nat) (b : Blk) : Blk :=
  let a := b.alm
  let n := (a.slot + 1 + a.used) % 32
  let im : AlmImage := { seq := a.imageSeq + 1, hours := b.pwr.boot.hours, cycles := b.pwr.boot.cycles, cause := cause, dropped := a.dropped, events := a.events, recs := a.recs }
  let b := modAlm (fun a => { a with images := SMap.insert a.images n im, slot := n, used := 0, imageSeq := im.seq, storing := b.nextImage }) b
  let b := logEvent 12 {} b
  (List.range 4).foldl (fun b i => addJob (.erase (832 + 4 * ((n + 2) % 32) + i)) b) b

/-- The image with the highest IMAGE_SEQ is loaded at D0; with none, recording starts from empty records (R430). See assumption 74 (DEDUCED). -/
def loadAlmanac (b : Blk) : Blk :=
  match b.alm.images with
  | [] => setErr .alm 2 (modAlm (fun a => { a with recs := [], begun := [], events := [], dropped := 0, imageSeq := 0, storing := none }) b)
  | e :: rest =>
    let best := rest.foldl (fun (x y : Nat × AlmImage) => if x.2.seq < y.2.seq then y else x) e
    modAlm (fun a => { a with recs := best.2.recs, begun := [], events := best.2.events, dropped := best.2.dropped, imageSeq := best.2.seq, slot := best.1, storing := none }) b

/-! ### The eFlash's commands -/

/-- The cipher slot records as the slots stand; the Dusk's are closed (R343). -/
def recordKeys (b : Blk) : Blk :=
  let recs := b.cph.slots.foldl (fun (m : SMap KeyRecord) (e : Nat × KeySlot) =>
    SMap.put KeyRecord.none m e.1 { floor := e.2.floor, count := e.2.count, check := e.2.check }) b.cph.records
  { b with cph := { b.cph with records := recs, closed := b.cph.closed || b.inDusk } }

/-- What a completed program leaves, but for Chart slots and firmware (R419, R430, R343). -/
def jobEffect (j : EflJob) (b : Blk) : Blk :=
  match j with
  | .logRecord => programRecord b
  | .almImage c => imageDone c b
  | .keyRecords => recordKeys b
  | _ => b

/-- A program fails to verify (Table 16-12): the sector of a Logbook record is passed over and the record tried again in the next, an image is
given up. -/
def jobFails (j : EflJob) (b : Blk) : Blk :=
  let b := setErrLog .efl 4 {} b
  match j with
  | .logRecord =>
    let b := skipSector b.logbook.head b
    let b := if b.logbook.aheadErased then enterSector b else modLog (fun l => { l with headPos := 512 }) b
    addJob .logRecord b
  | .almImage _ => setErr .alm 1 (modAlm (fun a => { a with used := a.used + 1, storing := b.nextImage }) b)
  | .keyRecords => addJob .keyRecords b
  | .bootRecord => addJob .bootRecord b
  | _ => b

/-- EFLASH_ERASE_DONE: the sector under erase is erased and its information word with it, or its erase has failed to verify; `us` is the time it
took (R415, R434, R436). -/
def eflashEraseDone (us : Nat) (ok : Bool) (b : Blk) : Blk :=
  match b.efl.cur with
  | some (.erase s) =>
    let b := feedMetric 11 0 us b
    let inLog := decide (576 ≤ s) && decide (s < 832)
    let b := if ok then
        let b := { b with efl := { b.efl with begun := b.efl.begun.filter (· != s), erases := sat32 b.efl.erases } }
        let b := if b.efl.redo.contains s then
            logEvent 13 { kind := .perType, detail := natLe 2 s } (setErr .efl 3 { b with efl := { b.efl with redo := b.efl.redo.filter (· != s) } })
          else b
        if inLog then modLog (fun l => { l with skipped := l.skipped.filter (· != s - 576), aheadErased := l.aheadErased || l.next l.head == s - 576 }) b else b
      else
        let b := setErrLog .efl 5 { kind := .perType, detail := natLe 2 s } b
        if inLog then
          let wasNext := b.logbook.next b.logbook.head == s - 576
          let b := skipSector (s - 576) b
          if wasNext then eraseLogSector (b.logbook.next b.logbook.head) b else b
        else b
    let b := match b.mgt.update with
      | .erasing n =>
        if 512 ≤ s then b
        else if n ≤ 1 then send (.firmwareRequest 0 (Nat.min 4096 b.mgt.updateSize)) { b with mgt := { b.mgt with update := .receiving } }
        else { b with mgt := { b.mgt with update := .erasing (n - 1) } }
      | _ => b
    jobEnds b
  | _ => b

/-- EFLASH_SUSPEND: an erase may be suspended at any time and as often as firmware likes (R434). -/
def eflashSuspend (b : Blk) : Blk :=
  match b.efl.cur with
  | some (.erase s) => jobEnds { b with efl := { b.efl with susp := some s, suspends := sat32 b.efl.suspends } }
  | _ => b

/-- EFLASH_RESUME: the suspended erase goes on, at once or after the program under way; a suspended erase stays suspended through a Dusk
(R434, Table 7-3). -/
def eflashResume (b : Blk) : Blk :=
  match b.efl.susp with
  | some s =>
    if b.inDusk then b
    else
      let b := { b with efl := { b.efl with susp := none } }
      pickJob { b with efl := { b.efl with jobs := .erase s :: b.efl.jobs } }
  | none => b

end Sys2Proof.Machine
end

