-- ==== Sys2Proof/Machine/Dawn.lean ====
section
/-!
DEFINITION. The Dawn stages D0 to D7 (R387 to R390 and the rules that Table 14-5 names). D1 is the sequencer's (Power.lean).
-/
namespace Sys2Proof.Machine
open Sys2Proof

/-! ### D0 -/

/-- D0 may begin: after a power-on or system reset, or from the rails' being down once the conditions of R378 hold. -/
def Blk.mayD0 (b : Blk) : Bool :=
  !b.pwr.sysRst && !b.inDusk &&
  ((b.pwr.stage == .dawn 0 && b.pwr.seq != .lowering && b.pwr.seq != .minOff) || (b.pwr.stage == .down && b.pwr.seq == .off && b.mayRaise))

/-- What a validation reads besides the Chart, without and with the population. -/
def Blk.checkEnv (b : Blk) (pop : Population) : CheckEnv :=
  { ownerKey := b.ownerKey, floor := b.cht.slotRec.floor, fwVersion := (b.mgt.running.map (fun (x : Running) => x.version)).getD 0, unitId := b.ident.unitId, pop := pop }

/-- The staged slot, the one that is not active (R50). -/
def Blk.stagedSlot (b : Blk) : Nat := 1 - b.cht.slotRec.active

/-- Bytes of a Chart slot. -/
def Blk.slotBytes (b : Blk) (n : Nat) : List Byte := SMap.get [] b.cht.slots n

/-- POWER_SEQUENCE before D1 (R53 step 1): the pending staged slot's, else the active slot's, else the default. -/
def Blk.choosePower (b : Blk) : PowerCfg :=
  let tryIt := fun (n : Nat) =>
    match checkEnvelope (b.checkEnv {}) (b.slotBytes n) with
    | .inl ss => some ((parseText (b.slotBytes n) ss).power.getD {})
    | .inr _ => none
  let list := (if b.cht.slotRec.pending then [b.stagedSlot] else []) ++ [b.cht.slotRec.active]
  (list.findSome? tryIt).getD {}

/-- The records of D0: an earlier Dawn without an end counts as HUNG (R388). See assumption 75 (DEDUCED). -/
def noteHung (b : Blk) : Blk :=
  match b.pwr.boot.dawnOpen with
  | some s => setErr .psq 5 (recordFail 0 .hung s (endDawn (.failed 0 .hung) b))
  | none => b

/-- Fuses at D0 (R356, R367): the fields are read, lagging life-cycle copies are blown forward, and a RETURN that has begun goes on. -/
def d0Fuses (otp : Otp) (r : FuseRun) (b : Blk) : Blk :=
  let b := modId (fun i => { i with fuse := otp, loaded := true }) b
  let b := if otp.mismatch then setErr .lcs 0 b else b
  let todo := if otp.returning && decide (otp.lcBits < 3) then otp.secretBits ++ otp.lcForward 3 else otp.lcForward otp.lcBits
  loadIdentity (if todo.isEmpty then b else burnBits todo r b)

/-- The MERIDIAN body in force after a power-on reset (R501). -/
def d0Meridian (b : Blk) : Blk :=
  if b.mer.holdAtFloor then
    let body := b.pwr.boot.meridian.getD {}
    modMer (fun m => { m with body := body, holdAtFloor := false, state := if body.source = 2 then .deadReckoning else m.state }) b
  else b

/-- Records lost since the last Dawn have their LOST record (R419). -/
def noteLost (b : Blk) : Blk :=
  let n := b.logbook.dropped
  if n = 0 then b
  else
    let b := modLog (fun l => { l with dropped := 0, lost := sat32Add l.lost n }) b
    setErr .log 0 (logRecord 0x1302 { kind := .perType, detail := natLe 4 n } b)

/-- D0 begins: after the rails have been down the system reset of R391 comes first, and a power cycle is counted (R383). -/
def d0Begin (b : Blk) : Blk :=
  let down := b.pwr.boot.railsWentDown
  let b := if down then systemReset b else b
  modPwr (fun p => { p with
    stage := .dawn 0, twilight := false, pgLost := false, noResume := false, stageUs := [], stageStart := b.us, warmKeep := false,
    boot := { p.boot with railsWentDown := false, cycles := if down then p.boot.cycles + 1 else p.boot.cycles, warm := if down then none else p.boot.warm } }) b

/-- What D0 restores from the boot records and the eFlash: permissions, endpoint ID, erases to repeat (R436), lost records (R419), the Almanac,
and the POWER_SEQUENCE body. -/
def d0Records (b : Blk) : Blk :=
  let b := { b with mgt := { b.mgt with permit := b.mgt.savedPermit, eid := b.mgt.savedEid }, therm := { b.therm with disarmed := false } }
  let b := { b with efl := { b.efl with begunAtD0 := b.efl.begun.length, redo := b.efl.begun } }
  let b := (b.efl.redo.filter (fun s => decide (576 ≤ s) && decide (s < 832))).foldl (fun b s => skipSector (s - 576) b) b
  let b := b.efl.redo.foldl (fun b s => addJob (.erase s) b) b
  let b := noteLost (loadAlmanac b)
  modPwr (fun p => { p with body := b.choosePower }) b

/-- D0 ends: Twilight when DAWN_LIMIT Dawns have failed, else D1, or D2 with the rails up (R389, R391). -/
def d0End (b : Blk) : Blk :=
  if b.dawnLimit ≤ b.pwr.boot.failed then enterTwilight b
  else
    let b := addJob .bootRecord (modPwr (fun p => { p with boot := { p.boot with dawnOpen := some 0 } }) b)
    stageDone 0 (if b.pwr.seq == .on then 2 else 1) b

/-- DAWN_D0: the supervisor boots, after a system reset where the rails have been down (R391); `eflashOk` says that the boot records can be
read (R387, R388, R394). See assumption 77 (DEDUCED). -/
def dawnD0 (otp : Otp) (eflashOk : Bool) (r : FuseRun) (b : Blk) : Blk :=
  if !b.mayD0 then b
  else
    let b := d0Begin b
    if !eflashOk then failDawn 0 .eflash 0 b
    else
      let b := d0Meridian (modMer (fun m => { m with waitDone := false, runsSinceDawn := 0 }) (d0Fuses otp r (noteHung b)))
      let cut := match r with | .cut _ => b.ident.fuse.lcBits != b.ident.fuse.lc0.toNat || b.ident.fuse.returning | _ => false
      if cut && b.ident.burn != Otp.blank then b else d0End (d0Records b)

/-! ### D2 (R361, R469 to R471) -/

/-- Check a bank's contents (R361, R469, R470); `bad` says that a read of it was uncorrectable. -/
def checkBank (o : Otp) (bad : Bool) (m : List Byte) : BankResult :=
  let i := uAt m 6 1; let svn := uAt m 7 1; let sl := uAt m 0xC 4; let cl := uAt m 0x10 4
  let core := 0x400 + ceilDiv sl 1024 * 1024
  if bad then .read
  else if uAt m 0 4 != 0x4D524946 then .empty
  else if uAt m 4 2 != 1 || decide (3 < i) || decide (64 < svn) || decide (2 ^ 23 < core + cl) || decide (m.length < core + cl) ||
      Config.shake256 64 ((m.drop 0x400).take sl) != (m.drop 0x20).take 64 || Config.shake256 64 ((m.drop core).take cl) != (m.drop 0x60).take 64 then .format
  else if Config.shake256 64 ((m.drop 0xA0).take 228) != Config.shake256 64 Config.treldexKeys then .keys
  else if o.revoke.getLsbD i then .revoked
  else if !Config.ed448Verify (((m.drop 0xA0).drop (57 * i)).take 57) (Config.shake256 64 (m.take 0x190)) ((m.drop 0x190).take 114) then .signature
  else if svn < o.svn then .rollback
  else .ok

/-- Bytes of a firmware bank. -/
def Blk.bank (b : Blk) (n : Nat) : List Byte := SMap.get [] b.mgt.banks n

/-- MGT_BANKA or MGT_BANKB after a check. -/
def Blk.bankInfo (b : Blk) (n : Nat) (bad : Bool) : BankInfo :=
  { version := uAt (b.bank n) 8 4, svn := uAt (b.bank n) 7 1, result := checkBank b.ident.fuse bad (b.bank n) }

/-- A bank is read with a sector of it in the erase-begun state (R435). -/
def noteBegun (n : Nat) (b : Blk) : Blk := if b.efl.begun.any (fun s => s / 256 == n) then setErr .efl 0 b else b

/-- The firmware of a bank runs. -/
def loadBank (n : Nat) (b : Blk) : Blk :=
  let m := b.bank n
  { b with mgt := { b.mgt with running := some { version := uAt m 8 4, svn := uAt m 7 1, bank := n, supDigest := (m.drop 0x20).take 64, coreDigest := (m.drop 0x60).take 64 } } }

/-- DAWN_D2: the active bank, else the other, is loaded (R471); `badA` and `badB` say that a bank could not be read, `coresOk` that the management
cores report running within 2 s (Table 14-7). -/
def dawnD2 (badA badB coresOk : Bool) (b : Blk) : Blk :=
  if !b.atStage 2 then b
  else
    let ia := b.bankInfo 0 badA; let ib := b.bankInfo 1 badB
    let b := { b with mgt := { b.mgt with infoA := ia, infoB := ib, pendingReset := false } }
    let b := if badA || badB then setErr .efl 2 b else b
    let b := noteBegun 0 (noteBegun 1 b)
    let ok := fun (n : Nat) => (if n = 0 then ia.result else ib.result) == BankResult.ok
    let a := b.mgt.active
    if ok a || ok (1 - a) then
      let b := if ok a then b else addJob .bootRecord { b with mgt := { b.mgt with active := 1 - a, trial := false } }
      let b := loadBank b.mgt.active b
      if coresOk then stageDone 2 3 b else failDawn 2 .cores 0 b
    else failDawn 2 .firmware (ia.result.code + 256 * ib.result.code) b

/-! ### D3 (R53, R54, R338, R343, R369, R501) -/

/-- Reasons of checks over several fields or none: the spec does not say which field FAULT_OFFSET then names, a free value (assumption 17). -/
def Reason.manyFields : Reason → Bool
  | .sum => true | .population => true | .dawnOnly => true | .inUse => true | .busy => true | .twinMismatch => true | .mediaChart => true
  | .none => false | .magic => false | .version => false | .length => false | .sectionFormat => false | .ownerKey => false | .signature => false
  | .rollback => false | .target => false | .topology => false | .resource => false

/-- A Chart is rejected: the reason is recorded with its place (Table 2-9, R417). -/
def noteReject (r : Reason) (sect off : Nat) (b : Blk) : Blk :=
  let f := if r.manyFields then drawFree b else (off, b)
  let off := f.1 % 2 ^ 32; let b := f.2
  let b := { b with cht := { b.cht with reason := r, sect := sect, offset := off } }
  logRecord (0x1100 + r.code) { kind := .perType, loc := BitVec.ofNat 64 off, detail := natLe 2 sect } (countEvent 0x11 r.code b)

/-- A pending Chart fails between D3 and D5: its mark is cleared, and the Dawn goes on from D3 with the active Chart (R53 step 5). -/
def pendingFails (r : Reason) (sect off : Nat) (b : Blk) : Blk :=
  let b := noteReject r sect off b
  let b := { b with cht := { b.cht with slotRec := { b.cht.slotRec with seq := b.cht.slotRec.seq + 1, pending := false }, dawnPending := false,
                                        state := if b.cht.state = .pendingDawn then .idle else b.cht.state } }
  modPwr (fun p => { p with stage := .dawn 3, stageStart := b.us }) b

/-- The digests that the media carries: the home-image superblock's and every save header's (R54). -/
def Blk.mediaSigned (b : Blk) : Bool :=
  (let s := b.readSb false false; decide (0 < s.update) && s.digest != 0) || b.pers.gens.any (fun g => g.digest != 0)

/-- The applied Chart's MERIDIAN body comes into force and is recorded (R501, R502). A change between PINS and PTP keeps STATE as it is, and one from NONE
leaves it DEAD_RECKONING until the source is acquired (assumption 121, DESIGN CHOICE); MER_EPOCH_SEALED keeps its number when L changes, and sealing goes on
from it (assumption 122, DESIGN CHOICE). -/
def applyMeridian (m : MeridianCfg) (b : Blk) : Blk :=
  let b := modPwr (fun p => { p with boot := { p.boot with meridian := some m } }) b
  if b.mer.body = m then b
  else
    let b := modMer (fun x => { x with body := m, state := if m.source = 2 then .deadReckoning else x.state, drTicks := if m.source = 2 then 0 else x.drTicks,
                                       source := x.source && m.source != 2 }) b
    let b := modMer (fun x => { x with epoch := x.now }) b
    flagEpoch 2 b.epoch b

/-- Slot floors, counts and key checks from the boot records; a missing closing mark leaves the counts not clean (R343). -/
def loadKeyRecords (b : Blk) : Blk :=
  let slots := b.cph.records.foldl (fun (m : SMap KeySlot) (e : Nat × KeyRecord) =>
    SMap.put KeySlot.fresh m e.1 { floor := e.2.floor, count := e.2.count, check := e.2.check }) []
  let clean := b.cph.closed
  let b := modCph (fun c => { c with slots := slots, countsClean := clean, closed := false, kek := b.ident.fuse.kek }) b
  if clean then b else setErrLog .cph 5 {} b

/-- The Chart's structure is written (R53 step 2); where only the population decides bodies, D4 completes them. -/
def applyChart (c : Chart) (pending : Bool) (b : Blk) : Blk :=
  let isB := unitIsB c.topo b.ident.unitId
  let b := { b with cht := { b.cht with cur := c, mode := c.topo.mode, isB := isB, loaded := true, apply := none, dawnPending := pending } }
  let b := loadKeyRecords (configAlmanac c.alm.entries (applyMeridian c.meridian b))
  stageDone 3 4 (logEvent 9 {} b)

/-- DAWN_D3: the pending staged Chart or the active one is validated and applied, or the default Chart where the media allows it (R53, R54). -/
def dawnD3 (b : Blk) : Blk :=
  if !b.atStage 3 then b
  else if b.ident.lc = .returned then failDawn 3 .lifecycle 0 b
  else
    let pending := b.cht.slotRec.pending
    let n := if pending then b.stagedSlot else b.cht.slotRec.active
    match validate (b.checkEnv {}) (b.slotBytes n) false with
    | .ok c => applyChart c pending b
    | .bad r s o =>
      if pending then pendingFails r s o b
      else if b.mediaSigned then failDawn 3 .chart Reason.mediaChart.code (noteReject .mediaChart 0 0 b)
      else applyChart (defaultChart {} .solo false) false b

end Sys2Proof.Machine
end

