-- ==== Sys2Proof/Machine/DawnMedia.lean ====
section
/-!
DEFINITION. Dawn stages D4 and D5: the memories are found and trained, and presence, the maps and the journal are restored.
-/
namespace Sys2Proof.Machine
open Sys2Proof

/-! ### D4 (R136 to R139, R169, R204, R205, R392) -/

/-- The DIMMs of a channel with their slots. -/
def channelDimms (found : SMap DimmFound) (c : Nat) : List (Nat × DimmFound) :=
  ((List.range 2).filterMap (fun d => (SMap.find? found (2 * c + d)).map (fun x => (d, x))))

/-- Rates that a channel's DIMM count allows (Table 6-2). -/
def allowedRates (n : Nat) : Nat := if n = 1 then 0x3E else 0x0E

/-- Rates that every DIMM of a channel declares and its DIMM count allows. -/
def channelRates (ds : List (Nat × DimmFound)) : Nat := ds.foldl (fun m (x : Nat × DimmFound) => m &&& x.2.rates) (allowedRates ds.length)

/-- Why a channel is EXCLUDED: every DRM_CH_ERR bit that applies (R139). A channel whose hubs do not answer or whose organisation fails is not
trained, and a DIMM whose SPD cannot be read says nothing of its organisation. -/
def channelFaults (ds : List (Nat × DimmFound)) : List Nat :=
  let known := ds.filter (fun (x : Nat × DimmFound) => x.2.hubOk)
  let same := known.all (fun (x : Nat × DimmFound) => known.all (fun (y : Nat × DimmFound) => x.2.density == y.2.density && x.2.ranks == y.2.ranks))
  let org := known.all (fun (x : Nat × DimmFound) => x.2.orgOk && decide (x.2.density ≤ 2) && [1, 2, 4].contains x.2.ranks) && ds.any (fun (x : Nat × DimmFound) => x.1 == 0)
  let hub := ds.any (fun (x : Nat × DimmFound) => !x.2.hubOk)
  let bad := !same || !org || decide (known.foldl (fun m (x : Nat × DimmFound) => m &&& x.2.rates) (allowedRates ds.length) = 0)
  if hub || bad then (if hub then [6] else []) ++ (if bad then [9] else [])
  else if ds.any (fun (x : Nat × DimmFound) => !x.2.trains) then [5]
  else []

/-- GiB of a DIMM (Table 6-1). -/
def dimmGib (density ranks : Nat) : Nat := (if density = 0 then 32 else if density = 1 then 48 else 64) * ranks

/-- The highest rate that every channel not excluded for its hub or organisation allows (R138). -/
def commonRate (found : SMap DimmFound) : Nat :=
  let cs := (List.range 16).filter (fun c => let ds := channelDimms found c; !ds.isEmpty && !(channelFaults ds).contains 6 && !(channelFaults ds).contains 9)
  let m := if cs.isEmpty then 0 else cs.foldl (fun m c => m &&& channelRates (channelDimms found c)) 0x3E
  (((List.range 6).filter (fun k => m.testBit k)).getLast?).getD 0

/-- The latest save, when it has its completion mark. -/
def Blk.completeSave (b : Blk) : Option SaveGen :=
  (b.pers.gens.find? (fun g => g.gen == (b.readSb false false).nextGen && b.markOk g))

/-- DIMM 2c + d is retained-valid (R169). -/
def Blk.retainedValid (b : Blk) (n : Nat) (x : DimmFound) : Bool :=
  match b.completeSave with
  | some g => SMap.find? g.retained n == some ⟨x.serial, x.maker, x.date⟩ && x.pmicOk && x.rcdIgnore && b.dram.selfRefresh.testBit n && b.dram.rcdIgnore.testBit n && b.dram.pmicCleared.testBit n
  | none => false

/-- A channel trains, is EXCLUDED, or is absent (R139). -/
def trainChannel (found : SMap DimmFound) (c : Nat) (b : Blk) : Blk :=
  let ds := channelDimms found c
  let old := b.chan c
  let base : Chan := { ce := old.ce, cap := old.cap }
  match ds with
  | [] => modChan c (fun _ => base) b
  | (_, x0) :: _ =>
    let x := (((ds.find? (fun (z : Nat × DimmFound) => z.2.hubOk)).map (fun (z : Nat × DimmFound) => z.2))).getD { x0 with ranks := 1, density := 0 }
    let y : Chan := { base with dimms := ds.length, ranks := x.ranks, density := x.density, ids := ds.map (fun (z : Nat × DimmFound) => ⟨z.2.serial, z.2.maker, z.2.date⟩) }
    match channelFaults ds with
    | bit :: more =>
      (bit :: more).foldl (fun b n => setErrLog (.drm c) n { kind := .dramMedia, loc := chanLoc c } b) (modChan c (fun _ => { y with state := .excluded }) b)
    | [] =>
      let kept := ds.all (fun (z : Nat × DimmFound) => b.retainedValid (2 * c + z.1) z.2)
      modChan c (fun _ => { y with state := .ready, capGib := ds.length * dimmGib x.density x.ranks, retained := kept,
                                   marks := SMap.get [] b.pwr.boot.marks c }) b

/-- DIMMs listed as retained that are not retained-valid are logged (R461); no rule gives the record's code in group 0x12, a free value (assumption 16). -/
def noteUnretained (found : SMap DimmFound) (b : Blk) : Blk :=
  match b.completeSave with
  | none => b
  | some g => g.retained.foldl (fun b (e : Nat × DimmId) =>
      let bad := match SMap.find? found e.1 with | some x => !b.retainedValid e.1 x | none => true
      if bad then
        let f := drawFree b
        logRecord (0x1200 + f.1 % 256) { kind := .dramMedia, loc := dimmLoc (e.1 / 2) (e.1 % 2) } f.2
      else b) b

/-- The population as it stands (R49). -/
def Blk.population (b : Blk) : Population :=
  let dies := b.nvf.dies.filter (fun (e : Nat × Die) => e.2.state != .absent && e.2.state != .excluded)
  { chans := (b.dram.chans.filter (fun (e : Nat × Chan) => e.2.state == .ready || e.2.state == .frozen)).map (fun (e : Nat × Chan) => (e.1, e.2.capGib)),
    dies := dies.map (fun (e : Nat × Die) => e.1), pagesPerBlock := ((dies.head?).map (fun (e : Nat × Die) => e.2.pagesPerBlock)).getD 0,
    goodBlocks := dies.map (fun (e : Nat × Die) => (e.1, e.2.good)) }

/-- Dies of a channel in ascending (chip enable, LUN) order, with their rank k (R205). -/
def channelDies (found : List DieFound) (c : Nat) : List (DieFound × Nat) :=
  (sortBy (fun (x y : DieFound) => decide (x.lun ≤ y.lun)) (found.filter (fun x => x.channel == c))).zipIdx

/-- A die as such is fit to be a member (R204, R205). -/
def DieFound.fit (x : DieFound) : Bool := x.paramsOk && x.labelOk && x.pageSize == 16384 && decide (2048 ≤ x.spareBytes) && (x.planes == 2 || x.planes == 4)

/-- A die has the layout of another. -/
def DieFound.like (x y : DieFound) : Bool := x.pageSize == y.pageSize && x.pagesPerBlock == y.pagesPerBlock && x.planes == y.planes && x.blocks == y.blocks

/-- Place the dies (R205): numbers, exclusions with their cause, members by the mask; `all` makes every fit die a member (the default Chart). -/
def placeDies (found : List DieFound) (members : Nat) (all : Bool) (b : Blk) : Blk :=
  let ds := (List.range 16).flatMap (fun c => (channelDies found c).map (fun (x : DieFound × Nat) => (16 * c + x.2, x.2, x.1)))
  let ranked := ds.filter (fun (x : Nat × Nat × DieFound) => decide (x.2.1 < 16))
  let member := fun (g : Nat) => all || members.testBit g
  let gMin := ranked.find? (fun (x : Nat × Nat × DieFound) => member x.1 && x.2.2.fit)
  let ok := fun (x : DieFound) => x.fit && (match gMin with | some y => x.like y.2.2 | none => true)
  let old := b.nvf.dies
  let one := fun (m : SMap Die) (x : Nat × Nat × DieFound) =>
    let o := SMap.get Die.absent old x.1
    let d := x.2.2
    let st : DieState := if !ok d then .excluded else if o.state = .retired then .retired else if member x.1 then .member else .spare
    SMap.insert m x.1 { state := st, cause := if st = .excluded then 6 else o.cause, grownBad := o.grownBad, lun := d.lun, pageSize := d.pageSize, spareBytes := d.spareBytes,
                        pagesPerBlock := d.pagesPerBlock, planes := d.planes, blocks := d.blocks, bad := d.bad, peRated := d.peRated,
                        retiredBlocks := o.retiredBlocks, remap := o.remap, label := o.label }
  let b := modNvf (fun n => { n with dies := ranked.foldl one [], found := true }) b
  let bad := ds.filter (fun (x : Nat × Nat × DieFound) => decide (16 ≤ x.2.1) || !ok x.2.2)
  bad.foldl (fun b (x : Nat × Nat × DieFound) =>
    setErrLog .nvf 12 { kind := .nandMedia, loc := view [place x.2.2.channel 5 59, place (x.2.2.lun / 16) 4 55, place (x.2.2.lun % 16) 4 51, 2 ^ 51 - 1] } b) b

/-! ### The media behind a changed structure (R48) -/

/-- A region keeps its contents across two Charts (R48). -/
def Region.same (r s : Region) : Bool :=
  r.id == s.id && r.far == s.far && r.light == s.light && r.keySlot == s.keySlot && r.base == s.base && r.size == s.size

/-- A region's pages become ZERO on this unit, with their copy of the twin's pages in Binary. -/
def freeRegion (r : Region) (b : Blk) : Blk :=
  let b := zeroRange r.base r.size b
  if b.binary && !r.far && r.mirror == .hot then
    let fs := (framesOf b.cht.cur (!b.cht.isB) (fun x => x.same r)).filterMap (fun f => b.cht.cur.mirrorHome b.cht.isB f)
    zeroPages (fun p => fs.contains (p / 65536)) (fs.map (fun f => (f * 65536, 65536))) b
  else b

/-- A carve-out's pages become ZERO. -/
def freeCarve (c : Carve) (b : Blk) : Blk :=
  let first := c.base / 4096; let n := c.sizeMib * 256
  zeroPages (fun p => decide (first ≤ p) && decide (p < first + n)) [(first, n)] b

/-- The tracked carve-outs that R48 watches: MEMORY_KEYS and FAR_STAGING. -/
def NearCfg.watched (n : NearCfg) : List Carve := n.carves.filter (fun c => c.kind == 3 || c.kind == 4)

/-- A Chart takes effect over the media of another (R48): what the new one drops is freed under the old structure, what it adds starts ZERO;
the tags of dropped regions' extents are freed (R504). `b.cht.cur` is the new Chart, with its mode and side. -/
def replaceMedia (old : Chart) (oldMode : Topo) (oldB : Bool) (b : Blk) : Blk :=
  let new := b.cht.cur; let mode := b.cht.mode; let isB := b.cht.isB
  let dropped := old.regions.filter (fun r => !new.regions.any (fun s => s.same r))
  let added := new.regions.filter (fun r => !old.regions.any (fun s => s.same r))
  let b := { b with cht := { b.cht with cur := old, mode := oldMode, isB := oldB } }
  let b := dropped.foldl (fun b r => freeRegion r b) b
  let b := (old.near.watched.filter (fun c => !new.near.watched.contains c)).foldl (fun b c => freeCarve c b) b
  let b := { b with cht := { b.cht with cur := new, mode := mode, isB := isB } }
  let b := added.foldl (fun b r => freeRegion r b) b
  let b := (new.near.watched.filter (fun c => !old.near.watched.contains c)).foldl (fun b c => freeCarve c b) b
  { b with host := { b.host with dcTags := b.host.dcTags.filter (fun t => !dropped.any (fun r => r.id == t.region)) } }

/-! ### D4 -/

/-- The DIMMs of the WARM record's channels have all come back: the population found equals the one listed, and no DIMM of an interleave set
reports a fault, under the same Chart (R392). -/
def Blk.warmMatches (b : Blk) (found : SMap DimmFound) : Bool :=
  match b.pwr.boot.warm with
  | some w =>
    let used := b.cht.cur.near.sets.foldl (fun m s => m ||| s.mask) 0
    w.digest == b.cht.cur.digest && w.dimms == b.dimmList &&
    w.dimms.all (fun (x : Nat × Nat × Nat) => !used.testBit x.1 || ((SMap.find? found (2 * x.1 + x.2.1)).map (fun (d : DimmFound) => d.pmicOk)).getD false)
  | none => false

/-- tRFC in use: the largest of any populated DIMM, on an EXCLUDED or FROZEN channel too (R156, Table 6-7). -/
def Blk.trfcNs (b : Blk) : Nat :=
  if b.dram.chans.any (fun (e : Nat × Chan) => decide (0 < e.2.dimms) && e.2.density != 0) then 410 else 295

/-- A population failure at D4: a pending Chart fails alone, any other fails the Dawn (R53, R389). -/
def failD4 (r : Reason) (sect off : Nat) (b : Blk) : Blk :=
  if b.cht.dawnPending then pendingFails r sect off b
  else failDawn 4 .population r.code (noteReject r sect off b)

/-- The DIMMs and dies are found and trained (R136 to R139, R169, R204, R205). -/
def discover (found : SMap DimmFound) (dies : List DieFound) (b : Blk) : Blk :=
  let kept := maskOf ((List.range 32).filter (fun n => match SMap.find? found n with | some x => b.retainedValid n x | none => false))
  let b := noteUnretained found b
  let b := (List.range 16).foldl (fun b c => trainChannel found c b) b
  let b := { b with dram := { b.dram with rate := commonRate found, trfc := b.trfcNs, retain := kept, pmicOff := 0 } }
  placeDies dies b.cht.cur.far.members b.cht.cur.isDefault b

/-- DAWN_D4: the DIMMs and dies are found, trained and checked against the Chart (R136 to R139, R169, R204, R205, R49, R392).
See assumption 43 (DEDUCED). -/
def dawnD4 (found : SMap DimmFound) (dies : List DieFound) (b : Blk) : Blk :=
  if !b.atStage 4 then b
  else
    let b := discover found dies b
    let isDef := b.cht.cur.isDefault
    let pop := b.population
    let slot := if b.cht.dawnPending then b.stagedSlot else b.cht.slotRec.active
    let check := fun (pool : Bool) => if isDef then Verdict.ok (defaultChart pop .solo false) else validate (b.checkEnv pop) (b.slotBytes slot) pool
    match check false with
    | .bad r s o => failD4 r s o b
    | .ok c =>
      let b := { b with cht := { b.cht with cur := c } }
      if pop.chans.isEmpty || !populationOk pop c then failD4 .population (populationSect pop c) 0 b
      else match check true with
        | .bad r s o => failD4 r s o b
        | .ok c =>
          if !poolCheck pop b.cht.isB c then failD4 .sum 0x0040 0 b
          else stageDone 4 5 (modPwr (fun p => { p with warmKeep := b.warmMatches found }) b)

/-! ### D5: flash structures (R218, R219) -/

/-- Members of the Chart that are not retired. -/
def Blk.memberList (b : Blk) : List Nat := (bitsOf 256 b.cht.cur.far.members).filter (fun g => (b.die g).state == .member)

/-- A die is fit for member work from the media's view: the newest layout generation and its seed agree with the Chart, else a new one begins;
with data in older zones that is a reshape (R228, R229). The first layout of a part also makes the replicas. -/
def settleLayout (b : Blk) : Blk :=
  let ms := b.memberList; let seed := b.cht.cur.far.seed; let spare := b.cht.cur.far.sparePages
  if b.nvf.layouts.isEmpty then replicaReplace (newLayout ms seed spare b)
  else if b.layout.members == ms && b.layout.seed == seed && b.layout.spare == spare then b
  else modNvf (fun n => { n with reshaping := !n.stripes.isEmpty }) (newLayout ms seed spare b)

/-- Records since the last CHECKPOINT, with it (R217). -/
def sinceCheckpoint (rs : List SjRec) : List SjRec :=
  let since := (rs.reverse.takeWhile (fun r => r.type != .checkpoint)).reverse
  match rs.reverse.find? (fun r => r.type == .checkpoint) with | some c => c :: since | none => rs

/-- The records of the replicas that read, merged by RECORD_SEQ; a record whose CHECK fails is ignored (R216, R218). -/
def mergedRecords (m : FlashMedia) (b : Blk) : List SjRec :=
  let one : Replica → Bool → List Nat → List SjRec := fun r bad recs => if r.valid && !bad then r.sj.filter (fun x => !recs.contains x.seq) else []
  let both := one b.nvf.rep0 m.area0 m.recs0 ++ one b.nvf.rep1 m.area1 m.recs1
  (sortBy (fun x y => decide (x.seq ≤ y.seq)) both).eraseDups

/-- Step 1 of R218, and what the records say of each stripe: without a durable OPEN it holds nothing; with CLOSE it is closed; else it is torn. -/
def judgeStripes (rs : List SjRec) (b : Blk) : Blk :=
  let said : SjType → Nat → Stripe → Bool := fun t s x => rs.any (fun r => r.type == t && r.gen == x.gen && r.stripe == b.stripeNo s && r.seqFirst == x.seqFirst)
  let judge : Nat → Stripe → Stripe := fun s x =>
    if x.pool == .journal then x
    else
      let shut := said .close s x
      { x with openDurable := true, closed := shut, mapped := shut, torn := !shut, tornDone := said .tornDone s x }
  let isNew := b.nvf.stripes.any (fun (e : Nat × Stripe) => e.2.pool != .journal && said .open' e.1 e.2 && !said .close e.1 e.2 && !said .tornDone e.1 e.2)
  let b := modNvf (fun n => { n with stripes := (SMap.keep n.stripes (fun s x => x.pool == .journal || said .open' s x)).map (fun (e : Nat × Stripe) => (e.1, judge e.1 e.2)) }) b
  if isNew then setErr .nvf 10 b else b

/-- Units of torn stripes that do not read or whose tags fail are void (R218 step 4). -/
def voidTorn (m : FlashMedia) (b : Blk) : Blk :=
  let ok : Nat → Stripe → Nat → Bool := fun s x slot => !x.torn || (x.done.contains (slot / 4) && !x.lost.contains (slot / 4) && !m.units.contains (s, slot))
  modNvf (fun n => { n with stripes := SMap.mapVal n.stripes (fun s x => { x with units := SMap.keep x.units (fun slot _ => ok s x slot) }) }) b

/-- Steps 2 to 5 of R218: the map of the last CHECKPOINT, the trailers of the stripes closed after it in log order, then the units of torn stripes
that read and verify; these are relocated, and TORN_DONE follows. See assumption 30 (DEDUCED). -/
def recoverStripes (m : FlashMedia) (b : Blk) : Blk :=
  let b := voidTorn m (judgeStripes (mergedRecords m b) b)
  let img := b.nvf.saved
  let b := modNvf (fun n => { n with homeMap := img.home, farMap := img.far, openStripe := none,
                                     erasing := (SMap.keys n.zones).filter (fun z => (SMap.get Zone.fresh n.zones z).state == .erasing) }) b
  let shut := b.logStripes (fun x => !x.torn && !x.dead && decide (img.pos ≤ x.seqFirst))
  let b := shut.foldl (fun b s => mapStripe s b) b
  let torn := b.logStripes (fun x => x.torn && !x.tornDone)
  let b := torn.foldl (fun b s => (b.stripe s).units.foldl (fun b (e : Nat × FlashUnit) => setCurrent e.2 s e.1 b) b) b
  settleTorn (torn.foldl (fun b s => relocateStripe s b) b)

/-- The flash structures of D5 (R218, R195): the superblock's limit rises and is written before any SEQ is issued, which goes on from the old limit; a
replica whose local area does not read is not valid any more. See assumption 80 (DEDUCED). -/
def recoverFlash (m : FlashMedia) (b : Blk) : Blk :=
  let sb := b.readSb (m.area0 || m.sb0) (m.area1 || m.sb1)
  let rs := mergedRecords m b
  let b := modPers (fun p => { p with nextSeq := sb.seqLimit, sb := sb }) b
  let b := writeSb (fun s => { s with seqLimit := s.seqLimit + 2 ^ 40 }) b
  let b := modNvf (fun n => { n with sjRing := sinceCheckpoint rs, sjSeq := (rs.getLast?.map (fun r => r.seq + 1)).getD 0,
                                     rep0 := { n.rep0 with valid := n.rep0.valid && !m.area0 }, rep1 := { n.rep1 with valid := n.rep1.valid && !m.area1 } }) b
  recoverStripes m (settleLayout b)

/-! ### D5: the journal (R196) -/

/-- A page's stored copy in a generation counts under the Chart in force (R196). -/
def Blk.copyCounts (b : Blk) (g : SaveGen) (p : Nat) : Bool :=
  match carveAt b.cht.cur.near (p * 4096) with
  | some c => (c.kind == 3 || c.kind == 4) && g.carves.contains c
  | none => match (b.lineInfo (32 * p)).region with
    | some r => g.regions.any (fun s => s.same r)
    | none => false

/-- Generations with only the copies that count (R196): a generation whose header fails its tag or lies in a lost stripe is ignored, as are the units of a chunk
whose header fails, and a completion mark without a valid copy. -/
def filterGens (m : FlashMedia) (b : Blk) : Blk :=
  let ok := b.pers.gens.filter (fun g => !m.headers.contains g.gen && !(b.stripe (g.stripes.headD 0)).dead)
  let one : SaveGen → SaveGen := fun g =>
    let bad := (g.chunks.zipIdx.filter (fun c => m.chunks.contains (g.gen, c.2))).flatMap (fun c => c.1)
    let marks := g.markDies.filter (fun d => !m.marks.contains (g.gen, d) && (b.die d).state != .retired)
    { g with units := SMap.keep g.units (fun k _ => b.copyCounts g k && !bad.contains k), mapImage := g.mapImage.filter (fun k => b.copyCounts g k),
             mark := if marks.isEmpty then none else g.mark, markDies := marks }
  modPers (fun p => { p with gens := ok.map one }) b

/-- The save of the last Dusk is lost (R196, R392): HEADER_LOST, SAVE_LOST, and the Dirty Shutdown Count rises. -/
def saveLost (b : Blk) : Blk :=
  setErr .per 4 { modPers (fun p => { p with saveResult := 3 }) b with host := { b.host with dirtyShutdowns := b.host.dirtyShutdowns + 1 } }

/-- The generation at NEXT_GEN_START is examined and becomes live; an incomplete one counts as a dirty shutdown (R188, R196, R102). -/
def examineSave (b : Blk) : Blk :=
  let b := modPers (fun p => { p with live := (p.gens.filter (fun g => g.gen != p.sb.nextGen)).map (fun g => g.gen),
                                      saveGen := if p.sb.nextGen = 0 then none else some (p.sb.nextGen - 1) }) b
  match b.pers.gens.find? (fun g => g.gen == b.pers.sb.nextGen) with
  | some g =>
    let b := modPers (fun p => { p with saveResult := if g.mark.isSome then 1 else 2, saveThermal := g.cause == 1, lostEpoch := g.epochSealed }) b
    let b := if g.mark.isSome then b
             else setErr .per 3 { b with host := { b.host with dirtyShutdowns := b.host.dirtyShutdowns + 1 } }
    goLive g b
  | none =>
    let b := modPers (fun p => { p with gens := p.gens.filter (fun g => g.gen != p.sb.nextGen) }) b
    if b.pwr.boot.duskBegun || (b.pwr.boot.warm.isSome && !b.pwr.warmKeep) then saveLost b else b

/-! ### D5: presence (R197, R169, R243) -/

/-- Every DIMM that holds a line of the page is retained-valid (R169). -/
def Blk.pageRetained (b : Blk) (p : Nat) : Bool :=
  (List.range 32).all (fun j => let l := 32 * p + j; b.dram.retain.testBit (2 * b.chanNo l + (b.geo l).dimm))

/-- The page lies in a FAST_RESTORE region. See assumption 79 (DEDUCED). -/
def Blk.fastPage (b : Blk) (p : Nat) : Bool :=
  (carveAt b.cht.cur.near (p * 4096)).isNone && (match (b.lineInfo (32 * p)).region with | some r => r.fastRestore && !r.far | none => false)

/-- The newest valid journal unit of a page, with its generation; a home copy that is newer by SEQ wins (R197, R199). -/
def Blk.newestUnit (b : Blk) (p : Nat) : Option (SaveGen × FlashUnit) :=
  match b.journalNewest p with
  | some g => (SMap.find? g.units p).map (fun u => (g, u))
  | none => none

/-- Presence, dirty bit, stamp and descriptor of one tracked page (R197), with `lost` of its marking in an incomplete save's map image. -/
def placePage (lost : List Nat) (b : Blk) (p : Nat) : Blk :=
  if !b.tracked p then b
  else
    let j := b.newestUnit p
    let set := fun (v : Presence) (d : Bool) (st : Nat) (f : Option RestoreFrom) (b : Blk) =>
      modPers (fun x => { x with dirty := if d then SMap.insert x.dirty p () else x.dirty, stamps := SMap.put 0 x.stamps p st,
                                 from' := match f with | some y => SMap.insert x.from' p y | none => x.from' }) (setPresence p v b)
    let homeStamp := ((b.homeUnit p).map (fun (u : FlashUnit) => u.stamp)).getD 0
    if lost.contains p then set .pending false 0 (some .lost) b
    else if b.fastPage p && b.pageRetained p then
      set .resident j.isSome ((j.map (fun x => x.2.stamp)).getD homeStamp) none b
    else match j with
      | some (g, _) => set .pending false 0 (some (.journal (g.location b.ringBytes p))) b
      | none => if SMap.has b.nvf.homeMap p then set .pending false 0 (some .home) b else b

/-- Pages that have a copy or a mark, or may have been retained, descending. -/
def Blk.knownPages (b : Blk) (lost : List Nat) : List Nat :=
  let fast := (framesOf b.cht.cur b.cht.isB (fun r => !r.far && r.fastRestore)).flatMap (fun f => (List.range 65536).map (fun i => (f * 65536 + i, ())))
  let home := SMap.mapVal b.nvf.homeMap (fun _ _ => ())
  let all := (b.liveGens.map (fun (g : SaveGen) => SMap.mapVal g.units (fun _ _ => ()))).foldl (fun m x => SMap.merge x m) home
  let all := lost.foldl (fun m p => SMap.insert m p ()) all
  (SMap.keys (if b.dram.retain = 0 then all else SMap.merge fast all)).reverse

/-- The presence map, dirty map and stamps from flash (R197). -/
def placePages (b : Blk) : Blk :=
  let lost := match b.pers.gens.find? (fun g => b.pers.saveGen == some g.gen && g.mark.isNone) with
    | some g => g.mapImage.filter (fun p => !SMap.has g.units p)
    | none => []
  let b := { modPers (fun p => { p with dirty := [], stamps := [], from' := [] }) b with dram := { b.dram with pres := [], presRuns := [], presBase := .zero } }
  let b := (b.knownPages lost).foldl (placePage lost) b
  { b with dram := { b.dram with lines := SMap.keep b.dram.lines (fun l _ => b.presence (l / 32) == .resident) } }

/-- Unassigned extents without a tag become ZERO (R504). See assumption 39 (DEDUCED). -/
def zeroExtents (b : Blk) : Blk :=
  let b := b.host.dcScratch.foldl (fun b x => zeroRange x.base x.size b) b
  { b with host := { b.host with dcScratch := [] } }

/-- One directory entry as D5 leaves it (R243). -/
def StageEntry.atDawn (e : StageEntry) : StageEntry :=
  let e := { e with holdA := e.holdA &&& (e.holdA ^^^ e.roaA), holdB := e.holdB &&& (e.holdB ^^^ e.roaB), roaA := 0, roaB := 0 }
  match e.state with
  | .filling => {}
  | .writing => { e with state := .dirty }
  | _ => e

/-- Pages of the staging directory that have contents. -/
def Blk.dirPages (b : Blk) : List Nat :=
  let first := b.stageArea.1 / 4096
  let last := first + b.stageArea.2 / 64 / 4096
  let here : Nat → Bool := fun p => decide (first ≤ p) && decide (p < last)
  ((SMap.keys b.pers.from').filter here ++ ((SMap.keys b.dram.lines).map (fun l => l / 32)).filter here).eraseDups

/-- The staging directory (R243): every page of it is restored as a touch would restore it, its entries are read, and the changes of R243 are written
back. A line lost with its page holds no entry. See assumption 83 (DEDUCED). -/
def restoreDirectory (b : Blk) : Blk :=
  let b := { b with far := { b.far with dir := [], clock := [], cache := [] } }
  let b := (b.dirPages.filter (fun p => b.presence p == .pending)).foldl (fun b p => restoreDone {} p 0 b) b
  let pages := b.dirPages
  let ls := (SMap.keys b.dram.lines).filter (fun l => pages.contains (l / 32) && !(b.dramLine l).poison)
  let entry : Nat → List Byte → Blk → Blk := fun i x b =>
    let e := StageEntry.ofBytes x
    let b := { b with far := { b.far with dir := SMap.put StageEntry.free b.far.dir i e } }
    modEntry i StageEntry.atDawn b
  ls.foldl (fun b l =>
    let x := bitsBytes 128 (b.peekLine l).1
    let k := l - b.dirLine 0
    entry (2 * k + 1) (x.drop 64) (entry (2 * k) (x.take 64) b)) b

/-! ### D5: calibration (R180) -/

/-- Measure R_save: `rate` is 1 GiB over the elapsed time, none where a program failed or a die timed out (R180). Rates below 2^29 bytes/s take longer
than 2 s. See assumption 84 (DESIGN CHOICE). -/
def calibrate (rate : Option Nat) (b : Blk) : Blk :=
  let b := modNvf (fun n => { n with jRing := b.cht.cur.pers.journalGib * gib }) b
  let used := ((b.liveGens.map (fun g => g.bytes)).foldl (· + ·) 0) + b.nvf.jErase
  let ready := b.ringBytes - used
  let chunks := decide (gib ≤ ready)
  let good := match rate with | some r => if chunks && decide (2 ^ 29 ≤ r) then some (Nat.min r 57600000000) else none | none => none
  let b := if chunks then modPers (fun p => { p with calBytes := p.calBytes + gib, sb := { p.sb with nextGenStart := (p.sb.nextGenStart + gib) % Nat.max b.ringBytes 1 } }) b else b
  let b := modNvf (fun n => { n with jReady := if chunks then ready - gib else ready, jErase := if chunks then n.jErase + gib else n.jErase }) b
  match good with
  | some r => modPwr (fun p => { p with boot := { p.boot with rSave := r } }) (modPers (fun p => { p with rSave := r, calDone := true }) b)
  | none =>
    let stored := b.pwr.boot.rSave
    setErr .per 5 (modPers (fun p => { p with rSave := if stored = 0 then 14400000000 else stored / 4, calDone := false }) b)

/-- A pending Chart has come through D5: its slot becomes active and the floor rises (R53 step 4, R51). -/
def activatePending (b : Blk) : Blk :=
  if b.cht.dawnPending then
    let r : SlotRecord := { seq := b.cht.slotRec.seq + 1, active := b.stagedSlot, pending := false, floor := Nat.max b.cht.slotRec.floor b.cht.cur.serial }
    let st := if b.cht.state = .pendingDawn then StageState.idle else b.cht.state
    addJob .bootRecord { b with cht := { b.cht with dawnPending := false, state := st, slotRec := r } }
  else b

/-- What D5 restores (R195 to R197, R218, R243), measures (R180) and brings into force. -/
def d5Restore (m : FlashMedia) (rate : Option Nat) (b : Blk) : Blk :=
  let b := replaceMedia b.cht.prev b.cht.prev.topo.mode (unitIsB b.cht.prev.topo b.ident.unitId) b
  let b := examineSave (filterGens m (recoverFlash m { b with nvf := { b.nvf with jRing := b.cht.cur.pers.journalGib * gib } }))
  let b := if b.pwr.warmKeep then b else placePages b
  let b := calibrate rate (restoreDirectory (zeroExtents b))
  let cap := b.creditCap
  let b := writeLabels (modPers (fun p => { p with credit := Min.min b.pwr.boot.credit cap, windowEnd := b.epoch + Nat.max b.cht.cur.pers.govEpochs 1 }) b)
  let b := modNvf (fun n => { n with scanned := true }) b
  let b := activatePending b
  let b := modPwr (fun p => { p with boot := { p.boot with duskBegun := false, warm := none } }) b
  writeSb id { b with cht := { b.cht with prev := b.cht.cur }, dram := { b.dram with powered := true, selfRefresh := 0, rcdIgnore := 0, pmicCleared := 0, fill := if b.cht.cur.near.fastBringUp then 0 else 1 } }

/-- A valid replica reads, and so does a superblock (R219, R389). -/
def Blk.replicaReads (b : Blk) (m : FlashMedia) : Bool :=
  ((b.nvf.rep0.valid && !m.area0) || (b.nvf.rep1.valid && !m.area1)) && (b.readSb (m.area0 || m.sb0) (m.area1 || m.sb1)).update != 0

/-- DAWN_D5: flash structures and presence are restored and R_save is measured (R218, R195 to R197, R180, R243, R392); `m` says what of the flash does
not read or verify. -/
def dawnD5 (m : FlashMedia) (rate : Option Nat) (b : Blk) : Blk :=
  if !b.atStage 5 then b
  else if !b.nvf.layouts.isEmpty && !b.replicaReads m then
    failDawn 5 .metaLost 0 b
  else stageDone 5 6 (d5Restore m rate b)

end Sys2Proof.Machine
end

