-- ==== Sys2Proof/Machine/DawnOpen.lean ====
section
/-!
DEFINITION. Dawn stages D6 and D7: the topology, the twin and the arbiter, and the opening of service (R62, R38, R278, R450, R165, R318, R153).
-/
namespace Sys2Proof.Machine
open Sys2Proof

/-! ### D6 -/

/-- The twin's active Chart has another digest (R38). -/
def Blk.twinDiffers (b : Blk) : Bool :=
  b.cht.mode != .solo && (match b.twin.peerDigest with | some d => d != b.cht.cur.digest | none => false)

/-- Under the default Chart with a twin trained, the pair runs Twin: identifiers, roles and region 0's mirror class (R62). -/
def pairByDefault (b : Blk) : Blk :=
  match b.cht.cur.isDefault && b.twin.trained, b.twin.peerId with
  | true, some peer =>
    let isB := b.defaultIsB peer
    let topo : TopoCfg := { mode := .twin, unitA := if isB then peer else b.ident.unitId, unitB := if isB then b.ident.unitId else peer }
    let hot : Region → Region := fun r => if r.id = 0 then { r with mirror := .hot } else r
    { b with cht := { b.cht with mode := .twin, isB := isB, cur := { b.cht.cur with topo := topo, regions := b.cht.cur.regions.map hot } } }
  | _, _ => b

/-- The latest save, when it was complete, left the copy current (R450, R444). -/
def Blk.copyCurrent (b : Blk) : Bool :=
  if b.pwr.warmKeep then !b.pwr.boot.stale
  else b.pers.saveResult == 1 && b.pers.gens.any (fun g => b.pers.saveGen == some g.gen && !g.stale)

/-- First epoch after the copy became STALE: the one after the last sealed epoch of the latest save, else that of the last recorded count.
See assumption 81 (DEDUCED). -/
def Blk.staleSince (b : Blk) : Nat :=
  match b.pers.gens.find? (fun g => b.pers.saveGen == some g.gen) with
  | some g => wrap64 (g.epochSealed + 1)
  | none => b.pwr.boot.countFloor / Nat.max b.mer.body.l 1

/-- The unit is STANDBY for every half, with its copy STALE unless the latest save left it current (R450), and sends STATUS (R278). -/
def d6Standby (b : Blk) : Blk :=
  let stale := b.paired && !b.copyCurrent
  let b := { b with twin := { b.twin with stale := stale, staleFrom := if stale then b.staleSince else 0 } }
  let b := b.halvesOf.foldl (fun b h => modHalf h (fun x => { x with role := .standby, gateOpen := false }) b) b
  b.halvesOf.foldl (fun b h => sendStatus h b.statusCode b) b

/-- DAWN_D6: the Meridian wait and the twin's training have ended; the Charts are compared, the unit is STANDBY for every half and sends
STATUS (R69, R62, R38, R278, R450). See assumption 82 (DEDUCED). -/
def dawnD6 (b : Blk) : Blk :=
  if !b.atStage 6 then b
  else if !(b.mer.state == .locked || b.mer.waitDone || b.mer.body.source == 2) then b
  else if b.cht.cur.isDefault && !b.twin.trained && !b.twin.trainTimedOut then b
  else
    let b := pairByDefault b
    if b.twinDiffers then
      failDawn 6 .twinMismatch 0 (noteReject .twinMismatch 0 0 (b.halvesOf.foldl (fun b h => sendStatus h 4 b) b))
    else
      stageDone 6 7 (d6Standby b)

/-! ### D7 -/

/-- LINES_PER_EPOCH that completes a pass of the largest channel in 24 hours (R153); where that exceeds the field's 16 bits, the field's largest value
(assumption 136, DESIGN CHOICE). -/
def Blk.dailyLines (b : Blk) : Nat :=
  let lines := (b.dram.chans.map (fun (e : Nat × Chan) => e.2.capGib * gib / 128)).foldl Nat.max 0
  Nat.min (ceilDiv (lines * (b.mer.body.l * b.mer.body.tickNs)) (86400 * 10 ^ 9)) 65535

/-- The fill of R165 ends: every ZERO page is RESIDENT and its lines are filled lines, unless FAST_BRING_UP leaves them. -/
def zeroFill (b : Blk) : Blk :=
  if b.cht.cur.near.fastBringUp then b
  else
    let d := b.dram
    let full : Presence → Presence := fun v => if v = .zero then .resident else v
    let new : Fill := { chart := b.cht.cur, mode := b.cht.mode, isB := b.cht.isB, keys := SMap.mapVal b.cph.slots (fun _ k => k.key),
                        pres := d.pres, runs := d.presRuns, base := d.presBase }
    let runs := (d.presRuns.map (fun (r : Nat × Nat × Presence) => (r.1, r.2.1, full r.2.2))).filter (fun r => r.2.2 != .resident || d.presBase != .zero)
    let b := { b with dram := { d with presBase := full d.presBase, presRuns := runs, fill := 2, fills := new :: d.fills,
                                       lines := SMap.keep d.lines (fun l _ => !new.reached (l / 32)) } }
    { b with dram := { b.dram with pres := SMap.keep (SMap.mapVal d.pres (fun _ v => full v)) (fun p v => v != b.presDefault p) } }

/-- DAWN_D7: the ZERO fill, Orbit reception and the Solo gate; scrub, patrol and what a Dusk interrupted start; DAWN_DONE (R387, R389, R442). -/
def dawnD7 (b : Blk) : Blk :=
  if !b.atStage 7 then b
  else
    let b := openOrbit (zeroFill b)
    let b := if b.paired then b else modHalf 0 (fun x => { x with gateOpen := true }) b
    let b := { b with dram := { b.dram with scrubLines := b.dailyLines } }
    let b := patrolDaily (modNvf (fun n => { n with patrolOn := true }) b)
    let b := if b.rebuildList.isEmpty then b else startRebuild b
    let b := releaseWindows (modPers (fun p => { p with d7Count := b.mer.count }) b)
    let b := logEvent 11 {} (powRecord .dawnDone {} b)
    let b := modPwr (fun p => { p with stage := .service, stageUs := SMap.put 0 p.stageUs 7 (Nat.min (b.us - p.stageStart) 0xFFFF_FFFF),
                                       boot := { p.boot with failed := 0 } }) (endDawn .done b)
    let b := if b.mgt.trial then addJob .bootRecord { b with mgt := { b.mgt with trial := false } } else b
    noteCeiling b

end Sys2Proof.Machine
end

