-- ==== Sys2Proof/Machine/Staging.lean ====
section
/-!
DEFINITION. Effects of the firmware-restart commands (R25 to R27, R471 to R473), of Chart staging (R50 to R52) and of live application
(R55 to R60, R459); and the commands that waited for the management cores.
-/
namespace Sys2Proof.Machine
open Sys2Proof

/-! ### Work that waits (R25, R110) -/

/-- Must a command kept back still wait? From the Dusk trigger nothing starts (R442). -/
def Blk.stillWaits (b : Blk) (d : Deferred) : Bool :=
  match d with
  | .mbox n c => b.mboxHeld n c
  | _ => b.fwWaits || b.inDusk

/-- Run one command that waited; a mailbox command's doorbell clears. -/
def runKept (phys : Phys) (b : Blk) (d : Deferred) : Blk :=
  match d with
  | .mbox n c => runMbox n c (modLd n (fun l => { l with doorbell := false }) b)
  | .orbCmd n op => runOrbCmd phys n op b
  | .cphCmd n op => runCphCmd phys n op b
  | .mgmtCph op s => runMgmtCph op s b
  | .startRebuild => startRebuild b
  | .readmit g => admitNow g b
  | .thaw c t => thawNow c t b

/-- Run, in their order of arrival, the commands that need wait no longer. -/
def runDeferred (phys : Phys) (b : Blk) : Blk :=
  let b := b.fw.deferred.foldl (fun b d => match d with | .mbox n c => touchFor phys n c b | _ => b) b
  let go := b.fw.deferred.filter (fun d => !b.stillWaits d)
  if go.isEmpty then b
  else go.foldl (runKept phys) { b with fw := { b.fw with deferred := b.fw.deferred.filter (fun d => b.stillWaits d) } }

/-! ### Firmware restarts (R25, R27, R473) -/

/-- The other bank is named active again, and TRIAL is clear (R471, R473). -/
def fallBack (b : Blk) : Blk :=
  addJob .bootRecord (setErr .mgt 6 { b with mgt := { b.mgt with active := 1 - b.mgt.active, trial := false, activating := false } })

/-- CORES_RUNNING: the restart ends. An activation's bank runs, and its TRIAL clears (R473); a rebuild that lost pages call for starts (R223). What
waited runs after it. -/
def coresRunning (b : Blk) : Blk :=
  if !b.fw.restarting || b.fw.paused then b
  else
    let b := { b with fw := { b.fw with restarting := false, retried := false } }
    let b := if b.mgt.activating then
        loadBank b.mgt.active (addJob .bootRecord { b with mgt := { b.mgt with activating := false, trial := false } })
      else b
    if b.nvf.rebuilding || b.rebuildList.isEmpty then b else startRebuild b

/-- CORES_START_TIMEOUT: the first time one further reset, from the old bank where the restart was an activation; the second time RELEASE in a pair,
and paused work in Solo (R27, R473). -/
def coresStartTimeout (b : Blk) : Blk :=
  if !b.fw.restarting || b.fw.paused then b
  else if !b.fw.retried then
    let b := logEvent 5 {} { b with fw := { b.fw with retried := true }, flt := { b.flt with lastRestart := some b.cyc } }
    if b.mgt.activating then fallBack b else b
  else
    let b := { b with fw := { b.fw with paused := true } }
    if b.paired then releaseAll 1 b else b

/-! ### Staging (R49 to R52) -/

/-- Controller firmware takes staging commands: it runs from D3 on, and in service; in Twilight the supervisor takes them (R396). -/
def Blk.stagingOn (b : Blk) : Bool :=
  !b.pwr.sysRst && !b.fw.restarting &&
  (match b.pwr.stage with | .dawn n => decide (3 ≤ n) | .service => true | .twilight => true | .down => false)

/-- A write that reaches a register whose reset is under way (R479). -/
def regViolation (b : Blk) : Blk := countEvent 0x12 0 b

/-- A staging write in one of the states that Table 2-6 allows; in any other SEQ_ERR is set. See assumption 46 (DESIGN CHOICE). -/
def staging (allowed : List StageState) (f : Blk → Blk) (b : Blk) : Blk :=
  if !b.stagingOn then regViolation b
  else if allowed.contains b.cht.state then f b
  else { b with cht := { b.cht with seqErr := true } }

/-- Change the staging state. -/
def stageTo (s : StageState) (b : Blk) : Blk := { b with cht := { b.cht with state := s } }

/-- OPEN. R59 lets the next Chart be staged while APPLYING is set; Table 2-6 does not allow OPEN in APPLYING_LIVE, and the model follows the table, so that
staging goes on once the state is IDLE again, as after a firmware restart (assumption 119, DESIGN CHOICE). -/
def stageOpen (b : Blk) : Blk :=
  staging [.idle, .verified, .rejected] (fun b => { b with cht := { b.cht with state := .receiving, buf := [], staged := none } }) b

/-- STAGE_DATA: 8 bytes, little-endian; past 1 MiB they are ignored with SEQ_ERR. -/
def stageData (w : W64) (b : Blk) : Blk :=
  staging [.receiving] (fun b =>
    if 1048576 < b.cht.buf.length + 8 then { b with cht := { b.cht with seqErr := true } }
    else { b with cht := { b.cht with buf := b.cht.buf ++ bitsBytes 8 w } }) b

/-- VERIFY. -/
def stageVerify (b : Blk) : Blk := staging [.receiving] (stageTo .verifying) b

/-- The DIMMs and dies have been found: D4 has completed. -/
def Blk.populationKnown (b : Blk) : Bool := match b.pwr.stage with | .dawn n => decide (5 ≤ n) | .service => true | _ => false

/-- What VERIFY finds: the whole of Table 2-5 up to SUM, the pool sum where the population is known and holds the Chart's members. -/
def Blk.verifyBuf (b : Blk) : Verdict :=
  match validate (b.checkEnv {}) b.cht.buf false with
  | .ok c => if b.populationKnown && populationOk b.population c then validate (b.checkEnv b.population) b.cht.buf true else .ok c
  | v => v

/-- VERIFY_DONE: VERIFIED, or REJECTED with its reason (R49). -/
def verifyDone (b : Blk) : Blk :=
  if b.cht.state != .verifying then b
  else match b.verifyBuf with
    | .ok c =>
      stageTo .verified { b with cht := { b.cht with staged := some c.digest } }
    | .bad r s o => stageTo .rejected (noteReject r s o b)

/-- COMMIT_DAWN: the staged slot is programmed (R50). -/
def commitDawn (b : Blk) : Blk :=
  staging [.verified] (fun b => addJob (.chartSlot b.stagedSlot) { b with cht := { b.cht with state := .writing, commitNext := none } }) b

/-- A new slot record with the pending mark set or cleared (R50). -/
def pendRecord (p : Bool) (b : Blk) : Blk :=
  { b with cht := { b.cht with slotRec := { b.cht.slotRec with seq := b.cht.slotRec.seq + 1, pending := p } } }

/-- COMMIT_DAWN_DONE: the slot has been erased, programmed and compared, and its record with the pending mark written (R50). Staging a Chart ends
Twilight (R396). -/
def commitDawnDone (b : Blk) : Blk :=
  match b.efl.cur with
  | some (.chartSlot n) =>
    if b.cht.state != .writing || b.cht.commitNext.isSome || b.cht.commitWait.isSome then b
    else
      let b := pendRecord true { b with cht := { b.cht with slots := SMap.put [] b.cht.slots n b.cht.buf, state := .pendingDawn } }
      let b := jobEnds b
      if b.pwr.stage = .twilight then exitTwilight 3 b else b
  | _ => b

/-- DISCARD: the buffer is emptied and a pending mark cleared. -/
def stageDiscard (b : Blk) : Blk :=
  staging [.receiving, .verified, .rejected, .pendingDawn] (fun b =>
    let b := { b with cht := { b.cht with state := .idle, buf := [] } }
    if b.cht.slotRec.pending then pendRecord false b else b) b

/-! ### COMMIT_LIVE (R55, R56, R459) -/

/-- A set holds a carve-out. -/
def NearCfg.holdsCarve (n : NearCfg) (s : ISet) : Bool := n.carves.any (fun c => decide (s.base ≤ c.base) && decide (c.base < s.base + s.sizeGib * gib))

/-- A NEAR_LAYOUT change is of sets without a carve-out (Table 2-7). -/
def nearLiveOk (old new : NearCfg) : Bool :=
  old.fastBringUp == new.fastBringUp && old.carves == new.carves &&
  old.sets.filter old.holdsCarve == new.sets.filter new.holdsCarve

/-- A region of both Charts differs only in what Table 2-7 lets change. See assumption 48 (DEDUCED). -/
def Region.liveOk (r s : Region) : Bool := r.same s

/-- The section, the lowest by TYPE, with a change that Table 2-7 does not allow live. HOST_PORTS is compared as bytes. The default Chart's TARGET body is
not given and has an empty PART here, so that a live commit over the default Chart always changes TARGET (assumption 118, DESIGN CHOICE). -/
def dawnOnlyChange (old new : Chart) : Option Nat :=
  let kept := old.regions.all (fun r => match new.region? r.id with | some s => r.liveOk s | none => true)
  (([(0x0001, old.target == new.target), (0x0010, old.topo == new.topo), (0x0011, old.portsBody == new.portsBody), (0x0020, old.meridian == new.meridian),
    (0x0030, nearLiveOk old.near new.near), (0x0031, kept), (0x0050, old.halo.haloMib == new.halo.haloMib && old.halo.snoopMib == new.halo.snoopMib),
    (0x0070, old.twin == new.twin)] : List (Nat × Bool)).find? (fun x => !x.2)).map (·.1)

/-- Logical device `n` decodes some byte of a region: a committed decoder overlaps it (R56, R92). -/
def Blk.decodes (b : Blk) (n : Nat) (r : Region) : Bool :=
  (b.maskOf r).testBit n &&
  (b.ld n).decoders.any (fun (e : Nat × Decoder) => e.2.committed && decide (e.2.base < r.base + r.size) && decide (r.base < e.2.base + e.2.size))

/-- A dropped region is decoded or has an extent assigned, or a logical device loses the mask bit of a region that it decodes (R56). -/
def Blk.inUse (b : Blk) (new : Chart) : Bool :=
  b.cht.cur.regions.any (fun r =>
    match new.region? r.id with
    | none => b.cht.cur.lds.any (fun n => b.decodes n r || (b.ld n).extents.any (fun e => e.region == r.id))
    | some s => b.cht.cur.lds.any (fun n => b.decodes n r && !(b.maskOf s).testBit n))

/-- A key slot in use stays inside the range of its mode (R350). -/
def Blk.slotsFit (b : Blk) (c : CipherCfg) : Bool :=
  b.cph.slots.all (fun (e : Nat × KeySlot) => e.2.state == .empty || decide (e.1 < 32) ||
    (match e.2.mode with | .none => true | .xts => inXts c e.1 | .gcm => inGcm c e.1))

/-- In Binary this unit serves the COLD pages of the failed unit's half (R286). -/
def Blk.servesTwinCold (b : Blk) : Bool := b.binary && b.hasCold && (b.half (if b.cht.isB then 0 else 1)).role == .holder

/-- A region homed in the half that this unit serves for the failed one (R459). -/
def Blk.coldHalfChanged (b : Blk) (new : Chart) : Bool :=
  let other := fun (r : Region) => !b.homed r.base || decide (gib < r.size)
  b.servesTwinCold && (b.cht.cur.far != new.far || b.cht.cur.regions.filter other != new.regions.filter other)

/-- The states in which a commit is refused with BUSY (R56, R459, R350, R324). See assumption 47 (DESIGN CHOICE). -/
def Blk.commitBusy (b : Blk) (new : Chart) : Bool :=
  let old := b.cht.cur
  let dropped := old.regions.filter (fun r => (new.region? r.id).isNone)
  let frozen := b.dram.chans.any (fun (e : Nat × Chan) => e.2.state == .frozen)
  b.cht.apply.isSome || b.cht.commitNext.isSome || b.cht.commitWait.isSome || b.inDusk || b.halvesOf.any (fun h => (b.half h).eclipse) || !b.inService ||
  (old.far != new.far && b.nvf.rebuilding) || (old.near != new.near && (frozen || b.pendingCount != 0)) ||
  b.coldHalfChanged new ||
  (b.twin.alone && old.regions.any (fun r => match new.region? r.id with | some s => s.mirror != r.mirror | none => false)) ||
  b.halo.lines.any (fun (e : Nat × HaloLine) => e.2.dirty && b.frozenLine e.2.line &&
    (match (b.lineInfo e.2.line).region with | some r => dropped.any (fun x => x.id == r.id) | none => false)) ||
  !b.slotsFit new.cipher ||
  b.orb.queues.any (fun (e : Nat × OrbQueue) => decide (new.orbit.backedQueues ≤ e.1)) || b.orb.keyUsed.any (fun (e : Nat × Unit) => decide (new.orbit.keys ≤ e.1))

/-- Reason for which a live commit of the verified Chart is refused, in the order of Table 2-5; else the Chart. The twin's confirmation is asked last. -/
def Blk.liveVerdict (b : Blk) : Verdict :=
  if !b.populationKnown then .bad .busy 0 0
  else
    let pop := b.population
    match validate (b.checkEnv pop) b.cht.buf false with
    | .bad r s o => .bad r s o
    | .ok c =>
      if !populationOk pop c then .bad .population (populationSect pop c) 0
      else match validate (b.checkEnv pop) b.cht.buf true with
        | .bad r s o => .bad r s o
        | .ok new =>
          if (dawnOnlyChange b.cht.cur new).isSome then .bad .dawnOnly ((dawnOnlyChange b.cht.cur new).getD 0) 0
          else if b.inUse new then .bad .inUse 0x0031 0
          else if b.commitBusy new then .bad .busy 0 0
          else .ok new

/-- The first epoch boundary at least two epochs away (R57). -/
def Blk.soloEpoch (b : Blk) : Nat := if b.mer.count % Nat.max b.mer.body.l 1 = 0 then b.epoch + 2 else b.epoch + 3

/-- This unit proposes the switch epoch (R58): the Lodestar holder in Twin, unit A in Binary. -/
def Blk.proposes (b : Blk) : Bool := match b.cht.mode with | .solo => false | .twin => (b.half 0).role == .holder | .binary => !b.cht.isB

/-- The switch epoch boundary E of a commit accepted now (R57, R58). -/
def Blk.switchAt (b : Blk) : Nat :=
  if !b.paired then b.soloEpoch
  else if b.proposes then b.epoch + 4
  else match b.twin.switchEpoch with | some e => if b.epoch < e then e else b.epoch + 4 | none => b.epoch + 4

/-- A live commit is accepted: the staged slot is programmed and E is fixed, which the proposing unit of a pair sends (R57 step 1, R58). -/
def acceptLive (new : Chart) (b : Blk) : Blk :=
  let e := b.switchAt
  let b := if b.paired && b.proposes then send (.crn 0 (.switchEpoch e)) b else b
  addJob (.chartSlot b.stagedSlot) { b with cht := { b.cht with state := .writing, commitWait := none, commitNext := some { epoch := e, next := new } } }

/-- COMMIT_LIVE: refused with a reason; else accepted, in a pair once the twin has confirmed within two epochs that it holds a staged Chart of the
digest, for which this unit asks with CHART_CONFIRM (R56, R57, R58). See assumption 49 (DESIGN CHOICE). -/
def commitLive (b : Blk) : Blk :=
  staging [.verified] (fun b =>
    match b.liveVerdict with
    | .bad r s o => stageTo .rejected (noteReject r s o b)
    | .ok new =>
      if b.paired then
        send (.crn 0 (.chartConfirm new.digest)) { b with cht := { b.cht with state := .writing, commitWait := some ({ epoch := 0, next := new }, b.epoch + 2) } }
      else acceptLive new b) b

/-- CHART_CONFIRM: the twin holds a staged Chart of this digest. A commit that waits for it is accepted; a unit that holds the same Chart staged and does
not wait answers with its own confirmation (R56). -/
def takeConfirm (d : BitVec 512) (b : Blk) : Blk :=
  match b.cht.commitWait with
  | some (a, _) => if a.next.digest = d then acceptLive a.next b else b
  | none =>
    if b.cht.staged == some d && [StageState.verified, .writing, .applyingLive].contains b.cht.state then send (.crn 0 (.chartConfirm d)) b else b

/-- CHART_CONFIRM over the link, when it is up. -/
def chartConfirm (d : BitVec 512) (b : Blk) : Blk := if b.twinTakes then takeConfirm d b else b

/-- The two epochs of a commit's wait have passed without the twin's confirmation: TWIN_MISMATCH (R56). -/
def confirmLate (b : Blk) : Blk :=
  match b.cht.commitWait with
  | some (_, e) =>
    if e < b.epoch then stageTo .rejected (noteReject .twinMismatch 0 0 { b with cht := { b.cht with commitWait := none } }) else b
  | none => b

/-- EPOCH_BOUNDARY: the count's epoch ends, and with it what waits at most so many epochs (R56, R72). -/
def epochEnds (phys : Phys) (b : Blk) : Blk := confirmLate (epochBoundary phys b)

/-- The slot of a live commit is programmed: its record makes it active and raises the floor, and APPLYING is set (R57 steps 1 to 3). -/
def commitLiveDone (a : LiveApply) (n : Nat) (b : Blk) : Blk :=
  let r : SlotRecord := { seq := b.cht.slotRec.seq + 1, active := n, pending := false, floor := Nat.max b.cht.slotRec.floor a.next.serial }
  { b with cht := { b.cht with slots := SMap.put [] b.cht.slots n b.cht.buf, slotRec := r, state := .applyingLive, commitNext := none,
                               apply := some a, applyEpoch := a.epoch } }

/-! ### The switch at E (R57) -/

/-- The FAR_LAYOUT change is a reshape (R228). -/
def reshapes (old new : FarCfg) : Bool := old.members != new.members || old.seed != new.seed || old.sparePages != new.sparePages

/-- Regions of both Charts whose MIRROR changes to HOT or COLD, by ID (R57 step 5). -/
def mirrorChanges (old new : Chart) : List Nat :=
  (new.regions.filter (fun r => r.mirror != .none && (match old.region? r.id with | some s => s.mirror != r.mirror | none => false))).map (fun r => r.id)

/-- The Chart at E: the new one, with the parts that wait for background work as they were. -/
def atSwitch (old new : Chart) : Chart :=
  let ms := mirrorChanges old new
  let keep : Region → Region := fun r => if ms.contains r.id then { r with mirror := ((old.region? r.id).map (fun (x : Region) => x.mirror)).getD r.mirror } else r
  let far := if reshapes old.far new.far then { new.far with members := old.far.members, seed := old.far.seed, sparePages := old.far.sparePages } else new.far
  { new with near := old.near, far := far, regions := new.regions.map keep }

/-- Where a window's slots lie now: their lines move with the window when the windows before it change. See assumption 52 (DEDUCED). -/
def moveWindows (old new : List (WindowCfg × Nat)) (b : Blk) : Blk :=
  let base := b.slotLine 0; let n := carveSize b.cht.cur.near 5 / 128
  let newPlace : Nat → Option Nat := fun l =>
    let o := (l - base) * 128
    match old.find? (fun w => decide (w.2 ≤ o) && decide (o < w.2 + w.1.slots * w.1.slotMib * mib)) with
    | some w => (new.find? (fun x => x.1 == w.1)).map (fun x => base + (o - w.2 + x.2) / 128)
    | none => none
  let mine := b.dram.lines.filter (fun (e : Nat × DramLine) => decide (base ≤ e.1) && decide (e.1 < base + n))
  let rest := SMap.keep b.dram.lines (fun l _ => !(decide (base ≤ l) && decide (l < base + n)))
  let lines := mine.foldl (fun m (e : Nat × DramLine) => match newPlace e.1 with | some l => SMap.put (b.dram.filled l) m l e.2 | none => m) rest
  { b with dram := { b.dram with lines := lines } }

/-- Transit windows across the switch: those whose entry changes or goes are stopped (R253). `old` is the windows before it. -/
def switchWindows (new : Chart) (b : Blk) : Blk :=
  let old := b.myWindows
  let gone := old.filter (fun w => !new.transit.windows.contains w.1)
  let b := gone.foldl (fun b w => stopWindow w.1 b) b
  { b with far := { b.far with windows := SMap.keep b.far.windows (fun k _ => old.any (fun w => w.1.window == k && new.transit.windows.contains w.1)) } }

/-- Cipher queues whose owner changes are destroyed (R350). -/
def switchCipher (old new : CipherCfg) (b : Blk) : Blk :=
  endCphQueues (fun q _ => SMap.find? old.queueOwner q != SMap.find? new.queueOwner q) b

/-- Orbit across the switch (R324): ENABLE and ETH_MODE. -/
def switchOrbit (old new : OrbitCfg) (b : Blk) : Blk :=
  let b := if old.enable && !new.enable then modOrb (fun o => { o with isOpen := false }) (destroyQueues (fun _ _ => true) b) else b
  let b := if old.ethMode != new.ethMode then modOrb (fun o => { o with ports := SMap.mapVal o.ports (fun _ p => { p with up := false, medium := 0 }) }) b else b
  if !old.enable && new.enable then openOrbit b else b

/-- A reshape begins (R228 step 1): the new generation of the Chart's members. -/
def startReshape (far : FarCfg) (b : Blk) : Blk :=
  let ms := (bitsOf 256 far.members).filter (fun g => (b.die g).state == .member || (b.die g).state == .spare)
  let b := ms.foldl (fun b g => modDie g (fun d => { d with state := .member }) b) b
  modNvf (fun n => { n with reshaping := true, reshapePaused := n.rebuilding }) (newLayout ms far.seed far.sparePages b)

/-- The last switch is done: APPLYING clears (R57 step 6). -/
def finishApply (b : Blk) : Blk :=
  match b.cht.apply with
  | some a =>
    if a.switched && !a.nearLeft && !a.farLeft && a.mirrorLeft.isEmpty then
      { b with cht := { b.cht with apply := none, state := if b.cht.state = .applyingLive then .idle else b.cht.state } }
    else b
  | none => b

/-- Every changed section that needs no background work switches in one step, and the background work starts (R57 steps 4 and 5). -/
def switchNow (a : LiveApply) (b : Blk) : Blk :=
  let old := b.cht.cur; let new := a.next; let mode := b.cht.mode; let isB := b.cht.isB
  let ms := mirrorChanges old new
  let hot := ms.filter (fun i => ((new.region? i).map (fun (x : Region) => x.mirror == .hot)).getD false)
  let cold := ms.filter (fun i => !hot.contains i)
  let oldWin := b.myWindows
  let b := switchWindows new b
  let a' : LiveApply := { a with switched := true, nearLeft := old.near != new.near, farLeft := reshapes old.far new.far, mirrorLeft := ms }
  let b := { b with cht := { b.cht with cur := atSwitch old new, apply := some a', applyEpoch := b.epoch } }
  let b := replaceMedia old mode isB b
  let b := if oldWin == b.myWindows then b else moveWindows oldWin b.myWindows b
  let b := switchOrbit old.orbit new.orbit (switchCipher old.cipher new.cipher b)
  let b := configAlmanac new.alm.entries b
  let b := if a'.farLeft then startReshape new.far b else b
  let left := b.cht.cur.regions
  let b := { b with host := { b.host with lds := SMap.mapVal b.host.lds (fun _ l => { l with offers := l.offers.filter (fun o => left.any (fun r => r.id == o.region)) }) } }
  let still : Nat → Bool := fun p => match (b.lineInfo (32 * p)).region with | some r => b.mirrorClass r == .hot | none => false
  let b := modTwin (fun t => { t with syncTodo := t.syncTodo.filter (fun x => still x.1), syncWait := SMap.keep t.syncWait (fun p _ => still p) }) b
  let holds := b.halvesOf.any (fun h => (b.half h).role == .holder)
  let b := if !hot.isEmpty && holds then startSync hot b else b
  let b := if !cold.isEmpty && holds then shipRegions cold a.epoch (modTwin (fun t => { t with recopy := t.recopy ++ cold.map (fun i => (i, a.epoch)) }) b) else b
  let cap := b.creditCap
  let b := modPers (fun p => { p with credit := Min.min p.credit cap }) b
  let b := { b with cht := { b.cht with prev := b.cht.cur } }
  let grow := b.cht.cur.pers.journalGib * gib - b.nvf.jRing
  let b := writeLabels (modNvf (fun n => { n with jRing := n.jRing + grow, jReady := n.jReady + grow }) b)
  finishApply (noteCeiling (writeSb id (logEvent 9 {} b)))

/-- LIVE_SWITCH: the epoch boundary E has come; a restart of the cores makes it wait, and from the Dusk trigger nothing switches (R57, R59, R442). -/
def liveSwitch (b : Blk) : Blk :=
  match b.cht.apply with
  | some a => if a.switched || decide (b.epoch < a.epoch) || b.fwWaits || b.inDusk || !b.inService then b else switchNow a b
  | none => b

/-- Change the live application under way. -/
def modApply (f : LiveApply → LiveApply) (b : Blk) : Blk := { b with cht := { b.cht with apply := b.cht.apply.map f } }

/-- A background switch is made at this epoch. -/
def noteSwitch (b : Blk) : Blk := { b with cht := { b.cht with applyEpoch := b.epoch, prev := b.cht.cur } }

/-- A reshape switches (R228 step 3): older generations and the dies removed from the mask are released. -/
def switchFar (a : LiveApply) (b : Blk) : Blk :=
  let gone := (SMap.keys b.nvf.dies).filter (fun g => (b.die g).state == .member && !a.next.far.members.testBit g)
  let b := gone.foldl (fun b g => modDie g (fun d => { d with state := .spare }) b) b
  let l := b.layout
  let b := modNvf (fun n => { n with layouts := [l], reshaping := false, reshapePaused := false }) b
  noteSwitch (modApply (fun x => { x with farLeft := false }) { b with cht := { b.cht with cur := { b.cht.cur with far := a.next.far } } })

/-- Regions whose copies are complete take their new MIRROR (R57 step 5). -/
def switchMirror (a : LiveApply) (b : Blk) : Blk :=
  let done := a.mirrorLeft.filter (fun i => a.mirrorDone.contains i)
  let g : Region → Region := fun r => if done.contains r.id then { r with mirror := ((a.next.region? r.id).map (fun (x : Region) => x.mirror)).getD r.mirror } else r
  let b := { b with cht := { b.cht with cur := { b.cht.cur with regions := b.cht.cur.regions.map g } } }
  let f : LiveApply → LiveApply := fun x => { x with mirrorLeft := x.mirrorLeft.filter (fun i => !done.contains i), mirrorDone := x.mirrorDone.filter (fun i => !done.contains i) }
  if done.isEmpty then b else noteSwitch (modApply f b)

/-- LIVE_BACKGROUND_SWITCH: the changes whose background work is complete switch at this epoch boundary, and so does a reshape that a Dawn resumed
(R57, R200, R228); a restart of the cores makes both wait (Table 1-7). -/
def liveBackgroundSwitch (b : Blk) : Blk :=
  match b.cht.apply with
  | some a =>
    if !a.switched || b.fwWaits || b.inDusk then b
    else
      let b := if a.farLeft && a.farDone then switchFar a b else b
      finishApply (switchMirror a b)
  | none =>
    if !b.nvf.reshapeDone || b.fwWaits || b.inDusk then b
    else let l := b.layout; modNvf (fun n => { n with layouts := [l], reshaping := false, reshapeDone := false, reshapePaused := false }) b

/-! ### The Near reshape (R60) -/

/-- Dirty pages of the affected sets. -/
def Blk.reshapeDirty (b : Blk) : List Nat := (SMap.keys b.pers.dirty).filter (fun p => b.reshapePage p)

/-- NEAR_RESHAPE_HOLD: at 64 MiB of dirty data or less, writes to the affected sets are held. -/
def nearReshapeHold (b : Blk) : Blk :=
  match b.cht.apply with
  | some a =>
    if !a.switched || !a.nearLeft || a.nearHold || b.inDusk || decide (64 * mib < b.reshapeDirty.length * 4096) then b
    else modApply (fun x => { x with nearHold := true }) b
  | none => b

/-- One page of the affected sets under the new interleave: its restore comes from its stored copy, where it has one. -/
def reshapeOne (b : Blk) (p : Nat) : Blk :=
  let b := dropPageHalo p (dropPageLines p b)
  match b.newestUnit p with
  | some (g, _) => modPers (fun x => { x with from' := SMap.insert x.from' p (.journal (g.location b.ringBytes p)) }) b
  | none => if SMap.has b.nvf.homeMap p then modPers (fun x => { x with from' := SMap.insert x.from' p .home }) b else b

/-- Runs of pages of the sets that the reshape changes, which all become PENDING (R60 step 3). -/
def Blk.reshapeRuns (a : LiveApply) (b : Blk) : List (Nat × Nat) :=
  (b.cht.cur.near.sets.filter (fun s => !a.next.near.sets.contains s)).map (fun s => (s.base / 4096, s.sizeGib * gib / 4096))

/-- NEAR_RESHAPE_SWITCH: no dirty data is left, and at this epoch boundary the new interleave function loads (R60 step 3). See assumption 53 (DEDUCED). -/
def nearReshapeSwitch (phys : Phys) (b : Blk) : Blk :=
  match b.cht.apply with
  | some a =>
    if !a.nearHold || b.fwWaits || b.inDusk || !b.reshapeDirty.isEmpty || (SMap.keys b.pers.inFlight).any (fun p => b.reshapePage p) then b
    else
      let ps := (b.writtenPages ++ SMap.keys b.dram.pres).eraseDups.filter (fun p => b.reshapePage p)
      let runs := b.reshapeRuns a
      let b := runs.foldl (fun b r => setRun r.1 r.2 .pending b) (ps.foldl reshapeOne b)
      let b := { b with cht := { b.cht with cur := { b.cht.cur with near := a.next.near } } }
      let b := noteSwitch (modApply (fun x => { x with nearLeft := false, nearHold := false }) b)
      finishApply (retryWhy phys .reshape b)
  | none => b

end Sys2Proof.Machine
end

