-- ==== Sys2Proof/Machine/Thermal.lean ====
section
/-!
DEFINITION. Effects of the thermal monitor's commands (R398 to R405, R447): sensor samples with their levels, throttle steps, and the hard trip.
-/
namespace Sys2Proof.Machine
open Sys2Proof

/-- Change the thermal monitor. -/
def modTherm (f : ThermSt → ThermSt) (b : Blk) : Blk := { b with therm := f b.therm }

/-- A sensor. -/
def Blk.sensor (b : Blk) (n : Nat) : Sensor := SMap.get Sensor.fresh b.therm.sensors n

/-- The hemispheres' rails are up. See assumption 86 (DESIGN CHOICE). -/
def Blk.hemisPowered (b : Blk) : Bool := b.pwr.seq == .on && b.pwr.stage != .twilight

/-- A sensor of a hemisphere die whose rails are down is unpowered (R399). -/
def Blk.unpowered (b : Blk) (n : Nat) : Bool := decide (n < 28) && !b.hemisPowered

/-- A sensor's valid reading now (R399, R400). -/
def Blk.validTemp (b : Blk) (n : Nat) : Option Int :=
  if b.unpowered n || (b.sensor n).cause != 0 then none else (b.sensor n).reading

/-- The larger of two temperatures, where one may be missing. -/
def hotter (x y : Option Int) : Option Int :=
  match x, y with
  | some a, some b => some (Max.max a b)
  | some a, none => some a
  | none, y => y

/-- The hottest valid reading of `k` sensors from `n` (R400). -/
def Blk.hottest (b : Blk) (n k : Nat) : Option Int := (List.range k).foldl (fun m i => hotter m (b.validTemp (n + i))) none

/-- T_N, T_S, T_H and T. -/
def Blk.tempN (b : Blk) : Option Int := b.hottest 0 14
def Blk.tempS (b : Blk) : Option Int := b.hottest 14 14
def Blk.tempH (b : Blk) : Option Int := b.hottest 28 4
def Blk.temp (b : Blk) : Option Int := hotter (hotter b.tempN b.tempS) b.tempH

/-- Broken sensors of a hemisphere (R400). -/
def Blk.brokenIn (b : Blk) (south : Bool) : Nat :=
  ((List.range 14).filter (fun i => (b.sensor ((if south then 14 else 0) + i)).cause != 0)).length

/-- A hemisphere is forced (R400). -/
def Blk.forced (b : Blk) (south : Bool) : Bool := decide (4 ≤ b.brokenIn south)

/-- Location of a sensor (R399), and of the thermal block. -/
def sensorLoc (n : Nat) : W64 := faultLoc 2 0x05 0 n 0xFFFFFF 0xFFF
def thermLoc : W64 := faultCluster 2 0x05

/-- CAUSE that a sample gives a sensor (R399): 1 range, 2 stuck, 3 jump, 0 valid. `same` is the run of identical codes with this sample.
See assumption 87 (DEDUCED). -/
def sampleCause (s : Sensor) (v : Int) (same : Nat) : Nat :=
  let jump := match s.reading with | some p => decide (320 < v - p) || decide (320 < p - v) | none => false
  if v < -880 || 2560 < v then 1 else if jump then 3 else if 1024 ≤ same then 2 else 0

/-- One sensor's sample, in 1/16 °C. -/
def sampleSensor (b : Blk) (e : Nat × Int) : Blk :=
  let n := e.1; let v := e.2
  let s := b.sensor n
  if 32 ≤ n || b.unpowered n || s.cause != 0 then b
  else
    let same := if 0 < s.same && s.raw = v then s.same + 1 else 1
    let c := sampleCause s v same
    let s' : Sensor := { reading := if c = 0 then some v else s.reading, cause := c, raw := v, same := same }
    let b := modTherm (fun t => { t with sensors := SMap.put Sensor.fresh t.sensors n s' }) b
    if c = 0 then feedMetric 4 n v b
    else assertPin 85 (sensorLoc n) (setErrLog .thm 4 { kind := .fault, loc := sensorLoc n } b)

/-- A temperature has reached a threshold in °C. -/
def atLeast (t : Option Int) (c : Nat) : Bool := match t with | some v => decide ((c : Int) * 16 ≤ v) | none => false
/-- A temperature is at or below a threshold in °C. -/
def atMost (t : Option Int) (c : Nat) : Bool := match t with | some v => decide (v ≤ (c : Int) * 16) | none => false

/-- The Warning level (Table 15-2). -/
def warnLevel (b : Blk) : Blk :=
  let c := b.cht.cur.thermal
  if !b.therm.warn && atLeast b.temp c.warnC then assertPin 85 thermLoc (setErr .thm 0 (modTherm (fun t => { t with warn := true }) b))
  else if b.therm.warn && atMost b.temp c.warnClearC then modTherm (fun t => { t with warn := false }) b
  else b

/-- A hemisphere's Throttle level. -/
def Blk.throttled (b : Blk) (south : Bool) : Bool := if south then b.therm.thrS else b.therm.thrN
/-- A hemisphere's temperature. -/
def Blk.tempOf (b : Blk) (south : Bool) : Option Int := if south then b.tempS else b.tempN

/-- Set a hemisphere's Throttle level. -/
def setThrottle (south v : Bool) (b : Blk) : Blk := modTherm (fun t => if south then { t with thrS := v } else { t with thrN := v }) b

/-- A hemisphere's Throttle level (Table 15-2). -/
def throttleLevel (south : Bool) (b : Blk) : Blk :=
  let c := b.cht.cur.thermal
  if !b.throttled south && (atLeast (b.tempOf south) c.throttleC || b.forced south) then
    assertPin 85 thermLoc (setErrLog .thm 1 { kind := .fault, loc := thermLoc } (setThrottle south true b))
  else if b.throttled south && atMost (b.tempOf south) c.throttleClearC && !b.forced south then setThrottle south false b
  else b

/-- The conditions of the Shutdown level (Table 15-2, R400), and of its end (R403). -/
def Blk.tooHot (b : Blk) : Bool := atLeast b.temp b.cht.cur.thermal.shutdownC || decide (14 ≤ b.brokenIn false) || decide (14 ≤ b.brokenIn true)
def Blk.cooled (b : Blk) : Bool :=
  !b.hemisPowered && b.pwr.seq != .raising && b.pwr.seq != .lowering && decide (b.therm.downAt + 10000000 ≤ b.us) &&
  (List.range 32).all (fun n => match b.validTemp n with | some v => decide (v < 1600) | none => true)

/-- The Shutdown level: a thermal Dusk from D7 on, before it an off request (R401, R403, R404, R447). -/
def shutdownLevel (b : Blk) : Blk :=
  if !b.therm.shutdown && !b.therm.disarmed && b.tooHot then
    let b := setErrLog .thm 2 { kind := .fault, loc := thermLoc } (modTherm (fun t => { t with shutdown := true }) b)
    duskOrOff true false (assertPin 85 thermLoc b)
  else if b.therm.shutdown && b.cooled then noteOn b (modTherm (fun t => { t with shutdown := false }) b)
  else b

/-- SENSOR_SAMPLE: the sensors' samples of this millisecond, in 1/16 °C, and the levels that they raise or end (R398 to R401, R403). A sensor
without an entry gave no sample. While a system reset holds the registers, nothing is sampled. -/
def sensorSample (samples : SMap Int) (b : Blk) : Blk :=
  if b.pwr.sysRst then b
  else
    let b := samples.foldl sampleSensor b
    let b := modTherm (fun t => { t with peak := hotter t.peak b.temp }) b
    shutdownLevel (throttleLevel true (throttleLevel false (warnLevel b)))

/-- A hemisphere's next step k (R402). -/
def nextStep (b : Blk) (south : Bool) (k : Nat) : Nat :=
  let c := b.cht.cur.thermal
  if b.throttled south then
    if atLeast (b.tempOf south) c.throttleC || b.forced south then Nat.min (k + 1) c.maxStep else k
  else k - 1

/-- THROTTLE_STEP: every STEP_MS both steps rise, hold or fall; from the Dusk trigger they are frozen (R402, R404). See assumption 88 (DESIGN CHOICE). -/
def throttleStep (b : Blk) : Blk :=
  if b.therm.frozen || b.pwr.sysRst then b
  else modTherm (fun t => { t with stepN := nextStep b false t.stepN, stepS := nextStep b true t.stepS }) b

/-- HARD_TRIP: a valid reading of SHUTDOWN_C + 8 °C or more cuts every SEQ_EN at once, in every stage, and the rails stay off until the
Shutdown level clears (R405). -/
def hardTrip (n : Nat) (v : Int) (b : Blk) : Blk :=
  if 32 ≤ n || b.unpowered n || (b.sensor n).cause != 0 || v < ((b.cht.cur.thermal.shutdownC + 8 : Nat) : Int) * 16 then b
  else
    let b := modTherm (fun t => { t with shutdown := true }) (abortDawn b)
    setErrLog .thm 3 { kind := .fault, loc := sensorLoc n, detail := natLe 1 n ++ natLe 2 (signedBits 16 v) } (cutRails b)

end Sys2Proof.Machine
end

