-- ==== Sys2Proof/Machine/RegView.lean ====
section
/-!
DEFINITION. The management register space (chapter 19): where registers lie, what each reads, its reset class, and what it reads while a
reset of its class is under way (R475 to R479).
-/
namespace Sys2Proof.Machine
open Sys2Proof

/-- A register's value as it stands, the bits of its fields marked ST, and its Reset values. -/
structure Reg where
  live : W64
  st : W64 := 0
  rst : W64 := 0

/-- A register that reads a number. -/
def numReg (n : Nat) : Option Reg := some { live := BitVec.ofNat 64 n }

/-- A register whose fields are all marked ST. -/
def stReg (w : W64) : Option Reg := some { live := w, st := ones64 }

/-- An ERR register; `plain` are its bits not marked ST. -/
def errReg (b : Blk) (r : ErrReg) : Option Reg := some { live := b.err r, st := ones64 &&& ~~~(errNonSt r.key) }

/-- An epoch or count that is absent reads all ones. -/
def orOnes (n : Option Nat) : Nat := n.getD ones64.toNat

/-- Entry `n` of an array of 64-bit registers from `base`, if the offset is one of its `k` entries. -/
def arrayIx (off base k : Nat) : Option Nat :=
  if base ≤ off ∧ off < base + 8 * k ∧ (off - base) % 8 = 0 then some ((off - base) / 8) else none

/-- Eight bytes of a byte string as a register value, little-endian (R5). -/
def wordAt (bs : List Byte) (n : Nat) : W64 := BitVec.ofNat 64 (uAt bs (8 * n) 8)

/-- A temperature of a THM_ register: signed 1/16 °C, 0x8000 for none (R408). -/
def tempBits (t : Option Int) : Nat := match t with | some v => signedBits 16 v | none => 0x8000

/-! ### The windows -/

/-- CHT (Tables 2-8 to 2-12). The registers of the system class read zero until D3 loads them (R63). See assumption 111 (DEDUCED). -/
def chtReg (b : Blk) (off : Nat) : Option Reg :=
  let c := b.cht
  let v : Nat → Option Reg := fun n => numReg (if c.loaded then n else 0)
  match off with
  | 0x00 => numReg 0
  | 0x08 => numReg 0
  | 0x10 => some { live := view [place c.state.code 4 0, placeBit c.seqErr 4, place c.reason.code 8 8, place c.sect 16 16, place c.buf.length 21 32] }
  | 0x18 => numReg (c.offset % 2 ^ 32)
  | 0x20 => v (c.cur.serial + (if c.cur.isDefault then 2 ^ 32 else 0) + (if c.apply.isSome then 2 ^ 33 else 0))
  | 0x28 => v c.slotRec.floor
  | 0x30 => v c.applyEpoch
  | 0x38 => v (c.mode.code + (if c.isB then 4 else 0))
  | _ => (arrayIx off 0x40 8).bind (fun n => v (c.cur.digest.toNat / 2 ^ (64 * n)))

/-- MER (Tables 3-7 to 3-9). -/
def merReg (b : Blk) (off : Nat) : Option Reg :=
  let m := b.mer
  match off with
  | 0x00 => some { live := view [place m.state.code 3 0, placeBit (m.capable && !m.holdAtFloor) 3, place m.body.source 2 4, placeBit b.flagging 6, place m.frameFlags 8 8, place m.runReason 4 16] }
  | 0x08 => numReg m.count
  | 0x10 => numReg b.epoch
  | 0x18 => numReg (m.sealedEpoch.getD 0)
  | 0x20 => numReg (signedBits 32 m.offsetNs)
  | 0x28 => numReg (m.drift % 2 ^ 32)
  | 0x30 => numReg m.drTicks
  | 0x38 => numReg m.frameLast
  | 0x40 => numReg m.runFirst
  | 0x48 => numReg (if m.runOpen then ones64.toNat else m.runLast.getD 0)
  | 0x50 => errReg b .mer
  | _ => none

/-- A write held of a host on port `p` by the lease gate, an Eclipse or the Dusk trigger (HP_STATUS.HOLDING). -/
def HeldReq.holdsPort (p : Nat) (h : HeldReq) : Bool :=
  (match h.why with | .gate _ => true | .dusk => true | _ => false) && h.req.write.isSome &&
  (match h.req.src with | .host n _ => n / 16 == p | _ => false)

/-- HP (Tables 4-10 to 4-12), port `p`. -/
def hpReg (b : Blk) (p off : Nat) : Option Reg :=
  let x := b.port p
  match off with
  | 0x00 => some { live := view [place x.speed 3 0, place x.width 3 3, placeBit x.flit256 6, placeBit x.cxlMem 7, placeBit x.ideActive 8, placeBit (x.ideInsecure || x.ideIoInsecure) 9,
      placeBit (b.host.held.any (fun h => h.holdsPort p)) 10, place x.present 16 12] }
  | 0x08 => some { live := view [placeBit x.disable 0, placeBit x.retrain 1, place x.biTimeout 6 8], rst := 0x800 }
  | 0x10 => errReg b (.hp p)
  | 0x18 => stReg (BitVec.ofNat 64 x.viol)
  | _ => none

/-- Masked Halo entries of a quadrant. -/
def Blk.maskedIn (b : Blk) (q : Nat) : Nat := (b.halo.masked.filter (fun k => k / 2 ^ 19 == q)).length

/-- HAL (Tables 5-7, 5-8). -/
def halReg (b : Blk) (off : Nat) : Option Reg :=
  match off with
  | 0x00 => some { live := view [placeBit b.halo.fatal 0, placeBit b.halo.holding 1, place (b.detector 0).streams.length 7 2, place (b.detector 1).streams.length 7 9,
      place (b.mbCount 0) 13 16, place (b.mbCount 1) 13 29], st := 1 }
  | 0x08 => errReg b .hal
  | 0x10 => some { live := b.halo.errLoc, st := ones64, rst := ones64 }
  | 0x18 => stReg b.halo.errAddr
  | 0x20 => some { live := view ((List.range 4).map (fun q => place (b.maskedIn q) 16 (16 * q))) }
  | _ => none

/-- DRM_CH_MARKSd (Table 6-14): mark (r mod 2) of rank r div 2. -/
def Chan.marksWord (c : Chan) (d : Nat) : W64 :=
  view ((List.range 8).flatMap (fun r =>
    match (c.marks.filter (fun (m : Nat × Nat × Nat) => m.1 == d && m.2.1 == r / 2))[r % 2]? with
    | some m => [place m.2.2 5 (8 * r), placeBit true (8 * r + 7)]
    | none => []))

/-- ZERO pages that the fill has still to take (DRM_GLB_FILL). -/
def Blk.zeroPages (b : Blk) : Nat :=
  let top := ((b.cht.cur.near.sets.map (fun s => s.sizeGib * gib)).foldl (· + ·) 0 - carveSize b.cht.cur.near 1) / 4096
  let runs := b.dram.presRuns
  let z := if b.dram.presBase = .zero then top - (runs.map (fun r => r.2.1)).foldl (· + ·) 0 else 0
  let z := z + ((runs.filter (fun r => r.2.2 == .zero)).map (fun r => r.2.1)).foldl (· + ·) 0
  z - SMap.count b.dram.pres (fun p v => v != .zero && b.presDefault p == .zero) + SMap.count b.dram.pres (fun p v => v == .zero && b.presDefault p != .zero)

/-- DRM globals (Table 6-17), which read the same in every channel's sub-window. -/
def drmGlobal (b : Blk) (off : Nat) : Option Reg :=
  let d := b.dram
  match off with
  | 0x800 => some { live := view [place d.rate 4 0, placeBit d.hotInterval 4, place d.trfc 10 8, place d.fill 2 18, placeBit b.cht.cur.near.fastBringUp 20] }
  | 0x808 => numReg (if d.fill = 1 then b.zeroPages % 2 ^ 32 else 0)
  | 0x810 => some { live := view [place d.scrubLines 16 0, placeBit d.scrubOn 16], rst := 0x10000 }
  | 0x818 => numReg (d.scrubPasses % 2 ^ 32)
  | 0x820 => numReg (d.retain % 2 ^ 32)
  | _ => none

/-- DRM (Tables 6-12 to 6-17), channel `n`. The capture is all RO/ST. -/
def drmReg (b : Blk) (n off : Nat) : Option Reg :=
  let c := b.chan n
  let cap := c.cap
  match off with
  | 0x000 => some { live := view [place c.state.code 3 0, placeBit c.hot 3, place c.dimms 2 4,
      place (if c.ranks = 4 then 2 else if c.ranks = 2 then 1 else 0) 2 6, place c.density 2 8, placeBit c.retained 10, place c.capGib 12 12, place c.marks.length 5 24] }
  | 0x008 => numReg 0
  | 0x010 => some { live := c.diagLoc }
  | 0x018 => some { live := c.marksWord 0 }
  | 0x020 => some { live := c.marksWord 1 }
  | 0x028 => errReg b (.drm n)
  | 0x030 => stReg (BitVec.ofNat 64 c.ce)
  | 0x100 => stReg (view [place cap.cause 2 0, place cap.source 2 2, place cap.code 1 4, place cap.rqDepth 8 5, place cap.wqDepth 9 13])
  | 0x108 => stReg cap.media
  | 0x110 => stReg (view [place cap.addr 43 0])
  | 0x118 => stReg (BitVec.ofNat 64 cap.count)
  | 0x120 => stReg (BitVec.ofNat 64 cap.cmd)
  | _ =>
    match arrayIx off 0x128 8, arrayIx off 0x180 20, arrayIx off 0x280 16 with
    | some j, _, _ => stReg (cap.synd.getD j 0)
    | _, some i, _ => stReg (cap.raw.getD i 0)
    | _, _, some k => stReg (cap.hist.getD k 0)
    | _, _, _ => drmGlobal b off

/-- PER (Tables 7-11 to 7-13). -/
def perReg (b : Blk) (off : Nat) : Option Reg :=
  let p := b.pers
  let v : Nat → Option Reg := fun n => numReg (if b.nvf.scanned then n else 0)
  match off with
  | 0x00 => some { live := if b.nvf.scanned then view [place b.gov.code 3 0, placeBit p.degraded 3, placeBit b.folding 4, placeBit (b.pendingCount != 0) 5, placeBit p.calDone 6,
      placeBit b.cht.cur.pers.energy 7, place p.live.length 8 8] else 0 }
  | 0x08 => v b.dirtyBytes
  | 0x10 => v b.ceiling
  | 0x18 => v b.ceilE
  | 0x20 => v b.ceilJ
  | 0x28 => stReg (view [place p.rSave 48 0])
  | 0x30 => v (if p.rSave = 0 then 0 else (200000 + energyCeiling b.cht.cur.pers b.cht.cur.pers.normal p.rSave * 390000 / p.rSave) % 2 ^ 32)
  | 0x38 => numReg (signedBits 64 p.credit)
  | 0x40 => v b.refill
  | 0x48 => stReg (BitVec.ofNat 64 p.overdraw)
  | 0x50 => some { live := view [place (if b.nvf.scanned then b.pendingCount else 0) 32 0, place (Nat.min p.restored 0xFFFFFFFF) 32 32] }
  | 0x58 => some { live := view [place p.rwb 48 0] }
  | 0x60 => numReg (if b.nvf.scanned then orOnes p.saveGen else 0)
  | 0x68 => some { live := view [place p.saveResult 2 0, placeBit p.saveThermal 2, place (Nat.min p.lostPages 0xFFFFFFFF) 32 32] }
  | 0x70 => errReg b .per
  | _ => none

/-- Dies retired and not re-admitted. -/
def Blk.retiredDies (b : Blk) : Nat := b.nvf.dies.countP (fun (e : Nat × Die) => e.2.state == .retired)

/-- Stripes still to rebuild, with the pages of each that are lost. -/
def Blk.rebuildStripes (b : Blk) : List (Nat × Nat) :=
  let ss := (b.nvf.rebuildTodo.map (·.1)).eraseDups
  ss.map (fun s => (s, b.nvf.rebuildTodo.countP (fun x => x.1 == s)))

/-- Zones of older generations that hold current units (NVF_RESHAPE). -/
def Blk.oldZones (b : Blk) : Nat :=
  b.nvf.zones.countP (fun (e : Nat × Zone) => e.2.gen != b.layout.gen && b.zoneLoad e.1 != 0)

/-- Layout generations in use: those of zones that hold current units, and the newest. -/
def Blk.oldestGen (b : Blk) : Nat :=
  b.nvf.zones.foldl (fun m (e : Nat × Zone) => if b.zoneLoad e.1 != 0 then Nat.min m e.2.gen else m) b.layout.gen

/-- NVF_RAW_DATA, word `i`: the bytes of the last RAW_READ, all ones beyond them (R235). -/
def Blk.rawWord (b : Blk) (i : Nat) : W64 :=
  BitVec.ofNat 64 (leNat ((List.range 8).map (fun k => b.nvf.rawData.getD (8 * i + k) 0xFF)))

/-- NVF (Tables 8-6 to 8-10). -/
def nvfReg (b : Blk) (off : Nat) : Option Reg :=
  let n := b.nvf
  match off with
  | 0x00 => some { live := if !n.scanned then 0 else view [place b.layout.members.length 9 0, place b.retiredDies 9 9, placeBit n.rebuilding 18, placeBit n.reshaping 19, placeBit b.patrolling 20,
      placeBit n.starved 21, placeBit (n.stripes.any (fun (e : Nat × Stripe) => !e.2.lost.isEmpty)) 22, place b.layout.gen 16 24, place (Nat.min b.freeTlc 0xFFFF) 16 40] }
  | 0x08 => numReg 0
  | 0x10 => some { live := n.rawLoc }
  | 0x18 => numReg n.rawResult
  | 0x20 => some { live := view [place b.rebuildStripes.length 40 0, place (b.rebuildStripes.countP (fun x => decide (2 ≤ x.2))) 24 40] }
  | 0x28 => some { live := view [place n.patrolRate 32 0, place n.patrolPasses 32 32] }
  | 0x30 => stReg (view [place n.attributed 32 0, place n.unattributed 32 32])
  | 0x38 => stReg (view [place n.lostStripes 32 0, place n.farPoisoned 32 32])
  | 0x40 => some { live := if !n.scanned then 0 else view [place (n.rep0.die.getD 0) 8 0, place (n.rep1.die.getD 0) 8 8, placeBit n.rep0.valid 16, placeBit n.rep1.valid 17] }
  | 0x48 => some { live := if !n.scanned then 0 else view [place b.oldestGen 16 0, place b.layout.gen 16 16, place b.oldZones 32 32] }
  | 0x50 => errReg b .nvf
  | _ =>
    match arrayIx off 0x1000 256, arrayIx off 0x8000 2304 with
    | some g, _ =>
      let d := b.die g
      some { live := view [place (if n.found then d.state.code else 0) 3 0, place d.cause 4 3, placeBit (n.scanned && (n.rep0.die == some g || n.rep1.die == some g)) 7, place d.grownBad 16 8], st := 0xFFFF78 }
    | _, some i => some { live := b.rawWord i }
    | _, _ => none

/-- TRN (Tables 9-13, 9-14). -/
def trnReg (b : Blk) (off : Nat) : Option Reg :=
  let f := b.far
  let dir : (StageEntry → Bool) → Nat := fun p => f.dir.countP (fun (e : Nat × StageEntry) => p e.2)
  match off with
  | 0x00 => some { live := view [placeBit b.cht.cur.transit.enable 0, place (f.windows.countP (fun (e : Nat × TrnWindow) => e.2.state == .running)) 9 1,
      place ((f.windows.map (fun (e : Nat × TrnWindow) => e.2.slots.countP (fun (s : Nat × TrnSlot) => s.2.state == .urgent))).foldl (· + ·) 0) 14 10] }
  | 0x08 => some { live := view [place (16 * b.stageSets) 32 0, place (dir (fun e => e.count != 0)) 32 32] }
  | 0x10 => some { live := view [place (dir (fun e => e.state == .dirty || e.state == .writing)) 32 0, place (dir (fun e => e.state == .filling)) 32 32] }
  | 0x18 => errReg b .trn
  | 0x20 => stReg (BitVec.ofNat 64 f.lateCount)
  | 0x28 => stReg f.lastLate
  | _ => (arrayIx off 0x1000 256).bind (fun w =>
      let x := b.window w
      match b.cht.cur.transit.windows.find? (fun c => c.window == w) with
      | some c => some { live := view [place x.state.code 2 0, place c.owner 6 2, place c.unit 1 8, place x.nextFill 32 9] }
      | none => numReg 0)

/-- TWN and CRN (Tables 10-11 to 10-14). -/
def twnReg (b : Blk) (off : Nat) : Option Reg :=
  let t := b.twin
  let lease : Nat → Option Reg := fun h => some { live := BitVec.ofNat 64 (orOnes (b.half h).expiry), rst := ones64 }
  let fenceReg : Nat → Option Reg := fun h =>
    some { live := match b.fenceAt h with | some x => BitVec.ofNat 64 (signedBits 64 x) | none => ones64, rst := ones64 }
  match off with
  | 0x00 => some { live := view [place (b.half 0).role.code 2 0, place (b.half 1).role.code 2 2, place b.linkField 2 4, placeBit t.stale 6, placeBit t.alone 7,
      placeBit t.syncing 8, placeBit t.arbUp 9, placeBit b.fenceEarly 10] }
  | 0x08 => lease 0
  | 0x10 => fenceReg 0
  | 0x18 => lease 1
  | 0x20 => fenceReg 1
  | 0x28 => some { live := BitVec.ofNat 64 (orOnes t.shipped), rst := ones64 }
  | 0x30 => some { live := BitVec.ofNat 64 (orOnes (t.coldHeld.filter (fun _ => b.nvf.scanned))), rst := ones64 }
  | 0x38 => some { live := view [place (if b.nvf.scanned then t.deltas.countP (fun d => d.complete) else 0) 8 0, place t.shipList.length 21 8, place t.captures.length 19 29] }
  | 0x40 => some { live := view [place b.syncLeft 40 0, placeBit b.syncCopy 40] }
  | 0x48 => stReg (BitVec.ofNat 64 t.divergent)
  | 0x50 => stReg (BitVec.ofNat 64 t.eclipseStart)
  | 0x58 => stReg (BitVec.ofNat 64 t.eclipseEnd)
  | 0x60 => numReg 0
  | 0x68 => errReg b .twn
  | 0x8000 => some { live := view [place (b.link 0).width 4 0, place (b.link 1).width 4 4, placeBit (b.link 0).keyPhase 8, placeBit (b.link 1).keyPhase 9] }
  | 0x8008 => stReg (view [place t.replays 32 0, place (Nat.min t.retrains 0xFFFF) 16 32])
  | _ => none

/-- ORB (Tables 11-17, 11-18). -/
def orbReg (b : Blk) (off : Nat) : Option Reg :=
  let o := b.orb
  let c := b.cht.cur.orbit
  match off with
  | 0x00 => some { live := if b.cht.loaded then view [placeBit c.enable 0, placeBit c.ethMode 1, placeBit o.isOpen 2, placeBit (!o.window.isEmpty) 3,
      place (Sys2Proof.Machine.maskOf b.portsUp) 8 8, place b.node 16 16, place c.udpPort 16 32] else 0 }
  | 0x08 => some { live := view [place o.ctx.length 19 0, place o.queues.length 23 19, place o.miss.length 15 42] }
  | 0x10 => some { live := view [place (o.replayN.length + o.replayS.length) 17 0, place o.keyUsed.length 25 17, place (b.segsOf 0 + b.segsOf 1) 17 42] }
  | 0x18 => numReg o.openCount
  | 0x20 => errReg b .orb
  | 0x28 => stReg (view [place o.missDrops 32 0, place o.authDrops 32 32])
  | 0x30 => stReg (view [place o.retransmits 32 0, place o.naksSent 32 32])
  | _ => (arrayIx off 0x100 8).map (fun p =>
      let x := SMap.get EthPort.down o.ports p
      { live := view [placeBit x.up 0, place x.medium 2 1, place x.fec 32 32], st := 0xFFFFFFFF00000000 })

/-- CPH (Tables 12-16, 12-17). The slot registers describe the slot that CPH_SLOT_SEL names. -/
def cphReg (b : Blk) (off : Nat) : Option Reg :=
  let c := b.cht.cur.cipher
  let s := b.slot b.cph.slotSel
  let slots : KeyState → Nat := fun k => b.cph.slots.countP (fun (e : Nat × KeySlot) => decide (32 ≤ e.1) && e.2.state == k)
  match off with
  | 0x00 => some { live := if b.cht.loaded then view [placeBit c.ranges 0, placeBit c.pages 1, place c.shareOrbit 5 2, place c.shareCrn 5 7, place c.shareMedia 5 12,
      place c.shareQueue 5 17, place c.xtsQueueShare 4 22, placeBit b.cph.countsClean 26] else 0 }
  | 0x08 => numReg 0
  | 0x10 => some { live := view [place b.cph.cmd.state 2 0, place b.cph.cmd.unwrap 8 8, place b.cph.cmdSlot 13 16] }
  | 0x18 => numReg b.cph.slotSel
  | 0x20 => some { live := b.slotInfo b.cph.slotSel }
  | 0x28 => numReg s.count
  | 0x30 => numReg s.limit
  | 0x38 => numReg s.floor
  | 0x40 => numReg s.ldMask
  | 0x48 => errReg b .cph
  | 0x50 => some { live := view [place (slots .loaded) 13 0, place (slots .exhausted) 13 16, place (SMap.get 0 b.cph.verify 0 + SMap.get 0 b.cph.verify 1) 7 32] }
  | _ => (arrayIx off 0x100 18).bind (fun _ => numReg 0)

/-- LCS (Tables 13-8 to 13-10): D0 loads them from the fuses (R373). -/
def lcsReg (b : Blk) (off : Nat) : Option Reg :=
  let i := b.ident
  let owner : Nat → Option Reg := fun n => some { live := match i.ownerKeyId with | some k => wordAt k n | none => ones64, rst := ones64 }
  match off with
  | 0x00 => some { live := if i.loaded then view [place i.lc.code 2 0, placeBit i.debugOpen 2, placeBit i.ownerKeyId.isSome 3, placeBit i.aliasChain.isSome 4, placeBit i.fuse.returning 5,
      placeBit i.fuse.identityKey.isSome 6, placeBit b.scanOpen 7, place i.fuse.svn 7 8, place i.fuse.revoke.toNat 4 15] else 0 }
  | 0x08 => some { live := wordAt i.unitId 0 }
  | 0x10 => some { live := wordAt i.unitId 1 }
  | 0x18 => owner 0
  | 0x20 => owner 1
  | 0x100 => numReg 0
  | 0x108 => some { live := view [place i.state.code 2 0, place i.result 4 8, place i.lastOp 4 12] }
  | 0x110 => errReg b .lcs
  | _ =>
    match arrayIx off 0x40 8, arrayIx off 0x80 8, arrayIx off 0x200 64 with
    | some n, _, _ => some { live := if i.loaded then wordAt i.identityPub n else 0 }
    | _, some n, _ => some { live := if i.loaded then wordAt (b.aliasPub.getD []) n else 0 }
    | _, _, some n => some { live := wordAt (b.lcsBytes 0 512) n }
    | _, _, _ => none

/-- PSQ (Tables 14-9 to 14-11). D0 loads PSQ_DAWN and PSQ_CYCLES (R397). -/
def psqReg (b : Blk) (off : Nat) : Option Reg :=
  let p := b.pwr
  let seen := !b.mer.holdAtFloor
  match off with
  | 0x00 => some { live := view [place p.seq.code 3 0, placeBit p.holdOff 3, placeBit p.twilight 4, placeBit b.inDusk 5, place p.stage.code 4 6, place p.attempt 4 10, place p.en 16 16, place p.pg 16 32] }
  | 0x08 => numReg 0
  | 0x10 => some { live := if seen then view [place p.boot.failed 3 0, place b.dawnLimit 3 3, place p.boot.lastStage 3 6, place p.boot.lastReason.code 8 9, place p.boot.lastDetail 16 17] else 0 }
  | 0x18 => some { live := if p.logSeq = 0 then 0 else view [place ((p.logSeq - 1) % 16384) 14 0, placeBit (decide (16384 < p.logSeq)) 14] }
  | 0x20 => some { live := if seen then view [place p.boot.cycles 32 0, place p.boot.hours 32 32] else 0 }
  | 0x28 => errReg b .psq
  | _ => (arrayIx off 0x40 8).bind (fun n => numReg (SMap.get 0 p.stageUs n))

/-- THM (Tables 15-5, 15-6). -/
def thmReg (b : Blk) (off : Nat) : Option Reg :=
  let t := b.therm
  let none4 : W64 := 0x8000800080008000
  match off with
  | 0x00 => some { live := view [placeBit t.warn 0, placeBit t.thrN 1, placeBit t.thrS 2, placeBit t.shutdown 3, placeBit (b.forced false) 4, placeBit (b.forced true) 5,
      place t.stepN 4 6, place t.stepS 4 10, placeBit (t.dimms.any (fun (e : Nat × DimmTemp) => e.2.throttling)) 14] }
  | 0x08 => some { live := view [place (tempBits b.temp) 16 0, place (tempBits b.tempN) 16 16, place (tempBits b.tempS) 16 32, place (tempBits b.tempH) 16 48], rst := none4 }
  | 0x10 => some { live := view [place (tempBits t.peak) 16 0, place (tempBits t.peakDimm) 16 16], st := ones64 }
  | 0x18 => numReg (Sys2Proof.Machine.maskOf ((List.range 32).filter (fun n => !b.unpowered n && (b.sensor n).cause != 0)))
  | 0x20 => errReg b .thm
  | _ =>
    match arrayIx off 0x100 32, arrayIx off 0x200 32 with
    | some n, _ => some { live := view [place (tempBits (b.sensor n).reading) 16 0, place (b.sensor n).cause 2 16, placeBit (b.unpowered n) 18], rst := 0x8000 }
    | _, some n => some { live := view [place (tempBits (b.dimm n).reading) 16 0, placeBit (b.dimm n).failed 16, placeBit (b.dimm n).throttling 17], rst := 0x8000 }
    | _, _ => none

/-- ALERT_N is driven low while any status bit is set (R411). -/
def Blk.alertLow (b : Blk) : Bool := b.flt.status != 0

/-- FLT (Table 16-9). -/
def fltReg (b : Blk) (off : Nat) : Option Reg :=
  let f := b.flt
  match off with
  | 0x00 => stReg (f.status.setWidth 64)
  | 0x08 => stReg ((f.status >>> 64).setWidth 64)
  | 0x10 => some { live := view [place f.firstPin 7 0, placeBit f.firstValid 7, placeBit f.overflow 8, placeBit b.alertLow 9], st := 0x1FF }
  | 0x18 => some { live := f.firstLoc, st := ones64, rst := ones64 }
  | 0x20 => stReg (BitVec.ofNat 64 f.firstCount)
  | 0x28 => stReg (BitVec.ofNat 64 f.firstUs)
  | _ => none

/-- A programmed Logbook record by its RECORD_SEQ. -/
def Logbook.record (l : Logbook) (seq : Nat) : Option LogRec := (List.find? (fun (e : Nat × LogRec) => e.2.seq == seq) l.recs).map (fun (e : Nat × LogRec) => e.2)

/-- Newest and oldest RECORD_SEQ in the Logbook; 0 for none. -/
def Logbook.newest (l : Logbook) : Nat := (l.recs.map (fun (e : Nat × LogRec) => e.2.seq)).foldl Nat.max 0
def Logbook.oldest (l : Logbook) : Nat :=
  match l.recs.map (fun (e : Nat × LogRec) => e.2.seq) with | [] => 0 | s :: ss => ss.foldl Nat.min s

/-- Bytes of an Almanac record (Table 16-6). -/
def AlmRec.bytes (r : AlmRec) : List Byte :=
  let edge : Option Int → List Byte := fun v => match v with | some v => natLe 8 (signedBits 64 v) | none => List.replicate 8 0xFF
  natLe 8 r.seq ++ natLe 2 r.metric ++ natLe 2 r.inst ++ [if r.rate then 1 else 0, if r.log2 then 1 else 0] ++ natLe 1 r.current ++ [0] ++
  natLe 8 (signedBits 64 r.low) ++ natLe 8 r.width ++ natLe 8 r.samples ++ edge r.min ++ edge r.max ++ natLe 4 r.hours ++ natLe 4 r.cycles ++
  (List.range 32).flatMap (fun i => natLe 4 (SMap.get 0 r.bins i)) ++ List.replicate 24 0 ++ natLe 8 r.seq

/-- The 128 KiB of an Almanac image (R430): header, event counters, records, and the valid mark with its SHAKE256 digest. See assumption 151 (DEDUCED). -/
def AlmImage.bytes (a : AlmImage) : List Byte :=
  let fill := fun (n : Nat) (l : List Byte) => l ++ List.replicate (n - l.length) 0xFF
  let head := natLe 4 0x4E4D4C41 ++ natLe 8 a.seq ++ natLe 4 a.hours ++ natLe 4 a.cycles ++ natLe 4 a.cause ++ natLe 4 a.dropped ++ natLe 4 0
  let counts := (List.range 608).flatMap (fun i => natLe 4 (SMap.get 0 a.events i))
  let recs := (List.range 512).flatMap (fun s => match SMap.find? a.recs s with | some r => r.bytes | none => List.replicate 224 0xFF)
  let body := fill 0x1FFE0 (fill 0x1000 (head ++ counts) ++ recs)
  body ++ natLe 4 0x4B524D41 ++ natLe 8 a.seq ++ (Config.shake256 64 body).take 16 ++ natLe 4 0

/-- The 224 bytes of an Almanac slot; all ones for an absent record (R439). -/
def Blk.almBytes (b : Blk) (slot : Nat) : List Byte :=
  match SMap.find? b.alm.recs slot with | some r => r.bytes | none => List.replicate 224 0xFF

/-- LOG and ALM (Tables 16-10, 16-11, R439). -/
def logReg (b : Blk) (off : Nat) : Option Reg :=
  let l := b.logbook
  let a := b.alm
  match off with
  | 0x0000 => some { live := view [place l.head 8 0, place l.headPos 9 8, place l.spare 8 17, place (64 - l.erases) 6 25, placeBit l.unsealed 31, place l.skipped.length 8 32] }
  | 0x0008 => numReg l.newest
  | 0x0010 => numReg l.oldest
  | 0x0018 => some { live := l.sel }
  | 0x0030 => errReg b .log
  | 0x0038 => stReg (BitVec.ofNat 64 l.lost)
  | 0x8000 => some { live := view [placeBit a.frozen 0, placeBit (b.efl.jobs.contains (.almImage 2)) 1] }
  | 0x8008 => some { live := view [placeBit a.frozen 0, placeBit a.storing.isSome 1, place a.slot 5 2] }
  | 0x8010 => numReg a.dropped
  | 0x8018 => numReg a.imageSeq
  | 0x8020 => numReg a.sel
  | 0x8028 => errReg b .alm
  | _ =>
    match arrayIx off 0x100 8, arrayIx off 0x8100 28, arrayIx off 0x9000 304 with
    | some n, _, _ => some { live := match l.record l.sel.toNat with | some r => wordAt r.bytes n | none => ones64 }
    | _, some n, _ => some { live := wordAt (b.almBytes a.sel) n }
    | _, _, some n => some { live := view [place (SMap.get 0 a.events (2 * n)) 32 0, place (SMap.get 0 a.events (2 * n + 1)) 32 32] }
    | _, _, _ => none

/-- The sector of an eFlash job (Table 16-8); 0 where the job does not name one. -/
def Blk.jobSector (b : Blk) (j : EflJob) : Nat :=
  match j with
  | .erase s => s
  | .logRecord => 576 + b.logbook.head
  | .almImage _ => 832 + 4 * ((b.alm.slot + 1 + b.alm.used) % 32)
  | .chartSlot n => 512 + 32 * n
  | .firmware n => 256 * n
  | .keyRecords => 960
  | .bootRecord => 960

/-- EFL (Table 16-12). -/
def eflReg (b : Blk) (off : Nat) : Option Reg :=
  let e := b.efl
  match off with
  | 0x00 =>
    let op := match e.cur, e.susp with | some (.erase _), _ => 2 | some _, _ => 1 | none, some _ => 3 | none, none => 0
    let sector := match e.cur, e.susp with | some j, _ => b.jobSector j | none, some s => s | none, none => 0
    some { live := view [place op 2 0, place sector 10 2, place e.begunAtD0 10 12] }
  | 0x08 => errReg b .efl
  | 0x10 => numReg e.suspends
  | 0x18 => numReg e.erases
  | _ => none

/-- A bank's register (Table 18-11). -/
def BankInfo.word (i : BankInfo) : W64 := view [place i.version 32 0, place i.svn 7 32, place i.result.code 4 39]

/-- MGT (Tables 18-10 to 18-12). -/
def mgtReg (b : Blk) (off : Nat) : Option Reg :=
  let m := b.mgt
  match off with
  | 0x00 => some { live := view [place m.eid 8 0, place m.daddrA 7 8, place m.daddrB 7 15, place m.active 1 22, placeBit m.trial 23, placeBit m.pendingReset 24,
      place m.update.code 3 25, place (b.ident.sessions.countP (fun s => s.established)) 4 28] }
  | 0x08 => some { live := view [placeBit m.permit.openStage 0, placeBit m.permit.openControl 1, placeBit m.permit.injectPoison 2, placeBit m.permit.openUpdate 3] }
  | 0x10 => some { live := match m.running with | some r => view [place r.version 32 0, place r.svn 7 32] | none => 0 }
  | 0x18 => some { live := m.infoA.word }
  | 0x20 => some { live := m.infoB.word }
  | 0x28 => errReg b .mgt
  | _ => none

/-! ### The space (R475 to R479) -/

/-- The register space ends here (R475). -/
def regSpaceEnd : Nat := 0x120000

/-- The register at an address of the management space; none where no register lies. -/
def regAt (b : Blk) (a : Nat) : Option Reg :=
  let off := a % 0x10000
  if off % 8 ≠ 0 then none
  else match a / 0x10000 with
  | 0x0 => chtReg b off | 0x1 => merReg b off | 0x2 => hpReg b (off / 0x4000) (off % 0x4000) | 0x3 => halReg b off
  | 0x4 => drmReg b (off / 0x1000) (off % 0x1000) | 0x5 => perReg b off | 0x6 => nvfReg b off | 0x7 => trnReg b off | 0x8 => twnReg b off
  | 0x9 => orbReg b off | 0xA => cphReg b off | 0xB => lcsReg b off | 0xC => psqReg b off | 0xD => thmReg b off | 0xE => fltReg b off
  | 0xF => logReg b off | 0x10 => eflReg b off | 0x11 => mgtReg b off
  | _ => none

/-- Is a reset of the register's class, or of a stronger class, under way (R479, Table 19-1)? -/
def Blk.regInReset (b : Blk) (a : Nat) : Bool :=
  let off := a % 0x10000
  match a / 0x10000 with
  | 0x0 => b.pwr.sysRst || (decide (off < 0x20) && b.fw.restarting)
  | 0x2 => b.pwr.sysRst || (off % 0x4000 == 0 && (b.port (off / 0x4000)).inReset)
  | 0x1 => false | 0xC => false | 0xF => false | 0x10 => false | 0x11 => false
  | _ => b.pwr.sysRst

/-- What a register reads: during its reset the Reset values, but for fields marked ST. -/
def Reg.value (r : Reg) (inReset : Bool) : W64 := if inReset then (r.live &&& r.st) ||| (r.rst &&& ~~~r.st) else r.live

/-- A read of the management register space: a misaligned one reads all ones (R6), an offset that no register occupies reads zero (R476). -/
def Blk.regRead (b : Blk) (a : Nat) : W64 :=
  if a % 8 ≠ 0 then ones64
  else match regAt b a with | some r => r.value (b.regInReset a) | none => 0

end Sys2Proof.Machine
end

