-- ==== Sys2Proof/Machine/RegWrite.lean ====
section
/-!
DEFINITION. Writes to the management register space and to a logical device's register window: the access types of Table 0-4 applied to each
register, requests and commands turned into the operations of their chapters (R476 to R481).
-/
namespace Sys2Proof.Machine
open Sys2Proof

/-- CHT_STAGE_CMD (Table 2-6); a value that the table does not name does nothing. See assumption 45 (DEDUCED). -/
def stageCommandReg (op : Nat) (b : Blk) : Blk :=
  match op with
  | 1 => stageOpen b | 2 => stageVerify b | 3 => commitDawn b | 4 => commitLive b | 5 => stageDiscard b
  | _ => b

/-- DRM_CH_CMD (Table 6-13); any other OP sets CMD_ERR. -/
def drmCommand (e : RegEnv) (c : Nat) (w : W64) (b : Blk) : Blk :=
  let rank := fieldOf w 5 4; let dimm := fieldOf w 6 6; let pos := fieldOf w 11 7
  match fieldOf w 3 0 with
  | 1 => drmThaw c e.twin b | 2 => drmMark c dimm rank pos b | 3 => drmUnmark c dimm rank pos b | 4 => drmDiagRead c e.phys b
  | _ => drmRefuse c b

/-- NVF_CMD (Table 8-7); any other OP sets CMD_ERR. -/
def nvfCommand (w : W64) (b : Blk) : Blk :=
  let g := fieldOf w 11 4
  match fieldOf w 3 0 with
  | 1 => startRebuildCmd b | 2 => admitDie g b | 3 => retireCmd g b | 4 => rawRead b | 5 => patrolPause b | 6 => patrolResume b
  | _ => nvfRefuse b

/-- TWN_CMD (Table 10-13). -/
def twnCommand (w : W64) (b : Blk) : Blk :=
  match fieldOf w 3 0 with | 1 => audit b | 2 => twnRelease (fieldOf w 4 4) b | _ => twnBadOp b

/-- LCS_CMD (Tables 13-10, 13-11). -/
def lcsCommand (e : RegEnv) (w : W64) (b : Blk) : Blk :=
  let arg := fieldOf w 31 16
  match fieldOf w 3 0 with
  | 1 => installOwner e.run b | 2 => aliasBind b | 3 => installAliasChain arg b | 4 => lcsSeal e.run b | 5 => debugChallenge b
  | 6 => debugUnlock b | 7 => returnChallenge b | 8 => lcsReturn arg e.run b | 9 => commitSvn e.run b
  | op => lcsUnknown op b

/-- PSQ_CMD (Table 14-10). -/
def psqCommand (w : W64) (b : Blk) : Blk :=
  match fieldOf w 3 0 with | 1 => psqOn b | 2 => psqOff b | 3 => psqCycle b | 4 => psqDawnRetry b | _ => psqBadOp b

/-- HP_CTRL (Table 4-11). -/
def hpControl (e : RegEnv) (p : Nat) (w : W64) (b : Blk) : Blk :=
  let b := portBiTimeout p (fieldOf w 13 8) (portDisable e.phys p (w.getLsbD 0) b)
  if w.getLsbD 1 then retrainPort p b else b

/-- ALM_CTRL (Table 16-11): FREEZE is written; STORE and CLEAR are requests. -/
def almControl (w : W64) (b : Blk) : Blk :=
  let b := almFreeze (w.getLsbD 0) b
  let b := if w.getLsbD 1 then almStore b else b
  if w.getLsbD 2 then almClear b else b

/-- Clear RW1C bits of an ERR register, if the offset is its. -/
def clearAt (hit : Bool) (r : ErrReg) (w : W64) (b : Blk) : Blk := if hit then clearErr r w b else b

/-- DRM_CH_ registers of channel `n`, and the global DRM_GLB_SCRUB in every sub-window. -/
def drmWrite (e : RegEnv) (n off : Nat) (w : W64) (b : Blk) : Blk :=
  match off with
  | 0x008 => drmCommand e n w b
  | 0x010 => modChan n (fun c => { c with diagLoc := w }) b
  | 0x028 => clearErr (.drm n) w b
  | 0x810 => { b with dram := { b.dram with scrubLines := fieldOf w 15 0, scrubOn := w.getLsbD 16 } }
  | _ => b

/-- MGT_PERMIT, with its copy in the boot records (R467). -/
def setPermit (w : W64) (b : Blk) : Blk :=
  let p : Permit := { openStage := w.getLsbD 0, openControl := w.getLsbD 1, injectPoison := w.getLsbD 2, openUpdate := w.getLsbD 3 }
  addJob .bootRecord { b with mgt := { b.mgt with permit := p, savedPermit := p } }

/-- The write of a register that is not in reset. Read-only registers and offsets that no register occupies ignore it (R7, R476). -/
def applyWrite (e : RegEnv) (a : Nat) (w : W64) (b : Blk) : Blk :=
  let off := a % 0x10000
  match a / 0x10000 with
  | 0x0 =>
    match off with
    | 0x00 => stageCommandReg (fieldOf w 3 0) b
    | 0x08 => stageData w b
    | 0x10 => if w.getLsbD 4 then { b with cht := { b.cht with seqErr := false } } else b
    | _ => b
  | 0x1 => clearAt (off == 0x50) .mer w b
  | 0x2 =>
    match off % 0x4000 with
    | 0x08 => hpControl e (off / 0x4000) w b
    | o => clearAt (o == 0x10) (.hp (off / 0x4000)) w b
  | 0x3 => clearAt (off == 0x08) .hal w b
  | 0x4 => drmWrite e (off / 0x1000) (off % 0x1000) w b
  | 0x5 => clearAt (off == 0x70) .per w b
  | 0x6 =>
    match off with
    | 0x08 => nvfCommand w b
    | 0x10 => modNvf (fun n => { n with rawLoc := w }) b
    | 0x28 => modNvf (fun n => { n with patrolRate := fieldOf w 31 0 }) b
    | o => clearAt (o == 0x50) .nvf w b
  | 0x7 => clearAt (off == 0x18) .trn w b
  | 0x8 => if off = 0x60 then twnCommand w b else clearAt (off == 0x68) .twn w b
  | 0x9 => clearAt (off == 0x20) .orb w b
  | 0xA =>
    match off with
    | 0x08 => mgmtCph (fieldOf w 3 0) (fieldOf w 16 4) b
    | 0x18 => modCph (fun c => { c with slotSel := fieldOf w 12 0 }) b
    | 0x48 => clearErr .cph w b
    | o => match arrayIx o 0x100 18 with | some n => modCph (fun c => { c with blob := SMap.put 0 c.blob n w }) b | none => b
  | 0xB =>
    match off with
    | 0x100 => lcsCommand e w b
    | 0x110 => clearErr .lcs w b
    | o => match arrayIx o 0x200 64 with
      | some n => if b.ident.state = .busy then b else putLcs (8 * n) (bitsBytes 8 w) b
      | none => b
  | 0xC => if off = 0x08 then psqCommand w b else clearAt (off == 0x28) .psq w b
  | 0xD => clearAt (off == 0x20) .thm w b
  | 0xE =>
    match off with
    | 0x00 => fltStatusClear (w.setWidth 128) e.pins b
    | 0x08 => fltStatusClear (w.setWidth 128 <<< 64) e.pins b
    | 0x10 => if w.getLsbD 7 then fltFirstRearm b else b
    | _ => b
  | 0xF =>
    match off with
    | 0x0018 => modLog (fun l => { l with sel := w }) b
    | 0x0030 => clearErr .log w b
    | 0x8000 => almControl w b
    | 0x8020 => modAlm (fun x => { x with sel := fieldOf w 8 0 }) b
    | o => clearAt (o == 0x8028) .alm w b
  | 0x10 => clearAt (off == 0x08) .efl w b
  | 0x11 => if off = 0x08 then setPermit w b else clearAt (off == 0x28) .mgt w b
  | _ => b

/-- A 64-bit aligned write to the management register space: while a reset of the register's class runs it is ignored and recorded (R479). -/
def regWrite (e : RegEnv) (a : Nat) (w : W64) (b : Blk) : Blk :=
  if b.regInReset a && (regAt b a).isSome then regViolation b else applyWrite e a w b

/-- A command that the opcode table gives a row of its own and that a register at `a` takes: in a reset of the register's class it is ignored
and recorded (R479). -/
def viaReg (a : Nat) (f : Blk → Blk) (b : Blk) : Blk := if b.regInReset a then regViolation b else f b

/-! ### A logical device's window (Table 19-2) -/

/-- A 64-bit register after a write of 4 or 8 bytes at an offset in it. -/
def mergeWrite (old : W64) (off size : Nat) (w : W64) : W64 :=
  if size = 8 then w
  else if off % 8 = 0 then (old &&& 0xFFFFFFFF00000000) ||| (w &&& 0xFFFFFFFF) else (old &&& 0xFFFFFFFF) ||| (w <<< 32)

/-- Bytes written into a buffer. -/
def bufWrite (m : SMap Byte) (at' : Nat) (bs : List Byte) : SMap Byte := bs.zipIdx.foldl (fun (m : SMap Byte) x => SMap.put 0 m (at' + x.2) x.1) m

/-- A descriptor with one of its four 64-bit words replaced. -/
def TrnDesc.setWord (d : TrnDesc) (i : Nat) (f : W64 → W64) : TrnDesc :=
  match i with
  | 0 => { d with src := (f (BitVec.ofNat 64 d.src)).toNat }
  | 1 => { d with word1 := (f (BitVec.ofNat 64 d.word1)).toNat }
  | 2 => { d with due := (f (BitVec.ofNat 64 d.due)).toNat }
  | _ => { d with word3 := (f (BitVec.ofNat 64 d.word3)).toNat }

/-- A write in the area of the i-th Transit window of a logical device (R256). -/
def trnAreaWrite (n i o size : Nat) (w : W64) (b : Blk) : Blk :=
  match b.ownWindow n i with
  | none => windowViolation n (0x2100000 + i * 0x40000 + o) false b
  | some c =>
    let x := b.window c.window
    if o / 8 = 0 then
      let v := mergeWrite (view [place x.listLen 13 12]) o size w
      let len := fieldOf v 24 12
      let b := if x.state != .running && decide (0 < len) && decide (len ≤ 4096) then modWindow c.window (fun y => { y with listLen := len }) b else b
      let b := if v.getLsbD 1 then trnStop n i b else b
      if v.getLsbD 0 then trnStart n i b else b
    else if o / 8 = 2 then (if o % 8 = 0 then trnRelease n i (fieldOf w 5 0) b else b)
    else if o < 0x28 || (decide (0x1000 ≤ o) && decide (o < 0x1000 + 8 * c.slots)) then b
    else if 0x20000 ≤ o then
      let k := (o - 0x20000) / 32
      modWindow c.window (fun y => { y with descs := SMap.upd TrnDesc.zero y.descs k (fun d => d.setWord (o % 32 / 8) (fun old => mergeWrite old o size w)) }) b
    else windowViolation n (0x2100000 + i * 0x40000 + o) false b

/-- A write in the register page (Table 12-10): ignored as a violation while BUSY and where no page is. -/
def pageWrite (n o size : Nat) (w : W64) (b : Blk) : Blk :=
  let p := b.page n
  if !b.cht.cur.cipher.pages || p.state = .busy then windowViolation n (0x2A00000 + o) false b
  else if o / 8 = 0 then
    let old := view [place p.op 3 1, place p.slot 13 4, place p.length 15 17, place p.aadLen 13 32]
    let v := mergeWrite old o size w
    if v.getLsbD 0 then pageGo n v b
    else modPage n (fun x => { x with op := fieldOf v 3 1, slot := fieldOf v 16 4, length := pageLimit 16384 (fieldOf v 31 17) x.length, aadLen := pageLimit 4096 (fieldOf v 44 32) x.aadLen }) b
  else if o / 8 = 1 then b
  else if o / 8 = 2 then modPage n (fun x => { x with iv0 := mergeWrite x.iv0 o size w }) b
  else if o / 8 = 3 then modPage n (fun x => { x with iv1 := mergeWrite x.iv1 o size w }) b
  else if o / 8 = 4 then modPage n (fun x => { x with tag0 := mergeWrite x.tag0 o size w }) b
  else if o / 8 = 5 then modPage n (fun x => { x with tag1 := mergeWrite x.tag1 o size w }) b
  else if 0x1000 ≤ o ∧ o < 0x2000 then modPage n (fun x => { x with aad := bufWrite x.aad (o - 0x1000) (bitsBytes size w) }) b
  else if 0x4000 ≤ o ∧ o < 0x8000 then modPage n (fun x => { x with data := bufWrite x.data (o - 0x4000) (bitsBytes size w) }) b
  else windowViolation n (0x2A00000 + o) false b

/-- An MSI-X table entry: address, and data with the mask bit (R111; PCIe's entry). A vector pending behind its mask is sent when the mask is lifted.
The table stands at the area's start (assumption 133, PRESUMED). -/
def msixWrite (n o size : Nat) (w : W64) (b : Blk) : Blk :=
  let v := o / 16
  let f : Nat × Nat × Bool → Nat × Nat × Bool := fun x =>
    if o % 16 < 8 then ((mergeWrite (BitVec.ofNat 64 x.1) o size w).toNat, x.2)
    else let y := mergeWrite (view [place x.2.1 32 0, placeBit x.2.2 32]) o size w; (x.1, fieldOf y 31 0, y.getLsbD 32)
  if v < 256 then
    let b := modLd n (fun l => { l with msix := SMap.insert l.msix v (f (SMap.get (0, 0, true) l.msix v)) }) b
    if (b.ld n).pba.contains v && !(SMap.get (0, 0, true) (b.ld n).msix v).2.2 then raiseMsix n v (modLd n (fun l => { l with pba := l.pba.filter (· != v) }) b) else b
  else b

/-- Doorbells take only 32-bit writes (R327, R353). -/
def doorbellWrite (n off size : Nat) (f : Blk → Blk) (b : Blk) : Blk := if size = 4 then f b else windowViolation n off false b

/-- A command that a register of logical device `n`'s window takes: nothing without the device; in a reset of it the write is ignored and
recorded (R112, R479). -/
def viaLd (n : Nat) (f : Blk → Blk) (b : Blk) : Blk :=
  if !(b.port (n / 16)).present.testBit (n % 16) then b
  else if (b.ld n).resetting || (b.port (n / 16)).inReset || b.pwr.sysRst then regViolation b
  else f b

/-- A write of 4 or 8 bytes at a BAR0 offset of logical device `n`. Registers that CXL 3.1 defines are left to CXL 3.1; a write that the window
does not allow is a violation and writes nothing (R112, R481). -/
def ldWrite (phys : Phys) (n off size : Nat) (w : W64) (b : Blk) : Blk :=
  viaLd n (fun b =>
  if !(size = 4 || size = 8) || off % size ≠ 0 then (if off < 0x20000 then b else windowViolation n off false b)
  else if off < 0x20000 then b
  else if off < 0x30000 then msixWrite n (off - 0x20000) size w b
  else if off < 0x30010 then b
  else if 0x31000 ≤ off ∧ off < 0x31028 then b
  else if 0x100000 ≤ off ∧ off < 0x100040 then
    let k := (off - 0x100000) / 8
    if k = 0 then (if off % 8 = 0 then orbCommand phys n (fieldOf w 3 0) [] b else b)
    else if k = 1 then b
    else modOrbCmd n (fun c => c.setArg (k - 2) (mergeWrite (SMap.get 0 c.args (k - 2)) off size w).toNat) b
  else if 0x1100000 ≤ off ∧ off < 0x2100000 then doorbellWrite n off size (doorbell n ((off - 0x1100000) / 4) (w.toNat % 2 ^ 32)) b
  else if 0x2100000 ≤ off ∧ off < 0x2500000 then trnAreaWrite n ((off - 0x2100000) / 0x40000) ((off - 0x2100000) % 0x40000) size w b
  else if 0x2500000 ≤ off ∧ off < 0x2500018 then
    let page := fieldOf w 47 12 * 4096; let count := fieldOf w 11 0 + 1
    if off = 0x2500000 then trnPromote phys n page count b else if off = 0x2500008 then trnEvict phys n page count b else b
  else if 0x2900000 ≤ off ∧ off < 0x2900030 then
    let k := (off - 0x2900000) / 8
    if k = 0 then (if off % 8 = 0 then cphCommand phys n (fieldOf w 3 0) [] b else b)
    else if k = 1 then b
    else modCphCmd n (fun c => c.setArg (k - 2) (mergeWrite (SMap.get 0 c.args (k - 2)) off size w).toNat) b
  else if 0x2901000 ≤ off ∧ off < 0x2901400 then doorbellWrite n off size (cphDoorbell n ((off - 0x2901000) / 4) (w.toNat % 2 ^ 32)) b
  else if 0x2A00000 ≤ off ∧ off < 0x2A10000 then pageWrite n (off - 0x2A00000) size w b
  else windowViolation n off false b) b

/-- A write to a logical device's configuration space: the bits of BAR0 below its size stay 0 (R84, R111). -/
def cfgWrite (n : Nat) (r : CfgReg) (w : W64) (b : Blk) : Blk :=
  let p := b.port (n / 16)
  if p.speed = 0 || p.inReset || (b.ld n).resetting || decide ((b.portCfg (n / 16)).ldCount ≤ n % 16) then b
  else modLd n (fun l => { l with cfg := match r with
    | .powerState => { l.cfg with d3hot := fieldOf w 1 0 == 3 }
    | .bar0 => { l.cfg with bar0 := w.toNat / (64 * mib) * (64 * mib) }
    | .memSpace => { l.cfg with memSpace := w.getLsbD 0 }
    | .msixEnable => { l.cfg with msixEnable := w.getLsbD 0 } }) b

/-- A write on a port's CXL.io stream: one whose flit fails the stream's integrity check is discarded (R104). -/
def onCxlIo (phys : Phys) (n : Nat) (f : Blk → Blk) (b : Blk) : Blk :=
  if phys.ide && (b.port (n / 16)).ideIo then ideFail n .io b else f b

/-- REGISTER_WRITE: a write to a register that has no row of its own, in its order of arrival (R480). On the management path only aligned 64-bit
writes reach a register; any other writes nothing and is recorded (R6). -/
def registerWrite (e : RegEnv) (t : RegTarget) (w : W64) (b : Blk) : Blk :=
  match t with
  | .mgmt a => if a % 8 ≠ 0 then regViolation b else regWrite e a w b
  | .ld n off size => onCxlIo e.phys n (ldWrite e.phys n off size w) b
  | .cfg n r => onCxlIo e.phys n (cfgWrite n r w) b

/-- REGISTER_ACCESS_VIOLATION: a narrow or misaligned access on the management path: a read answers all ones, a write writes nothing, and either is
recorded (R6). -/
def registerAccessViolation (read : Bool) (b : Blk) : Blk :=
  let b := regViolation b
  if read then send (.regData ones64) b else b

end Sys2Proof.Machine
end

