-- ==== Sys2Proof/Machine/Mgmt.lean ====
section
/-!
DEFINITION. Chapter 18: I3C and MCTP, the Treldex vendor commands with their permissions, PLDM monitoring, and the firmware update; and the end of
an eFlash program. Transports: 0 is I3C_A, 1 is I3C_B, 2 + n is logical device n (R463). PLDM and MCTP code values are PRESUMED (DSP0236,
DSP0240, DSP0248, DSP0257, DSP0267).
-/
namespace Sys2Proof.Machine
open Sys2Proof

/-- Change the management state. -/
def modMgt (f : MgtSt → MgtSt) (b : Blk) : Blk := { b with mgt := f b.mgt }

/-! ### I3C and MCTP (R462, R463) -/

/-- Static address of an I3C target: 0x30 (I3C_A) or 0x34 (I3C_B) plus the straps. -/
def Blk.i3cStatic (b : Blk) (port : Nat) : Nat := (if port = 0 then 0x30 else 0x34) + b.straps

/-- I3C_DYNAMIC_ADDRESS: ENTDAA, or SETDASA to the target's static address, gives target 0 or 1 its dynamic address. -/
def i3cDynamicAddress (port : Nat) (static : Option Nat) (addr : Nat) (b : Blk) : Blk :=
  if static.any (fun a => a != b.i3cStatic port) then b
  else if port = 0 then modMgt (fun m => { m with daddrA := addr % 128 }) b
  else if port = 1 then modMgt (fun m => { m with daddrB := addr % 128 }) b
  else b

/-- Transmission unit of a transport: 64 bytes, raised by Set MTU on I3C. -/
def Blk.mtu (b : Blk) (t : Nat) : Nat := if t = 0 then b.mgt.mtuA else if t = 1 then b.mgt.mtuB else 64

/-- A transport carries messages: an I3C target, or a presented logical device (R463). -/
def Blk.hasTransport (b : Blk) (t : Nat) : Bool := decide (t < 2) || (b.port ((t - 2) / 16)).present.testBit ((t - 2) % 16)

/-- MCTP_PACKET: on I3C a wrong PEC discards the packet; packets of a message join up to 4,096 bytes. The message that its last packet completes
comes as a command of its own. -/
def mctpPacket (t : Nat) (pecOk first last : Bool) (payload : List Byte) (b : Blk) : Blk :=
  if t < 2 && !pecOk then setErr .mgt 4 b
  else if !b.hasTransport t || decide (b.mtu t < payload.length) then b
  else
    let sofar := if first then some [] else SMap.find? b.mgt.assembling t
    match sofar with
    | none => b
    | some m =>
      let m := m ++ payload
      if last || decide (4096 < m.length) then modMgt (fun x => { x with assembling := SMap.erase x.assembling t }) b
      else modMgt (fun x => { x with assembling := SMap.insert x.assembling t m }) b

/-- SET_ENDPOINT_ID: the ID is assigned and stored in the boot records; the null and broadcast IDs are refused (DSP0236). See assumption 62 (PRESUMED). -/
def setEndpointId (t id : Nat) (b : Blk) : Blk :=
  if id = 0 || decide (255 ≤ id) then send (.mctp t 1 2 b.mgt.eid) b
  else send (.mctp t 1 0 id) (addJob .bootRecord (modMgt (fun m => { m with eid := id, savedEid := id }) b))

/-- SET_MTU: 64 to 256 bytes, on I3C only. -/
def setMtu (port size : Nat) (b : Blk) : Blk :=
  if size < 64 || decide (256 < size) then b
  else if port = 0 then modMgt (fun m => { m with mtuA := size }) b
  else if port = 1 then modMgt (fun m => { m with mtuB := size }) b
  else b

/-! ### Permissions (R466, Table 18-5) -/

/-- Classes of Table 18-5. -/
inductive WriteClass where
  | selector | staging | lifeCycle | power | service | permissions | none
  deriving DecidableEq, Repr

/-- The class of a register by its address. -/
def writeClass (a : Nat) : WriteClass :=
  let off := a % 0x10000
  match a / 0x10000 with
  | 0x0 => if off = 0 ∨ off = 8 then .staging else if off = 0x10 then .selector else .none
  | 0x1 => if off = 0x50 then .selector else .none
  | 0x2 => if off % 0x4000 = 8 then .service else if off % 0x4000 = 0x10 then .selector else .none
  | 0x3 => if off = 8 then .selector else .none
  | 0x4 => if off % 0x1000 = 8 ∨ off % 0x1000 = 0x10 ∨ off % 0x1000 = 0x810 then .service else if off % 0x1000 = 0x28 then .selector else .none
  | 0x5 => if off = 0x70 then .selector else .none
  | 0x6 => if off = 8 ∨ off = 0x10 ∨ off = 0x28 then .service else if off = 0x50 then .selector else .none
  | 0x7 => if off = 0x18 then .selector else .none
  | 0x8 => if off = 0x60 then .service else if off = 0x68 then .selector else .none
  | 0x9 => if off = 0x20 then .selector else .none
  | 0xA => if off = 8 ∨ (arrayIx off 0x100 18).isSome then .service else if off = 0x18 ∨ off = 0x48 then .selector else .none
  | 0xB => if off = 0x100 ∨ (arrayIx off 0x200 64).isSome then .lifeCycle else if off = 0x110 then .selector else .none
  | 0xC => if off = 8 then .power else if off = 0x28 then .selector else .none
  | 0xD => if off = 0x20 then .selector else .none
  | 0xE => if off = 0 ∨ off = 8 ∨ off = 0x10 then .selector else .none
  | 0xF => if off = 0x18 ∨ off = 0x30 ∨ off = 0x8020 ∨ off = 0x8028 then .selector else if off = 0x8000 then .service else .none
  | 0x10 => if off = 8 then .selector else .none
  | 0x11 => if off = 8 then .permissions else if off = 0x28 then .selector else .none
  | _ => .none

/-- May the path write this class with this value, in or out of an owner session (Table 18-5)? -/
def Blk.mayWrite (b : Blk) (c : WriteClass) (a : Nat) (w : W64) (owner : Bool) : Bool :=
  let locked := b.ident.lc == .sealedState
  match c with
  | .none => false
  | .selector => true
  | .staging => if b.ident.lc = .returned then false else !locked || owner || b.mgt.permit.openStage
  | .lifeCycle => !locked || owner || a % 0x10000 != 0x100 || !(fieldOf w 3 0 == 3 || fieldOf w 3 0 == 9)
  | .power => !locked || owner || b.mgt.permit.openControl
  | .service => !locked || owner || b.mgt.permit.openControl
  | .permissions => !locked || owner

/-- The register's command is BUSY, or the Almanac is storing (Table 18-4). -/
def Blk.cmdBusy (b : Blk) (a : Nat) (w : W64) : Bool :=
  if a = 0xB0100 then b.ident.state == .busy
  else if a = 0xA0008 then b.cph.cmd.state == 1
  else if a = 0xF8000 then b.alm.storing.isSome && w.getLsbD 1
  else if a = 0x60008 then b.nvf.rawResult == 1 && fieldOf w 3 0 == 4
  else false

/-- A CXL FM API command for logical device `n`, over MCTP transport `t` in a session or none; one that comes through the switch bears the transport of
the logical device and no session. Where Table 18-5 does not permit it, it sets MGT_ERR.PERMISSION and is answered with CXL's Invalid Security State
(assumption 154, PRESUMED). -/
def fmCommand (t : Nat) (s : Option Nat) (n op : Nat) (f : Blk → Blk) (b : Blk) : Blk :=
  if b.mayWrite .service 0 0 (b.ownerSession t s) then f b else send (.mbox n op 0x13 []) (setErr .mgt 0 b)

/-! ### Vendor commands (R464 to R466) -/

/-- REG_READ: 1 to 32 registers in ascending offset, gaps as zeros (R465, R476). See assumption 107 (DEDUCED). -/
def regReadCmd (t tag addr count : Nat) (b : Blk) : Blk :=
  if addr % 8 ≠ 0 then vendorFail t tag 1 2 count addr b
  else if count = 0 || decide (32 < count) || decide (regSpaceEnd < addr + 8 * count) then vendorFail t tag 1 3 count addr b
  else send (.vendor t (vendorMsg 1 0 tag count addr ((List.range count).flatMap (fun i => bitsBytes 8 (b.regRead (addr + 8 * i)))))) b

/-- REG_WRITE: one register, under Table 18-5; a write in a register's reset answers OK and changes nothing (R465, R466, R479). -/
def regWriteCmd (e : RegEnv) (t : Nat) (s : Option Nat) (tag addr count : Nat) (w : W64) (b : Blk) : Blk :=
  if addr % 8 ≠ 0 then vendorFail t tag 2 2 count addr b
  else if count ≠ 1 || decide (regSpaceEnd < addr + 8) then vendorFail t tag 2 3 count addr b
  else if (regAt b addr).isNone then send (.vendor t (vendorMsg 2 0 tag 1 addr [])) b
  else if !b.mayWrite (writeClass addr) addr w (b.ownerSession t s) then vendorFail t tag 2 1 count addr b
  else
    let busy := b.cmdBusy addr w && !b.regInReset addr
    send (.vendor t (vendorMsg 2 (if busy then 4 else 0) tag 1 addr [])) (regWrite e addr w b)

/-- Put Logbook records in order of RECORD_SEQ. -/
def bySeq (rs : List LogRec) : List LogRec := sortBy (fun x y => decide (x.seq ≤ y.seq)) rs

/-- LOG_READ: valid records from RECORD_SEQ `addr` upward, at most `count`; `bad` are the RECORD_SEQs that read with an uncorrectable error, `fixed`
says that a correction was made (R432, R464). See assumption 110 (DEDUCED). -/
def logRead (t tag addr count : Nat) (bad : List Nat) (fixed : Bool) (b : Blk) : Blk :=
  if count = 0 || decide (16 < count) then vendorFail t tag 3 3 count addr b
  else
    let rs := bySeq ((b.logbook.recs.map (fun (e : Nat × LogRec) => e.2)).filter (fun r => decide (addr ≤ r.seq)))
    let got := (rs.filter (fun r => !bad.contains r.seq)).take count
    let hit := rs.any (fun r => bad.contains r.seq)
    let b := if fixed then setErr .efl 1 b else b
    let b := if hit then setErr .efl 2 b else b
    send (.vendor t (vendorMsg 3 0 tag got.length addr (got.flatMap (fun r => r.bytes)))) b

/-- ALM_READ: one whole record, or 32 event counters of a group; BUSY while an image is being written (R465, Table 18-3). -/
def almRead (t tag addr count : Nat) (b : Blk) : Blk :=
  if count ≠ 1 || decide (530 < addr) then vendorFail t tag 4 3 count addr b
  else if b.alm.storing.isSome then vendorFail t tag 4 4 count addr b
  else
    let data := if addr < 512 then b.almBytes addr
      else (List.range 32).flatMap (fun i => natLe 4 (SMap.get 0 b.alm.events (32 * (addr - 512) + i)))
    send (.vendor t (vendorMsg 4 0 tag 1 addr data)) b

/-- VENDOR_UNSUPPORTED: an unknown COMMAND. -/
def vendorUnsupported (t tag cmd count addr : Nat) (b : Blk) : Blk :=
  if 1 ≤ cmd && decide (cmd ≤ 6) then b else vendorFail t tag cmd 5 count addr b

/-! ### PLDM monitoring (R468, Table 18-6) -/

/-- The sensors of Table 18-6. -/
def sensorIds : List Nat := [1, 2, 3, 4] ++ (List.range 32).map (fun i => 16 + i) ++ [64, 65, 66, 67, 68, 69, 70, 71]

/-- A sensor's reading; none while it has none. -/
def Blk.sensorValue (b : Blk) (id : Nat) : Option Int :=
  if id = 1 then b.temp else if id = 2 then b.tempN else if id = 3 then b.tempS else if id = 4 then b.tempH
  else if 16 ≤ id ∧ id < 48 then (b.dimm (id - 16)).reading
  else if id = 64 then (if b.ceiling = 0 then none else some ((b.dirtyBytes * 1024 / b.ceiling : Nat) : Int))
  else if id = 65 then some b.gov.code
  else if id = 66 then some b.mer.state.code
  else if id = 67 then some b.ident.lc.code
  else if id = 68 then some (b.half 0).role.code
  else if id = 69 then some (b.half 1).role.code
  else if id = 70 then some (if b.pwr.twilight then 1 else 0)
  else if id = 71 then some (if b.alertLow then 1 else 0)
  else none

/-- Upper warning, critical and fatal thresholds of a numeric sensor, with the codes of the bands that they open. -/
def Blk.thresholds (b : Blk) (id : Nat) : List (Int × Nat) :=
  let c := b.cht.cur.thermal
  if 1 ≤ id ∧ id ≤ 4 then [((c.warnC * 16 : Nat), 8), ((c.throttleC * 16 : Nat), 9), ((c.shutdownC * 16 : Nat), 10)]
  else if 16 ≤ id ∧ id < 48 then [((c.dimmThrottleC * 16 : Nat), 9)]
  else if id = 64 then [(960, 8)]
  else []

/-- A sensor's state: the band of a numeric sensor (0 no reading, 1 normal, 8 upper warning, 9 upper critical, 10 upper fatal), the value of a state
sensor. See assumption 108 (DEDUCED). -/
def Blk.sensorState (b : Blk) (id : Nat) : Nat :=
  match b.sensorValue id with
  | none => 0
  | some v => if 65 ≤ id then v.toNat else (b.thresholds id).foldl (fun s x => if x.1 ≤ v then x.2 else s) 1

/-- Sensor events of a step: one for every sensor whose state has changed, while a receiver is set and no Dusk has begun (R468). -/
def sensorEvents (before b : Blk) : Blk :=
  match b.mgt.receiver with
  | none => b
  | some r =>
    if b.inDusk || !b.aon then b
    else (sensorIds.filter (fun id => before.sensorState id != b.sensorState id)).foldl (fun x id => send (.pldmEvent r id (b.sensorState id)) x) b

/-- SET_EVENT_RECEIVER; none turns events off. -/
def setEventReceiver (t : Nat) (r : Option Nat) (b : Blk) : Blk := send (.pldm t 2 0x04 0 []) (modMgt (fun m => { m with receiver := r }) b)

/-- GET_SENSOR_READING: the reading in two's complement and its state; an unknown sensor is refused, one without a reading is unavailable. -/
def getSensorReading (t id : Nat) (b : Blk) : Blk :=
  let cmd := if 65 ≤ id then 0x21 else 0x11
  if !sensorIds.contains id then send (.pldm t 2 cmd 0x80 []) b
  else send (.pldm t 2 cmd 0 (match b.sensorValue id with | some v => [signedBits 32 v, b.sensorState id] | none => [])) b

/-- GET_PDR: record `handle` of the repository, one for each sensor in ascending order; 0 is the first. The record gives the next handle (0 at the
end), the sensor, its kind and its thresholds. -/
def getPdr (t handle : Nat) (b : Blk) : Blk :=
  let i := handle - 1
  match sensorIds[i]? with
  | none => send (.pldm t 2 0x51 0x82 []) b
  | some id =>
    let next := if i + 1 < sensorIds.length then i + 2 else 0
    send (.pldm t 2 0x51 0 ([next, id, if 65 ≤ id then 1 else 0] ++ (b.thresholds id).map (fun x => x.1.toNat))) b

/-- GET_FRU_RECORD_TABLE: the enterprise number (Table 18-1), part number, stepping, unit identifier and running version. -/
def getFru (t : Nat) (b : Blk) : Blk :=
  let v := (b.mgt.running.map (fun (r : Running) => r.version)).getD 0
  send (.pldm t 4 0x02 0 ((natLe 4 Config.enterprise ++ partName ++ natLe 2 Config.stepping ++ b.ident.unitId ++ natLe 4 v).map (fun x => x.toNat))) b

/-- PLDM commands answered, by type. -/
def pldmCommands (ty : Nat) : List Nat :=
  match ty with
  | 0 => [1, 2, 3, 4, 5] | 2 => [0x04, 0x11, 0x21, 0x51] | 4 => [0x02] | 5 => [0x10, 0x13, 0x14, 0x15, 0x16, 0x17, 0x1A, 0x1D] | _ => []

/-- PLDM_BASE: SetTID, GetTID, GetPLDMVersion, GetPLDMTypes, GetPLDMCommands; any other is unsupported. The version of a type is open (a free
value). -/
def pldmBase (t cmd arg : Nat) (b : Blk) : Blk :=
  match cmd with
  | 1 => if arg = 0 || decide (255 ≤ arg) then send (.pldm t 0 1 2 []) b else send (.pldm t 0 1 0 []) (modMgt (fun m => { m with tid := arg }) b)
  | 2 => send (.pldm t 0 2 0 [b.mgt.tid]) b
  | 3 => if (pldmCommands arg).isEmpty then send (.pldm t 0 3 0x83 []) b else let f := drawFree b; send (.pldm t 0 3 0 [f.1 % 2 ^ 32]) f.2
  | 4 => send (.pldm t 0 4 0 [0, 2, 4, 5]) b
  | 5 => send (.pldm t 0 5 (if (pldmCommands arg).isEmpty then 0x83 else 0) (pldmCommands arg)) b
  | _ => send (.pldm t 0 cmd 5 []) b

/-! ### Firmware update (R467, R472, R473) -/

/-- An update is permitted: outside SEALED, in an owner session, or with OPEN_UPDATE (R467). -/
def Blk.mayUpdate (b : Blk) (t : Nat) (s : Option Nat) : Bool := b.ident.lc != .sealedState || b.ownerSession t s || b.mgt.permit.openUpdate

/-- A PLDM type 5 answer. -/
def updateSay (t cmd completion : Nat) (b : Blk) : Blk := send (.pldm t 5 cmd completion []) b

/-- The bank that is not active, which an update writes. -/
def Blk.targetBank (b : Blk) : Nat := 1 - b.mgt.active

/-- A pending activation is cancelled: the running bank is named active again (R472). -/
def cancelPending (b : Blk) : Blk :=
  if !b.mgt.pendingReset then b
  else
    let old := (b.mgt.running.map (fun (r : Running) => r.bank)).getD (1 - b.mgt.active)
    addJob .bootRecord (modMgt (fun m => { m with active := old, trial := false, pendingReset := false }) b)

/-- REQUEST_UPDATE: `fits` says that the package's descriptors match (R472). -/
def requestUpdate (t : Nat) (s : Option Nat) (fits : Bool) (b : Blk) : Blk :=
  if b.mgt.update ≠ .idle then updateSay t 0x10 0x81 b
  else if !b.mayUpdate t s || !fits || b.inDusk then updateSay t 0x10 0x8A b
  else updateSay t 0x10 0 (modMgt (fun m => { m with update := .requested }) (cancelPending b))

/-- PASS_COMPONENT_TABLE: matched against classification firmware, identifier 0x0001. -/
def passComponentTable (t : Nat) (s : Option Nat) (fits : Bool) (b : Blk) : Blk :=
  if b.mgt.update = .idle then updateSay t 0x13 0x80 b
  else if b.mgt.update ≠ .requested || !b.mayUpdate t s then updateSay t 0x13 0x84 b
  else if fits then updateSay t 0x13 0 (modMgt (fun m => { m with update := .table }) b)
  else updateSay t 0x13 0x82 b

/-- UPDATE_COMPONENT: the 256 sectors of the bank that is not active are erased before data is asked for. -/
def updateComponent (t : Nat) (s : Option Nat) (size : Nat) (fits : Bool) (b : Blk) : Blk :=
  if b.mgt.update = .idle then updateSay t 0x14 0x80 b
  else if b.mgt.update ≠ .table || !b.mayUpdate t s then updateSay t 0x14 0x84 b
  else if !fits || size = 0 || decide (2 ^ 23 < size) then updateSay t 0x14 0x82 b
  else
    let n := b.targetBank
    let b := modMgt (fun m => { m with update := .erasing 256, updateSize := size, updateGot := 0, header := [], banks := SMap.erase m.banks n }) b
    updateSay t 0x14 0 ((List.range 256).foldl (fun b i => addJob (.erase (256 * n + i)) b) b)

/-- Bytes of a bank's header sector. -/
def sectorBytes : Nat := 32768

/-- FIRMWARE_DATA: the block asked for arrives; the header sector's bytes are held back, the rest is programmed as it arrives (R472).
See assumption 109 (DEDUCED). -/
def firmwareData (bytes : List Byte) (b : Blk) : Blk :=
  let m := b.mgt
  if m.update ≠ .receiving || b.inDusk || bytes.length ≠ Nat.min 4096 (m.updateSize - m.updateGot) || bytes.isEmpty ||
     b.efl.cur == some (.firmware b.targetBank) || b.efl.jobs.contains (.firmware b.targetBank) then b
  else
    let head := bytes.take (sectorBytes - m.updateGot)
    let rest := bytes.drop (sectorBytes - m.updateGot)
    let n := b.targetBank
    let old := if (b.bank n).isEmpty then List.replicate sectorBytes 0xFF else b.bank n
    let b := modMgt (fun m => { m with header := m.header ++ head, updateGot := m.updateGot + bytes.length,
                                       banks := if rest.isEmpty then m.banks else SMap.insert m.banks n (old ++ rest) }) b
    if rest.isEmpty && decide (b.mgt.updateGot < b.mgt.updateSize) then
      send (.firmwareRequest b.mgt.updateGot (Nat.min 4096 (b.mgt.updateSize - b.mgt.updateGot))) b
    else addJob (.firmware n) b

/-- A firmware block is programmed: the next is asked for; after the last, the header sector stands and TransferComplete is reported. -/
def firmwareProgrammed (n : Nat) (b : Blk) : Blk :=
  if b.mgt.update ≠ .receiving then b
  else if b.mgt.updateGot < b.mgt.updateSize then
    send (.firmwareRequest b.mgt.updateGot (Nat.min 4096 (b.mgt.updateSize - b.mgt.updateGot))) b
  else
    let b := modMgt (fun m => { m with update := .verifying, banks := SMap.insert m.banks n (m.header ++ (SMap.get [] m.banks n).drop sectorBytes), header := [] }) b
    updateSay 0 0x16 0 b

/-- VERIFY_COMPLETE: the bank is checked under R469 and R470, and against MIN_FIRMWARE of the Chart in force; `bad` says that a read of it was
uncorrectable. -/
def verifyComplete (t : Nat) (bad : Bool) (b : Blk) : Blk :=
  if b.mgt.update ≠ .verifying then b
  else
    let n := b.targetBank
    let i := b.bankInfo n bad
    let b := noteBegun n (if bad then setErr .efl 2 b else b)
    let b := modMgt (fun m => if n = 0 then { m with infoA := i } else { m with infoB := i }) b
    let ok := i.result == .ok && decide (b.cht.cur.target.minFw ≤ i.version)
    if ok then updateSay t 0x17 0 (modMgt (fun m => { m with update := .ready }) b) else updateSay t 0x17 1 b

/-- ACTIVATE_FIRMWARE: a boot record names the new bank active with TRIAL. In Twilight it ends Twilight; with the running supervisor's digest the cores
restart; else the next D0 runs it (R396, R473). -/
def activateFirmware (t : Nat) (s : Option Nat) (b : Blk) : Blk :=
  if b.mgt.update = .idle then updateSay t 0x1A 0x80 b
  else if b.mgt.update ≠ .ready || !b.mayUpdate t s || b.inDusk then updateSay t 0x1A 0x85 b
  else
    let n := b.targetBank
    let same := (b.mgt.running.map (fun (r : Running) => r.supDigest)) == some ((b.bank n).drop 0x20 |>.take 64)
    let b := addJob .bootRecord (modMgt (fun m => { m with active := n, trial := true, update := .idle, updateSize := 0, updateGot := 0 }) b)
    let b := updateSay t 0x1A 0 b
    if b.pwr.stage = .twilight then exitTwilight 2 b
    else if same then firmwareReset (modMgt (fun m => { m with activating := true }) b)
    else modMgt (fun m => { m with pendingReset := true }) b

/-- CANCEL_UPDATE: the update ends with UPDATE_ABORT and the active bank is unchanged. -/
def cancelUpdate (t : Nat) (s : Option Nat) (b : Blk) : Blk :=
  if b.mgt.update = .idle then updateSay t 0x1D 0x80 b
  else if !b.mayUpdate t s then updateSay t 0x1D 0x84 b
  else updateSay t 0x1D 0 (abortUpdate b)

/-- UPDATE_AGENT_TIMEOUT: 60 s without a request end the update. -/
def updateAgentTimeout (b : Blk) : Blk := abortUpdate b

/-! ### The end of an eFlash program -/

/-- EFLASH_PROGRAM_DONE: the program under way has ended, `ok` says that it verified (R50, R419, R430, R472, Table 16-12). A Chart slot of
COMMIT_DAWN ends with COMMIT_DAWN_DONE. -/
def eflashProgramDone (ok : Bool) (phys : Phys) (b : Blk) : Blk :=
  match b.efl.cur with
  | none => b
  | some j =>
    let after : Blk → Blk := fun b => if b.inDusk then afterSave phys (jobEnds b) else jobEnds b
    match j with
    | .erase _ => b
    | .chartSlot n =>
      match b.cht.commitNext with
      | none => if ok then b else after (jobFails j (stageTo .verified b))
      | some a =>
        if ok then after (commitLiveDone a n b)
        else after (jobFails j (stageTo .verified { b with cht := { b.cht with commitNext := none } }))
    | .firmware n => if ok then after (firmwareProgrammed n b) else after (abortUpdate (jobFails j b))
    | _ => after (if ok then jobEffect j b else jobFails j b)

end Sys2Proof.Machine
end

