-- ==== Sys2Proof/Machine/State.lean ====
section
/-!
DEFINITION. The machine's state, the reasons for which a step could stop, and the state after reset.
-/
namespace Sys2Proof.Machine
open Sys2Proof

/-- Everything that the spec gives the block, and the commands that wait, first in, first out. -/
structure State where
  /-- Registers, buffers, media and engines. -/
  blk : Blk := {}
  /-- The fuse bank (R355, R356). -/
  otp : Otp := {}
  /-- Commands that wait; the oldest first. -/
  pending : List Instr := []
  deriving DecidableEq, Repr

/-- Reasons to stop with a fault. There are none: the spec gives every command an effect, and a command whose condition does not hold has none
(assumption 1). Safe. -/
inductive Fault where
  deriving DecidableEq, Repr

/-- Reasons to refuse a command. -/
inductive Refusal where
  /-- The command has no meaning yet; raised by no arm of `exec`. Safe. -/
  | notModelled (mnemonic : String)
  deriving DecidableEq, Repr

/-- The fuses of a part as manufacture leaves it (R355): FOUNDRY, with the hardware unique key and the identity salt. -/
def Otp.manufactured : Otp := { huk := Config.huk, salt0 := Config.salt, salt1 := Config.salt }

/-- The machine after its power-on reset (R9, R65): Dawn stage 0 is next. Values that the spec does not give are those of assumption 5. -/
def State.reset : State :=
  { blk := { pwr := { ({} : PowerSt) with stage := .dawn 0 }, mgt := { ({} : MgtSt) with banks := [(0, Config.factoryImage)] } }, otp := Otp.manufactured, pending := [] }

end Sys2Proof.Machine
end

