-- ==== Sys2Proof/Machine/Run.lean ====
section
/-!
DEFINITION. How a command's effect becomes a step: what every step begins and ends with, and the block's own work that follows a command.
-/
namespace Sys2Proof.Machine
open Sys2Proof

/-- What a step leaves: `out` holds what this step has sent, sensor events (R468) and the frame numbers of its messages (R265) among it. -/
def closeStep (before b : Blk) : Blk := frameOutputs (sensorEvents before b)

/-- One command on the block. With always-on power down nothing runs until it returns (R489). -/
def stepBlk (f : Blk → Blk) (b : Blk) : Blk :=
  if b.aon then closeStep { b with out := [] } (f { b with out := [] }) else { b with out := [] }

/-- The block's own work: commands that waited and need wait no longer (R25, R110), then the engines as far as they can go. -/
def settleWork (phys : Phys) (b : Blk) : Blk := settleCold (pump phys pumpFuel (runDeferred phys b))

/-- A command that changes the block only. -/
def run (f : Blk → Blk) (s : State) : Host.Outcome State Fault Refusal := .next { s with blk := stepBlk f s.blk }

/-- A command after which the block's own work may go on. -/
def runAll (phys : Phys) (f : Blk → Blk) (s : State) : Host.Outcome State Fault Refusal := run (fun b => settleWork phys (f b)) s

/-- A command that runs with always-on power down as well. -/
def runAlways (f : Blk → Blk) (s : State) : Host.Outcome State Fault Refusal := .next { s with blk := f { s.blk with out := [] } }

/-- Blow the bits that a step has asked for: fuses only rise (R355). -/
def State.blow (s : State) : State :=
  { s with otp := s.otp.blow s.blk.ident.burn, blk := { s.blk with ident := { s.blk.ident with burn := {} } } }

/-- A command that may program fuses. -/
def runFuse (f : Blk → Blk) (s : State) : Host.Outcome State Fault Refusal :=
  if s.blk.aon then .next { s with blk := stepBlk f s.blk }.blow else run f s

/-- A command that may program fuses and after which the block's own work may go on. -/
def runFuseAll (phys : Phys) (f : Blk → Blk) (s : State) : Host.Outcome State Fault Refusal := runFuse (fun b => settleWork phys (f b)) s

end Sys2Proof.Machine
end

