-- ==== Sys2Proof/Machine/ExecArbiter.lean ====
section
/-!
DEFINITION. Meanings of the rows of the lease (chapter 10): one definition for each command, over the operations of its chapter.
-/
namespace Sys2Proof.Machine
open Sys2Proof

/-- HEARTBEAT (R278). -/
def execHeartbeat (s : State) : Host.Outcome State Fault Refusal :=
  run heartbeat s

/-- RENEW (R279). -/
def execRenew (half : Nat) (s : State) : Host.Outcome State Fault Refusal :=
  run (renew half) s

/-- FENCE (R21, R58, R83, R112, R258, R269, R280, R282, R283, R290, R350). -/
def execFence (half : Nat) (s : State) : Host.Outcome State Fault Refusal :=
  run (fence half) s

/-- GRANT (R21, R62, R83, R110, R112, R253, R258, R279, R280, R282, R283, R284, R285, R286, R287, R290, R321, R448, R455, R457, R458). -/
def execGrant (phys : Phys) (g : Grant) (s : State) : Host.Outcome State Fault Refusal :=
  runAll phys (grant phys g) s

/-- REVOKE (R269, R283, R285, R288, R290). -/
def execRevoke (half : Nat) (s : State) : Host.Outcome State Fault Refusal :=
  run (revoke half) s

/-- STATUS_QUERY (R278, R450). -/
def execStatusQuery (half : Nat) (s : State) : Host.Outcome State Fault Refusal :=
  run (statusQuery half) s

/-- ARBITER_MESSAGE_INVALID (R290). -/
def execArbiterMessageInvalid (why : ArbFault) (s : State) : Host.Outcome State Fault Refusal :=
  run (arbInvalid why) s

/-- AUDIT (R270, R292). -/
def execAudit (s : State) : Host.Outcome State Fault Refusal :=
  run (viaReg 0x80060 audit) s

/-- RELEASE (R269, R283, R285, R292). -/
def execTwnRelease (half : Nat) (s : State) : Host.Outcome State Fault Refusal :=
  run (viaReg 0x80060 (twnRelease half)) s

/-- ARB_SYMBOL_LOCK (R277). -/
def execArbSymbolLock (s : State) : Host.Outcome State Fault Refusal :=
  run (arbLock true) s

/-- ARB_SYMBOL_LOCK_LOSS (R62). -/
def execArbSymbolLockLoss (s : State) : Host.Outcome State Fault Refusal :=
  run (arbLock false) s

end Sys2Proof.Machine
end

