-- ==== Sys2Proof/Machine/ExecCapacity.lean ====
section
/-!
DEFINITION. Meanings of the rows of decoders, dynamic capacity and Global Persistent Flush (chapter 4): one definition for each command, over the operations of its chapter.
-/
namespace Sys2Proof.Machine
open Sys2Proof

/-- HDM_DECODER_COMMIT (R92, R114). -/
def execHdmDecoderCommit (ld decoder base size ways gran : Nat) (bi : Bool) (s : State) : Host.Outcome State Fault Refusal :=
  run (decoderCommit ld decoder base size ways gran bi) s

/-- INITIATE_DYNAMIC_CAPACITY_ADD (R94, R504). -/
def execInitiateDcAdd (transport : Nat) (session : Option Nat) (ld region length tag : Nat) (s : State) : Host.Outcome State Fault Refusal :=
  run (fmCommand transport session ld 0x5604 (dcAdd ld region length tag)) s

/-- ADD_DYNAMIC_CAPACITY_RESPONSE (R94, R114). -/
def execAddDcResponse (ld : Nat) (accept : List (Nat × Nat)) (s : State) : Host.Outcome State Fault Refusal :=
  run (mailbox {} ld (.addDcResponse accept)) s

/-- DC_OFFER_TIMEOUT (R94). -/
def execDcOfferTimeout (ld base : Nat) (s : State) : Host.Outcome State Fault Refusal :=
  run (dcOfferTimeout ld base) s

/-- RELEASE_DYNAMIC_CAPACITY (R95, R114). -/
def execReleaseDc (ld base size : Nat) (s : State) : Host.Outcome State Fault Refusal :=
  run (mailbox {} ld (.releaseDc base size)) s

/-- INITIATE_DYNAMIC_CAPACITY_RELEASE (R95). -/
def execInitiateDcRelease (transport : Nat) (session : Option Nat) (ld base size : Nat) (forced : Bool) (s : State) : Host.Outcome State Fault Refusal :=
  run (fmCommand transport session ld 0x5605 (dcForce ld base size forced)) s

/-- GPF_PHASE1 (R101). -/
def execGpfPhase1 (port : Nat) (s : State) : Host.Outcome State Fault Refusal :=
  run (gpfPhase1 port) s

/-- GPF_PHASE2 (R101). -/
def execGpfPhase2 (port : Nat) (s : State) : Host.Outcome State Fault Refusal :=
  run (gpfPhase2 port) s

/-- GPF_PHASE2_COMPLETE (R101). -/
def execGpfPhase2Complete (port : Nat) (s : State) : Host.Outcome State Fault Refusal :=
  run (gpfComplete port) s

end Sys2Proof.Machine
end

