-- ==== Sys2Proof/Machine/ExecCipher.lean ====
section
/-!
DEFINITION. Meanings of the rows of the cipher engine (chapter 12): one definition for each command, over the operations of its chapter.
-/
namespace Sys2Proof.Machine
open Sys2Proof

/-- CPH_CREATE_QUEUE (R346, R353). -/
def execCphCreateQueue (phys : Phys) (ld : Nat) (args : List Nat) (s : State) : Host.Outcome State Fault Refusal :=
  runAll phys (viaLd ld (cphCommand phys ld 1 args)) s

/-- CPH_DESTROY_QUEUE (R353). -/
def execCphDestroyQueue (phys : Phys) (ld : Nat) (args : List Nat) (s : State) : Host.Outcome State Fault Refusal :=
  runAll phys (viaLd ld (cphCommand phys ld 2 args)) s

/-- CPH_RESUME_QUEUE (R347, R353). -/
def execCphResumeQueue (phys : Phys) (ld : Nat) (args : List Nat) (s : State) : Host.Outcome State Fault Refusal :=
  runAll phys (viaLd ld (cphCommand phys ld 3 args)) s

/-- UNWRAP (R341, R342, R353). -/
def execUnwrapKey (phys : Phys) (ld : Nat) (args : List Nat) (s : State) : Host.Outcome State Fault Refusal :=
  runAll phys (viaLd ld (cphCommand phys ld 4 args)) s

/-- CLEAR_SLOT (R342, R353). -/
def execClearSlot (phys : Phys) (ld : Nat) (args : List Nat) (s : State) : Host.Outcome State Fault Refusal :=
  runAll phys (viaLd ld (cphCommand phys ld 5 args)) s

/-- QUERY_SLOT (R353). -/
def execQuerySlot (phys : Phys) (ld : Nat) (args : List Nat) (s : State) : Host.Outcome State Fault Refusal :=
  runAll phys (viaLd ld (cphCommand phys ld 6 args)) s

/-- MGMT_UNWRAP (R341, R342, R354). -/
def execMgmtUnwrap (phys : Phys) (slot : Nat) (s : State) : Host.Outcome State Fault Refusal :=
  runAll phys (viaReg 0xA0008 (mgmtCph 1 slot)) s

/-- MGMT_CLEAR_SLOT (R342, R354). -/
def execMgmtClearSlot (phys : Phys) (slot : Nat) (s : State) : Host.Outcome State Fault Refusal :=
  runAll phys (viaReg 0xA0008 (mgmtCph 2 slot)) s

/-- CPH_DOORBELL (R336, R344, R345, R346, R347, R348, R353). -/
def execCphDoorbell (phys : Phys) (ld queue tail : Nat) (s : State) : Host.Outcome State Fault Refusal :=
  runAll phys (viaLd ld (cphDoorbell ld queue tail)) s

/-- CIPHER_DESC_COMPLETE (R347). -/
def execCipherDescComplete (phys : Phys) (queue : Nat) (s : State) : Host.Outcome State Fault Refusal :=
  runAll phys (cipherDescComplete phys queue) s

/-- VERIFY_BUFFER_FREE (R348). -/
def execVerifyBufferFree (phys : Phys) (hemi : Nat) (s : State) : Host.Outcome State Fault Refusal :=
  runAll phys (verifyBufferFree phys hemi) s

/-- GO (R344, R345, R348, R349). -/
def execPageGo (ld : Nat) (ctrl : W64) (s : State) : Host.Outcome State Fault Refusal :=
  run (viaLd ld (pageGo ld ctrl)) s

/-- PAGE_DONE (R349). -/
def execPageDone (ld : Nat) (s : State) : Host.Outcome State Fault Refusal :=
  run (pageDone ld) s

/-- SLOT_STORE_ECC (R350). -/
def execSlotStoreEcc (hemi slot : Nat) (s : State) : Host.Outcome State Fault Refusal :=
  run (slotStoreEcc hemi slot) s

end Sys2Proof.Machine
end

