-- ==== Sys2Proof/Machine/ExecDawn.lean ====
section
/-!
DEFINITION. Meanings of the rows of Dawn stages (chapter 14): one definition for each command, over the operations of its chapter.
-/
namespace Sys2Proof.Machine
open Sys2Proof

/-- DAWN_D0 (R32, R50, R53, R65, R356, R357, R367, R368, R373, R381, R387, R388, R395, R397, R419, R430, R436, R467, R474, R501, R502, R503). -/
def execDawnD0 (eflashOk : Bool) (fuse : FuseRun) (s : State) : Host.Outcome State Fault Refusal :=
  runFuse (dawnD0 s.otp eflashOk fuse) s

/-- DAWN_D2 (R361, R387, R389, R469, R470, R471). -/
def execDawnD2 (badA badB coresOk : Bool) (s : State) : Host.Outcome State Fault Refusal :=
  run (dawnD2 badA badB coresOk) s

/-- DAWN_D3 (R2, R3, R11, R20, R28, R29, R30, R31, R32, R34, R35, R36, R37, R39, R41, R43, R44, R45, R46, R47, R48, R49, R51, R53, R54, R59, R61, R63, R72, R76, R93, R118, R119, R194, R201, R209, R233, R254, R261, R289, R324, R334, R338, R343, R351, R357, R369, R381, R387, R389, R407, R413, R428, R499, R500, R501, R502). -/
def execDawnD3 (s : State) : Host.Outcome State Fault Refusal :=
  run dawnD3 s

/-- DAWN_D4 (R41, R49, R53, R136, R137, R138, R139, R152, R169, R204, R205, R207, R209, R387, R389, R392, R461). -/
def execDawnD4 (found : SMap DimmFound) (dies : List DieFound) (s : State) : Host.Outcome State Fault Refusal :=
  run (dawnD4 found dies) s

/-- DAWN_D5 (R48, R51, R53, R102, R165, R169, R174, R176, R177, R180, R181, R188, R192, R194, R195, R196, R197, R203, R218, R219, R243, R322, R387, R389, R392, R446, R449, R504). -/
def execDawnD5 (media : FlashMedia) (rate : Option Nat) (s : State) : Host.Outcome State Fault Refusal :=
  run (dawnD5 media rate) s

/-- DAWN_D6 (R38, R62, R69, R278, R387, R389, R444, R450, R456, R502). -/
def execDawnD6 (s : State) : Host.Outcome State Fault Refusal :=
  run dawnD6 s

/-- DAWN_D7 (R21, R83, R86, R88, R89, R153, R165, R200, R226, R229, R270, R297, R318, R383, R387, R388, R442, R471). -/
def execDawnD7 (phys : Phys) (s : State) : Host.Outcome State Fault Refusal :=
  runAll phys dawnD7 s

/-- STAGE_TIMEOUT (R383, R387, R388, R389, R395, R471). -/
def execStageTimeout (s : State) : Host.Outcome State Fault Refusal :=
  run stageTimeout s

end Sys2Proof.Machine
end

