-- ==== Sys2Proof/Machine/ExecDram.lean ====
section
/-!
DEFINITION. Meanings of the rows of DRAM (chapter 6): one definition for each command, over the operations of its chapter.
-/
namespace Sys2Proof.Machine
open Sys2Proof

/-- REFRESH_BEAT (R154, R156, R157). -/
def execRefreshBeat (s : State) : Host.Outcome State Fault Refusal :=
  run refreshBeat s

/-- SPD_TEMP_POLL (R155, R406, R461). -/
def execSpdTempPoll (reads : SMap Int) (s : State) : Host.Outcome State Fault Refusal :=
  run (spdTempPoll reads) s

/-- READ_AGE_LIMIT (R158). -/
def execReadAgeLimit (s : State) : Host.Outcome State Fault Refusal :=
  run readAgeLimit s

/-- CA_PARITY_ALERT (R159, R160, R170, R461). -/
def execCaParityAlert (channel replays command : Nat) (location : W64) (addr : Nat) (s : State) : Host.Outcome State Fault Refusal :=
  run (caParityAlert channel replays command location addr) s

/-- THAW (R128, R148, R161, R162, R171, R453). -/
def execThaw (phys : Phys) (channel : Nat) (twin : Option Line) (s : State) : Host.Outcome State Fault Refusal :=
  runAll phys (viaReg (0x40008 + 0x1000 * channel) (drmThaw channel twin)) s

/-- MARK (R152, R171). -/
def execMark (channel dimm rank position : Nat) (s : State) : Host.Outcome State Fault Refusal :=
  run (viaReg (0x40008 + 0x1000 * channel) (drmMark channel dimm rank position)) s

/-- UNMARK (R152). -/
def execUnmark (channel dimm rank position : Nat) (s : State) : Host.Outcome State Fault Refusal :=
  run (viaReg (0x40008 + 0x1000 * channel) (drmUnmark channel dimm rank position)) s

/-- DIAG_READ (R162, R171). -/
def execDiagRead (phys : Phys) (channel : Nat) (s : State) : Host.Outcome State Fault Refusal :=
  run (viaReg (0x40008 + 0x1000 * channel) (drmDiagRead channel phys)) s

/-- REMOTE_PAGE_COPY_DONE (R162). -/
def execRemotePageCopyDone (phys : Phys) (page : Nat) (lines : SMap (Line × Bool)) (s : State) : Host.Outcome State Fault Refusal :=
  runAll phys (remotePageCopyDone phys page lines) s

/-- ZERO_FILL_DONE (R165, R166). -/
def execZeroFillDone (phys : Phys) (page : Nat) (s : State) : Host.Outcome State Fault Refusal :=
  runAll phys (zeroFillDone page) s

end Sys2Proof.Machine
end

