-- ==== Sys2Proof/Machine/ExecDusk.lean ====
section
/-!
DEFINITION. Meanings of the rows of the Dusk (chapters 7, 14 and 16): one definition for each command, over the operations of its chapter.
-/
namespace Sys2Proof.Machine
open Sys2Proof

/-- PWR_FAIL_N_ASSERT (R24, R59, R65, R83, R112, R129, R161, R181, R186, R200, R253, R322, R343, R350, R367, R379, R388, R390, R419, R427, R430, R442, R443, R444, R446, R447, R472, R493). -/
def execPwrFailAssert (s : State) : Host.Outcome State Fault Refusal :=
  run pwrFailAssert s

/-- DUSK_FLUSH_DONE (R54, R129, R186, R187, R190, R191, R192, R193, R422, R444, R445, R449). -/
def execDuskFlushDone (phys : Phys) (s : State) : Host.Outcome State Fault Refusal :=
  runAll phys (duskFlushDone phys) s

/-- SAVE_COMPLETE (R167, R186, R188, R189, R193, R384, R385, R419, R443). -/
def execSaveComplete (phys : Phys) (s : State) : Host.Outcome State Fault Refusal :=
  runAll phys (saveComplete phys) s

/-- PWR_FAIL_RETURN (R79, R83, R189, R194, R378, R385, R442, R443). -/
def execPwrFailReturn (phys : Phys) (s : State) : Host.Outcome State Fault Refusal :=
  runAll phys (pwrFailReturn phys) s

/-- HAND_OVER_DEADLINE (R419). -/
def execHandOverDeadline (phys : Phys) (s : State) : Host.Outcome State Fault Refusal :=
  runAll phys (handOverDeadline phys) s

end Sys2Proof.Machine
end

