-- ==== Sys2Proof/Machine/ExecEthernet.lean ====
section
/-!
DEFINITION. Meanings of the rows of Ethernet ports (chapter 11): one definition for each command, over the operations of its chapter.
-/
namespace Sys2Proof.Machine
open Sys2Proof

/-- ETH_PORT_UP (R70, R293, R294). -/
def execEthPortUp (port : Nat) (cr : Bool) (s : State) : Host.Outcome State Fault Refusal :=
  run (ethPortUp port cr) s

/-- NEIGHBOUR_SOLICITATION (R294). -/
def execNeighbourSolicitation (port target source : Nat) (s : State) : Host.Outcome State Fault Refusal :=
  run (neighbourSolicitation port target source) s

/-- ETH_FRAME_DISCARD (R293, R294, R295, R296, R325). -/
def execEthFrameDiscard (kind : EthDiscard) (s : State) : Host.Outcome State Fault Refusal :=
  run (ethFrameDiscard kind) s

/-- ETH_PORT_DOWN (R293, R295). -/
def execEthPortDown (port : Nat) (s : State) : Host.Outcome State Fault Refusal :=
  run (ethPortDown port) s

/-- AUTO_NEGOTIATION_TIMEOUT (R293). -/
def execAutoNegotiationTimeout (port : Nat) (s : State) : Host.Outcome State Fault Refusal :=
  run (autoNegTimeout port) s

end Sys2Proof.Machine
end

