-- ==== Sys2Proof/Machine/ExecFaults.lean ====
section
/-!
DEFINITION. Meanings of the rows of faults, Logbook, Almanac and eFlash (chapter 16): one definition for each command, over the operations of its chapter.
-/
namespace Sys2Proof.Machine
open Sys2Proof

/-- ERROR_PIN_ASSERT (R13, R22, R24, R108, R409, R410, R411, R414, R415, R416, R420). -/
def execErrorPinAssert (pin : Nat) (location : W64) (s : State) : Host.Outcome State Fault Refusal :=
  run (errorPinAssert pin location) s

/-- FLT_STATUS_CLEAR (R412). -/
def execFltStatusClear (mask : BitVec 128) (asserted : List (Nat × W64)) (s : State) : Host.Outcome State Fault Refusal :=
  run (viaReg 0xE0000 (fltStatusClear mask asserted)) s

/-- FLT_FIRST_REARM (R412). -/
def execFltFirstRearm (s : State) : Host.Outcome State Fault Refusal :=
  run (viaReg 0xE0010 fltFirstRearm) s

/-- LOGBOOK_SECOND (R418). -/
def execLogbookSecond (s : State) : Host.Outcome State Fault Refusal :=
  run logbookSecond s

/-- ALMANAC_SAMPLE (R423, R425, R426, R429). -/
def execAlmanacSample (metric index : Nat) (value : Int) (s : State) : Host.Outcome State Fault Refusal :=
  run (almanacSample metric index value) s

/-- ALMANAC_INTERVAL (R425). -/
def execAlmanacInterval (slot : Nat) (s : State) : Host.Outcome State Fault Refusal :=
  run (almanacInterval slot) s

/-- ALMANAC_HOURLY (R430). -/
def execAlmanacHourly (s : State) : Host.Outcome State Fault Refusal :=
  run almanacHourly s

/-- FREEZE (R427). -/
def execFreeze (on : Bool) (s : State) : Host.Outcome State Fault Refusal :=
  run (viaReg 0xF8000 (almFreeze on)) s

/-- FREEZE_EXPIRE (R427). -/
def execFreezeExpire (s : State) : Host.Outcome State Fault Refusal :=
  run freezeExpire s

/-- STORE (R430). -/
def execStore (s : State) : Host.Outcome State Fault Refusal :=
  run (viaReg 0xF8000 almStore) s

/-- CLEAR (R427). -/
def execClear (s : State) : Host.Outcome State Fault Refusal :=
  run (viaReg 0xF8000 almClear) s

/-- EFLASH_PROGRAM_DONE (R416, R432). -/
def execEflashProgramDone (phys : Phys) (ok : Bool) (s : State) : Host.Outcome State Fault Refusal :=
  runAll phys (eflashProgramDone ok phys) s

/-- EFLASH_ERASE_DONE (R415, R432, R436). -/
def execEflashEraseDone (us : Nat) (ok : Bool) (s : State) : Host.Outcome State Fault Refusal :=
  run (eflashEraseDone us ok) s

/-- EFLASH_SUSPEND (R434, R435). -/
def execEflashSuspend (s : State) : Host.Outcome State Fault Refusal :=
  run eflashSuspend s

/-- EFLASH_RESUME (R434). -/
def execEflashResume (s : State) : Host.Outcome State Fault Refusal :=
  run eflashResume s

end Sys2Proof.Machine
end

