-- ==== Sys2Proof/Machine/ExecFirmware.lean ====
section
/-!
DEFINITION. Meanings of the rows of firmware restarts (chapter 1): one definition for each command, over the operations of its chapter.
-/
namespace Sys2Proof.Machine
open Sys2Proof

/-- FIRMWARE_RESTART (R9, R25, R52, R59, R63, R253, R322, R350, R458). -/
def execFirmwareRestart (s : State) : Host.Outcome State Fault Refusal :=
  run firmwareReset s

/-- CORES_RUNNING (R25, R52, R59, R223, R473). -/
def execCoresRunning (phys : Phys) (s : State) : Host.Outcome State Fault Refusal :=
  runAll phys coresRunning s

/-- CORES_START_TIMEOUT (R27, R473). -/
def execCoresStartTimeout (s : State) : Host.Outcome State Fault Refusal :=
  run coresStartTimeout s

end Sys2Proof.Machine
end

