-- ==== Sys2Proof/Machine/ExecFlash.lean ====
section
/-!
DEFINITION. Meanings of the rows of the flash array (chapter 8): one definition for each command, over the operations of its chapter.
-/
namespace Sys2Proof.Machine
open Sys2Proof

/-- NAND_READ_DONE (R206, R225, R230, R461). -/
def execNandReadDone (stripe position failing : Nat) (suspended : Bool) (s : State) : Host.Outcome State Fault Refusal :=
  run (nandReadDone stripe position failing suspended) s

/-- NAND_PROGRAM_DONE (R187, R208, R210, R213, R214, R217, R390, R461). -/
def execNandProgramDone (phys : Phys) (stripe position : Nat) (ok : Bool) (s : State) : Host.Outcome State Fault Refusal :=
  run (nandProgramDone phys stripe position ok) s

/-- NAND_ERASE_DONE (R180, R208, R461). -/
def execNandEraseDone (zone : Nat) (failed : Option Nat) (s : State) : Host.Outcome State Fault Refusal :=
  run (nandEraseDone zone failed) s

/-- MEMBER_TIMEOUT (R180, R219, R220, R229, R390, R446, R461). -/
def execMemberTimeout (die : Nat) (op : NandOp) (s : State) : Host.Outcome State Fault Refusal :=
  run (memberTimeout die op) s

/-- STRIPE_PAD_TIMEOUT (R212). -/
def execStripePadTimeout (s : State) : Host.Outcome State Fault Refusal :=
  run stripePadTimeout s

/-- STRIPE_JOURNAL_COMMIT (R217). -/
def execStripeJournalCommit (s : State) : Host.Outcome State Fault Refusal :=
  run stripeJournalCommit s

/-- RECLAIM (R215, R231). -/
def execReclaim (s : State) : Host.Outcome State Fault Refusal :=
  run reclaim s

/-- REPLICA_REPLACE (R219). -/
def execReplicaReplace (s : State) : Host.Outcome State Fault Refusal :=
  run replicaReplace s

/-- START_REBUILD (R223). -/
def execStartRebuild (s : State) : Host.Outcome State Fault Refusal :=
  run (viaReg 0x60008 startRebuildCmd) s

/-- REBUILD_STRIPE (R210, R222, R223, R224). -/
def execRebuildStripe (s : State) : Host.Outcome State Fault Refusal :=
  run rebuildStripe s

/-- ADMIT (R207, R221). -/
def execAdmitDie (die : Nat) (s : State) : Host.Outcome State Fault Refusal :=
  run (viaReg 0x60008 (admitDie die)) s

/-- RETIRE (R180, R505). -/
def execRetire (die : Nat) (s : State) : Host.Outcome State Fault Refusal :=
  run (viaReg 0x60008 (retireCmd die)) s

/-- RAW_READ (R221). -/
def execRawRead (s : State) : Host.Outcome State Fault Refusal :=
  run (viaReg 0x60008 rawRead) s

/-- RAW_READ_DONE (R232, R235). -/
def execRawReadDone (answer : RawAnswer) (s : State) : Host.Outcome State Fault Refusal :=
  run (rawReadDone answer) s

/-- PATROL_PAUSE (R226). -/
def execPatrolPause (s : State) : Host.Outcome State Fault Refusal :=
  run (viaReg 0x60008 patrolPause) s

/-- PATROL_RESUME (R226). -/
def execPatrolResume (s : State) : Host.Outcome State Fault Refusal :=
  run (viaReg 0x60008 patrolResume) s

/-- PATROL_STRIPE (R210, R225, R227). -/
def execPatrolStripe (unread : List Nat) (errs : List (Nat × Nat × Nat)) (s : State) : Host.Outcome State Fault Refusal :=
  run (patrolStripe unread errs) s

/-- PATROL_DAILY (R226). -/
def execPatrolDaily (s : State) : Host.Outcome State Fault Refusal :=
  run patrolDaily s

/-- RESHAPE_COMPLETE (R228). -/
def execReshapeComplete (s : State) : Host.Outcome State Fault Refusal :=
  run reshapeComplete s

end Sys2Proof.Machine
end

