-- ==== Sys2Proof/Machine/ExecHalo.lean ====
section
/-!
DEFINITION. Meanings of the rows of the Halo cache and the merge buffer (chapter 5): one definition for each command, over the operations of its chapter.
-/
namespace Sys2Proof.Machine
open Sys2Proof

/-- STREAM_IDLE_EXPIRE (R126). -/
def execStreamIdleExpire (hemi granule : Nat) (s : State) : Host.Outcome State Fault Refusal :=
  run (streamIdleExpire hemi granule) s

/-- MERGE_WINDOW_EXPIRE (R106, R123, R124, R144, R145, R146, R147). -/
def execMergeWindowExpire (phys : Phys) (line : Nat) (s : State) : Host.Outcome State Fault Refusal :=
  runAll phys (mergeWindowExpire phys line) s

/-- HELD_HALF_ACCEPT (R122). -/
def execHeldHalfAccept (phys : Phys) (s : State) : Host.Outcome State Fault Refusal :=
  runAll phys (heldHalfAccept phys) s

/-- FILL_VICTIM_ACCEPTED (R127, R144, R145, R146). -/
def execFillVictimAccepted (phys : Phys) (s : State) : Host.Outcome State Fault Refusal :=
  runAll phys (fillVictimAccepted phys) s

/-- FATAL_FLUSH_DONE (R132, R133, R148, R452). -/
def execFatalFlushDone (phys : Phys) (s : State) : Host.Outcome State Fault Refusal :=
  runAll phys (fatalFlushDone phys) s

end Sys2Proof.Machine
end

