-- ==== Sys2Proof/Machine/ExecHost.lean ====
section
/-!
DEFINITION. Meanings of the rows of host ports and CXL.mem (chapter 4): one definition for each command, over the operations of its chapter.
-/
namespace Sys2Proof.Machine
open Sys2Proof

/-- PORT_RESET_BEGIN (R9, R113, R115, R253, R256, R322, R350). -/
def execPortResetBegin (phys : Phys) (reset : PortReset) (s : State) : Host.Outcome State Fault Refusal :=
  runAll phys (portResetBegin phys reset) s

/-- PORT_RESET_END (R9, R111, R481). -/
def execPortResetEnd (reset : PortReset) (s : State) : Host.Outcome State Fault Refusal :=
  run (portResetEnd reset) s

/-- LINK_DOWN (R113). -/
def execLinkDown (phys : Phys) (port : Nat) (s : State) : Host.Outcome State Fault Refusal :=
  runAll phys (linkDown phys port) s

/-- LINK_TRAINED (R84, R85). -/
def execLinkTrained (port speed width : Nat) (cxl : Bool) (s : State) : Host.Outcome State Fault Refusal :=
  run (linkTrained port speed width cxl) s

/-- RETRAIN (R85). -/
def execRetrain (port : Nat) (s : State) : Host.Outcome State Fault Refusal :=
  run (viaReg (0x20008 + 0x4000 * port) (retrainPort port)) s

/-- DISABLE (R86). -/
def execDisable (phys : Phys) (port : Nat) (on : Bool) (s : State) : Host.Outcome State Fault Refusal :=
  runAll phys (viaReg (0x20008 + 0x4000 * port) (portDisable phys port on)) s

/-- FLIT_CRC_ERROR (R114). -/
def execFlitCrcError (port : Nat) (exhausted : Bool) (s : State) : Host.Outcome State Fault Refusal :=
  run (flitCrcError port exhausted) s

/-- HOST_WRITE (R10, R16, R17, R21, R42, R73, R87, R91, R96, R97, R99, R100, R104, R105, R106, R114, R116, R120, R122, R123, R124, R125, R126, R128, R130, R131, R132, R134, R140, R161, R162, R166, R172, R175, R176, R183, R198, R236, R239, R241, R246, R259, R260, R268, R272, R274, R335, R336, R344, R345, R451). -/
def execHostWrite (phys : Phys) (ld tag dpa : Nat) (data : Half) (poison : Bool) (s : State) : Host.Outcome State Fault Refusal :=
  runAll phys (hostWrite phys ld tag dpa data poison) s

/-- HOST_READ (R10, R17, R42, R87, R91, R96, R97, R99, R100, R104, R105, R106, R114, R116, R120, R123, R124, R127, R128, R130, R131, R132, R133, R134, R140, R141, R144, R145, R146, R147, R148, R149, R152, R158, R159, R160, R161, R163, R164, R166, R170, R198, R213, R230, R236, R238, R239, R240, R241, R246, R252, R259, R260, R335, R336, R451, R452). -/
def execHostRead (phys : Phys) (ld tag dpa : Nat) (exclusive : Bool) (s : State) : Host.Outcome State Fault Refusal :=
  runAll phys (hostRead phys ld tag dpa exclusive) s

/-- BIRSPI (R97, R114). -/
def execBiRspI (phys : Phys) (holder granule : Nat) (s : State) : Host.Outcome State Fault Refusal :=
  runAll phys (biRspI phys holder granule) s

/-- BI_TIMEOUT (R98, R114). -/
def execBiTimeout (phys : Phys) (holder granule : Nat) (s : State) : Host.Outcome State Fault Refusal :=
  runAll phys (biTimeout phys holder granule) s

end Sys2Proof.Machine
end

