-- ==== Sys2Proof/Machine/ExecLifeCycle.lean ====
section
/-!
DEFINITION. Meanings of the rows of LCS_CMD and the TAP (chapter 13): one definition for each command, over the operations of its chapter.
-/
namespace Sys2Proof.Machine
open Sys2Proof

/-- INSTALL_OWNER (R360). -/
def execInstallOwner (fuse : FuseRun) (s : State) : Host.Outcome State Fault Refusal :=
  runFuse (viaReg 0xB0100 (installOwner fuse)) s

/-- ALIAS_BIND (R359). -/
def execAliasBind (s : State) : Host.Outcome State Fault Refusal :=
  run (viaReg 0xB0100 aliasBind) s

/-- INSTALL_ALIAS_CHAIN (R359). -/
def execInstallAliasChain (arg : Nat) (s : State) : Host.Outcome State Fault Refusal :=
  run (viaReg 0xB0100 (installAliasChain arg)) s

/-- SEAL (R365, R467). -/
def execSealPart (fuse : FuseRun) (s : State) : Host.Outcome State Fault Refusal :=
  runFuse (viaReg 0xB0100 (lcsSeal fuse)) s

/-- DEBUG_CHALLENGE (R366). -/
def execDebugChallenge (s : State) : Host.Outcome State Fault Refusal :=
  run (viaReg 0xB0100 debugChallenge) s

/-- DEBUG_UNLOCK (R366). -/
def execDebugUnlock (s : State) : Host.Outcome State Fault Refusal :=
  run (viaReg 0xB0100 debugUnlock) s

/-- RETURN_CHALLENGE (R367). -/
def execReturnChallenge (s : State) : Host.Outcome State Fault Refusal :=
  run (viaReg 0xB0100 returnChallenge) s

/-- RETURN (R333, R365, R367). -/
def execReturnPart (arg : Nat) (fuse : FuseRun) (s : State) : Host.Outcome State Fault Refusal :=
  runFuse (viaReg 0xB0100 (lcsReturn arg fuse)) s

/-- COMMIT_SVN (R362). -/
def execCommitSvn (fuse : FuseRun) (s : State) : Host.Outcome State Fault Refusal :=
  runFuse (viaReg 0xB0100 (commitSvn fuse)) s

/-- TAP_PROVISION (R365). -/
def execTapProvision (chain : List Byte) (s : State) : Host.Outcome State Fault Refusal :=
  runFuse (tapProvision chain) s

/-- TAP_INSTRUCTION (R364). -/
def execTapInstruction (instruction : TapInstr) (s : State) : Host.Outcome State Fault Refusal :=
  run (tapInstruction instruction) s

end Sys2Proof.Machine
end

