-- ==== Sys2Proof/Machine/ExecLink.lean ====
section
/-!
DEFINITION. Meanings of the rows of the twin link (chapter 10): one definition for each command, over the operations of its chapter.
-/
namespace Sys2Proof.Machine
open Sys2Proof

/-- CRAILANIL_TRAIN (R62, R263, R264, R290). -/
def execCrailanilTrain (link width : Nat) (peer : TrainPeer) (s : State) : Host.Outcome State Fault Refusal :=
  run (crailanilTrain link width peer) s

/-- TRAIN_TIMEOUT (R62). -/
def execTrainTimeout (s : State) : Host.Outcome State Fault Refusal :=
  run trainTimeout s

/-- CRAILANIL_REKEY (R264). -/
def execCrailanilRekey (link : Nat) (share : List Byte) (s : State) : Host.Outcome State Fault Refusal :=
  run (crailanilRekey link share) s

/-- CRN_ACK (R266). -/
def execCrnAck (link seq : Nat) (s : State) : Host.Outcome State Fault Refusal :=
  run (crnAck link seq) s

/-- CRN_NAK (R266, R290). -/
def execCrnNak (link seq : Nat) (s : State) : Host.Outcome State Fault Refusal :=
  run (crnNak link seq) s

/-- CRN_ACK_TIMER (R266). -/
def execCrnAckTimer (link : Nat) (s : State) : Host.Outcome State Fault Refusal :=
  run (crnAckTimer link) s

/-- HALF_LINK_DOWN (R263). -/
def execHalfLinkDown (phys : Phys) (link : Nat) (s : State) : Host.Outcome State Fault Refusal :=
  runAll phys (halfLinkDown link) s

/-- LINK_GRACE_EXPIRE (R276). -/
def execLinkGraceExpire (phys : Phys) (s : State) : Host.Outcome State Fault Refusal :=
  runAll phys linkGraceExpire s

/-- LINK_RETURN (R270, R276). -/
def execLinkReturn (phys : Phys) (s : State) : Host.Outcome State Fault Refusal :=
  runAll phys (linkReturn phys) s

end Sys2Proof.Machine
end

