-- ==== Sys2Proof/Machine/ExecMailbox.lean ====
section
/-!
DEFINITION. Meanings of the rows of the mailbox and the register window (chapter 4): one definition for each command, over the operations of its chapter.
-/
namespace Sys2Proof.Machine
open Sys2Proof

/-- IDENTIFY_MEMORY_DEVICE (R92). -/
def execIdentifyMemoryDevice (ld : Nat) (s : State) : Host.Outcome State Fault Refusal :=
  run (mailbox {} ld .identify) s

/-- GET_HEALTH_INFO (R102). -/
def execGetHealthInfo (ld : Nat) (s : State) : Host.Outcome State Fault Refusal :=
  run (mailbox {} ld .health) s

/-- GET_EVENT_RECORDS (R108). -/
def execGetEventRecords (ld : Nat) (log : LogKind) (s : State) : Host.Outcome State Fault Refusal :=
  run (mailbox {} ld (.getEvents log)) s

/-- CLEAR_EVENT_RECORDS (R108). -/
def execClearEventRecords (ld : Nat) (log : LogKind) (count : Nat) (s : State) : Host.Outcome State Fault Refusal :=
  run (mailbox {} ld (.clearEvents log count)) s

/-- GET_SUPPORTED_LOGS (R109). -/
def execGetSupportedLogs (ld : Nat) (s : State) : Host.Outcome State Fault Refusal :=
  run (mailbox {} ld .supportedLogs) s

/-- GET_LOG (R109). -/
def execGetLog (ld log : Nat) (s : State) : Host.Outcome State Fault Refusal :=
  run (mailbox {} ld (.getLog log)) s

/-- SET_TIMESTAMP (R109). -/
def execSetTimestamp (ld time : Nat) (s : State) : Host.Outcome State Fault Refusal :=
  run (mailbox {} ld (.setTimestamp time)) s

/-- GET_MULTI_HEADED_INFO (R87). -/
def execGetMultiHeadedInfo (ld : Nat) (s : State) : Host.Outcome State Fault Refusal :=
  run (mailbox {} ld .multiHeaded) s

/-- GET_POISON_LIST (R107). -/
def execGetPoisonList (ld dpa length : Nat) (s : State) : Host.Outcome State Fault Refusal :=
  run (mailbox {} ld (.getPoison dpa length)) s

/-- INJECT_POISON (R107, R467). -/
def execInjectPoison (phys : Phys) (ld dpa : Nat) (s : State) : Host.Outcome State Fault Refusal :=
  runAll phys (mailbox phys ld (.injectPoison dpa)) s

/-- CLEAR_POISON (R106, R107). -/
def execClearPoison (phys : Phys) (ld dpa : Nat) (data : Half) (s : State) : Host.Outcome State Fault Refusal :=
  runAll phys (mailbox phys ld (.clearPoison dpa data)) s

/-- SCAN_MEDIA (R107). -/
def execScanMedia (ld dpa length : Nat) (s : State) : Host.Outcome State Fault Refusal :=
  run (mailbox {} ld (.scanMedia dpa length)) s

/-- SCAN_MEDIA_DONE (R107). -/
def execScanMediaDone (ld : Nat) (s : State) : Host.Outcome State Fault Refusal :=
  run (scanMediaDone ld) s

/-- MAILBOX_UNSUPPORTED (R87, R109, R110). -/
def execMailboxUnsupported (ld opcode : Nat) (input : List Byte) (s : State) : Host.Outcome State Fault Refusal :=
  run (mailbox {} ld (.other opcode input)) s

/-- GET_REGION_MAP (R110). -/
def execGetRegionMap (ld start count inputLen : Nat) (s : State) : Host.Outcome State Fault Refusal :=
  run (mailbox {} ld (.regionMap start count inputLen)) s

/-- GET_PERSISTENCE_STATUS (R202). -/
def execGetPersistenceStatus (ld inputLen : Nat) (s : State) : Host.Outcome State Fault Refusal :=
  run (mailbox {} ld (.persistence inputLen)) s

/-- GET_RESTORE_STATUS (R110). -/
def execGetRestoreStatus (ld inputLen : Nat) (s : State) : Host.Outcome State Fault Refusal :=
  run (mailbox {} ld (.restore inputLen)) s

/-- GET_EPOCH_HISTORY (R110). -/
def execGetEpochHistory (ld inputLen : Nat) (s : State) : Host.Outcome State Fault Refusal :=
  run (mailbox {} ld (.epochHistory inputLen)) s

/-- GET_TOPOLOGY_STATUS (R110). -/
def execGetTopologyStatus (ld inputLen : Nat) (s : State) : Host.Outcome State Fault Refusal :=
  run (mailbox {} ld (.topology inputLen)) s

/-- GET_CHART_IDENTITY (R110). -/
def execGetChartIdentity (ld inputLen : Nat) (s : State) : Host.Outcome State Fault Refusal :=
  run (mailbox {} ld (.chartIdentity inputLen)) s

/-- MAILBOX_WRITE_BUSY (R114). -/
def execMailboxWriteBusy (ld : Nat) (s : State) : Host.Outcome State Fault Refusal :=
  run (mailboxWriteBusy ld) s

/-- WINDOW_VIOLATION (R111, R112, R114, R327, R349, R353, R481). -/
def execWindowViolation (ld offset : Nat) (read : Bool) (s : State) : Host.Outcome State Fault Refusal :=
  run (windowViolation ld offset read) s

end Sys2Proof.Machine
end

