-- ==== Sys2Proof/Machine/ExecMctp.lean ====
section
/-!
DEFINITION. Meanings of the rows of I3C, MCTP and PLDM (chapter 18): one definition for each command, over the operations of its chapter.
-/
namespace Sys2Proof.Machine
open Sys2Proof

/-- I3C_DYNAMIC_ADDRESS (R462). -/
def execI3cDynamicAddress (port : Nat) (static : Option Nat) (addr : Nat) (s : State) : Host.Outcome State Fault Refusal :=
  run (i3cDynamicAddress port static addr) s

/-- MCTP_PACKET (R462, R463). -/
def execMctpPacket (transport : Nat) (pecOk first last : Bool) (payload : List Byte) (s : State) : Host.Outcome State Fault Refusal :=
  run (mctpPacket transport pecOk first last payload) s

/-- SET_ENDPOINT_ID (R463). -/
def execSetEndpointId (transport id : Nat) (s : State) : Host.Outcome State Fault Refusal :=
  run (setEndpointId transport id) s

/-- SET_MTU (R463). -/
def execSetMtu (port size : Nat) (s : State) : Host.Outcome State Fault Refusal :=
  run (setMtu port size) s

/-- SET_EVENT_RECEIVER (R468). -/
def execSetEventReceiver (transport : Nat) (receiver : Option Nat) (s : State) : Host.Outcome State Fault Refusal :=
  run (setEventReceiver transport receiver) s

/-- GET_SENSOR_READING (R468). -/
def execGetSensorReading (transport sensor : Nat) (s : State) : Host.Outcome State Fault Refusal :=
  run (getSensorReading transport sensor) s

/-- GET_PDR (R468). -/
def execGetPdr (transport handle : Nat) (s : State) : Host.Outcome State Fault Refusal :=
  run (getPdr transport handle) s

/-- GET_FRU_RECORD_TABLE (R468). -/
def execGetFruRecordTable (transport : Nat) (s : State) : Host.Outcome State Fault Refusal :=
  run (getFru transport) s

/-- PLDM_BASE (R468). -/
def execPldmBase (transport command arg : Nat) (s : State) : Host.Outcome State Fault Refusal :=
  run (pldmBase transport command arg) s

end Sys2Proof.Machine
end

