-- ==== Sys2Proof/Machine/ExecMeridian.lean ====
section
/-!
DEFINITION. Meanings of the rows of the Meridian count (chapter 3): one definition for each command, over the operations of its chapter.
-/
namespace Sys2Proof.Machine
open Sys2Proof

/-- MERIDIAN_TICK (R23, R64, R66, R81, R502). -/
def execMeridianTick (gap : Nat) (s : State) : Host.Outcome State Fault Refusal :=
  run (meridianTick gap) s

/-- TICK_LOSS (R66, R77, R81, R455). -/
def execTickLoss (s : State) : Host.Outcome State Fault Refusal :=
  run tickLoss s

/-- DEAD_RECKONING_TICK (R23, R64, R77, R78, R280, R455, R502). -/
def execDeadReckoningTick (s : State) : Host.Outcome State Fault Refusal :=
  run deadReckoningTick s

/-- MER_FRAME (R67, R68, R69, R76, R79, R81, R456, R495, R502). -/
def execMerFrame (cells : List (Bool × Bool)) (since : Nat) (s : State) : Host.Outcome State Fault Refusal :=
  run (merFrame cells since) s

/-- FRAME_MISSING (R68, R81). -/
def execFrameMissing (s : State) : Host.Outcome State Fault Refusal :=
  run frameMissing s

/-- SLEW_ADJUST (R64, R78, R79). -/
def execSlewAdjust (s : State) : Host.Outcome State Fault Refusal :=
  run slewAdjust s

/-- MERIDIAN_WAIT_TIMEOUT (R69). -/
def execMeridianWaitTimeout (s : State) : Host.Outcome State Fault Refusal :=
  run meridianWaitTimeout s

/-- PTP_SYNC (R70, R71, R81). -/
def execPtpSync (header : PtpHdr) (time : Int) (twoStep : Bool) (s : State) : Host.Outcome State Fault Refusal :=
  run (ptpSync header time twoStep) s

/-- PTP_FOLLOW_UP (R70). -/
def execPtpFollowUp (header : PtpHdr) (time : Int) (s : State) : Host.Outcome State Fault Refusal :=
  run (ptpFollowUp header time) s

/-- PTP_ANNOUNCE (R70). -/
def execPtpAnnounce (header : PtpHdr) (rank : Nat) (s : State) : Host.Outcome State Fault Refusal :=
  run (ptpAnnounce header rank) s

/-- PTP_DELAY_RESP (R70). -/
def execPtpDelayResp (header : PtpHdr) (peer : Bool) (seq : Nat) (delay : Int) (s : State) : Host.Outcome State Fault Refusal :=
  run (ptpDelayResp header peer seq delay) s

/-- PTP_LOSS (R71, R81). -/
def execPtpLoss (s : State) : Host.Outcome State Fault Refusal :=
  run ptpLoss s

/-- PTP_DELAY_REQ_SEND (R70). -/
def execPtpDelayReqSend (s : State) : Host.Outcome State Fault Refusal :=
  run ptpDelayReqSend s

/-- EPOCH_BOUNDARY (R56, R73, R76, R147, R153, R159, R177, R179, R226, R231). -/
def execEpochBoundary (phys : Phys) (s : State) : Host.Outcome State Fault Refusal :=
  runAll phys (epochEnds phys) s

/-- EPOCH_SEAL (R73). -/
def execEpochSeal (s : State) : Host.Outcome State Fault Refusal :=
  run epochSeal s

/-- HOURLY_RECORD (R65, R181, R343). -/
def execHourlyRecord (s : State) : Host.Outcome State Fault Refusal :=
  run hourlyRecord s

end Sys2Proof.Machine
end

