-- ==== Sys2Proof/Machine/ExecOrbit.lean ====
section
/-!
DEFINITION. Meanings of the rows of Orbit packets and queues (chapter 11): one definition for each command, over the operations of its chapter.
-/
namespace Sys2Proof.Machine
open Sys2Proof

/-- DOORBELL (R305, R306, R307, R309, R327). -/
def execOrbDoorbell (phys : Phys) (ld queue tail : Nat) (s : State) : Host.Outcome State Fault Refusal :=
  runAll phys (viaLd ld (doorbell ld queue tail)) s

/-- SEGMENT_SEND (R295, R296, R297, R299, R309, R344). -/
def execSegmentSend (phys : Phys) (queue : Nat) (s : State) : Host.Outcome State Fault Refusal :=
  runAll phys (segmentSend phys queue) s

/-- WRITE (R10, R21, R73, R122, R125, R296, R301, R312, R313, R317, R319, R320, R321, R325, R336, R344). -/
def execOrbWrite (phys : Phys) (wire : Wire) (packet : OrbPkt) (s : State) : Host.Outcome State Fault Refusal :=
  runAll phys (orbWrite phys wire packet) s

/-- READ (R10, R296, R301, R312, R314, R320, R321). -/
def execOrbRead (phys : Phys) (wire : Wire) (packet : OrbPkt) (s : State) : Host.Outcome State Fault Refusal :=
  runAll phys (orbRead phys wire packet) s

/-- ATOMIC_ADD (R21, R301, R312, R315, R320, R321). -/
def execAtomicAdd (phys : Phys) (wire : Wire) (packet : OrbPkt) (s : State) : Host.Outcome State Fault Refusal :=
  runAll phys (orbAdd phys wire packet) s

/-- ATOMIC_CAS (R21, R301, R312, R315, R320, R321). -/
def execAtomicCas (phys : Phys) (wire : Wire) (packet : OrbPkt) (s : State) : Host.Outcome State Fault Refusal :=
  runAll phys (orbCas phys wire packet) s

/-- WRITE_NOTIFY (R301, R304, R307, R312, R316). -/
def execWriteNotify (phys : Phys) (wire : Wire) (packet : OrbPkt) (s : State) : Host.Outcome State Fault Refusal :=
  runAll phys (orbNotify phys wire packet) s

/-- READ_DATA (R306, R312, R314, R325). -/
def execReadData (phys : Phys) (wire : Wire) (packet : OrbPkt) (s : State) : Host.Outcome State Fault Refusal :=
  runAll phys (orbReadData phys wire packet) s

/-- ACK (R304, R306, R308, R310, R311, R312, R325). -/
def execOrbAck (phys : Phys) (wire : Wire) (packet : OrbPkt) (s : State) : Host.Outcome State Fault Refusal :=
  runAll phys (orbAck phys wire packet) s

/-- RETRANSMIT_TIMER (R310, R311). -/
def execRetransmitTimer (phys : Phys) (queue msgId offset : Nat) (s : State) : Host.Outcome State Fault Refusal :=
  runAll phys (retransmitTimer phys queue msgId offset) s

/-- MESSAGE_HORIZON (R310). -/
def execMessageHorizon (phys : Phys) (queue msgId : Nat) (s : State) : Host.Outcome State Fault Refusal :=
  runAll phys (messageHorizon queue msgId) s

/-- WAIT_TIMEOUT (R307). -/
def execWaitTimeout (phys : Phys) (queue : Nat) (s : State) : Host.Outcome State Fault Refusal :=
  runAll phys (waitTimeout queue) s

/-- WAIT_TABLE_RETRY (R307). -/
def execWaitTableRetry (phys : Phys) (queue : Nat) (s : State) : Host.Outcome State Fault Refusal :=
  runAll phys (waitTableRetry queue) s

/-- CONTEXT_FETCH_DONE (R319). -/
def execContextFetchDone (phys : Phys) (context : Bool) (index : Nat) (s : State) : Host.Outcome State Fault Refusal :=
  runAll phys (contextFetchDone phys context index) s

/-- REPLAY_ENTRY_EXPIRE (R315). -/
def execReplayEntryExpire (engine source queue msgId : Nat) (s : State) : Host.Outcome State Fault Refusal :=
  run (replayExpire engine source queue msgId) s

/-- REPLAY_CACHE_ECC (R319). -/
def execReplayCacheEcc (word : OrbEcc) (macroNo index : Nat) (s : State) : Host.Outcome State Fault Refusal :=
  run (replayCacheEcc word macroNo index) s

/-- REPLAY_WINDOW_END (R318, R319). -/
def execReplayWindowEnd (engine : Nat) (s : State) : Host.Outcome State Fault Refusal :=
  run (replayWindowEnd engine) s

end Sys2Proof.Machine
end

