-- ==== Sys2Proof/Machine/ExecOrbitCmd.lean ====
section
/-!
DEFINITION. Meanings of the rows of Orbit commands of logical devices (chapter 11): one definition for each command, over the operations of its chapter.
-/
namespace Sys2Proof.Machine
open Sys2Proof

/-- ORB_CREATE_QUEUE (R303, R322, R327). -/
def execOrbCreateQueue (phys : Phys) (ld : Nat) (args : List Nat) (s : State) : Host.Outcome State Fault Refusal :=
  runAll phys (viaLd ld (orbCommand phys ld 1 args)) s

/-- ORB_DESTROY_QUEUE (R322, R327). -/
def execOrbDestroyQueue (phys : Phys) (ld : Nat) (args : List Nat) (s : State) : Host.Outcome State Fault Refusal :=
  runAll phys (viaLd ld (orbCommand phys ld 2 args)) s

/-- ORB_RESUME_QUEUE (R308, R327). -/
def execOrbResumeQueue (phys : Phys) (ld : Nat) (args : List Nat) (s : State) : Host.Outcome State Fault Refusal :=
  runAll phys (viaLd ld (orbCommand phys ld 3 args)) s

/-- REGISTER_KEY (R300, R302, R327). -/
def execRegisterKey (phys : Phys) (ld : Nat) (args : List Nat) (s : State) : Host.Outcome State Fault Refusal :=
  runAll phys (viaLd ld (orbCommand phys ld 4 args)) s

/-- DEREGISTER_KEY (R302, R327). -/
def execDeregisterKey (phys : Phys) (ld : Nat) (args : List Nat) (s : State) : Host.Outcome State Fault Refusal :=
  runAll phys (viaLd ld (orbCommand phys ld 5 args)) s

/-- QUERY_QUEUE (R327). -/
def execQueryQueue (phys : Phys) (ld : Nat) (args : List Nat) (s : State) : Host.Outcome State Fault Refusal :=
  runAll phys (viaLd ld (orbCommand phys ld 6 args)) s

end Sys2Proof.Machine
end

