-- ==== Sys2Proof/Machine/ExecPersist.lean ====
section
/-!
DEFINITION. Meanings of the rows of persistence (chapter 7): one definition for each command, over the operations of its chapter.
-/
namespace Sys2Proof.Machine
open Sys2Proof

/-- WRITEBACK_ISSUE (R60, R132, R175, R182, R191, R195, R199, R212, R215, R242). -/
def execWritebackIssue (phys : Phys) (s : State) : Host.Outcome State Fault Refusal :=
  runAll phys (writebackIssue phys) s

/-- WRITEBACK_PROGRAM_DONE (R175, R214). -/
def execWritebackProgramDone (phys : Phys) (page : Nat) (s : State) : Host.Outcome State Fault Refusal :=
  runAll phys (writebackProgramDone page) s

/-- GOVERNOR_WINDOW (R181, R182). -/
def execGovernorWindow (s : State) : Host.Outcome State Fault Refusal :=
  run governorWindow s

/-- THROTTLE_RELEASE (R183). -/
def execThrottleRelease (phys : Phys) (s : State) : Host.Outcome State Fault Refusal :=
  runAll phys (throttleRelease phys) s

/-- THROTTLE_OVERDRAW (R183). -/
def execThrottleOverdraw (phys : Phys) (s : State) : Host.Outcome State Fault Refusal :=
  runAll phys (throttleOverdraw phys) s

/-- HOLDUP_LOW_N_ASSERT (R177, R184, R493). -/
def execHoldupLowAssert (s : State) : Host.Outcome State Fault Refusal :=
  run holdupAssert s

/-- HOLDUP_LOW_N_DEASSERT (R184). -/
def execHoldupLowDeassert (s : State) : Host.Outcome State Fault Refusal :=
  run holdupDeassert s

/-- HOLDUP_RESTORE (R177, R184). -/
def execHoldupRestore (s : State) : Host.Outcome State Fault Refusal :=
  run holdupRestore s

/-- RESTORE_DONE (R60, R108, R191, R198). -/
def execRestoreDone (phys : Phys) (page bad : Nat) (s : State) : Host.Outcome State Fault Refusal :=
  runAll phys (restoreDone phys page bad) s

/-- BACKGROUND_RESTORE (R198). -/
def execBackgroundRestore (s : State) : Host.Outcome State Fault Refusal :=
  run backgroundRestore s

/-- GENERATION_DEATH (R179, R194, R199). -/
def execGenerationDeath (generation : Nat) (s : State) : Host.Outcome State Fault Refusal :=
  run (generationDeath generation) s

end Sys2Proof.Machine
end

