-- ==== Sys2Proof/Machine/ExecPower.lean ====
section
/-!
DEFINITION. Meanings of the rows of power, reset and Dawn-stage-1 rows (chapters 0 and 14): one definition for each command, over the operations of its chapter.
-/
namespace Sys2Proof.Machine
open Sys2Proof

/-- AON_POWER_UP (R9, R64, R65, R82, R333, R397, R439, R440, R474, R487, R501). -/
def execAonPowerUp (straps : Nat) (s : State) : Host.Outcome State Fault Refusal :=
  runAlways (aonPowerUp straps) s

/-- AON_POWER_LOSS (R384, R489, R503). -/
def execAonPowerLoss (s : State) : Host.Outcome State Fault Refusal :=
  run aonPowerLoss s

/-- SYS_RST_N_ASSERT (R9, R63, R115, R129, R135, R161, R171, R203, R235, R257, R292, R322, R328, R333, R370, R383, R388, R392, R393, R408, R438, R472, R493). -/
def execSysRstAssert (phys : Phys) (s : State) : Host.Outcome State Fault Refusal :=
  run (sysRstAssert phys) s

/-- SYS_RST_N_DEASSERT (R364, R393, R487, R493). -/
def execSysRstDeassert (straps : Nat) (s : State) : Host.Outcome State Fault Refusal :=
  run (sysRstDeassert straps) s

/-- ON (R378, R384, R386). -/
def execPsqOn (s : State) : Host.Outcome State Fault Refusal :=
  run (viaReg 0xC0008 psqOn) s

/-- OFF (R24, R379, R384, R386). -/
def execPsqOff (s : State) : Host.Outcome State Fault Refusal :=
  run (viaReg 0xC0008 psqOff) s

/-- CYCLE (R24, R379, R384, R386). -/
def execPsqCycle (s : State) : Host.Outcome State Fault Refusal :=
  run (viaReg 0xC0008 psqCycle) s

/-- DAWN_RETRY (R396). -/
def execDawnRetry (s : State) : Host.Outcome State Fault Refusal :=
  run (viaReg 0xC0008 psqDawnRetry) s

/-- SEQUENCER_POWER_UP (R374, R375, R378, R379, R384). -/
def execSequencerPowerUp (s : State) : Host.Outcome State Fault Refusal :=
  run sequencerPowerUp s

/-- SEQ_PG_RISE (R374, R375). -/
def execSeqPgRise (slot : Nat) (s : State) : Host.Outcome State Fault Refusal :=
  run (seqPgRise slot) s

/-- SEQ_PG_FALL (R374, R377, R380, R383, R503). -/
def execSeqPgFall (slot : Nat) (s : State) : Host.Outcome State Fault Refusal :=
  run (seqPgFall slot) s

/-- PG_TIMEOUT (R375, R376, R377, R383, R389). -/
def execPgTimeout (slot : Nat) (s : State) : Host.Outcome State Fault Refusal :=
  run (pgTimeout slot) s

/-- SETTLE_DONE (R375, R387). -/
def execSettleDone (s : State) : Host.Outcome State Fault Refusal :=
  run settleDone s

/-- DISCHARGE_TIMEOUT (R377, R383). -/
def execDischargeTimeout (slot : Nat) (s : State) : Host.Outcome State Fault Refusal :=
  run (dischargeTimeout slot) s

/-- MIN_OFF_END (R375, R378, R379, R389). -/
def execMinOffEnd (s : State) : Host.Outcome State Fault Refusal :=
  run minOffEnd s

end Sys2Proof.Machine
end

