-- ==== Sys2Proof/Machine/ExecRegisters.lean ====
section
/-!
DEFINITION. Meanings of the rows of writes to registers without rows of their own (chapter 19): one definition for each command, over the operations of its chapter.
-/
namespace Sys2Proof.Machine
open Sys2Proof

/-- REGISTER_WRITE (R2, R7, R8, R20, R247, R373, R477, R479, R480). -/
def execRegisterWrite (env : RegEnv) (target : RegTarget) (value : W64) (s : State) : Host.Outcome State Fault Refusal :=
  runFuseAll env.phys (registerWrite env target value) s

/-- REGISTER_ACCESS_VIOLATION (R6). -/
def execRegisterAccessViolation (read : Bool) (s : State) : Host.Outcome State Fault Refusal :=
  run (registerAccessViolation read) s

end Sys2Proof.Machine
end

