-- ==== Sys2Proof/Machine/ExecSpdm.lean ====
section
/-!
DEFINITION. Meanings of the rows of SPDM and IDE key management (chapters 4 and 13): one definition for each command, over the operations of its chapter.
-/
namespace Sys2Proof.Machine
open Sys2Proof

/-- IDE_KEY_PROG (R104). -/
def execIdeKeyProg (transport session port : Nat) (stream : IdeStream) (s : State) : Host.Outcome State Fault Refusal :=
  run (inIdeSession transport session (ideKeyProg port stream)) s

/-- IDE_K_SET_GO (R104). -/
def execIdeKSetGo (transport session port : Nat) (stream : IdeStream) (s : State) : Host.Outcome State Fault Refusal :=
  run (inIdeSession transport session (ideSetGo port stream)) s

/-- IDE_K_SET_STOP (R104). -/
def execIdeKSetStop (transport session port : Nat) (stream : IdeStream) (s : State) : Host.Outcome State Fault Refusal :=
  run (inIdeSession transport session (ideSetStop port stream)) s

/-- IDE_QUERY (R104). -/
def execIdeQuery (transport session port : Nat) (s : State) : Host.Outcome State Fault Refusal :=
  run (inIdeSession transport session (ideQuery port)) s

/-- GET_VERSION (R369, R370). -/
def execGetVersion (transport : Nat) (s : State) : Host.Outcome State Fault Refusal :=
  run (spdmVersion transport) s

/-- GET_CAPABILITIES (R369, R370). -/
def execGetCapabilities (transport version : Nat) (s : State) : Host.Outcome State Fault Refusal :=
  run (spdmCapabilities transport version) s

/-- NEGOTIATE_ALGORITHMS (R369, R370). -/
def execNegotiateAlgorithms (transport : Nat) (offered : Bool) (s : State) : Host.Outcome State Fault Refusal :=
  run (spdmAlgorithms transport offered) s

/-- GET_DIGESTS (R369, R370). -/
def execGetDigests (transport : Nat) (session : Option Nat) (s : State) : Host.Outcome State Fault Refusal :=
  run (spdmDigests transport session) s

/-- GET_CERTIFICATE (R369, R370). -/
def execGetCertificate (transport : Nat) (session : Option Nat) (slot offset length : Nat) (s : State) : Host.Outcome State Fault Refusal :=
  run (spdmCertificate transport session slot offset length) s

/-- CHALLENGE (R369, R371). -/
def execChallenge (transport slot : Nat) (transcript : List Byte) (s : State) : Host.Outcome State Fault Refusal :=
  run (spdmChallenge transport slot transcript) s

/-- GET_MEASUREMENTS (R369, R371, R372). -/
def execGetMeasurements (transport : Nat) (session : Option Nat) (index : Nat) (signSlot : Option Nat) (transcript : List Byte) (s : State) : Host.Outcome State Fault Refusal :=
  run (spdmMeasurements transport session index signSlot transcript) s

/-- KEY_EXCHANGE (R369, R370, R371). -/
def execKeyExchange (transport slot : Nat) (transcript : List Byte) (s : State) : Host.Outcome State Fault Refusal :=
  run (spdmKeyExchange transport slot transcript) s

/-- FINISH (R370, R371). -/
def execFinish (transport session : Nat) (root : Option (List Byte)) (ok : Bool) (s : State) : Host.Outcome State Fault Refusal :=
  run (spdmFinish transport session root ok) s

/-- SPDM_HEARTBEAT (R370). -/
def execSpdmHeartbeat (transport session : Nat) (s : State) : Host.Outcome State Fault Refusal :=
  run (spdmHeartbeat transport session) s

/-- KEY_UPDATE (R370). -/
def execKeyUpdate (transport session : Nat) (s : State) : Host.Outcome State Fault Refusal :=
  run (spdmKeyUpdate transport session) s

/-- END_SESSION (R370). -/
def execEndSession (transport session : Nat) (s : State) : Host.Outcome State Fault Refusal :=
  run (spdmEnd transport session) s

end Sys2Proof.Machine
end

