-- ==== Sys2Proof/Machine/ExecStaging.lean ====
section
/-!
DEFINITION. Meanings of the rows of Chart staging and live application (chapter 2): one definition for each command, over the operations of its chapter.
-/
namespace Sys2Proof.Machine
open Sys2Proof

/-- OPEN (R52). -/
def execOpenStaging (s : State) : Host.Outcome State Fault Refusal :=
  run stageOpen s

/-- STAGE_DATA (R52). -/
def execStageData (value : W64) (s : State) : Host.Outcome State Fault Refusal :=
  run (stageData value) s

/-- VERIFY (R2, R3, R29, R30, R31, R32, R34, R35, R36, R37, R39, R41, R43, R44, R45, R46, R47, R51, R52, R72, R93, R118, R119, R201, R209, R233, R254, R261, R289, R324, R334, R351, R381, R407, R413, R428, R499, R500). -/
def execVerify (s : State) : Host.Outcome State Fault Refusal :=
  run stageVerify s

/-- VERIFY_DONE (R49). -/
def execVerifyDone (s : State) : Host.Outcome State Fault Refusal :=
  run verifyDone s

/-- COMMIT_DAWN (R50, R52, R459). -/
def execCommitDawn (s : State) : Host.Outcome State Fault Refusal :=
  run commitDawn s

/-- COMMIT_DAWN_DONE (R50, R396). -/
def execCommitDawnDone (s : State) : Host.Outcome State Fault Refusal :=
  run commitDawnDone s

/-- COMMIT_LIVE (R41, R49, R50, R51, R52, R55, R56, R57, R58, R59, R121, R324, R350, R459). -/
def execCommitLive (s : State) : Host.Outcome State Fault Refusal :=
  run commitLive s

/-- DISCARD (R52). -/
def execDiscard (s : State) : Host.Outcome State Fault Refusal :=
  run stageDiscard s

/-- LIVE_SWITCH (R11, R20, R35, R48, R57, R58, R60, R121, R194, R201, R228, R253, R293, R324, R350, R407, R413, R428, R459). -/
def execLiveSwitch (phys : Phys) (s : State) : Host.Outcome State Fault Refusal :=
  runAll phys liveSwitch s

/-- LIVE_BACKGROUND_SWITCH (R57, R270). -/
def execLiveBackgroundSwitch (phys : Phys) (s : State) : Host.Outcome State Fault Refusal :=
  runAll phys liveBackgroundSwitch s

/-- NEAR_RESHAPE_HOLD (R60). -/
def execNearReshapeHold (s : State) : Host.Outcome State Fault Refusal :=
  run nearReshapeHold s

/-- NEAR_RESHAPE_SWITCH (R11, R60). -/
def execNearReshapeSwitch (phys : Phys) (s : State) : Host.Outcome State Fault Refusal :=
  runAll phys (nearReshapeSwitch phys) s

end Sys2Proof.Machine
end

