-- ==== Sys2Proof/Machine/ExecThermal.lean ====
section
/-!
DEFINITION. Meanings of the rows of thermal control (chapter 15): one definition for each command, over the operations of its chapter.
-/
namespace Sys2Proof.Machine
open Sys2Proof

/-- SENSOR_SAMPLE (R24, R378, R379, R390, R398, R399, R400, R401, R403, R404, R447, R468). -/
def execSensorSample (samples : SMap Int) (s : State) : Host.Outcome State Fault Refusal :=
  run (sensorSample samples) s

/-- THROTTLE_STEP (R402). -/
def execThrottleStep (s : State) : Host.Outcome State Fault Refusal :=
  run throttleStep s

/-- HARD_TRIP (R405). -/
def execHardTrip (sensor : Nat) (value : Int) (s : State) : Host.Outcome State Fault Refusal :=
  run (hardTrip sensor value) s

end Sys2Proof.Machine
end

