-- ==== Sys2Proof/Machine/ExecTransit.lean ====
section
/-!
DEFINITION. Meanings of the rows of the Far tier and Transit windows (chapter 9): one definition for each command, over the operations of its chapter.
-/
namespace Sys2Proof.Machine
open Sys2Proof

/-- STAGING_FILL_LAND (R237, R239, R240, R241, R244, R245). -/
def execStagingFillLand (phys : Phys) (page : Nat) (bad : List Nat) (s : State) : Host.Outcome State Fault Refusal :=
  runAll phys (stagingFillLand phys page bad) s

/-- FAR_WRITEBACK_DONE (R241, R242). -/
def execFarWritebackDone (phys : Phys) (page : Nat) (s : State) : Host.Outcome State Fault Refusal :=
  runAll phys (farWritebackDone phys page) s

/-- TRN_LD_PROMOTE (R244, R245). -/
def execTrnPromote (phys : Phys) (ld dpa count : Nat) (s : State) : Host.Outcome State Fault Refusal :=
  runAll phys (viaLd ld (trnPromote phys ld dpa count)) s

/-- TRN_LD_EVICT (R244, R245). -/
def execTrnEvict (phys : Phys) (ld dpa count : Nat) (s : State) : Host.Outcome State Fault Refusal :=
  runAll phys (viaLd ld (trnEvict phys ld dpa count)) s

/-- START (R248). -/
def execTrnStart (ld area : Nat) (s : State) : Host.Outcome State Fault Refusal :=
  run (viaLd ld (trnStart ld area)) s

/-- STOP (R251, R253). -/
def execTrnStop (phys : Phys) (ld area : Nat) (s : State) : Host.Outcome State Fault Refusal :=
  runAll phys (viaLd ld (trnStop ld area)) s

/-- TRN_W_RELEASE (R251). -/
def execTrnRelease (phys : Phys) (ld area slot : Nat) (s : State) : Host.Outcome State Fault Refusal :=
  runAll phys (viaLd ld (trnRelease ld area slot)) s

/-- TRANSIT_FILL_START (R21, R248, R249, R336). -/
def execTransitFillStart (phys : Phys) (window : Nat) (s : State) : Host.Outcome State Fault Refusal :=
  runAll phys (transitFillStart phys window) s

/-- TRANSIT_PAGE_LAND (R248, R249). -/
def execTransitPageLand (phys : Phys) (window slot : Nat) (bad : List Nat) (s : State) : Host.Outcome State Fault Refusal :=
  runAll phys (transitPageLand phys window slot bad) s

/-- TRANSIT_DUE (R251). -/
def execTransitDue (phys : Phys) (window slot : Nat) (s : State) : Host.Outcome State Fault Refusal :=
  runAll phys (transitDue window slot) s

/-- TRANSIT_STALL_CEILING (R252). -/
def execTransitStallCeiling (phys : Phys) (window slot : Nat) (s : State) : Host.Outcome State Fault Refusal :=
  runAll phys (transitStall window slot) s

end Sys2Proof.Machine
end

