-- ==== Sys2Proof/Machine/ExecTwin.lean ====
section
/-!
DEFINITION. Meanings of the rows of twin messages (chapter 10): one definition for each command, over the operations of its chapter.
-/
namespace Sys2Proof.Machine
open Sys2Proof

/-- MIRROR_WRITE (R261, R268, R336). -/
def execMirrorWrite (phys : Phys) (tag addr : Nat) (data : Half) (poison : Bool) (epoch : Nat) (s : State) : Host.Outcome State Fault Refusal :=
  runAll phys (viaFrame phys (.mirrorWrite tag addr data poison epoch) (mirrorWrite phys tag addr data poison epoch)) s

/-- MIRROR_ACK (R16, R268). -/
def execMirrorAck (phys : Phys) (tag : Nat) (s : State) : Host.Outcome State Fault Refusal :=
  runAll phys (viaFrame phys (.mirrorAck tag) (mirrorAck tag)) s

/-- MIRROR_ACK_TIMEOUT (R290). -/
def execMirrorAckTimeout (phys : Phys) (s : State) : Host.Outcome State Fault Refusal :=
  runAll phys mirrorAckTimeout s

/-- FWD_READ (R259). -/
def execFwdRead (phys : Phys) (tag dpa ld : Nat) (s : State) : Host.Outcome State Fault Refusal :=
  runAll phys (viaFrame phys (.fwdRead tag dpa ld) (fwdRead phys tag dpa ld)) s

/-- FWD_WRITE (R259). -/
def execFwdWrite (phys : Phys) (tag dpa ld : Nat) (data : Half) (poison : Bool) (s : State) : Host.Outcome State Fault Refusal :=
  runAll phys (viaFrame phys (.fwdWrite tag dpa ld data poison) (fwdWrite phys tag dpa ld data poison)) s

/-- FWD_DATA (R259, R451). -/
def execFwdData (phys : Phys) (tag : Nat) (data : Half) (poison : Bool) (s : State) : Host.Outcome State Fault Refusal :=
  runAll phys (viaFrame phys (.fwdData tag data poison) (fwdData phys tag data poison)) s

/-- FWD_DONE (R259). -/
def execFwdDone (phys : Phys) (tag : Nat) (s : State) : Host.Outcome State Fault Refusal :=
  runAll phys (viaFrame phys (.fwdDone tag) (fwdDone tag)) s

/-- COLD_SHIP_START (R273). -/
def execColdShipStart (phys : Phys) (twinS : Nat) (s : State) : Host.Outcome State Fault Refusal :=
  run (coldShipStart phys twinS) s

/-- COLD_PAGE (R212, R275). -/
def execColdPage (phys : Phys) (key epoch : Nat) (lines : PageLines) (s : State) : Host.Outcome State Fault Refusal :=
  runAll phys (viaFrame phys (.coldPage key epoch lines) (coldPage key epoch lines)) s

/-- COLD_END (R273, R275). -/
def execColdEnd (phys : Phys) (pages epoch : Nat) (s : State) : Host.Outcome State Fault Refusal :=
  runAll phys (viaFrame phys (.coldEnd pages epoch) (coldEnd pages epoch)) s

/-- COLD_ACK (R273, R448). -/
def execColdAck (phys : Phys) (epoch : Nat) (s : State) : Host.Outcome State Fault Refusal :=
  runAll phys (viaFrame phys (.coldAck epoch) (coldAck phys epoch)) s

/-- SHIP_HOLD_RELEASE (R274). -/
def execShipHoldRelease (phys : Phys) (s : State) : Host.Outcome State Fault Refusal :=
  runAll phys (shipHoldRelease phys) s

/-- SYNC_DIGEST (R270). -/
def execSyncDigest (phys : Phys) (page digest : Nat) (s : State) : Host.Outcome State Fault Refusal :=
  runAll phys (viaFrame phys (.syncDigest page digest 0) (syncDigest phys page digest)) s

/-- SYNC_PAGE (R270). -/
def execSyncPage (phys : Phys) (page stamp : Nat) (lines : List (Line × Bool)) (s : State) : Host.Outcome State Fault Refusal :=
  runAll phys (viaFrame phys (.syncPage page stamp lines) (syncPage page stamp lines)) s

/-- SYNC_MATCH (R270, R271). -/
def execSyncMatch (phys : Phys) (page : Nat) (differ : Bool) (stamp : Nat) (s : State) : Host.Outcome State Fault Refusal :=
  runAll phys (viaFrame phys (.syncMatch page differ) (syncMatch phys page differ stamp)) s

/-- HOT_SYNC_DONE (R270, R288). -/
def execHotSyncDone (s : State) : Host.Outcome State Fault Refusal :=
  run hotSyncDone s

/-- SF_UPDATE (R268). -/
def execSfUpdate (phys : Phys) (granule : Nat) (holders : Option Holders) (s : State) : Host.Outcome State Fault Refusal :=
  runAll phys (viaFrame phys (.sfUpdate granule holders) (sfUpdate granule holders)) s

/-- STATE (R267, R270, R461). -/
def execTwinState (phys : Phys) (roles : Nat) (sealedEpoch : Option Nat) (copies : List Nat) (s : State) : Host.Outcome State Fault Refusal :=
  runAll phys (viaFrame phys (.state roles sealedEpoch copies false) (twinState phys roles sealedEpoch copies)) s

/-- STATE_TIMER (R267). -/
def execStateTimer (s : State) : Host.Outcome State Fault Refusal :=
  run stateTimer s

/-- SWITCH_EPOCH (R58). -/
def execSwitchEpoch (phys : Phys) (epoch : Nat) (s : State) : Host.Outcome State Fault Refusal :=
  runAll phys (viaFrame phys (.switchEpoch epoch) (switchEpoch epoch)) s

/-- CHART_CONFIRM (R56). -/
def execChartConfirm (phys : Phys) (digest : BitVec 512) (s : State) : Host.Outcome State Fault Refusal :=
  runAll phys (viaFrame phys (.chartConfirm digest) (chartConfirm digest)) s

/-- TWIN_VIOLATION (R290). -/
def execTwinViolation (stray : Bool) (s : State) : Host.Outcome State Fault Refusal :=
  run (twinViolation stray) s

/-- TWIN_ANSWER_TIMEOUT (R451). -/
def execTwinAnswerTimeout (phys : Phys) (line half : Nat) (s : State) : Host.Outcome State Fault Refusal :=
  runAll phys (twinAnswerTimeout phys line half) s

end Sys2Proof.Machine
end

