-- ==== Sys2Proof/Machine/ExecUpdate.lean ====
section
/-!
DEFINITION. Meanings of the rows of firmware update (chapter 18): one definition for each command, over the operations of its chapter.
-/
namespace Sys2Proof.Machine
open Sys2Proof

/-- REQUEST_UPDATE (R467, R472). -/
def execRequestUpdate (transport : Nat) (session : Option Nat) (fits : Bool) (s : State) : Host.Outcome State Fault Refusal :=
  run (requestUpdate transport session fits) s

/-- PASS_COMPONENT_TABLE (R472). -/
def execPassComponentTable (transport : Nat) (session : Option Nat) (fits : Bool) (s : State) : Host.Outcome State Fault Refusal :=
  run (passComponentTable transport session fits) s

/-- UPDATE_COMPONENT (R472). -/
def execUpdateComponent (transport : Nat) (session : Option Nat) (size : Nat) (fits : Bool) (s : State) : Host.Outcome State Fault Refusal :=
  run (updateComponent transport session size fits) s

/-- FIRMWARE_DATA (R472). -/
def execFirmwareData (block : List Byte) (s : State) : Host.Outcome State Fault Refusal :=
  run (firmwareData block) s

/-- VERIFY_COMPLETE (R361, R469, R470, R472). -/
def execVerifyComplete (transport : Nat) (unreadable : Bool) (s : State) : Host.Outcome State Fault Refusal :=
  run (verifyComplete transport unreadable) s

/-- ACTIVATE_FIRMWARE (R396, R473). -/
def execActivateFirmware (transport : Nat) (session : Option Nat) (s : State) : Host.Outcome State Fault Refusal :=
  run (activateFirmware transport session) s

/-- CANCEL_UPDATE (R472). -/
def execCancelUpdate (transport : Nat) (session : Option Nat) (s : State) : Host.Outcome State Fault Refusal :=
  run (cancelUpdate transport session) s

/-- UPDATE_AGENT_TIMEOUT (R472). -/
def execUpdateAgentTimeout (s : State) : Host.Outcome State Fault Refusal :=
  run updateAgentTimeout s

end Sys2Proof.Machine
end

