-- ==== Sys2Proof/Machine/ExecVendor.lean ====
section
/-!
DEFINITION. Meanings of the rows of vendor commands over MCTP (chapters 12 and 18): one definition for each command, over the operations of its chapter.
-/
namespace Sys2Proof.Machine
open Sys2Proof

/-- WRAP_KEY (R340, R371, R464). -/
def execWrapKey (transport : Nat) (session : Option Nat) (tag count addr : Nat) (header key : List Byte) (s : State) : Host.Outcome State Fault Refusal :=
  run (wrapKey transport session tag count addr header key) s

/-- GENERATE_KEY (R340, R371, R464). -/
def execGenerateKey (transport : Nat) (session : Option Nat) (tag count addr : Nat) (header : List Byte) (s : State) : Host.Outcome State Fault Refusal :=
  run (generateKey transport session tag count addr header) s

/-- REG_READ (R464, R465, R475, R476, R478). -/
def execRegRead (transport tag addr count : Nat) (s : State) : Host.Outcome State Fault Refusal :=
  run (regReadCmd transport tag addr count) s

/-- REG_WRITE (R2, R7, R8, R20, R354, R464, R465, R466, R475, R476, R479). -/
def execRegWrite (env : RegEnv) (transport : Nat) (session : Option Nat) (tag addr count : Nat) (value : W64) (s : State) : Host.Outcome State Fault Refusal :=
  runFuseAll env.phys (regWriteCmd env transport session tag addr count value) s

/-- LOG_READ (R464). -/
def execLogRead (transport tag addr count : Nat) (bad : List Nat) (corrected : Bool) (s : State) : Host.Outcome State Fault Refusal :=
  run (logRead transport tag addr count bad corrected) s

/-- ALM_READ (R426, R464, R465). -/
def execAlmRead (transport tag addr count : Nat) (s : State) : Host.Outcome State Fault Refusal :=
  run (almRead transport tag addr count) s

/-- VENDOR_UNSUPPORTED (R464). -/
def execVendorUnsupported (transport tag command count addr : Nat) (s : State) : Host.Outcome State Fault Refusal :=
  run (vendorUnsupported transport tag command count addr) s

end Sys2Proof.Machine
end

