-- ==== Sys2Proof/Machine/Dispatch.lean ====
section
/-!
DEFINITION. One arm for each command: a direct call of its meaning.
-/
namespace Sys2Proof.Machine
open Sys2Proof

def exec (i : Instr) (s : State) : Host.Outcome State Fault Refusal :=
  match i with
  | .aonPowerUp straps => Sys2Proof.Machine.execAonPowerUp straps s
  | .aonPowerLoss => Sys2Proof.Machine.execAonPowerLoss s
  | .registerWrite env target value => Sys2Proof.Machine.execRegisterWrite env target value s
  | .registerAccessViolation read => Sys2Proof.Machine.execRegisterAccessViolation read s
  | .portResetBegin phys reset => Sys2Proof.Machine.execPortResetBegin phys reset s
  | .portResetEnd reset => Sys2Proof.Machine.execPortResetEnd reset s
  | .linkDown phys port => Sys2Proof.Machine.execLinkDown phys port s
  | .linkTrained port speed width cxl => Sys2Proof.Machine.execLinkTrained port speed width cxl s
  | .retrain port => Sys2Proof.Machine.execRetrain port s
  | .disable phys port on => Sys2Proof.Machine.execDisable phys port on s
  | .flitCrcError port exhausted => Sys2Proof.Machine.execFlitCrcError port exhausted s
  | .firmwareRestart => Sys2Proof.Machine.execFirmwareRestart s
  | .coresRunning phys => Sys2Proof.Machine.execCoresRunning phys s
  | .coresStartTimeout => Sys2Proof.Machine.execCoresStartTimeout s
  | .sysRstAssert phys => Sys2Proof.Machine.execSysRstAssert phys s
  | .sysRstDeassert straps => Sys2Proof.Machine.execSysRstDeassert straps s
  | .hostWrite phys ld tag dpa data poison => Sys2Proof.Machine.execHostWrite phys ld tag dpa data poison s
  | .hostRead phys ld tag dpa exclusive => Sys2Proof.Machine.execHostRead phys ld tag dpa exclusive s
  | .biRspI phys holder granule => Sys2Proof.Machine.execBiRspI phys holder granule s
  | .biTimeout phys holder granule => Sys2Proof.Machine.execBiTimeout phys holder granule s
  | .streamIdleExpire hemi granule => Sys2Proof.Machine.execStreamIdleExpire hemi granule s
  | .mergeWindowExpire phys line => Sys2Proof.Machine.execMergeWindowExpire phys line s
  | .heldHalfAccept phys => Sys2Proof.Machine.execHeldHalfAccept phys s
  | .fillVictimAccepted phys => Sys2Proof.Machine.execFillVictimAccepted phys s
  | .fatalFlushDone phys => Sys2Proof.Machine.execFatalFlushDone phys s
  | .hdmDecoderCommit ld decoder base size ways gran bi => Sys2Proof.Machine.execHdmDecoderCommit ld decoder base size ways gran bi s
  | .initiateDcAdd transport session ld region length tag => Sys2Proof.Machine.execInitiateDcAdd transport session ld region length tag s
  | .addDcResponse ld accept => Sys2Proof.Machine.execAddDcResponse ld accept s
  | .dcOfferTimeout ld base => Sys2Proof.Machine.execDcOfferTimeout ld base s
  | .releaseDc ld base size => Sys2Proof.Machine.execReleaseDc ld base size s
  | .initiateDcRelease transport session ld base size forced => Sys2Proof.Machine.execInitiateDcRelease transport session ld base size forced s
  | .gpfPhase1 port => Sys2Proof.Machine.execGpfPhase1 port s
  | .gpfPhase2 port => Sys2Proof.Machine.execGpfPhase2 port s
  | .gpfPhase2Complete port => Sys2Proof.Machine.execGpfPhase2Complete port s
  | .identifyMemoryDevice ld => Sys2Proof.Machine.execIdentifyMemoryDevice ld s
  | .getHealthInfo ld => Sys2Proof.Machine.execGetHealthInfo ld s
  | .getEventRecords ld log => Sys2Proof.Machine.execGetEventRecords ld log s
  | .clearEventRecords ld log count => Sys2Proof.Machine.execClearEventRecords ld log count s
  | .getSupportedLogs ld => Sys2Proof.Machine.execGetSupportedLogs ld s
  | .getLog ld log => Sys2Proof.Machine.execGetLog ld log s
  | .setTimestamp ld time => Sys2Proof.Machine.execSetTimestamp ld time s
  | .getMultiHeadedInfo ld => Sys2Proof.Machine.execGetMultiHeadedInfo ld s
  | .getPoisonList ld dpa length => Sys2Proof.Machine.execGetPoisonList ld dpa length s
  | .injectPoison phys ld dpa => Sys2Proof.Machine.execInjectPoison phys ld dpa s
  | .clearPoison phys ld dpa data => Sys2Proof.Machine.execClearPoison phys ld dpa data s
  | .scanMedia ld dpa length => Sys2Proof.Machine.execScanMedia ld dpa length s
  | .scanMediaDone ld => Sys2Proof.Machine.execScanMediaDone ld s
  | .mailboxUnsupported ld opcode input => Sys2Proof.Machine.execMailboxUnsupported ld opcode input s
  | .getRegionMap ld start count inputLen => Sys2Proof.Machine.execGetRegionMap ld start count inputLen s
  | .getPersistenceStatus ld inputLen => Sys2Proof.Machine.execGetPersistenceStatus ld inputLen s
  | .getRestoreStatus ld inputLen => Sys2Proof.Machine.execGetRestoreStatus ld inputLen s
  | .getEpochHistory ld inputLen => Sys2Proof.Machine.execGetEpochHistory ld inputLen s
  | .getTopologyStatus ld inputLen => Sys2Proof.Machine.execGetTopologyStatus ld inputLen s
  | .getChartIdentity ld inputLen => Sys2Proof.Machine.execGetChartIdentity ld inputLen s
  | .mailboxWriteBusy ld => Sys2Proof.Machine.execMailboxWriteBusy ld s
  | .windowViolation ld offset read => Sys2Proof.Machine.execWindowViolation ld offset read s
  | .ideKeyProg transport session port stream => Sys2Proof.Machine.execIdeKeyProg transport session port stream s
  | .ideKSetGo transport session port stream => Sys2Proof.Machine.execIdeKSetGo transport session port stream s
  | .ideKSetStop transport session port stream => Sys2Proof.Machine.execIdeKSetStop transport session port stream s
  | .ideQuery transport session port => Sys2Proof.Machine.execIdeQuery transport session port s
  | .openStaging => Sys2Proof.Machine.execOpenStaging s
  | .stageData value => Sys2Proof.Machine.execStageData value s
  | .verify => Sys2Proof.Machine.execVerify s
  | .verifyDone => Sys2Proof.Machine.execVerifyDone s
  | .commitDawn => Sys2Proof.Machine.execCommitDawn s
  | .commitDawnDone => Sys2Proof.Machine.execCommitDawnDone s
  | .commitLive => Sys2Proof.Machine.execCommitLive s
  | .discard => Sys2Proof.Machine.execDiscard s
  | .liveSwitch phys => Sys2Proof.Machine.execLiveSwitch phys s
  | .liveBackgroundSwitch phys => Sys2Proof.Machine.execLiveBackgroundSwitch phys s
  | .nearReshapeHold => Sys2Proof.Machine.execNearReshapeHold s
  | .nearReshapeSwitch phys => Sys2Proof.Machine.execNearReshapeSwitch phys s
  | .meridianTick gap => Sys2Proof.Machine.execMeridianTick gap s
  | .tickLoss => Sys2Proof.Machine.execTickLoss s
  | .deadReckoningTick => Sys2Proof.Machine.execDeadReckoningTick s
  | .merFrame cells since => Sys2Proof.Machine.execMerFrame cells since s
  | .frameMissing => Sys2Proof.Machine.execFrameMissing s
  | .slewAdjust => Sys2Proof.Machine.execSlewAdjust s
  | .meridianWaitTimeout => Sys2Proof.Machine.execMeridianWaitTimeout s
  | .ptpSync header time twoStep => Sys2Proof.Machine.execPtpSync header time twoStep s
  | .ptpFollowUp header time => Sys2Proof.Machine.execPtpFollowUp header time s
  | .ptpAnnounce header rank => Sys2Proof.Machine.execPtpAnnounce header rank s
  | .ptpDelayResp header peer seq delay => Sys2Proof.Machine.execPtpDelayResp header peer seq delay s
  | .ptpLoss => Sys2Proof.Machine.execPtpLoss s
  | .ptpDelayReqSend => Sys2Proof.Machine.execPtpDelayReqSend s
  | .epochBoundary phys => Sys2Proof.Machine.execEpochBoundary phys s
  | .epochSeal => Sys2Proof.Machine.execEpochSeal s
  | .hourlyRecord => Sys2Proof.Machine.execHourlyRecord s
  | .refreshBeat => Sys2Proof.Machine.execRefreshBeat s
  | .spdTempPoll reads => Sys2Proof.Machine.execSpdTempPoll reads s
  | .readAgeLimit => Sys2Proof.Machine.execReadAgeLimit s
  | .caParityAlert channel replays command location addr => Sys2Proof.Machine.execCaParityAlert channel replays command location addr s
  | .thaw phys channel twin => Sys2Proof.Machine.execThaw phys channel twin s
  | .mark channel dimm rank position => Sys2Proof.Machine.execMark channel dimm rank position s
  | .unmark channel dimm rank position => Sys2Proof.Machine.execUnmark channel dimm rank position s
  | .diagRead phys channel => Sys2Proof.Machine.execDiagRead phys channel s
  | .remotePageCopyDone phys page lines => Sys2Proof.Machine.execRemotePageCopyDone phys page lines s
  | .zeroFillDone phys page => Sys2Proof.Machine.execZeroFillDone phys page s
  | .writebackIssue phys => Sys2Proof.Machine.execWritebackIssue phys s
  | .writebackProgramDone phys page => Sys2Proof.Machine.execWritebackProgramDone phys page s
  | .governorWindow => Sys2Proof.Machine.execGovernorWindow s
  | .throttleRelease phys => Sys2Proof.Machine.execThrottleRelease phys s
  | .throttleOverdraw phys => Sys2Proof.Machine.execThrottleOverdraw phys s
  | .holdupLowAssert => Sys2Proof.Machine.execHoldupLowAssert s
  | .holdupLowDeassert => Sys2Proof.Machine.execHoldupLowDeassert s
  | .holdupRestore => Sys2Proof.Machine.execHoldupRestore s
  | .pwrFailAssert => Sys2Proof.Machine.execPwrFailAssert s
  | .duskFlushDone phys => Sys2Proof.Machine.execDuskFlushDone phys s
  | .saveComplete phys => Sys2Proof.Machine.execSaveComplete phys s
  | .pwrFailReturn phys => Sys2Proof.Machine.execPwrFailReturn phys s
  | .restoreDone phys page bad => Sys2Proof.Machine.execRestoreDone phys page bad s
  | .backgroundRestore => Sys2Proof.Machine.execBackgroundRestore s
  | .generationDeath generation => Sys2Proof.Machine.execGenerationDeath generation s
  | .nandReadDone stripe position failing suspended => Sys2Proof.Machine.execNandReadDone stripe position failing suspended s
  | .nandProgramDone phys stripe position ok => Sys2Proof.Machine.execNandProgramDone phys stripe position ok s
  | .nandEraseDone zone failed => Sys2Proof.Machine.execNandEraseDone zone failed s
  | .memberTimeout die op => Sys2Proof.Machine.execMemberTimeout die op s
  | .stripePadTimeout => Sys2Proof.Machine.execStripePadTimeout s
  | .stripeJournalCommit => Sys2Proof.Machine.execStripeJournalCommit s
  | .reclaim => Sys2Proof.Machine.execReclaim s
  | .replicaReplace => Sys2Proof.Machine.execReplicaReplace s
  | .startRebuild => Sys2Proof.Machine.execStartRebuild s
  | .rebuildStripe => Sys2Proof.Machine.execRebuildStripe s
  | .admitDie die => Sys2Proof.Machine.execAdmitDie die s
  | .retire die => Sys2Proof.Machine.execRetire die s
  | .rawRead => Sys2Proof.Machine.execRawRead s
  | .rawReadDone answer => Sys2Proof.Machine.execRawReadDone answer s
  | .patrolPause => Sys2Proof.Machine.execPatrolPause s
  | .patrolResume => Sys2Proof.Machine.execPatrolResume s
  | .patrolStripe unread errs => Sys2Proof.Machine.execPatrolStripe unread errs s
  | .patrolDaily => Sys2Proof.Machine.execPatrolDaily s
  | .reshapeComplete => Sys2Proof.Machine.execReshapeComplete s
  | .stagingFillLand phys page bad => Sys2Proof.Machine.execStagingFillLand phys page bad s
  | .farWritebackDone phys page => Sys2Proof.Machine.execFarWritebackDone phys page s
  | .trnPromote phys ld dpa count => Sys2Proof.Machine.execTrnPromote phys ld dpa count s
  | .trnEvict phys ld dpa count => Sys2Proof.Machine.execTrnEvict phys ld dpa count s
  | .trnStart ld area => Sys2Proof.Machine.execTrnStart ld area s
  | .trnStop phys ld area => Sys2Proof.Machine.execTrnStop phys ld area s
  | .trnRelease phys ld area slot => Sys2Proof.Machine.execTrnRelease phys ld area slot s
  | .transitFillStart phys window => Sys2Proof.Machine.execTransitFillStart phys window s
  | .transitPageLand phys window slot bad => Sys2Proof.Machine.execTransitPageLand phys window slot bad s
  | .transitDue phys window slot => Sys2Proof.Machine.execTransitDue phys window slot s
  | .transitStallCeiling phys window slot => Sys2Proof.Machine.execTransitStallCeiling phys window slot s
  | .crailanilTrain link width peer => Sys2Proof.Machine.execCrailanilTrain link width peer s
  | .trainTimeout => Sys2Proof.Machine.execTrainTimeout s
  | .crailanilRekey link share => Sys2Proof.Machine.execCrailanilRekey link share s
  | .crnAck link seq => Sys2Proof.Machine.execCrnAck link seq s
  | .crnNak link seq => Sys2Proof.Machine.execCrnNak link seq s
  | .crnAckTimer link => Sys2Proof.Machine.execCrnAckTimer link s
  | .halfLinkDown phys link => Sys2Proof.Machine.execHalfLinkDown phys link s
  | .linkGraceExpire phys => Sys2Proof.Machine.execLinkGraceExpire phys s
  | .linkReturn phys => Sys2Proof.Machine.execLinkReturn phys s
  | .mirrorWrite phys tag addr data poison epoch => Sys2Proof.Machine.execMirrorWrite phys tag addr data poison epoch s
  | .mirrorAck phys tag => Sys2Proof.Machine.execMirrorAck phys tag s
  | .mirrorAckTimeout phys => Sys2Proof.Machine.execMirrorAckTimeout phys s
  | .fwdRead phys tag dpa ld => Sys2Proof.Machine.execFwdRead phys tag dpa ld s
  | .fwdWrite phys tag dpa ld data poison => Sys2Proof.Machine.execFwdWrite phys tag dpa ld data poison s
  | .fwdData phys tag data poison => Sys2Proof.Machine.execFwdData phys tag data poison s
  | .fwdDone phys tag => Sys2Proof.Machine.execFwdDone phys tag s
  | .coldShipStart phys twinS => Sys2Proof.Machine.execColdShipStart phys twinS s
  | .coldPage phys key epoch lines => Sys2Proof.Machine.execColdPage phys key epoch lines s
  | .coldEnd phys pages epoch => Sys2Proof.Machine.execColdEnd phys pages epoch s
  | .coldAck phys epoch => Sys2Proof.Machine.execColdAck phys epoch s
  | .shipHoldRelease phys => Sys2Proof.Machine.execShipHoldRelease phys s
  | .syncDigest phys page digest => Sys2Proof.Machine.execSyncDigest phys page digest s
  | .syncPage phys page stamp lines => Sys2Proof.Machine.execSyncPage phys page stamp lines s
  | .syncMatch phys page differ stamp => Sys2Proof.Machine.execSyncMatch phys page differ stamp s
  | .hotSyncDone => Sys2Proof.Machine.execHotSyncDone s
  | .sfUpdate phys granule holders => Sys2Proof.Machine.execSfUpdate phys granule holders s
  | .twinState phys roles sealedEpoch copies => Sys2Proof.Machine.execTwinState phys roles sealedEpoch copies s
  | .stateTimer => Sys2Proof.Machine.execStateTimer s
  | .switchEpoch phys epoch => Sys2Proof.Machine.execSwitchEpoch phys epoch s
  | .chartConfirm phys digest => Sys2Proof.Machine.execChartConfirm phys digest s
  | .twinViolation stray => Sys2Proof.Machine.execTwinViolation stray s
  | .heartbeat => Sys2Proof.Machine.execHeartbeat s
  | .renew half => Sys2Proof.Machine.execRenew half s
  | .fence half => Sys2Proof.Machine.execFence half s
  | .grant phys g => Sys2Proof.Machine.execGrant phys g s
  | .revoke half => Sys2Proof.Machine.execRevoke half s
  | .statusQuery half => Sys2Proof.Machine.execStatusQuery half s
  | .arbiterMessageInvalid why => Sys2Proof.Machine.execArbiterMessageInvalid why s
  | .audit => Sys2Proof.Machine.execAudit s
  | .twnRelease half => Sys2Proof.Machine.execTwnRelease half s
  | .ethPortUp port cr => Sys2Proof.Machine.execEthPortUp port cr s
  | .neighbourSolicitation port target source => Sys2Proof.Machine.execNeighbourSolicitation port target source s
  | .ethFrameDiscard kind => Sys2Proof.Machine.execEthFrameDiscard kind s
  | .orbDoorbell phys ld queue tail => Sys2Proof.Machine.execOrbDoorbell phys ld queue tail s
  | .segmentSend phys queue => Sys2Proof.Machine.execSegmentSend phys queue s
  | .orbWrite phys wire packet => Sys2Proof.Machine.execOrbWrite phys wire packet s
  | .orbRead phys wire packet => Sys2Proof.Machine.execOrbRead phys wire packet s
  | .atomicAdd phys wire packet => Sys2Proof.Machine.execAtomicAdd phys wire packet s
  | .atomicCas phys wire packet => Sys2Proof.Machine.execAtomicCas phys wire packet s
  | .writeNotify phys wire packet => Sys2Proof.Machine.execWriteNotify phys wire packet s
  | .readData phys wire packet => Sys2Proof.Machine.execReadData phys wire packet s
  | .orbAck phys wire packet => Sys2Proof.Machine.execOrbAck phys wire packet s
  | .retransmitTimer phys queue msgId offset => Sys2Proof.Machine.execRetransmitTimer phys queue msgId offset s
  | .messageHorizon phys queue msgId => Sys2Proof.Machine.execMessageHorizon phys queue msgId s
  | .waitTimeout phys queue => Sys2Proof.Machine.execWaitTimeout phys queue s
  | .waitTableRetry phys queue => Sys2Proof.Machine.execWaitTableRetry phys queue s
  | .contextFetchDone phys context index => Sys2Proof.Machine.execContextFetchDone phys context index s
  | .replayEntryExpire engine source queue msgId => Sys2Proof.Machine.execReplayEntryExpire engine source queue msgId s
  | .replayCacheEcc word macroNo index => Sys2Proof.Machine.execReplayCacheEcc word macroNo index s
  | .replayWindowEnd engine => Sys2Proof.Machine.execReplayWindowEnd engine s
  | .orbCreateQueue phys ld args => Sys2Proof.Machine.execOrbCreateQueue phys ld args s
  | .orbDestroyQueue phys ld args => Sys2Proof.Machine.execOrbDestroyQueue phys ld args s
  | .orbResumeQueue phys ld args => Sys2Proof.Machine.execOrbResumeQueue phys ld args s
  | .registerKey phys ld args => Sys2Proof.Machine.execRegisterKey phys ld args s
  | .deregisterKey phys ld args => Sys2Proof.Machine.execDeregisterKey phys ld args s
  | .queryQueue phys ld args => Sys2Proof.Machine.execQueryQueue phys ld args s
  | .cphCreateQueue phys ld args => Sys2Proof.Machine.execCphCreateQueue phys ld args s
  | .cphDestroyQueue phys ld args => Sys2Proof.Machine.execCphDestroyQueue phys ld args s
  | .cphResumeQueue phys ld args => Sys2Proof.Machine.execCphResumeQueue phys ld args s
  | .unwrapKey phys ld args => Sys2Proof.Machine.execUnwrapKey phys ld args s
  | .clearSlot phys ld args => Sys2Proof.Machine.execClearSlot phys ld args s
  | .querySlot phys ld args => Sys2Proof.Machine.execQuerySlot phys ld args s
  | .mgmtUnwrap phys slot => Sys2Proof.Machine.execMgmtUnwrap phys slot s
  | .mgmtClearSlot phys slot => Sys2Proof.Machine.execMgmtClearSlot phys slot s
  | .cphDoorbell phys ld queue tail => Sys2Proof.Machine.execCphDoorbell phys ld queue tail s
  | .cipherDescComplete phys queue => Sys2Proof.Machine.execCipherDescComplete phys queue s
  | .verifyBufferFree phys hemi => Sys2Proof.Machine.execVerifyBufferFree phys hemi s
  | .pageGo ld ctrl => Sys2Proof.Machine.execPageGo ld ctrl s
  | .pageDone ld => Sys2Proof.Machine.execPageDone ld s
  | .slotStoreEcc hemi slot => Sys2Proof.Machine.execSlotStoreEcc hemi slot s
  | .wrapKey transport session tag count addr header key => Sys2Proof.Machine.execWrapKey transport session tag count addr header key s
  | .generateKey transport session tag count addr header => Sys2Proof.Machine.execGenerateKey transport session tag count addr header s
  | .installOwner fuse => Sys2Proof.Machine.execInstallOwner fuse s
  | .aliasBind => Sys2Proof.Machine.execAliasBind s
  | .installAliasChain arg => Sys2Proof.Machine.execInstallAliasChain arg s
  | .sealPart fuse => Sys2Proof.Machine.execSealPart fuse s
  | .debugChallenge => Sys2Proof.Machine.execDebugChallenge s
  | .debugUnlock => Sys2Proof.Machine.execDebugUnlock s
  | .returnChallenge => Sys2Proof.Machine.execReturnChallenge s
  | .returnPart arg fuse => Sys2Proof.Machine.execReturnPart arg fuse s
  | .commitSvn fuse => Sys2Proof.Machine.execCommitSvn fuse s
  | .tapProvision chain => Sys2Proof.Machine.execTapProvision chain s
  | .tapInstruction instruction => Sys2Proof.Machine.execTapInstruction instruction s
  | .getVersion transport => Sys2Proof.Machine.execGetVersion transport s
  | .getCapabilities transport version => Sys2Proof.Machine.execGetCapabilities transport version s
  | .negotiateAlgorithms transport offered => Sys2Proof.Machine.execNegotiateAlgorithms transport offered s
  | .getDigests transport session => Sys2Proof.Machine.execGetDigests transport session s
  | .getCertificate transport session slot offset length => Sys2Proof.Machine.execGetCertificate transport session slot offset length s
  | .challenge transport slot transcript => Sys2Proof.Machine.execChallenge transport slot transcript s
  | .getMeasurements transport session index signSlot transcript => Sys2Proof.Machine.execGetMeasurements transport session index signSlot transcript s
  | .keyExchange transport slot transcript => Sys2Proof.Machine.execKeyExchange transport slot transcript s
  | .finish transport session root ok => Sys2Proof.Machine.execFinish transport session root ok s
  | .spdmHeartbeat transport session => Sys2Proof.Machine.execSpdmHeartbeat transport session s
  | .keyUpdate transport session => Sys2Proof.Machine.execKeyUpdate transport session s
  | .endSession transport session => Sys2Proof.Machine.execEndSession transport session s
  | .psqOn => Sys2Proof.Machine.execPsqOn s
  | .psqOff => Sys2Proof.Machine.execPsqOff s
  | .psqCycle => Sys2Proof.Machine.execPsqCycle s
  | .dawnRetry => Sys2Proof.Machine.execDawnRetry s
  | .sequencerPowerUp => Sys2Proof.Machine.execSequencerPowerUp s
  | .seqPgRise slot => Sys2Proof.Machine.execSeqPgRise slot s
  | .seqPgFall slot => Sys2Proof.Machine.execSeqPgFall slot s
  | .pgTimeout slot => Sys2Proof.Machine.execPgTimeout slot s
  | .settleDone => Sys2Proof.Machine.execSettleDone s
  | .dischargeTimeout slot => Sys2Proof.Machine.execDischargeTimeout slot s
  | .minOffEnd => Sys2Proof.Machine.execMinOffEnd s
  | .dawnD0 eflashOk fuse => Sys2Proof.Machine.execDawnD0 eflashOk fuse s
  | .dawnD2 badA badB coresOk => Sys2Proof.Machine.execDawnD2 badA badB coresOk s
  | .dawnD3 => Sys2Proof.Machine.execDawnD3 s
  | .dawnD4 found dies => Sys2Proof.Machine.execDawnD4 found dies s
  | .dawnD5 media rate => Sys2Proof.Machine.execDawnD5 media rate s
  | .dawnD6 => Sys2Proof.Machine.execDawnD6 s
  | .dawnD7 phys => Sys2Proof.Machine.execDawnD7 phys s
  | .stageTimeout => Sys2Proof.Machine.execStageTimeout s
  | .sensorSample samples => Sys2Proof.Machine.execSensorSample samples s
  | .throttleStep => Sys2Proof.Machine.execThrottleStep s
  | .hardTrip sensor value => Sys2Proof.Machine.execHardTrip sensor value s
  | .errorPinAssert pin location => Sys2Proof.Machine.execErrorPinAssert pin location s
  | .fltStatusClear mask asserted => Sys2Proof.Machine.execFltStatusClear mask asserted s
  | .fltFirstRearm => Sys2Proof.Machine.execFltFirstRearm s
  | .logbookSecond => Sys2Proof.Machine.execLogbookSecond s
  | .almanacSample metric index value => Sys2Proof.Machine.execAlmanacSample metric index value s
  | .almanacInterval slot => Sys2Proof.Machine.execAlmanacInterval slot s
  | .almanacHourly => Sys2Proof.Machine.execAlmanacHourly s
  | .freeze on => Sys2Proof.Machine.execFreeze on s
  | .freezeExpire => Sys2Proof.Machine.execFreezeExpire s
  | .store => Sys2Proof.Machine.execStore s
  | .clear => Sys2Proof.Machine.execClear s
  | .eflashProgramDone phys ok => Sys2Proof.Machine.execEflashProgramDone phys ok s
  | .eflashEraseDone us ok => Sys2Proof.Machine.execEflashEraseDone us ok s
  | .eflashSuspend => Sys2Proof.Machine.execEflashSuspend s
  | .eflashResume => Sys2Proof.Machine.execEflashResume s
  | .i3cDynamicAddress port static addr => Sys2Proof.Machine.execI3cDynamicAddress port static addr s
  | .mctpPacket transport pecOk first last payload => Sys2Proof.Machine.execMctpPacket transport pecOk first last payload s
  | .setEndpointId transport id => Sys2Proof.Machine.execSetEndpointId transport id s
  | .setMtu port size => Sys2Proof.Machine.execSetMtu port size s
  | .regRead transport tag addr count => Sys2Proof.Machine.execRegRead transport tag addr count s
  | .regWrite env transport session tag addr count value => Sys2Proof.Machine.execRegWrite env transport session tag addr count value s
  | .logRead transport tag addr count bad corrected => Sys2Proof.Machine.execLogRead transport tag addr count bad corrected s
  | .almRead transport tag addr count => Sys2Proof.Machine.execAlmRead transport tag addr count s
  | .vendorUnsupported transport tag command count addr => Sys2Proof.Machine.execVendorUnsupported transport tag command count addr s
  | .setEventReceiver transport receiver => Sys2Proof.Machine.execSetEventReceiver transport receiver s
  | .getSensorReading transport sensor => Sys2Proof.Machine.execGetSensorReading transport sensor s
  | .getPdr transport handle => Sys2Proof.Machine.execGetPdr transport handle s
  | .getFruRecordTable transport => Sys2Proof.Machine.execGetFruRecordTable transport s
  | .pldmBase transport command arg => Sys2Proof.Machine.execPldmBase transport command arg s
  | .requestUpdate transport session fits => Sys2Proof.Machine.execRequestUpdate transport session fits s
  | .passComponentTable transport session fits => Sys2Proof.Machine.execPassComponentTable transport session fits s
  | .updateComponent transport session size fits => Sys2Proof.Machine.execUpdateComponent transport session size fits s
  | .firmwareData block => Sys2Proof.Machine.execFirmwareData block s
  | .verifyComplete transport unreadable => Sys2Proof.Machine.execVerifyComplete transport unreadable s
  | .activateFirmware transport session => Sys2Proof.Machine.execActivateFirmware transport session s
  | .cancelUpdate transport session => Sys2Proof.Machine.execCancelUpdate transport session s
  | .updateAgentTimeout => Sys2Proof.Machine.execUpdateAgentTimeout s
  | .ethPortDown port => Sys2Proof.Machine.execEthPortDown port s
  | .autoNegotiationTimeout port => Sys2Proof.Machine.execAutoNegotiationTimeout port s
  | .arbSymbolLock => Sys2Proof.Machine.execArbSymbolLock s
  | .arbSymbolLockLoss => Sys2Proof.Machine.execArbSymbolLockLoss s
  | .handOverDeadline phys => Sys2Proof.Machine.execHandOverDeadline phys s
  | .twinAnswerTimeout phys line half => Sys2Proof.Machine.execTwinAnswerTimeout phys line half s

end Sys2Proof.Machine
end

