-- ==== Sys2Proof/Machine/Idle.lean ====
section
/-!
DEFINITION. What the block does on its own in a step without a command: its local clock runs (R80), and a HOT sync goes on by a page (R270).
-/
namespace Sys2Proof.Machine
open Sys2Proof

/-- One local clock cycle of 10 ns. With always-on power down there is none. -/
def idle (s : State) : State := { s with blk := stepBlk (fun b => syncStep {} { b with cyc := b.cyc + 1 }) s.blk }

end Sys2Proof.Machine
end

