-- ==== Sys2Proof/WellFormed.lean ====
section
/-!
DEFINITION. Well-formed commands: every operand in the range that the spec gives it. A command that is not well formed is never sent; `exec` does
not rely on that (assumption 1).
-/
namespace Sys2Proof

/-- A number below a bound: ports (4), logical devices (64), channels (16), rails (16), dies (256) and the like. -/
def below (n x : Nat) : Bool := decide (x < n)

/-- Every number of a list is below a bound. -/
def allBelow (n : Nat) (l : List Nat) : Bool := l.all (fun x => decide (x < n))

/-- A 64-byte aligned address of 52 bits (R90). -/
def halfAligned (a : Nat) : Bool := decide (a % 64 = 0) && decide (a < 2 ^ 52)

/-- A run of 1 to 4,096 pages (R244). -/
def runLength (n : Nat) : Bool := decide (1 ≤ n) && decide (n ≤ 4096)

/-- Arguments of an Orbit or cipher command: at most six 64-bit registers (R327, R353). -/
def argsOk (l : List Nat) : Bool := decide (l.length ≤ 6) && allBelow (2 ^ 64) l

/-- Error pins 0 to 90 with their location codes (R409). -/
def pinsOk (l : List (Nat × W64)) : Bool := l.all (fun x => decide (x.1 < 91))

/-- NAND dies stand on channels 0 to 15, with chip enables 0 to 7 and 16 LUNs (R205). -/
def diesOk (l : List Machine.DieFound) : Bool := l.all (fun x => decide (x.channel < 16) && decide (x.lun < 128))

/-- A port of 0 to 3, or a logical device of 0 to 63. -/
def resetOk : Machine.PortReset → Bool
  | .conventional p => below 4 p
  | .hot p => below 4 p
  | .linkDisable p => below 4 p
  | .functionLevel n => below 64 n
  | .cxl n => below 64 n

/-- A management address is any number; a logical device's access names a device and a size of 1, 2, 4 or 8 bytes. -/
def targetOk : Machine.RegTarget → Bool
  | .mgmt _ => true
  | .ld n _ size => below 64 n && (size = 1 || size = 2 || size = 4 || size = 8)
  | .cfg n _ => below 64 n

/-- An Orbit engine, 0 or 1. -/
def eccOk : Machine.OrbEcc → Bool
  | .context _ => true
  | .key _ => true
  | .replay e => below 2 e
  | .segment _ _ => true

/-- The operands are in range. -/
def Instr.wf : Instr → Bool
  | .aonPowerUp straps => below 4 straps
  | .aonPowerLoss => true
  | .registerWrite _ target _ => targetOk target
  | .registerAccessViolation _ => true
  | .portResetBegin _ reset => resetOk reset
  | .portResetEnd reset => resetOk reset
  | .linkDown _ port => below 4 port
  | .linkTrained port speed width _ => below 4 port && below 16 speed && below 16 width
  | .retrain port => below 4 port
  | .disable _ port _ => below 4 port
  | .flitCrcError port _ => below 4 port
  | .firmwareRestart => true
  | .coresRunning _ => true
  | .coresStartTimeout => true
  | .sysRstAssert _ => true
  | .sysRstDeassert straps => below 4 straps
  | .hostWrite _ ld tag dpa _ _ => below 64 ld && below 65536 tag && halfAligned dpa
  | .hostRead _ ld tag dpa _ => below 64 ld && below 65536 tag && halfAligned dpa
  | .biRspI _ holder _ => below 128 holder
  | .biTimeout _ holder _ => below 128 holder
  | .streamIdleExpire hemi _ => below 2 hemi
  | .mergeWindowExpire _ _ => true
  | .heldHalfAccept _ => true
  | .fillVictimAccepted _ => true
  | .fatalFlushDone _ => true
  | .hdmDecoderCommit ld decoder _ _ _ _ _ => below 64 ld && below 8 decoder
  | .initiateDcAdd transport _ ld region _ _ => below 66 transport && below 64 ld && below 8 region
  | .addDcResponse ld _ => below 64 ld
  | .dcOfferTimeout ld _ => below 64 ld
  | .releaseDc ld _ _ => below 64 ld
  | .initiateDcRelease transport _ ld _ _ _ => below 66 transport && below 64 ld
  | .gpfPhase1 port => below 4 port
  | .gpfPhase2 port => below 4 port
  | .gpfPhase2Complete port => below 4 port
  | .identifyMemoryDevice ld => below 64 ld
  | .getHealthInfo ld => below 64 ld
  | .getEventRecords ld _ => below 64 ld
  | .clearEventRecords ld _ _ => below 64 ld
  | .getSupportedLogs ld => below 64 ld
  | .getLog ld _ => below 64 ld
  | .setTimestamp ld time => below 64 ld && below (2 ^ 64) time
  | .getMultiHeadedInfo ld => below 64 ld
  | .getPoisonList ld _ _ => below 64 ld
  | .injectPoison _ ld dpa => below 64 ld && halfAligned dpa
  | .clearPoison _ ld dpa _ => below 64 ld && halfAligned dpa
  | .scanMedia ld _ _ => below 64 ld
  | .scanMediaDone ld => below 64 ld
  | .mailboxUnsupported ld opcode _ => below 64 ld && below 65536 opcode
  | .getRegionMap ld _ _ _ => below 64 ld
  | .getPersistenceStatus ld _ => below 64 ld
  | .getRestoreStatus ld _ => below 64 ld
  | .getEpochHistory ld _ => below 64 ld
  | .getTopologyStatus ld _ => below 64 ld
  | .getChartIdentity ld _ => below 64 ld
  | .mailboxWriteBusy ld => below 64 ld
  | .windowViolation ld _ _ => below 64 ld
  | .ideKeyProg transport _ port _ => below 66 transport && below 4 port
  | .ideKSetGo transport _ port _ => below 66 transport && below 4 port
  | .ideKSetStop transport _ port _ => below 66 transport && below 4 port
  | .ideQuery transport _ port => below 66 transport && below 4 port
  | .openStaging => true
  | .stageData _ => true
  | .verify => true
  | .verifyDone => true
  | .commitDawn => true
  | .commitDawnDone => true
  | .commitLive => true
  | .discard => true
  | .liveSwitch _ => true
  | .liveBackgroundSwitch _ => true
  | .nearReshapeHold => true
  | .nearReshapeSwitch _ => true
  | .meridianTick _ => true
  | .tickLoss => true
  | .deadReckoningTick => true
  | .merFrame cells _ => decide (cells.length = 96)
  | .frameMissing => true
  | .slewAdjust => true
  | .meridianWaitTimeout => true
  | .ptpSync header _ _ => below 8 header.port
  | .ptpFollowUp header _ => below 8 header.port
  | .ptpAnnounce header _ => below 8 header.port
  | .ptpDelayResp header _ _ _ => below 8 header.port
  | .ptpLoss => true
  | .ptpDelayReqSend => true
  | .epochBoundary _ => true
  | .epochSeal => true
  | .hourlyRecord => true
  | .refreshBeat => true
  | .spdTempPoll reads => Machine.SMap.wf reads
  | .readAgeLimit => true
  | .caParityAlert channel _ _ _ _ => below 16 channel
  | .thaw _ channel _ => below 16 channel
  | .mark channel dimm rank position => below 16 channel && below 2 dimm && below 4 rank && below 20 position
  | .unmark channel dimm rank position => below 16 channel && below 2 dimm && below 4 rank && below 20 position
  | .diagRead _ channel => below 16 channel
  | .remotePageCopyDone _ _ lines => Machine.SMap.wf lines
  | .zeroFillDone _ _ => true
  | .writebackIssue _ => true
  | .writebackProgramDone _ _ => true
  | .governorWindow => true
  | .throttleRelease _ => true
  | .throttleOverdraw _ => true
  | .holdupLowAssert => true
  | .holdupLowDeassert => true
  | .holdupRestore => true
  | .pwrFailAssert => true
  | .duskFlushDone _ => true
  | .saveComplete _ => true
  | .pwrFailReturn _ => true
  | .restoreDone _ _ _ => true
  | .backgroundRestore => true
  | .generationDeath _ => true
  | .nandReadDone _ position _ _ => below 18 position
  | .nandProgramDone _ _ position _ => below 18 position
  | .nandEraseDone _ _ => true
  | .memberTimeout die _ => below 256 die
  | .stripePadTimeout => true
  | .stripeJournalCommit => true
  | .reclaim => true
  | .replicaReplace => true
  | .startRebuild => true
  | .rebuildStripe => true
  | .admitDie die => below 256 die
  | .retire die => below 256 die
  | .rawRead => true
  | .rawReadDone _ => true
  | .patrolPause => true
  | .patrolResume => true
  | .patrolStripe unread _ => allBelow 18 unread
  | .patrolDaily => true
  | .reshapeComplete => true
  | .stagingFillLand _ _ bad => allBelow 32 bad
  | .farWritebackDone _ _ => true
  | .trnPromote _ ld _ count => below 64 ld && runLength count
  | .trnEvict _ ld _ count => below 64 ld && runLength count
  | .trnStart ld area => below 64 ld && below 16 area
  | .trnStop _ ld area => below 64 ld && below 16 area
  | .trnRelease _ ld area slot => below 64 ld && below 16 area && below 32 slot
  | .transitFillStart _ window => below 256 window
  | .transitPageLand _ window slot bad => below 256 window && below 32 slot && allBelow 32 bad
  | .transitDue _ window slot => below 256 window && below 32 slot
  | .transitStallCeiling _ window slot => below 256 window && below 32 slot
  | .crailanilTrain link _ _ => below 2 link
  | .trainTimeout => true
  | .crailanilRekey link _ => below 2 link
  | .crnAck link _ => below 2 link
  | .crnNak link _ => below 2 link
  | .crnAckTimer link => below 2 link
  | .halfLinkDown _ link => below 2 link
  | .linkGraceExpire _ => true
  | .linkReturn _ => true
  | .mirrorWrite _ _ addr _ _ _ => halfAligned addr
  | .mirrorAck _ _ => true
  | .mirrorAckTimeout _ => true
  | .fwdRead _ _ dpa ld => halfAligned dpa && below 128 ld
  | .fwdWrite _ _ dpa ld _ _ => halfAligned dpa && below 128 ld
  | .fwdData _ _ _ _ => true
  | .fwdDone _ _ => true
  | .coldShipStart _ _ => true
  | .coldPage _ _ _ lines => Machine.SMap.wf lines
  | .coldEnd _ _ _ => true
  | .coldAck _ _ => true
  | .shipHoldRelease _ => true
  | .syncDigest _ _ _ => true
  | .syncPage _ _ _ lines => decide (lines.length = 32)
  | .syncMatch _ _ _ _ => true
  | .hotSyncDone => true
  | .sfUpdate _ _ _ => true
  | .twinState _ roles _ _ => below 16 roles
  | .stateTimer => true
  | .switchEpoch _ _ => true
  | .chartConfirm _ _ => true
  | .twinViolation _ => true
  | .heartbeat => true
  | .renew half => below 2 half
  | .fence half => below 2 half
  | .grant _ g => below 2 g.half
  | .revoke half => below 2 half
  | .statusQuery half => below 2 half
  | .arbiterMessageInvalid _ => true
  | .audit => true
  | .twnRelease half => below 2 half
  | .ethPortUp port _ => below 8 port
  | .neighbourSolicitation port target source => below 8 port && below (2 ^ 128) target && below (2 ^ 128) source
  | .ethFrameDiscard _ => true
  | .orbDoorbell _ ld _ tail => below 64 ld && below 4294967296 tail
  | .segmentSend _ _ => true
  | .orbWrite _ wire _ => below 8 wire.port
  | .orbRead _ wire _ => below 8 wire.port
  | .atomicAdd _ wire _ => below 8 wire.port
  | .atomicCas _ wire _ => below 8 wire.port
  | .writeNotify _ wire _ => below 8 wire.port
  | .readData _ wire _ => below 8 wire.port
  | .orbAck _ wire _ => below 8 wire.port
  | .retransmitTimer _ _ _ _ => true
  | .messageHorizon _ _ _ => true
  | .waitTimeout _ _ => true
  | .waitTableRetry _ _ => true
  | .contextFetchDone _ _ _ => true
  | .replayEntryExpire engine _ _ _ => below 2 engine
  | .replayCacheEcc word _ _ => eccOk word
  | .replayWindowEnd engine => below 2 engine
  | .orbCreateQueue _ ld args => below 64 ld && argsOk args
  | .orbDestroyQueue _ ld args => below 64 ld && argsOk args
  | .orbResumeQueue _ ld args => below 64 ld && argsOk args
  | .registerKey _ ld args => below 64 ld && argsOk args
  | .deregisterKey _ ld args => below 64 ld && argsOk args
  | .queryQueue _ ld args => below 64 ld && argsOk args
  | .cphCreateQueue _ ld args => below 64 ld && argsOk args
  | .cphDestroyQueue _ ld args => below 64 ld && argsOk args
  | .cphResumeQueue _ ld args => below 64 ld && argsOk args
  | .unwrapKey _ ld args => below 64 ld && argsOk args
  | .clearSlot _ ld args => below 64 ld && argsOk args
  | .querySlot _ ld args => below 64 ld && argsOk args
  | .mgmtUnwrap _ slot => below 8192 slot
  | .mgmtClearSlot _ slot => below 8192 slot
  | .cphDoorbell _ ld queue tail => below 64 ld && below 256 queue && below 4294967296 tail
  | .cipherDescComplete _ queue => below 256 queue
  | .verifyBufferFree _ hemi => below 2 hemi
  | .pageGo ld _ => below 64 ld
  | .pageDone ld => below 64 ld
  | .slotStoreEcc hemi slot => below 2 hemi && below 8192 slot
  | .wrapKey transport _ tag _ _ _ _ => below 66 transport && below 65536 tag
  | .generateKey transport _ tag _ _ _ => below 66 transport && below 65536 tag
  | .installOwner _ => true
  | .aliasBind => true
  | .installAliasChain arg => below 65536 arg
  | .sealPart _ => true
  | .debugChallenge => true
  | .debugUnlock => true
  | .returnChallenge => true
  | .returnPart arg _ => below 65536 arg
  | .commitSvn _ => true
  | .tapProvision _ => true
  | .tapInstruction _ => true
  | .getVersion transport => below 66 transport
  | .getCapabilities transport _ => below 66 transport
  | .negotiateAlgorithms transport _ => below 66 transport
  | .getDigests transport _ => below 66 transport
  | .getCertificate transport _ _ _ _ => below 66 transport
  | .challenge transport _ _ => below 66 transport
  | .getMeasurements transport _ _ _ _ => below 66 transport
  | .keyExchange transport _ _ => below 66 transport
  | .finish transport _ _ _ => below 66 transport
  | .spdmHeartbeat transport _ => below 66 transport
  | .keyUpdate transport _ => below 66 transport
  | .endSession transport _ => below 66 transport
  | .psqOn => true
  | .psqOff => true
  | .psqCycle => true
  | .dawnRetry => true
  | .sequencerPowerUp => true
  | .seqPgRise slot => below 16 slot
  | .seqPgFall slot => below 16 slot
  | .pgTimeout slot => below 16 slot
  | .settleDone => true
  | .dischargeTimeout slot => below 16 slot
  | .minOffEnd => true
  | .dawnD0 _ _ => true
  | .dawnD2 _ _ _ => true
  | .dawnD3 => true
  | .dawnD4 found dies => Machine.SMap.wf found && diesOk dies
  | .dawnD5 _ _ => true
  | .dawnD6 => true
  | .dawnD7 _ => true
  | .stageTimeout => true
  | .sensorSample samples => Machine.SMap.wf samples
  | .throttleStep => true
  | .hardTrip sensor _ => below 28 sensor
  | .errorPinAssert pin _ => below 91 pin
  | .fltStatusClear _ asserted => pinsOk asserted
  | .fltFirstRearm => true
  | .logbookSecond => true
  | .almanacSample _ _ _ => true
  | .almanacInterval _ => true
  | .almanacHourly => true
  | .freeze _ => true
  | .freezeExpire => true
  | .store => true
  | .clear => true
  | .eflashProgramDone _ _ => true
  | .eflashEraseDone _ _ => true
  | .eflashSuspend => true
  | .eflashResume => true
  | .i3cDynamicAddress port _ addr => below 2 port && below 128 addr
  | .mctpPacket transport _ _ _ _ => below 66 transport
  | .setEndpointId transport id => below 66 transport && below 256 id
  | .setMtu port _ => below 2 port
  | .regRead transport tag addr _ => below 66 transport && below 65536 tag && below 4294967296 addr
  | .regWrite _ transport _ tag addr _ _ => below 66 transport && below 65536 tag && below 4294967296 addr
  | .logRead transport tag addr _ _ _ => below 66 transport && below 65536 tag && below 4294967296 addr
  | .almRead transport tag addr _ => below 66 transport && below 65536 tag && below 4294967296 addr
  | .vendorUnsupported transport tag command _ addr => below 66 transport && below 65536 tag && below 256 command && below 4294967296 addr
  | .setEventReceiver transport _ => below 66 transport
  | .getSensorReading transport _ => below 66 transport
  | .getPdr transport _ => below 66 transport
  | .getFruRecordTable transport => below 66 transport
  | .pldmBase transport command _ => below 66 transport && below 256 command
  | .requestUpdate transport _ _ => below 66 transport
  | .passComponentTable transport _ _ => below 66 transport
  | .updateComponent transport _ _ _ => below 66 transport
  | .firmwareData _ => true
  | .verifyComplete transport _ => below 66 transport
  | .activateFirmware transport _ => below 66 transport
  | .cancelUpdate transport _ => below 66 transport
  | .updateAgentTimeout => true
  | .ethPortDown port => below 8 port
  | .autoNegotiationTimeout port => below 8 port
  | .arbSymbolLock => true
  | .arbSymbolLockLoss => true
  | .handOverDeadline _ => true
  | .twinAnswerTimeout _ _ half => below 2 half

end Sys2Proof
end

