-- ==== Sys2Proof/Safety.lean ====
section
/-!
DEFINITION. What counts as a good state: the vocabulary of the statements.
-/
namespace Sys2Proof.Machine
open Sys2Proof

/-- The block as a command sees it: nothing sent yet in this step. -/
def State.now (s : State) : Blk := { s.blk with out := [] }

/-- The state after a command whose own effect leaves the block `b`. -/
def State.after (s : State) (b : Blk) : State := { s with blk := closeStep s.now b }

/-- The same where the block's own work follows. -/
def State.afterWork (s : State) (phys : Phys) (b : Blk) : State := s.after (settleWork phys b)

/-- What follows from a verdict: from the Chart that it accepts, or from the reason, section and offset of a rejection. -/
def Verdict.fold {α : Type} (ok : Chart → α) (bad : Reason → Nat → Nat → α) : Verdict → α
  | .ok c => ok c
  | .bad r x o => bad r x o

/-- Nothing is left for the block to do on its own after a command: no command waits, no job or message is under way, no descriptor is to be fetched, no COLD_ACK is due. -/
def Blk.enginesIdle (b : Blk) : Bool :=
  b.fw.deferred.isEmpty && b.host.jobs.isEmpty && b.orb.held.isEmpty && b.orb.queues.isEmpty && b.orb.dereg.isEmpty && b.orb.keyTodo.isEmpty &&
  b.cph.queues.isEmpty && b.twin.coldDue.isNone

/-- A request of logical device `n` to the half at `dpa` of private Near data is served at once by this unit (R85, R91, R99, R100, R104, R259). -/
def Blk.servesHere (b : Blk) (n dpa : Nat) : Bool :=
  b.takesMem n && !((b.portCfg (n / 16)).ideRequired && !(b.port (n / 16)).ideActive) && b.reach n dpa == .ok && b.area dpa == .near &&
  (b.stagedPage dpa).isNone && !b.host.held.any (fun h => h.req.dpa / 128 == dpa / 128) && !b.inDusk && b.serves dpa &&
  !(b.paired && (b.half (b.halfOf dpa)).eclipse) && !b.lostRegion dpa &&
  (match b.regionOf dpa with | some x => x.sharing != .sharedDb | none => true)

/-- A write is accepted at its line (R100, R122, R132, R183). -/
def Blk.acceptsWrite (b : Blk) (dpa : Nat) : Bool :=
  (b.half (b.halfOf dpa)).gateOpen && !b.halo.holding && (b.writeHold (b.lineOf dpa) false false).isNone

/-- A mailbox command of logical device `n` runs at once in service: the device is present and in no reset, its doorbell is clear and nothing makes the
command wait (R25, R109, R110). -/
def Blk.mailboxRuns (b : Blk) (n : Nat) : Bool :=
  (b.port (n / 16)).present.testBit (n % 16) && !(b.port (n / 16)).inReset && !(b.ld n).resetting && !(b.ld n).doorbell && !b.mboxWaits && b.inService

/-- The register window of logical device `n` takes a write: the device is present and in no reset (R112, R479). -/
def Blk.ldTakes (b : Blk) (n : Nat) : Bool :=
  (b.port (n / 16)).present.testBit (n % 16) && !(b.ld n).resetting && !(b.port (n / 16)).inReset && !b.pwr.sysRst

/-- The half-link that brings a message of the twin (R263). -/
def Blk.bringer (b : Blk) (m : TwinMsg) : Nat := b.linkFor (b.cameFor m)

/-- A message of the twin is taken: the unit takes messages, the half-link is up and its frame has come without error (R266, R460). -/
def Blk.arrives (b : Blk) (phys : Phys) (m : TwinMsg) : Bool := b.twinTakes && b.linkUp (b.bringer m) && !phys.crn

/-- A message's frame fails, outside a Dusk (R266). -/
def Blk.garbled (b : Blk) (phys : Phys) (m : TwinMsg) : Bool := b.linkUp (b.bringer m) && !b.inDusk && phys.crn

/-- The block when a message's frames have arrived, before the message acts. -/
def Blk.arrived (b : Blk) (m : TwinMsg) : Blk := frameIn (b.bringer m) m b

/-- The block when a message's frame has failed: a NAK of the next SEQ goes out. -/
def Blk.nakked (b : Blk) (m : TwinMsg) : Blk := send (.crnNak (b.bringer m) (b.link (b.bringer m)).recvSeq) (countUncoded b)

/-- An Orbit packet that arrives passes the checks of R295, R296 and R312 under the security association `a`. -/
def Blk.receives (b : Blk) (w : Wire) (p : OrbPkt) (a : SaCfg) : Bool :=
  b.orb.isOpen && (SMap.get EthPort.down b.orb.ports w.port).up && !b.badFrame w p && decide (b.sa? p.sa = some a) && decide ((b.slot a.keySlot).state = .loaded) &&
  w.tagOk && !(useSlot a.keySlot 1 false b).aged p.msgCount

/-- Canonical form of Near DRAM: line numbers rise and no listed line is what its fill left there. -/
def Memory.wf (d : Dram) : Bool := SMap.wfd d.filled d.lines

/-- Every fuse that is blown in bank `o` is blown in bank `p`. -/
def Otp.within (o p : Otp) : Prop := o.blow p = p

/-- Every command that waits is well formed. -/
def State.queueWf (s : State) : Bool := s.pending.all Instr.wf

/-- A run is safe when only well-formed commands wait. -/
def Safe (s : State) : Prop := s.queueWf = true

end Sys2Proof.Machine
end

