-- ==== Sys2Proof/Certificates/Slice0/Obligations.lean ====
section
/-!
DEFINITION. The statements for the provers. `s.now` is the block as a command sees it, `s.after b` the state when the command leaves the block `b`,
and `s.afterWork` the same where the block's own work follows first (Sys2Proof/Safety.lean).
-/
open Sys2Proof Sys2Proof.Machine

/-- A step runs the command at the front of the queue. For every command and state, a step with the command at the front of the queue is exec of that command on the state with the rest of the queue. (00_scope.md) -/
def Obligations.StepRunsTheFrontCommand : Prop :=
  ∀ (i : Instr) (s : State), step { s with pending := i :: s.pending } = exec i s

/-- With no command waiting the local clock advances by one cycle. A step on an empty queue answers a next state; with always-on power up the local clock of R80 is one cycle later, and the queue, the fuses, DRAM, the count and the persistence state are as before. That the idle step is one cycle is the model's choice (assumption 4). (03_meridian.md) -/
def Obligations.AnEmptyQueueIdlesForOneCycle : Prop :=
  ∀ s : State, s.pending = [] → s.blk.aon = true →
    ∃ t, step s = .next t ∧ t.blk.cyc = s.blk.cyc + 1 ∧ t.pending = [] ∧ t.otp = s.otp ∧ t.blk.mer = s.blk.mer ∧ t.blk.dram = s.blk.dram ∧
      t.blk.pers = s.blk.pers

/-- What the loss and the return of always-on power leave. AON_POWER_LOSS drops every rail enable, those of retained DRAM too, so DRAM and Halo hold nothing; fuses, the queue, the count, the Logbook, Chart slots, flash, identity, eFlash and the error bits are as they were. AON_POWER_UP, in every state, begins Dawn stage 0 with always-on power up, the straps sampled, the count at its recorded floor, an empty Logbook buffer and no key in a slot, with fuses, Chart slots and what the flash array holds of its layouts, zones, save map and metadata replicas as they were. (14_dawn_dusk_power.md, 20_package_pins_electrical.md, 00_scope.md) -/
def Obligations.AlwaysOnPowerLossAndReturn : Prop :=
  (∀ s : State, s.blk.aon = true →
    ∃ t, exec .aonPowerLoss s = .next t ∧ t.blk.aon = false ∧ t.blk.pwr.en = 0 ∧ t.blk.dram.lines = [] ∧ t.blk.halo.lines = [] ∧ t.blk.halo.mb = [] ∧
      t.otp = s.otp ∧ t.pending = s.pending ∧ t.blk.mer = s.now.mer ∧ t.blk.logbook = s.now.logbook ∧ t.blk.cht = s.now.cht ∧ t.blk.nvf = s.now.nvf ∧
      t.blk.ident = s.now.ident ∧ t.blk.efl = s.now.efl ∧ t.blk.errs = s.now.errs) ∧
  (∀ (s : State) (straps : Nat), ∃ t, exec (.aonPowerUp straps) s = .next t ∧ t.blk.aon = true ∧ t.blk.straps = straps % 4 ∧ t.blk.cyc = 0 ∧
      t.blk.pwr.stage = .dawn 0 ∧ t.blk.mer.count = s.now.pwr.boot.countFloor ∧ t.blk.logbook.buf = [] ∧ t.blk.dram.lines = [] ∧ t.blk.halo.lines = [] ∧
      t.blk.cph.slots = [] ∧ t.blk.nvf.layouts = s.now.nvf.layouts ∧ t.blk.nvf.zones = s.now.nvf.zones ∧
      t.blk.nvf.saved = s.now.nvf.saved ∧ t.blk.nvf.rep0 = s.now.nvf.rep0 ∧ t.blk.nvf.rep1 = s.now.nvf.rep1 ∧ t.blk.cht.slots = s.now.cht.slots ∧ t.otp = s.otp ∧ t.pending = s.pending)

/-- SYS_RST_N resets the controller outside a Dusk, and its deassertion ends the reset. Outside a Dusk an assertion leaves the controller in reset: requests in flight and Halo are gone, key slots are zeroised, the Dawn restarts at D0 unless rails are being lowered, and the fuses and the queue stay. During a Dusk, and while the reset is asserted already, it does nothing. The deassertion samples the straps and takes the TAP out of EXTEST; nothing else changes; outside a reset it does nothing. (14_dawn_dusk_power.md, 13_identity_lifecycle.md, 20_package_pins_electrical.md) -/
def Obligations.SystemResetPin : Prop :=
  (∀ (s : State) (phys : Phys), s.blk.aon = true → s.now.inDusk = false → s.now.pwr.sysRst = false →
    ∃ t, exec (.sysRstAssert phys) s = .next t ∧ t.blk.pwr.sysRst = true ∧ (t.blk.pwr.stage = .dawn 0 ∨ t.blk.pwr.stage = .down) ∧ t.blk.host.held = [] ∧
      t.blk.halo.lines = [] ∧ t.blk.halo.mb = [] ∧ t.blk.cph.slots = [] ∧ t.blk.fw = {} ∧ t.otp = s.otp ∧ t.pending = s.pending) ∧
  (∀ (s : State) (phys : Phys), s.blk.aon = true → s.now.inDusk = true ∨ s.now.pwr.sysRst = true → exec (.sysRstAssert phys) s = .next (s.after s.now)) ∧
  (∀ (s : State) (straps : Nat), s.blk.aon = true → s.now.pwr.sysRst = true →
    exec (.sysRstDeassert straps) s = .next (s.after { s.now with
      straps := straps % 4, pwr := { s.now.pwr with sysRst := false },
      ident := { s.now.ident with tapBypass := s.now.ident.tapBypass || s.now.ident.tap == 3 } })) ∧
  (∀ (s : State) (straps : Nat), s.blk.aon = true → s.now.pwr.sysRst = false → exec (.sysRstDeassert straps) s = .next (s.after s.now))

/-- The sequencer raises the rails group by group. SEQUENCER_POWER_UP with every condition of R378 met at D1 and no rail kept up begins attempt 1 at the lowest group; otherwise nothing changes. A power-good of an enabled slot is noted, and one of a slot without it is not. A PG timeout of a slot of the group marks it as waited. SETTLE_DONE after the last group turns the sequence on; before it the next group is raised. MIN_OFF_END ends the minimum off time. (14_dawn_dusk_power.md) -/
def Obligations.SequencerRaisesRails : Prop :=
  ∀ s : State, s.blk.aon = true →
    (s.now.pwr.seq = .off → s.now.mayRaise = true → s.now.pwr.stage = .dawn 1 → s.now.pwr.sysRst = false → s.now.pwr.en = 0 →
      exec .sequencerPowerUp s = .next (s.after (d1Done (checkGroup (beginRaise 1 s.now))))) ∧
    (s.now.mayRaise = false → exec .sequencerPowerUp s = .next (s.after s.now)) ∧
    (∀ n, s.now.railSlots.contains n = true → (s.now.rail n).noPg = false →
      exec (.seqPgRise n) s = .next (s.after (checkGroup { s.now with pwr := { s.now.pwr with pg := setBit s.now.pwr.pg n } }))) ∧
    (∀ n, s.now.railSlots.contains n = false → exec (.seqPgRise n) s = .next (s.after s.now)) ∧
    (∀ n, s.now.pwr.seq = .raising → s.now.pwr.settling = false → (s.now.groupOf s.now.raiseSlots s.now.pwr.group).contains n = true →
      s.now.pwr.pg.testBit n = false →
      exec (.pgTimeout n) s = .next (s.after (checkGroup { s.now with pwr := { s.now.pwr with waited := setBit s.now.pwr.waited n } }))) ∧
    (s.now.pwr.seq = .raising → s.now.pwr.settling = true → s.now.nextOrder s.now.raiseSlots (some s.now.pwr.group) = none →
      exec .settleDone s = .next (s.after (d1Done { s.now with pwr := { s.now.pwr with seq := .on, settling := false } }))) ∧
    (∀ o, s.now.pwr.seq = .raising → s.now.pwr.settling = true → s.now.nextOrder s.now.raiseSlots (some s.now.pwr.group) = some o →
      exec .settleDone s = .next (s.after (checkGroup (raiseGroup o s.now)))) ∧
    (s.now.pwr.seq = .minOff → s.now.pwr.lowerWhy ≠ .retry →
      exec .minOffEnd s = .next (s.after { s.now with pwr := { s.now.pwr with seq := .off } }))

/-- A power-good that falls, and a slot that does not discharge. While rails are lowered a falling power-good lets the sequencer go on; during a raise it is only noted; with the rails up the loss of an enabled slot takes the PG_LOST steps; a slot that is not enabled changes nothing. A discharge timeout with power-good still high records DISCHARGE_SLOW, and the lowering goes on in every case. (14_dawn_dusk_power.md) -/
def Obligations.RailsFallAndAreLost : Prop :=
  ∀ (s : State) (n : Nat), s.blk.aon = true →
    (s.now.railSlots.contains n = false → exec (.seqPgFall n) s = .next (s.after s.now)) ∧
    (s.now.railSlots.contains n = true → (s.now.rail n).noPg = false → s.now.pwr.pg.testBit n = true →
      (s.now.pwr.seq = .lowering →
        exec (.seqPgFall n) s = .next (s.after (lowerWhile 17 { s.now with pwr := { s.now.pwr with pg := clearBit s.now.pwr.pg n } }))) ∧
      (s.now.pwr.seq = .raising → exec (.seqPgFall n) s = .next (s.after { s.now with pwr := { s.now.pwr with pg := clearBit s.now.pwr.pg n } })) ∧
      (s.now.pwr.seq = .on → s.now.pwr.en.testBit n = true →
        exec (.seqPgFall n) s = .next (s.after (pgLostAt n { s.now with pwr := { s.now.pwr with pg := clearBit s.now.pwr.pg n } })))) ∧
    (s.now.pwr.seq = .lowering → s.now.lowering.contains n = true → s.now.pwr.lowered.testBit n = false →
      ((s.now.rail n).noPg = false → s.now.pwr.pg.testBit n = true →
        exec (.dischargeTimeout n) s = .next (s.after (lowerWhile 17
          (modPwr (fun p => { p with lowered := setBit p.lowered n }) (setErr .psq 1 (powRecord .dischargeSlow { slot := n } s.now)))))) ∧
      (s.now.pwr.pg.testBit n = false →
        exec (.dischargeTimeout n) s = .next (s.after (lowerWhile 17 { s.now with pwr := { s.now.pwr with lowered := setBit s.now.pwr.lowered n } })))) ∧
    (s.now.pwr.seq ≠ .lowering → exec (.dischargeTimeout n) s = .next (s.after s.now))

/-- PSQ_CMD outside a Dusk, and its refusal in one. Outside a Dusk, ON clears HOLD_OFF; OFF sets it and, like CYCLE, fires the Dusk trigger from D7 or is an off request before it; DAWN_RETRY leaves Twilight and sets CMD_ERR outside it. During a Dusk each of them sets CMD_ERR and does nothing else. (14_dawn_dusk_power.md) -/
def Obligations.PowerCommands : Prop :=
  ∀ s : State, s.blk.aon = true →
    (s.now.inDusk = false →
      exec .psqOn s = .next (s.after (noteOn s.now { s.now with pwr := { s.now.pwr with holdOff := false } })) ∧
      exec .psqOff s = .next (s.after (duskOrOff false true (setHoldOff s.now))) ∧
      exec .psqCycle s = .next (s.after (duskOrOff false true s.now)) ∧
      (s.now.pwr.stage = .twilight → exec .dawnRetry s = .next (s.after (exitTwilight 1 s.now))) ∧
      (s.now.pwr.stage ≠ .twilight → exec .dawnRetry s = .next (s.after (setErr .psq 6 s.now)))) ∧
    (s.now.inDusk = true →
      exec .psqOn s = .next (s.after (setErr .psq 6 s.now)) ∧ exec .psqOff s = .next (s.after (setErr .psq 6 s.now)) ∧
      exec .psqCycle s = .next (s.after (setErr .psq 6 s.now)) ∧ exec .dawnRetry s = .next (s.after (setErr .psq 6 s.now)))

/-- Dawn stages D0, D2 and D3. D0 runs where the reset and the rails allow it. It counts a power cycle where the rails have been down; an unreadable boot record fails it with EFLASH, and otherwise it ends at Twilight, D1 or D2, with the fuses read and the records restored. D2 loads the active bank when it checks out, else fails with FIRMWARE where neither bank does. D3 applies the pending staged Chart or the active one; a pending Chart that fails is dropped and the Dawn goes on; a bad active Chart gives way to the default Chart only where the media carries no digest. A RETURNED part fails with LIFECYCLE. Outside its stage each does nothing. (14_dawn_dusk_power.md, 02_chart.md, 13_identity_lifecycle.md, 18_management_interfaces.md) -/
def Obligations.DawnStagesZeroToThree : Prop :=
  ∀ s : State, s.blk.aon = true →
    (∀ ok r, s.now.mayD0 = false → exec (.dawnD0 ok r) s = .next (s.after s.now).blow) ∧
    (∀ r, s.now.mayD0 = true → exec (.dawnD0 false r) s = .next (s.after (failDawn 0 .eflash 0 (d0Begin s.now))).blow) ∧
    (s.now.mayD0 = true → exec (.dawnD0 true .whole) s = .next (s.after (d0End (d0Records (d0Meridian (modMer (fun m => { m with waitDone := false, runsSinceDawn := 0 })
      (d0Fuses s.otp .whole (noteHung (d0Begin s.now)))))))).blow) ∧
    ((d0Begin s.now).pwr.boot.cycles = if s.now.pwr.boot.railsWentDown then s.now.pwr.boot.cycles + 1 else s.now.pwr.boot.cycles) ∧
    (∀ a b c, s.now.atStage 2 = false → exec (.dawnD2 a b c) s = .next (s.after s.now)) ∧
    (∀ c, s.now.atStage 2 = true → s.now.mgt.active < 2 →
      let a := s.now.mgt.active
      let ra := (s.now.bankInfo a false).result
      let ro := (s.now.bankInfo (1 - a) false).result
      let x := noteBegun 0 (noteBegun 1 { s.now with
        mgt := { s.now.mgt with infoA := s.now.bankInfo 0 false, infoB := s.now.bankInfo 1 false, pendingReset := false } })
      let begin := fun (n : Nat) (y : Blk) => if c then stageDone 2 3 (loadBank n y) else failDawn 2 .cores 0 (loadBank n y)
      exec (.dawnD2 false false c) s = .next (s.after (
        if ra = .ok then begin a x
        else if ro = .ok then begin (1 - a) (addJob .bootRecord { x with mgt := { x.mgt with active := 1 - a, trial := false } })
        else failDawn 2 .firmware ((s.now.bankInfo 0 false).result.code + 256 * (s.now.bankInfo 1 false).result.code) x))) ∧
    (s.now.atStage 3 = false → exec .dawnD3 s = .next (s.after s.now)) ∧
    (s.now.atStage 3 = true → s.now.ident.lc = .returned → exec .dawnD3 s = .next (s.after (failDawn 3 .lifecycle 0 s.now))) ∧
    (s.now.atStage 3 = true → s.now.ident.lc ≠ .returned →
      (s.now.cht.slotRec.pending = true → exec .dawnD3 s = .next (s.after
        (match validate (s.now.checkEnv {}) (s.now.slotBytes s.now.stagedSlot) false with
          | .ok c => applyChart c true s.now
          | .bad r x o => pendingFails r x o s.now))) ∧
      (s.now.cht.slotRec.pending = false → exec .dawnD3 s = .next (s.after
        (match validate (s.now.checkEnv {}) (s.now.slotBytes s.now.cht.slotRec.active) false with
          | .ok c => applyChart c false s.now
          | .bad _ _ _ => if s.now.mediaSigned then failDawn 3 .chart Reason.mediaChart.code (noteReject .mediaChart 0 0 s.now)
              else applyChart (defaultChart {} .solo false) false s.now))))

/-- Dawn stages D4 to D7 and the stage limits. D4 finds the DIMMs and dies, checks the Chart against them, fails with its reason where it is rejected and with POPULATION where no channel can be used or what the Chart asks for is not there, and otherwise D5 follows. D5 fails with META_LOST when a layout exists and no replica with a superblock reads; otherwise it restores and D6 follows. D6 waits for Meridian; under a Chart that is not the default one it then fails with TWIN_MISMATCH when the pair's Charts differ, and otherwise takes the STANDBY steps and D7 follows. D7 puts the unit in service, clears the failed-Dawn count and, in Solo, opens the gate. A stage from D2 on that overruns its limit fails with STAGE_TIMEOUT; D1 has no limit. Outside its stage each does nothing. (14_dawn_dusk_power.md, 06_dram_and_line_codes.md, 08_flash_array.md, 10_twin_binary_failover.md) -/
def Obligations.DawnStagesFourToSeven : Prop :=
  ∀ s : State, s.blk.aon = true →
    (∀ f d, s.now.atStage 4 = false → exec (.dawnD4 f d) s = .next (s.after s.now)) ∧
    (∀ f d, s.now.atStage 4 = true → (discover f d s.now).cht.cur.isDefault = true → (discover f d s.now).population.chans = [] →
      ∃ c, exec (.dawnD4 f d) s = .next (s.after (failD4 .population (populationSect (discover f d s.now).population c) 0 { discover f d s.now with cht := { (discover f d s.now).cht with cur := c } }))) ∧
    (∀ f d, s.now.atStage 4 = true →
      let x := discover f d s.now
      let body := x.slotBytes (if x.cht.dawnPending then x.stagedSlot else x.cht.slotRec.active)
      let read := fun (pool : Bool) => if x.cht.cur.isDefault then .ok (defaultChart x.population .solo false) else validate (x.checkEnv x.population) body pool
      (∀ r n o, read false = .bad r n o → exec (.dawnD4 f d) s = .next (s.after (failD4 r n o x))) ∧
      (∀ c, read false = .ok c → x.population.chans = [] ∨ populationOk x.population c = false →
        exec (.dawnD4 f d) s = .next (s.after (failD4 .population (populationSect x.population c) 0 { x with cht := { x.cht with cur := c } }))) ∧
      (∀ c, read false = .ok c → read true = .ok c → x.population.chans ≠ [] → populationOk x.population c = true → poolCheck x.population x.cht.isB c = true →
        ∃ w, exec (.dawnD4 f d) s = .next (s.after (stageDone 4 5 (modPwr (fun p => { p with warmKeep := w }) { x with cht := { x.cht with cur := c } }))))) ∧
    (∀ m n, s.now.atStage 5 = false → exec (.dawnD5 m n) s = .next (s.after s.now)) ∧
    (∀ m n, s.now.atStage 5 = true → s.now.nvf.layouts ≠ [] → s.now.replicaReads m = false →
      exec (.dawnD5 m n) s = .next (s.after (failDawn 5 .metaLost 0 s.now))) ∧
    (∀ m n, s.now.atStage 5 = true → s.now.nvf.layouts = [] ∨ s.now.replicaReads m = true →
      exec (.dawnD5 m n) s = .next (s.after (stageDone 5 6 (d5Restore m n s.now)))) ∧
    (s.now.atStage 6 = false → exec .dawnD6 s = .next (s.after s.now)) ∧
    (s.now.atStage 6 = true → s.now.mer.state ≠ .locked → s.now.mer.waitDone = false → s.now.mer.body.source ≠ 2 → exec .dawnD6 s = .next (s.after s.now)) ∧
    (s.now.atStage 6 = true → s.now.mer.waitDone = true → s.now.cht.cur.isDefault = false →
      (s.now.twinDiffers = false → exec .dawnD6 s = .next (s.after (stageDone 6 7 (d6Standby s.now)))) ∧
      (s.now.twinDiffers = true → exec .dawnD6 s = .next (s.after
        (failDawn 6 .twinMismatch 0 (noteReject .twinMismatch 0 0 (s.now.halvesOf.foldl (fun b h => sendStatus h 4 b) s.now)))))) ∧
    (∀ phys, s.now.atStage 7 = true → ∃ b, exec (.dawnD7 phys) s = .next (s.afterWork phys b) ∧ b.pwr.stage = .service ∧ b.pwr.boot.failed = 0 ∧
      b.pwr.boot.dawnOpen = none ∧ b.mer = s.now.mer ∧ b.mgt.trial = false) ∧
    (∀ phys, s.now.atStage 7 = false → exec (.dawnD7 phys) s = .next (s.afterWork phys s.now)) ∧
    (∀ n, 1 < n → s.now.atStage n = true → exec .stageTimeout s = .next (s.after (failDawn n .stageTimeout n s.now))) ∧
    (s.now.pwr.stage = .dawn 1 ∨ s.now.pwr.stage = .service → exec .stageTimeout s = .next (s.after s.now))

/-- What a write to the management register space does. A narrow or misaligned access, and a write to a register whose reset is under way, write nothing and are counted, and the read of such an access answers all ones (R6, R479). Outside a system reset a write of an ERR register clears exactly the bits written 1; a write of MGT_PERMIT has the effect of setPermit; a write of the read-only offsets named here changes nothing. In each case no other field of the block changes but by the block's own work that follows a command. (19_register_map.md, 00_scope.md) -/
def Obligations.RegisterWrites : Prop :=
  ∀ s : State, s.blk.aon = true →
    exec (.registerAccessViolation true) s = .next (s.after (send (.regData ones64) (countEvent 0x12 0 s.now))) ∧
    exec (.registerAccessViolation false) s = .next (s.after (countEvent 0x12 0 s.now)) ∧
    (∀ e a w, a % 8 ≠ 0 → exec (.registerWrite e (.mgmt a) w) s = .next (s.afterWork e.phys (countEvent 0x12 0 s.now)).blow) ∧
    (∀ e a w, a % 8 = 0 → s.now.regInReset a = true → (regAt s.now a).isSome = true →
      exec (.registerWrite e (.mgmt a) w) s = .next (s.afterWork e.phys (countEvent 0x12 0 s.now)).blow) ∧
    (∀ (e : RegEnv) (a : Nat) (r : ErrReg) (w : W64), s.now.pwr.sysRst = false →
      (a, r) ∈ [(0x10050, ErrReg.mer), (0x20010, .hp 0), (0x24010, .hp 1), (0x28010, .hp 2), (0x2C010, .hp 3), (0x30008, .hal), (0x40028, .drm 0), (0x4F028, .drm 15),
        (0x50070, .per), (0x60050, .nvf), (0x70018, .trn), (0x80068, .twn), (0x90020, .orb), (0xA0048, .cph), (0xB0110, .lcs), (0xC0028, .psq), (0xD0020, .thm),
        (0xF0030, .log), (0xF8028, .alm), (0x100008, .efl), (0x110028, .mgt)] →
      exec (.registerWrite e (.mgmt a) w) s =
        .next (s.afterWork e.phys { s.now with errs := SMap.upd 0 s.now.errs r.key (fun x => x &&& ~~~w) }).blow) ∧
    (∀ (e : RegEnv) (w : W64), exec (.registerWrite e (.mgmt 0x110008) w) s = .next (s.afterWork e.phys (setPermit w s.now)).blow) ∧
    (∀ (e : RegEnv) (a : Nat) (w : W64), s.now.pwr.sysRst = false → a ∈ [0x10000, 0x50000, 0xC0000, 0xD0000, 0x120000, 0xF0048] →
      exec (.registerWrite e (.mgmt a) w) s = .next (s.afterWork e.phys s.now).blow)

/-- A host access to Near data that Halo holds is served at once. Where the logical device reaches the half and nothing holds the request, a read whose line is in Halo answers the half the line holds, poison where the line is poisoned, and leaves all other state; a write in Solo offers the store to the detector, stores the half in the line, marks a tracked page dirty at the current epoch and answers its completion. An access to a half that the device does not reach answers poison, or completes, writes nothing, and is violation 2 where masked and 1 where unmapped; one that the device's port does not take has no effect. Without IDE where the port requires it, the access is violation 6; one whose flit fails its integrity check on a port with IDE active is acted on by no part of the block, makes the stream insecure, shuts CXL.mem out until new keys are active and is violation 7. (04_host_ports.md, 05_halo_cache.md) -/
def Obligations.HostAccessesAtOnce : Prop :=
  ∀ (s : State) (phys : Phys) (ld tag dpa : Nat) (d : Half) (poison ex : Bool), s.blk.aon = true →
    (∀ k h, phys.halo = [] → phys.ide = false → s.now.servesHere ld (dpa / 64 * 64) = true → s.now.haloFind (s.now.lineOf (dpa / 64 * 64)) = some (k, h) →
      exec (.hostRead phys ld tag dpa ex) s = .next (s.afterWork phys (send (if h.poison then .readData ld tag 0 true
        else .readData ld tag (halfOf h.data (halfIx (dpa / 64 * 64))) false) s.now))) ∧
    (∀ b k h l, l = s.now.lineOf (dpa / 64 * 64) → b = (offerStore { src := .host ld tag, dpa := dpa / 64 * 64, write := some (d, poison) } s.now).2 →
      phys.halo = [] → phys.ide = false → s.now.servesHere ld (dpa / 64 * 64) = true → s.now.paired = false → s.now.acceptsWrite (dpa / 64 * 64) = true →
      s.now.haloFind l = some (k, h) →
      exec (.hostWrite phys ld tag dpa d poison) s = .next (s.afterWork phys (send (.writeDone ld tag) (markDirty (l / 32) s.now.epoch
        (haloPut k (h.store (halfIx (dpa / 64 * 64)) d poison s.now.epoch) b))))) ∧
    (s.now.takesMem ld = false → exec (.hostRead phys ld tag dpa ex) s = .next (s.afterWork phys s.now) ∧
      exec (.hostWrite phys ld tag dpa d poison) s = .next (s.afterWork phys s.now)) ∧
    (s.now.takesMem ld = true → ((s.now.portCfg (ld / 16)).ideRequired && !(s.now.port (ld / 16)).ideActive) = true → s.now.reach ld (dpa / 64 * 64) = .masked →
      exec (.hostRead phys ld tag dpa ex) s = .next (s.afterWork phys (send (.readData ld tag 0 true) (violation ld 6 (dpa / 64 * 64) true true s.now))) ∧
      exec (.hostWrite phys ld tag dpa d poison) s = .next (s.afterWork phys (send (.writeDone ld tag) (violation ld 6 (dpa / 64 * 64) true true s.now)))) ∧
    (s.now.takesMem ld = true → phys.ide = false → ((s.now.portCfg (ld / 16)).ideRequired && !(s.now.port (ld / 16)).ideActive) = false →
      (s.now.reach ld (dpa / 64 * 64) = .masked → s.now.area (dpa / 64 * 64) ≠ .slot →
        exec (.hostRead phys ld tag dpa ex) s = .next (s.afterWork phys (send (.readData ld tag 0 true) (violation ld 2 (dpa / 64 * 64) false true s.now))) ∧
        exec (.hostWrite phys ld tag dpa d poison) s = .next (s.afterWork phys (send (.writeDone ld tag) (violation ld 2 (dpa / 64 * 64) false true s.now)))) ∧
      (s.now.reach ld (dpa / 64 * 64) = .unmapped →
        exec (.hostRead phys ld tag dpa ex) s = .next (s.afterWork phys (send (.readData ld tag 0 true) (violation ld 1 (dpa / 64 * 64) false true s.now))) ∧
        exec (.hostWrite phys ld tag dpa d poison) s = .next (s.afterWork phys (send (.writeDone ld tag) (violation ld 1 (dpa / 64 * 64) false true s.now))))) ∧
    (s.now.takesMem ld = true → phys.ide = true → (s.now.port (ld / 16)).ideActive = true →
      exec (.hostRead phys ld tag dpa ex) s = .next (s.afterWork phys (violation ld 7 0 true true (modPort (ld / 16) (fun x => { x with ideInsecure := true, lockMem := true }) s.now))) ∧
      exec (.hostWrite phys ld tag dpa d poison) s = .next (s.afterWork phys (violation ld 7 0 true true (modPort (ld / 16) (fun x => { x with ideInsecure := true, lockMem := true }) s.now))))

/-- BISnp answers, late and stray answers, and the timeout. The last awaited BIRspI of a granule ends the wait: an entry under eviction goes, and what waited for it or on its granule is served again; an earlier answer leaves the other holders awaited. A late answer is discarded. A stray one is violation 5 of the device of this unit that sent it. A timeout is violation 4 of such a device, which counts as having answered; its answer is then late. One that nothing awaits does nothing. Holders of the other unit are reported by that unit (the model's choice, assumption 126). (04_host_ports.md) -/
def Obligations.BackInvalidateAnswers : Prop :=
  ∀ (s : State) (phys : Phys) (n g : Nat), s.blk.aon = true →
    (∀ w, s.now.host.bi.find? (fun x => x.granule = g && x.lds.contains n) = some w →
      ((w.lds.filter (· != n)).isEmpty = false →
        exec (.biRspI phys n g) s = .next (s.afterWork phys { s.now with host := { s.now.host with
          bi := s.now.host.bi.map (fun x => if x.granule = g then { x with lds := w.lds.filter (· != n) } else x) } })) ∧
      ((w.lds.filter (· != n)).isEmpty = true → w.evict = true →
        exec (.biRspI phys n g) s = .next (s.afterWork phys (retry phys (fun h => h.why == .biEvict w.granule || h.why == .bi w.granule) (sfSet w.granule none
          { s.now with host := { s.now.host with bi := s.now.host.bi.filter (fun x => x.granule != g) } })))) ∧
      ((w.lds.filter (· != n)).isEmpty = true → w.evict = false → s.now.host.held.find? (fun h => h.why == .bi w.granule) = none →
        exec (.biRspI phys n g) s = .next (s.afterWork phys { s.now with host := { s.now.host with bi := s.now.host.bi.filter (fun x => x.granule != g) } })) ∧
      ((w.lds.filter (· != n)).isEmpty = false → s.now.holder (n % 64) = n →
        ∃ b, exec (.biTimeout phys n g) s = .next (s.afterWork phys b) ∧ b.err (.hp (n % 64 / 16)) = s.now.err (.hp (n % 64 / 16)) ||| (1 <<< 4) ∧
          b.host.bi = s.now.host.bi.map (fun x => if x.granule = g then { x with lds := w.lds.filter (· != n) } else x) ∧
          b.host.biLate = (g, n) :: s.now.host.biLate.erase (g, n) ∧ b.dram = s.now.dram ∧ b.halo = s.now.halo)) ∧
    (s.now.host.bi.any (fun w => w.granule = g && w.lds.contains n) = false →
      (s.now.host.biLate.contains (g, n) = true →
        exec (.biRspI phys n g) s = .next (s.afterWork phys { s.now with host := { s.now.host with biLate := s.now.host.biLate.erase (g, n) } })) ∧
      (s.now.host.biLate.contains (g, n) = false → s.now.holder (n % 64) = n →
        exec (.biRspI phys n g) s = .next (s.afterWork phys (violation (n % 64) 5 (g * 128) false true s.now))) ∧
      exec (.biTimeout phys n g) s = .next (s.afterWork phys s.now))

/-- Port-class resets, HP_CTRL.DISABLE and the loss of a link. A conventional, hot or link-disable reset of a port begins: the port is in that reset, no logical device is present, its link is down and no IDE stream is active; a reset of one logical device puts that device in reset with its doorbell clear and its MSI-X table empty, and a CXL reset empties its decoders. Resets that overlap each last until their own end; with the last one's end the port, or the device, is out of reset and its window reads live values. DISABLE 1 begins a link-disable reset and 0 ends it; a DISABLE that repeats changes nothing. LINK_DOWN without a reset shows the link down and ends no reset. (00_scope.md, 04_host_ports.md, 19_register_map.md) -/
def Obligations.PortClassResets : Prop :=
  ∀ (s : State) (phys : Phys) (p n : Nat), s.blk.aon = true → p < 4 → n < 64 →
    (∀ r, r ∈ [PortReset.conventional p, .hot p, .linkDisable p] →
      (∃ b, exec (.portResetBegin phys r) s = .next (s.afterWork phys b) ∧ (b.port p).inReset = true ∧ (b.port p).resets.contains r.kind = true ∧
        (b.port p).present = 0 ∧ (b.port p).speed = 0 ∧ (b.port p).width = 0 ∧ (b.port p).cxlMem = false ∧ (b.port p).ideActive = false ∧ (b.port p).ideIo = false) ∧
      (∃ t, exec (.portResetEnd r) s = .next t ∧ (t.blk.port p).resets = (s.now.port p).resets.erase r.kind ∧
        (t.blk.port p).inReset = !((s.now.port p).resets.erase r.kind).isEmpty ∧ t.blk.dram = s.now.dram ∧ t.blk.halo = s.now.halo ∧ t.otp = s.otp)) ∧
    (∀ r, r ∈ [PortReset.functionLevel n, .cxl n] →
      (∃ b, exec (.portResetBegin phys r) s = .next (s.afterWork phys b) ∧ (b.ld n).resetting = true ∧ (b.ld n).resets.contains r.kind = true ∧
        (b.ld n).doorbell = false ∧ (b.ld n).msix = [] ∧ (r = .cxl n → (b.ld n).decoders = [])) ∧
      (∃ t, exec (.portResetEnd r) s = .next t ∧ (t.blk.ld n).resets = (s.now.ld n).resets.erase r.kind ∧
        (t.blk.ld n).resetting = !((s.now.ld n).resets.erase r.kind).isEmpty ∧ ((s.now.ld n).resets.erase r.kind = [] → (t.blk.ld n).heldWin = none) ∧
        t.blk.dram = s.now.dram ∧ t.blk.halo = s.now.halo ∧ t.otp = s.otp)) ∧
    (s.now.pwr.sysRst = false →
      (∀ on, (s.now.port p).disable = on → exec (.disable phys p on) s = .next (s.afterWork phys s.now)) ∧
      ((s.now.port p).disable = false →
        exec (.disable phys p true) s = .next (s.afterWork phys (modPort p (fun x => { x with disable := true }) (portResetBegin phys (.linkDisable p) s.now)))) ∧
      ((s.now.port p).disable = true →
        exec (.disable phys p false) s = .next (s.afterWork phys (modPort p (fun x => { x with disable := false }) (portResetEnd (.linkDisable p) s.now))))) ∧
    (∃ b, exec (.linkDown phys p) s = .next (s.afterWork phys b) ∧ (b.port p).speed = 0 ∧ (b.port p).width = 0 ∧ (b.port p).flit256 = false ∧
      (b.port p).cxlMem = false ∧ (b.port p).ideActive = false)

/-- Link training, retrains and replay. A port that may train takes the lower of its own and its partner's speed and width; with CXL in 256-byte flit mode its logical devices are present and carry CXL.mem, without it none is present and NO_FLIT256 is set. In Twilight HP0 alone trains, at the part's own limits, with one logical device and no CXL.mem. RETRAIN asks for a retrain, and training clears it. A flit error that replay mends changes nothing; an exhausted replay asks for a retrain and records the fault, whose TYPE the spec does not give (a free value, assumption 16). (04_host_ports.md, 16_fault_containment_logs.md) -/
def Obligations.LinkTrainingAndReplay : Prop :=
  ∀ (s : State) (p : Nat), s.blk.aon = true → p < 4 →
    (∀ sp wd cxl, s.now.mayTrain p = false → exec (.linkTrained p sp wd cxl) s = .next (s.after s.now)) ∧
    (∀ sp wd cxl, s.now.mayTrain p = true → s.now.pwr.stage ≠ .twilight →
      ∃ t, exec (.linkTrained p sp wd cxl) s = .next t ∧ (t.blk.port p).speed = 3 - Nat.min 2 (Nat.max (s.now.portCfg p).maxSpeed sp) ∧
        (t.blk.port p).width = 3 - Nat.min 2 (Nat.max (s.now.portCfg p).maxWidth wd) ∧ (t.blk.port p).flit256 = cxl ∧ (t.blk.port p).cxlMem = cxl ∧
        (t.blk.port p).retrain = false ∧ (t.blk.port p).present = (if cxl then 2 ^ (s.now.portCfg p).ldCount - 1 else 0) ∧
        t.blk.err (.hp p) = (if cxl then s.now.err (.hp p) else s.now.err (.hp p) ||| 1) ∧
        t.blk.dram = s.now.dram ∧ t.blk.halo = s.now.halo ∧ t.otp = s.otp) ∧
    (∀ sp wd, s.now.mayTrain p = true → s.now.pwr.stage = .twilight →
      p = 0 ∧ ∃ t, exec (.linkTrained p sp wd true) s = .next t ∧ (t.blk.port p).speed = 3 - Nat.min 2 sp ∧ (t.blk.port p).width = 3 - Nat.min 2 wd ∧
        (t.blk.port p).cxlMem = false ∧ (t.blk.port p).present = 1 ∧ (t.blk.port p).retrain = false) ∧
    (s.now.pwr.sysRst = false → exec (.retrain p) s = .next (s.after (modPort p (fun x => { x with retrain := true }) s.now))) ∧
    exec (.flitCrcError p false) s = .next (s.after s.now) ∧
    (∃ t, exec (.flitCrcError p true) s = .next t ∧ (t.blk.port p).retrain = true ∧ t.blk.free = s.now.free + 1 ∧ t.blk.dram = s.now.dram ∧ t.otp = s.otp)

/-- HDM decoders, dynamic capacity and the Global Persistent Flush. A decoder with an accepted interleave over one coherence model and the matching BI commits; one over mixed models, or with the wrong BI, is not committed and is violation 3. A Fabric Manager command that MGT_PERMIT does not let in sets MGT_ERR.PERMISSION and changes nothing else (its return code is the model's choice, assumption 154). An add for a region that does not exist is Invalid Input, and so is a length that is no whole number of 256 MiB blocks (assumption 128); an untagged one that a run of free blocks serves is offered. A response that names only offered extents, within the limit, takes them and declines the rest; one that names another is Invalid Input and violation 8. A release of an extent that is held removes it, of any other is Invalid Input and violation 8; an unanswered offer is withdrawn; a forced removal unmaps at once, and one without force only posts the record (assumption 129). GPF Phase 1 is acknowledged at once; Phase 2 waits for the HOT writes accepted before it. (04_host_ports.md, 18_management_interfaces.md) -/
def Obligations.DecodersAndDynamicCapacity : Prop :=
  ∀ (s : State) (ld : Nat), s.blk.aon = true →
    (∀ dec base size ways gran bi, dec < 8 → (s.now.port (ld / 16)).present.testBit (ld % 16) = true → interleaveOk ways gran = true →
      (s.now.models ld base size = (bi, !bi) ∨ s.now.models ld base size = (false, false) →
        exec (.hdmDecoderCommit ld dec base size ways gran bi) s = .next (s.after (modLd ld (fun l => { l with
          decoders := SMap.insert l.decoders dec ⟨base, size, bi, ways, gran, true, false⟩ }) s.now))) ∧
      (s.now.models ld base size = (true, true) ∨ s.now.models ld base size = (!bi, bi) →
        exec (.hdmDecoderCommit ld dec base size ways gran bi) s = .next (s.after (violation ld 3 base false false
          (modLd ld (fun l => { l with decoders := SMap.insert l.decoders dec ⟨base, size, bi, ways, gran, false, true⟩ }) s.now))))) ∧
    (∀ (t : Nat) (se : Option Nat), s.now.mayWrite .service 0 0 (s.now.ownerSession t se) = false →
      (∀ dc len tag, exec (.initiateDcAdd t se ld dc len tag) s = .next (s.after (send (.mbox ld 0x5604 0x13 []) (setErr .mgt 0 s.now)))) ∧
      (∀ base size forced, exec (.initiateDcRelease t se ld base size forced) s = .next (s.after (send (.mbox ld 0x5605 0x13 []) (setErr .mgt 0 s.now))))) ∧
    (∀ (t : Nat) (se : Option Nat), s.now.mayWrite .service 0 0 (s.now.ownerSession t se) = true →
      (∀ dc len tag, (s.now.dcRegions ld)[dc]? = none → exec (.initiateDcAdd t se ld dc len tag) s = .next (s.after (send (.mbox ld 0x5604 2 []) s.now))) ∧
      (∀ dc len tag r, (s.now.dcRegions ld)[dc]? = some r → len = 0 ∨ len % frame ≠ 0 →
        exec (.initiateDcAdd t se ld dc len tag) s = .next (s.after (send (.mbox ld 0x5604 2 []) s.now))) ∧
      (∀ dc len r, (s.now.dcRegions ld)[dc]? = some r → len ≠ 0 → len % frame = 0 → runsOf (s.now.freeBlocks r) (len / frame) ≠ [] →
        ∃ base, base ∈ runsOf (s.now.freeBlocks r) (len / frame) ∧ exec (.initiateDcAdd t se ld dc len 0) s = .next (s.after (send (.mbox ld 0x5604 0 [])
          (offerExtents ld [⟨r.id, base, len, 0⟩] { s.now with free := s.now.free + 1 })))) ∧
      (∀ base size forced, (s.now.ld ld).extents.find? (fun e => e.base = base && e.size = size) = none →
        exec (.initiateDcRelease t se ld base size forced) s = .next (s.after (send (.mbox ld 0x5605 2 []) s.now))) ∧
      (∀ base size e, (s.now.ld ld).extents.find? (fun e => e.base = base && e.size = size) = some e →
        exec (.initiateDcRelease t se ld base size false) s = .next (s.after (send (.mbox ld 0x5605 0 []) (postTo [ld] .dynCap (.dynCap false e) s.now))) ∧
        exec (.initiateDcRelease t se ld base size true) s = .next (s.after (send (.mbox ld 0x5605 0 []) (dropExtent ld e (postTo [ld] .dynCap (.dynCap false e) s.now)))))) ∧
    (s.now.mailboxRuns ld = true →
      (∀ acc new, acc.all (fun a => (s.now.ld ld).offers.any (fun e => e.base = a.1 && e.size = a.2)) = true →
        new = ((s.now.ld ld).offers.filter (fun e => acc.contains (e.base, e.size))).filter (fun e => !(s.now.ld ld).extents.contains e) →
        (s.now.ld ld).extents.length + new.length ≤ (s.now.portCfg (ld / 16)).maxExtents →
        ∃ b, exec (.addDcResponse ld acc) s = .next (s.after (send (.mbox ld 0x4802 0 []) b)) ∧ (b.ld ld).extents = (s.now.ld ld).extents ++ new ∧
          (b.ld ld).offers = [] ∧ b.dram = s.now.dram ∧ b.halo = s.now.halo) ∧
      (∀ a acc, (s.now.ld ld).offers.any (fun e => e.base = a.1 && e.size = a.2) = false →
        exec (.addDcResponse ld (a :: acc)) s = .next (s.after (send (.mbox ld 0x4802 2 []) (violation ld 8 a.1 false true s.now)))) ∧
      (∀ base size e, (s.now.ld ld).extents.find? (fun e => e.base = base && e.size = size) = some e →
        exec (.releaseDc ld base size) s = .next (s.after (send (.mbox ld 0x4803 0 []) (extentReleased e (modLd ld (fun l => { l with extents := l.extents.erase e }) s.now))))) ∧
      (∀ base size, (s.now.ld ld).extents.find? (fun e => e.base = base && e.size = size) = none →
        exec (.releaseDc ld base size) s = .next (s.after (send (.mbox ld 0x4803 2 []) (violation ld 8 base false true s.now))))) ∧
    (∀ base, ∃ t, exec (.dcOfferTimeout ld base) s = .next t ∧ (t.blk.ld ld).offers = (s.now.ld ld).offers.filter (fun e => e.base != base) ∧
      (t.blk.ld ld).extents = (s.now.ld ld).extents ∧ t.blk.dram = s.now.dram ∧ t.otp = s.otp) ∧
    (∀ p, (s.now.port p).cxlMem = true →
      exec (.gpfPhase1 p) s = .next (s.after (send (.gpf p 1) s.now)) ∧
      exec (.gpfPhase2 p) s = .next (s.after { s.now with host := { s.now.host with gpf := s.now.host.gpf ++ [⟨p, s.now.host.mirror.map (·.tag)⟩] } })) ∧
    (∀ p w, s.now.host.gpf.find? (fun w => w.port = p) = some w → s.now.gpfReady w = true →
      exec (.gpfPhase2Complete p) s = .next (s.after (send (.gpf p 2) { s.now with host := { s.now.host with gpf := s.now.host.gpf.erase w } }))) ∧
    (∀ p w, s.now.host.gpf.find? (fun w => w.port = p) = some w → s.now.gpfReady w = false → exec (.gpfPhase2Complete p) s = .next (s.after s.now))

/-- The mailbox queries answer from the state and change nothing. In service, with the mailbox of a present logical device free, each query answers success with the values or bytes its table names and leaves all other state but the counter of free values; Get Log of another log, a vendor command with an input of the wrong length, and an opcode outside the list are refused with their codes. Get Timestamp, one of CXL's commands without a row of its own, answers the time set plus the time since (the form of its body is presumed, assumption 131); GET_RESTORE_STATUS's rate is a free value, and a count above 1,000 is refused by choice (assumption 127). (04_host_ports.md, 07_persistence.md, 10_twin_binary_failover.md) -/
def Obligations.MailboxQueriesAnswer : Prop :=
  ∀ (s : State) (ld : Nat), s.blk.aon = true → s.now.mailboxRuns ld = true →
    exec (.identifyMemoryDevice ld) s = .next (s.after (send (.mbox ld 0x4000 0 [0, s.now.persistentSpan ld]) s.now)) ∧
    exec (.getHealthInfo ld) s = .next (s.after (send (.mbox ld 0x4200 0 [s.now.host.dirtyShutdowns]) s.now)) ∧
    (∀ k, exec (.getEventRecords ld k) s = .next (s.after (send (.events ld k (SMap.get EvLog.empty (s.now.ld ld).logs k.code).recs
      (SMap.get EvLog.empty (s.now.ld ld).logs k.code).overflow) s.now))) ∧
    exec (.getSupportedLogs ld) s = .next (s.after (send (.mbox ld 0x0400 0 [1, 4 * mboxOpcodes.length]) s.now)) ∧
    exec (.getLog ld 0) s = .next (s.after (send (.mbox ld 0x0401 0 (mboxOpcodes.flatMap (fun o => [o, Config.celEffect o % 65536]))) s.now)) ∧
    (∀ n, n ≠ 0 → exec (.getLog ld n) s = .next (s.after (send (.mbox ld 0x0401 2 []) s.now))) ∧
    exec (.getMultiHeadedInfo ld) s = .next (s.after (send (.mbox ld 0x5500 0 [4, ld / 16]) s.now)) ∧
    (∀ dpa len, exec (.getPoisonList ld dpa len) s = .next (s.after (send (.mbox ld 0x4300 0
      ((if 4096 < (s.now.poisonList ld dpa len).length then 1 else 0) :: (s.now.poisonList ld dpa len).take 4096)) s.now))) ∧
    (∀ op input, op ∉ mboxOpcodes → input.length ≤ 32768 → exec (.mailboxUnsupported ld op input) s = .next (s.after (send (.mbox ld op 1 []) s.now))) ∧
    exec (.mailboxUnsupported ld 0x0300 []) s = .next (s.after (send (.mbox ld 0x0300 0 [wrap64 ((s.now.ld ld).timestamp + 10 * (s.now.cyc - (s.now.ld ld).timestampAt))]) s.now)) ∧
    (∀ start mx rs, rs = s.now.cht.cur.regions.filter (fun r => s.now.maskHas r ld) → mx ≤ 1000 → start ≤ rs.length →
      exec (.getRegionMap ld start mx 4) s = .next (s.after (send (.mboxBytes ld 0xC000 0
        (natLe 4 ((rs.drop start).take mx).length ++ natLe 4 rs.length ++ ((rs.drop start).take mx).flatMap regionRow)) s.now))) ∧
    (∀ start mx, 1000 < mx → exec (.getRegionMap ld start mx 4) s = .next (s.after (send (.mboxBytes ld 0xC000 2 []) s.now))) ∧
    exec (.getPersistenceStatus ld 0) s = .next (s.after (send (.mboxBytes ld 0xC001 0 s.now.persistenceBytes) s.now)) ∧
    exec (.getRestoreStatus ld 0) s = .next (s.after (send (.mboxBytes ld 0xC002 0 s.now.restoreBytes) { s.now with free := s.now.free + 1 })) ∧
    exec (.getEpochHistory ld 0) s = .next (s.after (send (.mboxBytes ld 0xC003 0 s.now.historyBytes) s.now)) ∧
    exec (.getTopologyStatus ld 0) s = .next (s.after (send (.mboxBytes ld 0xC004 0 (s.now.topologyBytes ld)) s.now)) ∧
    exec (.getChartIdentity ld 0) s = .next (s.after (send (.mboxBytes ld 0xC005 0
      (natLe 4 s.now.cht.cur.serial ++ natLe 4 0 ++ natLe 8 s.now.cht.cur.tag ++ bitsBytes 64 s.now.cht.cur.digest)) s.now)) ∧
    (∀ n, n ≠ 0 →
      exec (.getPersistenceStatus ld n) s = .next (s.after (send (.mboxBytes ld 0xC001 2 []) s.now)) ∧ exec (.getRestoreStatus ld n) s = .next (s.after (send (.mboxBytes ld 0xC002 2 []) s.now)) ∧
      exec (.getEpochHistory ld n) s = .next (s.after (send (.mboxBytes ld 0xC003 2 []) s.now)) ∧ exec (.getTopologyStatus ld n) s = .next (s.after (send (.mboxBytes ld 0xC004 2 []) s.now)) ∧
      exec (.getChartIdentity ld n) s = .next (s.after (send (.mboxBytes ld 0xC005 2 []) s.now)))

/-- The mailbox commands that change state, and the mailbox's own violations. Set Timestamp stores the time; Clear Event Records drops the oldest records of the log and, once the log is empty, its overflow count; Inject and Clear Poison act on the line or half that the device reaches, the first only where the part is not sealed or MGT_PERMIT allows it; Scan Media starts over a range in view and its end records the poisoned lines. A write while the doorbell is set is violation 9 and does nothing else; an access that the window does not allow is violation 10, and a read of it answers all ones. A command that comes while the cores restart, or in a Dusk or an Eclipse, is kept with its doorbell set. A line that is not in memory yet makes its poison command wait; the clauses here are of lines that are. (04_host_ports.md) -/
def Obligations.MailboxChangesState : Prop :=
  ∀ (s : State) (phys : Phys) (ld : Nat), s.blk.aon = true →
    (s.now.mailboxRuns ld = true →
      (∀ t, exec (.setTimestamp ld t) s = .next (s.after (send (.mbox ld 0x0301 0 []) (modLd ld (fun l => { l with timestamp := t, timestampAt := s.now.cyc }) s.now)))) ∧
      (∀ k n, exec (.clearEventRecords ld k n) s = .next (s.after (send (.mbox ld 0x0101 0 []) (modLd ld (fun l => { l with
        logs := SMap.upd EvLog.empty l.logs k.code (fun g => { recs := g.recs.drop n, overflow := if g.recs.length ≤ n then 0 else g.overflow }) }) s.now)))) ∧
      (∀ dpa, (s.now.ident.lc ≠ .sealedState ∨ s.now.mgt.permit.injectPoison = true) → s.now.reach ld dpa = .ok → s.now.poisonWaits dpa = false →
        exec (.injectPoison phys ld dpa) s = .next (s.afterWork phys (send (.mbox ld 0x4301 0 []) (setPoison (dpa / 128 * 128) none s.now)))) ∧
      (∀ dpa, s.now.ident.lc = .sealedState → s.now.mgt.permit.injectPoison = false →
        exec (.injectPoison phys ld dpa) s = .next (s.afterWork phys (send (.mbox ld 0x4301 1 []) s.now))) ∧
      (∀ dpa d, s.now.reach ld dpa = .ok → s.now.poisonWaits dpa = false →
        exec (.clearPoison phys ld dpa d) s = .next (s.afterWork phys (send (.mbox ld 0x4302 0 []) (setPoison (dpa / 64 * 64) (some d) s.now)))) ∧
      (∀ dpa d, s.now.reach ld dpa ≠ .ok → exec (.clearPoison phys ld dpa d) s = .next (s.afterWork phys (send (.mbox ld 0x4302 2 []) s.now))) ∧
      (∀ dpa len, s.now.inView ld dpa len = true →
        exec (.scanMedia ld dpa len) s = .next (s.after (send (.mbox ld 0x4304 0 []) (modLd ld (fun l => { l with scan := some (dpa, len), scanFound := [] }) s.now)))) ∧
      (∀ dpa len, s.now.inView ld dpa len = false → exec (.scanMedia ld dpa len) s = .next (s.after (send (.mbox ld 0x4304 2 []) s.now)))) ∧
    (∀ dpa len, (s.now.ld ld).scan = some (dpa, len) →
      exec (.scanMediaDone ld) s = .next (s.after (modLd ld (fun l => { l with scan := none, scanFound := s.now.poisonList ld dpa len }) s.now))) ∧
    ((s.now.ld ld).scan = none → exec (.scanMediaDone ld) s = .next (s.after s.now)) ∧
    ((s.now.ld ld).doorbell = true → exec (.mailboxWriteBusy ld) s = .next (s.after (violation ld 9 0 false true s.now)) ∧
      ((s.now.port (ld / 16)).present.testBit (ld % 16) = true → (s.now.port (ld / 16)).inReset = false → (s.now.ld ld).resetting = false →
        exec (.identifyMemoryDevice ld) s = .next (s.after (violation ld 9 0 false true s.now)))) ∧
    ((s.now.ld ld).doorbell = false → exec (.mailboxWriteBusy ld) s = .next (s.after s.now)) ∧
    (∀ off, exec (.windowViolation ld off true) s = .next (s.after (send (.windowData ld ones64) (violation ld 10 off false true s.now))) ∧
      exec (.windowViolation ld off false) s = .next (s.after (violation ld 10 off false true s.now))) ∧
    ((s.now.port (ld / 16)).present.testBit (ld % 16) = true → (s.now.port (ld / 16)).inReset = false → (s.now.ld ld).resetting = false →
      (s.now.ld ld).doorbell = false → s.now.mboxWaits = true →
      exec (.identifyMemoryDevice ld) s = .next (s.after (modLd ld (fun l => { l with doorbell := true })
        { s.now with fw := { s.now.fw with deferred := s.now.fw.deferred ++ [.mbox ld .identify] } })))

/-- A firmware-class reset, its end and its failure. A firmware restart in which nothing forbids it puts the cores in reset, empties the staging buffer and clears its error, and drops nothing of memory or media; during a Dusk or in Twilight it is not performed. While it lasts a mailbox command waits with its doorbell set. When the cores run again the restart ends, and an activated bank becomes the running one with TRIAL clear. A first start timeout restarts once more and begins a new 10 s window; a second pauses the work in Solo. (01_architecture.md, 02_chart.md, 18_management_interfaces.md) -/
def Obligations.FirmwareRestarts : Prop :=
  ∀ (s : State) (phys : Phys), s.blk.aon = true →
    (s.now.inDusk = true ∨ s.now.pwr.stage = .twilight → exec .firmwareRestart s = .next (s.after s.now)) ∧
    (s.now.inDusk = false → s.now.pwr.stage ≠ .twilight →
      ∃ t, exec .firmwareRestart s = .next t ∧ t.blk.fw.restarting = true ∧ t.blk.fw.retried = false ∧ t.blk.flt.lastRestart = some s.now.cyc ∧ t.blk.cht.buf = [] ∧
        t.blk.cht.seqErr = false ∧ t.blk.cht.state = (if s.now.cht.slotRec.pending then .pendingDawn else .idle) ∧ t.blk.cht.cur = s.now.cht.cur ∧
        t.blk.dram = s.now.dram ∧ t.blk.halo = s.now.halo ∧ t.blk.nvf = s.now.nvf ∧ t.blk.pers = s.now.pers ∧ t.blk.errs = s.now.errs ∧ t.otp = s.otp) ∧
    (∀ ld, (s.now.port (ld / 16)).present.testBit (ld % 16) = true → (s.now.port (ld / 16)).inReset = false → (s.now.ld ld).resetting = false →
      (s.now.ld ld).doorbell = false → s.now.fw.restarting = true →
      exec (.getHealthInfo ld) s = .next (s.after (modLd ld (fun l => { l with doorbell := true })
        { s.now with fw := { s.now.fw with deferred := s.now.fw.deferred ++ [.mbox ld .health] } }))) ∧
    (s.now.fw.restarting = true → s.now.fw.paused = false → s.now.mgt.activating = false → s.now.nvf.rebuilding = true ∨ s.now.rebuildList = [] →
      exec (.coresRunning phys) s = .next (s.afterWork phys { s.now with fw := { s.now.fw with restarting := false, retried := false } })) ∧
    (s.now.fw.restarting = true → s.now.fw.paused = false → s.now.mgt.activating = true → s.now.nvf.rebuilding = true →
      ∃ b, exec (.coresRunning phys) s = .next (s.afterWork phys b) ∧ b.fw.restarting = false ∧ b.mgt.activating = false ∧ b.mgt.trial = false ∧
        b.mgt.running.map (·.bank) = some s.now.mgt.active) ∧
    (s.now.fw.restarting = false ∨ s.now.fw.paused = true →
      exec (.coresRunning phys) s = .next (s.afterWork phys s.now) ∧ exec .coresStartTimeout s = .next (s.after s.now)) ∧
    (s.now.fw.restarting = true → s.now.fw.paused = false → s.now.fw.retried = false → s.now.mgt.activating = false →
      exec .coresStartTimeout s = .next (s.after (logEvent 5 {}
        { s.now with fw := { s.now.fw with retried := true }, flt := { s.now.flt with lastRestart := some s.now.cyc } }))) ∧
    (s.now.fw.restarting = true → s.now.fw.paused = false → s.now.fw.retried = true → s.now.paired = false →
      exec .coresStartTimeout s = .next (s.after { s.now with fw := { s.now.fw with paused := true } }))

/-- The timers of the streaming table and the merge buffer, held halves, and the end of a fatal parity error. An idle region leaves one hemisphere's streaming table. When a merge window expires a full entry that bypasses Halo leaves the merge buffer and its line is in DRAM, and a resident line's window is closed. The oldest half held for an entry of a hemisphere that has one free is served again; once the write queue takes a victim, the oldest fill or closed entry that waited for it proceeds; neither does anything where none waits. After the flush of a fatal parity error writes go on, the error stays recorded, and its notes are in the Logbook. (05_halo_cache.md) -/
def Obligations.HaloTimersAndHeldHalves : Prop :=
  ∀ (s : State) (phys : Phys), s.blk.aon = true →
    (∀ h g, exec (.streamIdleExpire h g) s = .next (s.after { s.now with halo := { s.now.halo with
      det := SMap.put {} s.now.halo.det h { s.now.detector h with streams := (s.now.detector h).streams.filter (· != g) } } })) ∧
    (∀ l, phys.halo = [] → SMap.find? s.now.halo.mb l = none → s.now.haloFind l = none →
      exec (.mergeWindowExpire phys l) s = .next (s.afterWork phys s.now)) ∧
    (∀ l k x, phys.halo = [] → SMap.find? s.now.halo.mb l = none → s.now.haloFind l = some (k, x) → x.fixing.isSome = true →
      exec (.mergeWindowExpire phys l) s = .next (s.afterWork phys (haloPut k { x with fixing := none } s.now))) ∧
    (∀ l e, phys.halo = [] → SMap.find? s.now.halo.mb l = some e → e.full = true → (e.foreign || s.now.streaming l || (s.now.partCfg e.part).noAllocate) = true →
      s.now.haloFind l = none →
      ∃ b, exec (.mergeWindowExpire phys l) s = .next (s.afterWork phys b) ∧ SMap.find? b.halo.mb l = none ∧
        (s.now.frozenLine l = false → (b.dramLine l).plain = (e.merge (0, false)).1 ∧ (b.dramLine l).poison = e.poison)) ∧
    (s.now.host.held.find? s.now.entryFree = none → exec (.heldHalfAccept phys) s = .next (s.afterWork phys s.now)) ∧
    (∀ o, s.now.host.held.find? s.now.entryFree = some o →
      exec (.heldHalfAccept phys) s = .next (s.afterWork phys (retry phys (fun x => x.why == o.why && x.req.dpa / 128 == o.req.dpa / 128)
        { s.now with host := { s.now.host with held := s.now.host.held.map (fun x => if x == o then { x with req := { x.req with turn := true } } else x) } }))) ∧
    (s.now.halo.waitClose = [] → s.now.host.held.find? (fun x => x.why == .victim) = none →
      exec (.fillVictimAccepted phys) s = .next (s.afterWork phys s.now)) ∧
    (∀ o, s.now.halo.waitClose = [] → s.now.host.held.find? (fun x => x.why == .victim) = some o →
      exec (.fillVictimAccepted phys) s = .next (s.afterWork phys
        (retry { phys with queueFull := false } (fun x => x.why == .victim && x.req.dpa / 128 == o.req.dpa / 128) s.now))) ∧
    (∀ l ws, s.now.halo.waitClose = (l, 0) :: ws →
      exec (.fillVictimAccepted phys) s = .next (s.afterWork phys
        (closeEntry { phys with queueFull := false } l { s.now with halo := { s.now.halo with waitClose := ws } }))) ∧
    (s.now.halo.holding = false → exec (.fatalFlushDone phys) s = .next (s.afterWork phys s.now)) ∧
    (s.now.halo.holding = true → s.now.paired = false →
      ∃ b, exec (.fatalFlushDone phys) s = .next (s.afterWork phys (retryWhy phys .fatal b)) ∧ b.halo.fatal = true ∧ b.halo.holding = false ∧
        b.halo.fatalPins = [] ∧ b.halo.fatalLogs = [])

/-- SPDM negotiation, digests, certificates and challenges. Once the identity is loaded GET_VERSION answers 1.2 and 1.3 and starts the connection anew; GET_CAPABILITIES takes one of the two versions and refuses any other; NEGOTIATE_ALGORITHMS follows it, answers the fixed choices (their bits are presumed, assumption 63) and refuses an offer without them. After the negotiation, outside RETURN, digests and portions of the installed chains are answered, and CHALLENGE is signed over the transcript and a fresh nonce, a free value; before it, and in RETURN, each of the three is refused. Before the identity is loaded GET_VERSION is not answered. (13_identity_lifecycle.md) -/
def Obligations.SpdmNegotiationAndCertificates : Prop :=
  ∀ (s : State) (t : Nat), s.blk.aon = true →
    (s.now.ident.loaded = true →
      exec (.getVersion t) s = .next (s.after (send (.spdm t none 0x04 [0, 2, 0, 0x12, 0, 0x13]) (modConn t (fun _ => {}) s.now))) ∧
      (∀ v, v = 0x12 ∨ v = 0x13 → ∃ x, exec (.getCapabilities t v) s = .next (s.after (send (.spdm t none 0x61 x)
        (modConn t (fun _ => { version := v, capabilities := true, algorithms := false }) s.now)))) ∧
      (∀ v, v ≠ 0x12 → v ≠ 0x13 → exec (.getCapabilities t v) s = .next (s.after (send (.spdm t none 0x7F [0x41]) s.now))) ∧
      ((s.now.conn t).capabilities = true →
        exec (.negotiateAlgorithms t true) s = .next (s.after (send (.spdm t none 0x63 spdmChoices) (modConn t (fun c => { c with algorithms := true }) s.now))) ∧
        exec (.negotiateAlgorithms t false) s = .next (s.after (send (.spdm t none 0x7F [1]) s.now))) ∧
      (∀ ok, (s.now.conn t).capabilities = false → exec (.negotiateAlgorithms t ok) s = .next (s.after (send (.spdm t none 0x7F [4]) s.now))) ∧
      (s.now.ident.lc ≠ .returned → (s.now.conn t).algorithms = true →
        (∀ x, exec (.getDigests t x) s = .next (s.after (send (.spdm t x 0x01 ((if s.now.ident.aliasChain.isSome then 3 else 1) ::
          [0, 1].flatMap (fun i => match s.now.chainOf i with | some c => Config.sha3 c | none => []))) s.now))) ∧
        (∀ x slot c off len, s.now.chainOf slot = some c → off ≤ c.length →
          exec (.getCertificate t x slot off len) s = .next (s.after (send (.spdm t x 0x02 (natLe 2 ((c.drop off).take len).length ++
            natLe 2 (c.length - off - ((c.drop off).take len).length) ++ (c.drop off).take len)) s.now))) ∧
        (∀ x slot off len, s.now.chainOf slot = none → exec (.getCertificate t x slot off len) s = .next (s.after (send (.spdm t x 0x7F [1]) s.now))) ∧
        (∀ slot tr k c, s.now.slotKey slot = some k → s.now.chainOf slot = some c →
          exec (.challenge t slot tr) s = .next (s.after (send (.spdm t none 0x03 (Config.sha3 c ++ natLe 32 (Config.freeNat s.now.free) ++
            Config.ed448Sign k (tr ++ Config.sha3 c ++ natLe 32 (Config.freeNat s.now.free)))) { s.now with free := s.now.free + 1 })))) ∧
      (s.now.ident.lc ≠ .returned → (s.now.conn t).algorithms = false →
        (∀ x, exec (.getDigests t x) s = .next (s.after (send (.spdm t x 0x7F [4]) s.now))) ∧
        (∀ x slot off len, exec (.getCertificate t x slot off len) s = .next (s.after (send (.spdm t x 0x7F [4]) s.now))) ∧
        (∀ slot tr, exec (.challenge t slot tr) s = .next (s.after (send (.spdm t none 0x7F [4]) s.now)))) ∧
      (s.now.ident.lc = .returned →
        (∀ x, exec (.getDigests t x) s = .next (s.after (send (.spdm t x 0x7F [5]) s.now))) ∧
        (∀ x slot off len, exec (.getCertificate t x slot off len) s = .next (s.after (send (.spdm t x 0x7F [5]) s.now))) ∧
        (∀ slot tr, exec (.challenge t slot tr) s = .next (s.after (send (.spdm t none 0x7F [5]) s.now))))) ∧
    (s.now.ident.loaded = false → exec (.getVersion t) s = .next (s.after s.now))

/-- SPDM measurements and sessions, and CXL IDE key management in a session. After the negotiation one measurement block is answered by its index, with a signature over the transcript and a fresh nonce where a slot's key is asked for (the block form is presumed, assumption 63); a key exchange opens one of at most eight sessions; FINISH establishes it, as an owner session exactly where the requester's root is the fused owner key, and ends it where the requester does not verify. In an established session HEARTBEAT is answered, KEY_UPDATE counts an update, END_SESSION removes the session. Keys programmed for a stream of a port become active with that stream's K_SET_GO, which ends its insecure state, and stop with K_SET_STOP; QUERY answers the capabilities of Table 4-2 and changes nothing; without an established session none of them has an effect. (13_identity_lifecycle.md, 04_host_ports.md) -/
def Obligations.SpdmSessionsAndIde : Prop :=
  ∀ (s : State) (t : Nat), s.blk.aon = true → s.now.ident.loaded = true → s.now.ident.lc ≠ .returned →
    ((s.now.conn t).algorithms = true →
      (∀ x i tr, 1 ≤ i → i ≤ 7 →
        exec (.getMeasurements t x i none tr) s = .next (s.after (send (.spdm t x 0x60 (1 :: (natLe 3 (s.now.measureBlock i).length ++ s.now.measureBlock i))) s.now))) ∧
      (∀ x i tr slot k body, 1 ≤ i → i ≤ 7 → s.now.slotKey slot = some k → body = 1 :: (natLe 3 (s.now.measureBlock i).length ++ s.now.measureBlock i) →
        exec (.getMeasurements t x i (some slot) tr) s = .next (s.after (send (.spdm t x 0x60 (body ++ natLe 32 (Config.freeNat s.now.free) ++
          Config.ed448Sign k (tr ++ body ++ natLe 32 (Config.freeNat s.now.free)))) { s.now with free := s.now.free + 1 }))) ∧
      (∀ x i tr slot, 7 < i → i ≠ 0xFF → exec (.getMeasurements t x i slot tr) s = .next (s.after (send (.spdm t x 0x7F [1]) s.now))) ∧
      (∀ slot tr k, s.now.ident.sessions.length < 8 → s.now.slotKey slot = some k →
        ∃ x, exec (.keyExchange t slot tr) s = .next (s.after (send (.spdm t none 0x64 x) { s.now with free := s.now.free + 1, ident := { s.now.ident with
          sessions := s.now.ident.sessions ++ [⟨s.now.ident.nextSession, t, false, false, 0⟩], nextSession := s.now.ident.nextSession + 1 } }))) ∧
      (∀ slot tr, 8 ≤ s.now.ident.sessions.length → exec (.keyExchange t slot tr) s = .next (s.after (send (.spdm t none 0x7F [0x0A]) s.now))) ∧
      (∀ id x root, s.now.session t id = some x → x.established = false →
        exec (.finish t id root true) s = .next (s.after (send (.spdm t (some id) 0x65 []) { s.now with ident := { s.now.ident with
          sessions := s.now.ident.sessions.map (fun (y : Session) => if y.id = id then { y with established := true, owner := root.isSome && root == s.now.ident.ownerKeyId } else y) } })) ∧
        exec (.finish t id root false) s = .next (s.after (send (.spdm t (some id) 0x7F [6]) { s.now with ident := { s.now.ident with
          sessions := s.now.ident.sessions.filter (fun (y : Session) => y.id != id) } }))) ∧
      (∀ id x, s.now.session t id = some x → x.established = true →
        exec (.spdmHeartbeat t id) s = .next (s.after (send (.spdm t (some id) 0x68 []) s.now)) ∧
        exec (.keyUpdate t id) s = .next (s.after (send (.spdm t (some id) 0x69 []) { s.now with ident := { s.now.ident with
          sessions := s.now.ident.sessions.map (fun (y : Session) => if y.id = id then { y with updates := y.updates + 1 } else y) } })) ∧
        exec (.endSession t id) s = .next (s.after (send (.spdm t (some id) 0x6C []) { s.now with ident := { s.now.ident with
          sessions := s.now.ident.sessions.filter (fun (y : Session) => y.id != id) } }))) ∧
      (∀ id, s.now.session t id = none → exec (.spdmHeartbeat t id) s = .next (s.after (send (.spdm t none 0x7F [2]) s.now)))) ∧
    (∀ id x p, s.now.session t id = some x → x.established = true → p < 4 →
      exec (.ideKeyProg t id p .mem) s = .next (s.after (modPort p (fun y => { y with ideKeys := true }) s.now)) ∧
      exec (.ideKeyProg t id p .io) s = .next (s.after (modPort p (fun y => { y with ideIoKeys := true }) s.now)) ∧
      ((s.now.port p).ideKeys = true →
        exec (.ideKSetGo t id p .mem) s = .next (s.after (modPort p (fun y => { y with ideActive := true, ideInsecure := false, lockMem := false, ideKeys := false }) s.now))) ∧
      ((s.now.port p).ideIoKeys = true →
        exec (.ideKSetGo t id p .io) s = .next (s.after (modPort p (fun y => { y with ideIo := true, ideIoInsecure := false, lockIo := false, ideIoKeys := false }) s.now))) ∧
      exec (.ideKSetStop t id p .mem) s = .next (s.after (modPort p (fun y => { y with ideActive := false }) s.now)) ∧
      exec (.ideKSetStop t id p .io) s = .next (s.after (modPort p (fun y => { y with ideIo := false }) s.now)) ∧
      exec (.ideQuery t id p) s = .next (s.after (send (.ideCaps p true true false false) s.now))) ∧
    (∀ id p st, s.now.session t id = none → exec (.ideKeyProg t id p st) s = .next (s.after s.now) ∧ exec (.ideKSetGo t id p st) s = .next (s.after s.now) ∧
      exec (.ideKSetStop t id p st) s = .next (s.after s.now) ∧ exec (.ideQuery t id p) s = .next (s.after s.now))

/-- The life-cycle commands of an owner. In PROVISION, INSTALL_OWNER with a valid key in LCS_DATA draws a seed, blows it and the key in both copies and ends DONE; a key that is not valid is refused with KEY and blows nothing. ALIAS_BIND signs the alias key, owner and unit, and fails with STATE where one is missing. A piece of an alias chain is kept; a piece index past 15 is refused. SEAL with an owner and debug shut carries LC_STATE to SEALED. COMMIT_SVN raises FW_SVN to the running firmware's, and refuses to lower it. A command in a state that its row does not list ends FAILED with STATE and blows nothing. (13_identity_lifecycle.md) -/
def Obligations.OwnerInstallationAndSealing : Prop :=
  ∀ s : State, s.blk.aon = true → s.now.pwr.sysRst = false → s.now.ident.loaded = true → s.now.ident.state ≠ .busy →
    (s.now.ident.lc = .provision → s.now.ident.fuse.seed0 = 0 → s.now.ident.fuse.seed1 = 0 → s.now.ident.fuse.key0 = 0 → s.now.ident.fuse.key1 = 0 →
      exec (.installOwner .whole) s = .next (s.after (
        if Config.ed448Valid (s.now.lcsBytes 0 57) then lcsEnd 0 (loadIdentity (burnBits
          (fuseBits (.seed 0) 256 (Config.freeNat s.now.free % 2 ^ 256) ++ fuseBits (.seed 1) 256 (Config.freeNat s.now.free % 2 ^ 256) ++
            fuseBits (.key 0) 456 (leNat (s.now.lcsBytes 0 57)) ++ fuseBits (.key 1) 456 (leNat (s.now.lcsBytes 0 57))) .whole
          { s.now with ident := { s.now.ident with lastOp := 1 }, free := s.now.free + 1 }))
        else { s.now with ident := { s.now.ident with lastOp := 1, state := .failed, result := 2 } })).blow) ∧
    (s.now.ident.lc = .provision ∨ s.now.ident.lc = .sealedState →
      exec .aliasBind s = .next (s.after (match s.now.aliasPub, s.now.ident.ownerKeyId, s.now.ident.fuse.identityKey with
        | some a, some o, some k => lcsEnd 0 (putLcs 0 ((a ++ o ++ s.now.ident.unitId) ++ Config.ed448Sign k (a ++ o ++ s.now.ident.unitId))
            { s.now with ident := { s.now.ident with lastOp := 2 } })
        | _, _, _ => { s.now with ident := { s.now.ident with lastOp := 2, state := .failed, result := 1 } }))) ∧
    (∀ arg, s.now.ident.lc = .provision ∨ s.now.ident.lc = .sealedState → s.now.ident.ownerKeyId.isSome = true →
      (16 ≤ arg % 2 ^ 15 → exec (.installAliasChain arg) s = .next (s.after { s.now with ident := { s.now.ident with lastOp := 3, state := .failed, result := 2 } })) ∧
      (arg < 16 → exec (.installAliasChain arg) s = .next (s.after { s.now with ident := { s.now.ident with lastOp := 3, state := .done, result := 0, aliasPieces := SMap.insert s.now.ident.aliasPieces arg (s.now.lcsBytes 0 512) } }))) ∧
    (s.now.ident.lc = .provision → s.now.ident.ownerKeyId.isSome = true → s.now.ident.debugOpen = false →
      ∃ b, exec (.sealPart .whole) s = .next (s.after b).blow ∧ b.ident.result = 0 ∧ b.ident.lastOp = 4 ∧ 2 ≤ b.ident.fuse.lcBits ∧ b.mgt.update = s.now.mgt.update) ∧
    (∀ r x, s.now.ident.lc = .provision ∨ s.now.ident.lc = .sealedState → s.now.mgt.running = some x → x.svn < s.now.ident.fuse.svn →
      exec (.commitSvn r) s = .next (s.after { s.now with ident := { s.now.ident with lastOp := 9, state := .failed, result := 8 } }).blow) ∧
    (∀ x, s.now.ident.lc = .provision ∨ s.now.ident.lc = .sealedState → s.now.mgt.running = some x → s.now.ident.fuse.svn ≤ x.svn →
      exec (.commitSvn .whole) s = .next (s.after (lcsEnd 0 (loadIdentity (burnBits
        (fuseBits .fwSvn 64 (2 ^ x.svn - 1 - (s.now.ident.fuse.fwSvn.toNat &&& (2 ^ x.svn - 1)))) .whole { s.now with ident := { s.now.ident with lastOp := 9 } })))).blow) ∧
    (s.now.ident.lc = .foundry → ∀ r,
      exec (.installOwner r) s = .next (s.after { s.now with ident := { s.now.ident with lastOp := 1, state := .failed, result := 1 } }).blow ∧
      exec .aliasBind s = .next (s.after { s.now with ident := { s.now.ident with lastOp := 2, state := .failed, result := 1 } }) ∧
      exec (.sealPart r) s = .next (s.after { s.now with ident := { s.now.ident with lastOp := 4, state := .failed, result := 1 } }).blow ∧
      exec (.commitSvn r) s = .next (s.after { s.now with ident := { s.now.ident with lastOp := 9, state := .failed, result := 1 } }).blow)

/-- Debug, return, provisioning and the test access port. DEBUG_CHALLENGE and RETURN_CHALLENGE put a fresh nonce in LCS_DATA. DEBUG_UNLOCK consumes it and opens debug only with a valid Treldex signature; with a bad one, or without a nonce, it sets DEBUG_FAIL. RETURN is refused while a port is not disabled, or without a nonce or its Treldex signature, blowing nothing; with it in PROVISION it blows RETURN_BEGUN, the secret fields and LC_STATE. TAP_PROVISION carries a part with an identity from FOUNDRY to PROVISION and does nothing to any other. A JTAG instruction that the life-cycle state does not allow executes as BYPASS. (13_identity_lifecycle.md) -/
def Obligations.DebugReturnAndTap : Prop :=
  ∀ s : State, s.blk.aon = true → s.now.pwr.sysRst = false → s.now.ident.loaded = true → s.now.ident.state ≠ .busy →
    (s.now.ident.lc = .provision ∨ s.now.ident.lc = .returned →
      exec .debugChallenge s = .next (s.after (lcsEnd 0 (putLcs 0 (natLe 32 (Config.freeNat s.now.free)) { s.now with free := s.now.free + 1, ident := { s.now.ident with lastOp := 5, debugNonce := some (natLe 32 (Config.freeNat s.now.free)) } }))) ∧
      (s.now.ident.debugNonce = none →
        exec .debugUnlock s = .next (s.after (lcsEnd 4 (setErr .lcs 2 { s.now with ident := { s.now.ident with lastOp := 6 } })))) ∧
      (∀ n, s.now.ident.debugNonce = some n →
        exec .debugUnlock s = .next (s.after (
          if s.now.treldexSigned ((s.now.lcsBytes 0 1).headD 0).toNat (ascii "TXA-9480 DEBUG v1" ++ s.now.ident.unitId ++ n) (s.now.lcsBytes 8 114)
          then { s.now with ident := { s.now.ident with lastOp := 6, debugNonce := none, debugOpen := true, state := .done, result := 0 } }
          else lcsEnd 3 (setErr .lcs 2 { s.now with ident := { s.now.ident with lastOp := 6, debugNonce := none } }))))) ∧
    (s.now.ident.lc = .provision ∨ s.now.ident.lc = .sealedState →
      exec .returnChallenge s = .next (s.after (lcsEnd 0 (putLcs 0 (natLe 32 (Config.freeNat s.now.free)) { s.now with free := s.now.free + 1, ident := { s.now.ident with lastOp := 7, returnNonce := some (natLe 32 (Config.freeNat s.now.free)) } }))) ∧
      (∀ arg r, (s.now.port 0).disable = false →
        exec (.returnPart arg r) s = .next (s.after (lcsEnd 6 (setErr .lcs 3 { s.now with ident := { s.now.ident with lastOp := 8, returnNonce := none } }))).blow) ∧
      (∀ arg r, (List.range 4).all (fun p => (s.now.port p).disable) = true → s.now.halvesOf.any (fun h => (s.now.half h).role == .holder) = false → s.now.ident.returnNonce = none →
        exec (.returnPart arg r) s = .next (s.after (lcsEnd 4 (setErr .lcs 3 { s.now with ident := { s.now.ident with lastOp := 8 } }))).blow)) ∧
    (∀ arg n, s.now.ident.lc = .provision → (List.range 4).all (fun p => (s.now.port p).disable) = true → s.now.halvesOf.any (fun h => (s.now.half h).role == .holder) = false → s.now.ident.returnNonce = some n →
      ∃ b, exec (.returnPart arg .whole) s = .next (s.after b).blow ∧ b.ident.returnNonce = none ∧
        (if s.now.treldexSigned (arg % 4) (ascii "TXA-9480 RETURN v1" ++ s.now.ident.unitId ++ n) (s.now.lcsBytes 0 114)
         then b.ident.result = 0 ∧ b.cph.slots = [] ∧ b.ident.fuse.returning = true
         else b.ident.result = 3 ∧ b.cph.slots = s.now.cph.slots ∧ b.ident.fuse = s.now.ident.fuse)) ∧
    (∀ chain, s.now.ident.lc = .foundry → s.now.ident.fuse.identityKey.isSome = true → chain ≠ [] →
      ∃ b, exec (.tapProvision chain) s = .next (s.after b).blow ∧ b.ident.identityChain = chain ∧ 1 ≤ b.ident.fuse.lcBits) ∧
    (∀ chain, s.now.ident.lc ≠ .foundry → exec (.tapProvision chain) s = .next (s.after s.now).blow) ∧
    (∀ i, exec (.tapInstruction i) s = .next (s.after (send (.tap i.num (!s.now.tapAllows i || i == .bypass))
      { s.now with ident := { s.now.ident with tap := i.num, tapBypass := !s.now.tapAllows i || i == .bypass } })))

/-- The staging commands move a Chart through the states of Table 2-6. Where the staging registers are taken, OPEN empties the buffer and receives, STAGE_DATA appends 8 bytes little-endian up to 1 MiB, VERIFY begins and its end makes the staged Chart VERIFIED or REJECTED with the reason recorded, COMMIT_DAWN programs the slot that is not active and its end outside Twilight sets the pending mark, DISCARD empties the buffer and clears the mark. COMMIT_LIVE of a Chart that may switch live programs the slot with its switch epoch in Solo and asks the twin for its confirmation in a pair; of any other Chart it rejects it. STAGE_DATA in a state that Table 2-6 does not list, OPEN in APPLYING_LIVE, and the others in IDLE set SEQ_ERR and do nothing else; while firmware does not take them, staging commands are counted as violations (assumption 46). (02_chart.md) -/
def Obligations.StagingAChart : Prop :=
  ∀ s : State, s.blk.aon = true →
    (s.now.stagingOn = false →
      exec .openStaging s = .next (s.after (countEvent 0x12 0 s.now)) ∧ (∀ w, exec (.stageData w) s = .next (s.after (countEvent 0x12 0 s.now))) ∧
      exec .verify s = .next (s.after (countEvent 0x12 0 s.now)) ∧ exec .commitDawn s = .next (s.after (countEvent 0x12 0 s.now)) ∧
      exec .commitLive s = .next (s.after (countEvent 0x12 0 s.now)) ∧ exec .discard s = .next (s.after (countEvent 0x12 0 s.now))) ∧
    (s.now.stagingOn = true →
      (s.now.cht.state = .idle ∨ s.now.cht.state = .verified ∨ s.now.cht.state = .rejected →
        exec .openStaging s = .next (s.after { s.now with cht := { s.now.cht with state := .receiving, buf := [], staged := none } })) ∧
      (∀ w, s.now.cht.state = .receiving → s.now.cht.buf.length + 8 ≤ 1048576 →
        exec (.stageData w) s = .next (s.after { s.now with cht := { s.now.cht with buf := s.now.cht.buf ++ bitsBytes 8 w } })) ∧
      (∀ w, s.now.cht.state ≠ .receiving ∨ 1048576 < s.now.cht.buf.length + 8 →
        exec (.stageData w) s = .next (s.after { s.now with cht := { s.now.cht with seqErr := true } })) ∧
      (s.now.cht.state = .receiving → exec .verify s = .next (s.after { s.now with cht := { s.now.cht with state := .verifying } })) ∧
      (s.now.cht.state = .verified → exec .commitDawn s = .next (s.after (addJob (.chartSlot s.now.stagedSlot)
        { s.now with cht := { s.now.cht with state := .writing, commitNext := none } }))) ∧
      (s.now.cht.state = .receiving ∨ s.now.cht.state = .verified ∨ s.now.cht.state = .rejected ∨ s.now.cht.state = .pendingDawn →
        exec .discard s = .next (s.after { s.now with cht := { s.now.cht with
          state := .idle, buf := [], slotRec := if s.now.cht.slotRec.pending then { s.now.cht.slotRec with seq := s.now.cht.slotRec.seq + 1, pending := false } else s.now.cht.slotRec } })) ∧
      (s.now.cht.state = .verified → exec .commitLive s = .next (s.after (s.now.liveVerdict.fold
        (fun c => if s.now.paired then send (.crn 0 (.chartConfirm c.digest)) { s.now with cht := { s.now.cht with state := .writing, commitWait := some ({ epoch := 0, next := c }, s.now.epoch + 2) } }
          else addJob (.chartSlot s.now.stagedSlot) { s.now with cht := { s.now.cht with state := .writing, commitWait := none, commitNext := some { epoch := s.now.soloEpoch, next := c } } })
        (fun r n o => stageTo .rejected (noteReject r n o s.now))))) ∧
      (s.now.cht.state = .applyingLive → exec .openStaging s = .next (s.after { s.now with cht := { s.now.cht with seqErr := true } })) ∧
      (s.now.cht.state = .idle → exec .verify s = .next (s.after { s.now with cht := { s.now.cht with seqErr := true } }) ∧
        exec .commitDawn s = .next (s.after { s.now with cht := { s.now.cht with seqErr := true } }) ∧
        exec .commitLive s = .next (s.after { s.now with cht := { s.now.cht with seqErr := true } }) ∧
        exec .discard s = .next (s.after { s.now with cht := { s.now.cht with seqErr := true } }))) ∧
    (s.now.cht.state ≠ .verifying → exec .verifyDone s = .next (s.after s.now)) ∧
    (s.now.cht.state = .verifying → exec .verifyDone s = .next (s.after (s.now.verifyBuf.fold
      (fun c => { s.now with cht := { s.now.cht with state := .verified, staged := some c.digest } }) (fun r n o => stageTo .rejected (noteReject r n o s.now))))) ∧
    (∀ n, s.now.cht.state = .writing → s.now.cht.commitNext = none → s.now.cht.commitWait = none → s.now.efl.cur = some (.chartSlot n) →
      s.now.pwr.stage ≠ .twilight →
      ∃ t, exec .commitDawnDone s = .next t ∧ t.blk.cht.state = .pendingDawn ∧ t.blk.cht.slotRec.pending = true ∧ t.blk.cht.slotRec.seq = s.now.cht.slotRec.seq + 1 ∧
        SMap.get [] t.blk.cht.slots n = s.now.cht.buf ∧ t.blk.cht.cur = s.now.cht.cur ∧ t.blk.dram = s.now.dram ∧ t.otp = s.otp)

/-- A live Chart switches at its epoch, and its background changes later. LIVE_SWITCH does nothing before the epoch boundary E, during a restart or a Dusk, outside service, or where nothing is applied; at E it switches every section that needs no background work. LIVE_BACKGROUND_SWITCH does nothing before that switch, and then switches what is complete. A reshape that a Dawn resumed switches there too. A Near reshape holds writes once at most 64 MiB of the affected sets is dirty, and switches its NEAR_LAYOUT once none is and no write-back of a page is in flight; with more dirty data it waits. (02_chart.md) -/
def Obligations.LiveSwitches : Prop :=
  ∀ (s : State) (phys : Phys), s.blk.aon = true →
    (s.now.cht.apply = none → exec (.liveSwitch phys) s = .next (s.afterWork phys s.now) ∧
      (s.now.nvf.reshapeDone = false → exec (.liveBackgroundSwitch phys) s = .next (s.afterWork phys s.now)) ∧
      (s.now.nvf.reshapeDone = true → s.now.fwWaits = false → s.now.inDusk = false →
        exec (.liveBackgroundSwitch phys) s = .next (s.afterWork phys { s.now with nvf := { s.now.nvf with layouts := [s.now.layout], reshaping := false, reshapeDone := false, reshapePaused := false } })) ∧
      exec .nearReshapeHold s = .next (s.after s.now) ∧ exec (.nearReshapeSwitch phys) s = .next (s.afterWork phys s.now)) ∧
    (∀ a, s.now.cht.apply = some a →
      (s.now.epoch < a.epoch ∨ a.switched = true ∨ s.now.inDusk = true ∨ s.now.fw.restarting = true →
        exec (.liveSwitch phys) s = .next (s.afterWork phys s.now)) ∧
      (a.switched = false → a.epoch ≤ s.now.epoch → s.now.fwWaits = false → s.now.inDusk = false → s.now.inService = true →
        exec (.liveSwitch phys) s = .next (s.afterWork phys (switchNow a s.now))) ∧
      (a.switched = false ∨ s.now.inDusk = true → exec (.liveBackgroundSwitch phys) s = .next (s.afterWork phys s.now)) ∧
      (a.switched = true → s.now.fwWaits = false → s.now.inDusk = false → a.farLeft = false →
        exec (.liveBackgroundSwitch phys) s = .next (s.afterWork phys (finishApply (switchMirror a s.now)))) ∧
      (a.switched = true → s.now.fwWaits = false → s.now.inDusk = false → a.farLeft = true → a.farDone = true →
        exec (.liveBackgroundSwitch phys) s = .next (s.afterWork phys (finishApply (switchMirror a (switchFar a s.now))))) ∧
      (a.switched = true → a.nearLeft = true → a.nearHold = false → s.now.inDusk = false → s.now.reshapeDirty.length * 4096 ≤ 64 * 2 ^ 20 →
        exec .nearReshapeHold s = .next (s.after { s.now with cht := { s.now.cht with apply := some { a with nearHold := true } } })) ∧
      (64 * 2 ^ 20 < s.now.reshapeDirty.length * 4096 → exec .nearReshapeHold s = .next (s.after s.now)) ∧
      (a.nearHold = false ∨ s.now.reshapeDirty ≠ [] → exec (.nearReshapeSwitch phys) s = .next (s.afterWork phys s.now)) ∧
      (a.nearHold = true → s.now.fwWaits = false → s.now.inDusk = false → s.now.reshapeDirty = [] → s.now.pers.inFlight = [] →
        ∃ b, exec (.nearReshapeSwitch phys) s = .next (s.afterWork phys (finishApply (retryWhy phys .reshape b))) ∧ b.cht.cur.near = a.next.near ∧ b.pers.dirty = s.now.pers.dirty))

/-- How the Meridian count advances. An accepted edge of the pins advances a LOCKED count by 1 modulo 2^64; an edge less than half a tick after the last is TICK_GLITCH and counts nothing; under PTP the pins count nothing. A dead-reckoning tick advances the count in ACQUIRING and DEAD_RECKONING, and under PTP it is the generator's tick of a LOCKED count that owes nothing. Losing the ticks of the pins is the fault TICK_LOSS, makes any state dead reckoning, and the count stays. A slew's adjusting tick, which the shadow count has counted already, advances by 2, by 1 or not at all, and the state is LOCKED where the two counts meet. The wait of D6 ends with dead reckoning. The count holds until D0 has read its body. (03_meridian.md) -/
def Obligations.MeridianCounts : Prop :=
  ∀ s : State, s.blk.aon = true →
    (∀ gap, s.now.mer.body.source = 0 → s.now.mer.holdAtFloor = false → s.now.mer.body.tickNs ≤ 2 * gap → s.now.mer.state = .locked →
      exec (.meridianTick gap) s = .next (s.after (flagTick { s.now with mer := { s.now.mer with edges := s.now.mer.edges + 1, source := true, count := (s.now.mer.count + 1) % 2 ^ 64 } }))) ∧
    (∀ gap, s.now.mer.body.source = 0 → s.now.mer.holdAtFloor = false → 2 * gap < s.now.mer.body.tickNs → exec (.meridianTick gap) s = .next (s.after (setErr .mer 1 s.now))) ∧
    (∀ gap, s.now.mer.body.source ≠ 0 ∨ s.now.mer.holdAtFloor = true → exec (.meridianTick gap) s = .next (s.after s.now)) ∧
    (s.now.mer.holdAtFloor = false → s.now.mer.state = .acquiring ∨ s.now.mer.state = .deadReckoning →
      exec .deadReckoningTick s = .next (s.after (flagTick { s.now with mer := { s.now.mer with drTicks := s.now.mer.drTicks + 1, count := (s.now.mer.count + 1) % 2 ^ 64 } }))) ∧
    (s.now.mer.holdAtFloor = true → exec .deadReckoningTick s = .next (s.after s.now)) ∧
    (s.now.mer.body.source = 1 → s.now.mer.holdAtFloor = false → s.now.mer.state = .locked → s.now.mer.ptpOwed = 0 →
      exec .deadReckoningTick s = .next (s.after (flagTick { s.now with mer := { s.now.mer with count := (s.now.mer.count + 1) % 2 ^ 64 } }))) ∧
    (s.now.mer.body.source = 0 → s.now.mer.source = true →
      exec .tickLoss s = .next (s.after (merFault 0 (loseSource s.now))) ∧ (loseSource s.now).mer.state = .deadReckoning ∧
        (loseSource s.now).mer.count = s.now.mer.count ∧ (loseSource s.now).mer.source = false ∧
        (s.now.mer.state = .locked ∨ s.now.mer.state = .slewing → (loseSource s.now).mer.drTicks = 0)) ∧
    (s.now.mer.body.source ≠ 0 ∨ s.now.mer.source = false → exec .tickLoss s = .next (s.after s.now)) ∧
    (s.now.mer.state = .slewing → s.now.mer.adjust = true →
      ∃ t, exec .slewAdjust s = .next t ∧ t.blk.mer.adjust = false ∧ t.blk.mer.shadow = s.now.mer.shadow ∧
        t.blk.mer.count = (if s.now.mer.count + 1 < s.now.mer.shadow then (s.now.mer.count + 2) % 2 ^ 64 else if s.now.mer.shadow < s.now.mer.count + 1 then s.now.mer.count % 2 ^ 64 else (s.now.mer.count + 1) % 2 ^ 64) ∧
        t.blk.mer.state = (if t.blk.mer.shadow = t.blk.mer.count then .locked else .slewing)) ∧
    (s.now.mer.state ≠ .slewing → exec .slewAdjust s = .next (s.after s.now)) ∧
    exec .meridianWaitTimeout s = .next (s.after { s.now with mer := { s.now.mer with
      waitDone := true, state := if s.now.mer.state = .acquiring then .deadReckoning else s.now.mer.state } }) ∧
    (s.now.mer.body.source = 0 → exec .frameMissing s = .next (s.after (setErr .mer 4 s.now))) ∧
    (s.now.mer.body.source ≠ 0 → exec .frameMissing s = .next (s.after s.now))

/-- Frames, PTP, epoch boundaries, seals and the hourly record. A frame that Table 3-1 does not allow is FRAME_ERR and nothing else; one that agrees with a LOCKED count is recorded and the count stays; a first disagreement is recorded as MISMATCH; the second of two consecutive frames before D7 sets the count, not below the floor, and locks it. PTP messages count only on PTP_PORT when it is up, with the transport and domain of the body: an Announce notes its transmitter's rank, a Sync of the selected transmitter is measured, a two-step one waits for its Follow_Up, a delay request is sent by the mechanism of PTP_FLAGS, a response to the outstanding one gives the path delay; losing PTP is the fault PTP_LOSS and dead reckoning. An epoch boundary begins the new epoch and closes a run after a clean one; a seal seals the next epoch in order, never more (with which epoch sealing begins is the model's choice, assumption 123); the hour's record writes the count floor and the credit. (03_meridian.md) -/
def Obligations.MeridianFramesAndPtp : Prop :=
  ∀ s : State, s.blk.aon = true →
    (s.now.mer.body.source = 0 → s.now.mer.holdAtFloor = false →
      (∀ cells n, decodeFrame cells = none → exec (.merFrame cells n) s = .next (s.after (setErr .mer 2 s.now))) ∧
      (∀ cells c f n, decodeFrame cells = some (c, f) → s.now.mer.state = .locked → c = s.now.mer.count - n →
        exec (.merFrame cells n) s = .next (s.after { s.now with mer := { s.now.mer with
          frameLast := c, frameFlags := f, prevFrame := some (c, s.now.mer.edges - n), offsetNs := 0, disagreed := none } })) ∧
      (∀ cells c f n, decodeFrame cells = some (c, f) → s.now.mer.state = .locked → c ≠ s.now.mer.count - n → s.now.mer.disagreed = none →
        ∃ t, exec (.merFrame cells n) s = .next t ∧ t.blk.mer.count = s.now.mer.count ∧ t.blk.mer.state = .locked ∧
          t.blk.mer.disagreed = some (c, s.now.mer.count - n) ∧ t.blk.err .mer = s.now.err .mer ||| 8) ∧
      (∀ cells c f n a, decodeFrame cells = some (c, f) → s.now.mer.state = .acquiring → s.now.mer.prevFrame = some (a, s.now.mer.edges - n - 2 ^ 20) →
        2 ^ 20 ≤ s.now.mer.edges - n → c = a + 2 ^ 20 → s.now.mayStep = true → s.now.mer.floor ≤ c →
        ∃ t, exec (.merFrame cells n) s = .next t ∧ t.blk.mer.count = (c + n) % 2 ^ 64 ∧ t.blk.mer.state = .locked)) ∧
    (∀ h : PtpHdr, s.now.ptpTakes h = true →
      (∀ r, exec (.ptpAnnounce h r) s = .next (s.after { s.now with mer := { s.now.mer with
        ptpMasters := s.now.mer.ptpMasters.filter (fun x => x.1 != h.master) ++ [(h.master, r)] } })) ∧
      (∀ q d, s.now.mer.ptpDelayReq = some q →
        exec (.ptpDelayResp h (s.now.mer.body.ptpFlags.testBit 1) q d) s = .next (s.after { s.now with mer := { s.now.mer with ptpDelayReq := none, ptpDelay := d } })) ∧
      (∀ p q d, s.now.mer.ptpDelayReq ≠ some q → exec (.ptpDelayResp h p q d) s = .next (s.after s.now)) ∧
      (s.now.mer.ptpMaster = some h.master →
        (∀ t, exec (.ptpSync h t true) s = .next (s.after { s.now with mer := { s.now.mer with ptpSyncAt := some s.now.mer.count } })) ∧
        (∀ t, exec (.ptpSync h t false) s = .next (s.after (ptpMeasure (t + s.now.mer.ptpDelay) s.now))) ∧
        (∀ t c, s.now.mer.ptpSyncAt = some c →
          exec (.ptpFollowUp h t) s = .next (s.after (ptpMeasure (t + s.now.mer.ptpDelay + ((s.now.mer.count - c) * s.now.mer.body.tickNs : Nat))
            { s.now with mer := { s.now.mer with ptpSyncAt := none } }))))) ∧
    (∀ h : PtpHdr, s.now.ptpTakes h = false →
      (∀ r, exec (.ptpAnnounce h r) s = .next (s.after s.now)) ∧ (∀ t two, exec (.ptpSync h t two) s = .next (s.after s.now)) ∧
      (∀ t, exec (.ptpFollowUp h t) s = .next (s.after s.now)) ∧ (∀ p q d, exec (.ptpDelayResp h p q d) s = .next (s.after s.now))) ∧
    (s.now.mer.body.source = 1 →
      (s.now.mer.ptpMaster.isSome = true → (SMap.get EthPort.down s.now.orb.ports s.now.mer.body.ptpPort).up = true →
        exec .ptpDelayReqSend s = .next (s.after (send (.ptpDelayReq s.now.mer.body.ptpPort (s.now.mer.body.ptpFlags.testBit 0) (s.now.mer.body.ptpFlags.testBit 1)
          (Config.freeNat s.now.free % 65536)) { s.now with free := s.now.free + 1, mer := { s.now.mer with ptpDelayReq := some (Config.freeNat s.now.free % 65536) } }))) ∧
      (∃ b, exec .ptpLoss s = .next (s.after (merFault 6 b)) ∧ b.mer.state = .deadReckoning ∧ b.mer.count = s.now.mer.count ∧ b.mer.ptpSyncAt = none ∧
        b.dram = s.now.dram ∧ b.cht = s.now.cht)) ∧
    (∀ phys, s.now.epoch ≤ s.now.mer.epoch → s.now.cht.commitWait = none → exec (.epochBoundary phys) s = .next (s.afterWork phys s.now)) ∧
    (∀ phys, s.now.mer.epoch < s.now.epoch →
      exec (.epochBoundary phys) s = .next (s.afterWork phys (confirmLate (epochWork phys (newEpoch s.now)))) ∧ (newEpoch s.now).mer.epoch = s.now.epoch ∧
      (newEpoch s.now).mer.count = s.now.mer.count ∧ (newEpoch s.now).dram = s.now.dram ∧
      (s.now.mer.runOpen = true → s.now.mer.flagNow = 0 → s.now.mer.state = .locked → s.now.mer.capable = true → s.now.mer.ptpExcursion = false →
        (newEpoch s.now).mer.runOpen = false ∧ (newEpoch s.now).mer.runLast = some (s.now.mer.epoch - 1))) ∧
    (∀ l, l = Nat.max s.now.mer.body.l 1 →
      (s.now.mer.count < l + 2 → exec .epochSeal s = .next (s.after s.now)) ∧
      (l + 2 ≤ s.now.mer.count → s.now.mer.sealedEpoch = none →
        exec .epochSeal s = .next (s.after { s.now with mer := { s.now.mer with sealedEpoch := some ((s.now.mer.count - 2) / l - 1) } })) ∧
      (∀ e, l + 2 ≤ s.now.mer.count → s.now.mer.sealedEpoch = some e → e + 1 ≤ (s.now.mer.count - 2) / l - 1 →
        exec .epochSeal s = .next (s.after { s.now with mer := { s.now.mer with sealedEpoch := some (e + 1) } })) ∧
      (∀ e, l + 2 ≤ s.now.mer.count → s.now.mer.sealedEpoch = some e → (s.now.mer.count - 2) / l - 1 ≤ e → exec .epochSeal s = .next (s.after s.now))) ∧
    (∃ t, exec .hourlyRecord s = .next t ∧ t.blk.pwr.boot.hours = s.now.pwr.boot.hours + 1 ∧ t.blk.pwr.boot.countFloor = s.now.mer.count ∧
      t.blk.pwr.boot.credit = s.now.pers.credit ∧ t.blk.mer = s.now.mer ∧ t.blk.dram = s.now.dram ∧ t.otp = s.otp)

/-- The DRAM channel commands, the beat, the hub polls and page completions. A beat takes the interval that the polls chose. MARK of a present device position in a channel that takes commands adds it with MARKED, at most two in a rank; UNMARK removes it; the boot records keep the list; a rank, or DIMM that is not there sets CMD_ERR and does nothing else. THAW of a channel that is not frozen is refused; of a frozen one it makes the channel READY with its queue and drop list empty. DIAG_READ outside a freeze is refused. A parity alert counts until two replays have failed and then freezes the channel. A REMOTE page outside a frozen channel becomes RESIDENT when its copy lands, a ZERO page that was written when its other lines hold filled lines. (06_dram_and_line_codes.md) -/
def Obligations.DramChannelCommands : Prop :=
  ∀ (s : State) (phys : Phys), s.blk.aon = true →
    exec .refreshBeat s = .next (s.after { s.now with dram := { s.now.dram with hotInterval := s.now.dram.hotNext } }) ∧
    exec .readAgeLimit s = .next (s.after s.now) ∧
    (s.now.pwr.sysRst = false → ∀ c, c < 16 → s.now.inDusk = false →
      (∀ d r p, ((s.now.chan c).hasRank d r) = true → p < 20 → (s.now.chan c).state = .ready ∨ (s.now.chan c).state = .frozen →
        ((s.now.chan c).marks.contains (d, r, p) = false → ((s.now.chan c).marks.filter (fun m => m.1 = d && m.2.1 = r)).length < 2 →
          exec (.mark c d r p) s = .next (s.after (setErr (.drm c) 7 (setMarks c ((s.now.chan c).marks ++ [(d, r, p)]) s.now)))) ∧
        ((s.now.chan c).marks.contains (d, r, p) = true → exec (.mark c d r p) s = .next (s.after s.now)) ∧
        ((s.now.chan c).marks.contains (d, r, p) = true → exec (.unmark c d r p) s = .next (s.after (setMarks c ((s.now.chan c).marks.filter (· != (d, r, p))) s.now))) ∧
        ((s.now.chan c).marks.contains (d, r, p) = false → exec (.unmark c d r p) s = .next (s.after s.now))) ∧
      (∀ d r p, ((s.now.chan c).hasRank d r) = false → exec (.mark c d r p) s = .next (s.after (setErr (.drm c) 8 s.now)) ∧
        exec (.unmark c d r p) s = .next (s.after (setErr (.drm c) 8 s.now))) ∧
      ((s.now.chan c).state ≠ .frozen → exec (.diagRead phys c) s = .next (s.after (setErr (.drm c) 8 s.now)) ∧
        (s.now.fwWaits = false → ∀ t, exec (.thaw phys c t) s = .next (s.afterWork phys (setErr (.drm c) 8 s.now)))) ∧
      (∀ g l, (s.now.chan c).state = .frozen → g = (s.now.chan c).diagLoc → fieldOf g 63 59 = c → (s.now.chan c).hasRank (fieldOf g 58 58) (fieldOf g 57 56) = true →
        fieldOf g 45 28 < rowsOf (s.now.chan c).density → fieldOf g 27 17 % 16 = 0 →
        s.now.lineAtGeo c ⟨fieldOf g 58 58, fieldOf g 57 56, fieldOf g 50 48, fieldOf g 47 46, fieldOf g 45 28, fieldOf g 27 17⟩ = some l →
        exec (.diagRead phys c) s = .next (s.after (modChan c (fun x => { x with cap := { x.cap with
          raw := rawBurst (s.now.mediaLine l) (s.now.lineInfo l).dpa (phys.burst l) } }) s.now))) ∧
      (∀ t, (s.now.chan c).state = .frozen → s.now.fwWaits = false → s.now.syncTouches c = false → (s.now.chan c).drops = [] → (s.now.chan c).queued = [] →
        (s.now.chan c).failLine = none →
        ∃ b, exec (.thaw phys c t) s = .next (s.afterWork phys b) ∧ (b.chan c).state = .ready ∧ b.dram.lines = s.now.dram.lines ∧ b.halo = s.now.halo) ∧
      (∀ t, s.now.fwWaits = true → exec (.thaw phys c t) s = .next (s.afterWork phys { s.now with fw := { s.now.fw with deferred := s.now.fw.deferred ++ [.thaw c t] } }))) ∧
    (∀ c n cmd loc a, (s.now.chan c).state = .ready →
      (n < 2 → exec (.caParityAlert c n cmd loc a) s = .next (s.after (setErr (.drm c) 2 s.now))) ∧
      (2 ≤ n → exec (.caParityAlert c n cmd loc a) s = .next (s.after (freezeChan c true { cause := 2, source := 0, media := loc, addr := a, cmd := cmd } none loc s.now)))) ∧
    (∀ r, s.now.populated = [] → ∃ t, exec (.spdTempPoll r) s = .next t ∧ t.blk.dram.hotNext = (if 4 ≤ s.now.dram.coolPolls + 1 then false else s.now.dram.hotNext) ∧
      t.blk.dram.coolPolls = s.now.dram.coolPolls + 1 ∧ t.blk.therm = s.now.therm ∧ t.blk.dram.lines = s.now.dram.lines) ∧
    (∀ r c d x, c ∈ s.now.populated → d < (s.now.chan c).dimms → SMap.find? r (2 * c + d) = some x → 1360 < x →
      ∃ t, exec (.spdTempPoll r) s = .next t ∧ t.blk.dram.hotNext = true ∧ t.blk.dram.coolPolls = 0 ∧ t.blk.dram.lines = s.now.dram.lines ∧ t.blk.halo = s.now.halo) ∧
    (∀ p, s.now.presence p = .zero → s.now.touchedPage p = true → exec (.zeroFillDone phys p) s =
      .next (s.afterWork phys (setPresence p .resident (fillLines p (fun j => !SMap.has s.now.dram.lines (32 * p + j)) s.now)))) ∧
    (∀ p, s.now.presence p ≠ .zero ∨ s.now.touchedPage p = false → exec (.zeroFillDone phys p) s = .next (s.afterWork phys s.now)) ∧
    (∀ p ls, s.now.presence p ≠ .remote → exec (.remotePageCopyDone phys p ls) s = .next (s.afterWork phys s.now)) ∧
    (∀ p ls, s.now.presence p = .remote → ((List.range 32).any (fun j => s.now.frozenLine (32 * p + j)) = false) → (carveAt s.now.cht.cur.near (p * 4096)).isNone = true →
      ∃ b, exec (.remotePageCopyDone phys p ls) s = .next (s.afterWork phys (retry phys (fun h => match h.why with | .remote x => x / 64 == p | _ => false) b)) ∧
        b.presence p = .resident ∧ b.host.held = s.now.host.held)

/-- Write-back, the governor's window, throttled writes and the hold-up pins. WRITEBACK_ISSUE issues the program of the page that the governor chooses, and where none is to go tries the oldest miss again that waits for a way. The end of a home page's program waits until its stripe's page may be programmed, takes the page from the programs in flight and clears its dirty bit unless it was redirtied. A window of GOV_EPOCHS epochs refills the credit up to its cap and forgets what was spent. The oldest held write passes when the test of R183 holds, and after 1 ms the oldest page that may be written back is issued, where a zone beyond two is free. HOLDUP_LOW_N lowers the ceiling at once and restores it only after its timer. (07_persistence.md) -/
def Obligations.GovernorAndCeiling : Prop :=
  ∀ (s : State) (phys : Phys), s.blk.aon = true →
    (s.now.nextWriteBack = none → exec (.writebackIssue phys) s = .next (s.afterWork phys (issueForMiss phys s.now))) ∧
    (∀ p paced, s.now.nextWriteBack = some (p, paced) →
      exec (.writebackIssue phys) s = .next (s.afterWork phys (((issueProgram phys p s.now).map (fun b =>
        if paced then { b with pers := { b.pers with spent := b.pers.spent + 4096 } } else b)).getD s.now)) ∧
      (issueProgram phys p s.now).all (fun b => SMap.find? b.pers.inFlight p == some false) = true) ∧
    (∀ p u at' red, s.now.slotOfPage p = none → SMap.find? s.now.pers.inFlight p = some red → SMap.find? s.now.pers.programs p = some u → s.now.unitPlace u = some at' → u.kind = .home →
      ((s.now.stripe at'.1).done.contains (at'.2 / 4) = false → s.now.mayProgram at'.1 (at'.2 / 4) = false → exec (.writebackProgramDone phys p) s = .next (s.afterWork phys s.now)) ∧
      ((s.now.stripe at'.1).done.contains (at'.2 / 4) = false → s.now.mayProgram at'.1 (at'.2 / 4) = true →
        exec (.writebackProgramDone phys p) s = .next (s.afterWork phys (programEnds p red s.now.gov (pageProgrammed at'.1 (at'.2 / 4) s.now)))) ∧
      ((s.now.stripe at'.1).done.contains (at'.2 / 4) = true →
        exec (.writebackProgramDone phys p) s = .next (s.afterWork phys (programEnds p red s.now.gov s.now)))) ∧
    (∀ p red g b, (programEnds p red g b).pers.inFlight = SMap.erase b.pers.inFlight p ∧ (programEnds p red g b).pers.programs = SMap.erase b.pers.programs p ∧
      (programEnds p red g b).pers.dirty = (if red then b.pers.dirty else SMap.erase b.pers.dirty p)) ∧
    (s.now.epoch < s.now.pers.windowEnd → exec .governorWindow s = .next (s.after s.now)) ∧
    (s.now.pers.windowEnd ≤ s.now.epoch → ∃ t, exec .governorWindow s = .next t ∧
      t.blk.pers.credit = Min.min (s.now.pers.credit + (s.now.refill : Int)) (s.now.cht.cur.pers.bucketWindows * s.now.refill) ∧
      t.blk.pers.spent = 0 ∧ (s.now.host.held = [] → t.blk.pers.throttlePosted = []) ∧ t.blk.pers.rwbBytes = 0 ∧
      t.blk.pers.windowEnd = s.now.pers.windowEnd + Nat.max s.now.cht.cur.pers.govEpochs 1 ∧
      t.blk.pers.dirty = s.now.pers.dirty ∧ t.blk.nvf = s.now.nvf ∧ t.blk.dram = s.now.dram) ∧
    (s.now.host.held.find? (fun x => x.why == .throttle) = none → exec (.throttleRelease phys) s = .next (s.afterWork phys s.now)) ∧
    (∀ o, s.now.host.held.find? (fun x => x.why == .throttle) = some o →
      (s.now.releaseOk = false ∨ s.now.inDusk = true → exec (.throttleRelease phys) s = .next (s.afterWork phys s.now)) ∧
      (s.now.releaseOk = true → s.now.inDusk = false →
        exec (.throttleRelease phys) s = .next (s.afterWork phys (retryOldest phys .throttle { s.now with host := { s.now.host with
          held := s.now.host.held.map (fun x => if x.why == .throttle && x.req.dpa / 128 == o.req.dpa / 128 then { x with req := { x.req with passed := true } } else x) } })))) ∧
    (s.now.throttling = false → exec (.throttleOverdraw phys) s = .next (s.afterWork phys s.now)) ∧
    (∀ p, s.now.throttling = true → s.now.inDusk = false → s.now.pers.inFlight.length < 262144 → 2 < s.now.freeTlc →
      s.now.oldest ((SMap.keys s.now.pers.dirty).filter s.now.canWriteBack) = some p →
      exec (.throttleOverdraw phys) s = .next (s.afterWork phys ((issueProgram phys p s.now).getD s.now))) ∧
    exec .holdupLowAssert s = .next (s.after (noteCeiling { s.now with pers := { s.now.pers with holdupLow := true, degraded := true, holdupTimer := false } })) ∧
    exec .holdupLowDeassert s = .next (s.after { s.now with pers := { s.now.pers with holdupLow := false, holdupTimer := s.now.pers.degraded } }) ∧
    (s.now.pers.holdupTimer = true → s.now.pers.holdupLow = false →
      exec .holdupRestore s = .next (s.after (noteCeiling { s.now with pers := { s.now.pers with degraded := false, holdupTimer := false } }))) ∧
    (s.now.pers.holdupTimer = false ∨ s.now.pers.holdupLow = true → exec .holdupRestore s = .next (s.after s.now))

/-- The Dusk's steps, restores and the end of a generation. In service outside a Dusk PWR_FAIL_N fires the trigger, and before D7 it is an off request; the flush's end waits out the programs in flight and writes a save without its mark, after making a replica where none is valid, or hands over where a RETURN has begun; SAVE_COMPLETE writes the mark; the deadline makes the hand-over wait for the Logbook no longer; the return of PWR_FAIL_N makes input power stable. Each does nothing where its step is not under way. A PENDING page's restore makes it RESIDENT with the stamp of its newest readable copy, and where none is left it counts as lost; background restore issues the next page unless a touch waits; a generation that no page needs leaves the live ones, and its blocks await erasure or leave the ring. (07_persistence.md, 14_dawn_dusk_power.md) -/
def Obligations.DuskSaveAndRestore : Prop :=
  ∀ (s : State) (phys : Phys), s.blk.aon = true →
    (s.now.inDusk = false → s.now.inService = true → ∃ t, exec .pwrFailAssert s = .next t ∧ t.blk.pwr.pwrFail = true ∧ t.blk.pwr.pwrStable = false ∧
      t.blk.inDusk = true ∧ t.blk.pwr.boot.countFloor = s.now.mer.count ∧ t.otp = s.otp) ∧
    (s.now.inDusk = false → s.now.fromD7 = false →
      exec .pwrFailAssert s = .next (s.after (offRequest { s.now with pwr := { s.now.pwr with pwrFail := true, pwrStable := false } }))) ∧
    (∀ d, s.now.pers.dusk = some d → d.thermal = false ∨ d.pwrFail = true →
      exec .pwrFailAssert s = .next (s.after { s.now with pwr := { s.now.pwr with pwrFail := true, pwrStable := false } })) ∧
    (s.now.pers.dusk = none → exec (.duskFlushDone phys) s = .next (s.afterWork phys s.now) ∧ exec (.saveComplete phys) s = .next (s.afterWork phys s.now) ∧
      exec (.handOverDeadline phys) s = .next (s.afterWork phys s.now)) ∧
    (∀ d, s.now.pers.dusk = some d → d.step = .flush →
      ((flushMet phys true s.now).ident.fuse.returnBegun ≠ 0 → exec (.duskFlushDone phys) s = .next (s.afterWork phys (handOver d (flushMet phys true s.now)))) ∧
      ((flushMet phys true s.now).ident.fuse.returnBegun = 0 → (flushMet phys true s.now).replicaOk = true →
        exec (.duskFlushDone phys) s = .next (s.afterWork phys (writeSave phys d (finishPrograms (flushMet phys true s.now))))) ∧
      ((flushMet phys true s.now).ident.fuse.returnBegun = 0 → (flushMet phys true s.now).replicaOk = false →
        exec (.duskFlushDone phys) s = .next (s.afterWork phys (writeSave phys d (finishPrograms (replicaReplace (flushMet phys true s.now))))))) ∧
    (∀ d b, ∃ g, (writeSave phys d b).pers.gens.getLast? = some g ∧ g.gen = b.pers.sb.nextGen ∧ g.mark = none ∧ g.cause = (if d.thermal then 1 else 0) ∧
      (writeSave phys d b).pers.dusk = some { d with step := .saving, todo := b.saveOrder }) ∧
    (∀ d g, s.now.pers.dusk = some d → s.now.pers.gens.getLast? = some g →
      (d.step = .saving → exec (.saveComplete phys) s = .next (s.afterWork phys (afterSave phys { (writeMark g s.now).2 with pers := { (writeMark g s.now).2.pers with
        gens := (writeMark g s.now).2.pers.gens.dropLast ++ [(writeMark g s.now).1], dusk := some { d with step := .complete, todo := [] } } })) ∧
        (writeMark g s.now).1.mark = some g.chunks.flatten.length) ∧
      (d.step ≠ .saving → exec (.saveComplete phys) s = .next (s.afterWork phys s.now))) ∧
    (∀ d, s.now.pers.dusk = some d → d.step = .complete → s.now.mayResume { d with logDone := true } = false →
      exec (.handOverDeadline phys) s = .next (s.afterWork phys (handOver { d with logDone := true } { s.now with pers := { s.now.pers with dusk := some { d with logDone := true } } }))) ∧
    (s.now.pers.dusk = none → ∃ b, exec (.pwrFailReturn phys) s = .next (s.afterWork phys b) ∧ b.pwr.pwrFail = false ∧ b.pwr.pwrStable = true ∧ b.dram = s.now.dram ∧ b.nvf = s.now.nvf) ∧
    (∀ p n, s.now.presence p ≠ .pending ∨ s.now.inDusk = true → exec (.restoreDone phys p n) s = .next (s.afterWork phys s.now)) ∧
    (∀ p n m, s.now.presence p = .pending → s.now.inDusk = false → (carveAt s.now.cht.cur.near (p * 4096)).isNone = true →
      m = (if SMap.find? s.now.pers.from' p = some .lost then s.now else readMap phys (homeLeaf p) s.now) →
      ∃ b, exec (.restoreDone phys p n) s = .next (s.afterWork phys (retryWhy phys (.restore p) (noteCeiling b))) ∧ b.presence p = .resident ∧
        b.pers.from' = SMap.erase m.pers.from' p ∧
        (m.fillsOnRestore p = true → b.pers.lostPages = m.pers.lostPages ∧ b.pers.dirty = m.pers.dirty) ∧
        (∀ u j rest, m.fillsOnRestore p = false → (m.copiesOf p).drop n = (u, j) :: rest → b.stampOf p = u.stamp ∧ b.pers.lostPages = m.pers.lostPages ∧
          b.pers.dirty = (if j then SMap.insert m.pers.dirty p () else m.pers.dirty)) ∧
        (m.fillsOnRestore p = false → (m.copiesOf p).drop n = [] → b.pers.lostPages = sat32 m.pers.lostPages)) ∧
    (s.now.inDusk = true → exec .backgroundRestore s = .next (s.after s.now)) ∧
    (∀ p, s.now.host.held = [] → s.now.inDusk = false → s.now.nextRestore = some p →
      exec .backgroundRestore s = .next (s.after { s.now with pers := { s.now.pers with issued := s.now.pers.issued ++ [p] } })) ∧
    (∀ n, s.now.pers.gens.find? (fun g => g.gen = n) = none → exec (.generationDeath n) s = .next (s.after s.now)) ∧
    (∀ n g back, s.now.pers.gens.find? (fun g => g.gen = n) = some g → s.now.pers.live.contains n = true → s.now.genDead g = true → s.now.inDusk = false →
      back = Nat.min g.bytes (s.now.nvf.jRing - s.now.cht.cur.pers.journalGib * gib) →
      ∃ t, exec (.generationDeath n) s = .next t ∧ t.blk.pers.gens = s.now.pers.gens.filter (fun x => x.gen != n) ∧ t.blk.pers.live = s.now.pers.live.filter (· != n) ∧
        t.blk.nvf.jErase = s.now.nvf.jErase + (g.bytes - back) ∧ t.blk.nvf.jRing = s.now.nvf.jRing - back ∧
        t.blk.pers.sb.liveFirst = (s.now.pers.live.filter (· != n)).head? ∧ t.blk.dram = s.now.dram)

/-- The ends of NAND operations, member timeouts, padding, the stripe journal and reclaim. A page whose four units decode changes nothing; one with a unit that stays unreadable sets PAGE_UNREADABLE and is lost to its stripe. A page that may be programmed is done when its program ends, and the last one closes the stripe; a failure retires the block that its place maps to. An erased journal zone is ready, any other is free again. A timeout retires a member and asserts its channel's pin. An open stripe of an earlier epoch is padded. Collected records become durable on the valid replicas and in the Near ring, and the stripes of OPEN records may be programmed. Reclaim does nothing with more than 6 free zones and none begun; it relocates the only settled closed zone and erases it once it holds no current unit. A lost replica is replaced by the next member of its half. (08_flash_array.md) -/
def Obligations.NandOperationsAndLog : Prop :=
  ∀ (s : State) (phys : Phys), s.blk.aon = true →
    (∀ i q n, n % 16 = 0 → exec (.nandReadDone i q n false) s = .next (s.after s.now)) ∧
    (∀ i q n d, n % 16 ≠ 0 → SMap.has s.now.nvf.stripes i = true → q ≤ 17 → s.now.slotDie i q = some d →
      exec (.nandReadDone i q n false) s = .next (s.after (losePage i q d (setErr .nvf 5 s.now)))) ∧
    (∀ i q ok, s.now.mayProgram i q = false → exec (.nandProgramDone phys i q ok) s = .next (s.after s.now)) ∧
    (∀ i q, s.now.mayProgram i q = true →
      (∀ d, s.now.slotDie i q = some d → (s.now.stripe i).pool ≠ .journal →
        exec (.nandProgramDone phys i q false) s = .next (s.after (failBlock d (128 + (s.now.stripeAt i).1) 3 s.now))) ∧
      (phys.map = [] → exec (.nandProgramDone phys i q true) s = .next (s.after (pageProgrammed i q s.now))) ∧
      (phys.map = [] → (s.now.stripe i).done.contains q = false → (s.now.stripe i).done.length < 17 →
        exec (.nandProgramDone phys i q true) s = .next (s.after (modStripe i (fun x => { x with done := x.done ++ [q] }) s.now)))) ∧
    (∀ d k n, (s.now.die d).retiredBlocks.length < s.now.zBad →
      ((failBlock d k n s.now).die d).retiredBlocks = (s.now.die d).retiredBlocks ++ [(s.now.die d).phys k] ∧ ((failBlock d k n s.now).die d).state = (s.now.die d).state ∧
      ((failBlock d k n s.now).die d).phys k = (s.now.die d).phys ((s.now.die d).good - s.now.zBad + (s.now.die d).retiredBlocks.length)) ∧
    (∀ z g, exec (.nandEraseDone z (some g)) s = .next (s.after (failBlock g (128 + z) 4 s.now))) ∧
    (∀ z, s.now.poolOfZone z = some .journal → ∃ t, exec (.nandEraseDone z none) s = .next t ∧
      t.blk.nvf.jReady = s.now.nvf.jReady + Nat.min s.now.slcZone s.now.nvf.jErase ∧ t.blk.nvf.jErase = s.now.nvf.jErase - Nat.min s.now.slcZone s.now.nvf.jErase ∧
      t.blk.nvf.zones = s.now.nvf.zones ∧ t.blk.dram = s.now.dram) ∧
    (∀ z, s.now.poolOfZone z ≠ some .journal → (s.now.zone z).state = .erasing → ∃ t, exec (.nandEraseDone z none) s = .next t ∧
      t.blk.nvf.zones = SMap.erase s.now.nvf.zones z ∧ t.blk.nvf.erasing = s.now.nvf.erasing.erase z ∧ t.blk.nvf.stripes = s.now.nvf.stripes) ∧
    (∀ g op, (s.now.die g).state ≠ .member → exec (.memberTimeout g op) s = .next (s.after s.now)) ∧
    (∀ g op, (s.now.die g).state = .member → exec (.memberTimeout g op) s =
      .next (s.after (nandPin g (retireDie g (op.code + 1) (setErr .nvf op.code (if op = .read then setErr .nvf 5 s.now else s.now)))))) ∧
    (s.now.nvf.openStripe = none → exec .stripePadTimeout s = .next (s.after s.now)) ∧
    (∀ i, s.now.nvf.openStripe = some i →
      (s.now.inDusk = false → (s.now.stripe i).firstEpoch < s.now.epoch → exec .stripePadTimeout s = .next (s.after (padStripe s.now)) ∧
        ((padStripe s.now).stripe i).used = 64 ∧ (padStripe s.now).nvf.openStripe = none) ∧
      (s.now.inDusk = true ∨ s.now.epoch ≤ (s.now.stripe i).firstEpoch → exec .stripePadTimeout s = .next (s.after s.now))) ∧
    (∃ t, exec .stripeJournalCommit s = .next t ∧ t.blk.nvf.sjPending = [] ∧ t.blk.nvf.homeMap = s.now.nvf.homeMap ∧
      t.blk.nvf.rep0.sj = (if s.now.nvf.rep0.valid then s.now.nvf.rep0.sj ++ s.now.nvf.sjPending else s.now.nvf.rep0.sj) ∧
      t.blk.nvf.rep1.sj = (if s.now.nvf.rep1.valid then s.now.nvf.rep1.sj ++ s.now.nvf.sjPending else s.now.nvf.rep1.sj) ∧
      (s.now.nvf.sjPending.any (fun r => r.type == .checkpoint) = false →
        (∀ r, r ∈ s.now.nvf.sjPending → r ∈ t.blk.nvf.sjRing) ∧
        (∀ r i x, r ∈ s.now.nvf.sjPending → r.type = .open' → SMap.find? s.now.nvf.stripes i = some x → r.gen = x.gen → r.stripe = s.now.stripeNo i → r.seqFirst = x.seqFirst →
          SMap.find? t.blk.nvf.stripes i = some { x with openDurable := true }))) ∧
    (s.now.inDusk = true ∨ (s.now.nvf.reclaiming = none ∧ 6 < s.now.freeTlc) → exec .reclaim s = .next (s.after s.now)) ∧
    (s.now.nvf.reclaiming = none → (SMap.keys s.now.nvf.zones).filter (fun z => (s.now.zone z).pool == .tlc && (s.now.zone z).state == .closed && s.now.zoneSettled z) = [] →
      exec .reclaim s = .next (s.after s.now)) ∧
    (∀ v, s.now.inDusk = false → s.now.nvf.reclaiming = none → s.now.freeTlc ≤ 6 →
      (SMap.keys s.now.nvf.zones).filter (fun z => (s.now.zone z).pool == .tlc && (s.now.zone z).state == .closed && s.now.zoneSettled z) = [v] →
      exec .reclaim s = .next (s.after (settleReclaim ((s.now.zoneStripes v).foldl (fun b i => relocateStripe i b) { s.now with nvf := { s.now.nvf with reclaiming := some v } })))) ∧
    (∀ b v, b.nvf.reclaiming = some v →
      (b.zoneLoad v ≠ 0 → settleReclaim b = b) ∧
      (b.zoneLoad v = 0 → b.inDusk = false → settleReclaim b = noteStarved (eraseZone v { b with nvf := { b.nvf with reclaiming := none } }))) ∧
    (∀ g, s.now.nvf.layouts ≠ [] → s.now.nvf.rep0.valid = false → s.now.nvf.rep1.valid = true → s.now.nextReplica false = some g →
      ∃ t, exec .replicaReplace s = .next t ∧ t.blk.nvf.rep0.die = some g ∧ t.blk.nvf.rep0.valid = true ∧ t.blk.nvf.rep0.sb = s.now.pers.sb ∧
        t.blk.nvf.rep0.sj = s.now.nvf.sjRing ∧ t.blk.nvf.rep1 = s.now.nvf.rep1) ∧
    (∀ g, s.now.nvf.layouts ≠ [] → s.now.nvf.rep0.valid = true → s.now.nvf.rep1.valid = false → s.now.nextReplica true = some g →
      ∃ t, exec .replicaReplace s = .next t ∧ t.blk.nvf.rep1.die = some g ∧ t.blk.nvf.rep1.valid = true ∧ t.blk.nvf.rep1.sb = s.now.pers.sb ∧
        t.blk.nvf.rep1.sj = s.now.nvf.sjRing ∧ t.blk.nvf.rep0 = s.now.nvf.rep0)

/-- Rebuild, admission, retirement, raw reads, the patrol and the end of a reshape. START_REBUILD lists the lost pages, and each REBUILD_STRIPE reconstructs the next one that has at most two losses; both do nothing in a Dusk, and a start waits for a restart's end. ADMIT makes a retired die a member of a new layout, RETIRE takes a member out; each refuses a die in any other state. A raw read starts and its end gives the data, or why there is none. The patrol pauses and resumes, and each of its steps, at most the daily rate in an epoch, goes on to the next stripe: a clean one stays, one with an unreadable page or differing bytes is relocated, and a difference in P or Q alone is that page's. A reshape's relocation does nothing while it is paused, and is done once no stripe of an older generation is left. (08_flash_array.md) -/
def Obligations.FlashServiceCommands : Prop :=
  ∀ s : State, s.blk.aon = true →
    (s.now.pwr.sysRst = false →
      (s.now.fwWaits = false → s.now.inDusk = false →
        exec .startRebuild s = .next (s.after { s.now with nvf := { s.now.nvf with
          rebuilding := !s.now.rebuildList.isEmpty, rebuildTodo := s.now.rebuildList, reshapePaused := s.now.nvf.reshapePaused && !s.now.rebuildList.isEmpty } })) ∧
      (s.now.fwWaits = true → exec .startRebuild s = .next (s.after { s.now with fw := { s.now.fw with deferred := s.now.fw.deferred ++ [.startRebuild] } })) ∧
      (∀ g, s.now.fwWaits = false → s.now.nvf.rebuilding = true ∨ (s.now.die g).state ≠ .retired → exec (.admitDie g) s = .next (s.after (setErr .nvf 11 s.now))) ∧
      (∀ g, s.now.fwWaits = false → s.now.nvf.rebuilding = false → (s.now.die g).state = .retired →
        ∃ t, exec (.admitDie g) s = .next t ∧ (t.blk.die g).state = .member ∧ g ∈ t.blk.layout.members ∧ t.blk.layout.gen = s.now.layout.gen + 1 ∧
          t.blk.nvf.stripes = s.now.nvf.stripes ∧ t.blk.dram = s.now.dram) ∧
      (∀ g, (s.now.die g).state ≠ .member → exec (.retire g) s = .next (s.after (setErr .nvf 11 s.now))) ∧
      (∀ g, (s.now.die g).state = .member → exec (.retire g) s = .next (s.after (logEvent 15 { kind := .perType, loc := BitVec.ofNat 64 g } (retireDie g 5 s.now)))) ∧
      exec .rawRead s = .next (s.after { s.now with nvf := { s.now.nvf with rawResult := 1 } }) ∧
      exec .patrolPause s = .next (s.after { s.now with nvf := { s.now.nvf with patrolPaused := true } }) ∧
      exec .patrolResume s = .next (s.after { s.now with nvf := { s.now.nvf with patrolPaused := false } })) ∧
    (s.now.inDusk = true → exec .rebuildStripe s = .next (s.after s.now)) ∧
    (s.now.inDusk = false → s.now.nvf.rebuildTodo = [] → exec .rebuildStripe s = .next (s.after { s.now with nvf := { s.now.nvf with rebuilding := false, reshapePaused := false } })) ∧
    (∀ i q rest, s.now.inDusk = false → s.now.nvf.rebuildTodo = (i, q) :: rest → (s.now.stripe i).lost.length ≤ 2 → (s.now.slotDie i q).isSome = true →
      SMap.has s.now.nvf.stripes i = true →
      ∃ t, exec .rebuildStripe s = .next t ∧ (t.blk.stripe i).lost = (s.now.stripe i).lost.filter (· != q) ∧ t.blk.nvf.rebuildTodo = rest ∧
        t.blk.nvf.rebuilding = !rest.isEmpty ∧ t.blk.nvf.homeMap = s.now.nvf.homeMap ∧ t.blk.dram = s.now.dram) ∧
    (∀ a, s.now.nvf.rawResult ≠ 1 → exec (.rawReadDone a) s = .next (s.after s.now)) ∧
    (∀ a, s.now.nvf.rawResult = 1 → s.now.dieAt s.now.nvf.rawLoc = none →
      exec (.rawReadDone a) s = .next (s.after { s.now with nvf := { s.now.nvf with rawResult := 6, rawData := [] } })) ∧
    (∀ g, s.now.nvf.rawResult = 1 → s.now.dieAt s.now.nvf.rawLoc = some g →
      (s.now.nvf.erasing.any (fun z => s.now.zoneOfBlock g (fieldOf s.now.nvf.rawLoc 47 32) == some z) = true →
        ∀ a, exec (.rawReadDone a) s = .next (s.after { s.now with nvf := { s.now.nvf with rawResult := 3, rawData := [] } })) ∧
      (s.now.nvf.erasing.any (fun z => s.now.zoneOfBlock g (fieldOf s.now.nvf.rawLoc 47 32) == some z) = false →
        (∀ d, ((s.now.zoneOfBlock g (fieldOf s.now.nvf.rawLoc 47 32)).bind (fun z => s.now.pageOfDie g z (fieldOf s.now.nvf.rawLoc 31 20))) = none → exec (.rawReadDone (.data d)) s = .next (s.after { s.now with nvf := { s.now.nvf with rawResult := 2, rawData := d } })) ∧
        exec (.rawReadDone .uncorrectable) s = .next (s.after { s.now with nvf := { s.now.nvf with rawResult := 4, rawData := [] } }) ∧
        exec (.rawReadDone .timeout) s = .next (s.after { s.now with nvf := { s.now.nvf with rawResult := 5, rawData := [] } }))) ∧
    (∀ u es, s.now.patrolling = false → exec (.patrolStripe u es) s = .next (s.after s.now)) ∧
    (∀ n, n = (if s.now.nvf.patrolEpoch = s.now.epoch then s.now.nvf.patrolCount else 0) →
      (s.now.nvf.patrolRate ≤ n → ∀ u es, exec (.patrolStripe u es) s = .next (s.after s.now)) ∧
      (∀ i w m, n < s.now.nvf.patrolRate → s.now.patrolling = true → s.now.patrolNext = some (i, w) → (s.now.stripe i).lost = [] →
        m = modNvf (fun v => { v with patrolPos := i + 1, patrolPasses := if w then sat32 v.patrolPasses else v.patrolPasses, patrolEpoch := s.now.epoch, patrolCount := n + 1 }) s.now →
        exec (.patrolStripe [] []) s = .next (s.after m) ∧
        (∀ es, m.culprit i es = .clean → exec (.patrolStripe [] es) s = .next (s.after m)) ∧
        (∀ es q, m.culprit i es = .page q → exec (.patrolStripe [] es) s =
          .next (s.after (modNvf (fun v => { v with attributed := sat32 v.attributed }) (relocateStripe i (spoilUnits i es (some q) m))))) ∧
        (∀ es, m.culprit i es = .none → exec (.patrolStripe [] es) s =
          .next (s.after (modNvf (fun v => { v with unattributed := sat32 v.unattributed })
            (setErrLog .nvf 7 { kind := .perType, loc := BitVec.ofNat 64 ((relocateStripe i (spoilUnits i es none m)).stripeNo i) } (relocateStripe i (spoilUnits i es none m)))))) ∧
        (∀ q, q ≤ 17 → exec (.patrolStripe [q] []) s = .next (s.after (relocateStripe i (setErr .nvf 5 m)))))) ∧
    (∀ (b : Blk) i pos d, d ≠ 0 → b.culprit i [(16, pos, d)] = .page 16) ∧
    (∀ (b : Blk) i pos d, d ≠ 0 → b.culprit i [(17, pos, d)] = .page 17) ∧
    (∀ epochs, epochs = s.now.cht.cur.far.patrolDays * 86400 * 10 ^ 9 / Nat.max (s.now.mer.body.l * s.now.mer.body.tickNs) 1 →
      exec .patrolDaily s = .next (s.after (modNvf (fun n => { n with patrolRate := ceilDiv s.now.nvf.stripes.length (Nat.max epochs 1) }) s.now))) ∧
    (s.now.nvf.reshaping = false ∨ s.now.nvf.reshapePaused = true ∨ s.now.inDusk = true → exec .reshapeComplete s = .next (s.after s.now)) ∧
    (∀ a, s.now.nvf.reshaping = true → s.now.nvf.reshapePaused = false → s.now.inDusk = false → s.now.cht.apply = some a →
      s.now.nvf.stripes.filter (fun e => e.2.gen != s.now.layout.gen) = [] →
      exec .reshapeComplete s = .next (s.after { s.now with cht := { s.now.cht with apply := some { a with farDone := true } } })) ∧
    (s.now.nvf.reshaping = true → s.now.nvf.reshapePaused = false → s.now.inDusk = false → s.now.cht.apply = none →
      s.now.nvf.stripes.filter (fun e => e.2.gen != s.now.layout.gen) = [] →
      exec .reshapeComplete s = .next (s.after { s.now with nvf := { s.now.nvf with reshapeDone := true } }))

/-- The staging cache: fills land, write-backs end, pages are promoted and evicted. Once its directory set has been looked at, a landing fill makes a FILLING entry CLEAN, with no reference marked for release left; the references so marked are gone and the others stay. A write-back's end makes the entry CLEAN, or DIRTY when it was redirtied, and a Far page's map entry follows unless it was redirtied. Either does nothing for a page that is not there. A promote of a page that is staged and referenced takes a reference and ends with RESULT 0; of a staged page in a set whose pinned ways are used up it ends with RESULT 3; of an address that is no Far address of the device with RESULT 2. An evict of a page that the device holds drops its reference, or marks it for release while the page is FILLING; of one that it does not hold it ends with RESULT 4. A second command while one is outstanding gives RESULT 5 and nothing else. (09_far_tier_transit.md) -/
def Obligations.StagingFillsPromotesAndEvicts : Prop :=
  ∀ (s : State) (phys : Phys), s.blk.aon = true →
    (∀ f bad m, m = dirRead phys (s.now.stageSet f) s.now → m.stageFind f = none → exec (.stagingFillLand phys f bad) s = .next (s.afterWork phys m)) ∧
    (∀ f bad m i, m = dirRead phys (s.now.stageSet f) s.now → m.stageFind f = some i → (m.dirEntry i).state = .filling → m.inDusk = false →
      ∃ b, exec (.stagingFillLand phys f bad) s = .next (s.afterWork phys (wayFreed phys f (retryWhy phys (.staging f) b))) ∧
        (b.dirEntry i).state = .clean ∧ (b.dirEntry i).holdA = (m.dirEntry i).holdA &&& (2 ^ 64 - 1 - (m.dirEntry i).roaA) ∧
        (b.dirEntry i).holdB = (m.dirEntry i).holdB &&& (2 ^ 64 - 1 - (m.dirEntry i).roaB) ∧ (b.dirEntry i).roaA = 0 ∧ (b.dirEntry i).roaB = 0 ∧
        (b.dirEntry i).farPage = (m.dirEntry i).farPage ∧
        (∀ j, j ≠ i → b.dirEntry j = m.dirEntry j) ∧ b.host.held = m.host.held ∧ b.nvf = m.nvf) ∧
    (∀ f bad m i, m = dirRead phys (s.now.stageSet f) s.now → m.stageFind f = some i → (m.dirEntry i).state ≠ .filling ∨ m.inDusk = true →
      exec (.stagingFillLand phys f bad) s = .next (s.afterWork phys m)) ∧
    (∀ f, s.now.stageFind f = none → exec (.farWritebackDone phys f) s = .next (s.afterWork phys s.now)) ∧
    (∀ f i u at' red, s.now.stageFind f = some i → SMap.find? s.now.pers.inFlight (s.now.slotPage i) = some red →
      SMap.find? s.now.pers.programs (s.now.slotPage i) = some u → s.now.unitPlace u = some at' → u.kind = .far →
      ((s.now.stripe at'.1).done.contains (at'.2 / 4) = false → s.now.mayProgram at'.1 (at'.2 / 4) = false →
        exec (.farWritebackDone phys f) s = .next (s.afterWork phys s.now)) ∧
      (∀ m, ((s.now.stripe at'.1).done.contains (at'.2 / 4) = true ∧ m = s.now) ∨
          ((s.now.stripe at'.1).done.contains (at'.2 / 4) = false ∧ s.now.mayProgram at'.1 (at'.2 / 4) = true ∧ m = pageProgrammed at'.1 (at'.2 / 4) s.now) →
        exec (.farWritebackDone phys f) s = .next (s.afterWork phys (wayFreed phys f (modEntry i StageEntry.written
          (programEnds (s.now.slotPage i) red s.now.gov (if red then m else setCurrent u at'.1 at'.2 m))))))) ∧
    (∀ (b : Blk) i, (modEntry i StageEntry.written b).dirEntry i =
      { b.dirEntry i with state := (if (b.dirEntry i).redirtied then .dirty else .clean), redirtied := false, taker := if (b.dirEntry i).redirtied then none else (b.dirEntry i).taker }) ∧
    (∀ n, s.now.ldTakes n = true →
      (∀ dpa count, (s.now.stageCtl n).busy.isSome = true →
        exec (.trnPromote phys n dpa count) s = .next (s.afterWork phys (modCtl n (fun c => { c with result := 5 }) s.now)) ∧
        exec (.trnEvict phys n dpa count) s = .next (s.afterWork phys (modCtl n (fun c => { c with result := 5 }) s.now))) ∧
      (∀ p i m, (s.now.stageCtl n).busy = none → s.now.area (4096 * p) = .far → s.now.homed (4096 * p) = true → s.now.reach n (4096 * p) = .ok →
        m = dirRead phys (s.now.stageSet (s.now.farPage (4096 * p))) (stageBegin false n (4096 * p) 1 s.now) → m.stageFind (s.now.farPage (4096 * p)) = some i →
        (0 < (m.dirEntry i).count →
          ∃ b, exec (.trnPromote phys n (4096 * p) 1) s = .next (s.afterWork phys b) ∧ (b.stageCtl n).result = 0 ∧ (b.stageCtl n).pagesDone = (m.stageCtl n).pagesDone + 1 ∧
            (b.stageCtl n).busy = none ∧ b.dirEntry i = (m.dirEntry i).setRefs m.sideB n true false ∧ (∀ j, j ≠ i → b.dirEntry j = m.dirEntry j) ∧ b.nvf = m.nvf) ∧
        ((m.dirEntry i).count = 0 →
          m.cht.cur.transit.pinWays ≤ ((List.range 16).filter (fun w => decide (0 < (m.dirEntry (16 * m.stageSet (s.now.farPage (4096 * p)) + w)).count))).length →
          exec (.trnPromote phys n (4096 * p) 1) s = .next (s.afterWork phys (modCtl n (fun c => { c with busy := none, result := 3 }) (setErr .trn 5 m))))) ∧
      (∀ p i m, (s.now.stageCtl n).busy = none → s.now.area (4096 * p) = .far → s.now.homed (4096 * p) = true →
        m = dirRead phys (s.now.stageSet (s.now.farPage (4096 * p))) (stageBegin true n (4096 * p) 1 s.now) → m.area (4096 * p) = .far →
        m.stageFind (m.farPage (4096 * p)) = some i →
        ((m.dirEntry i).holds m.sideB n = true →
          ∃ b, exec (.trnEvict phys n (4096 * p) 1) s = .next (s.afterWork phys b) ∧ (b.stageCtl n).result = 0 ∧ (b.stageCtl n).pagesDone = (m.stageCtl n).pagesDone + 1 ∧
            (b.stageCtl n).busy = none ∧
            b.dirEntry i = (if (m.dirEntry i).state = .filling then (m.dirEntry i).setRefs m.sideB n true true else (m.dirEntry i).setRefs m.sideB n false false) ∧
            (∀ j, j ≠ i → b.dirEntry j = m.dirEntry j) ∧ b.nvf = m.nvf) ∧
        ((m.dirEntry i).holds m.sideB n = false →
          exec (.trnEvict phys n (4096 * p) 1) s = .next (s.afterWork phys (modCtl n (fun c => { c with busy := none, result := 4 }) m)))) ∧
      (∀ dpa count, (s.now.stageCtl n).busy = none → 0 < count → s.now.area (dpa / 4096 * 4096) ≠ .far →
        ∃ b, exec (.trnPromote phys n dpa count) s = .next (s.afterWork phys b) ∧ (b.stageCtl n).result = 2 ∧ (b.stageCtl n).pagesDone = 0 ∧ b.far.dir = s.now.far.dir))

/-- Transit windows: START, STOP, RELEASE, fills, landing pages, DUE and the stall ceiling. START of an owned window makes it RUNNING at fill 0 with every slot EMPTY; while it runs, and with TRANSIT not enabled, START does nothing. STOP leaves it IDLE with every slot EMPTY; RELEASE leaves one slot EMPTY, and is a violation for a slot that is not there. Each is a violation on an area that the device does not own. The next fill starts FILLING in its EMPTY slot, or FAILED on a descriptor that fails the checks. While the lease gate is closed, and while its staging slot is PENDING, a page does not land; a landing page leaves the list of those to come, and with the last the slot is READY. A DUE slot is released. At the stall ceiling the oldest held read is answered and the slot is LATE. None but a landing page changes DRAM. (09_far_tier_transit.md) -/
def Obligations.TransitWindows : Prop :=
  ∀ (s : State) (phys : Phys), s.blk.aon = true →
    (∀ n i, s.now.ldTakes n = true →
      (s.now.ownWindow n i = none → exec (.trnStart n i) s = .next (s.after (noWindow n i s.now)) ∧ exec (.trnStop phys n i) s = .next (s.afterWork phys (noWindow n i s.now)) ∧
        ∀ q, exec (.trnRelease phys n i q) s = .next (s.afterWork phys (noWindow n i s.now))) ∧
      (∀ w, s.now.ownWindow n i = some w →
        (s.now.cht.cur.transit.enable = true → (s.now.window w.window).state ≠ .running →
          exec (.trnStart n i) s = .next (s.after (modWindow w.window (fun x => { x with state := .running, nextFill := 0, slots := [] }) s.now))) ∧
        (s.now.cht.cur.transit.enable = false ∨ (s.now.window w.window).state = .running → exec (.trnStart n i) s = .next (s.after s.now)) ∧
        (∃ b, exec (.trnStop phys n i) s = .next (s.afterWork phys b) ∧ (b.window w.window).state = .idle ∧ (∀ q, q < w.slots → (b.trnSlot w.window q).state = .empty) ∧
          (∀ v, v ≠ w.window → b.window v = s.now.window v) ∧ b.dram = s.now.dram ∧ b.nvf = s.now.nvf) ∧
        (∀ q, w.slots ≤ q → exec (.trnRelease phys n i q) s = .next (s.afterWork phys (noWindow n i s.now))) ∧
        (∀ q, q < w.slots → (s.now.trnSlot w.window q).state = .empty → exec (.trnRelease phys n i q) s = .next (s.afterWork phys s.now)) ∧
        (∀ q, q < w.slots → ∃ b, exec (.trnRelease phys n i q) s = .next (s.afterWork phys b) ∧ (b.trnSlot w.window q).state = .empty ∧
          (∀ r, r ≠ q → b.trnSlot w.window r = s.now.trnSlot w.window r) ∧ b.dram = s.now.dram ∧ b.nvf = s.now.nvf))) ∧
    (∀ wn w k, s.now.windowCfg wn = some w → k = (s.now.window wn).nextFill →
      ((s.now.window wn).state ≠ .running ∨ (s.now.trnSlot wn (k % Nat.max w.slots 1)).state ≠ .empty ∨ s.now.inDusk = true ∨ (s.now.half s.now.ownHalf).gateOpen = false →
        exec (.transitFillStart phys wn) s = .next (s.afterWork phys s.now)) ∧
      ((s.now.window wn).state = .running → (s.now.trnSlot wn (k % Nat.max w.slots 1)).state = .empty → w.loop = true ∨ k < (s.now.window wn).listLen →
        s.now.inDusk = false → (s.now.half s.now.ownHalf).gateOpen = true → s.now.host.held = [] →
        (s.now.descOk w (SMap.get TrnDesc.zero (s.now.window wn).descs (k % Nat.max (s.now.window wn).listLen 1)) = true →
          ∃ b, exec (.transitFillStart phys wn) s = .next (s.afterWork phys b) ∧ (b.window wn).nextFill = k + 1 ∧
            (b.trnSlot wn (k % Nat.max w.slots 1)).state = .filling ∧ (b.trnSlot wn (k % Nat.max w.slots 1)).fillNo = k ∧ b.dram = s.now.dram ∧ b.nvf = s.now.nvf ∧ b.errs = s.now.errs) ∧
        (s.now.descOk w (SMap.get TrnDesc.zero (s.now.window wn).descs (k % Nat.max (s.now.window wn).listLen 1)) = false →
          ∃ b, exec (.transitFillStart phys wn) s = .next (s.afterWork phys b) ∧ (b.window wn).nextFill = k + 1 ∧
            (b.trnSlot wn (k % Nat.max w.slots 1)).state = .failed ∧ (SMap.get 0 b.errs ErrReg.trn.key).getLsbD 1 = true ∧ b.dram = s.now.dram))) ∧
    (∀ wn q bad, (s.now.trnSlot wn q).todo = [] ∨ s.now.inDusk = true ∨ (s.now.half s.now.ownHalf).gateOpen = false → exec (.transitPageLand phys wn q bad) s = .next (s.afterWork phys s.now)) ∧
    (∀ wn q bad p rest dpa m, (s.now.trnSlot wn q).todo = p :: rest → s.now.inDusk = false → (s.now.half s.now.ownHalf).gateOpen = true →
      dpa = (s.now.trnSlot wn q).src + 4096 * p → m = dirRead phys (s.now.stageSet (s.now.farPage dpa)) s.now →
      (∀ i, s.now.stageFind (s.now.farPage dpa) = some i → s.now.presence (s.now.slotPage i) = .pending → exec (.transitPageLand phys wn q bad) s = .next (s.afterWork phys s.now)) ∧
      ((∀ i, s.now.stageFind (s.now.farPage dpa) = some i → s.now.presence (s.now.slotPage i) ≠ .pending) →
        ∃ b, exec (.transitPageLand phys wn q bad) s = .next (s.afterWork phys (retryWhy phys (.slot wn q) b)) ∧ (b.trnSlot wn q).todo = rest ∧
          (rest = [] → (b.trnSlot wn q).state = .ready) ∧ b.presence (m.trnPage wn q (4096 * p)) = .resident)) ∧
    (∀ wn q w d, s.now.windowCfg wn = some w → (s.now.trnSlot wn q).due = some d →
      (s.now.mer.count < d → exec (.transitDue phys wn q) s = .next (s.afterWork phys s.now)) ∧
      (d ≤ s.now.mer.count → ∃ b, exec (.transitDue phys wn q) s = .next (s.afterWork phys b) ∧ b.dram = s.now.dram ∧ b.nvf = s.now.nvf ∧
        (w.window = wn → (b.trnSlot wn q).state = .empty))) ∧
    (∀ wn q, s.now.host.held.find? (fun h => h.why == .slot wn q) = none → exec (.transitStallCeiling phys wn q) s = .next (s.afterWork phys s.now)) ∧
    (∀ wn q w o n t, s.now.windowCfg wn = some w → s.now.host.held.find? (fun h => h.why == .slot wn q) = some o → o.req.src = .host n t → o.req.write = none →
      ∃ b, exec (.transitStallCeiling phys wn q) s = .next (s.afterWork phys b) ∧ b.host.held = s.now.host.held.erase o ∧ .readData n t 0 true ∈ b.out ∧
        (b.trnSlot wn q).late = true ∧ b.far.lateCount = sat32 s.now.far.lateCount ∧ b.dram = s.now.dram ∧ b.nvf = s.now.nvf)

/-- Half-links: training, keys, ACK and NAK, loss, grace time and return. A half-link that may train sends its challenge and record; where the twin's record passes the checks it comes up at its width with keys, and where it fails them it stays down with its error bit set; while the units may not pair, training does nothing. At D6 under the default Chart an untrained link ends Solo. After 2^31 frames of one direction the key phase toggles. An ACK frees the frames up to its SEQ; a NAK resends from its SEQ and at the eighth resend drops the half-link; the ACK timer acknowledges what has arrived. With both half-links down the link is DOWN. When the grace time passes, a holder is ALONE and a standby's copies are STALE; a link that returns is no longer DOWN. (10_twin_binary_failover.md) -/
def Obligations.HalfLinksOfTheTwinLink : Prop :=
  ∀ (s : State) (phys : Phys), s.blk.aon = true →
    (∀ l w (p : TrainPeer), s.now.mayPair = false ∨ 2 ≤ l ∨ (w ≠ 4 ∧ w ≠ 8 ∧ w ≠ 12) → exec (.crailanilTrain l w p) s = .next (s.after s.now)) ∧
    (∀ l w (p : TrainPeer) c, s.now.mayPair = true → l < 2 → w = 4 ∨ w = 8 ∨ w = 12 → c = natBe 32 (Config.freeNat s.now.free) →
      ∃ b record, exec (.crailanilTrain l w p) s = .next (s.after b) ∧ .crnTrain l c record ∈ b.out ∧ (∀ m, m ≠ l → b.link m = s.now.link m) ∧
        b.dram = s.now.dram ∧ b.nvf = s.now.nvf ∧ b.mer = s.now.mer ∧
        (s.now.trainOk c p = false → b.linkUp l = false ∧ (SMap.get 0 b.errs ErrReg.twn.key).getLsbD 2 = true) ∧
        (s.now.trainOk c p = true → (b.link l).width = w ∧ (b.link l).keys.isSome = true ∧ b.linkUp l = true ∧
          (b.link l).sendSeq = 0 ∧ (b.link l).unacked = [] ∧ b.twin.trained = true ∧ b.twin.peerId = some p.id)) ∧
    (s.now.cht.cur.isDefault = true → s.now.pwr.stage = .dawn 6 → s.now.twin.trained = false →
      ∃ b, exec .trainTimeout s = .next (s.after b) ∧ b.cht.mode = .solo ∧ b.twin.trainTimedOut = true ∧ b.dram = s.now.dram) ∧
    (s.now.cht.cur.isDefault = false ∨ s.now.pwr.stage ≠ .dawn 6 ∨ s.now.twin.trained = true → exec .trainTimeout s = .next (s.after s.now)) ∧
    (∀ l x, s.now.linkUp l = true → 2 ^ 31 ≤ (s.now.link l).frames ∨ 2 ^ 31 ≤ (s.now.link l).framesIn →
      ∃ b, exec (.crailanilRekey l x) s = .next (s.after b) ∧ (b.link l).keyPhase = !(s.now.link l).keyPhase ∧ (b.link l).frames = 0 ∧ (b.link l).framesIn = 0 ∧
        (b.link l).width = (s.now.link l).width ∧ (b.link l).unacked = (s.now.link l).unacked) ∧
    (∀ l x, s.now.linkUp l = false ∨ ((s.now.link l).frames < 2 ^ 31 ∧ (s.now.link l).framesIn < 2 ^ 31) → exec (.crailanilRekey l x) s = .next (s.after s.now)) ∧
    (∀ l q, exec (.crnAck l q) s = .next (s.after (modLink l (fun x => { x with unacked := x.unacked.filter (fun f => decide (q < f.seq)), resends := if x.nak ≤ q then 0 else x.resends }) s.now))) ∧
    (∀ l q, (s.now.link l).unacked.any (fun f => f.seq == q) = false → exec (.crnNak l q) s = .next (s.after s.now)) ∧
    (∀ l q again, (s.now.link l).unacked.any (fun f => f.seq == q) = true → again = (s.now.link l).unacked.filter (fun f => decide (q ≤ f.seq)) →
      ((s.now.link l).nak ≠ q ∨ (s.now.link l).resends < 7 → ∃ b, exec (.crnNak l q) s = .next (s.after b) ∧ b.out = s.now.out ++ [.crnResend l q again] ∧ (b.link l).nak = q ∧
        (b.link l).resends = (if (s.now.link l).nak = q then (s.now.link l).resends + 1 else 1) ∧ (b.link l).width = (s.now.link l).width ∧ b.errs = s.now.errs ∧
        b.twin.replays = sat32Add s.now.twin.replays again.length) ∧
      ((s.now.link l).nak = q → 7 ≤ (s.now.link l).resends → ∃ b, exec (.crnNak l q) s = .next (s.after b) ∧ b.linkUp l = false ∧ (SMap.get 0 b.errs ErrReg.twn.key).getLsbD 3 = true ∧
        b.twin.retrains = Nat.min (s.now.twin.retrains + 1) 0xFFFF)) ∧
    (∀ l, (s.now.link l).ackDue = true → s.now.linkUp l = true →
      exec (.crnAckTimer l) s = .next (s.after (send (.crnAck l ((s.now.link l).recvSeq - 1)) (modLink l (fun x => { x with ackDue := false }) s.now)))) ∧
    (∀ l, (s.now.link l).ackDue = false ∨ s.now.linkUp l = false → exec (.crnAckTimer l) s = .next (s.after s.now)) ∧
    (∀ l, s.now.linkUp l = false → exec (.halfLinkDown phys l) s = .next (s.afterWork phys s.now)) ∧
    (∀ l, l < 2 → s.now.linkUp l = true →
      (s.now.linkUp (1 - l) = true → exec (.halfLinkDown phys l) s = .next (s.afterWork phys (setErr .twn 1 (dropLink l s.now)))) ∧
      (s.now.linkUp (1 - l) = false → ∃ b, exec (.halfLinkDown phys l) s = .next (s.afterWork phys b) ∧ b.twin.linkDown = true ∧ b.twin.graceExpired = false ∧
        b.linkUp 0 = false ∧ b.linkUp 1 = false ∧ b.dram = s.now.dram ∧ b.host = s.now.host)) ∧
    (s.now.twin.linkDown = false ∨ s.now.twin.graceExpired = true ∨ s.now.inDusk = true → exec (.linkGraceExpire phys) s = .next (s.afterWork phys s.now)) ∧
    (s.now.twin.linkDown = true → s.now.twin.graceExpired = false → s.now.inDusk = false → ∃ b, exec (.linkGraceExpire phys) s = .next (s.afterWork phys b) ∧
      b.twin.graceExpired = true ∧ b.twin.syncing = false ∧ b.twin.syncTodo = [] ∧ b.dram = s.now.dram ∧ b.nvf = s.now.nvf ∧
      (s.now.halvesOf.any (fun h => (s.now.half h).role == .holder) = true → b.twin.alone = true ∧ b.host.mirror = []) ∧
      (s.now.halvesOf.any (fun h => (s.now.half h).role != .holder) = true → b.twin.stale = true)) ∧
    (s.now.twin.linkDown = false ∨ s.now.inDusk = true ∨ (s.now.linkUp 0 = false ∧ s.now.linkUp 1 = false) → exec (.linkReturn phys) s = .next (s.afterWork phys s.now)) ∧
    (s.now.twin.linkDown = true → s.now.inDusk = false → s.now.linkUp 0 = true ∨ s.now.linkUp 1 = true → s.now.host.held = [] →
      ∃ b, exec (.linkReturn phys) s = .next (s.afterWork phys b) ∧ b.twin.linkDown = false ∧ b.twin.graceExpired = false ∧ b.twin.shipping = none ∧ b.dram = s.now.dram ∧ b.nvf = s.now.nvf ∧
      (s.now.halvesOf.any (fun h => (s.now.half h).role == .holder) = true → b.twin.syncing = true))

/-- Ethernet ports come up and go down, answer solicitations and drop frames. A port that is part of the Chart's lanes comes up in the medium that trained and advertises itself, with Orbit disabled only PTP_PORT under the source PTP; any other does nothing. A port that goes down leaves the paths. A port whose auto-negotiation times out while it is down uses the chip-to-module option. A solicitation of the unit's own address on a port that is up is answered to the one that asks, to all nodes where it gives no address, and no other is. A dropped frame is counted by its kind. No command here changes memory, keys or queues. (11_orbit_transport.md) -/
def Obligations.EthernetPorts : Prop :=
  ∀ s : State, s.blk.aon = true →
    (∀ p cr, p < ethPorts s.now.cht.cur.orbit → s.now.cht.cur.orbit.enable = true ∨ (s.now.mer.body.source = 1 ∧ p = s.now.mer.body.ptpPort) →
      exec (.ethPortUp p cr) s = .next (s.after (send (.neighbour p false allNodes)
      (modEth p (fun x => { x with up := true, medium := if x.medium = 3 then 3 else if cr then 2 else 1 }) s.now)))) ∧
    (∀ p cr, ethPorts s.now.cht.cur.orbit ≤ p → exec (.ethPortUp p cr) s = .next (s.after s.now) ∧ exec (.autoNegotiationTimeout p) s = .next (s.after s.now)) ∧
    (∀ p cr, s.now.cht.cur.orbit.enable = false → s.now.mer.body.source ≠ 1 ∨ p ≠ s.now.mer.body.ptpPort → exec (.ethPortUp p cr) s = .next (s.after s.now)) ∧
    (∀ p, exec (.ethPortDown p) s = .next (s.after (modEth p (fun x => { x with up := false, medium := 0 }) s.now))) ∧
    (∀ p, p < ethPorts s.now.cht.cur.orbit → (SMap.get EthPort.down s.now.orb.ports p).up = false →
      exec (.autoNegotiationTimeout p) s = .next (s.after (modEth p (fun x => { x with medium := 3 }) s.now))) ∧
    (∀ p, (SMap.get EthPort.down s.now.orb.ports p).up = true → exec (.autoNegotiationTimeout p) s = .next (s.after s.now) ∧
      (∀ a, a ≠ 0 → exec (.neighbourSolicitation p s.now.ipv6 a) s = .next (s.after (send (.neighbour p true a) s.now))) ∧
      exec (.neighbourSolicitation p s.now.ipv6 0) s = .next (s.after (send (.neighbour p false allNodes) s.now))) ∧
    (∀ p a f, a ≠ s.now.ipv6 ∨ (SMap.get EthPort.down s.now.orb.ports p).up = false → exec (.neighbourSolicitation p a f) s = .next (s.after s.now)) ∧
    exec (.ethFrameDiscard .malformed) s = .next (s.after (setErr .orb 2 s.now)) ∧
    exec (.ethFrameDiscard .macControl) s = .next (s.after (countEvent 0x12 3 s.now)) ∧
    exec (.ethFrameDiscard .icmp) s = .next (s.after (countEvent 0x12 4 s.now))

/-- Mirrored writes, forwarded reads and writes, and what the twin never answers. A message whose frame fails is asked for again with a NAK, and none does anything in a Dusk. A MIRROR_WRITE to a mirrored line is served as a write whose completion is MIRROR_ACK, and a forwarded request as one of its own logical device; a standby answers a FWD_READ of a HOT region from its own copy. MIRROR_ACK releases the write's completion, or marks it acknowledged while completions are withheld. FWD_DATA and FWD_DONE complete the forwarded request of their tag. An answer of no request is a stray. A half that the twin does not answer waits no longer. (10_twin_binary_failover.md) -/
def Obligations.MirrorWritesAndForwards : Prop :=
  ∀ (s : State) (phys : Phys), s.blk.aon = true →
    (∀ t a d p e l,
      (s.now.garbled phys (.mirrorWrite t a d p e) = true → exec (.mirrorWrite phys t a d p e) s = .next (s.afterWork phys (s.now.nakked (.mirrorWrite t a d p e)))) ∧
      (s.now.garbled phys (.fwdRead t a l) = true → exec (.fwdRead phys t a l) s = .next (s.afterWork phys (s.now.nakked (.fwdRead t a l)))) ∧
      (s.now.garbled phys (.fwdWrite t a l d p) = true → exec (.fwdWrite phys t a l d p) s = .next (s.afterWork phys (s.now.nakked (.fwdWrite t a l d p)))) ∧
      (s.now.garbled phys (.mirrorAck t) = true → exec (.mirrorAck phys t) s = .next (s.afterWork phys (s.now.nakked (.mirrorAck t)))) ∧
      (s.now.garbled phys (.fwdData t d p) = true → exec (.fwdData phys t d p) s = .next (s.afterWork phys (s.now.nakked (.fwdData t d p)))) ∧
      (s.now.garbled phys (.fwdDone t) = true → exec (.fwdDone phys t) s = .next (s.afterWork phys (s.now.nakked (.fwdDone t)))) ∧
      (s.now.inDusk = true → exec (.mirrorWrite phys t a d p e) s = .next (s.afterWork phys s.now) ∧ exec (.fwdRead phys t a l) s = .next (s.afterWork phys s.now) ∧
        exec (.fwdWrite phys t a l d p) s = .next (s.afterWork phys s.now) ∧ exec (.fwdData phys t d p) s = .next (s.afterWork phys s.now) ∧
        exec (.fwdDone phys t) s = .next (s.afterWork phys s.now))) ∧
    (∀ t a d p e f, s.now.arrives phys (.mirrorWrite t a d p e) = true → f = s.now.arrived (.mirrorWrite t a d p e) →
      (f.mirrorTarget a = none → exec (.mirrorWrite phys t a d p e) s = .next (s.afterWork phys (twinViolation false f))) ∧
      (∀ l r, f.mirrorTarget a = some l → (f.lineInfo l).region = some r → f.keyEmpty r = true →
        exec (.mirrorWrite phys t a d p e) s = .next (s.afterWork phys (setErr .cph 4 f))) ∧
      (∀ l r, f.mirrorTarget a = some l → (f.lineInfo l).region = some r → f.keyEmpty r = false →
        exec (.mirrorWrite phys t a d p e) s = .next (s.afterWork phys (serve phys
          { src := .mirror t e (f.hemi (a / 128)), dpa := (f.lineInfo l).dpa / 128 * 128 + a % 128 / 64 * 64, write := some (d, p) } f)))) ∧
    (∀ t a l d p f, s.now.arrives phys (.fwdWrite t a l d p) = true → f = s.now.arrived (.fwdWrite t a l d p) →
      exec (.fwdWrite phys t a l d p) s = .next (s.afterWork phys (serve phys { src := .twin l t (f.dpaHemi a), dpa := a / 64 * 64, write := some (d, p) } f))) ∧
    (∀ t a l f, s.now.arrives phys (.fwdRead t a l) = true → f = s.now.arrived (.fwdRead t a l) →
      (f.regionOf (a / 64 * 64) = none → f.area (a / 64 * 64) = .none → exec (.fwdRead phys t a l) s = .next (s.afterWork phys (twinViolation false f))) ∧
      (∀ r, f.regionOf (a / 64 * 64) = some r → r.mirror ≠ .hot →
        exec (.fwdRead phys t a l) s = .next (s.afterWork phys (serve phys { src := .twin l t (f.dpaHemi (a / 64 * 64)), dpa := a / 64 * 64, write := none } f))) ∧
      (∀ r x, f.regionOf (a / 64 * 64) = some r → r.mirror = .hot → (f.half (f.halfOf (a / 64 * 64))).role = .standby →
        (readHalf phys (f.lineOf (a / 64 * 64)) (halfIx (a / 64 * 64)) none f).1 = .data x →
        exec (.fwdRead phys t a l) s = .next (s.afterWork phys (send (.crn ((readHalf phys (f.lineOf (a / 64 * 64)) (halfIx (a / 64 * 64)) none f).2.dpaHemi (a / 64 * 64))
          (.fwdData t x false)) (readHalf phys (f.lineOf (a / 64 * 64)) (halfIx (a / 64 * 64)) none f).2)))) ∧
    (∀ t, s.now.arrives phys (.mirrorAck t) = true → s.now.host.mirror.find? (fun m => m.tag = t && !m.acked) = none →
      exec (.mirrorAck phys t) s = .next (s.afterWork phys (twinViolation true (s.now.arrived (.mirrorAck t))))) ∧
    (∀ t m n x, s.now.arrives phys (.mirrorAck t) = true → s.now.host.mirror.find? (fun m => m.tag = t && !m.acked) = some m →
      s.now.withheld (s.now.lineInfo (m.addr / 128)).dpa = false → m.src = some (.host n x) →
      ∃ b, exec (.mirrorAck phys t) s = .next (s.afterWork phys b) ∧ b.out = [.writeDone n x] ∧ b.host.mirror = s.now.host.mirror.filter (fun y => y.tag != t) ∧
        b.dram = s.now.dram ∧ b.nvf = s.now.nvf) ∧
    (∀ t m, s.now.arrives phys (.mirrorAck t) = true → s.now.host.mirror.find? (fun m => m.tag = t && !m.acked) = some m →
      s.now.withheld (s.now.lineInfo (m.addr / 128)).dpa = true →
      ∃ b, exec (.mirrorAck phys t) s = .next (s.afterWork phys b) ∧ b.out = [] ∧ b.host.mirror.length = s.now.host.mirror.length ∧
        (∀ y, y ∈ b.host.mirror → y.tag = t → y.acked = true) ∧ b.dram = s.now.dram) ∧
    (s.now.host.mirror.any (fun m => !m.acked) = true → s.now.twin.linkDown = false → s.now.inDusk = false →
      exec (.mirrorAckTimeout phys) s = .next (s.afterWork phys (setErrLog .twn 0 {} (modTwin (fun t => { t with linkDown := true, graceExpired := false }) s.now)))) ∧
    (s.now.host.mirror.any (fun m => !m.acked) = false ∨ s.now.twin.linkDown = true ∨ s.now.inDusk = true →
      exec (.mirrorAckTimeout phys) s = .next (s.afterWork phys s.now)) ∧
    (∀ t d p f n x, s.now.arrives phys (.fwdData t d p) = true → s.now.twin.fetches.find? (fun y => y.1 = t) = none → s.now.host.fwd.find? (fun y => y.tag = t) = some f →
      f.dead = false → f.req.src = .host n x → f.req.write = none →
      ∃ b, exec (.fwdData phys t d p) s = .next (s.afterWork phys b) ∧ b.out = [.readData n x d p] ∧
        b.host.fwd = s.now.host.fwd.filter (fun y => y.tag != t) ∧ b.dram = s.now.dram ∧ b.nvf = s.now.nvf) ∧
    (∀ t f n x, s.now.arrives phys (.fwdDone t) = true → s.now.host.fwd.find? (fun y => y.tag = t) = some f → f.dead = false → f.req.src = .host n x →
      ∃ b, exec (.fwdDone phys t) s = .next (s.afterWork phys b) ∧ b.out = [.writeDone n x] ∧
        b.host.fwd = s.now.host.fwd.filter (fun y => y.tag != t) ∧ b.dram = s.now.dram ∧ b.nvf = s.now.nvf) ∧
    (∀ t d p, s.now.twin.fetches.find? (fun y => y.1 = t) = none → s.now.host.fwd.find? (fun y => y.tag = t) = none →
      (s.now.arrives phys (.fwdData t d p) = true → exec (.fwdData phys t d p) s = .next (s.afterWork phys (twinViolation true (s.now.arrived (.fwdData t d p))))) ∧
      (s.now.arrives phys (.fwdDone t) = true → exec (.fwdDone phys t) s = .next (s.afterWork phys (twinViolation true (s.now.arrived (.fwdDone t)))))) ∧
    (∀ l i, s.now.twin.fetches.any (fun x => x.2 = 2 * l + i) = false → exec (.twinAnswerTimeout phys l i) s = .next (s.afterWork phys s.now)) ∧
    (∀ l i, s.now.twin.fetches.any (fun x => x.2 = 2 * l + i) = true → s.now.host.held = [] → ∃ b, exec (.twinAnswerTimeout phys l i) s = .next (s.afterWork phys b) ∧
      b.twin.fetches = s.now.twin.fetches.filter (fun x => x.2 != 2 * l + i) ∧ b.dram = s.now.dram) ∧
    exec (.twinViolation true) s = .next (s.after (setErr .twn 8 s.now)) ∧ exec (.twinViolation false) s = .next (s.after (setErrLog .twn 8 {} s.now)) ∧
    (s.now.host.held.find? (fun h => h.why == .ship) = none → exec (.shipHoldRelease phys) s = .next (s.afterWork phys s.now)) ∧
    (∀ o, s.now.host.held.find? (fun h => h.why == .ship) = some o →
      exec (.shipHoldRelease phys) s = .next (s.afterWork phys (retry phys (fun h => h.why == .ship && h.req.dpa / 128 == o.req.dpa / 128) s.now)))

/-- COLD shipping and its acknowledgements, HOT sync, and the twin's state messages. A message whose frame fails is asked for again with a NAK, and none does anything in a Dusk. A holder that ships nothing sends the pages of the next sealed epoch and then COLD_END. A received COLD page joins its epoch's delta; COLD_END with the right count completes the delta and is acknowledged once its units are durable, with another count it drops the incomplete delta; COLD_ACK records S and frees what the epoch needed, and an ACK of another epoch is a stray. SYNC_DIGEST is answered by the comparison; SYNC_PAGE makes the page RESIDENT; SYNC_MATCH ends the wait, and the page follows where the digests differ. The sync's end clears STALE at a standby and ALONE at a holder. SF_UPDATE, STATE, SWITCH_EPOCH and CHART_CONFIRM record what they carry; STATE is sent on its timer. (10_twin_binary_failover.md) -/
def Obligations.ColdDeltasAndHotSync : Prop :=
  ∀ (s : State) (phys : Phys), s.blk.aon = true →
    (∀ t, s.now.paired = false ∨ s.now.inDusk = true ∨ s.now.twin.linkDown = true ∨ s.now.twin.shipping.isSome = true ∨
        s.now.halvesOf.any (fun h => (s.now.half h).role == .holder) = false → exec (.coldShipStart phys t) s = .next (s.after s.now)) ∧
    (∀ t e z, s.now.paired = true → s.now.inDusk = false → s.now.twin.linkDown = false → s.now.twin.shipping = none →
      s.now.halvesOf.any (fun h => (s.now.half h).role == .holder) = true → s.now.twin.catchUp = none → s.now.nextShip = some e → s.now.mer.sealedEpoch = some z →
      (z < e → exec (.coldShipStart phys t) s = .next (s.after s.now)) ∧
      (e ≤ z → ∃ b, exec (.coldShipStart phys t) s = .next (s.after b) ∧ b.twin.shipping = some e ∧
        b.out.getLast? = some (.crn 0 (.coldEnd ((s.now.twin.shipList.filter (fun x => x.2 = e))).length e))) ∧
      (e ≤ z → s.now.twin.shipList.filter (fun x => x.2 = e) = [] → exec (.coldShipStart phys t) s =
        .next (s.after (send (.crn 0 (.coldEnd 0 e)) (modTwin (fun t => { t with shipping := some e }) s.now))))) ∧
    (∀ k e ls n d x ll w y c,
      (s.now.garbled phys (.coldPage k e ls) = true → exec (.coldPage phys k e ls) s = .next (s.afterWork phys (s.now.nakked (.coldPage k e ls)))) ∧
      (s.now.garbled phys (.coldEnd n e) = true → exec (.coldEnd phys n e) s = .next (s.afterWork phys (s.now.nakked (.coldEnd n e)))) ∧
      (s.now.garbled phys (.coldAck e) = true → exec (.coldAck phys e) s = .next (s.afterWork phys (s.now.nakked (.coldAck e)))) ∧
      (s.now.garbled phys (.syncDigest k n 0) = true → exec (.syncDigest phys k n) s = .next (s.afterWork phys (s.now.nakked (.syncDigest k n 0)))) ∧
      (s.now.garbled phys (.syncPage k n ll) = true → exec (.syncPage phys k n ll) s = .next (s.afterWork phys (s.now.nakked (.syncPage k n ll)))) ∧
      (s.now.garbled phys (.syncMatch k x) = true → exec (.syncMatch phys k x n) s = .next (s.afterWork phys (s.now.nakked (.syncMatch k x)))) ∧
      (s.now.garbled phys (.sfUpdate k w) = true → exec (.sfUpdate phys k w) s = .next (s.afterWork phys (s.now.nakked (.sfUpdate k w)))) ∧
      (s.now.garbled phys (.state k y c false) = true → exec (.twinState phys k y c) s = .next (s.afterWork phys (s.now.nakked (.state k y c false)))) ∧
      (s.now.garbled phys (.switchEpoch e) = true → exec (.switchEpoch phys e) s = .next (s.afterWork phys (s.now.nakked (.switchEpoch e)))) ∧
      (s.now.garbled phys (.chartConfirm d) = true → exec (.chartConfirm phys d) s = .next (s.afterWork phys (s.now.nakked (.chartConfirm d)))) ∧
      (s.now.inDusk = true → exec (.coldPage phys k e ls) s = .next (s.afterWork phys s.now) ∧ exec (.coldEnd phys n e) s = .next (s.afterWork phys s.now) ∧
        exec (.syncDigest phys k n) s = .next (s.afterWork phys s.now) ∧ exec (.syncPage phys k n ll) s = .next (s.afterWork phys s.now) ∧
        exec (.sfUpdate phys k w) s = .next (s.afterWork phys s.now) ∧ exec (.twinState phys k y c) s = .next (s.afterWork phys s.now) ∧
        exec (.switchEpoch phys e) s = .next (s.afterWork phys s.now) ∧ exec (.chartConfirm phys d) s = .next (s.afterWork phys s.now))) ∧
    (s.now.twinTakes = true → exec .stateTimer s = .next (s.after (send (.crn 0 (.state s.now.roles s.now.mer.sealedEpoch s.now.twin.copies s.now.twin.stale)) s.now))) ∧
    (s.now.twinTakes = false → exec .stateTimer s = .next (s.after s.now)) ∧
    (∀ p e ls r, s.now.arrives phys (.coldPage p e ls) = true → p < 2 ^ 36 → (carveAt s.now.cht.cur.near (p * 4096)).isNone = true → s.now.binary = false →
      s.now.regionOf (p * 4096) = some r → s.now.mirrorClass r = .cold →
      ∃ b, exec (.coldPage phys p e ls) s = .next (s.afterWork phys b) ∧ b.twin.coldCount = s.now.twin.coldCount + 1 ∧ b.presence p = .pending ∧
        (∃ d u, d ∈ b.twin.deltas ∧ d.epoch = e ∧ SMap.find? d.units p = some u ∧ u.lines = ls ∧ u.stamp = e ∧ u.region = r.id)) ∧
    (∀ n e, s.now.arrives phys (.coldEnd n e) = true → n ≠ s.now.twin.coldCount →
      exec (.coldEnd phys n e) s = .next (s.afterWork phys (modTwin (fun t => { t with coldCount := 0, coldWait := [] })
        (dropDeltas (fun d => d.epoch != e || d.complete) (s.now.arrived (.coldEnd n e)))))) ∧
    (∀ k b, (dropDeltas k b).twin.deltas = b.twin.deltas.filter k ∧ (dropDeltas k b).dram = b.dram) ∧
    (∀ n e ok, s.now.arrives phys (.coldEnd n e) = true → n = s.now.twin.coldCount → s.now.twin.coldWait = [] →
      ok = (s.now.twin.deltas.filter (fun d => d.epoch == e)).all (fun d => d.units.all (fun x => s.now.durable x.2) && d.farUnits.all (fun x => s.now.durable x.2)) →
      ∃ b, exec (.coldEnd phys n e) s = .next (s.afterWork phys b) ∧ b.twin.coldCount = 0 ∧
        (ok = true → b.out.getLast? = some (.crn 0 (.coldAck e)) ∧ b.twin.coldHeld = some e ∧ b.twin.coldDue = none) ∧
        (ok = false → b.out = [] ∧ b.twin.coldHeld = s.now.twin.coldHeld ∧ b.twin.coldDue = some e)) ∧
    (∀ p x f, s.now.arrives phys (.syncDigest p x 0) = true → f = s.now.arrived (.syncDigest p x 0) →
      (f.mirrorTarget (p * 4096) = none → exec (.syncDigest phys p x) s = .next (s.afterWork phys (twinViolation false f))) ∧
      (∀ l, f.mirrorTarget (p * 4096) = some l → exec (.syncDigest phys p x) s =
        .next (s.afterWork phys (send (.crn (f.hemi (p * 32)) (.syncMatch p (digestOf (pageNow phys (l / 32) f).1 != x))) (noteSync (pageNow phys (l / 32) f).2))))) ∧
    (∀ p x ll f, s.now.arrives phys (.syncPage p x ll) = true → f = s.now.arrived (.syncPage p x ll) →
      (f.mirrorTarget (p * 4096) = none → exec (.syncPage phys p x ll) s = .next (s.afterWork phys (twinViolation false f))) ∧
      (∀ l r, f.mirrorTarget (p * 4096) = some l → (f.lineInfo l).region = some r → f.keyEmpty r = true →
        exec (.syncPage phys p x ll) s = .next (s.afterWork phys (setErr .cph 4 f))) ∧
      (∀ l r, f.mirrorTarget (p * 4096) = some l → (f.lineInfo l).region = some r → f.keyEmpty r = false →
        ∃ b, exec (.syncPage phys p x ll) s = .next (s.afterWork phys b) ∧ b.presence (l / 32) = .resident ∧ b.twin.stale = true ∧ b.nvf = s.now.nvf)) ∧
    (∀ g f, s.now.arrives phys (.sfUpdate g none) = true → f = s.now.arrived (.sfUpdate g none) → exec (.sfUpdate phys g none) s =
      .next (s.afterWork phys { f with host := { f.host with sf := SMap.erase f.host.sf g, sfTick := f.host.sfTick + 1 } })) ∧
    (∀ g w f, s.now.arrives phys (.sfUpdate g (some w)) = true → f = s.now.arrived (.sfUpdate g (some w)) → exec (.sfUpdate phys g (some w)) s =
      .next (s.afterWork phys { f with host := { f.host with sf := SMap.insert f.host.sf g ⟨w, f.host.sfTick + 1⟩, sfTick := f.host.sfTick + 1 } })) ∧
    (∀ x y, s.now.arrives phys (.state 0 x y false) = true → ∃ b, exec (.twinState phys 0 x y) s = .next (s.afterWork phys b) ∧ b.twin.peerRoles = 0 ∧
      b.twin.peerSealed = x ∧ b.twin.peerCopies = y ∧ b.dram = s.now.dram ∧ b.twin.halves = s.now.twin.halves) ∧
    (∀ e, s.now.arrives phys (.switchEpoch e) = true → ∃ b, exec (.switchEpoch phys e) s = .next (s.afterWork phys b) ∧ b.twin.switchEpoch = some e ∧
      (∀ a, s.now.cht.apply = some a → a.switched = false → b.cht.apply = some { a with epoch := e } ∧ b.cht.applyEpoch = e) ∧
      (∀ a, s.now.cht.commitNext = some a → a.switched = false → b.cht.commitNext = some { a with epoch := e }) ∧ b.dram = s.now.dram) ∧
    (∀ d, s.now.arrives phys (.chartConfirm d) = true →
      (∀ a k, s.now.cht.commitWait = some (a, k) →
        (a.next.digest = d → exec (.chartConfirm phys d) s = .next (s.afterWork phys (acceptLive a.next (s.now.arrived (.chartConfirm d))))) ∧
        (a.next.digest ≠ d → exec (.chartConfirm phys d) s = .next (s.afterWork phys (s.now.arrived (.chartConfirm d))))) ∧
      (s.now.cht.commitWait = none → s.now.cht.staged = some d → s.now.cht.state = .verified →
        exec (.chartConfirm phys d) s = .next (s.afterWork phys (send (.crn 0 (.chartConfirm d)) (s.now.arrived (.chartConfirm d)))))) ∧
    (∀ e, s.now.arrives phys (.coldAck e) = true → s.now.twin.shipping ≠ some e →
      exec (.coldAck phys e) s = .next (s.afterWork phys (twinViolation true (s.now.arrived (.coldAck e))))) ∧
    (∀ e, s.now.arrives phys (.coldAck e) = true → s.now.twin.shipping = some e → s.now.twin.catchUp = none →
      ∃ b, exec (.coldAck phys e) s = .next (s.afterWork phys b) ∧ b.twin.shipping = none ∧ b.twin.shipped = some e ∧
      b.twin.shipList = s.now.twin.shipList.filter (fun x => decide (e < x.2)) ∧ b.twin.captures = s.now.twin.captures.filter (fun x => decide (e < x.2.1)) ∧
      b.host = s.now.host ∧ b.dram = s.now.dram) ∧
    (∀ p d x f, s.now.arrives phys (.syncMatch p d) = true → f = s.now.arrived (.syncMatch p d) →
      (SMap.find? s.now.twin.syncWait p = none → exec (.syncMatch phys p d x) s = .next (s.afterWork phys (twinViolation true f))) ∧
      (∀ y, SMap.find? s.now.twin.syncWait p = some y →
        (d = false → exec (.syncMatch phys p d x) s = .next (s.afterWork phys (modTwin (fun t => { t with syncWait := SMap.erase t.syncWait p }) f))) ∧
        (d = true → y ≠ x → exec (.syncMatch phys p d x) s = .next (s.afterWork phys (sendSyncPage phys p (modTwin (fun t => { t with syncWait := SMap.erase t.syncWait p }) f)))) ∧
        (d = true → y = x → ∃ b, exec (.syncMatch phys p d x) s = .next (s.afterWork phys (sendSyncPage phys p b)) ∧ b.twin.syncWait = SMap.erase s.now.twin.syncWait p ∧
          b.twin.divergent = sat32 s.now.twin.divergent ∧ b.dram = s.now.dram))) ∧
    (s.now.inDusk = true → exec .hotSyncDone s = .next (s.after s.now)) ∧
    (s.now.inDusk = false → s.now.twin.syncing = true → s.now.twin.syncTodo = [] → s.now.twin.syncWait = [] → ∃ b, exec .hotSyncDone s = .next (s.after b) ∧
      b.twin.syncing = false ∧ b.twin.alone = false ∧ b.dram = s.now.dram ∧ b.twin.halves = s.now.twin.halves) ∧
    (s.now.inDusk = false → s.now.twin.syncing = false → s.now.halvesOf.any (fun h => (s.now.half h).role != .holder) = true → ∃ b, exec .hotSyncDone s = .next (s.after b) ∧
      b.twin.stale = false ∧ b.twin.copies = s.now.hotRegions ∧ b.dram = s.now.dram ∧ b.twin.halves = s.now.twin.halves)

/-- Heartbeats, renewals, fences, grants, revocations and the lease commands. In the lease HEARTBEAT is sent, RENEW of a held half is sent from half the lease before expiry on, and at the fence instant a held half is fenced: gates closed, expiry gone, an Eclipse begun. A grant to a holder takes the new expiry, no more than L + G ahead; a standby with nothing to assume opens; one of another unit or tag is recorded and gives nothing; one already past its fence opens nothing; a faulted unit and a stale one without FORCE answer with their status. REVOKE fences what is held and is acknowledged either way. STATUS_QUERY answers the code in force. A bad message is counted. AUDIT starts a sync at a holder; RELEASE gives a held half up. Outside the lease the messages do nothing. (10_twin_binary_failover.md) -/
def Obligations.LeaseAndArbiterMessages : Prop :=
  ∀ (s : State) (phys : Phys), s.blk.aon = true →
    (s.now.arbTakes = true → exec .heartbeat s = .next (s.after (sendArb .heartbeat 0 s.now.roles s.now.sealedNo s.now))) ∧
    (s.now.arbTakes = false → exec .heartbeat s = .next (s.after s.now) ∧ (∀ h, exec (.renew h) s = .next (s.after s.now) ∧ exec (.revoke h) s = .next (s.after s.now) ∧
      exec (.statusQuery h) s = .next (s.after s.now)) ∧ ∀ g, exec (.grant phys g) s = .next (s.afterWork phys s.now)) ∧
    (∀ h x, s.now.arbTakes = true → (s.now.half h).expiry = some x → (s.now.half h).role = .holder →
      (x ≤ s.now.mer.count + s.now.leaseL / 2 → exec (.renew h) s = .next (s.after (modHalf h (fun y => { y with renewSent := some s.now.mer.count }) (sendArb .renew h 0 0 s.now)))) ∧
      (s.now.mer.count + s.now.leaseL / 2 < x → exec (.renew h) s = .next (s.after s.now))) ∧
    (∀ h f, s.now.fenceAt h = some f →
      ((s.now.half h).role = .holder → f ≤ (s.now.mer.count : Int) → s.now.inDusk = false → ∃ b, exec (.fence h) s = .next (s.after b) ∧ (b.half h).role = .eclipse ∧
        (b.half h).gateOpen = false ∧ (b.half h).expiry = none ∧ (b.half h).eclipse = true ∧ b.twin.eclipseStart = s.now.mer.count ∧
        (∀ g, g ≠ h → b.half g = s.now.half g) ∧ (SMap.get 0 b.errs ErrReg.twn.key).getLsbD 6 = true) ∧
      ((s.now.half h).role ≠ .holder ∨ (s.now.mer.count : Int) < f ∨ s.now.inDusk = true → exec (.fence h) s = .next (s.after s.now))) ∧
    (s.now.arbTakes = true → s.now.twin.arbUp = true →
      (∀ g, (g.unit ≠ s.now.ident.unitId ∨ g.pairTag ≠ s.now.pairTag ∨ s.now.halvesOf.contains g.half = false) →
        exec (.grant phys g) s = .next (s.afterWork phys (setErrLog .twn 11 {} s.now))) ∧
      (∀ g, g.unit = s.now.ident.unitId → g.pairTag = s.now.pairTag → s.now.halvesOf.contains g.half = true →
        (s.now.halo.fatal = true ∨ s.now.twin.faulted = true → exec (.grant phys g) s = .next (s.afterWork phys (sendStatus g.half 5 s.now))) ∧
        (s.now.halo.fatal = false → s.now.twin.faulted = false → g.expiry ≤ s.now.mer.count + s.now.leaseL + s.now.leaseG →
          ((g.expiry : Int) - s.now.leaseG - s.now.mer.drift ≤ (s.now.mer.count : Int) → exec (.grant phys g) s = .next (s.afterWork phys (setErrLog .twn 10 {} s.now))) ∧
          ((s.now.mer.count : Int) < (g.expiry : Int) - s.now.leaseG - s.now.mer.drift →
            ((s.now.half g.half).role = .holder → exec (.grant phys g) s = .next (s.afterWork phys (openHalf phys g.half g.expiry g.leaseNo s.now))) ∧
            ((s.now.half g.half).role = .standby → s.now.twin.stale = true → g.force = false → exec (.grant phys g) s = .next (s.afterWork phys (sendStatus g.half 1 s.now))) ∧
            ((s.now.half g.half).role = .standby → s.now.twin.stale = false → s.now.host.held = [] → s.now.hasCold = false → s.now.twin.coldHeld = none → s.now.twin.peerRoles = 0 →
              (s.now.half g.half).eclipse = false → ∃ b, exec (.grant phys g) s = .next (s.afterWork phys b) ∧ (b.half g.half).role = .holder ∧
              (b.half g.half).gateOpen = true ∧ (b.half g.half).expiry = some g.expiry ∧ (b.half g.half).leaseNo = g.leaseNo ∧ b.dram = s.now.dram ∧
              (∀ k, k ≠ g.half → b.half k = s.now.half k))))) ∧
      (∀ h, ((s.now.half h).role = .holder → exec (.revoke h) s = .next (s.after (sendArb .fenceAck h 0 s.now.sealedNo (fenceHalf h s.now)))) ∧
        ((s.now.half h).role ≠ .holder → exec (.revoke h) s = .next (s.after (sendArb .fenceAck h 0 s.now.sealedNo (countUncoded s.now))))) ∧
      (∀ h, exec (.statusQuery h) s = .next (s.after (sendStatus h s.now.statusCode s.now)))) ∧
    (s.now.inDusk = false → exec (.arbiterMessageInvalid .crc) s = .next (s.after (setErr .twn 9 s.now)) ∧
      exec (.arbiterMessageInvalid .unknownType) s = .next (s.after (setErr .twn 11 s.now))) ∧
    (s.now.inDusk = true → ∀ k, exec (.arbiterMessageInvalid k) s = .next (s.after s.now)) ∧
    exec .arbSymbolLock s = .next (s.after { s.now with twin := { s.now.twin with arbUp := true } }) ∧
    exec .arbSymbolLockLoss s = .next (s.after { s.now with twin := { s.now.twin with arbUp := false } }) ∧
    (s.now.pwr.sysRst = false →
      (s.now.inDusk = true → exec .audit s = .next (s.after s.now) ∧ ∀ h, exec (.twnRelease h) s = .next (s.after s.now)) ∧
      (s.now.inDusk = false → s.now.paired = true →
        (s.now.halvesOf.any (fun h => (s.now.half h).role == .holder) = true → exec .audit s = .next (s.after (startSync [] s.now))) ∧
        (s.now.halvesOf.any (fun h => (s.now.half h).role == .holder) = false → exec .audit s = .next (s.after (setErr .twn 12 s.now))) ∧
        (∀ h, (s.now.half h).role ≠ .holder → exec (.twnRelease h) s = .next (s.after s.now)) ∧
        (∀ h, (s.now.half h).role = .holder → exec (.twnRelease h) s = .next (s.after (sendArb .release h 6 s.now.sealedNo (fenceHalf h s.now))))))

/-- WRITE, READ, atomics and notify packets that arrive. While Orbit is closed or the port down nothing happens; a bad frame is counted and a packet of no valid association is dropped as not authentic. A REQUEST that passes the reception checks and the key check, at a unit alone whose gate is open, is performed: the payload is written, the range read, the atomic done at its half, or the result of an atomic or notify already done answered again; a notify adds one to the counter. A failed key check is answered by its code, with no access to memory. (11_orbit_transport.md) -/
def Obligations.OrbitRequestsThatArrive : Prop :=
  ∀ (s : State) (phys : Phys) (w : Wire) (p : OrbPkt), s.blk.aon = true →
    (s.now.orb.isOpen = false ∨ (SMap.get EthPort.down s.now.orb.ports w.port).up = false →
      exec (.orbWrite phys w p) s = .next (s.afterWork phys s.now) ∧ exec (.orbRead phys w p) s = .next (s.afterWork phys s.now) ∧
      exec (.atomicAdd phys w p) s = .next (s.afterWork phys s.now) ∧ exec (.atomicCas phys w p) s = .next (s.afterWork phys s.now) ∧
      exec (.writeNotify phys w p) s = .next (s.afterWork phys s.now)) ∧
    (s.now.orb.isOpen = true → (SMap.get EthPort.down s.now.orb.ports w.port).up = true →
      (s.now.badFrame w p = true → exec (.orbRead phys w p) s = .next (s.afterWork phys (setErr .orb 2 s.now))) ∧
      (s.now.badFrame w p = false → s.now.sa? p.sa = none → exec (.orbRead phys w p) s = .next (s.afterWork phys (authDrop s.now)))) ∧
    (∀ a q b, s.now.receives w p a = true → b = useSlot a.keySlot 1 false s.now → p.kind = 1 → p.version = 1 → p.flagBits = 0 → b.missingCtx p = false → b.missingKey p = false →
      p.dstQ < b.cht.cur.orbit.backedQueues → b.oq p.dstQ = some q → p.badLength = false → SMap.has b.orb.window (p.dstQ % 2) = false →
      (∀ c, b.keyCheck p q.group = .inr c → c ≠ 3 → p.op = 3 → p.notify = false → p.payload = [] →
        exec (.orbRead phys w p) s = .next (s.afterWork phys (answerAck (p.dstQ % 2) p c 0 b))) ∧
      (∀ c, b.keyCheck p q.group = .inr c → c ≠ 3 → p.op = 1 → p.notify = false → exec (.orbWrite phys w p) s = .next (s.afterWork phys (answerAck (p.dstQ % 2) p c 0 b))) ∧
      (∀ k t i, b.keyCheck p q.group = .inl k → t = k.base + p.remote + p.offset → i = p.key / 2 ^ 40 → b.paired = false → b.binary = false →
        (b.half 0).gateOpen = true →
        (p.op = 1 → p.notify = false → exec (.orbWrite phys w p) s = .next (s.afterWork phys (startJob phys k.owner (.place p w.port i) (writeAccesses t p.payload) b))) ∧
        (p.op = 3 → p.notify = false → p.payload = [] → exec (.orbRead phys w p) s = .next (s.afterWork phys (startJob phys k.owner (.read p i t) (readAccesses t p.span) b))) ∧
        (p.notify = false → p.payload = [] → b.orb.openCount ≤ p.msgCount →
          (∀ r, b.replayFind (p.dstQ % 2) p = some r →
            (p.op = 4 → exec (.atomicAdd phys w p) s = .next (s.afterWork phys (answerData (p.dstQ % 2) p 0 0 r.result [] b))) ∧
            (p.op = 5 → exec (.atomicCas phys w p) s = .next (s.afterWork phys (answerData (p.dstQ % 2) p 0 0 r.result [] b)))) ∧
          (b.replayFind (p.dstQ % 2) p = none → b.replayUsed (p.dstQ % 2) < 32768 → b.atomicBusy p = false → t % 64 ≤ 56 →
            (p.op = 4 → exec (.atomicAdd phys w p) s = .next (s.afterWork phys (startJob phys k.owner (.atomic p i t)
              [{ dpa := t / 64 * 64, write := some (0, false), part := .add (t % 64) p.op1 }] b))) ∧
            (p.op = 5 → exec (.atomicCas phys w p) s = .next (s.afterWork phys (startJob phys k.owner (.atomic p i t)
              [{ dpa := t / 64 * 64, write := some (0, false), part := .cas (t % 64) p.op1 p.op2 }] b)))))) ∧
      (∀ k, b.keyCheck p q.group = .inl k → p.op = 2 → p.notify = true → p.payload = [] →
        (∀ r, b.replayFind (p.dstQ % 2) p = some r → exec (.writeNotify phys w p) s = .next (s.afterWork phys (answerAck (p.dstQ % 2) p 0 0 b))) ∧
        (b.replayFind (p.dstQ % 2) p = none → b.replayUsed (p.dstQ % 2) < 32768 → b.orb.openCount ≤ p.msgCount → ∀ q', q' = { q with counter := wrap64 (q.counter + 1) } →
          exec (.writeNotify phys w p) s = .next (s.afterWork phys (answerAck (p.dstQ % 2) p 0 0
            (addReplay (p.dstQ % 2) ⟨p.src, p.srcQ, p.msgId, p.msgCount, 0⟩ (noteCounter phys p.dstQ q' (modOq p.dstQ (fun _ => q') b))))))))

/-- ACK and READ_DATA that arrive, doorbells, segments, timers and the replay cache. An ACK entry of no segment in flight, and READ_DATA of none, is a stray. Code 0 for a data segment that is not the last takes it out and adds its length to what is done; other messages stay. READ_DATA of a READ writes its payload at the local address. A doorbell of the owner sets the tail and is a violation otherwise. A queue sends nothing that its windows, port or message do not allow. A retransmit timer puts the window at 1 and resends; the message horizon completes with TIMEOUT once reached; a WAIT with a timeout completes with WAIT_TIMEOUT. A fetched context is on chip. A replay entry goes once its time has passed; an ECC error opens the engine's window, which its end closes. (11_orbit_transport.md) -/
def Obligations.OrbitAnswersAndSending : Prop :=
  ∀ (s : State) (phys : Phys), s.blk.aon = true →
    (∀ w p, s.now.orb.isOpen = false ∨ (SMap.get EthPort.down s.now.orb.ports w.port).up = false →
      exec (.orbAck phys w p) s = .next (s.afterWork phys s.now) ∧ exec (.readData phys w p) s = .next (s.afterWork phys s.now)) ∧
    (∀ w p a b, s.now.receives w p a = true → b = useSlot a.keySlot 1 false s.now →
      (∀ x, p.kind = 3 → p.acks = [x] → b.omsg x.queue x.msgId = none → exec (.orbAck phys w p) s = .next (s.afterWork phys (setErr .orb 5 b))) ∧
      (∀ x m, p.kind = 3 → p.acks = [x] → b.omsg x.queue x.msgId = some m → SMap.find? m.segs x.offset = none →
        exec (.orbAck phys w p) s = .next (s.afterWork phys (setErr .orb 5 b))) ∧
      (∀ x m g, p.kind = 3 → p.acks = [x] → b.omsg x.queue x.msgId = some m → SMap.find? m.segs x.offset = some g → g.notify = false → x.code = 0 →
        SMap.erase m.segs x.offset ≠ [] → ∃ c, exec (.orbAck phys w p) s = .next (s.afterWork phys c) ∧
          c.omsg x.queue x.msgId = some { m with segs := SMap.erase m.segs x.offset, done := m.done + g.len } ∧ c.errs = b.errs ∧ c.dram = b.dram ∧
          (∀ q, q ≠ x.queue → c.oq q = b.oq q)) ∧
      (p.kind = 2 → b.oq p.srcQ = none → exec (.readData phys w p) s = .next (s.afterWork phys (setErr .orb 5 b))) ∧
      (∀ q m g, p.kind = 2 → b.oq p.srcQ = some q → b.omsg p.srcQ p.msgId = some m → SMap.find? m.segs p.offset = some g → g.busy = false → m.op = 3 → p.payload.length = g.len →
        p.op1 = 0 → exec (.readData phys w p) s = .next (s.afterWork phys (startJob phys q.owner (.land p.srcQ p.msgId p.offset) (writeAccesses (m.localDpa + p.offset) p.payload)
          (modMsg p.srcQ p.msgId (fun x => { x with segs := SMap.insert x.segs p.offset { g with busy := true } }) b))))) ∧
    (∀ n q t, s.now.ldTakes n = true →
      (∀ x, s.now.oq q = some x → x.owner = n → exec (.orbDoorbell phys n q t) s = .next (s.afterWork phys (modOq q (fun y => { y with tail := t % 2 ^ 32 }) s.now))) ∧
      (∀ x, s.now.oq q = some x → x.owner ≠ n → exec (.orbDoorbell phys n q t) s = .next (s.afterWork phys (windowViolation n (0x1100000 + 4 * q) false s.now))) ∧
      (s.now.oq q = none → exec (.orbDoorbell phys n q t) s = .next (s.afterWork phys (windowViolation n (0x1100000 + 4 * q) false s.now)))) ∧
    (∀ q, s.now.oq q = none → exec (.segmentSend phys q) s = .next (s.afterWork phys s.now) ∧ exec (.waitTimeout phys q) s = .next (s.afterWork phys s.now) ∧
      exec (.waitTableRetry phys q) s = .next (s.afterWork phys s.now)) ∧
    (∀ q x m, s.now.oq q = some x → x.msgs.find? (fun m => m.unsent) = some m →
      (s.now.queueMoves q x = false ∨ s.now.portsUp = [] ∨ m.msgCount + s.now.orbLt ≤ s.now.mer.count → exec (.segmentSend phys q) s = .next (s.afterWork phys s.now)) ∧
      (s.now.queueMoves q x = true → s.now.portsUp ≠ [] → s.now.mer.count < m.msgCount + s.now.orbLt → (x.inFlight : Rat) < x.cwnd →
        s.now.segsOf (q % 2) < 32768 → m.op ≠ 3 → ∀ o g, m.unit (s.now.cht.cur.orbit.maxInflight - x.inFlight) = [(o, g)] →
        exec (.segmentSend phys q) s = .next (s.afterWork phys (sendSeg phys q x m o (s.now.timed x g)
          (modMsg q m.msgId (fun y => { y with next := Nat.min (m.next + 4096) y.len, segs := SMap.insert y.segs o (s.now.timed x g) }) s.now))))) ∧
    (∀ q i o, s.now.omsg q i = none → exec (.retransmitTimer phys q i o) s = .next (s.afterWork phys s.now) ∧ exec (.messageHorizon phys q i) s = .next (s.afterWork phys s.now)) ∧
    (∀ q i o m, s.now.omsg q i = some m →
      (SMap.has m.segs o = true → exec (.retransmitTimer phys q i o) s = .next (s.afterWork phys (resendSeg phys q i o true (modOq q (fun x => { x with cwnd := 1 }) s.now)))) ∧
      (m.msgCount + s.now.orbLt ≤ s.now.mer.count → exec (.messageHorizon phys q i) s = .next (s.afterWork phys (finishMsg q m.idx 11 s.now))) ∧
      (s.now.mer.count < m.msgCount + s.now.orbLt → exec (.messageHorizon phys q i) s = .next (s.afterWork phys s.now))) ∧
    (∀ q x m, s.now.oq q = some x → x.waiting = some m →
      (m.op2 / 2 ^ 32 = 0 → exec (.waitTimeout phys q) s = .next (s.afterWork phys s.now)) ∧
      (∀ y, m.op2 / 2 ^ 32 ≠ 0 → s.now.oq (m.op2 % 2 ^ 22) = some y → exec (.waitTimeout phys q) s = .next (s.afterWork phys (endWait q m.idx 13 y.counter s.now))) ∧
      (m.waitFull = true → s.now.waitsOf (q % 2) < 16384 → exec (.waitTableRetry phys q) s = .next (s.afterWork phys
        (modOq q (fun x => { x with msgs := x.msgs.map (fun m => if m.op = 6 then { m with waitFull := false } else m) }) s.now)))) ∧
    (∀ i, i < s.now.cht.cur.orbit.backedQueues → s.now.orb.miss = [] → exec (.contextFetchDone phys true i) s = .next (s.afterWork phys (modOrb (fun o => { o with miss := [] }) (loadCtx i s.now)))) ∧
    (∀ e r q i, ∃ b, exec (.replayEntryExpire e r q i) s = .next (s.after b) ∧ b.host = s.now.host ∧ b.dram = s.now.dram ∧ b.orb.queues = s.now.orb.queues ∧
      ∀ x, x ∈ b.replay e ↔ x ∈ s.now.replay e ∧ ¬ (x.src = r ∧ x.queue = q ∧ x.msgId = i ∧ x.msgCount + s.now.orbLt + s.now.mer.drift < s.now.mer.count)) ∧
    (∀ e m i, ∃ b, exec (.replayCacheEcc (.replay e) m i) s = .next (s.after b) ∧ SMap.find? b.orb.window (e % 2) = some s.now.mer.count ∧
      (SMap.get 0 b.errs ErrReg.orb.key).getLsbD 10 = true) ∧
    (∀ e, SMap.find? s.now.orb.window e = none → exec (.replayWindowEnd e) s = .next (s.after s.now)) ∧
    (∀ e c, SMap.find? s.now.orb.window e = some c →
      (c + s.now.orbLt + s.now.mer.drift < s.now.mer.count → exec (.replayWindowEnd e) s = .next (s.after
        (modOrb (fun o => { o with window := SMap.erase o.window e, openCount := s.now.mer.count }) s.now))) ∧
      (s.now.mer.count ≤ c + s.now.orbLt + s.now.mer.drift → exec (.replayWindowEnd e) s = .next (s.after s.now)))

/-- The Orbit command registers: queues and memory keys of a logical device. A command while one is BUSY leaves everything but REASON as it was. CREATE_QUEUE with Orbit not enabled, too early, or with a bad ring fails by its reason; else it takes the number asked for, or the lowest free one, and answers it. DESTROY, RESUME and QUERY work on a queue that the caller owns and fail by their reason otherwise. REGISTER_KEY fails by its reason or writes the entry asked for; DEREGISTER_KEY of the right tag and owner invalidates it, and fails otherwise. (11_orbit_transport.md) -/
def Obligations.OrbitQueueAndKeyCommands : Prop :=
  ∀ (s : State) (phys : Phys) (n : Nat) (args : List Nat), s.blk.aon = true → s.now.ldTakes n = true →
    ((s.now.orbCmd n).state = 1 → ∀ b, b = modOrbCmd n (fun c => { c with reason := 6 }) s.now →
      exec (.orbCreateQueue phys n args) s = .next (s.afterWork phys b) ∧ exec (.orbDestroyQueue phys n args) s = .next (s.afterWork phys b) ∧
      exec (.orbResumeQueue phys n args) s = .next (s.afterWork phys b) ∧ exec (.registerKey phys n args) s = .next (s.afterWork phys b) ∧
      exec (.deregisterKey phys n args) s = .next (s.afterWork phys b) ∧ exec (.queryQueue phys n args) s = .next (s.afterWork phys b)) ∧
    ((s.now.orbCmd n).state ≠ 1 → s.now.fwWaits = false →
      (∀ b, b = takeOrbCmd n 1 args s.now →
        (b.cht.cur.orbit.enable = false → exec (.orbCreateQueue phys n args) s = .next (s.afterWork phys (orbFail n 5 b))) ∧
        (b.cht.cur.orbit.enable = true → b.pwr.boot.duskCount.any (fun c => decide (b.mer.count ≤ c + b.orbLt)) = true → exec (.orbCreateQueue phys n args) s = .next (s.afterWork phys (orbFail n 7 b))) ∧
        (∀ c l q, c = b.orbCmd n → l = c.arg 1 % 32 → b.cht.cur.orbit.enable = true → b.pwr.boot.duskCount.any (fun c => decide (b.mer.count ≤ c + b.orbLt)) = false → 4 ≤ l → l ≤ 16 →
          b.ringOk n (c.arg 0) (2 ^ l * 64) = true → b.ringOk n (c.arg 2) (2 ^ l * 32) = true → b.ringOk n (c.arg 3) 8 = true → (c.arg 1).testBit 32 = true →
          q = c.arg 1 / 2 ^ 36 % 2 ^ 22 →
          (b.queueFree q = false → exec (.orbCreateQueue phys n args) s = .next (s.afterWork phys (orbFail n 1 b))) ∧
          (b.queueFree q = true → ∃ t, exec (.orbCreateQueue phys n args) s = .next (s.afterWork phys t) ∧
            t.oq q = some { owner := n, sq := c.arg 0, cq := c.arg 2, counterDpa := c.arg 3, log2 := l, group := c.arg 1 / 2 ^ 16 % 2 ^ 16 } ∧
            (t.orbCmd n).state = 2 ∧ (t.orbCmd n).arg 5 = q ∧ (∀ k, k ≠ q → t.oq k = b.oq k) ∧ t.dram = b.dram))) ∧
      (∀ b q, b = takeOrbCmd n 2 args s.now → q = (b.orbCmd n).arg 0 →
        (∀ r, b.ownQueue n q = .inr r → exec (.orbDestroyQueue phys n args) s = .next (s.afterWork phys (orbFail n r b))) ∧
        (∀ x, b.ownQueue n q = .inl x → ∃ t, exec (.orbDestroyQueue phys n args) s = .next (s.afterWork phys t) ∧ t.oq q = none ∧ (∀ k, k ≠ q → t.oq k = b.oq k) ∧
          (t.orbCmd n).state = 2 ∧ t.dram = b.dram)) ∧
      (∀ b q, b = takeOrbCmd n 3 args s.now → q = (b.orbCmd n).arg 0 →
        (∀ r, b.ownQueue n q = .inr r → exec (.orbResumeQueue phys n args) s = .next (s.afterWork phys (orbFail n r b))) ∧
        (∀ x, b.ownQueue n q = .inl x → exec (.orbResumeQueue phys n args) s = .next (s.afterWork phys (orbDone n id (modOq q (fun x => { x with err := false }) b))))) ∧
      (∀ b, b = takeOrbCmd n 4 args s.now →
        (b.cht.cur.orbit.enable = false → exec (.registerKey phys n args) s = .next (s.afterWork phys (orbFail n 5 b))) ∧
        (∀ c k, c = b.orbCmd n → k = c.arg 3 → b.cht.cur.orbit.enable = true → c.arg 1 ≠ 0 → b.inView n (c.arg 0) (c.arg 1) = true → c.arg 2 % 8 ≠ 0 → (c.arg 2).testBit 32 = true →
          (SMap.has b.orb.keyUsed (k / 2 ^ 40) = true → k / 2 ^ 40 < b.cht.cur.orbit.keys → exec (.registerKey phys n args) s = .next (s.afterWork phys (orbFail n 8 b))) ∧
          (SMap.has b.orb.keyUsed (k / 2 ^ 40) = false → k / 2 ^ 40 < b.cht.cur.orbit.keys →
            exec (.registerKey phys n args) s = .next (s.afterWork phys (orbDone n (fun c => c.setArg 3 k) (setKey phys (k / 2 ^ 40)
              { base := c.arg 0, length := c.arg 1, tag := k % 2 ^ 40, rights := c.arg 2 % 8, valid := true, group := c.arg 2 / 2 ^ 16 % 2 ^ 16, owner := n } b)))))) ∧
      (∀ b k e, b = takeOrbCmd n 5 args s.now → k = (b.orbCmd n).arg 3 → SMap.find? b.orb.keys (k / 2 ^ 40) = some e →
        (SMap.has b.orb.keyUsed (k / 2 ^ 40) = false ∨ e.tag ≠ k % 2 ^ 40 → exec (.deregisterKey phys n args) s = .next (s.afterWork phys (orbFail n 4 b))) ∧
        (SMap.has b.orb.keyUsed (k / 2 ^ 40) = true → e.tag = k % 2 ^ 40 → e.owner ≠ n → exec (.deregisterKey phys n args) s = .next (s.afterWork phys (orbFail n 2 b))) ∧
        (SMap.has b.orb.keyUsed (k / 2 ^ 40) = true → e.tag = k % 2 ^ 40 → e.owner = n → exec (.deregisterKey phys n args) s = .next (s.afterWork phys
          (modOrb (fun o => { o with dereg := o.dereg ++ [(n, k / 2 ^ 40)] }) (setKey phys (k / 2 ^ 40) {} b))))) ∧
      (∀ b q, b = takeOrbCmd n 6 args s.now → q = (b.orbCmd n).arg 0 →
        (∀ x, b.ownQueue n q = .inl x → exec (.queryQueue phys n args) s = .next (s.afterWork phys (orbDone n (fun c =>
          ((c.setArg 1 ((if x.err then 3 else if x.waiting.isSome then 2 else 1) + x.errStatus * 256)).setArg 2 (x.head + x.cqNext * 2 ^ 32)).setArg 3 x.counter) b))) ∧
        (b.ownQueue n q = .inr 2 → exec (.queryQueue phys n args) s = .next (s.afterWork phys (orbFail n 2 b)))))

/-- The cipher command registers of a logical device and of the management path. A command while one is BUSY leaves everything but REASON as it was. CREATE_QUEUE by another than the Chart's owner, on a number in use or with a bad ring fails by its reason, else the queue stands. DESTROY closes and RESUME clears the error of an owned queue. UNWRAP of a bad address fails, else the blob is read. CLEAR_SLOT and QUERY_SLOT fail on a slot that is no user slot, is not the caller's or, to clear, is in use; else the slot is EMPTY with its floor, count and check, or its state is answered. On the management path CLEAR_SLOT of a slot in use fails, UNWRAP of a blob of bad format fails with result 1, and both are ignored while BUSY. (12_cipher_engine.md) -/
def Obligations.CipherQueueAndSlotCommands : Prop :=
  ∀ (s : State) (phys : Phys), s.blk.aon = true →
    (∀ n args, s.now.ldTakes n = true →
      ((s.now.cphCmd n).state = 1 → ∀ b, b = modCphCmd n (fun c => { c with reason := 3 }) s.now →
        exec (.cphCreateQueue phys n args) s = .next (s.afterWork phys b) ∧ exec (.cphDestroyQueue phys n args) s = .next (s.afterWork phys b) ∧
        exec (.cphResumeQueue phys n args) s = .next (s.afterWork phys b) ∧ exec (.unwrapKey phys n args) s = .next (s.afterWork phys b) ∧
        exec (.clearSlot phys n args) s = .next (s.afterWork phys b) ∧ exec (.querySlot phys n args) s = .next (s.afterWork phys b)) ∧
      ((s.now.cphCmd n).state ≠ 1 → s.now.fwWaits = false →
        (∀ b c q l, b = takeCphCmd n 1 args s.now → c = b.cphCmd n → q = c.arg 0 % 256 → l = c.arg 3 % 16 →
          (b.queueOwner q ≠ some n → exec (.cphCreateQueue phys n args) s = .next (s.afterWork phys (cphFail n 1 b))) ∧
          (b.queueOwner q = some n → (b.cq q).isSome = true → exec (.cphCreateQueue phys n args) s = .next (s.afterWork phys (cphFail n 4 b))) ∧
          (b.queueOwner q = some n → b.cq q = none → 4 ≤ l → l ≤ 12 → b.ringOk n (c.arg 1) (2 ^ l * 64) = true → b.ringOk n (c.arg 2) (2 ^ l * 16) = true →
            ∃ t, exec (.cphCreateQueue phys n args) s = .next (s.afterWork phys t) ∧ t.cq q = some { owner := n, sq := c.arg 1, cq := c.arg 2, log2 := l } ∧
              (t.cphCmd n).state = 2 ∧ (∀ k, k ≠ q → t.cq k = b.cq k) ∧ t.dram = b.dram ∧ t.cph.slots = b.cph.slots)) ∧
        (∀ b q, b = takeCphCmd n 2 args s.now → q = (b.cphCmd n).arg 0 % 256 →
          (∀ r, b.ownCq n q = .inr r → exec (.cphDestroyQueue phys n args) s = .next (s.afterWork phys (cphFail n r b))) ∧
          (∀ x, b.ownCq n q = .inl x → exec (.cphDestroyQueue phys n args) s = .next (s.afterWork phys (modCq q (fun x => { x with closing := true }) b)))) ∧
        (∀ b q, b = takeCphCmd n 3 args s.now → q = (b.cphCmd n).arg 0 % 256 →
          (∀ r, b.ownCq n q = .inr r → exec (.cphResumeQueue phys n args) s = .next (s.afterWork phys (cphFail n r b))) ∧
          (∀ x, b.ownCq n q = .inl x → exec (.cphResumeQueue phys n args) s = .next (s.afterWork phys (cphDone n id (modCq q (fun x => { x with err := false }) b))))) ∧
        (∀ b a, b = takeCphCmd n 4 args s.now → a = (b.cphCmd n).arg 1 →
          (a % 16 ≠ 0 → exec (.unwrapKey phys n args) s = .next (s.afterWork phys (cphFail n 2 b))) ∧
          (a % 16 = 0 → b.inView n a 112 = true → exec (.unwrapKey phys n args) s = .next (s.afterWork phys (startJob phys n (.blob n)
            (readAccesses a (if b.inView n a 144 then 144 else 112)) b)))) ∧
        (∀ b q, b = takeCphCmd n 5 args s.now → q = (b.cphCmd n).arg 0 →
          (userSlot q = false → exec (.clearSlot phys n args) s = .next (s.afterWork phys (cphFail n 2 b))) ∧
          (userSlot q = true → (b.slot q).ldMask.testBit n = false → exec (.clearSlot phys n args) s = .next (s.afterWork phys (cphFail n 1 b))) ∧
          (userSlot q = true → (b.slot q).ldMask.testBit n = true → b.slotInUse q = true → exec (.clearSlot phys n args) s = .next (s.afterWork phys (cphFail n 4 b))) ∧
          (userSlot q = true → (b.slot q).ldMask.testBit n = true → b.slotInUse q = false →
            ∃ t, exec (.clearSlot phys n args) s = .next (s.afterWork phys t) ∧ (t.cphCmd n).state = 2 ∧
              t.slot q = { floor := (b.slot q).floor, count := (b.slot q).count, check := (b.slot q).check } ∧ (∀ k, k ≠ q → t.slot k = b.slot k) ∧ t.dram = b.dram)) ∧
        (∀ b q, b = takeCphCmd n 6 args s.now → q = (b.cphCmd n).arg 0 → userSlot q = true → (b.slot q).ldMask.testBit n = true →
          exec (.querySlot phys n args) s = .next (s.afterWork phys (cphDone n (fun c => ((c.setArg 1 (b.slotInfo q).toNat).setArg 2 (b.slot q).count).setArg 3 (b.slot q).limit) b))))) ∧
    (s.now.pwr.sysRst = false →
      (s.now.cph.cmd.state = 1 → ∀ q, exec (.mgmtUnwrap phys q) s = .next (s.afterWork phys s.now) ∧ exec (.mgmtClearSlot phys q) s = .next (s.afterWork phys s.now)) ∧
      (s.now.cph.cmd.state ≠ 1 → s.now.fwWaits = false →
        (∀ q, blobFormatOk s.now.blobBytes = false → ∃ b, exec (.mgmtUnwrap phys q) s = .next (s.afterWork phys b) ∧ b.cph.cmd.state = 3 ∧ b.cph.cmd.unwrap = 1 ∧
          b.cph.slots = s.now.cph.slots ∧ b.dram = s.now.dram) ∧
        (∀ q, userSlot q = true → s.now.slotInUse q = false → ∃ b, exec (.mgmtClearSlot phys q) s = .next (s.afterWork phys b) ∧ b.cph.cmd.state = 2 ∧
          b.slot q = { floor := (s.now.slot q).floor, count := (s.now.slot q).count, check := (s.now.slot q).check } ∧ (∀ k, k ≠ q → b.slot k = s.now.slot k)) ∧
        (∀ q, userSlot q = false ∨ s.now.slotInUse q = true → ∃ b, exec (.mgmtClearSlot phys q) s = .next (s.afterWork phys b) ∧ b.cph.cmd.state = 3 ∧
          b.cph.slots = s.now.cph.slots)))

/-- Cipher doorbells, completions, verify buffers, register pages and the slot store. A doorbell of the queue's owner sets its tail and is a violation otherwise. A descriptor that has its status, oldest first, leaves its queue and its completion entry is written; status 3 and above puts the queue in error; nothing happens before. A freed buffer is no longer counted. GO starts the operation on an idle page, with its failure decided at once, and is a violation on a busy one; a length past its limit leaves that field as it was; the page's end reports its status, and the data buffer holds the output of an XTS encryption; an OPEN that waits for a verify buffer goes on waiting. An ECC error in the slot store empties the slot, keeping its floor, count and check, and asserts the pin. (12_cipher_engine.md) -/
def Obligations.CipherDescriptorsAndPages : Prop :=
  ∀ (s : State) (phys : Phys), s.blk.aon = true →
    (∀ n q t, s.now.ldTakes n = true →
      (∀ x, s.now.cq q = some x → x.owner = n → exec (.cphDoorbell phys n q t) s = .next (s.afterWork phys (modCq q (fun y => { y with tail := t % 2 ^ 32 }) s.now))) ∧
      (∀ x, s.now.cq q = some x → x.owner ≠ n → exec (.cphDoorbell phys n q t) s = .next (s.afterWork phys (windowViolation n (0x2901000 + 4 * q) false s.now))) ∧
      (s.now.cq q = none → exec (.cphDoorbell phys n q t) s = .next (s.afterWork phys (windowViolation n (0x2901000 + 4 * q) false s.now)))) ∧
    (∀ q, s.now.cq q = none → exec (.cipherDescComplete phys q) s = .next (s.afterWork phys s.now)) ∧
    (∀ q x, s.now.cq q = some x → s.now.cphMoves x = false ∨ x.jobs = [] → exec (.cipherDescComplete phys q) s = .next (s.afterWork phys s.now)) ∧
    (∀ q x j rest, s.now.cq q = some x → s.now.cphMoves x = true → x.jobs = j :: rest →
      (j.status = none → exec (.cipherDescComplete phys q) s = .next (s.afterWork phys s.now)) ∧
      (∀ st, j.status = some st → exec (.cipherDescComplete phys q) s = .next (s.afterWork phys (startJob phys x.owner (.cphNote q)
        (writeAccesses (x.cq + 16 * (j.index % 2 ^ x.log2)) (natLe 4 (if st = 0 then j.len else 0) ++ natLe 1 st ++ natLe 1 (phaseOf x.log2 j.index) ++ natLe 2 0 ++ natLe 8 j.left))
        (modCq q (fun y => { y with jobs := rest, done := (y.done + 1) % 2 ^ 32, err := y.err || decide (3 ≤ st) }) s.now))))) ∧
    (∀ h, SMap.get 0 s.now.cph.verifyDone h = 0 → exec (.verifyBufferFree phys h) s = .next (s.afterWork phys s.now)) ∧
    (∀ h, 0 < SMap.get 0 s.now.cph.verifyDone h → s.now.cph.queues = [] → s.now.cph.pages = [] → exec (.verifyBufferFree phys h) s = .next (s.afterWork phys (modCph (fun o => { o with
      verify := SMap.upd 0 o.verify h (· - 1), verifyDone := SMap.upd 0 o.verifyDone h (· - 1) }) s.now))) ∧
    (∀ n w, s.now.ldTakes n = true →
      (s.now.cht.cur.cipher.pages = false ∨ (s.now.page n).state = .busy → exec (.pageGo n w) s = .next (s.after (windowViolation n 0x2A00000 false s.now))) ∧
      (s.now.cht.cur.cipher.pages = true → (s.now.page n).state ≠ .busy → s.now.inDusk = true → exec (.pageGo n w) s = .next (s.after s.now)) ∧
      (s.now.cht.cur.cipher.pages = true → (s.now.page n).state ≠ .busy → s.now.inDusk = false →
        (∀ len aadLen, len = pageLimit 16384 (fieldOf w 31 17) (s.now.page n).length → aadLen = pageLimit 4096 (fieldOf w 44 32) (s.now.page n).aadLen →
          (∀ st, s.now.opCheck n (fieldOf w 3 1) (fieldOf w 16 4) len aadLen = some st →
            ∃ b, exec (.pageGo n w) s = .next (s.after b) ∧ (b.page n).state = .busy ∧ (b.page n).fail = some st ∧ b.cph.slots = s.now.cph.slots ∧ b.dram = s.now.dram) ∧
          (s.now.opCheck n (fieldOf w 3 1) (fieldOf w 16 4) len aadLen = none → 1 ≤ fieldOf w 3 1 → fieldOf w 3 1 ≤ 2 →
            ∃ b, exec (.pageGo n w) s = .next (s.after b) ∧ (b.page n).state = .busy ∧ (b.page n).fail = none ∧ (b.page n).op = fieldOf w 3 1 ∧ (b.page n).slot = fieldOf w 16 4 ∧
              (b.page n).length = len ∧ (b.page n).aadLen = aadLen ∧ (b.page n).data = (s.now.page n).data ∧ b.dram = s.now.dram)))) ∧
    (∀ n, (s.now.page n).waitBuf = true → exec (.pageDone n) s = .next (s.after s.now)) ∧
    (∀ n, (s.now.page n).waitBuf = false → (s.now.page n).state ≠ .busy → exec (.pageDone n) s = .next (s.after (endPageVerify n s.now))) ∧
    (∀ n st, (s.now.page n).waitBuf = false → (s.now.page n).holdsBuf = false → (s.now.page n).state = .busy → (s.now.page n).fail = some st →
      exec (.pageDone n) s = .next (s.after (modPage n (fun p => { p with state := .done, status := st, fail := none }) s.now))) ∧
    (∀ n p, p = s.now.page n → p.waitBuf = false → p.state = .busy → p.fail = none → p.op = 1 → ∃ b, exec (.pageDone n) s = .next (s.after b) ∧ (b.page n).state = .done ∧ (b.page n).status = 0 ∧
      (b.page n).data = bufPut p.data (Config.xtsBytes true p.key (p.iv0.toNat + 2 ^ 64 * p.iv1.toNat) (bufBytes p.data p.length)) ∧ b.dram = s.now.dram ∧ b.cph.slots = s.now.cph.slots) ∧
    (∀ h q, s.now.cht.cur.faults = [] → userSlot q = true → ∃ b, exec (.slotStoreEcc h q) s = .next (s.after b) ∧
      b.slot q = { floor := (s.now.slot q).floor, count := (s.now.slot q).count, check := (s.now.slot q).check } ∧
      (SMap.get 0 b.errs ErrReg.cph.key).getLsbD 6 = true ∧ b.flt.status.getLsbD (if h % 2 = 0 then 44 else 48) = true ∧ b.dram = s.now.dram)

/-- I3C and MCTP, vendor commands, key wrapping and PLDM monitoring. A dynamic address is stored by ENTDAA, and by SETDASA to the target's own static address only. A wrong PEC on I3C sets PEC_ERROR; it, a packet longer than the transmission unit and one on no transport are dropped; packets join until the last. An endpoint identifier and a transmission unit in range are stored, others refused or ignored. REG_READ, REG_WRITE, LOG_READ and ALM_READ fail by their status for a bad address or count, and answer otherwise; a REG_WRITE to no register changes nothing, and one to a register whose command is busy is answered BUSY. WRAP_KEY and GENERATE_KEY outside an owner session fail; a wrapped key is answered in one. The PLDM queries answer without changing anything else. (18_management_interfaces.md) -/
def Obligations.ManagementPathAnswers : Prop :=
  ∀ s : State, s.blk.aon = true →
    (∀ x a, x = none ∨ x = some (s.now.i3cStatic 0) → exec (.i3cDynamicAddress 0 x a) s = .next (s.after (modMgt (fun m => { m with daddrA := a % 128 }) s.now))) ∧
    (∀ x a, x = none ∨ x = some (s.now.i3cStatic 1) → exec (.i3cDynamicAddress 1 x a) s = .next (s.after (modMgt (fun m => { m with daddrB := a % 128 }) s.now))) ∧
    (∀ p x a, x ≠ s.now.i3cStatic p → exec (.i3cDynamicAddress p (some x) a) s = .next (s.after s.now)) ∧
    (∀ t f l x, t < 2 → exec (.mctpPacket t false f l x) s = .next (s.after (setErr .mgt 4 s.now))) ∧
    (∀ t f l x, s.now.mtu t < x.length ∨ s.now.hasTransport t = false → exec (.mctpPacket t true f l x) s = .next (s.after s.now)) ∧
    (∀ t x, s.now.hasTransport t = true → x.length ≤ s.now.mtu t → x.length ≤ 4096 → exec (.mctpPacket t true true false x) s = .next (s.after (modMgt (fun m => { m with assembling := SMap.insert m.assembling t x }) s.now))) ∧
    (∀ t x y, s.now.hasTransport t = true → x.length ≤ s.now.mtu t → SMap.find? s.now.mgt.assembling t = some y → (y ++ x).length ≤ 4096 →
      exec (.mctpPacket t true false false x) s = .next (s.after (modMgt (fun m => { m with assembling := SMap.insert m.assembling t (y ++ x) }) s.now))) ∧
    (∀ t x y, s.now.hasTransport t = true → x.length ≤ s.now.mtu t → SMap.find? s.now.mgt.assembling t = some y → exec (.mctpPacket t true false true x) s = .next (s.after (modMgt (fun m => { m with assembling := SMap.erase m.assembling t }) s.now))) ∧
    (∀ t i, 0 < i → i < 255 → exec (.setEndpointId t i) s = .next (s.after (send (.mctp t 1 0 i) (addJob .bootRecord (modMgt (fun m => { m with eid := i, savedEid := i }) s.now))))) ∧
    (∀ t i, i = 0 ∨ 255 ≤ i → exec (.setEndpointId t i) s = .next (s.after (send (.mctp t 1 2 s.now.mgt.eid) s.now))) ∧
    (∀ n, 64 ≤ n → n ≤ 256 → exec (.setMtu 0 n) s = .next (s.after (modMgt (fun m => { m with mtuA := n }) s.now)) ∧
      exec (.setMtu 1 n) s = .next (s.after (modMgt (fun m => { m with mtuB := n }) s.now))) ∧
    (∀ p n, n < 64 ∨ 256 < n → exec (.setMtu p n) s = .next (s.after s.now)) ∧
    (∀ t g a n, (a % 8 ≠ 0 → exec (.regRead t g a n) s = .next (s.after (vendorFail t g 1 2 n a s.now))) ∧
      (a % 8 = 0 → n = 0 ∨ 32 < n ∨ regSpaceEnd < a + 8 * n → exec (.regRead t g a n) s = .next (s.after (vendorFail t g 1 3 n a s.now))) ∧
      (a % 8 = 0 → 0 < n → n ≤ 32 → a + 8 * n ≤ regSpaceEnd →
        exec (.regRead t g a n) s = .next (s.after (send (.vendor t (vendorMsg 1 0 g n a ((List.range n).flatMap (fun i => bitsBytes 8 (s.now.regRead (a + 8 * i)))))) s.now)))) ∧
    (∀ e t u g a n w, (a % 8 ≠ 0 → exec (.regWrite e t u g a n w) s = .next (s.afterWork e.phys (vendorFail t g 2 2 n a s.now)).blow) ∧
      (a % 8 = 0 → n ≠ 1 ∨ regSpaceEnd < a + 8 → exec (.regWrite e t u g a n w) s = .next (s.afterWork e.phys (vendorFail t g 2 3 n a s.now)).blow)) ∧
    (∀ e t u g a w, a % 8 = 0 → a + 8 ≤ regSpaceEnd →
      ((regAt s.now a).isNone = true → exec (.regWrite e t u g a 1 w) s = .next (s.afterWork e.phys (send (.vendor t (vendorMsg 2 0 g 1 a [])) s.now)).blow) ∧
      ((regAt s.now a).isSome = true → s.now.mayWrite (writeClass a) a w (s.now.ownerSession t u) = false →
        exec (.regWrite e t u g a 1 w) s = .next (s.afterWork e.phys (vendorFail t g 2 1 1 a s.now)).blow) ∧
      ((regAt s.now a).isSome = true → s.now.mayWrite (writeClass a) a w (s.now.ownerSession t u) = true → s.now.cmdBusy a w = false →
        exec (.regWrite e t u g a 1 w) s = .next (s.afterWork e.phys (send (.vendor t (vendorMsg 2 0 g 1 a [])) (regWrite e a w s.now))).blow) ∧
      ((regAt s.now a).isSome = true → s.now.mayWrite (writeClass a) a w (s.now.ownerSession t u) = true → s.now.cmdBusy a w = true → s.now.regInReset a = false →
        exec (.regWrite e t u g a 1 w) s = .next (s.afterWork e.phys (send (.vendor t (vendorMsg 2 4 g 1 a [])) (regWrite e a w s.now))).blow)) ∧
    (∀ t g a n bad f, n = 0 ∨ 16 < n → exec (.logRead t g a n bad f) s = .next (s.after (vendorFail t g 3 3 n a s.now))) ∧
    (∀ t g a n, 0 < n → n ≤ 16 → exec (.logRead t g a n [] false) s = .next (s.after (send (.vendor t (vendorMsg 3 0 g
      ((bySeq ((s.now.logbook.recs.map (fun e => e.2)).filter (fun r => decide (a ≤ r.seq)))).take n).length a
      (((bySeq ((s.now.logbook.recs.map (fun e => e.2)).filter (fun r => decide (a ≤ r.seq)))).take n).flatMap (fun r => r.bytes)))) s.now))) ∧
    (∀ t g a, (530 < a → exec (.almRead t g a 1) s = .next (s.after (vendorFail t g 4 3 1 a s.now))) ∧
      (a ≤ 530 → s.now.alm.storing.isSome = true → exec (.almRead t g a 1) s = .next (s.after (vendorFail t g 4 4 1 a s.now))) ∧
      (a < 512 → s.now.alm.storing = none → exec (.almRead t g a 1) s = .next (s.after (send (.vendor t (vendorMsg 4 0 g 1 a (s.now.almBytes a))) s.now))) ∧
      (512 ≤ a → a ≤ 530 → s.now.alm.storing = none → exec (.almRead t g a 1) s = .next (s.after (send (.vendor t (vendorMsg 4 0 g 1 a
        ((List.range 32).flatMap (fun i => natLe 4 (SMap.get 0 s.now.alm.events (32 * (a - 512) + i)))))) s.now)))) ∧
    (∀ t g c n a, c = 0 ∨ 6 < c → exec (.vendorUnsupported t g c n a) s = .next (s.after (vendorFail t g c 5 n a s.now))) ∧
    (∀ t u g n a hdr key, s.now.ownerSession t u = false → exec (.wrapKey t u g n a hdr key) s = .next (s.after (vendorFail t g 5 6 n a s.now)) ∧
      exec (.generateKey t u g n a hdr) s = .next (s.after (vendorFail t g 6 6 n a s.now))) ∧
    (∀ t u g hdr key, s.now.ownerSession t u = true → hdr.length = 64 → key.length = (if uAt hdr 8 1 = 1 then 64 else 32) → s.now.cph.kek.isSome = true →
      ∃ x, (wrapBlob hdr key s.now).1 = some x ∧ exec (.wrapKey t u g 1 0 hdr key) s = .next (s.after (send (.vendor t (vendorMsg 5 0 g 1 0 x)) (wrapBlob hdr key s.now).2))) ∧
    (∀ t u g hdr f, s.now.ownerSession t u = true → hdr.length = 64 → f = drawFree s.now → s.now.cph.kek.isSome = true →
      ∃ x, (wrapBlob hdr (natLe (if uAt hdr 8 1 = 1 then 64 else 32) f.1) f.2).1 = some x ∧
        exec (.generateKey t u g 1 0 hdr) s = .next (s.after (send (.vendor t (vendorMsg 6 0 g 1 0 x)) (wrapBlob hdr (natLe (if uAt hdr 8 1 = 1 then 64 else 32) f.1) f.2).2))) ∧
    (∀ t r, exec (.setEventReceiver t r) s = .next (s.after (send (.pldm t 2 4 0 []) (modMgt (fun m => { m with receiver := r }) s.now)))) ∧
    (∀ t i, sensorIds.contains i = false → ∃ c, exec (.getSensorReading t i) s = .next (s.after (send (.pldm t 2 c 0x80 []) s.now))) ∧
    (∀ t i v, sensorIds.contains i = true → s.now.sensorValue i = some v → ∃ c, exec (.getSensorReading t i) s = .next (s.after (send (.pldm t 2 c 0 [signedBits 32 v, s.now.sensorState i]) s.now))) ∧
    (∀ t i, sensorIds.length < i → exec (.getPdr t i) s = .next (s.after (send (.pldm t 2 0x51 0x82 []) s.now))) ∧
    (∀ t i, i ≤ sensorIds.length → ∃ r, exec (.getPdr t i) s = .next (s.after (send (.pldm t 2 0x51 0 r) s.now)) ∧ sensorIds[i - 1]? = r[1]?) ∧
    (∀ t, ∃ r, exec (.getFruRecordTable t) s = .next (s.after (send (.pldm t 4 2 0 r) s.now))) ∧
    (∀ t a, 0 < a → a < 255 → exec (.pldmBase t 1 a) s = .next (s.after (send (.pldm t 0 1 0 []) (modMgt (fun m => { m with tid := a }) s.now)))) ∧
    (∀ t a, exec (.pldmBase t 2 a) s = .next (s.after (send (.pldm t 0 2 0 [s.now.mgt.tid]) s.now)) ∧
      exec (.pldmBase t 4 a) s = .next (s.after (send (.pldm t 0 4 0 [0, 2, 4, 5]) s.now)))

/-- The firmware update's commands, from RequestUpdate to its end. RequestUpdate when one is under way, when not permitted or for another package is refused by its code, else the update is requested, and an activation still pending is cancelled. PassComponentTable and UpdateComponent are accepted in their states only, from one who may update and for the right component; UpdateComponent starts the erases of the bank that is not active. A block of the size asked for is taken; any other is ignored. Verification makes the update ready or reports the failure, and does nothing unless it is due. ActivateFirmware names the new bank active on trial in a boot record: with the running supervisor's digest the cores restart, with another the next reset runs it, and in Twilight it ends Twilight; a cancel or the agent's timeout ends the update with UPDATE_ABORT and leaves the active bank. Without an update the later commands are refused or do nothing. (18_management_interfaces.md) -/
def Obligations.FirmwareUpdateCommands : Prop :=
  ∀ s : State, s.blk.aon = true →
    (∀ t u f, (s.now.mgt.update ≠ .idle → exec (.requestUpdate t u f) s = .next (s.after (updateSay t 0x10 0x81 s.now))) ∧
      (s.now.mgt.update = .idle → s.now.mayUpdate t u = false ∨ f = false ∨ s.now.inDusk = true → exec (.requestUpdate t u f) s = .next (s.after (updateSay t 0x10 0x8A s.now))) ∧
      (s.now.mgt.update = .idle → s.now.mayUpdate t u = true → f = true → s.now.inDusk = false → ∃ b, exec (.requestUpdate t u f) s = .next (s.after b) ∧ b.mgt.update = .requested ∧
        b.out = [.pldm t 5 0x10 0 []] ∧ b.mgt.banks = s.now.mgt.banks ∧ b.mgt.pendingReset = false ∧ b.dram = s.now.dram ∧
        (s.now.mgt.pendingReset = false → b.mgt.active = s.now.mgt.active) ∧
        (∀ r, s.now.mgt.pendingReset = true → s.now.mgt.running = some r → b.mgt.active = r.bank ∧ b.mgt.trial = false))) ∧
    (s.now.mgt.update = .idle → ∀ t u f n, exec (.passComponentTable t u f) s = .next (s.after (updateSay t 0x13 0x80 s.now)) ∧ exec (.updateComponent t u n f) s = .next (s.after (updateSay t 0x14 0x80 s.now)) ∧
      exec (.activateFirmware t u) s = .next (s.after (updateSay t 0x1A 0x80 s.now)) ∧ exec (.cancelUpdate t u) s = .next (s.after (updateSay t 0x1D 0x80 s.now)) ∧
      exec .updateAgentTimeout s = .next (s.after s.now) ∧ (∀ x, exec (.firmwareData x) s = .next (s.after s.now)) ∧ ∀ x, exec (.verifyComplete t x) s = .next (s.after s.now)) ∧
    (∀ t u f, s.now.mgt.update = .requested → s.now.mayUpdate t u = true →
      exec (.passComponentTable t u f) s = .next (s.after (if f then updateSay t 0x13 0 (modMgt (fun m => { m with update := .table }) s.now) else updateSay t 0x13 0x82 s.now))) ∧
    (∀ t u n f, s.now.mgt.update = .table → s.now.mayUpdate t u = true →
      (f = false ∨ n = 0 ∨ 2 ^ 23 < n → exec (.updateComponent t u n f) s = .next (s.after (updateSay t 0x14 0x82 s.now))) ∧
      (f = true → 0 < n → n ≤ 2 ^ 23 → ∃ b, exec (.updateComponent t u n f) s = .next (s.after b) ∧ b.mgt.update = .erasing 256 ∧ b.mgt.updateSize = n ∧ b.mgt.updateGot = 0 ∧
        b.mgt.active = s.now.mgt.active ∧ SMap.find? b.mgt.banks s.now.targetBank = none ∧ b.out = [.pldm t 5 0x14 0 []] ∧ b.dram = s.now.dram)) ∧
    (∀ x, s.now.mgt.update ≠ .receiving ∨ s.now.inDusk = true ∨ x.length ≠ Nat.min 4096 (s.now.mgt.updateSize - s.now.mgt.updateGot) ∨ x = [] →
      exec (.firmwareData x) s = .next (s.after s.now)) ∧
    (∀ x, s.now.mgt.update = .receiving → s.now.inDusk = false → x.length = Nat.min 4096 (s.now.mgt.updateSize - s.now.mgt.updateGot) → x ≠ [] →
      s.now.efl.cur ≠ some (.firmware s.now.targetBank) → s.now.efl.jobs.contains (.firmware s.now.targetBank) = false →
      ∃ b, exec (.firmwareData x) s = .next (s.after b) ∧ b.mgt.updateGot = s.now.mgt.updateGot + x.length ∧ b.mgt.header = s.now.mgt.header ++ x.take (sectorBytes - s.now.mgt.updateGot) ∧
        b.mgt.active = s.now.mgt.active ∧ b.mgt.update = .receiving ∧ b.dram = s.now.dram) ∧
    (∀ t x, s.now.mgt.update ≠ .verifying → exec (.verifyComplete t x) s = .next (s.after s.now)) ∧
    (∀ t x, s.now.mgt.update = .verifying → ∃ b, exec (.verifyComplete t x) s = .next (s.after b) ∧ b.mgt.active = s.now.mgt.active ∧ b.mgt.banks = s.now.mgt.banks ∧
      (((s.now.bankInfo s.now.targetBank x).result = .ok ∧ s.now.cht.cur.target.minFw ≤ (s.now.bankInfo s.now.targetBank x).version) → b.mgt.update = .ready ∧ b.out = [.pldm t 5 0x17 0 []]) ∧
      ((s.now.bankInfo s.now.targetBank x).result ≠ .ok → b.mgt.update = .verifying ∧ b.out = [.pldm t 5 0x17 1 []])) ∧
    (∀ t u, s.now.mgt.update ≠ .idle → s.now.mgt.update ≠ .ready ∨ s.now.mayUpdate t u = false ∨ s.now.inDusk = true → exec (.activateFirmware t u) s = .next (s.after (updateSay t 0x1A 0x85 s.now))) ∧
    (∀ t u (b : Blk), s.now.mgt.update = .ready → s.now.mayUpdate t u = true → s.now.inDusk = false → s.now.pwr.stage ≠ .twilight →
      b = updateSay t 0x1A 0 (addJob .bootRecord (modMgt (fun m => { m with active := s.now.targetBank, trial := true, update := .idle, updateSize := 0, updateGot := 0 }) s.now)) →
      ((s.now.mgt.running.map (fun (r : Running) => r.supDigest)) = some (((s.now.bank s.now.targetBank).drop 0x20).take 64) →
        exec (.activateFirmware t u) s = .next (s.after (firmwareReset (modMgt (fun m => { m with activating := true }) b)))) ∧
      ((s.now.mgt.running.map (fun (r : Running) => r.supDigest)) ≠ some (((s.now.bank s.now.targetBank).drop 0x20).take 64) →
        exec (.activateFirmware t u) s = .next (s.after (modMgt (fun m => { m with pendingReset := true }) b)))) ∧
    (∀ t u, s.now.mgt.update = .ready → s.now.mayUpdate t u = true → s.now.inDusk = false → s.now.pwr.stage = .twilight →
      exec (.activateFirmware t u) s = .next (s.after (exitTwilight 2 (updateSay t 0x1A 0 (addJob .bootRecord (modMgt (fun m =>
        { m with active := s.now.targetBank, trial := true, update := .idle, updateSize := 0, updateGot := 0 }) s.now)))))) ∧
    (∀ t u, s.now.mgt.update ≠ .idle →
      (s.now.mayUpdate t u = false → exec (.cancelUpdate t u) s = .next (s.after (updateSay t 0x1D 0x84 s.now))) ∧
      (s.now.mayUpdate t u = true → ∃ b, exec (.cancelUpdate t u) s = .next (s.after b) ∧ b.mgt.update = .idle ∧ b.mgt.active = s.now.mgt.active ∧
        (SMap.get 0 b.errs ErrReg.mgt.key).getLsbD 5 = true ∧ b.out = [.pldm t 5 0x1D 0 []] ∧ b.dram = s.now.dram) ∧
      (∃ b, exec .updateAgentTimeout s = .next (s.after b) ∧ b.mgt.update = .idle ∧ b.mgt.active = s.now.mgt.active ∧ b.mgt.banks = s.now.mgt.banks ∧
        (SMap.get 0 b.errs ErrReg.mgt.key).getLsbD 5 = true ∧ b.out = [] ∧ b.dram = s.now.dram))

/-- Sensor samples, throttle steps and the hard trip. While a system reset holds the registers, nothing is sampled and no step moves. A valid sample of a powered, unbroken sensor becomes its reading; one that breaks a check makes the sensor broken with its cause, keeps the reading and sets the error bit; no other sensor changes. Both steps follow their hemispheres and stay while they are frozen. A hard trip of a valid sensor at 8 degrees over the shutdown threshold drops every rail enable and raises the Shutdown level; any other does nothing. (15_thermal.md) -/
def Obligations.ThermalMonitor : Prop :=
  ∀ s : State, s.blk.aon = true →
    (s.now.pwr.sysRst = true → (∀ m, exec (.sensorSample m) s = .next (s.after s.now)) ∧ exec .throttleStep s = .next (s.after s.now)) ∧
    (∀ n v k, s.now.pwr.sysRst = false → n < 32 → s.now.unpowered n = false → (s.now.sensor n).cause = 0 →
      k = (if 0 < (s.now.sensor n).same ∧ (s.now.sensor n).raw = v then (s.now.sensor n).same + 1 else 1) →
      (sampleCause (s.now.sensor n) v k = 0 → ∃ b, exec (.sensorSample [(n, v)]) s = .next (s.after b) ∧ b.sensor n = { reading := some v, cause := 0, raw := v, same := k } ∧
        (∀ m, m ≠ n → b.sensor m = s.now.sensor m) ∧ b.therm.stepN = s.now.therm.stepN ∧ b.therm.stepS = s.now.therm.stepS) ∧
      (sampleCause (s.now.sensor n) v k ≠ 0 → ∃ b, exec (.sensorSample [(n, v)]) s = .next (s.after b) ∧ (b.sensor n).cause = sampleCause (s.now.sensor n) v k ∧
        (b.sensor n).reading = (s.now.sensor n).reading ∧ (∀ m, m ≠ n → b.sensor m = s.now.sensor m) ∧ (SMap.get 0 b.errs ErrReg.thm.key).getLsbD 4 = true)) ∧
    (s.now.therm.frozen = true → exec .throttleStep s = .next (s.after s.now)) ∧
    (s.now.therm.frozen = false → s.now.pwr.sysRst = false → exec .throttleStep s = .next (s.after { s.now with
      therm := { s.now.therm with stepN := nextStep s.now false s.now.therm.stepN, stepS := nextStep s.now true s.now.therm.stepS } })) ∧
    (∀ n v, n < 32 → s.now.unpowered n = false → (s.now.sensor n).cause = 0 → ((s.now.cht.cur.thermal.shutdownC + 8 : Nat) : Int) * 16 ≤ v →
      ∃ b, exec (.hardTrip n v) s = .next (s.after b) ∧ b.pwr.en = 0 ∧ b.therm.shutdown = true ∧ (SMap.get 0 b.errs ErrReg.thm.key).getLsbD 3 = true) ∧
    (∀ n v, 32 ≤ n ∨ s.now.unpowered n = true ∨ (s.now.sensor n).cause ≠ 0 ∨ v < ((s.now.cht.cur.thermal.shutdownC + 8 : Nat) : Int) * 16 →
      exec (.hardTrip n v) s = .next (s.after s.now))

/-- Error pins, the Logbook's second, and the Almanac's records, freezes and images. A pin that asserts while its status bit is clear sets it and the interrupt, and is captured as the first source if none is; while the bit is set nothing is added. A clear takes the bits written 1, and those whose pins stay asserted latch again; a rearm clears the capture. The second ends with no type counted or suppressed. A sample goes to the records of its metric, and is dropped while the Almanac is frozen. A RATE record moves to its next bin once the epochs of its INTERVAL have passed, and not before. Hourly and on command an image is written; CLEAR empties the records and counters outside a freeze; the end of a freeze, by command or by its time, releases the hourly image. (16_faults_logbook_almanac.md) -/
def Obligations.FaultCollectorLogbookAndAlmanac : Prop :=
  ∀ s : State, s.blk.aon = true →
    (∀ p l, 90 < p ∨ s.now.flt.status.getLsbD p = true → exec (.errorPinAssert p l) s = .next (s.after s.now)) ∧
    (∀ p l, p ≤ 90 → s.now.flt.status.getLsbD p = false → s.now.cht.cur.faults = [] → ∃ b, exec (.errorPinAssert p l) s = .next (s.after b) ∧
      b.flt.status = s.now.flt.status ||| (1 <<< p) ∧ b.flt.irq = true ∧ b.flt.firstValid = true ∧ (s.now.flt.firstValid = false → b.flt.firstPin = p ∧ b.flt.firstLoc = l) ∧
      (s.now.flt.firstValid = true → b.flt.overflow = true ∧ b.flt.firstPin = s.now.flt.firstPin ∧ b.flt.firstLoc = s.now.flt.firstLoc) ∧
      b.dram = s.now.dram ∧ b.twin = s.now.twin ∧ b.pwr = s.now.pwr ∧ b.errs = s.now.errs) ∧
    (s.now.pwr.sysRst = false →
      (∀ m more, s.now.cht.cur.faults = [] → ∃ b, exec (.fltStatusClear m more) s = .next (s.after b) ∧ (∀ x, x ∈ more → x.1 ≤ 90 → (s.now.flt.status &&& m).getLsbD x.1 = true → b.flt.status.getLsbD x.1 = true) ∧
        (∀ p, m.getLsbD p = false → b.flt.status.getLsbD p = s.now.flt.status.getLsbD p) ∧ b.dram = s.now.dram ∧ b.errs = s.now.errs) ∧
      (∀ m, s.now.pinsHigh = [] → exec (.fltStatusClear m []) s = .next (s.after { s.now with flt := { s.now.flt with status := s.now.flt.status &&& ~~~m } })) ∧
      exec .fltFirstRearm s = .next (s.after { s.now with flt := { s.now.flt with firstValid := false, overflow := false } })) ∧
    (∃ b, exec .logbookSecond s = .next (s.after b) ∧ b.logbook.suppressed = [] ∧ b.logbook.perSecond = [] ∧ b.cyc = (s.now.cyc / 10 ^ 8 + 1) * 10 ^ 8 ∧ b.dram = s.now.dram ∧
      (s.now.logbook.suppressed = [] → b.logbook.buf = s.now.logbook.buf ∧ b.errs = s.now.errs)) ∧
    (∀ m i v, s.now.alm.frozen = true → s.now.alm.recs.any (fun e => e.2.metric = m ∧ e.2.inst = i) = true →
      exec (.almanacSample m i v) s = .next (s.after { s.now with alm := { s.now.alm with dropped := sat32 s.now.alm.dropped } })) ∧
    (∀ m i v k r, s.now.alm.frozen = false → SMap.find? s.now.alm.recs k = some r → r.metric = m → r.inst = i → ∃ b, exec (.almanacSample m i v) s = .next (s.after b) ∧
      SMap.find? b.alm.recs k = some (if r.rate then r.events v.toNat else r.sample v) ∧
      (∀ j x, SMap.find? s.now.alm.recs j = some x → x.metric ≠ m → SMap.find? b.alm.recs j = some x) ∧ b.alm.events = s.now.alm.events) ∧
    (∀ k, SMap.find? s.now.alm.recs k = none → exec (.almanacInterval k) s = .next (s.after s.now)) ∧
    (∀ k r, SMap.find? s.now.alm.recs k = some r → (r.rate = false → exec (.almanacInterval k) s = .next (s.after s.now)) ∧
      (s.now.epoch < s.now.intervalEnd k r → exec (.almanacInterval k) s = .next (s.after s.now)) ∧
      (r.rate = true → s.now.intervalEnd k r ≤ s.now.epoch → ∃ b x, exec (.almanacInterval k) s = .next (s.after b) ∧ SMap.find? b.alm.recs k = some x ∧ x.seq = r.seq + 1 ∧ x.current = (r.current + 1) % 32 ∧
        SMap.get 0 x.bins x.current = 0 ∧ (s.now.alm.frozen = true → x.min = r.min ∧ x.max = r.max) ∧ b.intervalEnd k x = s.now.intervalEnd k r + r.interval ∧
        (∀ j, j ≠ k → SMap.find? b.alm.recs j = SMap.find? s.now.alm.recs j))) ∧
    (s.now.inDusk = true → exec .almanacHourly s = .next (s.after s.now)) ∧
    (s.now.inDusk = false → s.now.alm.frozen = true → exec .almanacHourly s = .next (s.after { s.now with alm := { s.now.alm with hourlyDue := true } })) ∧
    (s.now.inDusk = false → s.now.alm.frozen = false → s.now.alm.storing = none → ∃ b, exec .almanacHourly s = .next (s.after b) ∧ b.alm.storing = some 0 ∧ b.alm.recs = s.now.alm.recs ∧ b.dram = s.now.dram) ∧
    (s.now.alm.frozen = false → exec .freezeExpire s = .next (s.after s.now)) ∧
    (s.now.alm.frozen = true → ∃ b, exec .freezeExpire s = .next (s.after b) ∧ b.alm.frozen = false ∧ b.alm.hourlyDue = false ∧ (SMap.get 0 b.errs ErrReg.alm.key).getLsbD 0 = true ∧
      (s.now.alm.hourlyDue = true → s.now.alm.storing = none → b.alm.storing = some 0)) ∧
    (s.now.pwr.sysRst = false →
      exec (.freeze true) s = .next (s.after { s.now with alm := { s.now.alm with frozen := true } }) ∧
      (s.now.alm.hourlyDue = false → exec (.freeze false) s = .next (s.after { s.now with alm := { s.now.alm with frozen := false, hourlyDue := false } })) ∧
      (s.now.alm.storing.isSome = true → exec .store s = .next (s.after s.now)) ∧
      (s.now.alm.storing = none → ∃ b, exec .store s = .next (s.after b) ∧ b.alm.storing = some 2 ∧ b.alm.recs = s.now.alm.recs ∧ b.dram = s.now.dram) ∧
      (s.now.alm.frozen = true → exec .clear s = .next (s.after s.now)) ∧
      (s.now.alm.frozen = false → ∃ b, exec .clear s = .next (s.after b) ∧ b.alm.events = [] ∧ b.dram = s.now.dram ∧
        ∀ k r, SMap.find? s.now.alm.recs k = some r → ∃ x, SMap.find? b.alm.recs k = some x ∧ x.samples = 0 ∧ x.bins = [] ∧ x.min = none ∧ x.max = none ∧ x.seq = r.seq + 1 ∧ x.metric = r.metric))

/-- The eFlash controller's programs, erases, suspensions and resumptions. The end of a program without one under way, or of an erase, does nothing. A Logbook record's program puts the oldest buffered record at the head and the head goes on by one; a boot record's leaves the job queue to go on; a failed one sets the error bit and is tried again. An erase's end clears the sector's mark and counts it, or sets the error bit. A suspended erase gives way to the next program; it goes on when it is resumed, but not during a Dusk. DRAM and the flash array do not change. (16_faults_logbook_almanac.md) -/
def Obligations.EflashJobs : Prop :=
  ∀ (s : State) (phys : Phys), s.blk.aon = true →
    (∀ ok, s.now.efl.cur = none → exec (.eflashProgramDone phys ok) s = .next (s.afterWork phys s.now) ∧ (∀ us, exec (.eflashEraseDone us ok) s = .next (s.after s.now)) ∧
      exec .eflashSuspend s = .next (s.after s.now)) ∧
    (∀ ok i, s.now.efl.cur = some (.erase i) → exec (.eflashProgramDone phys ok) s = .next (s.afterWork phys s.now)) ∧
    (s.now.inDusk = false → s.now.efl.cur = some .bootRecord → exec (.eflashProgramDone phys true) s = .next (s.afterWork phys (jobEnds s.now)) ∧
      ∃ b, exec (.eflashProgramDone phys false) s = .next (s.afterWork phys b) ∧ (SMap.get 0 b.errs ErrReg.efl.key).getLsbD 4 = true ∧ b.dram = s.now.dram ∧ b.nvf = s.now.nvf ∧
        (b.efl.cur = some .bootRecord ∨ .bootRecord ∈ b.efl.jobs)) ∧
    (∀ r rest, s.now.inDusk = false → s.now.efl.cur = some .logRecord → s.now.efl.jobs = [] → s.now.logbook.buf = r :: rest → s.now.logbook.headPos < 508 →
      ∃ b, exec (.eflashProgramDone phys true) s = .next (s.afterWork phys b) ∧ SMap.find? b.logbook.recs (512 * s.now.logbook.head + s.now.logbook.headPos) = some r ∧
        b.logbook.buf = rest ∧ b.logbook.headPos = s.now.logbook.headPos + 1 ∧ b.logbook.head = s.now.logbook.head ∧ b.efl.cur = none ∧ b.dram = s.now.dram ∧ b.nvf = s.now.nvf) ∧
    (∀ i us, s.now.efl.cur = some (.erase i) → i < 576 → s.now.mgt.update = .idle →
      (s.now.efl.redo.contains i = false → s.now.efl.jobs = [] → ∃ b, exec (.eflashEraseDone us true) s = .next (s.after b) ∧ b.efl.cur = none ∧ b.efl.begun = s.now.efl.begun.filter (· != i) ∧
        b.efl.erases = sat32 s.now.efl.erases ∧ b.logbook = s.now.logbook ∧ b.dram = s.now.dram ∧ b.nvf = s.now.nvf) ∧
      (∃ b, exec (.eflashEraseDone us false) s = .next (s.after b) ∧ (SMap.get 0 b.errs ErrReg.efl.key).getLsbD 5 = true ∧ b.efl.erases = s.now.efl.erases ∧ b.dram = s.now.dram)) ∧
    (∀ j, s.now.efl.cur = some j → (match j with | .erase _ => true | _ => false) = false → (∀ us ok, exec (.eflashEraseDone us ok) s = .next (s.after s.now)) ∧ exec .eflashSuspend s = .next (s.after s.now)) ∧
    (∀ i, s.now.efl.cur = some (.erase i) → ∃ b, exec .eflashSuspend s = .next (s.after b) ∧ b.efl.susp = some i ∧ b.efl.suspends = sat32 s.now.efl.suspends ∧
      (∀ k, b.efl.cur ≠ some (.erase k)) ∧ b.logbook = s.now.logbook ∧ b.alm = s.now.alm ∧ b.dram = s.now.dram ∧ b.nvf = s.now.nvf) ∧
    (s.now.efl.susp = none ∨ s.now.inDusk = true → exec .eflashResume s = .next (s.after s.now)) ∧
    (∀ i, s.now.efl.susp = some i → s.now.inDusk = false → s.now.efl.cur = none → ∃ b, exec .eflashResume s = .next (s.after b) ∧ b.efl.susp = none ∧ b.efl.cur = some (.erase i) ∧
      b.efl.jobs = s.now.efl.jobs ∧ b.dram = s.now.dram ∧ b.nvf = s.now.nvf)

/-- Every command answers a next state and leaves the waiting commands as they are. For every command and state, exec answers a next state whose queue is the queue it was given; so a step with commands waiting takes exactly the first of them, and a queue of well-formed commands stays one. (00_scope.md) -/
def Obligations.EveryCommandAnswersAndLeavesTheQueue : Prop :=
  (∀ (i : Instr) (s : State), ∃ t, exec i s = .next t ∧ t.pending = s.pending) ∧
  (∀ s : State, ∃ t, step s = .next t ∧ t.pending = s.pending.tail) ∧
  (∀ s t : State, s.queueWf = true → step s = .next t → t.queueWf = true)

/-- No step unblows a fuse. For every state and every step, each fuse that was blown before is blown after; so whatever set of fuses is blown stays blown for every later state, under every command. It is the first sentence of R355 as an invariant that every step keeps. (13_identity_lifecycle.md) -/
def Obligations.FusesOnlyRise : Prop :=
  ∀ (o : Otp) (s t : State), Otp.within o s.otp → step s = .next t → Otp.within o t.otp

/-- No step lowers the life-cycle state, the firmware version floor or a revocation in the fuses. For every step the highest LC_STATE copy, the blown bits of FW_SVN, the revoked keys and the RETURN_BEGUN copies do not fall; a part whose fuses stand at RETURNED stays RETURNED. (13_identity_lifecycle.md) -/
def Obligations.LifeCycleNeverGoesBack : Prop :=
  ∀ s t : State, step s = .next t →
    (∀ i, s.otp.lc0.getLsbD i = true → t.otp.lc0.getLsbD i = true) ∧ (∀ i, s.otp.lc1.getLsbD i = true → t.otp.lc1.getLsbD i = true) ∧
    (∀ i, s.otp.lc2.getLsbD i = true → t.otp.lc2.getLsbD i = true) ∧ (∀ i, s.otp.fwSvn.getLsbD i = true → t.otp.fwSvn.getLsbD i = true) ∧
    (∀ i, s.otp.revoke.getLsbD i = true → t.otp.revoke.getLsbD i = true) ∧ (∀ i, s.otp.returnBegun.getLsbD i = true → t.otp.returnBegun.getLsbD i = true) ∧
    s.otp.lcBits ≤ t.otp.lcBits

/-- With always-on power down only its return changes anything. While always-on power is down, every command but AON_POWER_UP leaves the block as it is, sends nothing and changes neither fuses nor queue. That such a command answers a next state is the model's choice (assumption 1). (20_package_pins_electrical.md, 14_dawn_dusk_power.md) -/
def Obligations.NothingRunsWithoutAlwaysOnPower : Prop :=
  ∀ (i : Instr) (s : State), s.blk.aon = false → (∀ straps, i ≠ .aonPowerUp straps) →
    ∃ t, exec i s = .next t ∧ t.blk = { s.blk with out := [] } ∧ t.otp = s.otp ∧ t.pending = s.pending

/-- The state right after reset. After the power-on reset always-on power is up, Dawn stands at stage 0 and nothing is powered, listed or waiting: no rail is enabled, DRAM, Halo, the Logbook and the queue are empty, the ERR registers and the collector read 0, and the fuses are those of the factory. The values that the spec does not state are the model's choice (assumption 5). (14_dawn_dusk_power.md, 00_scope.md) -/
def Obligations.TheStateAfterReset : Prop :=
  State.reset.blk.aon = true ∧ State.reset.blk.pwr.stage = .dawn 0 ∧ State.reset.pending = [] ∧ State.reset.blk.pwr.en = 0 ∧ State.reset.blk.dram.lines = [] ∧ State.reset.blk.halo.lines = [] ∧
  State.reset.blk.errs = [] ∧ State.reset.blk.flt.status = 0 ∧ State.reset.blk.out = [] ∧ State.reset.blk.logbook.recs = [] ∧
  Memory.wf State.reset.blk.dram = true ∧ Otp.within Otp.manufactured State.reset.otp ∧ Safe State.reset

/-- With no work under way the block's own work changes nothing. When no command waits for a restart, no job and no held packet is there, no Orbit or cipher queue exists and no COLD_ACK is due, the work that follows a command leaves the block as it is; so such a command leaves exactly its own effect. (11_orbit_transport.md, 12_cipher_engine.md) -/
def Obligations.TheEnginesRestWhenIdle : Prop :=
  ∀ (phys : Phys) (b : Blk), b.enginesIdle = true → settleWork phys b = b

/-- During a system reset a command to a register that the reset covers changes nothing. While a system reset is under way the commands of the flash array, the fault collector, the twin, the DRAM channels and the cipher's management register change nothing but the count of register access violations (R479); the Almanac's and the sequencer's registers are not covered and take their commands. (19_register_map.md, 16_faults_logbook_almanac.md) -/
def Obligations.RegistersInAResetIgnoreWrites : Prop :=
  ∀ (s : State) (phys : Phys), s.blk.aon = true → s.now.pwr.sysRst = true → ∀ b, b = countEvent 0x12 0 s.now →
    exec .patrolPause s = .next (s.after b) ∧ exec .patrolResume s = .next (s.after b) ∧ exec .rawRead s = .next (s.after b) ∧ exec .startRebuild s = .next (s.after b) ∧
    (∀ g, exec (.admitDie g) s = .next (s.after b) ∧ exec (.retire g) s = .next (s.after b)) ∧
    exec .fltFirstRearm s = .next (s.after b) ∧ (∀ m x, exec (.fltStatusClear m x) s = .next (s.after b)) ∧
    exec .audit s = .next (s.after b) ∧ (∀ h, exec (.twnRelease h) s = .next (s.after b)) ∧
    (∀ c d r p, c < 16 → exec (.mark c d r p) s = .next (s.after b) ∧ exec (.unmark c d r p) s = .next (s.after b)) ∧
    (∀ q, exec (.mgmtUnwrap phys q) s = .next (s.afterWork phys b) ∧ exec (.mgmtClearSlot phys q) s = .next (s.afterWork phys b)) ∧
    (s.now.alm.frozen = false → exec (.freeze true) s = .next (s.after { s.now with alm := { s.now.alm with frozen := true } })) ∧
    (s.now.inDusk = false → exec .psqOn s = .next (s.after (noteOn s.now { s.now with pwr := { s.now.pwr with holdOff := false } })))

/-- A line of Near DRAM reads as it was last written, and no other line changes. In a channel that is not frozen a written line is held as it was written and every other line as before; the listing keeps its canonical form under a write and under the removal of a page's lines; a line that is removed reads as its fill left it; in a frozen channel DRAM itself does not change. (06_dram_and_line_codes.md) -/
def Obligations.DramHoldsWhatWasWritten : Prop :=
  ∀ (b : Blk) (l : Nat) (d : DramLine),
    (b.frozenLine l = false → (putLine l d b).dramLine l = d ∧ (∀ k, k ≠ l → (putLine l d b).dramLine k = b.dramLine k)) ∧
    (b.frozenLine l = true → (putLine l d b).dram.lines = b.dram.lines) ∧
    (Memory.wf b.dram = true → Memory.wf (putLine l d b).dram = true ∧ ∀ p, Memory.wf (dropPageLines p b).dram = true) ∧
    (∀ p, (dropPageLines p b).dramLine (32 * p + l % 32) = b.dram.filled (32 * p + l % 32) ∧ (l / 32 ≠ p → (dropPageLines p b).dramLine l = b.dramLine l))

/-- Clearing a status bit, latching again, and re-arming the first-source capture. Writing 1 clears a status bit whose pin no longer asserts, and only such bits change; a bit whose pin is still asserted latches again at once, with everything that a new latch of R411 does; a rearm clears VALID and OVERFLOW together, and the next latch is captured. (R412) -/
def Obligations.FaultStatusIsClearedByWritingOne : Prop :=
  ∀ s : State, s.blk.aon = true → s.now.pwr.sysRst = false →
    (∀ m, s.now.pinsHigh = [] → exec (.fltStatusClear m []) s = .next (s.after { s.now with flt := { s.now.flt with status := s.now.flt.status &&& ~~~m } })) ∧
    (∀ m p l, s.now.pinsHigh = [] → m.getLsbD p = true → s.now.flt.status.getLsbD p = true →
      exec (.fltStatusClear m [(p, l)]) s = .next (s.after (latchPin p l { s.now with flt := { s.now.flt with status := s.now.flt.status &&& ~~~m } }))) ∧
    (∃ t, exec .fltFirstRearm s = .next t ∧ t.blk.flt.firstValid = false ∧ t.blk.flt.overflow = false ∧ t.blk.flt.status = s.now.flt.status) ∧
    (∀ p l, s.now.flt.firstValid = false → s.now.cht.cur.faults = [] → (latchPin p l s.now).flt.firstValid = true ∧ (latchPin p l s.now).flt.firstPin = p ∧ (latchPin p l s.now).flt.firstLoc = l)

/-- OFF and CYCLE from D7 onward fire the Dusk trigger. OFF and CYCLE of PSQ_CMD from D7 onward fire a trigger that is no thermal one, so that a save's header records CAUSE 0. OFF sets HOLD_OFF, under which no power-up starts, and ON clears it. CYCLE leaves HOLD_OFF clear; after either, service is never resumed. (R386) -/
def Obligations.PowerCommandsInServiceFireTheDusk : Prop :=
  (∀ s : State, s.blk.aon = true → s.now.pwr.sysRst = false → s.now.inDusk = false → s.now.fromD7 = true →
    (∃ t, exec .psqOff s = .next t ∧ t.blk.inDusk = true ∧ (∀ d, t.blk.pers.dusk = some d → d.thermal = false) ∧ t.blk.pwr.holdOff = true ∧ t.blk.pwr.noResume = true) ∧
    (∃ t, exec .psqCycle s = .next t ∧ t.blk.inDusk = true ∧ (∀ d, t.blk.pers.dusk = some d → d.thermal = false) ∧ t.blk.pwr.holdOff = s.now.pwr.holdOff ∧ t.blk.pwr.noResume = true)) ∧
  (∀ (phys : Phys) (d : Dusk) (b : Blk), d.thermal = false → ∃ g, (writeSave phys d b).pers.gens.getLast? = some g ∧ g.cause = 0) ∧
  (∀ b : Blk, b.pwr.holdOff = true → b.mayRaise = false) ∧
  (∀ s : State, s.blk.aon = true → s.now.pwr.sysRst = false → s.now.inDusk = false → ∃ t, exec .psqOn s = .next t ∧ t.blk.pwr.holdOff = false) ∧
  (∀ (b : Blk) (d : Dusk), b.pwr.noResume = true → b.mayResume d = false)
end

