-- ==== Sys2Proof/Laws/State.lean ====
section
/-!
SUPPORT. What each update of the block leaves alone: one lemma for each field, by computation.
-/
namespace Sys2Proof.Machine
open Sys2Proof

/-! ### Fields of the state -/

@[simp] theorem State.set_blk_blk (s : State) (b : Blk) : ({ s with blk := b } : State).blk = b := rfl
@[simp] theorem State.set_blk_otp (s : State) (b : Blk) : ({ s with blk := b } : State).otp = s.otp := rfl
@[simp] theorem State.set_blk_pending (s : State) (b : Blk) : ({ s with blk := b } : State).pending = s.pending := rfl
@[simp] theorem State.set_otp_blk (s : State) (o : Otp) : ({ s with otp := o } : State).blk = s.blk := rfl
@[simp] theorem State.set_otp_otp (s : State) (o : Otp) : ({ s with otp := o } : State).otp = o := rfl
@[simp] theorem State.set_otp_pending (s : State) (o : Otp) : ({ s with otp := o } : State).pending = s.pending := rfl
@[simp] theorem State.set_pending_blk (s : State) (q : List Instr) : ({ s with pending := q } : State).blk = s.blk := rfl
@[simp] theorem State.set_pending_otp (s : State) (q : List Instr) : ({ s with pending := q } : State).otp = s.otp := rfl
@[simp] theorem State.set_pending_pending (s : State) (q : List Instr) : ({ s with pending := q } : State).pending = q := rfl


/-! ### modCph -/

@[simp] theorem modCph_free (f : CphSt → CphSt) (b : Blk) : (modCph f b).free = b.free := rfl
@[simp] theorem modCph_cyc (f : CphSt → CphSt) (b : Blk) : (modCph f b).cyc = b.cyc := rfl
@[simp] theorem modCph_aon (f : CphSt → CphSt) (b : Blk) : (modCph f b).aon = b.aon := rfl
@[simp] theorem modCph_straps (f : CphSt → CphSt) (b : Blk) : (modCph f b).straps = b.straps := rfl
@[simp] theorem modCph_errs (f : CphSt → CphSt) (b : Blk) : (modCph f b).errs = b.errs := rfl
@[simp] theorem modCph_flt (f : CphSt → CphSt) (b : Blk) : (modCph f b).flt = b.flt := rfl
@[simp] theorem modCph_logbook (f : CphSt → CphSt) (b : Blk) : (modCph f b).logbook = b.logbook := rfl
@[simp] theorem modCph_alm (f : CphSt → CphSt) (b : Blk) : (modCph f b).alm = b.alm := rfl
@[simp] theorem modCph_efl (f : CphSt → CphSt) (b : Blk) : (modCph f b).efl = b.efl := rfl
@[simp] theorem modCph_mer (f : CphSt → CphSt) (b : Blk) : (modCph f b).mer = b.mer := rfl
@[simp] theorem modCph_cht (f : CphSt → CphSt) (b : Blk) : (modCph f b).cht = b.cht := rfl
@[simp] theorem modCph_halo (f : CphSt → CphSt) (b : Blk) : (modCph f b).halo = b.halo := rfl
@[simp] theorem modCph_dram (f : CphSt → CphSt) (b : Blk) : (modCph f b).dram = b.dram := rfl
@[simp] theorem modCph_pers (f : CphSt → CphSt) (b : Blk) : (modCph f b).pers = b.pers := rfl
@[simp] theorem modCph_nvf (f : CphSt → CphSt) (b : Blk) : (modCph f b).nvf = b.nvf := rfl
@[simp] theorem modCph_far (f : CphSt → CphSt) (b : Blk) : (modCph f b).far = b.far := rfl
@[simp] theorem modCph_twin (f : CphSt → CphSt) (b : Blk) : (modCph f b).twin = b.twin := rfl
@[simp] theorem modCph_host (f : CphSt → CphSt) (b : Blk) : (modCph f b).host = b.host := rfl
@[simp] theorem modCph_orb (f : CphSt → CphSt) (b : Blk) : (modCph f b).orb = b.orb := rfl
@[simp] theorem modCph_ident (f : CphSt → CphSt) (b : Blk) : (modCph f b).ident = b.ident := rfl
@[simp] theorem modCph_pwr (f : CphSt → CphSt) (b : Blk) : (modCph f b).pwr = b.pwr := rfl
@[simp] theorem modCph_therm (f : CphSt → CphSt) (b : Blk) : (modCph f b).therm = b.therm := rfl
@[simp] theorem modCph_mgt (f : CphSt → CphSt) (b : Blk) : (modCph f b).mgt = b.mgt := rfl
@[simp] theorem modCph_fw (f : CphSt → CphSt) (b : Blk) : (modCph f b).fw = b.fw := rfl
@[simp] theorem modCph_out (f : CphSt → CphSt) (b : Blk) : (modCph f b).out = b.out := rfl

/-! ### modCphCmd -/

@[simp] theorem modCphCmd_free (n : Nat) (f : CmdRegs → CmdRegs) (b : Blk) : (modCphCmd n f b).free = b.free := rfl
@[simp] theorem modCphCmd_cyc (n : Nat) (f : CmdRegs → CmdRegs) (b : Blk) : (modCphCmd n f b).cyc = b.cyc := rfl
@[simp] theorem modCphCmd_aon (n : Nat) (f : CmdRegs → CmdRegs) (b : Blk) : (modCphCmd n f b).aon = b.aon := rfl
@[simp] theorem modCphCmd_straps (n : Nat) (f : CmdRegs → CmdRegs) (b : Blk) : (modCphCmd n f b).straps = b.straps := rfl
@[simp] theorem modCphCmd_errs (n : Nat) (f : CmdRegs → CmdRegs) (b : Blk) : (modCphCmd n f b).errs = b.errs := rfl
@[simp] theorem modCphCmd_flt (n : Nat) (f : CmdRegs → CmdRegs) (b : Blk) : (modCphCmd n f b).flt = b.flt := rfl
@[simp] theorem modCphCmd_logbook (n : Nat) (f : CmdRegs → CmdRegs) (b : Blk) : (modCphCmd n f b).logbook = b.logbook := rfl
@[simp] theorem modCphCmd_alm (n : Nat) (f : CmdRegs → CmdRegs) (b : Blk) : (modCphCmd n f b).alm = b.alm := rfl
@[simp] theorem modCphCmd_efl (n : Nat) (f : CmdRegs → CmdRegs) (b : Blk) : (modCphCmd n f b).efl = b.efl := rfl
@[simp] theorem modCphCmd_mer (n : Nat) (f : CmdRegs → CmdRegs) (b : Blk) : (modCphCmd n f b).mer = b.mer := rfl
@[simp] theorem modCphCmd_cht (n : Nat) (f : CmdRegs → CmdRegs) (b : Blk) : (modCphCmd n f b).cht = b.cht := rfl
@[simp] theorem modCphCmd_halo (n : Nat) (f : CmdRegs → CmdRegs) (b : Blk) : (modCphCmd n f b).halo = b.halo := rfl
@[simp] theorem modCphCmd_dram (n : Nat) (f : CmdRegs → CmdRegs) (b : Blk) : (modCphCmd n f b).dram = b.dram := rfl
@[simp] theorem modCphCmd_pers (n : Nat) (f : CmdRegs → CmdRegs) (b : Blk) : (modCphCmd n f b).pers = b.pers := rfl
@[simp] theorem modCphCmd_nvf (n : Nat) (f : CmdRegs → CmdRegs) (b : Blk) : (modCphCmd n f b).nvf = b.nvf := rfl
@[simp] theorem modCphCmd_far (n : Nat) (f : CmdRegs → CmdRegs) (b : Blk) : (modCphCmd n f b).far = b.far := rfl
@[simp] theorem modCphCmd_twin (n : Nat) (f : CmdRegs → CmdRegs) (b : Blk) : (modCphCmd n f b).twin = b.twin := rfl
@[simp] theorem modCphCmd_host (n : Nat) (f : CmdRegs → CmdRegs) (b : Blk) : (modCphCmd n f b).host = b.host := rfl
@[simp] theorem modCphCmd_orb (n : Nat) (f : CmdRegs → CmdRegs) (b : Blk) : (modCphCmd n f b).orb = b.orb := rfl
@[simp] theorem modCphCmd_ident (n : Nat) (f : CmdRegs → CmdRegs) (b : Blk) : (modCphCmd n f b).ident = b.ident := rfl
@[simp] theorem modCphCmd_pwr (n : Nat) (f : CmdRegs → CmdRegs) (b : Blk) : (modCphCmd n f b).pwr = b.pwr := rfl
@[simp] theorem modCphCmd_therm (n : Nat) (f : CmdRegs → CmdRegs) (b : Blk) : (modCphCmd n f b).therm = b.therm := rfl
@[simp] theorem modCphCmd_mgt (n : Nat) (f : CmdRegs → CmdRegs) (b : Blk) : (modCphCmd n f b).mgt = b.mgt := rfl
@[simp] theorem modCphCmd_fw (n : Nat) (f : CmdRegs → CmdRegs) (b : Blk) : (modCphCmd n f b).fw = b.fw := rfl
@[simp] theorem modCphCmd_out (n : Nat) (f : CmdRegs → CmdRegs) (b : Blk) : (modCphCmd n f b).out = b.out := rfl

/-! ### modCq -/

@[simp] theorem modCq_free (q : Nat) (f : CphQueue → CphQueue) (b : Blk) : (modCq q f b).free = b.free := by unfold modCq; split <;> rfl
@[simp] theorem modCq_cyc (q : Nat) (f : CphQueue → CphQueue) (b : Blk) : (modCq q f b).cyc = b.cyc := by unfold modCq; split <;> rfl
@[simp] theorem modCq_aon (q : Nat) (f : CphQueue → CphQueue) (b : Blk) : (modCq q f b).aon = b.aon := by unfold modCq; split <;> rfl
@[simp] theorem modCq_straps (q : Nat) (f : CphQueue → CphQueue) (b : Blk) : (modCq q f b).straps = b.straps := by unfold modCq; split <;> rfl
@[simp] theorem modCq_errs (q : Nat) (f : CphQueue → CphQueue) (b : Blk) : (modCq q f b).errs = b.errs := by unfold modCq; split <;> rfl
@[simp] theorem modCq_flt (q : Nat) (f : CphQueue → CphQueue) (b : Blk) : (modCq q f b).flt = b.flt := by unfold modCq; split <;> rfl
@[simp] theorem modCq_logbook (q : Nat) (f : CphQueue → CphQueue) (b : Blk) : (modCq q f b).logbook = b.logbook := by unfold modCq; split <;> rfl
@[simp] theorem modCq_alm (q : Nat) (f : CphQueue → CphQueue) (b : Blk) : (modCq q f b).alm = b.alm := by unfold modCq; split <;> rfl
@[simp] theorem modCq_efl (q : Nat) (f : CphQueue → CphQueue) (b : Blk) : (modCq q f b).efl = b.efl := by unfold modCq; split <;> rfl
@[simp] theorem modCq_mer (q : Nat) (f : CphQueue → CphQueue) (b : Blk) : (modCq q f b).mer = b.mer := by unfold modCq; split <;> rfl
@[simp] theorem modCq_cht (q : Nat) (f : CphQueue → CphQueue) (b : Blk) : (modCq q f b).cht = b.cht := by unfold modCq; split <;> rfl
@[simp] theorem modCq_halo (q : Nat) (f : CphQueue → CphQueue) (b : Blk) : (modCq q f b).halo = b.halo := by unfold modCq; split <;> rfl
@[simp] theorem modCq_dram (q : Nat) (f : CphQueue → CphQueue) (b : Blk) : (modCq q f b).dram = b.dram := by unfold modCq; split <;> rfl
@[simp] theorem modCq_pers (q : Nat) (f : CphQueue → CphQueue) (b : Blk) : (modCq q f b).pers = b.pers := by unfold modCq; split <;> rfl
@[simp] theorem modCq_nvf (q : Nat) (f : CphQueue → CphQueue) (b : Blk) : (modCq q f b).nvf = b.nvf := by unfold modCq; split <;> rfl
@[simp] theorem modCq_far (q : Nat) (f : CphQueue → CphQueue) (b : Blk) : (modCq q f b).far = b.far := by unfold modCq; split <;> rfl
@[simp] theorem modCq_twin (q : Nat) (f : CphQueue → CphQueue) (b : Blk) : (modCq q f b).twin = b.twin := by unfold modCq; split <;> rfl
@[simp] theorem modCq_host (q : Nat) (f : CphQueue → CphQueue) (b : Blk) : (modCq q f b).host = b.host := by unfold modCq; split <;> rfl
@[simp] theorem modCq_orb (q : Nat) (f : CphQueue → CphQueue) (b : Blk) : (modCq q f b).orb = b.orb := by unfold modCq; split <;> rfl
@[simp] theorem modCq_ident (q : Nat) (f : CphQueue → CphQueue) (b : Blk) : (modCq q f b).ident = b.ident := by unfold modCq; split <;> rfl
@[simp] theorem modCq_pwr (q : Nat) (f : CphQueue → CphQueue) (b : Blk) : (modCq q f b).pwr = b.pwr := by unfold modCq; split <;> rfl
@[simp] theorem modCq_therm (q : Nat) (f : CphQueue → CphQueue) (b : Blk) : (modCq q f b).therm = b.therm := by unfold modCq; split <;> rfl
@[simp] theorem modCq_mgt (q : Nat) (f : CphQueue → CphQueue) (b : Blk) : (modCq q f b).mgt = b.mgt := by unfold modCq; split <;> rfl
@[simp] theorem modCq_fw (q : Nat) (f : CphQueue → CphQueue) (b : Blk) : (modCq q f b).fw = b.fw := by unfold modCq; split <;> rfl
@[simp] theorem modCq_out (q : Nat) (f : CphQueue → CphQueue) (b : Blk) : (modCq q f b).out = b.out := by unfold modCq; split <;> rfl

/-! ### modCphJob -/

@[simp] theorem modCphJob_free (q idx : Nat) (f : CphJob → CphJob) (b : Blk) : (modCphJob q idx f b).free = b.free := by simp [modCphJob]
@[simp] theorem modCphJob_cyc (q idx : Nat) (f : CphJob → CphJob) (b : Blk) : (modCphJob q idx f b).cyc = b.cyc := by simp [modCphJob]
@[simp] theorem modCphJob_aon (q idx : Nat) (f : CphJob → CphJob) (b : Blk) : (modCphJob q idx f b).aon = b.aon := by simp [modCphJob]
@[simp] theorem modCphJob_straps (q idx : Nat) (f : CphJob → CphJob) (b : Blk) : (modCphJob q idx f b).straps = b.straps := by simp [modCphJob]
@[simp] theorem modCphJob_errs (q idx : Nat) (f : CphJob → CphJob) (b : Blk) : (modCphJob q idx f b).errs = b.errs := by simp [modCphJob]
@[simp] theorem modCphJob_flt (q idx : Nat) (f : CphJob → CphJob) (b : Blk) : (modCphJob q idx f b).flt = b.flt := by simp [modCphJob]
@[simp] theorem modCphJob_logbook (q idx : Nat) (f : CphJob → CphJob) (b : Blk) : (modCphJob q idx f b).logbook = b.logbook := by simp [modCphJob]
@[simp] theorem modCphJob_alm (q idx : Nat) (f : CphJob → CphJob) (b : Blk) : (modCphJob q idx f b).alm = b.alm := by simp [modCphJob]
@[simp] theorem modCphJob_efl (q idx : Nat) (f : CphJob → CphJob) (b : Blk) : (modCphJob q idx f b).efl = b.efl := by simp [modCphJob]
@[simp] theorem modCphJob_mer (q idx : Nat) (f : CphJob → CphJob) (b : Blk) : (modCphJob q idx f b).mer = b.mer := by simp [modCphJob]
@[simp] theorem modCphJob_cht (q idx : Nat) (f : CphJob → CphJob) (b : Blk) : (modCphJob q idx f b).cht = b.cht := by simp [modCphJob]
@[simp] theorem modCphJob_halo (q idx : Nat) (f : CphJob → CphJob) (b : Blk) : (modCphJob q idx f b).halo = b.halo := by simp [modCphJob]
@[simp] theorem modCphJob_dram (q idx : Nat) (f : CphJob → CphJob) (b : Blk) : (modCphJob q idx f b).dram = b.dram := by simp [modCphJob]
@[simp] theorem modCphJob_pers (q idx : Nat) (f : CphJob → CphJob) (b : Blk) : (modCphJob q idx f b).pers = b.pers := by simp [modCphJob]
@[simp] theorem modCphJob_nvf (q idx : Nat) (f : CphJob → CphJob) (b : Blk) : (modCphJob q idx f b).nvf = b.nvf := by simp [modCphJob]
@[simp] theorem modCphJob_far (q idx : Nat) (f : CphJob → CphJob) (b : Blk) : (modCphJob q idx f b).far = b.far := by simp [modCphJob]
@[simp] theorem modCphJob_twin (q idx : Nat) (f : CphJob → CphJob) (b : Blk) : (modCphJob q idx f b).twin = b.twin := by simp [modCphJob]
@[simp] theorem modCphJob_host (q idx : Nat) (f : CphJob → CphJob) (b : Blk) : (modCphJob q idx f b).host = b.host := by simp [modCphJob]
@[simp] theorem modCphJob_orb (q idx : Nat) (f : CphJob → CphJob) (b : Blk) : (modCphJob q idx f b).orb = b.orb := by simp [modCphJob]
@[simp] theorem modCphJob_ident (q idx : Nat) (f : CphJob → CphJob) (b : Blk) : (modCphJob q idx f b).ident = b.ident := by simp [modCphJob]
@[simp] theorem modCphJob_pwr (q idx : Nat) (f : CphJob → CphJob) (b : Blk) : (modCphJob q idx f b).pwr = b.pwr := by simp [modCphJob]
@[simp] theorem modCphJob_therm (q idx : Nat) (f : CphJob → CphJob) (b : Blk) : (modCphJob q idx f b).therm = b.therm := by simp [modCphJob]
@[simp] theorem modCphJob_mgt (q idx : Nat) (f : CphJob → CphJob) (b : Blk) : (modCphJob q idx f b).mgt = b.mgt := by simp [modCphJob]
@[simp] theorem modCphJob_fw (q idx : Nat) (f : CphJob → CphJob) (b : Blk) : (modCphJob q idx f b).fw = b.fw := by simp [modCphJob]
@[simp] theorem modCphJob_out (q idx : Nat) (f : CphJob → CphJob) (b : Blk) : (modCphJob q idx f b).out = b.out := by simp [modCphJob]

/-! ### modPage -/

@[simp] theorem modPage_free (n : Nat) (f : CphPage → CphPage) (b : Blk) : (modPage n f b).free = b.free := rfl
@[simp] theorem modPage_cyc (n : Nat) (f : CphPage → CphPage) (b : Blk) : (modPage n f b).cyc = b.cyc := rfl
@[simp] theorem modPage_aon (n : Nat) (f : CphPage → CphPage) (b : Blk) : (modPage n f b).aon = b.aon := rfl
@[simp] theorem modPage_straps (n : Nat) (f : CphPage → CphPage) (b : Blk) : (modPage n f b).straps = b.straps := rfl
@[simp] theorem modPage_errs (n : Nat) (f : CphPage → CphPage) (b : Blk) : (modPage n f b).errs = b.errs := rfl
@[simp] theorem modPage_flt (n : Nat) (f : CphPage → CphPage) (b : Blk) : (modPage n f b).flt = b.flt := rfl
@[simp] theorem modPage_logbook (n : Nat) (f : CphPage → CphPage) (b : Blk) : (modPage n f b).logbook = b.logbook := rfl
@[simp] theorem modPage_alm (n : Nat) (f : CphPage → CphPage) (b : Blk) : (modPage n f b).alm = b.alm := rfl
@[simp] theorem modPage_efl (n : Nat) (f : CphPage → CphPage) (b : Blk) : (modPage n f b).efl = b.efl := rfl
@[simp] theorem modPage_mer (n : Nat) (f : CphPage → CphPage) (b : Blk) : (modPage n f b).mer = b.mer := rfl
@[simp] theorem modPage_cht (n : Nat) (f : CphPage → CphPage) (b : Blk) : (modPage n f b).cht = b.cht := rfl
@[simp] theorem modPage_halo (n : Nat) (f : CphPage → CphPage) (b : Blk) : (modPage n f b).halo = b.halo := rfl
@[simp] theorem modPage_dram (n : Nat) (f : CphPage → CphPage) (b : Blk) : (modPage n f b).dram = b.dram := rfl
@[simp] theorem modPage_pers (n : Nat) (f : CphPage → CphPage) (b : Blk) : (modPage n f b).pers = b.pers := rfl
@[simp] theorem modPage_nvf (n : Nat) (f : CphPage → CphPage) (b : Blk) : (modPage n f b).nvf = b.nvf := rfl
@[simp] theorem modPage_far (n : Nat) (f : CphPage → CphPage) (b : Blk) : (modPage n f b).far = b.far := rfl
@[simp] theorem modPage_twin (n : Nat) (f : CphPage → CphPage) (b : Blk) : (modPage n f b).twin = b.twin := rfl
@[simp] theorem modPage_host (n : Nat) (f : CphPage → CphPage) (b : Blk) : (modPage n f b).host = b.host := rfl
@[simp] theorem modPage_orb (n : Nat) (f : CphPage → CphPage) (b : Blk) : (modPage n f b).orb = b.orb := rfl
@[simp] theorem modPage_ident (n : Nat) (f : CphPage → CphPage) (b : Blk) : (modPage n f b).ident = b.ident := rfl
@[simp] theorem modPage_pwr (n : Nat) (f : CphPage → CphPage) (b : Blk) : (modPage n f b).pwr = b.pwr := rfl
@[simp] theorem modPage_therm (n : Nat) (f : CphPage → CphPage) (b : Blk) : (modPage n f b).therm = b.therm := rfl
@[simp] theorem modPage_mgt (n : Nat) (f : CphPage → CphPage) (b : Blk) : (modPage n f b).mgt = b.mgt := rfl
@[simp] theorem modPage_fw (n : Nat) (f : CphPage → CphPage) (b : Blk) : (modPage n f b).fw = b.fw := rfl
@[simp] theorem modPage_out (n : Nat) (f : CphPage → CphPage) (b : Blk) : (modPage n f b).out = b.out := rfl

/-! ### modLog -/

@[simp] theorem modLog_free (f : Logbook → Logbook) (b : Blk) : (modLog f b).free = b.free := rfl
@[simp] theorem modLog_cyc (f : Logbook → Logbook) (b : Blk) : (modLog f b).cyc = b.cyc := rfl
@[simp] theorem modLog_aon (f : Logbook → Logbook) (b : Blk) : (modLog f b).aon = b.aon := rfl
@[simp] theorem modLog_straps (f : Logbook → Logbook) (b : Blk) : (modLog f b).straps = b.straps := rfl
@[simp] theorem modLog_errs (f : Logbook → Logbook) (b : Blk) : (modLog f b).errs = b.errs := rfl
@[simp] theorem modLog_flt (f : Logbook → Logbook) (b : Blk) : (modLog f b).flt = b.flt := rfl
@[simp] theorem modLog_alm (f : Logbook → Logbook) (b : Blk) : (modLog f b).alm = b.alm := rfl
@[simp] theorem modLog_efl (f : Logbook → Logbook) (b : Blk) : (modLog f b).efl = b.efl := rfl
@[simp] theorem modLog_mer (f : Logbook → Logbook) (b : Blk) : (modLog f b).mer = b.mer := rfl
@[simp] theorem modLog_cht (f : Logbook → Logbook) (b : Blk) : (modLog f b).cht = b.cht := rfl
@[simp] theorem modLog_halo (f : Logbook → Logbook) (b : Blk) : (modLog f b).halo = b.halo := rfl
@[simp] theorem modLog_dram (f : Logbook → Logbook) (b : Blk) : (modLog f b).dram = b.dram := rfl
@[simp] theorem modLog_pers (f : Logbook → Logbook) (b : Blk) : (modLog f b).pers = b.pers := rfl
@[simp] theorem modLog_nvf (f : Logbook → Logbook) (b : Blk) : (modLog f b).nvf = b.nvf := rfl
@[simp] theorem modLog_far (f : Logbook → Logbook) (b : Blk) : (modLog f b).far = b.far := rfl
@[simp] theorem modLog_twin (f : Logbook → Logbook) (b : Blk) : (modLog f b).twin = b.twin := rfl
@[simp] theorem modLog_host (f : Logbook → Logbook) (b : Blk) : (modLog f b).host = b.host := rfl
@[simp] theorem modLog_orb (f : Logbook → Logbook) (b : Blk) : (modLog f b).orb = b.orb := rfl
@[simp] theorem modLog_cph (f : Logbook → Logbook) (b : Blk) : (modLog f b).cph = b.cph := rfl
@[simp] theorem modLog_ident (f : Logbook → Logbook) (b : Blk) : (modLog f b).ident = b.ident := rfl
@[simp] theorem modLog_pwr (f : Logbook → Logbook) (b : Blk) : (modLog f b).pwr = b.pwr := rfl
@[simp] theorem modLog_therm (f : Logbook → Logbook) (b : Blk) : (modLog f b).therm = b.therm := rfl
@[simp] theorem modLog_mgt (f : Logbook → Logbook) (b : Blk) : (modLog f b).mgt = b.mgt := rfl
@[simp] theorem modLog_fw (f : Logbook → Logbook) (b : Blk) : (modLog f b).fw = b.fw := rfl
@[simp] theorem modLog_out (f : Logbook → Logbook) (b : Blk) : (modLog f b).out = b.out := rfl

/-! ### modAlm -/

@[simp] theorem modAlm_free (f : Almanac → Almanac) (b : Blk) : (modAlm f b).free = b.free := rfl
@[simp] theorem modAlm_cyc (f : Almanac → Almanac) (b : Blk) : (modAlm f b).cyc = b.cyc := rfl
@[simp] theorem modAlm_aon (f : Almanac → Almanac) (b : Blk) : (modAlm f b).aon = b.aon := rfl
@[simp] theorem modAlm_straps (f : Almanac → Almanac) (b : Blk) : (modAlm f b).straps = b.straps := rfl
@[simp] theorem modAlm_errs (f : Almanac → Almanac) (b : Blk) : (modAlm f b).errs = b.errs := rfl
@[simp] theorem modAlm_flt (f : Almanac → Almanac) (b : Blk) : (modAlm f b).flt = b.flt := rfl
@[simp] theorem modAlm_logbook (f : Almanac → Almanac) (b : Blk) : (modAlm f b).logbook = b.logbook := rfl
@[simp] theorem modAlm_efl (f : Almanac → Almanac) (b : Blk) : (modAlm f b).efl = b.efl := rfl
@[simp] theorem modAlm_mer (f : Almanac → Almanac) (b : Blk) : (modAlm f b).mer = b.mer := rfl
@[simp] theorem modAlm_cht (f : Almanac → Almanac) (b : Blk) : (modAlm f b).cht = b.cht := rfl
@[simp] theorem modAlm_halo (f : Almanac → Almanac) (b : Blk) : (modAlm f b).halo = b.halo := rfl
@[simp] theorem modAlm_dram (f : Almanac → Almanac) (b : Blk) : (modAlm f b).dram = b.dram := rfl
@[simp] theorem modAlm_pers (f : Almanac → Almanac) (b : Blk) : (modAlm f b).pers = b.pers := rfl
@[simp] theorem modAlm_nvf (f : Almanac → Almanac) (b : Blk) : (modAlm f b).nvf = b.nvf := rfl
@[simp] theorem modAlm_far (f : Almanac → Almanac) (b : Blk) : (modAlm f b).far = b.far := rfl
@[simp] theorem modAlm_twin (f : Almanac → Almanac) (b : Blk) : (modAlm f b).twin = b.twin := rfl
@[simp] theorem modAlm_host (f : Almanac → Almanac) (b : Blk) : (modAlm f b).host = b.host := rfl
@[simp] theorem modAlm_orb (f : Almanac → Almanac) (b : Blk) : (modAlm f b).orb = b.orb := rfl
@[simp] theorem modAlm_cph (f : Almanac → Almanac) (b : Blk) : (modAlm f b).cph = b.cph := rfl
@[simp] theorem modAlm_ident (f : Almanac → Almanac) (b : Blk) : (modAlm f b).ident = b.ident := rfl
@[simp] theorem modAlm_pwr (f : Almanac → Almanac) (b : Blk) : (modAlm f b).pwr = b.pwr := rfl
@[simp] theorem modAlm_therm (f : Almanac → Almanac) (b : Blk) : (modAlm f b).therm = b.therm := rfl
@[simp] theorem modAlm_mgt (f : Almanac → Almanac) (b : Blk) : (modAlm f b).mgt = b.mgt := rfl
@[simp] theorem modAlm_fw (f : Almanac → Almanac) (b : Blk) : (modAlm f b).fw = b.fw := rfl
@[simp] theorem modAlm_out (f : Almanac → Almanac) (b : Blk) : (modAlm f b).out = b.out := rfl

/-! ### modId -/

@[simp] theorem modId_free (f : IdSt → IdSt) (b : Blk) : (modId f b).free = b.free := rfl
@[simp] theorem modId_cyc (f : IdSt → IdSt) (b : Blk) : (modId f b).cyc = b.cyc := rfl
@[simp] theorem modId_aon (f : IdSt → IdSt) (b : Blk) : (modId f b).aon = b.aon := rfl
@[simp] theorem modId_straps (f : IdSt → IdSt) (b : Blk) : (modId f b).straps = b.straps := rfl
@[simp] theorem modId_errs (f : IdSt → IdSt) (b : Blk) : (modId f b).errs = b.errs := rfl
@[simp] theorem modId_flt (f : IdSt → IdSt) (b : Blk) : (modId f b).flt = b.flt := rfl
@[simp] theorem modId_logbook (f : IdSt → IdSt) (b : Blk) : (modId f b).logbook = b.logbook := rfl
@[simp] theorem modId_alm (f : IdSt → IdSt) (b : Blk) : (modId f b).alm = b.alm := rfl
@[simp] theorem modId_efl (f : IdSt → IdSt) (b : Blk) : (modId f b).efl = b.efl := rfl
@[simp] theorem modId_mer (f : IdSt → IdSt) (b : Blk) : (modId f b).mer = b.mer := rfl
@[simp] theorem modId_cht (f : IdSt → IdSt) (b : Blk) : (modId f b).cht = b.cht := rfl
@[simp] theorem modId_halo (f : IdSt → IdSt) (b : Blk) : (modId f b).halo = b.halo := rfl
@[simp] theorem modId_dram (f : IdSt → IdSt) (b : Blk) : (modId f b).dram = b.dram := rfl
@[simp] theorem modId_pers (f : IdSt → IdSt) (b : Blk) : (modId f b).pers = b.pers := rfl
@[simp] theorem modId_nvf (f : IdSt → IdSt) (b : Blk) : (modId f b).nvf = b.nvf := rfl
@[simp] theorem modId_far (f : IdSt → IdSt) (b : Blk) : (modId f b).far = b.far := rfl
@[simp] theorem modId_twin (f : IdSt → IdSt) (b : Blk) : (modId f b).twin = b.twin := rfl
@[simp] theorem modId_host (f : IdSt → IdSt) (b : Blk) : (modId f b).host = b.host := rfl
@[simp] theorem modId_orb (f : IdSt → IdSt) (b : Blk) : (modId f b).orb = b.orb := rfl
@[simp] theorem modId_cph (f : IdSt → IdSt) (b : Blk) : (modId f b).cph = b.cph := rfl
@[simp] theorem modId_pwr (f : IdSt → IdSt) (b : Blk) : (modId f b).pwr = b.pwr := rfl
@[simp] theorem modId_therm (f : IdSt → IdSt) (b : Blk) : (modId f b).therm = b.therm := rfl
@[simp] theorem modId_mgt (f : IdSt → IdSt) (b : Blk) : (modId f b).mgt = b.mgt := rfl
@[simp] theorem modId_fw (f : IdSt → IdSt) (b : Blk) : (modId f b).fw = b.fw := rfl
@[simp] theorem modId_out (f : IdSt → IdSt) (b : Blk) : (modId f b).out = b.out := rfl

/-! ### modConn -/

@[simp] theorem modConn_free (t : Nat) (f : SpdmConn → SpdmConn) (b : Blk) : (modConn t f b).free = b.free := rfl
@[simp] theorem modConn_cyc (t : Nat) (f : SpdmConn → SpdmConn) (b : Blk) : (modConn t f b).cyc = b.cyc := rfl
@[simp] theorem modConn_aon (t : Nat) (f : SpdmConn → SpdmConn) (b : Blk) : (modConn t f b).aon = b.aon := rfl
@[simp] theorem modConn_straps (t : Nat) (f : SpdmConn → SpdmConn) (b : Blk) : (modConn t f b).straps = b.straps := rfl
@[simp] theorem modConn_errs (t : Nat) (f : SpdmConn → SpdmConn) (b : Blk) : (modConn t f b).errs = b.errs := rfl
@[simp] theorem modConn_flt (t : Nat) (f : SpdmConn → SpdmConn) (b : Blk) : (modConn t f b).flt = b.flt := rfl
@[simp] theorem modConn_logbook (t : Nat) (f : SpdmConn → SpdmConn) (b : Blk) : (modConn t f b).logbook = b.logbook := rfl
@[simp] theorem modConn_alm (t : Nat) (f : SpdmConn → SpdmConn) (b : Blk) : (modConn t f b).alm = b.alm := rfl
@[simp] theorem modConn_efl (t : Nat) (f : SpdmConn → SpdmConn) (b : Blk) : (modConn t f b).efl = b.efl := rfl
@[simp] theorem modConn_mer (t : Nat) (f : SpdmConn → SpdmConn) (b : Blk) : (modConn t f b).mer = b.mer := rfl
@[simp] theorem modConn_cht (t : Nat) (f : SpdmConn → SpdmConn) (b : Blk) : (modConn t f b).cht = b.cht := rfl
@[simp] theorem modConn_halo (t : Nat) (f : SpdmConn → SpdmConn) (b : Blk) : (modConn t f b).halo = b.halo := rfl
@[simp] theorem modConn_dram (t : Nat) (f : SpdmConn → SpdmConn) (b : Blk) : (modConn t f b).dram = b.dram := rfl
@[simp] theorem modConn_pers (t : Nat) (f : SpdmConn → SpdmConn) (b : Blk) : (modConn t f b).pers = b.pers := rfl
@[simp] theorem modConn_nvf (t : Nat) (f : SpdmConn → SpdmConn) (b : Blk) : (modConn t f b).nvf = b.nvf := rfl
@[simp] theorem modConn_far (t : Nat) (f : SpdmConn → SpdmConn) (b : Blk) : (modConn t f b).far = b.far := rfl
@[simp] theorem modConn_twin (t : Nat) (f : SpdmConn → SpdmConn) (b : Blk) : (modConn t f b).twin = b.twin := rfl
@[simp] theorem modConn_host (t : Nat) (f : SpdmConn → SpdmConn) (b : Blk) : (modConn t f b).host = b.host := rfl
@[simp] theorem modConn_orb (t : Nat) (f : SpdmConn → SpdmConn) (b : Blk) : (modConn t f b).orb = b.orb := rfl
@[simp] theorem modConn_cph (t : Nat) (f : SpdmConn → SpdmConn) (b : Blk) : (modConn t f b).cph = b.cph := rfl
@[simp] theorem modConn_pwr (t : Nat) (f : SpdmConn → SpdmConn) (b : Blk) : (modConn t f b).pwr = b.pwr := rfl
@[simp] theorem modConn_therm (t : Nat) (f : SpdmConn → SpdmConn) (b : Blk) : (modConn t f b).therm = b.therm := rfl
@[simp] theorem modConn_mgt (t : Nat) (f : SpdmConn → SpdmConn) (b : Blk) : (modConn t f b).mgt = b.mgt := rfl
@[simp] theorem modConn_fw (t : Nat) (f : SpdmConn → SpdmConn) (b : Blk) : (modConn t f b).fw = b.fw := rfl
@[simp] theorem modConn_out (t : Nat) (f : SpdmConn → SpdmConn) (b : Blk) : (modConn t f b).out = b.out := rfl

/-! ### modMer -/

@[simp] theorem modMer_free (f : Mer → Mer) (b : Blk) : (modMer f b).free = b.free := rfl
@[simp] theorem modMer_cyc (f : Mer → Mer) (b : Blk) : (modMer f b).cyc = b.cyc := rfl
@[simp] theorem modMer_aon (f : Mer → Mer) (b : Blk) : (modMer f b).aon = b.aon := rfl
@[simp] theorem modMer_straps (f : Mer → Mer) (b : Blk) : (modMer f b).straps = b.straps := rfl
@[simp] theorem modMer_errs (f : Mer → Mer) (b : Blk) : (modMer f b).errs = b.errs := rfl
@[simp] theorem modMer_flt (f : Mer → Mer) (b : Blk) : (modMer f b).flt = b.flt := rfl
@[simp] theorem modMer_logbook (f : Mer → Mer) (b : Blk) : (modMer f b).logbook = b.logbook := rfl
@[simp] theorem modMer_alm (f : Mer → Mer) (b : Blk) : (modMer f b).alm = b.alm := rfl
@[simp] theorem modMer_efl (f : Mer → Mer) (b : Blk) : (modMer f b).efl = b.efl := rfl
@[simp] theorem modMer_cht (f : Mer → Mer) (b : Blk) : (modMer f b).cht = b.cht := rfl
@[simp] theorem modMer_halo (f : Mer → Mer) (b : Blk) : (modMer f b).halo = b.halo := rfl
@[simp] theorem modMer_dram (f : Mer → Mer) (b : Blk) : (modMer f b).dram = b.dram := rfl
@[simp] theorem modMer_pers (f : Mer → Mer) (b : Blk) : (modMer f b).pers = b.pers := rfl
@[simp] theorem modMer_nvf (f : Mer → Mer) (b : Blk) : (modMer f b).nvf = b.nvf := rfl
@[simp] theorem modMer_far (f : Mer → Mer) (b : Blk) : (modMer f b).far = b.far := rfl
@[simp] theorem modMer_twin (f : Mer → Mer) (b : Blk) : (modMer f b).twin = b.twin := rfl
@[simp] theorem modMer_host (f : Mer → Mer) (b : Blk) : (modMer f b).host = b.host := rfl
@[simp] theorem modMer_orb (f : Mer → Mer) (b : Blk) : (modMer f b).orb = b.orb := rfl
@[simp] theorem modMer_cph (f : Mer → Mer) (b : Blk) : (modMer f b).cph = b.cph := rfl
@[simp] theorem modMer_ident (f : Mer → Mer) (b : Blk) : (modMer f b).ident = b.ident := rfl
@[simp] theorem modMer_pwr (f : Mer → Mer) (b : Blk) : (modMer f b).pwr = b.pwr := rfl
@[simp] theorem modMer_therm (f : Mer → Mer) (b : Blk) : (modMer f b).therm = b.therm := rfl
@[simp] theorem modMer_mgt (f : Mer → Mer) (b : Blk) : (modMer f b).mgt = b.mgt := rfl
@[simp] theorem modMer_fw (f : Mer → Mer) (b : Blk) : (modMer f b).fw = b.fw := rfl
@[simp] theorem modMer_out (f : Mer → Mer) (b : Blk) : (modMer f b).out = b.out := rfl

/-! ### modMgt -/

@[simp] theorem modMgt_free (f : MgtSt → MgtSt) (b : Blk) : (modMgt f b).free = b.free := rfl
@[simp] theorem modMgt_cyc (f : MgtSt → MgtSt) (b : Blk) : (modMgt f b).cyc = b.cyc := rfl
@[simp] theorem modMgt_aon (f : MgtSt → MgtSt) (b : Blk) : (modMgt f b).aon = b.aon := rfl
@[simp] theorem modMgt_straps (f : MgtSt → MgtSt) (b : Blk) : (modMgt f b).straps = b.straps := rfl
@[simp] theorem modMgt_errs (f : MgtSt → MgtSt) (b : Blk) : (modMgt f b).errs = b.errs := rfl
@[simp] theorem modMgt_flt (f : MgtSt → MgtSt) (b : Blk) : (modMgt f b).flt = b.flt := rfl
@[simp] theorem modMgt_logbook (f : MgtSt → MgtSt) (b : Blk) : (modMgt f b).logbook = b.logbook := rfl
@[simp] theorem modMgt_alm (f : MgtSt → MgtSt) (b : Blk) : (modMgt f b).alm = b.alm := rfl
@[simp] theorem modMgt_efl (f : MgtSt → MgtSt) (b : Blk) : (modMgt f b).efl = b.efl := rfl
@[simp] theorem modMgt_mer (f : MgtSt → MgtSt) (b : Blk) : (modMgt f b).mer = b.mer := rfl
@[simp] theorem modMgt_cht (f : MgtSt → MgtSt) (b : Blk) : (modMgt f b).cht = b.cht := rfl
@[simp] theorem modMgt_halo (f : MgtSt → MgtSt) (b : Blk) : (modMgt f b).halo = b.halo := rfl
@[simp] theorem modMgt_dram (f : MgtSt → MgtSt) (b : Blk) : (modMgt f b).dram = b.dram := rfl
@[simp] theorem modMgt_pers (f : MgtSt → MgtSt) (b : Blk) : (modMgt f b).pers = b.pers := rfl
@[simp] theorem modMgt_nvf (f : MgtSt → MgtSt) (b : Blk) : (modMgt f b).nvf = b.nvf := rfl
@[simp] theorem modMgt_far (f : MgtSt → MgtSt) (b : Blk) : (modMgt f b).far = b.far := rfl
@[simp] theorem modMgt_twin (f : MgtSt → MgtSt) (b : Blk) : (modMgt f b).twin = b.twin := rfl
@[simp] theorem modMgt_host (f : MgtSt → MgtSt) (b : Blk) : (modMgt f b).host = b.host := rfl
@[simp] theorem modMgt_orb (f : MgtSt → MgtSt) (b : Blk) : (modMgt f b).orb = b.orb := rfl
@[simp] theorem modMgt_cph (f : MgtSt → MgtSt) (b : Blk) : (modMgt f b).cph = b.cph := rfl
@[simp] theorem modMgt_ident (f : MgtSt → MgtSt) (b : Blk) : (modMgt f b).ident = b.ident := rfl
@[simp] theorem modMgt_pwr (f : MgtSt → MgtSt) (b : Blk) : (modMgt f b).pwr = b.pwr := rfl
@[simp] theorem modMgt_therm (f : MgtSt → MgtSt) (b : Blk) : (modMgt f b).therm = b.therm := rfl
@[simp] theorem modMgt_fw (f : MgtSt → MgtSt) (b : Blk) : (modMgt f b).fw = b.fw := rfl
@[simp] theorem modMgt_out (f : MgtSt → MgtSt) (b : Blk) : (modMgt f b).out = b.out := rfl

/-! ### send -/

@[simp] theorem send_free (o : Output) (b : Blk) : (send o b).free = b.free := rfl
@[simp] theorem send_cyc (o : Output) (b : Blk) : (send o b).cyc = b.cyc := rfl
@[simp] theorem send_aon (o : Output) (b : Blk) : (send o b).aon = b.aon := rfl
@[simp] theorem send_straps (o : Output) (b : Blk) : (send o b).straps = b.straps := rfl
@[simp] theorem send_errs (o : Output) (b : Blk) : (send o b).errs = b.errs := rfl
@[simp] theorem send_flt (o : Output) (b : Blk) : (send o b).flt = b.flt := rfl
@[simp] theorem send_logbook (o : Output) (b : Blk) : (send o b).logbook = b.logbook := rfl
@[simp] theorem send_alm (o : Output) (b : Blk) : (send o b).alm = b.alm := rfl
@[simp] theorem send_efl (o : Output) (b : Blk) : (send o b).efl = b.efl := rfl
@[simp] theorem send_mer (o : Output) (b : Blk) : (send o b).mer = b.mer := rfl
@[simp] theorem send_cht (o : Output) (b : Blk) : (send o b).cht = b.cht := rfl
@[simp] theorem send_halo (o : Output) (b : Blk) : (send o b).halo = b.halo := rfl
@[simp] theorem send_dram (o : Output) (b : Blk) : (send o b).dram = b.dram := rfl
@[simp] theorem send_pers (o : Output) (b : Blk) : (send o b).pers = b.pers := rfl
@[simp] theorem send_nvf (o : Output) (b : Blk) : (send o b).nvf = b.nvf := rfl
@[simp] theorem send_far (o : Output) (b : Blk) : (send o b).far = b.far := rfl
@[simp] theorem send_twin (o : Output) (b : Blk) : (send o b).twin = b.twin := rfl
@[simp] theorem send_host (o : Output) (b : Blk) : (send o b).host = b.host := rfl
@[simp] theorem send_orb (o : Output) (b : Blk) : (send o b).orb = b.orb := rfl
@[simp] theorem send_cph (o : Output) (b : Blk) : (send o b).cph = b.cph := rfl
@[simp] theorem send_ident (o : Output) (b : Blk) : (send o b).ident = b.ident := rfl
@[simp] theorem send_pwr (o : Output) (b : Blk) : (send o b).pwr = b.pwr := rfl
@[simp] theorem send_therm (o : Output) (b : Blk) : (send o b).therm = b.therm := rfl
@[simp] theorem send_mgt (o : Output) (b : Blk) : (send o b).mgt = b.mgt := rfl
@[simp] theorem send_fw (o : Output) (b : Blk) : (send o b).fw = b.fw := rfl

/-! ### clearErr -/

@[simp] theorem clearErr_free (r : ErrReg) (w : W64) (b : Blk) : (clearErr r w b).free = b.free := rfl
@[simp] theorem clearErr_cyc (r : ErrReg) (w : W64) (b : Blk) : (clearErr r w b).cyc = b.cyc := rfl
@[simp] theorem clearErr_aon (r : ErrReg) (w : W64) (b : Blk) : (clearErr r w b).aon = b.aon := rfl
@[simp] theorem clearErr_straps (r : ErrReg) (w : W64) (b : Blk) : (clearErr r w b).straps = b.straps := rfl
@[simp] theorem clearErr_flt (r : ErrReg) (w : W64) (b : Blk) : (clearErr r w b).flt = b.flt := rfl
@[simp] theorem clearErr_logbook (r : ErrReg) (w : W64) (b : Blk) : (clearErr r w b).logbook = b.logbook := rfl
@[simp] theorem clearErr_alm (r : ErrReg) (w : W64) (b : Blk) : (clearErr r w b).alm = b.alm := rfl
@[simp] theorem clearErr_efl (r : ErrReg) (w : W64) (b : Blk) : (clearErr r w b).efl = b.efl := rfl
@[simp] theorem clearErr_mer (r : ErrReg) (w : W64) (b : Blk) : (clearErr r w b).mer = b.mer := rfl
@[simp] theorem clearErr_cht (r : ErrReg) (w : W64) (b : Blk) : (clearErr r w b).cht = b.cht := rfl
@[simp] theorem clearErr_halo (r : ErrReg) (w : W64) (b : Blk) : (clearErr r w b).halo = b.halo := rfl
@[simp] theorem clearErr_dram (r : ErrReg) (w : W64) (b : Blk) : (clearErr r w b).dram = b.dram := rfl
@[simp] theorem clearErr_pers (r : ErrReg) (w : W64) (b : Blk) : (clearErr r w b).pers = b.pers := rfl
@[simp] theorem clearErr_nvf (r : ErrReg) (w : W64) (b : Blk) : (clearErr r w b).nvf = b.nvf := rfl
@[simp] theorem clearErr_far (r : ErrReg) (w : W64) (b : Blk) : (clearErr r w b).far = b.far := rfl
@[simp] theorem clearErr_twin (r : ErrReg) (w : W64) (b : Blk) : (clearErr r w b).twin = b.twin := rfl
@[simp] theorem clearErr_host (r : ErrReg) (w : W64) (b : Blk) : (clearErr r w b).host = b.host := rfl
@[simp] theorem clearErr_orb (r : ErrReg) (w : W64) (b : Blk) : (clearErr r w b).orb = b.orb := rfl
@[simp] theorem clearErr_cph (r : ErrReg) (w : W64) (b : Blk) : (clearErr r w b).cph = b.cph := rfl
@[simp] theorem clearErr_ident (r : ErrReg) (w : W64) (b : Blk) : (clearErr r w b).ident = b.ident := rfl
@[simp] theorem clearErr_pwr (r : ErrReg) (w : W64) (b : Blk) : (clearErr r w b).pwr = b.pwr := rfl
@[simp] theorem clearErr_therm (r : ErrReg) (w : W64) (b : Blk) : (clearErr r w b).therm = b.therm := rfl
@[simp] theorem clearErr_mgt (r : ErrReg) (w : W64) (b : Blk) : (clearErr r w b).mgt = b.mgt := rfl
@[simp] theorem clearErr_fw (r : ErrReg) (w : W64) (b : Blk) : (clearErr r w b).fw = b.fw := rfl
@[simp] theorem clearErr_out (r : ErrReg) (w : W64) (b : Blk) : (clearErr r w b).out = b.out := rfl

/-! ### modLd -/

@[simp] theorem modLd_free (n : Nat) (f : LdSt → LdSt) (b : Blk) : (modLd n f b).free = b.free := rfl
@[simp] theorem modLd_cyc (n : Nat) (f : LdSt → LdSt) (b : Blk) : (modLd n f b).cyc = b.cyc := rfl
@[simp] theorem modLd_aon (n : Nat) (f : LdSt → LdSt) (b : Blk) : (modLd n f b).aon = b.aon := rfl
@[simp] theorem modLd_straps (n : Nat) (f : LdSt → LdSt) (b : Blk) : (modLd n f b).straps = b.straps := rfl
@[simp] theorem modLd_errs (n : Nat) (f : LdSt → LdSt) (b : Blk) : (modLd n f b).errs = b.errs := rfl
@[simp] theorem modLd_flt (n : Nat) (f : LdSt → LdSt) (b : Blk) : (modLd n f b).flt = b.flt := rfl
@[simp] theorem modLd_logbook (n : Nat) (f : LdSt → LdSt) (b : Blk) : (modLd n f b).logbook = b.logbook := rfl
@[simp] theorem modLd_alm (n : Nat) (f : LdSt → LdSt) (b : Blk) : (modLd n f b).alm = b.alm := rfl
@[simp] theorem modLd_efl (n : Nat) (f : LdSt → LdSt) (b : Blk) : (modLd n f b).efl = b.efl := rfl
@[simp] theorem modLd_mer (n : Nat) (f : LdSt → LdSt) (b : Blk) : (modLd n f b).mer = b.mer := rfl
@[simp] theorem modLd_cht (n : Nat) (f : LdSt → LdSt) (b : Blk) : (modLd n f b).cht = b.cht := rfl
@[simp] theorem modLd_halo (n : Nat) (f : LdSt → LdSt) (b : Blk) : (modLd n f b).halo = b.halo := rfl
@[simp] theorem modLd_dram (n : Nat) (f : LdSt → LdSt) (b : Blk) : (modLd n f b).dram = b.dram := rfl
@[simp] theorem modLd_pers (n : Nat) (f : LdSt → LdSt) (b : Blk) : (modLd n f b).pers = b.pers := rfl
@[simp] theorem modLd_nvf (n : Nat) (f : LdSt → LdSt) (b : Blk) : (modLd n f b).nvf = b.nvf := rfl
@[simp] theorem modLd_far (n : Nat) (f : LdSt → LdSt) (b : Blk) : (modLd n f b).far = b.far := rfl
@[simp] theorem modLd_twin (n : Nat) (f : LdSt → LdSt) (b : Blk) : (modLd n f b).twin = b.twin := rfl
@[simp] theorem modLd_orb (n : Nat) (f : LdSt → LdSt) (b : Blk) : (modLd n f b).orb = b.orb := rfl
@[simp] theorem modLd_cph (n : Nat) (f : LdSt → LdSt) (b : Blk) : (modLd n f b).cph = b.cph := rfl
@[simp] theorem modLd_ident (n : Nat) (f : LdSt → LdSt) (b : Blk) : (modLd n f b).ident = b.ident := rfl
@[simp] theorem modLd_pwr (n : Nat) (f : LdSt → LdSt) (b : Blk) : (modLd n f b).pwr = b.pwr := rfl
@[simp] theorem modLd_therm (n : Nat) (f : LdSt → LdSt) (b : Blk) : (modLd n f b).therm = b.therm := rfl
@[simp] theorem modLd_mgt (n : Nat) (f : LdSt → LdSt) (b : Blk) : (modLd n f b).mgt = b.mgt := rfl
@[simp] theorem modLd_fw (n : Nat) (f : LdSt → LdSt) (b : Blk) : (modLd n f b).fw = b.fw := rfl
@[simp] theorem modLd_out (n : Nat) (f : LdSt → LdSt) (b : Blk) : (modLd n f b).out = b.out := rfl

/-! ### modPort -/

@[simp] theorem modPort_free (p : Nat) (f : PortSt → PortSt) (b : Blk) : (modPort p f b).free = b.free := rfl
@[simp] theorem modPort_cyc (p : Nat) (f : PortSt → PortSt) (b : Blk) : (modPort p f b).cyc = b.cyc := rfl
@[simp] theorem modPort_aon (p : Nat) (f : PortSt → PortSt) (b : Blk) : (modPort p f b).aon = b.aon := rfl
@[simp] theorem modPort_straps (p : Nat) (f : PortSt → PortSt) (b : Blk) : (modPort p f b).straps = b.straps := rfl
@[simp] theorem modPort_errs (p : Nat) (f : PortSt → PortSt) (b : Blk) : (modPort p f b).errs = b.errs := rfl
@[simp] theorem modPort_flt (p : Nat) (f : PortSt → PortSt) (b : Blk) : (modPort p f b).flt = b.flt := rfl
@[simp] theorem modPort_logbook (p : Nat) (f : PortSt → PortSt) (b : Blk) : (modPort p f b).logbook = b.logbook := rfl
@[simp] theorem modPort_alm (p : Nat) (f : PortSt → PortSt) (b : Blk) : (modPort p f b).alm = b.alm := rfl
@[simp] theorem modPort_efl (p : Nat) (f : PortSt → PortSt) (b : Blk) : (modPort p f b).efl = b.efl := rfl
@[simp] theorem modPort_mer (p : Nat) (f : PortSt → PortSt) (b : Blk) : (modPort p f b).mer = b.mer := rfl
@[simp] theorem modPort_cht (p : Nat) (f : PortSt → PortSt) (b : Blk) : (modPort p f b).cht = b.cht := rfl
@[simp] theorem modPort_halo (p : Nat) (f : PortSt → PortSt) (b : Blk) : (modPort p f b).halo = b.halo := rfl
@[simp] theorem modPort_dram (p : Nat) (f : PortSt → PortSt) (b : Blk) : (modPort p f b).dram = b.dram := rfl
@[simp] theorem modPort_pers (p : Nat) (f : PortSt → PortSt) (b : Blk) : (modPort p f b).pers = b.pers := rfl
@[simp] theorem modPort_nvf (p : Nat) (f : PortSt → PortSt) (b : Blk) : (modPort p f b).nvf = b.nvf := rfl
@[simp] theorem modPort_far (p : Nat) (f : PortSt → PortSt) (b : Blk) : (modPort p f b).far = b.far := rfl
@[simp] theorem modPort_twin (p : Nat) (f : PortSt → PortSt) (b : Blk) : (modPort p f b).twin = b.twin := rfl
@[simp] theorem modPort_orb (p : Nat) (f : PortSt → PortSt) (b : Blk) : (modPort p f b).orb = b.orb := rfl
@[simp] theorem modPort_cph (p : Nat) (f : PortSt → PortSt) (b : Blk) : (modPort p f b).cph = b.cph := rfl
@[simp] theorem modPort_ident (p : Nat) (f : PortSt → PortSt) (b : Blk) : (modPort p f b).ident = b.ident := rfl
@[simp] theorem modPort_pwr (p : Nat) (f : PortSt → PortSt) (b : Blk) : (modPort p f b).pwr = b.pwr := rfl
@[simp] theorem modPort_therm (p : Nat) (f : PortSt → PortSt) (b : Blk) : (modPort p f b).therm = b.therm := rfl
@[simp] theorem modPort_mgt (p : Nat) (f : PortSt → PortSt) (b : Blk) : (modPort p f b).mgt = b.mgt := rfl
@[simp] theorem modPort_fw (p : Nat) (f : PortSt → PortSt) (b : Blk) : (modPort p f b).fw = b.fw := rfl
@[simp] theorem modPort_out (p : Nat) (f : PortSt → PortSt) (b : Blk) : (modPort p f b).out = b.out := rfl

/-! ### modPers -/

@[simp] theorem modPers_free (f : PersSt → PersSt) (b : Blk) : (modPers f b).free = b.free := rfl
@[simp] theorem modPers_cyc (f : PersSt → PersSt) (b : Blk) : (modPers f b).cyc = b.cyc := rfl
@[simp] theorem modPers_aon (f : PersSt → PersSt) (b : Blk) : (modPers f b).aon = b.aon := rfl
@[simp] theorem modPers_straps (f : PersSt → PersSt) (b : Blk) : (modPers f b).straps = b.straps := rfl
@[simp] theorem modPers_errs (f : PersSt → PersSt) (b : Blk) : (modPers f b).errs = b.errs := rfl
@[simp] theorem modPers_flt (f : PersSt → PersSt) (b : Blk) : (modPers f b).flt = b.flt := rfl
@[simp] theorem modPers_logbook (f : PersSt → PersSt) (b : Blk) : (modPers f b).logbook = b.logbook := rfl
@[simp] theorem modPers_alm (f : PersSt → PersSt) (b : Blk) : (modPers f b).alm = b.alm := rfl
@[simp] theorem modPers_efl (f : PersSt → PersSt) (b : Blk) : (modPers f b).efl = b.efl := rfl
@[simp] theorem modPers_mer (f : PersSt → PersSt) (b : Blk) : (modPers f b).mer = b.mer := rfl
@[simp] theorem modPers_cht (f : PersSt → PersSt) (b : Blk) : (modPers f b).cht = b.cht := rfl
@[simp] theorem modPers_halo (f : PersSt → PersSt) (b : Blk) : (modPers f b).halo = b.halo := rfl
@[simp] theorem modPers_dram (f : PersSt → PersSt) (b : Blk) : (modPers f b).dram = b.dram := rfl
@[simp] theorem modPers_nvf (f : PersSt → PersSt) (b : Blk) : (modPers f b).nvf = b.nvf := rfl
@[simp] theorem modPers_far (f : PersSt → PersSt) (b : Blk) : (modPers f b).far = b.far := rfl
@[simp] theorem modPers_twin (f : PersSt → PersSt) (b : Blk) : (modPers f b).twin = b.twin := rfl
@[simp] theorem modPers_host (f : PersSt → PersSt) (b : Blk) : (modPers f b).host = b.host := rfl
@[simp] theorem modPers_orb (f : PersSt → PersSt) (b : Blk) : (modPers f b).orb = b.orb := rfl
@[simp] theorem modPers_cph (f : PersSt → PersSt) (b : Blk) : (modPers f b).cph = b.cph := rfl
@[simp] theorem modPers_ident (f : PersSt → PersSt) (b : Blk) : (modPers f b).ident = b.ident := rfl
@[simp] theorem modPers_pwr (f : PersSt → PersSt) (b : Blk) : (modPers f b).pwr = b.pwr := rfl
@[simp] theorem modPers_therm (f : PersSt → PersSt) (b : Blk) : (modPers f b).therm = b.therm := rfl
@[simp] theorem modPers_mgt (f : PersSt → PersSt) (b : Blk) : (modPers f b).mgt = b.mgt := rfl
@[simp] theorem modPers_fw (f : PersSt → PersSt) (b : Blk) : (modPers f b).fw = b.fw := rfl
@[simp] theorem modPers_out (f : PersSt → PersSt) (b : Blk) : (modPers f b).out = b.out := rfl

/-! ### modWindow -/

@[simp] theorem modWindow_free (w : Nat) (f : TrnWindow → TrnWindow) (b : Blk) : (modWindow w f b).free = b.free := rfl
@[simp] theorem modWindow_cyc (w : Nat) (f : TrnWindow → TrnWindow) (b : Blk) : (modWindow w f b).cyc = b.cyc := rfl
@[simp] theorem modWindow_aon (w : Nat) (f : TrnWindow → TrnWindow) (b : Blk) : (modWindow w f b).aon = b.aon := rfl
@[simp] theorem modWindow_straps (w : Nat) (f : TrnWindow → TrnWindow) (b : Blk) : (modWindow w f b).straps = b.straps := rfl
@[simp] theorem modWindow_errs (w : Nat) (f : TrnWindow → TrnWindow) (b : Blk) : (modWindow w f b).errs = b.errs := rfl
@[simp] theorem modWindow_flt (w : Nat) (f : TrnWindow → TrnWindow) (b : Blk) : (modWindow w f b).flt = b.flt := rfl
@[simp] theorem modWindow_logbook (w : Nat) (f : TrnWindow → TrnWindow) (b : Blk) : (modWindow w f b).logbook = b.logbook := rfl
@[simp] theorem modWindow_alm (w : Nat) (f : TrnWindow → TrnWindow) (b : Blk) : (modWindow w f b).alm = b.alm := rfl
@[simp] theorem modWindow_efl (w : Nat) (f : TrnWindow → TrnWindow) (b : Blk) : (modWindow w f b).efl = b.efl := rfl
@[simp] theorem modWindow_mer (w : Nat) (f : TrnWindow → TrnWindow) (b : Blk) : (modWindow w f b).mer = b.mer := rfl
@[simp] theorem modWindow_cht (w : Nat) (f : TrnWindow → TrnWindow) (b : Blk) : (modWindow w f b).cht = b.cht := rfl
@[simp] theorem modWindow_halo (w : Nat) (f : TrnWindow → TrnWindow) (b : Blk) : (modWindow w f b).halo = b.halo := rfl
@[simp] theorem modWindow_dram (w : Nat) (f : TrnWindow → TrnWindow) (b : Blk) : (modWindow w f b).dram = b.dram := rfl
@[simp] theorem modWindow_pers (w : Nat) (f : TrnWindow → TrnWindow) (b : Blk) : (modWindow w f b).pers = b.pers := rfl
@[simp] theorem modWindow_nvf (w : Nat) (f : TrnWindow → TrnWindow) (b : Blk) : (modWindow w f b).nvf = b.nvf := rfl
@[simp] theorem modWindow_twin (w : Nat) (f : TrnWindow → TrnWindow) (b : Blk) : (modWindow w f b).twin = b.twin := rfl
@[simp] theorem modWindow_host (w : Nat) (f : TrnWindow → TrnWindow) (b : Blk) : (modWindow w f b).host = b.host := rfl
@[simp] theorem modWindow_orb (w : Nat) (f : TrnWindow → TrnWindow) (b : Blk) : (modWindow w f b).orb = b.orb := rfl
@[simp] theorem modWindow_cph (w : Nat) (f : TrnWindow → TrnWindow) (b : Blk) : (modWindow w f b).cph = b.cph := rfl
@[simp] theorem modWindow_ident (w : Nat) (f : TrnWindow → TrnWindow) (b : Blk) : (modWindow w f b).ident = b.ident := rfl
@[simp] theorem modWindow_pwr (w : Nat) (f : TrnWindow → TrnWindow) (b : Blk) : (modWindow w f b).pwr = b.pwr := rfl
@[simp] theorem modWindow_therm (w : Nat) (f : TrnWindow → TrnWindow) (b : Blk) : (modWindow w f b).therm = b.therm := rfl
@[simp] theorem modWindow_mgt (w : Nat) (f : TrnWindow → TrnWindow) (b : Blk) : (modWindow w f b).mgt = b.mgt := rfl
@[simp] theorem modWindow_fw (w : Nat) (f : TrnWindow → TrnWindow) (b : Blk) : (modWindow w f b).fw = b.fw := rfl
@[simp] theorem modWindow_out (w : Nat) (f : TrnWindow → TrnWindow) (b : Blk) : (modWindow w f b).out = b.out := rfl

/-! ### modTrnSlot -/

@[simp] theorem modTrnSlot_free (w s : Nat) (f : TrnSlot → TrnSlot) (b : Blk) : (modTrnSlot w s f b).free = b.free := rfl
@[simp] theorem modTrnSlot_cyc (w s : Nat) (f : TrnSlot → TrnSlot) (b : Blk) : (modTrnSlot w s f b).cyc = b.cyc := rfl
@[simp] theorem modTrnSlot_aon (w s : Nat) (f : TrnSlot → TrnSlot) (b : Blk) : (modTrnSlot w s f b).aon = b.aon := rfl
@[simp] theorem modTrnSlot_straps (w s : Nat) (f : TrnSlot → TrnSlot) (b : Blk) : (modTrnSlot w s f b).straps = b.straps := rfl
@[simp] theorem modTrnSlot_errs (w s : Nat) (f : TrnSlot → TrnSlot) (b : Blk) : (modTrnSlot w s f b).errs = b.errs := rfl
@[simp] theorem modTrnSlot_flt (w s : Nat) (f : TrnSlot → TrnSlot) (b : Blk) : (modTrnSlot w s f b).flt = b.flt := rfl
@[simp] theorem modTrnSlot_logbook (w s : Nat) (f : TrnSlot → TrnSlot) (b : Blk) : (modTrnSlot w s f b).logbook = b.logbook := rfl
@[simp] theorem modTrnSlot_alm (w s : Nat) (f : TrnSlot → TrnSlot) (b : Blk) : (modTrnSlot w s f b).alm = b.alm := rfl
@[simp] theorem modTrnSlot_efl (w s : Nat) (f : TrnSlot → TrnSlot) (b : Blk) : (modTrnSlot w s f b).efl = b.efl := rfl
@[simp] theorem modTrnSlot_mer (w s : Nat) (f : TrnSlot → TrnSlot) (b : Blk) : (modTrnSlot w s f b).mer = b.mer := rfl
@[simp] theorem modTrnSlot_cht (w s : Nat) (f : TrnSlot → TrnSlot) (b : Blk) : (modTrnSlot w s f b).cht = b.cht := rfl
@[simp] theorem modTrnSlot_halo (w s : Nat) (f : TrnSlot → TrnSlot) (b : Blk) : (modTrnSlot w s f b).halo = b.halo := rfl
@[simp] theorem modTrnSlot_dram (w s : Nat) (f : TrnSlot → TrnSlot) (b : Blk) : (modTrnSlot w s f b).dram = b.dram := rfl
@[simp] theorem modTrnSlot_pers (w s : Nat) (f : TrnSlot → TrnSlot) (b : Blk) : (modTrnSlot w s f b).pers = b.pers := rfl
@[simp] theorem modTrnSlot_nvf (w s : Nat) (f : TrnSlot → TrnSlot) (b : Blk) : (modTrnSlot w s f b).nvf = b.nvf := rfl
@[simp] theorem modTrnSlot_twin (w s : Nat) (f : TrnSlot → TrnSlot) (b : Blk) : (modTrnSlot w s f b).twin = b.twin := rfl
@[simp] theorem modTrnSlot_host (w s : Nat) (f : TrnSlot → TrnSlot) (b : Blk) : (modTrnSlot w s f b).host = b.host := rfl
@[simp] theorem modTrnSlot_orb (w s : Nat) (f : TrnSlot → TrnSlot) (b : Blk) : (modTrnSlot w s f b).orb = b.orb := rfl
@[simp] theorem modTrnSlot_cph (w s : Nat) (f : TrnSlot → TrnSlot) (b : Blk) : (modTrnSlot w s f b).cph = b.cph := rfl
@[simp] theorem modTrnSlot_ident (w s : Nat) (f : TrnSlot → TrnSlot) (b : Blk) : (modTrnSlot w s f b).ident = b.ident := rfl
@[simp] theorem modTrnSlot_pwr (w s : Nat) (f : TrnSlot → TrnSlot) (b : Blk) : (modTrnSlot w s f b).pwr = b.pwr := rfl
@[simp] theorem modTrnSlot_therm (w s : Nat) (f : TrnSlot → TrnSlot) (b : Blk) : (modTrnSlot w s f b).therm = b.therm := rfl
@[simp] theorem modTrnSlot_mgt (w s : Nat) (f : TrnSlot → TrnSlot) (b : Blk) : (modTrnSlot w s f b).mgt = b.mgt := rfl
@[simp] theorem modTrnSlot_fw (w s : Nat) (f : TrnSlot → TrnSlot) (b : Blk) : (modTrnSlot w s f b).fw = b.fw := rfl
@[simp] theorem modTrnSlot_out (w s : Nat) (f : TrnSlot → TrnSlot) (b : Blk) : (modTrnSlot w s f b).out = b.out := rfl

/-! ### modDie -/

@[simp] theorem modDie_free (g : Nat) (f : Die → Die) (b : Blk) : (modDie g f b).free = b.free := rfl
@[simp] theorem modDie_cyc (g : Nat) (f : Die → Die) (b : Blk) : (modDie g f b).cyc = b.cyc := rfl
@[simp] theorem modDie_aon (g : Nat) (f : Die → Die) (b : Blk) : (modDie g f b).aon = b.aon := rfl
@[simp] theorem modDie_straps (g : Nat) (f : Die → Die) (b : Blk) : (modDie g f b).straps = b.straps := rfl
@[simp] theorem modDie_errs (g : Nat) (f : Die → Die) (b : Blk) : (modDie g f b).errs = b.errs := rfl
@[simp] theorem modDie_flt (g : Nat) (f : Die → Die) (b : Blk) : (modDie g f b).flt = b.flt := rfl
@[simp] theorem modDie_logbook (g : Nat) (f : Die → Die) (b : Blk) : (modDie g f b).logbook = b.logbook := rfl
@[simp] theorem modDie_alm (g : Nat) (f : Die → Die) (b : Blk) : (modDie g f b).alm = b.alm := rfl
@[simp] theorem modDie_efl (g : Nat) (f : Die → Die) (b : Blk) : (modDie g f b).efl = b.efl := rfl
@[simp] theorem modDie_mer (g : Nat) (f : Die → Die) (b : Blk) : (modDie g f b).mer = b.mer := rfl
@[simp] theorem modDie_cht (g : Nat) (f : Die → Die) (b : Blk) : (modDie g f b).cht = b.cht := rfl
@[simp] theorem modDie_halo (g : Nat) (f : Die → Die) (b : Blk) : (modDie g f b).halo = b.halo := rfl
@[simp] theorem modDie_dram (g : Nat) (f : Die → Die) (b : Blk) : (modDie g f b).dram = b.dram := rfl
@[simp] theorem modDie_pers (g : Nat) (f : Die → Die) (b : Blk) : (modDie g f b).pers = b.pers := rfl
@[simp] theorem modDie_far (g : Nat) (f : Die → Die) (b : Blk) : (modDie g f b).far = b.far := rfl
@[simp] theorem modDie_twin (g : Nat) (f : Die → Die) (b : Blk) : (modDie g f b).twin = b.twin := rfl
@[simp] theorem modDie_host (g : Nat) (f : Die → Die) (b : Blk) : (modDie g f b).host = b.host := rfl
@[simp] theorem modDie_orb (g : Nat) (f : Die → Die) (b : Blk) : (modDie g f b).orb = b.orb := rfl
@[simp] theorem modDie_cph (g : Nat) (f : Die → Die) (b : Blk) : (modDie g f b).cph = b.cph := rfl
@[simp] theorem modDie_ident (g : Nat) (f : Die → Die) (b : Blk) : (modDie g f b).ident = b.ident := rfl
@[simp] theorem modDie_pwr (g : Nat) (f : Die → Die) (b : Blk) : (modDie g f b).pwr = b.pwr := rfl
@[simp] theorem modDie_therm (g : Nat) (f : Die → Die) (b : Blk) : (modDie g f b).therm = b.therm := rfl
@[simp] theorem modDie_mgt (g : Nat) (f : Die → Die) (b : Blk) : (modDie g f b).mgt = b.mgt := rfl
@[simp] theorem modDie_fw (g : Nat) (f : Die → Die) (b : Blk) : (modDie g f b).fw = b.fw := rfl
@[simp] theorem modDie_out (g : Nat) (f : Die → Die) (b : Blk) : (modDie g f b).out = b.out := rfl

/-! ### modNvf -/

@[simp] theorem modNvf_free (f : NvfSt → NvfSt) (b : Blk) : (modNvf f b).free = b.free := rfl
@[simp] theorem modNvf_cyc (f : NvfSt → NvfSt) (b : Blk) : (modNvf f b).cyc = b.cyc := rfl
@[simp] theorem modNvf_aon (f : NvfSt → NvfSt) (b : Blk) : (modNvf f b).aon = b.aon := rfl
@[simp] theorem modNvf_straps (f : NvfSt → NvfSt) (b : Blk) : (modNvf f b).straps = b.straps := rfl
@[simp] theorem modNvf_errs (f : NvfSt → NvfSt) (b : Blk) : (modNvf f b).errs = b.errs := rfl
@[simp] theorem modNvf_flt (f : NvfSt → NvfSt) (b : Blk) : (modNvf f b).flt = b.flt := rfl
@[simp] theorem modNvf_logbook (f : NvfSt → NvfSt) (b : Blk) : (modNvf f b).logbook = b.logbook := rfl
@[simp] theorem modNvf_alm (f : NvfSt → NvfSt) (b : Blk) : (modNvf f b).alm = b.alm := rfl
@[simp] theorem modNvf_efl (f : NvfSt → NvfSt) (b : Blk) : (modNvf f b).efl = b.efl := rfl
@[simp] theorem modNvf_mer (f : NvfSt → NvfSt) (b : Blk) : (modNvf f b).mer = b.mer := rfl
@[simp] theorem modNvf_cht (f : NvfSt → NvfSt) (b : Blk) : (modNvf f b).cht = b.cht := rfl
@[simp] theorem modNvf_halo (f : NvfSt → NvfSt) (b : Blk) : (modNvf f b).halo = b.halo := rfl
@[simp] theorem modNvf_dram (f : NvfSt → NvfSt) (b : Blk) : (modNvf f b).dram = b.dram := rfl
@[simp] theorem modNvf_pers (f : NvfSt → NvfSt) (b : Blk) : (modNvf f b).pers = b.pers := rfl
@[simp] theorem modNvf_far (f : NvfSt → NvfSt) (b : Blk) : (modNvf f b).far = b.far := rfl
@[simp] theorem modNvf_twin (f : NvfSt → NvfSt) (b : Blk) : (modNvf f b).twin = b.twin := rfl
@[simp] theorem modNvf_host (f : NvfSt → NvfSt) (b : Blk) : (modNvf f b).host = b.host := rfl
@[simp] theorem modNvf_orb (f : NvfSt → NvfSt) (b : Blk) : (modNvf f b).orb = b.orb := rfl
@[simp] theorem modNvf_cph (f : NvfSt → NvfSt) (b : Blk) : (modNvf f b).cph = b.cph := rfl
@[simp] theorem modNvf_ident (f : NvfSt → NvfSt) (b : Blk) : (modNvf f b).ident = b.ident := rfl
@[simp] theorem modNvf_pwr (f : NvfSt → NvfSt) (b : Blk) : (modNvf f b).pwr = b.pwr := rfl
@[simp] theorem modNvf_therm (f : NvfSt → NvfSt) (b : Blk) : (modNvf f b).therm = b.therm := rfl
@[simp] theorem modNvf_mgt (f : NvfSt → NvfSt) (b : Blk) : (modNvf f b).mgt = b.mgt := rfl
@[simp] theorem modNvf_fw (f : NvfSt → NvfSt) (b : Blk) : (modNvf f b).fw = b.fw := rfl
@[simp] theorem modNvf_out (f : NvfSt → NvfSt) (b : Blk) : (modNvf f b).out = b.out := rfl

/-! ### modStripe -/

@[simp] theorem modStripe_free (s : Nat) (f : Stripe → Stripe) (b : Blk) : (modStripe s f b).free = b.free := rfl
@[simp] theorem modStripe_cyc (s : Nat) (f : Stripe → Stripe) (b : Blk) : (modStripe s f b).cyc = b.cyc := rfl
@[simp] theorem modStripe_aon (s : Nat) (f : Stripe → Stripe) (b : Blk) : (modStripe s f b).aon = b.aon := rfl
@[simp] theorem modStripe_straps (s : Nat) (f : Stripe → Stripe) (b : Blk) : (modStripe s f b).straps = b.straps := rfl
@[simp] theorem modStripe_errs (s : Nat) (f : Stripe → Stripe) (b : Blk) : (modStripe s f b).errs = b.errs := rfl
@[simp] theorem modStripe_flt (s : Nat) (f : Stripe → Stripe) (b : Blk) : (modStripe s f b).flt = b.flt := rfl
@[simp] theorem modStripe_logbook (s : Nat) (f : Stripe → Stripe) (b : Blk) : (modStripe s f b).logbook = b.logbook := rfl
@[simp] theorem modStripe_alm (s : Nat) (f : Stripe → Stripe) (b : Blk) : (modStripe s f b).alm = b.alm := rfl
@[simp] theorem modStripe_efl (s : Nat) (f : Stripe → Stripe) (b : Blk) : (modStripe s f b).efl = b.efl := rfl
@[simp] theorem modStripe_mer (s : Nat) (f : Stripe → Stripe) (b : Blk) : (modStripe s f b).mer = b.mer := rfl
@[simp] theorem modStripe_cht (s : Nat) (f : Stripe → Stripe) (b : Blk) : (modStripe s f b).cht = b.cht := rfl
@[simp] theorem modStripe_halo (s : Nat) (f : Stripe → Stripe) (b : Blk) : (modStripe s f b).halo = b.halo := rfl
@[simp] theorem modStripe_dram (s : Nat) (f : Stripe → Stripe) (b : Blk) : (modStripe s f b).dram = b.dram := rfl
@[simp] theorem modStripe_pers (s : Nat) (f : Stripe → Stripe) (b : Blk) : (modStripe s f b).pers = b.pers := rfl
@[simp] theorem modStripe_far (s : Nat) (f : Stripe → Stripe) (b : Blk) : (modStripe s f b).far = b.far := rfl
@[simp] theorem modStripe_twin (s : Nat) (f : Stripe → Stripe) (b : Blk) : (modStripe s f b).twin = b.twin := rfl
@[simp] theorem modStripe_host (s : Nat) (f : Stripe → Stripe) (b : Blk) : (modStripe s f b).host = b.host := rfl
@[simp] theorem modStripe_orb (s : Nat) (f : Stripe → Stripe) (b : Blk) : (modStripe s f b).orb = b.orb := rfl
@[simp] theorem modStripe_cph (s : Nat) (f : Stripe → Stripe) (b : Blk) : (modStripe s f b).cph = b.cph := rfl
@[simp] theorem modStripe_ident (s : Nat) (f : Stripe → Stripe) (b : Blk) : (modStripe s f b).ident = b.ident := rfl
@[simp] theorem modStripe_pwr (s : Nat) (f : Stripe → Stripe) (b : Blk) : (modStripe s f b).pwr = b.pwr := rfl
@[simp] theorem modStripe_therm (s : Nat) (f : Stripe → Stripe) (b : Blk) : (modStripe s f b).therm = b.therm := rfl
@[simp] theorem modStripe_mgt (s : Nat) (f : Stripe → Stripe) (b : Blk) : (modStripe s f b).mgt = b.mgt := rfl
@[simp] theorem modStripe_fw (s : Nat) (f : Stripe → Stripe) (b : Blk) : (modStripe s f b).fw = b.fw := rfl
@[simp] theorem modStripe_out (s : Nat) (f : Stripe → Stripe) (b : Blk) : (modStripe s f b).out = b.out := rfl

/-! ### modChan -/

@[simp] theorem modChan_free (c : Nat) (f : Chan → Chan) (b : Blk) : (modChan c f b).free = b.free := rfl
@[simp] theorem modChan_cyc (c : Nat) (f : Chan → Chan) (b : Blk) : (modChan c f b).cyc = b.cyc := rfl
@[simp] theorem modChan_aon (c : Nat) (f : Chan → Chan) (b : Blk) : (modChan c f b).aon = b.aon := rfl
@[simp] theorem modChan_straps (c : Nat) (f : Chan → Chan) (b : Blk) : (modChan c f b).straps = b.straps := rfl
@[simp] theorem modChan_errs (c : Nat) (f : Chan → Chan) (b : Blk) : (modChan c f b).errs = b.errs := rfl
@[simp] theorem modChan_flt (c : Nat) (f : Chan → Chan) (b : Blk) : (modChan c f b).flt = b.flt := rfl
@[simp] theorem modChan_logbook (c : Nat) (f : Chan → Chan) (b : Blk) : (modChan c f b).logbook = b.logbook := rfl
@[simp] theorem modChan_alm (c : Nat) (f : Chan → Chan) (b : Blk) : (modChan c f b).alm = b.alm := rfl
@[simp] theorem modChan_efl (c : Nat) (f : Chan → Chan) (b : Blk) : (modChan c f b).efl = b.efl := rfl
@[simp] theorem modChan_mer (c : Nat) (f : Chan → Chan) (b : Blk) : (modChan c f b).mer = b.mer := rfl
@[simp] theorem modChan_cht (c : Nat) (f : Chan → Chan) (b : Blk) : (modChan c f b).cht = b.cht := rfl
@[simp] theorem modChan_halo (c : Nat) (f : Chan → Chan) (b : Blk) : (modChan c f b).halo = b.halo := rfl
@[simp] theorem modChan_pers (c : Nat) (f : Chan → Chan) (b : Blk) : (modChan c f b).pers = b.pers := rfl
@[simp] theorem modChan_nvf (c : Nat) (f : Chan → Chan) (b : Blk) : (modChan c f b).nvf = b.nvf := rfl
@[simp] theorem modChan_far (c : Nat) (f : Chan → Chan) (b : Blk) : (modChan c f b).far = b.far := rfl
@[simp] theorem modChan_twin (c : Nat) (f : Chan → Chan) (b : Blk) : (modChan c f b).twin = b.twin := rfl
@[simp] theorem modChan_host (c : Nat) (f : Chan → Chan) (b : Blk) : (modChan c f b).host = b.host := rfl
@[simp] theorem modChan_orb (c : Nat) (f : Chan → Chan) (b : Blk) : (modChan c f b).orb = b.orb := rfl
@[simp] theorem modChan_cph (c : Nat) (f : Chan → Chan) (b : Blk) : (modChan c f b).cph = b.cph := rfl
@[simp] theorem modChan_ident (c : Nat) (f : Chan → Chan) (b : Blk) : (modChan c f b).ident = b.ident := rfl
@[simp] theorem modChan_pwr (c : Nat) (f : Chan → Chan) (b : Blk) : (modChan c f b).pwr = b.pwr := rfl
@[simp] theorem modChan_therm (c : Nat) (f : Chan → Chan) (b : Blk) : (modChan c f b).therm = b.therm := rfl
@[simp] theorem modChan_mgt (c : Nat) (f : Chan → Chan) (b : Blk) : (modChan c f b).mgt = b.mgt := rfl
@[simp] theorem modChan_fw (c : Nat) (f : Chan → Chan) (b : Blk) : (modChan c f b).fw = b.fw := rfl
@[simp] theorem modChan_out (c : Nat) (f : Chan → Chan) (b : Blk) : (modChan c f b).out = b.out := rfl

/-! ### modSlot -/

@[simp] theorem modSlot_free (n : Nat) (f : KeySlot → KeySlot) (b : Blk) : (modSlot n f b).free = b.free := rfl
@[simp] theorem modSlot_cyc (n : Nat) (f : KeySlot → KeySlot) (b : Blk) : (modSlot n f b).cyc = b.cyc := rfl
@[simp] theorem modSlot_aon (n : Nat) (f : KeySlot → KeySlot) (b : Blk) : (modSlot n f b).aon = b.aon := rfl
@[simp] theorem modSlot_straps (n : Nat) (f : KeySlot → KeySlot) (b : Blk) : (modSlot n f b).straps = b.straps := rfl
@[simp] theorem modSlot_errs (n : Nat) (f : KeySlot → KeySlot) (b : Blk) : (modSlot n f b).errs = b.errs := rfl
@[simp] theorem modSlot_flt (n : Nat) (f : KeySlot → KeySlot) (b : Blk) : (modSlot n f b).flt = b.flt := rfl
@[simp] theorem modSlot_logbook (n : Nat) (f : KeySlot → KeySlot) (b : Blk) : (modSlot n f b).logbook = b.logbook := rfl
@[simp] theorem modSlot_alm (n : Nat) (f : KeySlot → KeySlot) (b : Blk) : (modSlot n f b).alm = b.alm := rfl
@[simp] theorem modSlot_efl (n : Nat) (f : KeySlot → KeySlot) (b : Blk) : (modSlot n f b).efl = b.efl := rfl
@[simp] theorem modSlot_mer (n : Nat) (f : KeySlot → KeySlot) (b : Blk) : (modSlot n f b).mer = b.mer := rfl
@[simp] theorem modSlot_cht (n : Nat) (f : KeySlot → KeySlot) (b : Blk) : (modSlot n f b).cht = b.cht := rfl
@[simp] theorem modSlot_halo (n : Nat) (f : KeySlot → KeySlot) (b : Blk) : (modSlot n f b).halo = b.halo := rfl
@[simp] theorem modSlot_dram (n : Nat) (f : KeySlot → KeySlot) (b : Blk) : (modSlot n f b).dram = b.dram := rfl
@[simp] theorem modSlot_pers (n : Nat) (f : KeySlot → KeySlot) (b : Blk) : (modSlot n f b).pers = b.pers := rfl
@[simp] theorem modSlot_nvf (n : Nat) (f : KeySlot → KeySlot) (b : Blk) : (modSlot n f b).nvf = b.nvf := rfl
@[simp] theorem modSlot_far (n : Nat) (f : KeySlot → KeySlot) (b : Blk) : (modSlot n f b).far = b.far := rfl
@[simp] theorem modSlot_twin (n : Nat) (f : KeySlot → KeySlot) (b : Blk) : (modSlot n f b).twin = b.twin := rfl
@[simp] theorem modSlot_host (n : Nat) (f : KeySlot → KeySlot) (b : Blk) : (modSlot n f b).host = b.host := rfl
@[simp] theorem modSlot_orb (n : Nat) (f : KeySlot → KeySlot) (b : Blk) : (modSlot n f b).orb = b.orb := rfl
@[simp] theorem modSlot_ident (n : Nat) (f : KeySlot → KeySlot) (b : Blk) : (modSlot n f b).ident = b.ident := rfl
@[simp] theorem modSlot_pwr (n : Nat) (f : KeySlot → KeySlot) (b : Blk) : (modSlot n f b).pwr = b.pwr := rfl
@[simp] theorem modSlot_therm (n : Nat) (f : KeySlot → KeySlot) (b : Blk) : (modSlot n f b).therm = b.therm := rfl
@[simp] theorem modSlot_mgt (n : Nat) (f : KeySlot → KeySlot) (b : Blk) : (modSlot n f b).mgt = b.mgt := rfl
@[simp] theorem modSlot_fw (n : Nat) (f : KeySlot → KeySlot) (b : Blk) : (modSlot n f b).fw = b.fw := rfl
@[simp] theorem modSlot_out (n : Nat) (f : KeySlot → KeySlot) (b : Blk) : (modSlot n f b).out = b.out := rfl

/-! ### setPresence -/

@[simp] theorem setPresence_free (p : Nat) (v : Presence) (b : Blk) : (setPresence p v b).free = b.free := rfl
@[simp] theorem setPresence_cyc (p : Nat) (v : Presence) (b : Blk) : (setPresence p v b).cyc = b.cyc := rfl
@[simp] theorem setPresence_aon (p : Nat) (v : Presence) (b : Blk) : (setPresence p v b).aon = b.aon := rfl
@[simp] theorem setPresence_straps (p : Nat) (v : Presence) (b : Blk) : (setPresence p v b).straps = b.straps := rfl
@[simp] theorem setPresence_errs (p : Nat) (v : Presence) (b : Blk) : (setPresence p v b).errs = b.errs := rfl
@[simp] theorem setPresence_flt (p : Nat) (v : Presence) (b : Blk) : (setPresence p v b).flt = b.flt := rfl
@[simp] theorem setPresence_logbook (p : Nat) (v : Presence) (b : Blk) : (setPresence p v b).logbook = b.logbook := rfl
@[simp] theorem setPresence_alm (p : Nat) (v : Presence) (b : Blk) : (setPresence p v b).alm = b.alm := rfl
@[simp] theorem setPresence_efl (p : Nat) (v : Presence) (b : Blk) : (setPresence p v b).efl = b.efl := rfl
@[simp] theorem setPresence_mer (p : Nat) (v : Presence) (b : Blk) : (setPresence p v b).mer = b.mer := rfl
@[simp] theorem setPresence_cht (p : Nat) (v : Presence) (b : Blk) : (setPresence p v b).cht = b.cht := rfl
@[simp] theorem setPresence_halo (p : Nat) (v : Presence) (b : Blk) : (setPresence p v b).halo = b.halo := rfl
@[simp] theorem setPresence_pers (p : Nat) (v : Presence) (b : Blk) : (setPresence p v b).pers = b.pers := rfl
@[simp] theorem setPresence_nvf (p : Nat) (v : Presence) (b : Blk) : (setPresence p v b).nvf = b.nvf := rfl
@[simp] theorem setPresence_far (p : Nat) (v : Presence) (b : Blk) : (setPresence p v b).far = b.far := rfl
@[simp] theorem setPresence_twin (p : Nat) (v : Presence) (b : Blk) : (setPresence p v b).twin = b.twin := rfl
@[simp] theorem setPresence_host (p : Nat) (v : Presence) (b : Blk) : (setPresence p v b).host = b.host := rfl
@[simp] theorem setPresence_orb (p : Nat) (v : Presence) (b : Blk) : (setPresence p v b).orb = b.orb := rfl
@[simp] theorem setPresence_cph (p : Nat) (v : Presence) (b : Blk) : (setPresence p v b).cph = b.cph := rfl
@[simp] theorem setPresence_ident (p : Nat) (v : Presence) (b : Blk) : (setPresence p v b).ident = b.ident := rfl
@[simp] theorem setPresence_pwr (p : Nat) (v : Presence) (b : Blk) : (setPresence p v b).pwr = b.pwr := rfl
@[simp] theorem setPresence_therm (p : Nat) (v : Presence) (b : Blk) : (setPresence p v b).therm = b.therm := rfl
@[simp] theorem setPresence_mgt (p : Nat) (v : Presence) (b : Blk) : (setPresence p v b).mgt = b.mgt := rfl
@[simp] theorem setPresence_fw (p : Nat) (v : Presence) (b : Blk) : (setPresence p v b).fw = b.fw := rfl
@[simp] theorem setPresence_out (p : Nat) (v : Presence) (b : Blk) : (setPresence p v b).out = b.out := rfl

/-! ### dropPageLines -/

@[simp] theorem dropPageLines_free (p : Nat) (b : Blk) : (dropPageLines p b).free = b.free := rfl
@[simp] theorem dropPageLines_cyc (p : Nat) (b : Blk) : (dropPageLines p b).cyc = b.cyc := rfl
@[simp] theorem dropPageLines_aon (p : Nat) (b : Blk) : (dropPageLines p b).aon = b.aon := rfl
@[simp] theorem dropPageLines_straps (p : Nat) (b : Blk) : (dropPageLines p b).straps = b.straps := rfl
@[simp] theorem dropPageLines_errs (p : Nat) (b : Blk) : (dropPageLines p b).errs = b.errs := rfl
@[simp] theorem dropPageLines_flt (p : Nat) (b : Blk) : (dropPageLines p b).flt = b.flt := rfl
@[simp] theorem dropPageLines_logbook (p : Nat) (b : Blk) : (dropPageLines p b).logbook = b.logbook := rfl
@[simp] theorem dropPageLines_alm (p : Nat) (b : Blk) : (dropPageLines p b).alm = b.alm := rfl
@[simp] theorem dropPageLines_efl (p : Nat) (b : Blk) : (dropPageLines p b).efl = b.efl := rfl
@[simp] theorem dropPageLines_mer (p : Nat) (b : Blk) : (dropPageLines p b).mer = b.mer := rfl
@[simp] theorem dropPageLines_cht (p : Nat) (b : Blk) : (dropPageLines p b).cht = b.cht := rfl
@[simp] theorem dropPageLines_halo (p : Nat) (b : Blk) : (dropPageLines p b).halo = b.halo := rfl
@[simp] theorem dropPageLines_pers (p : Nat) (b : Blk) : (dropPageLines p b).pers = b.pers := rfl
@[simp] theorem dropPageLines_nvf (p : Nat) (b : Blk) : (dropPageLines p b).nvf = b.nvf := rfl
@[simp] theorem dropPageLines_far (p : Nat) (b : Blk) : (dropPageLines p b).far = b.far := rfl
@[simp] theorem dropPageLines_twin (p : Nat) (b : Blk) : (dropPageLines p b).twin = b.twin := rfl
@[simp] theorem dropPageLines_host (p : Nat) (b : Blk) : (dropPageLines p b).host = b.host := rfl
@[simp] theorem dropPageLines_orb (p : Nat) (b : Blk) : (dropPageLines p b).orb = b.orb := rfl
@[simp] theorem dropPageLines_cph (p : Nat) (b : Blk) : (dropPageLines p b).cph = b.cph := rfl
@[simp] theorem dropPageLines_ident (p : Nat) (b : Blk) : (dropPageLines p b).ident = b.ident := rfl
@[simp] theorem dropPageLines_pwr (p : Nat) (b : Blk) : (dropPageLines p b).pwr = b.pwr := rfl
@[simp] theorem dropPageLines_therm (p : Nat) (b : Blk) : (dropPageLines p b).therm = b.therm := rfl
@[simp] theorem dropPageLines_mgt (p : Nat) (b : Blk) : (dropPageLines p b).mgt = b.mgt := rfl
@[simp] theorem dropPageLines_fw (p : Nat) (b : Blk) : (dropPageLines p b).fw = b.fw := rfl
@[simp] theorem dropPageLines_out (p : Nat) (b : Blk) : (dropPageLines p b).out = b.out := rfl

/-! ### haloPut -/

@[simp] theorem haloPut_free (k : Nat) (h : HaloLine) (b : Blk) : (haloPut k h b).free = b.free := rfl
@[simp] theorem haloPut_cyc (k : Nat) (h : HaloLine) (b : Blk) : (haloPut k h b).cyc = b.cyc := rfl
@[simp] theorem haloPut_aon (k : Nat) (h : HaloLine) (b : Blk) : (haloPut k h b).aon = b.aon := rfl
@[simp] theorem haloPut_straps (k : Nat) (h : HaloLine) (b : Blk) : (haloPut k h b).straps = b.straps := rfl
@[simp] theorem haloPut_errs (k : Nat) (h : HaloLine) (b : Blk) : (haloPut k h b).errs = b.errs := rfl
@[simp] theorem haloPut_flt (k : Nat) (h : HaloLine) (b : Blk) : (haloPut k h b).flt = b.flt := rfl
@[simp] theorem haloPut_logbook (k : Nat) (h : HaloLine) (b : Blk) : (haloPut k h b).logbook = b.logbook := rfl
@[simp] theorem haloPut_alm (k : Nat) (h : HaloLine) (b : Blk) : (haloPut k h b).alm = b.alm := rfl
@[simp] theorem haloPut_efl (k : Nat) (h : HaloLine) (b : Blk) : (haloPut k h b).efl = b.efl := rfl
@[simp] theorem haloPut_mer (k : Nat) (h : HaloLine) (b : Blk) : (haloPut k h b).mer = b.mer := rfl
@[simp] theorem haloPut_cht (k : Nat) (h : HaloLine) (b : Blk) : (haloPut k h b).cht = b.cht := rfl
@[simp] theorem haloPut_dram (k : Nat) (h : HaloLine) (b : Blk) : (haloPut k h b).dram = b.dram := rfl
@[simp] theorem haloPut_pers (k : Nat) (h : HaloLine) (b : Blk) : (haloPut k h b).pers = b.pers := rfl
@[simp] theorem haloPut_nvf (k : Nat) (h : HaloLine) (b : Blk) : (haloPut k h b).nvf = b.nvf := rfl
@[simp] theorem haloPut_far (k : Nat) (h : HaloLine) (b : Blk) : (haloPut k h b).far = b.far := rfl
@[simp] theorem haloPut_twin (k : Nat) (h : HaloLine) (b : Blk) : (haloPut k h b).twin = b.twin := rfl
@[simp] theorem haloPut_host (k : Nat) (h : HaloLine) (b : Blk) : (haloPut k h b).host = b.host := rfl
@[simp] theorem haloPut_orb (k : Nat) (h : HaloLine) (b : Blk) : (haloPut k h b).orb = b.orb := rfl
@[simp] theorem haloPut_cph (k : Nat) (h : HaloLine) (b : Blk) : (haloPut k h b).cph = b.cph := rfl
@[simp] theorem haloPut_ident (k : Nat) (h : HaloLine) (b : Blk) : (haloPut k h b).ident = b.ident := rfl
@[simp] theorem haloPut_pwr (k : Nat) (h : HaloLine) (b : Blk) : (haloPut k h b).pwr = b.pwr := rfl
@[simp] theorem haloPut_therm (k : Nat) (h : HaloLine) (b : Blk) : (haloPut k h b).therm = b.therm := rfl
@[simp] theorem haloPut_mgt (k : Nat) (h : HaloLine) (b : Blk) : (haloPut k h b).mgt = b.mgt := rfl
@[simp] theorem haloPut_fw (k : Nat) (h : HaloLine) (b : Blk) : (haloPut k h b).fw = b.fw := rfl
@[simp] theorem haloPut_out (k : Nat) (h : HaloLine) (b : Blk) : (haloPut k h b).out = b.out := rfl

/-! ### haloDrop -/

@[simp] theorem haloDrop_free (k : Nat) (b : Blk) : (haloDrop k b).free = b.free := rfl
@[simp] theorem haloDrop_cyc (k : Nat) (b : Blk) : (haloDrop k b).cyc = b.cyc := rfl
@[simp] theorem haloDrop_aon (k : Nat) (b : Blk) : (haloDrop k b).aon = b.aon := rfl
@[simp] theorem haloDrop_straps (k : Nat) (b : Blk) : (haloDrop k b).straps = b.straps := rfl
@[simp] theorem haloDrop_errs (k : Nat) (b : Blk) : (haloDrop k b).errs = b.errs := rfl
@[simp] theorem haloDrop_flt (k : Nat) (b : Blk) : (haloDrop k b).flt = b.flt := rfl
@[simp] theorem haloDrop_logbook (k : Nat) (b : Blk) : (haloDrop k b).logbook = b.logbook := rfl
@[simp] theorem haloDrop_alm (k : Nat) (b : Blk) : (haloDrop k b).alm = b.alm := rfl
@[simp] theorem haloDrop_efl (k : Nat) (b : Blk) : (haloDrop k b).efl = b.efl := rfl
@[simp] theorem haloDrop_mer (k : Nat) (b : Blk) : (haloDrop k b).mer = b.mer := rfl
@[simp] theorem haloDrop_cht (k : Nat) (b : Blk) : (haloDrop k b).cht = b.cht := rfl
@[simp] theorem haloDrop_dram (k : Nat) (b : Blk) : (haloDrop k b).dram = b.dram := rfl
@[simp] theorem haloDrop_pers (k : Nat) (b : Blk) : (haloDrop k b).pers = b.pers := rfl
@[simp] theorem haloDrop_nvf (k : Nat) (b : Blk) : (haloDrop k b).nvf = b.nvf := rfl
@[simp] theorem haloDrop_far (k : Nat) (b : Blk) : (haloDrop k b).far = b.far := rfl
@[simp] theorem haloDrop_twin (k : Nat) (b : Blk) : (haloDrop k b).twin = b.twin := rfl
@[simp] theorem haloDrop_host (k : Nat) (b : Blk) : (haloDrop k b).host = b.host := rfl
@[simp] theorem haloDrop_orb (k : Nat) (b : Blk) : (haloDrop k b).orb = b.orb := rfl
@[simp] theorem haloDrop_cph (k : Nat) (b : Blk) : (haloDrop k b).cph = b.cph := rfl
@[simp] theorem haloDrop_ident (k : Nat) (b : Blk) : (haloDrop k b).ident = b.ident := rfl
@[simp] theorem haloDrop_pwr (k : Nat) (b : Blk) : (haloDrop k b).pwr = b.pwr := rfl
@[simp] theorem haloDrop_therm (k : Nat) (b : Blk) : (haloDrop k b).therm = b.therm := rfl
@[simp] theorem haloDrop_mgt (k : Nat) (b : Blk) : (haloDrop k b).mgt = b.mgt := rfl
@[simp] theorem haloDrop_fw (k : Nat) (b : Blk) : (haloDrop k b).fw = b.fw := rfl
@[simp] theorem haloDrop_out (k : Nat) (b : Blk) : (haloDrop k b).out = b.out := rfl

/-! ### modOrb -/

@[simp] theorem modOrb_free (f : OrbSt → OrbSt) (b : Blk) : (modOrb f b).free = b.free := rfl
@[simp] theorem modOrb_cyc (f : OrbSt → OrbSt) (b : Blk) : (modOrb f b).cyc = b.cyc := rfl
@[simp] theorem modOrb_aon (f : OrbSt → OrbSt) (b : Blk) : (modOrb f b).aon = b.aon := rfl
@[simp] theorem modOrb_straps (f : OrbSt → OrbSt) (b : Blk) : (modOrb f b).straps = b.straps := rfl
@[simp] theorem modOrb_errs (f : OrbSt → OrbSt) (b : Blk) : (modOrb f b).errs = b.errs := rfl
@[simp] theorem modOrb_flt (f : OrbSt → OrbSt) (b : Blk) : (modOrb f b).flt = b.flt := rfl
@[simp] theorem modOrb_logbook (f : OrbSt → OrbSt) (b : Blk) : (modOrb f b).logbook = b.logbook := rfl
@[simp] theorem modOrb_alm (f : OrbSt → OrbSt) (b : Blk) : (modOrb f b).alm = b.alm := rfl
@[simp] theorem modOrb_efl (f : OrbSt → OrbSt) (b : Blk) : (modOrb f b).efl = b.efl := rfl
@[simp] theorem modOrb_mer (f : OrbSt → OrbSt) (b : Blk) : (modOrb f b).mer = b.mer := rfl
@[simp] theorem modOrb_cht (f : OrbSt → OrbSt) (b : Blk) : (modOrb f b).cht = b.cht := rfl
@[simp] theorem modOrb_halo (f : OrbSt → OrbSt) (b : Blk) : (modOrb f b).halo = b.halo := rfl
@[simp] theorem modOrb_dram (f : OrbSt → OrbSt) (b : Blk) : (modOrb f b).dram = b.dram := rfl
@[simp] theorem modOrb_pers (f : OrbSt → OrbSt) (b : Blk) : (modOrb f b).pers = b.pers := rfl
@[simp] theorem modOrb_nvf (f : OrbSt → OrbSt) (b : Blk) : (modOrb f b).nvf = b.nvf := rfl
@[simp] theorem modOrb_far (f : OrbSt → OrbSt) (b : Blk) : (modOrb f b).far = b.far := rfl
@[simp] theorem modOrb_twin (f : OrbSt → OrbSt) (b : Blk) : (modOrb f b).twin = b.twin := rfl
@[simp] theorem modOrb_host (f : OrbSt → OrbSt) (b : Blk) : (modOrb f b).host = b.host := rfl
@[simp] theorem modOrb_cph (f : OrbSt → OrbSt) (b : Blk) : (modOrb f b).cph = b.cph := rfl
@[simp] theorem modOrb_ident (f : OrbSt → OrbSt) (b : Blk) : (modOrb f b).ident = b.ident := rfl
@[simp] theorem modOrb_pwr (f : OrbSt → OrbSt) (b : Blk) : (modOrb f b).pwr = b.pwr := rfl
@[simp] theorem modOrb_therm (f : OrbSt → OrbSt) (b : Blk) : (modOrb f b).therm = b.therm := rfl
@[simp] theorem modOrb_mgt (f : OrbSt → OrbSt) (b : Blk) : (modOrb f b).mgt = b.mgt := rfl
@[simp] theorem modOrb_fw (f : OrbSt → OrbSt) (b : Blk) : (modOrb f b).fw = b.fw := rfl
@[simp] theorem modOrb_out (f : OrbSt → OrbSt) (b : Blk) : (modOrb f b).out = b.out := rfl

/-! ### modOq -/

@[simp] theorem modOq_free (q : Nat) (f : OrbQueue → OrbQueue) (b : Blk) : (modOq q f b).free = b.free := by unfold modOq; split <;> rfl
@[simp] theorem modOq_cyc (q : Nat) (f : OrbQueue → OrbQueue) (b : Blk) : (modOq q f b).cyc = b.cyc := by unfold modOq; split <;> rfl
@[simp] theorem modOq_aon (q : Nat) (f : OrbQueue → OrbQueue) (b : Blk) : (modOq q f b).aon = b.aon := by unfold modOq; split <;> rfl
@[simp] theorem modOq_straps (q : Nat) (f : OrbQueue → OrbQueue) (b : Blk) : (modOq q f b).straps = b.straps := by unfold modOq; split <;> rfl
@[simp] theorem modOq_errs (q : Nat) (f : OrbQueue → OrbQueue) (b : Blk) : (modOq q f b).errs = b.errs := by unfold modOq; split <;> rfl
@[simp] theorem modOq_flt (q : Nat) (f : OrbQueue → OrbQueue) (b : Blk) : (modOq q f b).flt = b.flt := by unfold modOq; split <;> rfl
@[simp] theorem modOq_logbook (q : Nat) (f : OrbQueue → OrbQueue) (b : Blk) : (modOq q f b).logbook = b.logbook := by unfold modOq; split <;> rfl
@[simp] theorem modOq_alm (q : Nat) (f : OrbQueue → OrbQueue) (b : Blk) : (modOq q f b).alm = b.alm := by unfold modOq; split <;> rfl
@[simp] theorem modOq_efl (q : Nat) (f : OrbQueue → OrbQueue) (b : Blk) : (modOq q f b).efl = b.efl := by unfold modOq; split <;> rfl
@[simp] theorem modOq_mer (q : Nat) (f : OrbQueue → OrbQueue) (b : Blk) : (modOq q f b).mer = b.mer := by unfold modOq; split <;> rfl
@[simp] theorem modOq_cht (q : Nat) (f : OrbQueue → OrbQueue) (b : Blk) : (modOq q f b).cht = b.cht := by unfold modOq; split <;> rfl
@[simp] theorem modOq_halo (q : Nat) (f : OrbQueue → OrbQueue) (b : Blk) : (modOq q f b).halo = b.halo := by unfold modOq; split <;> rfl
@[simp] theorem modOq_dram (q : Nat) (f : OrbQueue → OrbQueue) (b : Blk) : (modOq q f b).dram = b.dram := by unfold modOq; split <;> rfl
@[simp] theorem modOq_pers (q : Nat) (f : OrbQueue → OrbQueue) (b : Blk) : (modOq q f b).pers = b.pers := by unfold modOq; split <;> rfl
@[simp] theorem modOq_nvf (q : Nat) (f : OrbQueue → OrbQueue) (b : Blk) : (modOq q f b).nvf = b.nvf := by unfold modOq; split <;> rfl
@[simp] theorem modOq_far (q : Nat) (f : OrbQueue → OrbQueue) (b : Blk) : (modOq q f b).far = b.far := by unfold modOq; split <;> rfl
@[simp] theorem modOq_twin (q : Nat) (f : OrbQueue → OrbQueue) (b : Blk) : (modOq q f b).twin = b.twin := by unfold modOq; split <;> rfl
@[simp] theorem modOq_host (q : Nat) (f : OrbQueue → OrbQueue) (b : Blk) : (modOq q f b).host = b.host := by unfold modOq; split <;> rfl
@[simp] theorem modOq_cph (q : Nat) (f : OrbQueue → OrbQueue) (b : Blk) : (modOq q f b).cph = b.cph := by unfold modOq; split <;> rfl
@[simp] theorem modOq_ident (q : Nat) (f : OrbQueue → OrbQueue) (b : Blk) : (modOq q f b).ident = b.ident := by unfold modOq; split <;> rfl
@[simp] theorem modOq_pwr (q : Nat) (f : OrbQueue → OrbQueue) (b : Blk) : (modOq q f b).pwr = b.pwr := by unfold modOq; split <;> rfl
@[simp] theorem modOq_therm (q : Nat) (f : OrbQueue → OrbQueue) (b : Blk) : (modOq q f b).therm = b.therm := by unfold modOq; split <;> rfl
@[simp] theorem modOq_mgt (q : Nat) (f : OrbQueue → OrbQueue) (b : Blk) : (modOq q f b).mgt = b.mgt := by unfold modOq; split <;> rfl
@[simp] theorem modOq_fw (q : Nat) (f : OrbQueue → OrbQueue) (b : Blk) : (modOq q f b).fw = b.fw := by unfold modOq; split <;> rfl
@[simp] theorem modOq_out (q : Nat) (f : OrbQueue → OrbQueue) (b : Blk) : (modOq q f b).out = b.out := by unfold modOq; split <;> rfl

/-! ### modMsg -/

@[simp] theorem modMsg_free (q msgId : Nat) (f : OrbMsg → OrbMsg) (b : Blk) : (modMsg q msgId f b).free = b.free := by simp [modMsg]
@[simp] theorem modMsg_cyc (q msgId : Nat) (f : OrbMsg → OrbMsg) (b : Blk) : (modMsg q msgId f b).cyc = b.cyc := by simp [modMsg]
@[simp] theorem modMsg_aon (q msgId : Nat) (f : OrbMsg → OrbMsg) (b : Blk) : (modMsg q msgId f b).aon = b.aon := by simp [modMsg]
@[simp] theorem modMsg_straps (q msgId : Nat) (f : OrbMsg → OrbMsg) (b : Blk) : (modMsg q msgId f b).straps = b.straps := by simp [modMsg]
@[simp] theorem modMsg_errs (q msgId : Nat) (f : OrbMsg → OrbMsg) (b : Blk) : (modMsg q msgId f b).errs = b.errs := by simp [modMsg]
@[simp] theorem modMsg_flt (q msgId : Nat) (f : OrbMsg → OrbMsg) (b : Blk) : (modMsg q msgId f b).flt = b.flt := by simp [modMsg]
@[simp] theorem modMsg_logbook (q msgId : Nat) (f : OrbMsg → OrbMsg) (b : Blk) : (modMsg q msgId f b).logbook = b.logbook := by simp [modMsg]
@[simp] theorem modMsg_alm (q msgId : Nat) (f : OrbMsg → OrbMsg) (b : Blk) : (modMsg q msgId f b).alm = b.alm := by simp [modMsg]
@[simp] theorem modMsg_efl (q msgId : Nat) (f : OrbMsg → OrbMsg) (b : Blk) : (modMsg q msgId f b).efl = b.efl := by simp [modMsg]
@[simp] theorem modMsg_mer (q msgId : Nat) (f : OrbMsg → OrbMsg) (b : Blk) : (modMsg q msgId f b).mer = b.mer := by simp [modMsg]
@[simp] theorem modMsg_cht (q msgId : Nat) (f : OrbMsg → OrbMsg) (b : Blk) : (modMsg q msgId f b).cht = b.cht := by simp [modMsg]
@[simp] theorem modMsg_halo (q msgId : Nat) (f : OrbMsg → OrbMsg) (b : Blk) : (modMsg q msgId f b).halo = b.halo := by simp [modMsg]
@[simp] theorem modMsg_dram (q msgId : Nat) (f : OrbMsg → OrbMsg) (b : Blk) : (modMsg q msgId f b).dram = b.dram := by simp [modMsg]
@[simp] theorem modMsg_pers (q msgId : Nat) (f : OrbMsg → OrbMsg) (b : Blk) : (modMsg q msgId f b).pers = b.pers := by simp [modMsg]
@[simp] theorem modMsg_nvf (q msgId : Nat) (f : OrbMsg → OrbMsg) (b : Blk) : (modMsg q msgId f b).nvf = b.nvf := by simp [modMsg]
@[simp] theorem modMsg_far (q msgId : Nat) (f : OrbMsg → OrbMsg) (b : Blk) : (modMsg q msgId f b).far = b.far := by simp [modMsg]
@[simp] theorem modMsg_twin (q msgId : Nat) (f : OrbMsg → OrbMsg) (b : Blk) : (modMsg q msgId f b).twin = b.twin := by simp [modMsg]
@[simp] theorem modMsg_host (q msgId : Nat) (f : OrbMsg → OrbMsg) (b : Blk) : (modMsg q msgId f b).host = b.host := by simp [modMsg]
@[simp] theorem modMsg_cph (q msgId : Nat) (f : OrbMsg → OrbMsg) (b : Blk) : (modMsg q msgId f b).cph = b.cph := by simp [modMsg]
@[simp] theorem modMsg_ident (q msgId : Nat) (f : OrbMsg → OrbMsg) (b : Blk) : (modMsg q msgId f b).ident = b.ident := by simp [modMsg]
@[simp] theorem modMsg_pwr (q msgId : Nat) (f : OrbMsg → OrbMsg) (b : Blk) : (modMsg q msgId f b).pwr = b.pwr := by simp [modMsg]
@[simp] theorem modMsg_therm (q msgId : Nat) (f : OrbMsg → OrbMsg) (b : Blk) : (modMsg q msgId f b).therm = b.therm := by simp [modMsg]
@[simp] theorem modMsg_mgt (q msgId : Nat) (f : OrbMsg → OrbMsg) (b : Blk) : (modMsg q msgId f b).mgt = b.mgt := by simp [modMsg]
@[simp] theorem modMsg_fw (q msgId : Nat) (f : OrbMsg → OrbMsg) (b : Blk) : (modMsg q msgId f b).fw = b.fw := by simp [modMsg]
@[simp] theorem modMsg_out (q msgId : Nat) (f : OrbMsg → OrbMsg) (b : Blk) : (modMsg q msgId f b).out = b.out := by simp [modMsg]

/-! ### modPwr -/

@[simp] theorem modPwr_free (f : PowerSt → PowerSt) (b : Blk) : (modPwr f b).free = b.free := rfl
@[simp] theorem modPwr_cyc (f : PowerSt → PowerSt) (b : Blk) : (modPwr f b).cyc = b.cyc := rfl
@[simp] theorem modPwr_aon (f : PowerSt → PowerSt) (b : Blk) : (modPwr f b).aon = b.aon := rfl
@[simp] theorem modPwr_straps (f : PowerSt → PowerSt) (b : Blk) : (modPwr f b).straps = b.straps := rfl
@[simp] theorem modPwr_errs (f : PowerSt → PowerSt) (b : Blk) : (modPwr f b).errs = b.errs := rfl
@[simp] theorem modPwr_flt (f : PowerSt → PowerSt) (b : Blk) : (modPwr f b).flt = b.flt := rfl
@[simp] theorem modPwr_logbook (f : PowerSt → PowerSt) (b : Blk) : (modPwr f b).logbook = b.logbook := rfl
@[simp] theorem modPwr_alm (f : PowerSt → PowerSt) (b : Blk) : (modPwr f b).alm = b.alm := rfl
@[simp] theorem modPwr_efl (f : PowerSt → PowerSt) (b : Blk) : (modPwr f b).efl = b.efl := rfl
@[simp] theorem modPwr_mer (f : PowerSt → PowerSt) (b : Blk) : (modPwr f b).mer = b.mer := rfl
@[simp] theorem modPwr_cht (f : PowerSt → PowerSt) (b : Blk) : (modPwr f b).cht = b.cht := rfl
@[simp] theorem modPwr_halo (f : PowerSt → PowerSt) (b : Blk) : (modPwr f b).halo = b.halo := rfl
@[simp] theorem modPwr_dram (f : PowerSt → PowerSt) (b : Blk) : (modPwr f b).dram = b.dram := rfl
@[simp] theorem modPwr_pers (f : PowerSt → PowerSt) (b : Blk) : (modPwr f b).pers = b.pers := rfl
@[simp] theorem modPwr_nvf (f : PowerSt → PowerSt) (b : Blk) : (modPwr f b).nvf = b.nvf := rfl
@[simp] theorem modPwr_far (f : PowerSt → PowerSt) (b : Blk) : (modPwr f b).far = b.far := rfl
@[simp] theorem modPwr_twin (f : PowerSt → PowerSt) (b : Blk) : (modPwr f b).twin = b.twin := rfl
@[simp] theorem modPwr_host (f : PowerSt → PowerSt) (b : Blk) : (modPwr f b).host = b.host := rfl
@[simp] theorem modPwr_orb (f : PowerSt → PowerSt) (b : Blk) : (modPwr f b).orb = b.orb := rfl
@[simp] theorem modPwr_cph (f : PowerSt → PowerSt) (b : Blk) : (modPwr f b).cph = b.cph := rfl
@[simp] theorem modPwr_ident (f : PowerSt → PowerSt) (b : Blk) : (modPwr f b).ident = b.ident := rfl
@[simp] theorem modPwr_therm (f : PowerSt → PowerSt) (b : Blk) : (modPwr f b).therm = b.therm := rfl
@[simp] theorem modPwr_mgt (f : PowerSt → PowerSt) (b : Blk) : (modPwr f b).mgt = b.mgt := rfl
@[simp] theorem modPwr_fw (f : PowerSt → PowerSt) (b : Blk) : (modPwr f b).fw = b.fw := rfl
@[simp] theorem modPwr_out (f : PowerSt → PowerSt) (b : Blk) : (modPwr f b).out = b.out := rfl

/-! ### modTwin -/

@[simp] theorem modTwin_free (f : TwinSt → TwinSt) (b : Blk) : (modTwin f b).free = b.free := rfl
@[simp] theorem modTwin_cyc (f : TwinSt → TwinSt) (b : Blk) : (modTwin f b).cyc = b.cyc := rfl
@[simp] theorem modTwin_aon (f : TwinSt → TwinSt) (b : Blk) : (modTwin f b).aon = b.aon := rfl
@[simp] theorem modTwin_straps (f : TwinSt → TwinSt) (b : Blk) : (modTwin f b).straps = b.straps := rfl
@[simp] theorem modTwin_errs (f : TwinSt → TwinSt) (b : Blk) : (modTwin f b).errs = b.errs := rfl
@[simp] theorem modTwin_flt (f : TwinSt → TwinSt) (b : Blk) : (modTwin f b).flt = b.flt := rfl
@[simp] theorem modTwin_logbook (f : TwinSt → TwinSt) (b : Blk) : (modTwin f b).logbook = b.logbook := rfl
@[simp] theorem modTwin_alm (f : TwinSt → TwinSt) (b : Blk) : (modTwin f b).alm = b.alm := rfl
@[simp] theorem modTwin_efl (f : TwinSt → TwinSt) (b : Blk) : (modTwin f b).efl = b.efl := rfl
@[simp] theorem modTwin_mer (f : TwinSt → TwinSt) (b : Blk) : (modTwin f b).mer = b.mer := rfl
@[simp] theorem modTwin_cht (f : TwinSt → TwinSt) (b : Blk) : (modTwin f b).cht = b.cht := rfl
@[simp] theorem modTwin_halo (f : TwinSt → TwinSt) (b : Blk) : (modTwin f b).halo = b.halo := rfl
@[simp] theorem modTwin_dram (f : TwinSt → TwinSt) (b : Blk) : (modTwin f b).dram = b.dram := rfl
@[simp] theorem modTwin_pers (f : TwinSt → TwinSt) (b : Blk) : (modTwin f b).pers = b.pers := rfl
@[simp] theorem modTwin_nvf (f : TwinSt → TwinSt) (b : Blk) : (modTwin f b).nvf = b.nvf := rfl
@[simp] theorem modTwin_far (f : TwinSt → TwinSt) (b : Blk) : (modTwin f b).far = b.far := rfl
@[simp] theorem modTwin_host (f : TwinSt → TwinSt) (b : Blk) : (modTwin f b).host = b.host := rfl
@[simp] theorem modTwin_orb (f : TwinSt → TwinSt) (b : Blk) : (modTwin f b).orb = b.orb := rfl
@[simp] theorem modTwin_cph (f : TwinSt → TwinSt) (b : Blk) : (modTwin f b).cph = b.cph := rfl
@[simp] theorem modTwin_ident (f : TwinSt → TwinSt) (b : Blk) : (modTwin f b).ident = b.ident := rfl
@[simp] theorem modTwin_pwr (f : TwinSt → TwinSt) (b : Blk) : (modTwin f b).pwr = b.pwr := rfl
@[simp] theorem modTwin_therm (f : TwinSt → TwinSt) (b : Blk) : (modTwin f b).therm = b.therm := rfl
@[simp] theorem modTwin_mgt (f : TwinSt → TwinSt) (b : Blk) : (modTwin f b).mgt = b.mgt := rfl
@[simp] theorem modTwin_fw (f : TwinSt → TwinSt) (b : Blk) : (modTwin f b).fw = b.fw := rfl
@[simp] theorem modTwin_out (f : TwinSt → TwinSt) (b : Blk) : (modTwin f b).out = b.out := rfl

/-! ### modLink -/

@[simp] theorem modLink_free (l : Nat) (f : HalfLink → HalfLink) (b : Blk) : (modLink l f b).free = b.free := rfl
@[simp] theorem modLink_cyc (l : Nat) (f : HalfLink → HalfLink) (b : Blk) : (modLink l f b).cyc = b.cyc := rfl
@[simp] theorem modLink_aon (l : Nat) (f : HalfLink → HalfLink) (b : Blk) : (modLink l f b).aon = b.aon := rfl
@[simp] theorem modLink_straps (l : Nat) (f : HalfLink → HalfLink) (b : Blk) : (modLink l f b).straps = b.straps := rfl
@[simp] theorem modLink_errs (l : Nat) (f : HalfLink → HalfLink) (b : Blk) : (modLink l f b).errs = b.errs := rfl
@[simp] theorem modLink_flt (l : Nat) (f : HalfLink → HalfLink) (b : Blk) : (modLink l f b).flt = b.flt := rfl
@[simp] theorem modLink_logbook (l : Nat) (f : HalfLink → HalfLink) (b : Blk) : (modLink l f b).logbook = b.logbook := rfl
@[simp] theorem modLink_alm (l : Nat) (f : HalfLink → HalfLink) (b : Blk) : (modLink l f b).alm = b.alm := rfl
@[simp] theorem modLink_efl (l : Nat) (f : HalfLink → HalfLink) (b : Blk) : (modLink l f b).efl = b.efl := rfl
@[simp] theorem modLink_mer (l : Nat) (f : HalfLink → HalfLink) (b : Blk) : (modLink l f b).mer = b.mer := rfl
@[simp] theorem modLink_cht (l : Nat) (f : HalfLink → HalfLink) (b : Blk) : (modLink l f b).cht = b.cht := rfl
@[simp] theorem modLink_halo (l : Nat) (f : HalfLink → HalfLink) (b : Blk) : (modLink l f b).halo = b.halo := rfl
@[simp] theorem modLink_dram (l : Nat) (f : HalfLink → HalfLink) (b : Blk) : (modLink l f b).dram = b.dram := rfl
@[simp] theorem modLink_pers (l : Nat) (f : HalfLink → HalfLink) (b : Blk) : (modLink l f b).pers = b.pers := rfl
@[simp] theorem modLink_nvf (l : Nat) (f : HalfLink → HalfLink) (b : Blk) : (modLink l f b).nvf = b.nvf := rfl
@[simp] theorem modLink_far (l : Nat) (f : HalfLink → HalfLink) (b : Blk) : (modLink l f b).far = b.far := rfl
@[simp] theorem modLink_host (l : Nat) (f : HalfLink → HalfLink) (b : Blk) : (modLink l f b).host = b.host := rfl
@[simp] theorem modLink_orb (l : Nat) (f : HalfLink → HalfLink) (b : Blk) : (modLink l f b).orb = b.orb := rfl
@[simp] theorem modLink_cph (l : Nat) (f : HalfLink → HalfLink) (b : Blk) : (modLink l f b).cph = b.cph := rfl
@[simp] theorem modLink_ident (l : Nat) (f : HalfLink → HalfLink) (b : Blk) : (modLink l f b).ident = b.ident := rfl
@[simp] theorem modLink_pwr (l : Nat) (f : HalfLink → HalfLink) (b : Blk) : (modLink l f b).pwr = b.pwr := rfl
@[simp] theorem modLink_therm (l : Nat) (f : HalfLink → HalfLink) (b : Blk) : (modLink l f b).therm = b.therm := rfl
@[simp] theorem modLink_mgt (l : Nat) (f : HalfLink → HalfLink) (b : Blk) : (modLink l f b).mgt = b.mgt := rfl
@[simp] theorem modLink_fw (l : Nat) (f : HalfLink → HalfLink) (b : Blk) : (modLink l f b).fw = b.fw := rfl
@[simp] theorem modLink_out (l : Nat) (f : HalfLink → HalfLink) (b : Blk) : (modLink l f b).out = b.out := rfl

/-! ### modHalf -/

@[simp] theorem modHalf_free (h : Nat) (f : HalfSt → HalfSt) (b : Blk) : (modHalf h f b).free = b.free := rfl
@[simp] theorem modHalf_cyc (h : Nat) (f : HalfSt → HalfSt) (b : Blk) : (modHalf h f b).cyc = b.cyc := rfl
@[simp] theorem modHalf_aon (h : Nat) (f : HalfSt → HalfSt) (b : Blk) : (modHalf h f b).aon = b.aon := rfl
@[simp] theorem modHalf_straps (h : Nat) (f : HalfSt → HalfSt) (b : Blk) : (modHalf h f b).straps = b.straps := rfl
@[simp] theorem modHalf_errs (h : Nat) (f : HalfSt → HalfSt) (b : Blk) : (modHalf h f b).errs = b.errs := rfl
@[simp] theorem modHalf_flt (h : Nat) (f : HalfSt → HalfSt) (b : Blk) : (modHalf h f b).flt = b.flt := rfl
@[simp] theorem modHalf_logbook (h : Nat) (f : HalfSt → HalfSt) (b : Blk) : (modHalf h f b).logbook = b.logbook := rfl
@[simp] theorem modHalf_alm (h : Nat) (f : HalfSt → HalfSt) (b : Blk) : (modHalf h f b).alm = b.alm := rfl
@[simp] theorem modHalf_efl (h : Nat) (f : HalfSt → HalfSt) (b : Blk) : (modHalf h f b).efl = b.efl := rfl
@[simp] theorem modHalf_mer (h : Nat) (f : HalfSt → HalfSt) (b : Blk) : (modHalf h f b).mer = b.mer := rfl
@[simp] theorem modHalf_cht (h : Nat) (f : HalfSt → HalfSt) (b : Blk) : (modHalf h f b).cht = b.cht := rfl
@[simp] theorem modHalf_halo (h : Nat) (f : HalfSt → HalfSt) (b : Blk) : (modHalf h f b).halo = b.halo := rfl
@[simp] theorem modHalf_dram (h : Nat) (f : HalfSt → HalfSt) (b : Blk) : (modHalf h f b).dram = b.dram := rfl
@[simp] theorem modHalf_pers (h : Nat) (f : HalfSt → HalfSt) (b : Blk) : (modHalf h f b).pers = b.pers := rfl
@[simp] theorem modHalf_nvf (h : Nat) (f : HalfSt → HalfSt) (b : Blk) : (modHalf h f b).nvf = b.nvf := rfl
@[simp] theorem modHalf_far (h : Nat) (f : HalfSt → HalfSt) (b : Blk) : (modHalf h f b).far = b.far := rfl
@[simp] theorem modHalf_host (h : Nat) (f : HalfSt → HalfSt) (b : Blk) : (modHalf h f b).host = b.host := rfl
@[simp] theorem modHalf_orb (h : Nat) (f : HalfSt → HalfSt) (b : Blk) : (modHalf h f b).orb = b.orb := rfl
@[simp] theorem modHalf_cph (h : Nat) (f : HalfSt → HalfSt) (b : Blk) : (modHalf h f b).cph = b.cph := rfl
@[simp] theorem modHalf_ident (h : Nat) (f : HalfSt → HalfSt) (b : Blk) : (modHalf h f b).ident = b.ident := rfl
@[simp] theorem modHalf_pwr (h : Nat) (f : HalfSt → HalfSt) (b : Blk) : (modHalf h f b).pwr = b.pwr := rfl
@[simp] theorem modHalf_therm (h : Nat) (f : HalfSt → HalfSt) (b : Blk) : (modHalf h f b).therm = b.therm := rfl
@[simp] theorem modHalf_mgt (h : Nat) (f : HalfSt → HalfSt) (b : Blk) : (modHalf h f b).mgt = b.mgt := rfl
@[simp] theorem modHalf_fw (h : Nat) (f : HalfSt → HalfSt) (b : Blk) : (modHalf h f b).fw = b.fw := rfl
@[simp] theorem modHalf_out (h : Nat) (f : HalfSt → HalfSt) (b : Blk) : (modHalf h f b).out = b.out := rfl

/-! ### modEth -/

@[simp] theorem modEth_free (p : Nat) (f : EthPort → EthPort) (b : Blk) : (modEth p f b).free = b.free := rfl
@[simp] theorem modEth_cyc (p : Nat) (f : EthPort → EthPort) (b : Blk) : (modEth p f b).cyc = b.cyc := rfl
@[simp] theorem modEth_aon (p : Nat) (f : EthPort → EthPort) (b : Blk) : (modEth p f b).aon = b.aon := rfl
@[simp] theorem modEth_straps (p : Nat) (f : EthPort → EthPort) (b : Blk) : (modEth p f b).straps = b.straps := rfl
@[simp] theorem modEth_errs (p : Nat) (f : EthPort → EthPort) (b : Blk) : (modEth p f b).errs = b.errs := rfl
@[simp] theorem modEth_flt (p : Nat) (f : EthPort → EthPort) (b : Blk) : (modEth p f b).flt = b.flt := rfl
@[simp] theorem modEth_logbook (p : Nat) (f : EthPort → EthPort) (b : Blk) : (modEth p f b).logbook = b.logbook := rfl
@[simp] theorem modEth_alm (p : Nat) (f : EthPort → EthPort) (b : Blk) : (modEth p f b).alm = b.alm := rfl
@[simp] theorem modEth_efl (p : Nat) (f : EthPort → EthPort) (b : Blk) : (modEth p f b).efl = b.efl := rfl
@[simp] theorem modEth_mer (p : Nat) (f : EthPort → EthPort) (b : Blk) : (modEth p f b).mer = b.mer := rfl
@[simp] theorem modEth_cht (p : Nat) (f : EthPort → EthPort) (b : Blk) : (modEth p f b).cht = b.cht := rfl
@[simp] theorem modEth_halo (p : Nat) (f : EthPort → EthPort) (b : Blk) : (modEth p f b).halo = b.halo := rfl
@[simp] theorem modEth_dram (p : Nat) (f : EthPort → EthPort) (b : Blk) : (modEth p f b).dram = b.dram := rfl
@[simp] theorem modEth_pers (p : Nat) (f : EthPort → EthPort) (b : Blk) : (modEth p f b).pers = b.pers := rfl
@[simp] theorem modEth_nvf (p : Nat) (f : EthPort → EthPort) (b : Blk) : (modEth p f b).nvf = b.nvf := rfl
@[simp] theorem modEth_far (p : Nat) (f : EthPort → EthPort) (b : Blk) : (modEth p f b).far = b.far := rfl
@[simp] theorem modEth_twin (p : Nat) (f : EthPort → EthPort) (b : Blk) : (modEth p f b).twin = b.twin := rfl
@[simp] theorem modEth_host (p : Nat) (f : EthPort → EthPort) (b : Blk) : (modEth p f b).host = b.host := rfl
@[simp] theorem modEth_cph (p : Nat) (f : EthPort → EthPort) (b : Blk) : (modEth p f b).cph = b.cph := rfl
@[simp] theorem modEth_ident (p : Nat) (f : EthPort → EthPort) (b : Blk) : (modEth p f b).ident = b.ident := rfl
@[simp] theorem modEth_pwr (p : Nat) (f : EthPort → EthPort) (b : Blk) : (modEth p f b).pwr = b.pwr := rfl
@[simp] theorem modEth_therm (p : Nat) (f : EthPort → EthPort) (b : Blk) : (modEth p f b).therm = b.therm := rfl
@[simp] theorem modEth_mgt (p : Nat) (f : EthPort → EthPort) (b : Blk) : (modEth p f b).mgt = b.mgt := rfl
@[simp] theorem modEth_fw (p : Nat) (f : EthPort → EthPort) (b : Blk) : (modEth p f b).fw = b.fw := rfl
@[simp] theorem modEth_out (p : Nat) (f : EthPort → EthPort) (b : Blk) : (modEth p f b).out = b.out := rfl

/-! ### modOrbCmd -/

@[simp] theorem modOrbCmd_free (n : Nat) (f : CmdRegs → CmdRegs) (b : Blk) : (modOrbCmd n f b).free = b.free := rfl
@[simp] theorem modOrbCmd_cyc (n : Nat) (f : CmdRegs → CmdRegs) (b : Blk) : (modOrbCmd n f b).cyc = b.cyc := rfl
@[simp] theorem modOrbCmd_aon (n : Nat) (f : CmdRegs → CmdRegs) (b : Blk) : (modOrbCmd n f b).aon = b.aon := rfl
@[simp] theorem modOrbCmd_straps (n : Nat) (f : CmdRegs → CmdRegs) (b : Blk) : (modOrbCmd n f b).straps = b.straps := rfl
@[simp] theorem modOrbCmd_errs (n : Nat) (f : CmdRegs → CmdRegs) (b : Blk) : (modOrbCmd n f b).errs = b.errs := rfl
@[simp] theorem modOrbCmd_flt (n : Nat) (f : CmdRegs → CmdRegs) (b : Blk) : (modOrbCmd n f b).flt = b.flt := rfl
@[simp] theorem modOrbCmd_logbook (n : Nat) (f : CmdRegs → CmdRegs) (b : Blk) : (modOrbCmd n f b).logbook = b.logbook := rfl
@[simp] theorem modOrbCmd_alm (n : Nat) (f : CmdRegs → CmdRegs) (b : Blk) : (modOrbCmd n f b).alm = b.alm := rfl
@[simp] theorem modOrbCmd_efl (n : Nat) (f : CmdRegs → CmdRegs) (b : Blk) : (modOrbCmd n f b).efl = b.efl := rfl
@[simp] theorem modOrbCmd_mer (n : Nat) (f : CmdRegs → CmdRegs) (b : Blk) : (modOrbCmd n f b).mer = b.mer := rfl
@[simp] theorem modOrbCmd_cht (n : Nat) (f : CmdRegs → CmdRegs) (b : Blk) : (modOrbCmd n f b).cht = b.cht := rfl
@[simp] theorem modOrbCmd_halo (n : Nat) (f : CmdRegs → CmdRegs) (b : Blk) : (modOrbCmd n f b).halo = b.halo := rfl
@[simp] theorem modOrbCmd_dram (n : Nat) (f : CmdRegs → CmdRegs) (b : Blk) : (modOrbCmd n f b).dram = b.dram := rfl
@[simp] theorem modOrbCmd_pers (n : Nat) (f : CmdRegs → CmdRegs) (b : Blk) : (modOrbCmd n f b).pers = b.pers := rfl
@[simp] theorem modOrbCmd_nvf (n : Nat) (f : CmdRegs → CmdRegs) (b : Blk) : (modOrbCmd n f b).nvf = b.nvf := rfl
@[simp] theorem modOrbCmd_far (n : Nat) (f : CmdRegs → CmdRegs) (b : Blk) : (modOrbCmd n f b).far = b.far := rfl
@[simp] theorem modOrbCmd_twin (n : Nat) (f : CmdRegs → CmdRegs) (b : Blk) : (modOrbCmd n f b).twin = b.twin := rfl
@[simp] theorem modOrbCmd_host (n : Nat) (f : CmdRegs → CmdRegs) (b : Blk) : (modOrbCmd n f b).host = b.host := rfl
@[simp] theorem modOrbCmd_cph (n : Nat) (f : CmdRegs → CmdRegs) (b : Blk) : (modOrbCmd n f b).cph = b.cph := rfl
@[simp] theorem modOrbCmd_ident (n : Nat) (f : CmdRegs → CmdRegs) (b : Blk) : (modOrbCmd n f b).ident = b.ident := rfl
@[simp] theorem modOrbCmd_pwr (n : Nat) (f : CmdRegs → CmdRegs) (b : Blk) : (modOrbCmd n f b).pwr = b.pwr := rfl
@[simp] theorem modOrbCmd_therm (n : Nat) (f : CmdRegs → CmdRegs) (b : Blk) : (modOrbCmd n f b).therm = b.therm := rfl
@[simp] theorem modOrbCmd_mgt (n : Nat) (f : CmdRegs → CmdRegs) (b : Blk) : (modOrbCmd n f b).mgt = b.mgt := rfl
@[simp] theorem modOrbCmd_fw (n : Nat) (f : CmdRegs → CmdRegs) (b : Blk) : (modOrbCmd n f b).fw = b.fw := rfl
@[simp] theorem modOrbCmd_out (n : Nat) (f : CmdRegs → CmdRegs) (b : Blk) : (modOrbCmd n f b).out = b.out := rfl

/-! ### modApply -/

@[simp] theorem modApply_free (f : LiveApply → LiveApply) (b : Blk) : (modApply f b).free = b.free := rfl
@[simp] theorem modApply_cyc (f : LiveApply → LiveApply) (b : Blk) : (modApply f b).cyc = b.cyc := rfl
@[simp] theorem modApply_aon (f : LiveApply → LiveApply) (b : Blk) : (modApply f b).aon = b.aon := rfl
@[simp] theorem modApply_straps (f : LiveApply → LiveApply) (b : Blk) : (modApply f b).straps = b.straps := rfl
@[simp] theorem modApply_errs (f : LiveApply → LiveApply) (b : Blk) : (modApply f b).errs = b.errs := rfl
@[simp] theorem modApply_flt (f : LiveApply → LiveApply) (b : Blk) : (modApply f b).flt = b.flt := rfl
@[simp] theorem modApply_logbook (f : LiveApply → LiveApply) (b : Blk) : (modApply f b).logbook = b.logbook := rfl
@[simp] theorem modApply_alm (f : LiveApply → LiveApply) (b : Blk) : (modApply f b).alm = b.alm := rfl
@[simp] theorem modApply_efl (f : LiveApply → LiveApply) (b : Blk) : (modApply f b).efl = b.efl := rfl
@[simp] theorem modApply_mer (f : LiveApply → LiveApply) (b : Blk) : (modApply f b).mer = b.mer := rfl
@[simp] theorem modApply_halo (f : LiveApply → LiveApply) (b : Blk) : (modApply f b).halo = b.halo := rfl
@[simp] theorem modApply_dram (f : LiveApply → LiveApply) (b : Blk) : (modApply f b).dram = b.dram := rfl
@[simp] theorem modApply_pers (f : LiveApply → LiveApply) (b : Blk) : (modApply f b).pers = b.pers := rfl
@[simp] theorem modApply_nvf (f : LiveApply → LiveApply) (b : Blk) : (modApply f b).nvf = b.nvf := rfl
@[simp] theorem modApply_far (f : LiveApply → LiveApply) (b : Blk) : (modApply f b).far = b.far := rfl
@[simp] theorem modApply_twin (f : LiveApply → LiveApply) (b : Blk) : (modApply f b).twin = b.twin := rfl
@[simp] theorem modApply_host (f : LiveApply → LiveApply) (b : Blk) : (modApply f b).host = b.host := rfl
@[simp] theorem modApply_orb (f : LiveApply → LiveApply) (b : Blk) : (modApply f b).orb = b.orb := rfl
@[simp] theorem modApply_cph (f : LiveApply → LiveApply) (b : Blk) : (modApply f b).cph = b.cph := rfl
@[simp] theorem modApply_ident (f : LiveApply → LiveApply) (b : Blk) : (modApply f b).ident = b.ident := rfl
@[simp] theorem modApply_pwr (f : LiveApply → LiveApply) (b : Blk) : (modApply f b).pwr = b.pwr := rfl
@[simp] theorem modApply_therm (f : LiveApply → LiveApply) (b : Blk) : (modApply f b).therm = b.therm := rfl
@[simp] theorem modApply_mgt (f : LiveApply → LiveApply) (b : Blk) : (modApply f b).mgt = b.mgt := rfl
@[simp] theorem modApply_fw (f : LiveApply → LiveApply) (b : Blk) : (modApply f b).fw = b.fw := rfl
@[simp] theorem modApply_out (f : LiveApply → LiveApply) (b : Blk) : (modApply f b).out = b.out := rfl

/-! ### modTherm -/

@[simp] theorem modTherm_free (f : ThermSt → ThermSt) (b : Blk) : (modTherm f b).free = b.free := rfl
@[simp] theorem modTherm_cyc (f : ThermSt → ThermSt) (b : Blk) : (modTherm f b).cyc = b.cyc := rfl
@[simp] theorem modTherm_aon (f : ThermSt → ThermSt) (b : Blk) : (modTherm f b).aon = b.aon := rfl
@[simp] theorem modTherm_straps (f : ThermSt → ThermSt) (b : Blk) : (modTherm f b).straps = b.straps := rfl
@[simp] theorem modTherm_errs (f : ThermSt → ThermSt) (b : Blk) : (modTherm f b).errs = b.errs := rfl
@[simp] theorem modTherm_flt (f : ThermSt → ThermSt) (b : Blk) : (modTherm f b).flt = b.flt := rfl
@[simp] theorem modTherm_logbook (f : ThermSt → ThermSt) (b : Blk) : (modTherm f b).logbook = b.logbook := rfl
@[simp] theorem modTherm_alm (f : ThermSt → ThermSt) (b : Blk) : (modTherm f b).alm = b.alm := rfl
@[simp] theorem modTherm_efl (f : ThermSt → ThermSt) (b : Blk) : (modTherm f b).efl = b.efl := rfl
@[simp] theorem modTherm_mer (f : ThermSt → ThermSt) (b : Blk) : (modTherm f b).mer = b.mer := rfl
@[simp] theorem modTherm_cht (f : ThermSt → ThermSt) (b : Blk) : (modTherm f b).cht = b.cht := rfl
@[simp] theorem modTherm_halo (f : ThermSt → ThermSt) (b : Blk) : (modTherm f b).halo = b.halo := rfl
@[simp] theorem modTherm_dram (f : ThermSt → ThermSt) (b : Blk) : (modTherm f b).dram = b.dram := rfl
@[simp] theorem modTherm_pers (f : ThermSt → ThermSt) (b : Blk) : (modTherm f b).pers = b.pers := rfl
@[simp] theorem modTherm_nvf (f : ThermSt → ThermSt) (b : Blk) : (modTherm f b).nvf = b.nvf := rfl
@[simp] theorem modTherm_far (f : ThermSt → ThermSt) (b : Blk) : (modTherm f b).far = b.far := rfl
@[simp] theorem modTherm_twin (f : ThermSt → ThermSt) (b : Blk) : (modTherm f b).twin = b.twin := rfl
@[simp] theorem modTherm_host (f : ThermSt → ThermSt) (b : Blk) : (modTherm f b).host = b.host := rfl
@[simp] theorem modTherm_orb (f : ThermSt → ThermSt) (b : Blk) : (modTherm f b).orb = b.orb := rfl
@[simp] theorem modTherm_cph (f : ThermSt → ThermSt) (b : Blk) : (modTherm f b).cph = b.cph := rfl
@[simp] theorem modTherm_ident (f : ThermSt → ThermSt) (b : Blk) : (modTherm f b).ident = b.ident := rfl
@[simp] theorem modTherm_pwr (f : ThermSt → ThermSt) (b : Blk) : (modTherm f b).pwr = b.pwr := rfl
@[simp] theorem modTherm_mgt (f : ThermSt → ThermSt) (b : Blk) : (modTherm f b).mgt = b.mgt := rfl
@[simp] theorem modTherm_fw (f : ThermSt → ThermSt) (b : Blk) : (modTherm f b).fw = b.fw := rfl
@[simp] theorem modTherm_out (f : ThermSt → ThermSt) (b : Blk) : (modTherm f b).out = b.out := rfl

/-! ### modFar -/

@[simp] theorem modFar_free (f : FarSt → FarSt) (b : Blk) : (modFar f b).free = b.free := rfl
@[simp] theorem modFar_cyc (f : FarSt → FarSt) (b : Blk) : (modFar f b).cyc = b.cyc := rfl
@[simp] theorem modFar_aon (f : FarSt → FarSt) (b : Blk) : (modFar f b).aon = b.aon := rfl
@[simp] theorem modFar_straps (f : FarSt → FarSt) (b : Blk) : (modFar f b).straps = b.straps := rfl
@[simp] theorem modFar_errs (f : FarSt → FarSt) (b : Blk) : (modFar f b).errs = b.errs := rfl
@[simp] theorem modFar_flt (f : FarSt → FarSt) (b : Blk) : (modFar f b).flt = b.flt := rfl
@[simp] theorem modFar_logbook (f : FarSt → FarSt) (b : Blk) : (modFar f b).logbook = b.logbook := rfl
@[simp] theorem modFar_alm (f : FarSt → FarSt) (b : Blk) : (modFar f b).alm = b.alm := rfl
@[simp] theorem modFar_efl (f : FarSt → FarSt) (b : Blk) : (modFar f b).efl = b.efl := rfl
@[simp] theorem modFar_mer (f : FarSt → FarSt) (b : Blk) : (modFar f b).mer = b.mer := rfl
@[simp] theorem modFar_cht (f : FarSt → FarSt) (b : Blk) : (modFar f b).cht = b.cht := rfl
@[simp] theorem modFar_halo (f : FarSt → FarSt) (b : Blk) : (modFar f b).halo = b.halo := rfl
@[simp] theorem modFar_dram (f : FarSt → FarSt) (b : Blk) : (modFar f b).dram = b.dram := rfl
@[simp] theorem modFar_pers (f : FarSt → FarSt) (b : Blk) : (modFar f b).pers = b.pers := rfl
@[simp] theorem modFar_nvf (f : FarSt → FarSt) (b : Blk) : (modFar f b).nvf = b.nvf := rfl
@[simp] theorem modFar_twin (f : FarSt → FarSt) (b : Blk) : (modFar f b).twin = b.twin := rfl
@[simp] theorem modFar_host (f : FarSt → FarSt) (b : Blk) : (modFar f b).host = b.host := rfl
@[simp] theorem modFar_orb (f : FarSt → FarSt) (b : Blk) : (modFar f b).orb = b.orb := rfl
@[simp] theorem modFar_cph (f : FarSt → FarSt) (b : Blk) : (modFar f b).cph = b.cph := rfl
@[simp] theorem modFar_ident (f : FarSt → FarSt) (b : Blk) : (modFar f b).ident = b.ident := rfl
@[simp] theorem modFar_pwr (f : FarSt → FarSt) (b : Blk) : (modFar f b).pwr = b.pwr := rfl
@[simp] theorem modFar_therm (f : FarSt → FarSt) (b : Blk) : (modFar f b).therm = b.therm := rfl
@[simp] theorem modFar_mgt (f : FarSt → FarSt) (b : Blk) : (modFar f b).mgt = b.mgt := rfl
@[simp] theorem modFar_fw (f : FarSt → FarSt) (b : Blk) : (modFar f b).fw = b.fw := rfl
@[simp] theorem modFar_out (f : FarSt → FarSt) (b : Blk) : (modFar f b).out = b.out := rfl

/-! ### modCtl -/

@[simp] theorem modCtl_free (n : Nat) (f : StageCtl → StageCtl) (b : Blk) : (modCtl n f b).free = b.free := rfl
@[simp] theorem modCtl_cyc (n : Nat) (f : StageCtl → StageCtl) (b : Blk) : (modCtl n f b).cyc = b.cyc := rfl
@[simp] theorem modCtl_aon (n : Nat) (f : StageCtl → StageCtl) (b : Blk) : (modCtl n f b).aon = b.aon := rfl
@[simp] theorem modCtl_straps (n : Nat) (f : StageCtl → StageCtl) (b : Blk) : (modCtl n f b).straps = b.straps := rfl
@[simp] theorem modCtl_errs (n : Nat) (f : StageCtl → StageCtl) (b : Blk) : (modCtl n f b).errs = b.errs := rfl
@[simp] theorem modCtl_flt (n : Nat) (f : StageCtl → StageCtl) (b : Blk) : (modCtl n f b).flt = b.flt := rfl
@[simp] theorem modCtl_logbook (n : Nat) (f : StageCtl → StageCtl) (b : Blk) : (modCtl n f b).logbook = b.logbook := rfl
@[simp] theorem modCtl_alm (n : Nat) (f : StageCtl → StageCtl) (b : Blk) : (modCtl n f b).alm = b.alm := rfl
@[simp] theorem modCtl_efl (n : Nat) (f : StageCtl → StageCtl) (b : Blk) : (modCtl n f b).efl = b.efl := rfl
@[simp] theorem modCtl_mer (n : Nat) (f : StageCtl → StageCtl) (b : Blk) : (modCtl n f b).mer = b.mer := rfl
@[simp] theorem modCtl_cht (n : Nat) (f : StageCtl → StageCtl) (b : Blk) : (modCtl n f b).cht = b.cht := rfl
@[simp] theorem modCtl_halo (n : Nat) (f : StageCtl → StageCtl) (b : Blk) : (modCtl n f b).halo = b.halo := rfl
@[simp] theorem modCtl_dram (n : Nat) (f : StageCtl → StageCtl) (b : Blk) : (modCtl n f b).dram = b.dram := rfl
@[simp] theorem modCtl_pers (n : Nat) (f : StageCtl → StageCtl) (b : Blk) : (modCtl n f b).pers = b.pers := rfl
@[simp] theorem modCtl_nvf (n : Nat) (f : StageCtl → StageCtl) (b : Blk) : (modCtl n f b).nvf = b.nvf := rfl
@[simp] theorem modCtl_twin (n : Nat) (f : StageCtl → StageCtl) (b : Blk) : (modCtl n f b).twin = b.twin := rfl
@[simp] theorem modCtl_host (n : Nat) (f : StageCtl → StageCtl) (b : Blk) : (modCtl n f b).host = b.host := rfl
@[simp] theorem modCtl_orb (n : Nat) (f : StageCtl → StageCtl) (b : Blk) : (modCtl n f b).orb = b.orb := rfl
@[simp] theorem modCtl_cph (n : Nat) (f : StageCtl → StageCtl) (b : Blk) : (modCtl n f b).cph = b.cph := rfl
@[simp] theorem modCtl_ident (n : Nat) (f : StageCtl → StageCtl) (b : Blk) : (modCtl n f b).ident = b.ident := rfl
@[simp] theorem modCtl_pwr (n : Nat) (f : StageCtl → StageCtl) (b : Blk) : (modCtl n f b).pwr = b.pwr := rfl
@[simp] theorem modCtl_therm (n : Nat) (f : StageCtl → StageCtl) (b : Blk) : (modCtl n f b).therm = b.therm := rfl
@[simp] theorem modCtl_mgt (n : Nat) (f : StageCtl → StageCtl) (b : Blk) : (modCtl n f b).mgt = b.mgt := rfl
@[simp] theorem modCtl_fw (n : Nat) (f : StageCtl → StageCtl) (b : Blk) : (modCtl n f b).fw = b.fw := rfl
@[simp] theorem modCtl_out (n : Nat) (f : StageCtl → StageCtl) (b : Blk) : (modCtl n f b).out = b.out := rfl

/-! ### drawFree -/

@[simp] theorem drawFree_cyc (b : Blk) : (drawFree b).2.cyc = b.cyc := rfl
@[simp] theorem drawFree_aon (b : Blk) : (drawFree b).2.aon = b.aon := rfl
@[simp] theorem drawFree_straps (b : Blk) : (drawFree b).2.straps = b.straps := rfl
@[simp] theorem drawFree_errs (b : Blk) : (drawFree b).2.errs = b.errs := rfl
@[simp] theorem drawFree_flt (b : Blk) : (drawFree b).2.flt = b.flt := rfl
@[simp] theorem drawFree_logbook (b : Blk) : (drawFree b).2.logbook = b.logbook := rfl
@[simp] theorem drawFree_alm (b : Blk) : (drawFree b).2.alm = b.alm := rfl
@[simp] theorem drawFree_efl (b : Blk) : (drawFree b).2.efl = b.efl := rfl
@[simp] theorem drawFree_mer (b : Blk) : (drawFree b).2.mer = b.mer := rfl
@[simp] theorem drawFree_cht (b : Blk) : (drawFree b).2.cht = b.cht := rfl
@[simp] theorem drawFree_halo (b : Blk) : (drawFree b).2.halo = b.halo := rfl
@[simp] theorem drawFree_dram (b : Blk) : (drawFree b).2.dram = b.dram := rfl
@[simp] theorem drawFree_pers (b : Blk) : (drawFree b).2.pers = b.pers := rfl
@[simp] theorem drawFree_nvf (b : Blk) : (drawFree b).2.nvf = b.nvf := rfl
@[simp] theorem drawFree_far (b : Blk) : (drawFree b).2.far = b.far := rfl
@[simp] theorem drawFree_twin (b : Blk) : (drawFree b).2.twin = b.twin := rfl
@[simp] theorem drawFree_host (b : Blk) : (drawFree b).2.host = b.host := rfl
@[simp] theorem drawFree_orb (b : Blk) : (drawFree b).2.orb = b.orb := rfl
@[simp] theorem drawFree_cph (b : Blk) : (drawFree b).2.cph = b.cph := rfl
@[simp] theorem drawFree_ident (b : Blk) : (drawFree b).2.ident = b.ident := rfl
@[simp] theorem drawFree_pwr (b : Blk) : (drawFree b).2.pwr = b.pwr := rfl
@[simp] theorem drawFree_therm (b : Blk) : (drawFree b).2.therm = b.therm := rfl
@[simp] theorem drawFree_mgt (b : Blk) : (drawFree b).2.mgt = b.mgt := rfl
@[simp] theorem drawFree_fw (b : Blk) : (drawFree b).2.fw = b.fw := rfl
@[simp] theorem drawFree_out (b : Blk) : (drawFree b).2.out = b.out := rfl

/-! ### countEvent -/

@[simp] theorem countEvent_free (g c : Nat) (b : Blk) : (countEvent g c b).free = b.free := by unfold countEvent; (repeat' split) <;> simp
@[simp] theorem countEvent_cyc (g c : Nat) (b : Blk) : (countEvent g c b).cyc = b.cyc := by unfold countEvent; (repeat' split) <;> simp
@[simp] theorem countEvent_aon (g c : Nat) (b : Blk) : (countEvent g c b).aon = b.aon := by unfold countEvent; (repeat' split) <;> simp
@[simp] theorem countEvent_straps (g c : Nat) (b : Blk) : (countEvent g c b).straps = b.straps := by unfold countEvent; (repeat' split) <;> simp
@[simp] theorem countEvent_errs (g c : Nat) (b : Blk) : (countEvent g c b).errs = b.errs := by unfold countEvent; (repeat' split) <;> simp
@[simp] theorem countEvent_flt (g c : Nat) (b : Blk) : (countEvent g c b).flt = b.flt := by unfold countEvent; (repeat' split) <;> simp
@[simp] theorem countEvent_logbook (g c : Nat) (b : Blk) : (countEvent g c b).logbook = b.logbook := by unfold countEvent; (repeat' split) <;> simp
@[simp] theorem countEvent_efl (g c : Nat) (b : Blk) : (countEvent g c b).efl = b.efl := by unfold countEvent; (repeat' split) <;> simp
@[simp] theorem countEvent_mer (g c : Nat) (b : Blk) : (countEvent g c b).mer = b.mer := by unfold countEvent; (repeat' split) <;> simp
@[simp] theorem countEvent_cht (g c : Nat) (b : Blk) : (countEvent g c b).cht = b.cht := by unfold countEvent; (repeat' split) <;> simp
@[simp] theorem countEvent_halo (g c : Nat) (b : Blk) : (countEvent g c b).halo = b.halo := by unfold countEvent; (repeat' split) <;> simp
@[simp] theorem countEvent_dram (g c : Nat) (b : Blk) : (countEvent g c b).dram = b.dram := by unfold countEvent; (repeat' split) <;> simp
@[simp] theorem countEvent_pers (g c : Nat) (b : Blk) : (countEvent g c b).pers = b.pers := by unfold countEvent; (repeat' split) <;> simp
@[simp] theorem countEvent_nvf (g c : Nat) (b : Blk) : (countEvent g c b).nvf = b.nvf := by unfold countEvent; (repeat' split) <;> simp
@[simp] theorem countEvent_far (g c : Nat) (b : Blk) : (countEvent g c b).far = b.far := by unfold countEvent; (repeat' split) <;> simp
@[simp] theorem countEvent_twin (g c : Nat) (b : Blk) : (countEvent g c b).twin = b.twin := by unfold countEvent; (repeat' split) <;> simp
@[simp] theorem countEvent_host (g c : Nat) (b : Blk) : (countEvent g c b).host = b.host := by unfold countEvent; (repeat' split) <;> simp
@[simp] theorem countEvent_orb (g c : Nat) (b : Blk) : (countEvent g c b).orb = b.orb := by unfold countEvent; (repeat' split) <;> simp
@[simp] theorem countEvent_cph (g c : Nat) (b : Blk) : (countEvent g c b).cph = b.cph := by unfold countEvent; (repeat' split) <;> simp
@[simp] theorem countEvent_ident (g c : Nat) (b : Blk) : (countEvent g c b).ident = b.ident := by unfold countEvent; (repeat' split) <;> simp
@[simp] theorem countEvent_pwr (g c : Nat) (b : Blk) : (countEvent g c b).pwr = b.pwr := by unfold countEvent; (repeat' split) <;> simp
@[simp] theorem countEvent_therm (g c : Nat) (b : Blk) : (countEvent g c b).therm = b.therm := by unfold countEvent; (repeat' split) <;> simp
@[simp] theorem countEvent_mgt (g c : Nat) (b : Blk) : (countEvent g c b).mgt = b.mgt := by unfold countEvent; (repeat' split) <;> simp
@[simp] theorem countEvent_fw (g c : Nat) (b : Blk) : (countEvent g c b).fw = b.fw := by unfold countEvent; (repeat' split) <;> simp
@[simp] theorem countEvent_out (g c : Nat) (b : Blk) : (countEvent g c b).out = b.out := by unfold countEvent; (repeat' split) <;> simp

/-! ### setErr -/

@[simp] theorem setErr_free (r : ErrReg) (n : Nat) (b : Blk) : (setErr r n b).free = b.free := by unfold setErr; cases h : r.group <;> simp
@[simp] theorem setErr_cyc (r : ErrReg) (n : Nat) (b : Blk) : (setErr r n b).cyc = b.cyc := by unfold setErr; cases h : r.group <;> simp
@[simp] theorem setErr_aon (r : ErrReg) (n : Nat) (b : Blk) : (setErr r n b).aon = b.aon := by unfold setErr; cases h : r.group <;> simp
@[simp] theorem setErr_straps (r : ErrReg) (n : Nat) (b : Blk) : (setErr r n b).straps = b.straps := by unfold setErr; cases h : r.group <;> simp
@[simp] theorem setErr_flt (r : ErrReg) (n : Nat) (b : Blk) : (setErr r n b).flt = b.flt := by unfold setErr; cases h : r.group <;> simp
@[simp] theorem setErr_logbook (r : ErrReg) (n : Nat) (b : Blk) : (setErr r n b).logbook = b.logbook := by unfold setErr; cases h : r.group <;> simp
@[simp] theorem setErr_efl (r : ErrReg) (n : Nat) (b : Blk) : (setErr r n b).efl = b.efl := by unfold setErr; cases h : r.group <;> simp
@[simp] theorem setErr_mer (r : ErrReg) (n : Nat) (b : Blk) : (setErr r n b).mer = b.mer := by unfold setErr; cases h : r.group <;> simp
@[simp] theorem setErr_cht (r : ErrReg) (n : Nat) (b : Blk) : (setErr r n b).cht = b.cht := by unfold setErr; cases h : r.group <;> simp
@[simp] theorem setErr_halo (r : ErrReg) (n : Nat) (b : Blk) : (setErr r n b).halo = b.halo := by unfold setErr; cases h : r.group <;> simp
@[simp] theorem setErr_dram (r : ErrReg) (n : Nat) (b : Blk) : (setErr r n b).dram = b.dram := by unfold setErr; cases h : r.group <;> simp
@[simp] theorem setErr_pers (r : ErrReg) (n : Nat) (b : Blk) : (setErr r n b).pers = b.pers := by unfold setErr; cases h : r.group <;> simp
@[simp] theorem setErr_nvf (r : ErrReg) (n : Nat) (b : Blk) : (setErr r n b).nvf = b.nvf := by unfold setErr; cases h : r.group <;> simp
@[simp] theorem setErr_far (r : ErrReg) (n : Nat) (b : Blk) : (setErr r n b).far = b.far := by unfold setErr; cases h : r.group <;> simp
@[simp] theorem setErr_twin (r : ErrReg) (n : Nat) (b : Blk) : (setErr r n b).twin = b.twin := by unfold setErr; cases h : r.group <;> simp
@[simp] theorem setErr_host (r : ErrReg) (n : Nat) (b : Blk) : (setErr r n b).host = b.host := by unfold setErr; cases h : r.group <;> simp
@[simp] theorem setErr_orb (r : ErrReg) (n : Nat) (b : Blk) : (setErr r n b).orb = b.orb := by unfold setErr; cases h : r.group <;> simp
@[simp] theorem setErr_cph (r : ErrReg) (n : Nat) (b : Blk) : (setErr r n b).cph = b.cph := by unfold setErr; cases h : r.group <;> simp
@[simp] theorem setErr_ident (r : ErrReg) (n : Nat) (b : Blk) : (setErr r n b).ident = b.ident := by unfold setErr; cases h : r.group <;> simp
@[simp] theorem setErr_pwr (r : ErrReg) (n : Nat) (b : Blk) : (setErr r n b).pwr = b.pwr := by unfold setErr; cases h : r.group <;> simp
@[simp] theorem setErr_therm (r : ErrReg) (n : Nat) (b : Blk) : (setErr r n b).therm = b.therm := by unfold setErr; cases h : r.group <;> simp
@[simp] theorem setErr_mgt (r : ErrReg) (n : Nat) (b : Blk) : (setErr r n b).mgt = b.mgt := by unfold setErr; cases h : r.group <;> simp
@[simp] theorem setErr_fw (r : ErrReg) (n : Nat) (b : Blk) : (setErr r n b).fw = b.fw := by unfold setErr; cases h : r.group <;> simp
@[simp] theorem setErr_out (r : ErrReg) (n : Nat) (b : Blk) : (setErr r n b).out = b.out := by unfold setErr; cases h : r.group <;> simp

/-! ### feedMetric -/

@[simp] theorem feedMetric_free (m i : Nat) (v : Int) (b : Blk) : (feedMetric m i v b).free = b.free := by unfold feedMetric; (repeat' split) <;> simp
@[simp] theorem feedMetric_cyc (m i : Nat) (v : Int) (b : Blk) : (feedMetric m i v b).cyc = b.cyc := by unfold feedMetric; (repeat' split) <;> simp
@[simp] theorem feedMetric_aon (m i : Nat) (v : Int) (b : Blk) : (feedMetric m i v b).aon = b.aon := by unfold feedMetric; (repeat' split) <;> simp
@[simp] theorem feedMetric_straps (m i : Nat) (v : Int) (b : Blk) : (feedMetric m i v b).straps = b.straps := by unfold feedMetric; (repeat' split) <;> simp
@[simp] theorem feedMetric_errs (m i : Nat) (v : Int) (b : Blk) : (feedMetric m i v b).errs = b.errs := by unfold feedMetric; (repeat' split) <;> simp
@[simp] theorem feedMetric_flt (m i : Nat) (v : Int) (b : Blk) : (feedMetric m i v b).flt = b.flt := by unfold feedMetric; (repeat' split) <;> simp
@[simp] theorem feedMetric_logbook (m i : Nat) (v : Int) (b : Blk) : (feedMetric m i v b).logbook = b.logbook := by unfold feedMetric; (repeat' split) <;> simp
@[simp] theorem feedMetric_efl (m i : Nat) (v : Int) (b : Blk) : (feedMetric m i v b).efl = b.efl := by unfold feedMetric; (repeat' split) <;> simp
@[simp] theorem feedMetric_mer (m i : Nat) (v : Int) (b : Blk) : (feedMetric m i v b).mer = b.mer := by unfold feedMetric; (repeat' split) <;> simp
@[simp] theorem feedMetric_cht (m i : Nat) (v : Int) (b : Blk) : (feedMetric m i v b).cht = b.cht := by unfold feedMetric; (repeat' split) <;> simp
@[simp] theorem feedMetric_halo (m i : Nat) (v : Int) (b : Blk) : (feedMetric m i v b).halo = b.halo := by unfold feedMetric; (repeat' split) <;> simp
@[simp] theorem feedMetric_dram (m i : Nat) (v : Int) (b : Blk) : (feedMetric m i v b).dram = b.dram := by unfold feedMetric; (repeat' split) <;> simp
@[simp] theorem feedMetric_pers (m i : Nat) (v : Int) (b : Blk) : (feedMetric m i v b).pers = b.pers := by unfold feedMetric; (repeat' split) <;> simp
@[simp] theorem feedMetric_nvf (m i : Nat) (v : Int) (b : Blk) : (feedMetric m i v b).nvf = b.nvf := by unfold feedMetric; (repeat' split) <;> simp
@[simp] theorem feedMetric_far (m i : Nat) (v : Int) (b : Blk) : (feedMetric m i v b).far = b.far := by unfold feedMetric; (repeat' split) <;> simp
@[simp] theorem feedMetric_twin (m i : Nat) (v : Int) (b : Blk) : (feedMetric m i v b).twin = b.twin := by unfold feedMetric; (repeat' split) <;> simp
@[simp] theorem feedMetric_host (m i : Nat) (v : Int) (b : Blk) : (feedMetric m i v b).host = b.host := by unfold feedMetric; (repeat' split) <;> simp
@[simp] theorem feedMetric_orb (m i : Nat) (v : Int) (b : Blk) : (feedMetric m i v b).orb = b.orb := by unfold feedMetric; (repeat' split) <;> simp
@[simp] theorem feedMetric_cph (m i : Nat) (v : Int) (b : Blk) : (feedMetric m i v b).cph = b.cph := by unfold feedMetric; (repeat' split) <;> simp
@[simp] theorem feedMetric_ident (m i : Nat) (v : Int) (b : Blk) : (feedMetric m i v b).ident = b.ident := by unfold feedMetric; (repeat' split) <;> simp
@[simp] theorem feedMetric_pwr (m i : Nat) (v : Int) (b : Blk) : (feedMetric m i v b).pwr = b.pwr := by unfold feedMetric; (repeat' split) <;> simp
@[simp] theorem feedMetric_therm (m i : Nat) (v : Int) (b : Blk) : (feedMetric m i v b).therm = b.therm := by unfold feedMetric; (repeat' split) <;> simp
@[simp] theorem feedMetric_mgt (m i : Nat) (v : Int) (b : Blk) : (feedMetric m i v b).mgt = b.mgt := by unfold feedMetric; (repeat' split) <;> simp
@[simp] theorem feedMetric_fw (m i : Nat) (v : Int) (b : Blk) : (feedMetric m i v b).fw = b.fw := by unfold feedMetric; (repeat' split) <;> simp
@[simp] theorem feedMetric_out (m i : Nat) (v : Int) (b : Blk) : (feedMetric m i v b).out = b.out := by unfold feedMetric; (repeat' split) <;> simp

/-! ### startErase -/

@[simp] theorem startErase_free (s : Nat) (b : Blk) : (startErase s b).free = b.free := by unfold startErase; (repeat' split) <;> simp
@[simp] theorem startErase_cyc (s : Nat) (b : Blk) : (startErase s b).cyc = b.cyc := by unfold startErase; (repeat' split) <;> simp
@[simp] theorem startErase_aon (s : Nat) (b : Blk) : (startErase s b).aon = b.aon := by unfold startErase; (repeat' split) <;> simp
@[simp] theorem startErase_straps (s : Nat) (b : Blk) : (startErase s b).straps = b.straps := by unfold startErase; (repeat' split) <;> simp
@[simp] theorem startErase_errs (s : Nat) (b : Blk) : (startErase s b).errs = b.errs := by unfold startErase; (repeat' split) <;> simp
@[simp] theorem startErase_flt (s : Nat) (b : Blk) : (startErase s b).flt = b.flt := by unfold startErase; (repeat' split) <;> simp
@[simp] theorem startErase_mer (s : Nat) (b : Blk) : (startErase s b).mer = b.mer := by unfold startErase; (repeat' split) <;> simp
@[simp] theorem startErase_cht (s : Nat) (b : Blk) : (startErase s b).cht = b.cht := by unfold startErase; (repeat' split) <;> simp
@[simp] theorem startErase_halo (s : Nat) (b : Blk) : (startErase s b).halo = b.halo := by unfold startErase; (repeat' split) <;> simp
@[simp] theorem startErase_dram (s : Nat) (b : Blk) : (startErase s b).dram = b.dram := by unfold startErase; (repeat' split) <;> simp
@[simp] theorem startErase_pers (s : Nat) (b : Blk) : (startErase s b).pers = b.pers := by unfold startErase; (repeat' split) <;> simp
@[simp] theorem startErase_nvf (s : Nat) (b : Blk) : (startErase s b).nvf = b.nvf := by unfold startErase; (repeat' split) <;> simp
@[simp] theorem startErase_far (s : Nat) (b : Blk) : (startErase s b).far = b.far := by unfold startErase; (repeat' split) <;> simp
@[simp] theorem startErase_twin (s : Nat) (b : Blk) : (startErase s b).twin = b.twin := by unfold startErase; (repeat' split) <;> simp
@[simp] theorem startErase_host (s : Nat) (b : Blk) : (startErase s b).host = b.host := by unfold startErase; (repeat' split) <;> simp
@[simp] theorem startErase_orb (s : Nat) (b : Blk) : (startErase s b).orb = b.orb := by unfold startErase; (repeat' split) <;> simp
@[simp] theorem startErase_cph (s : Nat) (b : Blk) : (startErase s b).cph = b.cph := by unfold startErase; (repeat' split) <;> simp
@[simp] theorem startErase_ident (s : Nat) (b : Blk) : (startErase s b).ident = b.ident := by unfold startErase; (repeat' split) <;> simp
@[simp] theorem startErase_pwr (s : Nat) (b : Blk) : (startErase s b).pwr = b.pwr := by unfold startErase; (repeat' split) <;> simp
@[simp] theorem startErase_therm (s : Nat) (b : Blk) : (startErase s b).therm = b.therm := by unfold startErase; (repeat' split) <;> simp
@[simp] theorem startErase_mgt (s : Nat) (b : Blk) : (startErase s b).mgt = b.mgt := by unfold startErase; (repeat' split) <;> simp
@[simp] theorem startErase_fw (s : Nat) (b : Blk) : (startErase s b).fw = b.fw := by unfold startErase; (repeat' split) <;> simp
@[simp] theorem startErase_out (s : Nat) (b : Blk) : (startErase s b).out = b.out := by unfold startErase; (repeat' split) <;> simp

/-! ### pickJob -/

@[simp] theorem pickJob_free (b : Blk) : (pickJob b).free = b.free := by unfold pickJob; (repeat' split) <;> simp
@[simp] theorem pickJob_cyc (b : Blk) : (pickJob b).cyc = b.cyc := by unfold pickJob; (repeat' split) <;> simp
@[simp] theorem pickJob_aon (b : Blk) : (pickJob b).aon = b.aon := by unfold pickJob; (repeat' split) <;> simp
@[simp] theorem pickJob_straps (b : Blk) : (pickJob b).straps = b.straps := by unfold pickJob; (repeat' split) <;> simp
@[simp] theorem pickJob_errs (b : Blk) : (pickJob b).errs = b.errs := by unfold pickJob; (repeat' split) <;> simp
@[simp] theorem pickJob_flt (b : Blk) : (pickJob b).flt = b.flt := by unfold pickJob; (repeat' split) <;> simp
@[simp] theorem pickJob_mer (b : Blk) : (pickJob b).mer = b.mer := by unfold pickJob; (repeat' split) <;> simp
@[simp] theorem pickJob_cht (b : Blk) : (pickJob b).cht = b.cht := by unfold pickJob; (repeat' split) <;> simp
@[simp] theorem pickJob_halo (b : Blk) : (pickJob b).halo = b.halo := by unfold pickJob; (repeat' split) <;> simp
@[simp] theorem pickJob_dram (b : Blk) : (pickJob b).dram = b.dram := by unfold pickJob; (repeat' split) <;> simp
@[simp] theorem pickJob_pers (b : Blk) : (pickJob b).pers = b.pers := by unfold pickJob; (repeat' split) <;> simp
@[simp] theorem pickJob_nvf (b : Blk) : (pickJob b).nvf = b.nvf := by unfold pickJob; (repeat' split) <;> simp
@[simp] theorem pickJob_far (b : Blk) : (pickJob b).far = b.far := by unfold pickJob; (repeat' split) <;> simp
@[simp] theorem pickJob_twin (b : Blk) : (pickJob b).twin = b.twin := by unfold pickJob; (repeat' split) <;> simp
@[simp] theorem pickJob_host (b : Blk) : (pickJob b).host = b.host := by unfold pickJob; (repeat' split) <;> simp
@[simp] theorem pickJob_orb (b : Blk) : (pickJob b).orb = b.orb := by unfold pickJob; (repeat' split) <;> simp
@[simp] theorem pickJob_cph (b : Blk) : (pickJob b).cph = b.cph := by unfold pickJob; (repeat' split) <;> simp
@[simp] theorem pickJob_ident (b : Blk) : (pickJob b).ident = b.ident := by unfold pickJob; (repeat' split) <;> simp
@[simp] theorem pickJob_pwr (b : Blk) : (pickJob b).pwr = b.pwr := by unfold pickJob; (repeat' split) <;> simp
@[simp] theorem pickJob_therm (b : Blk) : (pickJob b).therm = b.therm := by unfold pickJob; (repeat' split) <;> simp
@[simp] theorem pickJob_mgt (b : Blk) : (pickJob b).mgt = b.mgt := by unfold pickJob; (repeat' split) <;> simp
@[simp] theorem pickJob_fw (b : Blk) : (pickJob b).fw = b.fw := by unfold pickJob; (repeat' split) <;> simp
@[simp] theorem pickJob_out (b : Blk) : (pickJob b).out = b.out := by unfold pickJob; (repeat' split) <;> simp

/-! ### addJob -/

@[simp] theorem addJob_free (j : EflJob) (b : Blk) : (addJob j b).free = b.free := by simp [addJob]
@[simp] theorem addJob_cyc (j : EflJob) (b : Blk) : (addJob j b).cyc = b.cyc := by simp [addJob]
@[simp] theorem addJob_aon (j : EflJob) (b : Blk) : (addJob j b).aon = b.aon := by simp [addJob]
@[simp] theorem addJob_straps (j : EflJob) (b : Blk) : (addJob j b).straps = b.straps := by simp [addJob]
@[simp] theorem addJob_errs (j : EflJob) (b : Blk) : (addJob j b).errs = b.errs := by simp [addJob]
@[simp] theorem addJob_flt (j : EflJob) (b : Blk) : (addJob j b).flt = b.flt := by simp [addJob]
@[simp] theorem addJob_mer (j : EflJob) (b : Blk) : (addJob j b).mer = b.mer := by simp [addJob]
@[simp] theorem addJob_cht (j : EflJob) (b : Blk) : (addJob j b).cht = b.cht := by simp [addJob]
@[simp] theorem addJob_halo (j : EflJob) (b : Blk) : (addJob j b).halo = b.halo := by simp [addJob]
@[simp] theorem addJob_dram (j : EflJob) (b : Blk) : (addJob j b).dram = b.dram := by simp [addJob]
@[simp] theorem addJob_pers (j : EflJob) (b : Blk) : (addJob j b).pers = b.pers := by simp [addJob]
@[simp] theorem addJob_nvf (j : EflJob) (b : Blk) : (addJob j b).nvf = b.nvf := by simp [addJob]
@[simp] theorem addJob_far (j : EflJob) (b : Blk) : (addJob j b).far = b.far := by simp [addJob]
@[simp] theorem addJob_twin (j : EflJob) (b : Blk) : (addJob j b).twin = b.twin := by simp [addJob]
@[simp] theorem addJob_host (j : EflJob) (b : Blk) : (addJob j b).host = b.host := by simp [addJob]
@[simp] theorem addJob_orb (j : EflJob) (b : Blk) : (addJob j b).orb = b.orb := by simp [addJob]
@[simp] theorem addJob_cph (j : EflJob) (b : Blk) : (addJob j b).cph = b.cph := by simp [addJob]
@[simp] theorem addJob_ident (j : EflJob) (b : Blk) : (addJob j b).ident = b.ident := by simp [addJob]
@[simp] theorem addJob_pwr (j : EflJob) (b : Blk) : (addJob j b).pwr = b.pwr := by simp [addJob]
@[simp] theorem addJob_therm (j : EflJob) (b : Blk) : (addJob j b).therm = b.therm := by simp [addJob]
@[simp] theorem addJob_mgt (j : EflJob) (b : Blk) : (addJob j b).mgt = b.mgt := by simp [addJob]
@[simp] theorem addJob_fw (j : EflJob) (b : Blk) : (addJob j b).fw = b.fw := by simp [addJob]
@[simp] theorem addJob_out (j : EflJob) (b : Blk) : (addJob j b).out = b.out := by simp [addJob]

/-! ### jobEnds -/

@[simp] theorem jobEnds_free (b : Blk) : (jobEnds b).free = b.free := by simp [jobEnds]
@[simp] theorem jobEnds_cyc (b : Blk) : (jobEnds b).cyc = b.cyc := by simp [jobEnds]
@[simp] theorem jobEnds_aon (b : Blk) : (jobEnds b).aon = b.aon := by simp [jobEnds]
@[simp] theorem jobEnds_straps (b : Blk) : (jobEnds b).straps = b.straps := by simp [jobEnds]
@[simp] theorem jobEnds_errs (b : Blk) : (jobEnds b).errs = b.errs := by simp [jobEnds]
@[simp] theorem jobEnds_flt (b : Blk) : (jobEnds b).flt = b.flt := by simp [jobEnds]
@[simp] theorem jobEnds_mer (b : Blk) : (jobEnds b).mer = b.mer := by simp [jobEnds]
@[simp] theorem jobEnds_cht (b : Blk) : (jobEnds b).cht = b.cht := by simp [jobEnds]
@[simp] theorem jobEnds_halo (b : Blk) : (jobEnds b).halo = b.halo := by simp [jobEnds]
@[simp] theorem jobEnds_dram (b : Blk) : (jobEnds b).dram = b.dram := by simp [jobEnds]
@[simp] theorem jobEnds_pers (b : Blk) : (jobEnds b).pers = b.pers := by simp [jobEnds]
@[simp] theorem jobEnds_nvf (b : Blk) : (jobEnds b).nvf = b.nvf := by simp [jobEnds]
@[simp] theorem jobEnds_far (b : Blk) : (jobEnds b).far = b.far := by simp [jobEnds]
@[simp] theorem jobEnds_twin (b : Blk) : (jobEnds b).twin = b.twin := by simp [jobEnds]
@[simp] theorem jobEnds_host (b : Blk) : (jobEnds b).host = b.host := by simp [jobEnds]
@[simp] theorem jobEnds_orb (b : Blk) : (jobEnds b).orb = b.orb := by simp [jobEnds]
@[simp] theorem jobEnds_cph (b : Blk) : (jobEnds b).cph = b.cph := by simp [jobEnds]
@[simp] theorem jobEnds_ident (b : Blk) : (jobEnds b).ident = b.ident := by simp [jobEnds]
@[simp] theorem jobEnds_pwr (b : Blk) : (jobEnds b).pwr = b.pwr := by simp [jobEnds]
@[simp] theorem jobEnds_therm (b : Blk) : (jobEnds b).therm = b.therm := by simp [jobEnds]
@[simp] theorem jobEnds_mgt (b : Blk) : (jobEnds b).mgt = b.mgt := by simp [jobEnds]
@[simp] theorem jobEnds_fw (b : Blk) : (jobEnds b).fw = b.fw := by simp [jobEnds]
@[simp] theorem jobEnds_out (b : Blk) : (jobEnds b).out = b.out := by simp [jobEnds]

/-! ### bufferRecord -/

@[simp] theorem bufferRecord_free (t : Nat) (a : LogArgs) (b : Blk) : (bufferRecord t a b).free = b.free := by unfold bufferRecord; dsimp only; (repeat' split) <;> simp
@[simp] theorem bufferRecord_cyc (t : Nat) (a : LogArgs) (b : Blk) : (bufferRecord t a b).cyc = b.cyc := by unfold bufferRecord; dsimp only; (repeat' split) <;> simp
@[simp] theorem bufferRecord_aon (t : Nat) (a : LogArgs) (b : Blk) : (bufferRecord t a b).aon = b.aon := by unfold bufferRecord; dsimp only; (repeat' split) <;> simp
@[simp] theorem bufferRecord_straps (t : Nat) (a : LogArgs) (b : Blk) : (bufferRecord t a b).straps = b.straps := by unfold bufferRecord; dsimp only; (repeat' split) <;> simp
@[simp] theorem bufferRecord_errs (t : Nat) (a : LogArgs) (b : Blk) : (bufferRecord t a b).errs = b.errs := by unfold bufferRecord; dsimp only; (repeat' split) <;> simp
@[simp] theorem bufferRecord_flt (t : Nat) (a : LogArgs) (b : Blk) : (bufferRecord t a b).flt = b.flt := by unfold bufferRecord; dsimp only; (repeat' split) <;> simp
@[simp] theorem bufferRecord_mer (t : Nat) (a : LogArgs) (b : Blk) : (bufferRecord t a b).mer = b.mer := by unfold bufferRecord; dsimp only; (repeat' split) <;> simp
@[simp] theorem bufferRecord_cht (t : Nat) (a : LogArgs) (b : Blk) : (bufferRecord t a b).cht = b.cht := by unfold bufferRecord; dsimp only; (repeat' split) <;> simp
@[simp] theorem bufferRecord_halo (t : Nat) (a : LogArgs) (b : Blk) : (bufferRecord t a b).halo = b.halo := by unfold bufferRecord; dsimp only; (repeat' split) <;> simp
@[simp] theorem bufferRecord_dram (t : Nat) (a : LogArgs) (b : Blk) : (bufferRecord t a b).dram = b.dram := by unfold bufferRecord; dsimp only; (repeat' split) <;> simp
@[simp] theorem bufferRecord_pers (t : Nat) (a : LogArgs) (b : Blk) : (bufferRecord t a b).pers = b.pers := by unfold bufferRecord; dsimp only; (repeat' split) <;> simp
@[simp] theorem bufferRecord_nvf (t : Nat) (a : LogArgs) (b : Blk) : (bufferRecord t a b).nvf = b.nvf := by unfold bufferRecord; dsimp only; (repeat' split) <;> simp
@[simp] theorem bufferRecord_far (t : Nat) (a : LogArgs) (b : Blk) : (bufferRecord t a b).far = b.far := by unfold bufferRecord; dsimp only; (repeat' split) <;> simp
@[simp] theorem bufferRecord_twin (t : Nat) (a : LogArgs) (b : Blk) : (bufferRecord t a b).twin = b.twin := by unfold bufferRecord; dsimp only; (repeat' split) <;> simp
@[simp] theorem bufferRecord_host (t : Nat) (a : LogArgs) (b : Blk) : (bufferRecord t a b).host = b.host := by unfold bufferRecord; dsimp only; (repeat' split) <;> simp
@[simp] theorem bufferRecord_orb (t : Nat) (a : LogArgs) (b : Blk) : (bufferRecord t a b).orb = b.orb := by unfold bufferRecord; dsimp only; (repeat' split) <;> simp
@[simp] theorem bufferRecord_cph (t : Nat) (a : LogArgs) (b : Blk) : (bufferRecord t a b).cph = b.cph := by unfold bufferRecord; dsimp only; (repeat' split) <;> simp
@[simp] theorem bufferRecord_ident (t : Nat) (a : LogArgs) (b : Blk) : (bufferRecord t a b).ident = b.ident := by unfold bufferRecord; dsimp only; (repeat' split) <;> simp
@[simp] theorem bufferRecord_pwr (t : Nat) (a : LogArgs) (b : Blk) : (bufferRecord t a b).pwr = b.pwr := by unfold bufferRecord; dsimp only; (repeat' split) <;> simp
@[simp] theorem bufferRecord_therm (t : Nat) (a : LogArgs) (b : Blk) : (bufferRecord t a b).therm = b.therm := by unfold bufferRecord; dsimp only; (repeat' split) <;> simp
@[simp] theorem bufferRecord_mgt (t : Nat) (a : LogArgs) (b : Blk) : (bufferRecord t a b).mgt = b.mgt := by unfold bufferRecord; dsimp only; (repeat' split) <;> simp
@[simp] theorem bufferRecord_fw (t : Nat) (a : LogArgs) (b : Blk) : (bufferRecord t a b).fw = b.fw := by unfold bufferRecord; dsimp only; (repeat' split) <;> simp
@[simp] theorem bufferRecord_out (t : Nat) (a : LogArgs) (b : Blk) : (bufferRecord t a b).out = b.out := by unfold bufferRecord; dsimp only; (repeat' split) <;> simp

/-! ### logRecord -/

@[simp] theorem logRecord_free (t : Nat) (a : LogArgs) (b : Blk) : (logRecord t a b).free = b.free := by unfold logRecord; (repeat' split) <;> simp
@[simp] theorem logRecord_cyc (t : Nat) (a : LogArgs) (b : Blk) : (logRecord t a b).cyc = b.cyc := by unfold logRecord; (repeat' split) <;> simp
@[simp] theorem logRecord_aon (t : Nat) (a : LogArgs) (b : Blk) : (logRecord t a b).aon = b.aon := by unfold logRecord; (repeat' split) <;> simp
@[simp] theorem logRecord_straps (t : Nat) (a : LogArgs) (b : Blk) : (logRecord t a b).straps = b.straps := by unfold logRecord; (repeat' split) <;> simp
@[simp] theorem logRecord_errs (t : Nat) (a : LogArgs) (b : Blk) : (logRecord t a b).errs = b.errs := by unfold logRecord; (repeat' split) <;> simp
@[simp] theorem logRecord_flt (t : Nat) (a : LogArgs) (b : Blk) : (logRecord t a b).flt = b.flt := by unfold logRecord; (repeat' split) <;> simp
@[simp] theorem logRecord_mer (t : Nat) (a : LogArgs) (b : Blk) : (logRecord t a b).mer = b.mer := by unfold logRecord; (repeat' split) <;> simp
@[simp] theorem logRecord_cht (t : Nat) (a : LogArgs) (b : Blk) : (logRecord t a b).cht = b.cht := by unfold logRecord; (repeat' split) <;> simp
@[simp] theorem logRecord_halo (t : Nat) (a : LogArgs) (b : Blk) : (logRecord t a b).halo = b.halo := by unfold logRecord; (repeat' split) <;> simp
@[simp] theorem logRecord_dram (t : Nat) (a : LogArgs) (b : Blk) : (logRecord t a b).dram = b.dram := by unfold logRecord; (repeat' split) <;> simp
@[simp] theorem logRecord_pers (t : Nat) (a : LogArgs) (b : Blk) : (logRecord t a b).pers = b.pers := by unfold logRecord; (repeat' split) <;> simp
@[simp] theorem logRecord_nvf (t : Nat) (a : LogArgs) (b : Blk) : (logRecord t a b).nvf = b.nvf := by unfold logRecord; (repeat' split) <;> simp
@[simp] theorem logRecord_far (t : Nat) (a : LogArgs) (b : Blk) : (logRecord t a b).far = b.far := by unfold logRecord; (repeat' split) <;> simp
@[simp] theorem logRecord_twin (t : Nat) (a : LogArgs) (b : Blk) : (logRecord t a b).twin = b.twin := by unfold logRecord; (repeat' split) <;> simp
@[simp] theorem logRecord_host (t : Nat) (a : LogArgs) (b : Blk) : (logRecord t a b).host = b.host := by unfold logRecord; (repeat' split) <;> simp
@[simp] theorem logRecord_orb (t : Nat) (a : LogArgs) (b : Blk) : (logRecord t a b).orb = b.orb := by unfold logRecord; (repeat' split) <;> simp
@[simp] theorem logRecord_cph (t : Nat) (a : LogArgs) (b : Blk) : (logRecord t a b).cph = b.cph := by unfold logRecord; (repeat' split) <;> simp
@[simp] theorem logRecord_ident (t : Nat) (a : LogArgs) (b : Blk) : (logRecord t a b).ident = b.ident := by unfold logRecord; (repeat' split) <;> simp
@[simp] theorem logRecord_pwr (t : Nat) (a : LogArgs) (b : Blk) : (logRecord t a b).pwr = b.pwr := by unfold logRecord; (repeat' split) <;> simp
@[simp] theorem logRecord_therm (t : Nat) (a : LogArgs) (b : Blk) : (logRecord t a b).therm = b.therm := by unfold logRecord; (repeat' split) <;> simp
@[simp] theorem logRecord_mgt (t : Nat) (a : LogArgs) (b : Blk) : (logRecord t a b).mgt = b.mgt := by unfold logRecord; (repeat' split) <;> simp
@[simp] theorem logRecord_fw (t : Nat) (a : LogArgs) (b : Blk) : (logRecord t a b).fw = b.fw := by unfold logRecord; (repeat' split) <;> simp
@[simp] theorem logRecord_out (t : Nat) (a : LogArgs) (b : Blk) : (logRecord t a b).out = b.out := by unfold logRecord; (repeat' split) <;> simp

/-! ### logEvent -/

@[simp] theorem logEvent_free (c : Nat) (a : LogArgs) (b : Blk) : (logEvent c a b).free = b.free := by simp [logEvent]
@[simp] theorem logEvent_cyc (c : Nat) (a : LogArgs) (b : Blk) : (logEvent c a b).cyc = b.cyc := by simp [logEvent]
@[simp] theorem logEvent_aon (c : Nat) (a : LogArgs) (b : Blk) : (logEvent c a b).aon = b.aon := by simp [logEvent]
@[simp] theorem logEvent_straps (c : Nat) (a : LogArgs) (b : Blk) : (logEvent c a b).straps = b.straps := by simp [logEvent]
@[simp] theorem logEvent_errs (c : Nat) (a : LogArgs) (b : Blk) : (logEvent c a b).errs = b.errs := by simp [logEvent]
@[simp] theorem logEvent_flt (c : Nat) (a : LogArgs) (b : Blk) : (logEvent c a b).flt = b.flt := by simp [logEvent]
@[simp] theorem logEvent_mer (c : Nat) (a : LogArgs) (b : Blk) : (logEvent c a b).mer = b.mer := by simp [logEvent]
@[simp] theorem logEvent_cht (c : Nat) (a : LogArgs) (b : Blk) : (logEvent c a b).cht = b.cht := by simp [logEvent]
@[simp] theorem logEvent_halo (c : Nat) (a : LogArgs) (b : Blk) : (logEvent c a b).halo = b.halo := by simp [logEvent]
@[simp] theorem logEvent_dram (c : Nat) (a : LogArgs) (b : Blk) : (logEvent c a b).dram = b.dram := by simp [logEvent]
@[simp] theorem logEvent_pers (c : Nat) (a : LogArgs) (b : Blk) : (logEvent c a b).pers = b.pers := by simp [logEvent]
@[simp] theorem logEvent_nvf (c : Nat) (a : LogArgs) (b : Blk) : (logEvent c a b).nvf = b.nvf := by simp [logEvent]
@[simp] theorem logEvent_far (c : Nat) (a : LogArgs) (b : Blk) : (logEvent c a b).far = b.far := by simp [logEvent]
@[simp] theorem logEvent_twin (c : Nat) (a : LogArgs) (b : Blk) : (logEvent c a b).twin = b.twin := by simp [logEvent]
@[simp] theorem logEvent_host (c : Nat) (a : LogArgs) (b : Blk) : (logEvent c a b).host = b.host := by simp [logEvent]
@[simp] theorem logEvent_orb (c : Nat) (a : LogArgs) (b : Blk) : (logEvent c a b).orb = b.orb := by simp [logEvent]
@[simp] theorem logEvent_cph (c : Nat) (a : LogArgs) (b : Blk) : (logEvent c a b).cph = b.cph := by simp [logEvent]
@[simp] theorem logEvent_ident (c : Nat) (a : LogArgs) (b : Blk) : (logEvent c a b).ident = b.ident := by simp [logEvent]
@[simp] theorem logEvent_pwr (c : Nat) (a : LogArgs) (b : Blk) : (logEvent c a b).pwr = b.pwr := by simp [logEvent]
@[simp] theorem logEvent_therm (c : Nat) (a : LogArgs) (b : Blk) : (logEvent c a b).therm = b.therm := by simp [logEvent]
@[simp] theorem logEvent_mgt (c : Nat) (a : LogArgs) (b : Blk) : (logEvent c a b).mgt = b.mgt := by simp [logEvent]
@[simp] theorem logEvent_fw (c : Nat) (a : LogArgs) (b : Blk) : (logEvent c a b).fw = b.fw := by simp [logEvent]
@[simp] theorem logEvent_out (c : Nat) (a : LogArgs) (b : Blk) : (logEvent c a b).out = b.out := by simp [logEvent]

/-! ### setErrLog -/

@[simp] theorem setErrLog_free (r : ErrReg) (n : Nat) (a : LogArgs) (b : Blk) : (setErrLog r n a b).free = b.free := by unfold setErrLog; cases h : r.group <;> simp
@[simp] theorem setErrLog_cyc (r : ErrReg) (n : Nat) (a : LogArgs) (b : Blk) : (setErrLog r n a b).cyc = b.cyc := by unfold setErrLog; cases h : r.group <;> simp
@[simp] theorem setErrLog_aon (r : ErrReg) (n : Nat) (a : LogArgs) (b : Blk) : (setErrLog r n a b).aon = b.aon := by unfold setErrLog; cases h : r.group <;> simp
@[simp] theorem setErrLog_straps (r : ErrReg) (n : Nat) (a : LogArgs) (b : Blk) : (setErrLog r n a b).straps = b.straps := by unfold setErrLog; cases h : r.group <;> simp
@[simp] theorem setErrLog_flt (r : ErrReg) (n : Nat) (a : LogArgs) (b : Blk) : (setErrLog r n a b).flt = b.flt := by unfold setErrLog; cases h : r.group <;> simp
@[simp] theorem setErrLog_mer (r : ErrReg) (n : Nat) (a : LogArgs) (b : Blk) : (setErrLog r n a b).mer = b.mer := by unfold setErrLog; cases h : r.group <;> simp
@[simp] theorem setErrLog_cht (r : ErrReg) (n : Nat) (a : LogArgs) (b : Blk) : (setErrLog r n a b).cht = b.cht := by unfold setErrLog; cases h : r.group <;> simp
@[simp] theorem setErrLog_halo (r : ErrReg) (n : Nat) (a : LogArgs) (b : Blk) : (setErrLog r n a b).halo = b.halo := by unfold setErrLog; cases h : r.group <;> simp
@[simp] theorem setErrLog_dram (r : ErrReg) (n : Nat) (a : LogArgs) (b : Blk) : (setErrLog r n a b).dram = b.dram := by unfold setErrLog; cases h : r.group <;> simp
@[simp] theorem setErrLog_pers (r : ErrReg) (n : Nat) (a : LogArgs) (b : Blk) : (setErrLog r n a b).pers = b.pers := by unfold setErrLog; cases h : r.group <;> simp
@[simp] theorem setErrLog_nvf (r : ErrReg) (n : Nat) (a : LogArgs) (b : Blk) : (setErrLog r n a b).nvf = b.nvf := by unfold setErrLog; cases h : r.group <;> simp
@[simp] theorem setErrLog_far (r : ErrReg) (n : Nat) (a : LogArgs) (b : Blk) : (setErrLog r n a b).far = b.far := by unfold setErrLog; cases h : r.group <;> simp
@[simp] theorem setErrLog_twin (r : ErrReg) (n : Nat) (a : LogArgs) (b : Blk) : (setErrLog r n a b).twin = b.twin := by unfold setErrLog; cases h : r.group <;> simp
@[simp] theorem setErrLog_host (r : ErrReg) (n : Nat) (a : LogArgs) (b : Blk) : (setErrLog r n a b).host = b.host := by unfold setErrLog; cases h : r.group <;> simp
@[simp] theorem setErrLog_orb (r : ErrReg) (n : Nat) (a : LogArgs) (b : Blk) : (setErrLog r n a b).orb = b.orb := by unfold setErrLog; cases h : r.group <;> simp
@[simp] theorem setErrLog_cph (r : ErrReg) (n : Nat) (a : LogArgs) (b : Blk) : (setErrLog r n a b).cph = b.cph := by unfold setErrLog; cases h : r.group <;> simp
@[simp] theorem setErrLog_ident (r : ErrReg) (n : Nat) (a : LogArgs) (b : Blk) : (setErrLog r n a b).ident = b.ident := by unfold setErrLog; cases h : r.group <;> simp
@[simp] theorem setErrLog_pwr (r : ErrReg) (n : Nat) (a : LogArgs) (b : Blk) : (setErrLog r n a b).pwr = b.pwr := by unfold setErrLog; cases h : r.group <;> simp
@[simp] theorem setErrLog_therm (r : ErrReg) (n : Nat) (a : LogArgs) (b : Blk) : (setErrLog r n a b).therm = b.therm := by unfold setErrLog; cases h : r.group <;> simp
@[simp] theorem setErrLog_mgt (r : ErrReg) (n : Nat) (a : LogArgs) (b : Blk) : (setErrLog r n a b).mgt = b.mgt := by unfold setErrLog; cases h : r.group <;> simp
@[simp] theorem setErrLog_fw (r : ErrReg) (n : Nat) (a : LogArgs) (b : Blk) : (setErrLog r n a b).fw = b.fw := by unfold setErrLog; cases h : r.group <;> simp
@[simp] theorem setErrLog_out (r : ErrReg) (n : Nat) (a : LogArgs) (b : Blk) : (setErrLog r n a b).out = b.out := by unfold setErrLog; cases h : r.group <;> simp

/-! ### raiseMsix and eventInterrupt -/

@[simp] theorem raiseMsix_free (n v : Nat) (b : Blk) : (raiseMsix n v b).free = b.free := by simp only [raiseMsix]; split <;> (try split) <;> rfl
@[simp] theorem raiseMsix_cyc (n v : Nat) (b : Blk) : (raiseMsix n v b).cyc = b.cyc := by simp only [raiseMsix]; split <;> (try split) <;> rfl
@[simp] theorem raiseMsix_aon (n v : Nat) (b : Blk) : (raiseMsix n v b).aon = b.aon := by simp only [raiseMsix]; split <;> (try split) <;> rfl
@[simp] theorem raiseMsix_straps (n v : Nat) (b : Blk) : (raiseMsix n v b).straps = b.straps := by simp only [raiseMsix]; split <;> (try split) <;> rfl
@[simp] theorem raiseMsix_errs (n v : Nat) (b : Blk) : (raiseMsix n v b).errs = b.errs := by simp only [raiseMsix]; split <;> (try split) <;> rfl
@[simp] theorem raiseMsix_flt (n v : Nat) (b : Blk) : (raiseMsix n v b).flt = b.flt := by simp only [raiseMsix]; split <;> (try split) <;> rfl
@[simp] theorem raiseMsix_logbook (n v : Nat) (b : Blk) : (raiseMsix n v b).logbook = b.logbook := by simp only [raiseMsix]; split <;> (try split) <;> rfl
@[simp] theorem raiseMsix_alm (n v : Nat) (b : Blk) : (raiseMsix n v b).alm = b.alm := by simp only [raiseMsix]; split <;> (try split) <;> rfl
@[simp] theorem raiseMsix_efl (n v : Nat) (b : Blk) : (raiseMsix n v b).efl = b.efl := by simp only [raiseMsix]; split <;> (try split) <;> rfl
@[simp] theorem raiseMsix_mer (n v : Nat) (b : Blk) : (raiseMsix n v b).mer = b.mer := by simp only [raiseMsix]; split <;> (try split) <;> rfl
@[simp] theorem raiseMsix_cht (n v : Nat) (b : Blk) : (raiseMsix n v b).cht = b.cht := by simp only [raiseMsix]; split <;> (try split) <;> rfl
@[simp] theorem raiseMsix_halo (n v : Nat) (b : Blk) : (raiseMsix n v b).halo = b.halo := by simp only [raiseMsix]; split <;> (try split) <;> rfl
@[simp] theorem raiseMsix_dram (n v : Nat) (b : Blk) : (raiseMsix n v b).dram = b.dram := by simp only [raiseMsix]; split <;> (try split) <;> rfl
@[simp] theorem raiseMsix_pers (n v : Nat) (b : Blk) : (raiseMsix n v b).pers = b.pers := by simp only [raiseMsix]; split <;> (try split) <;> rfl
@[simp] theorem raiseMsix_nvf (n v : Nat) (b : Blk) : (raiseMsix n v b).nvf = b.nvf := by simp only [raiseMsix]; split <;> (try split) <;> rfl
@[simp] theorem raiseMsix_far (n v : Nat) (b : Blk) : (raiseMsix n v b).far = b.far := by simp only [raiseMsix]; split <;> (try split) <;> rfl
@[simp] theorem raiseMsix_twin (n v : Nat) (b : Blk) : (raiseMsix n v b).twin = b.twin := by simp only [raiseMsix]; split <;> (try split) <;> rfl
@[simp] theorem raiseMsix_orb (n v : Nat) (b : Blk) : (raiseMsix n v b).orb = b.orb := by simp only [raiseMsix]; split <;> (try split) <;> rfl
@[simp] theorem raiseMsix_cph (n v : Nat) (b : Blk) : (raiseMsix n v b).cph = b.cph := by simp only [raiseMsix]; split <;> (try split) <;> rfl
@[simp] theorem raiseMsix_ident (n v : Nat) (b : Blk) : (raiseMsix n v b).ident = b.ident := by simp only [raiseMsix]; split <;> (try split) <;> rfl
@[simp] theorem raiseMsix_pwr (n v : Nat) (b : Blk) : (raiseMsix n v b).pwr = b.pwr := by simp only [raiseMsix]; split <;> (try split) <;> rfl
@[simp] theorem raiseMsix_therm (n v : Nat) (b : Blk) : (raiseMsix n v b).therm = b.therm := by simp only [raiseMsix]; split <;> (try split) <;> rfl
@[simp] theorem raiseMsix_mgt (n v : Nat) (b : Blk) : (raiseMsix n v b).mgt = b.mgt := by simp only [raiseMsix]; split <;> (try split) <;> rfl
@[simp] theorem raiseMsix_fw (n v : Nat) (b : Blk) : (raiseMsix n v b).fw = b.fw := by simp only [raiseMsix]; split <;> (try split) <;> rfl
@[simp] theorem eventInterrupt_free (n : Nat) (k : LogKind) (b : Blk) : (eventInterrupt n k b).free = b.free := by unfold eventInterrupt; dsimp only; split <;> simp
@[simp] theorem eventInterrupt_cyc (n : Nat) (k : LogKind) (b : Blk) : (eventInterrupt n k b).cyc = b.cyc := by unfold eventInterrupt; dsimp only; split <;> simp
@[simp] theorem eventInterrupt_aon (n : Nat) (k : LogKind) (b : Blk) : (eventInterrupt n k b).aon = b.aon := by unfold eventInterrupt; dsimp only; split <;> simp
@[simp] theorem eventInterrupt_straps (n : Nat) (k : LogKind) (b : Blk) : (eventInterrupt n k b).straps = b.straps := by unfold eventInterrupt; dsimp only; split <;> simp
@[simp] theorem eventInterrupt_errs (n : Nat) (k : LogKind) (b : Blk) : (eventInterrupt n k b).errs = b.errs := by unfold eventInterrupt; dsimp only; split <;> simp
@[simp] theorem eventInterrupt_flt (n : Nat) (k : LogKind) (b : Blk) : (eventInterrupt n k b).flt = b.flt := by unfold eventInterrupt; dsimp only; split <;> simp
@[simp] theorem eventInterrupt_logbook (n : Nat) (k : LogKind) (b : Blk) : (eventInterrupt n k b).logbook = b.logbook := by unfold eventInterrupt; dsimp only; split <;> simp
@[simp] theorem eventInterrupt_alm (n : Nat) (k : LogKind) (b : Blk) : (eventInterrupt n k b).alm = b.alm := by unfold eventInterrupt; dsimp only; split <;> simp
@[simp] theorem eventInterrupt_efl (n : Nat) (k : LogKind) (b : Blk) : (eventInterrupt n k b).efl = b.efl := by unfold eventInterrupt; dsimp only; split <;> simp
@[simp] theorem eventInterrupt_mer (n : Nat) (k : LogKind) (b : Blk) : (eventInterrupt n k b).mer = b.mer := by unfold eventInterrupt; dsimp only; split <;> simp
@[simp] theorem eventInterrupt_cht (n : Nat) (k : LogKind) (b : Blk) : (eventInterrupt n k b).cht = b.cht := by unfold eventInterrupt; dsimp only; split <;> simp
@[simp] theorem eventInterrupt_halo (n : Nat) (k : LogKind) (b : Blk) : (eventInterrupt n k b).halo = b.halo := by unfold eventInterrupt; dsimp only; split <;> simp
@[simp] theorem eventInterrupt_dram (n : Nat) (k : LogKind) (b : Blk) : (eventInterrupt n k b).dram = b.dram := by unfold eventInterrupt; dsimp only; split <;> simp
@[simp] theorem eventInterrupt_pers (n : Nat) (k : LogKind) (b : Blk) : (eventInterrupt n k b).pers = b.pers := by unfold eventInterrupt; dsimp only; split <;> simp
@[simp] theorem eventInterrupt_nvf (n : Nat) (k : LogKind) (b : Blk) : (eventInterrupt n k b).nvf = b.nvf := by unfold eventInterrupt; dsimp only; split <;> simp
@[simp] theorem eventInterrupt_far (n : Nat) (k : LogKind) (b : Blk) : (eventInterrupt n k b).far = b.far := by unfold eventInterrupt; dsimp only; split <;> simp
@[simp] theorem eventInterrupt_twin (n : Nat) (k : LogKind) (b : Blk) : (eventInterrupt n k b).twin = b.twin := by unfold eventInterrupt; dsimp only; split <;> simp
@[simp] theorem eventInterrupt_orb (n : Nat) (k : LogKind) (b : Blk) : (eventInterrupt n k b).orb = b.orb := by unfold eventInterrupt; dsimp only; split <;> simp
@[simp] theorem eventInterrupt_cph (n : Nat) (k : LogKind) (b : Blk) : (eventInterrupt n k b).cph = b.cph := by unfold eventInterrupt; dsimp only; split <;> simp
@[simp] theorem eventInterrupt_ident (n : Nat) (k : LogKind) (b : Blk) : (eventInterrupt n k b).ident = b.ident := by unfold eventInterrupt; dsimp only; split <;> simp
@[simp] theorem eventInterrupt_pwr (n : Nat) (k : LogKind) (b : Blk) : (eventInterrupt n k b).pwr = b.pwr := by unfold eventInterrupt; dsimp only; split <;> simp
@[simp] theorem eventInterrupt_therm (n : Nat) (k : LogKind) (b : Blk) : (eventInterrupt n k b).therm = b.therm := by unfold eventInterrupt; dsimp only; split <;> simp
@[simp] theorem eventInterrupt_mgt (n : Nat) (k : LogKind) (b : Blk) : (eventInterrupt n k b).mgt = b.mgt := by unfold eventInterrupt; dsimp only; split <;> simp
@[simp] theorem eventInterrupt_fw (n : Nat) (k : LogKind) (b : Blk) : (eventInterrupt n k b).fw = b.fw := by unfold eventInterrupt; dsimp only; split <;> simp

/-! ### postTo -/

@[simp] theorem postTo_free (l : List Nat) (k : LogKind) (r : EvRec) (b : Blk) : (postTo l k r b).free = b.free := by
  unfold postTo; induction l generalizing b with
  | nil => rfl
  | cons n l ih => simp [List.foldl, ih]
@[simp] theorem postTo_cyc (l : List Nat) (k : LogKind) (r : EvRec) (b : Blk) : (postTo l k r b).cyc = b.cyc := by
  unfold postTo; induction l generalizing b with
  | nil => rfl
  | cons n l ih => simp [List.foldl, ih]
@[simp] theorem postTo_aon (l : List Nat) (k : LogKind) (r : EvRec) (b : Blk) : (postTo l k r b).aon = b.aon := by
  unfold postTo; induction l generalizing b with
  | nil => rfl
  | cons n l ih => simp [List.foldl, ih]
@[simp] theorem postTo_straps (l : List Nat) (k : LogKind) (r : EvRec) (b : Blk) : (postTo l k r b).straps = b.straps := by
  unfold postTo; induction l generalizing b with
  | nil => rfl
  | cons n l ih => simp [List.foldl, ih]
@[simp] theorem postTo_errs (l : List Nat) (k : LogKind) (r : EvRec) (b : Blk) : (postTo l k r b).errs = b.errs := by
  unfold postTo; induction l generalizing b with
  | nil => rfl
  | cons n l ih => simp [List.foldl, ih]
@[simp] theorem postTo_flt (l : List Nat) (k : LogKind) (r : EvRec) (b : Blk) : (postTo l k r b).flt = b.flt := by
  unfold postTo; induction l generalizing b with
  | nil => rfl
  | cons n l ih => simp [List.foldl, ih]
@[simp] theorem postTo_logbook (l : List Nat) (k : LogKind) (r : EvRec) (b : Blk) : (postTo l k r b).logbook = b.logbook := by
  unfold postTo; induction l generalizing b with
  | nil => rfl
  | cons n l ih => simp [List.foldl, ih]
@[simp] theorem postTo_alm (l : List Nat) (k : LogKind) (r : EvRec) (b : Blk) : (postTo l k r b).alm = b.alm := by
  unfold postTo; induction l generalizing b with
  | nil => rfl
  | cons n l ih => simp [List.foldl, ih]
@[simp] theorem postTo_efl (l : List Nat) (k : LogKind) (r : EvRec) (b : Blk) : (postTo l k r b).efl = b.efl := by
  unfold postTo; induction l generalizing b with
  | nil => rfl
  | cons n l ih => simp [List.foldl, ih]
@[simp] theorem postTo_mer (l : List Nat) (k : LogKind) (r : EvRec) (b : Blk) : (postTo l k r b).mer = b.mer := by
  unfold postTo; induction l generalizing b with
  | nil => rfl
  | cons n l ih => simp [List.foldl, ih]
@[simp] theorem postTo_cht (l : List Nat) (k : LogKind) (r : EvRec) (b : Blk) : (postTo l k r b).cht = b.cht := by
  unfold postTo; induction l generalizing b with
  | nil => rfl
  | cons n l ih => simp [List.foldl, ih]
@[simp] theorem postTo_halo (l : List Nat) (k : LogKind) (r : EvRec) (b : Blk) : (postTo l k r b).halo = b.halo := by
  unfold postTo; induction l generalizing b with
  | nil => rfl
  | cons n l ih => simp [List.foldl, ih]
@[simp] theorem postTo_dram (l : List Nat) (k : LogKind) (r : EvRec) (b : Blk) : (postTo l k r b).dram = b.dram := by
  unfold postTo; induction l generalizing b with
  | nil => rfl
  | cons n l ih => simp [List.foldl, ih]
@[simp] theorem postTo_pers (l : List Nat) (k : LogKind) (r : EvRec) (b : Blk) : (postTo l k r b).pers = b.pers := by
  unfold postTo; induction l generalizing b with
  | nil => rfl
  | cons n l ih => simp [List.foldl, ih]
@[simp] theorem postTo_nvf (l : List Nat) (k : LogKind) (r : EvRec) (b : Blk) : (postTo l k r b).nvf = b.nvf := by
  unfold postTo; induction l generalizing b with
  | nil => rfl
  | cons n l ih => simp [List.foldl, ih]
@[simp] theorem postTo_far (l : List Nat) (k : LogKind) (r : EvRec) (b : Blk) : (postTo l k r b).far = b.far := by
  unfold postTo; induction l generalizing b with
  | nil => rfl
  | cons n l ih => simp [List.foldl, ih]
@[simp] theorem postTo_twin (l : List Nat) (k : LogKind) (r : EvRec) (b : Blk) : (postTo l k r b).twin = b.twin := by
  unfold postTo; induction l generalizing b with
  | nil => rfl
  | cons n l ih => simp [List.foldl, ih]
@[simp] theorem postTo_orb (l : List Nat) (k : LogKind) (r : EvRec) (b : Blk) : (postTo l k r b).orb = b.orb := by
  unfold postTo; induction l generalizing b with
  | nil => rfl
  | cons n l ih => simp [List.foldl, ih]
@[simp] theorem postTo_cph (l : List Nat) (k : LogKind) (r : EvRec) (b : Blk) : (postTo l k r b).cph = b.cph := by
  unfold postTo; induction l generalizing b with
  | nil => rfl
  | cons n l ih => simp [List.foldl, ih]
@[simp] theorem postTo_ident (l : List Nat) (k : LogKind) (r : EvRec) (b : Blk) : (postTo l k r b).ident = b.ident := by
  unfold postTo; induction l generalizing b with
  | nil => rfl
  | cons n l ih => simp [List.foldl, ih]
@[simp] theorem postTo_pwr (l : List Nat) (k : LogKind) (r : EvRec) (b : Blk) : (postTo l k r b).pwr = b.pwr := by
  unfold postTo; induction l generalizing b with
  | nil => rfl
  | cons n l ih => simp [List.foldl, ih]
@[simp] theorem postTo_therm (l : List Nat) (k : LogKind) (r : EvRec) (b : Blk) : (postTo l k r b).therm = b.therm := by
  unfold postTo; induction l generalizing b with
  | nil => rfl
  | cons n l ih => simp [List.foldl, ih]
@[simp] theorem postTo_mgt (l : List Nat) (k : LogKind) (r : EvRec) (b : Blk) : (postTo l k r b).mgt = b.mgt := by
  unfold postTo; induction l generalizing b with
  | nil => rfl
  | cons n l ih => simp [List.foldl, ih]
@[simp] theorem postTo_fw (l : List Nat) (k : LogKind) (r : EvRec) (b : Blk) : (postTo l k r b).fw = b.fw := by
  unfold postTo; induction l generalizing b with
  | nil => rfl
  | cons n l ih => simp [List.foldl, ih]

/-! ### postVendor -/

@[simp] theorem postVendor_free (v : VendorEv) (a : EvArgs) (b : Blk) : (postVendor v a b).free = b.free := by simp [postVendor]
@[simp] theorem postVendor_cyc (v : VendorEv) (a : EvArgs) (b : Blk) : (postVendor v a b).cyc = b.cyc := by simp [postVendor]
@[simp] theorem postVendor_aon (v : VendorEv) (a : EvArgs) (b : Blk) : (postVendor v a b).aon = b.aon := by simp [postVendor]
@[simp] theorem postVendor_straps (v : VendorEv) (a : EvArgs) (b : Blk) : (postVendor v a b).straps = b.straps := by simp [postVendor]
@[simp] theorem postVendor_errs (v : VendorEv) (a : EvArgs) (b : Blk) : (postVendor v a b).errs = b.errs := by simp [postVendor]
@[simp] theorem postVendor_flt (v : VendorEv) (a : EvArgs) (b : Blk) : (postVendor v a b).flt = b.flt := by simp [postVendor]
@[simp] theorem postVendor_logbook (v : VendorEv) (a : EvArgs) (b : Blk) : (postVendor v a b).logbook = b.logbook := by simp [postVendor]
@[simp] theorem postVendor_alm (v : VendorEv) (a : EvArgs) (b : Blk) : (postVendor v a b).alm = b.alm := by simp [postVendor]
@[simp] theorem postVendor_efl (v : VendorEv) (a : EvArgs) (b : Blk) : (postVendor v a b).efl = b.efl := by simp [postVendor]
@[simp] theorem postVendor_mer (v : VendorEv) (a : EvArgs) (b : Blk) : (postVendor v a b).mer = b.mer := by simp [postVendor]
@[simp] theorem postVendor_cht (v : VendorEv) (a : EvArgs) (b : Blk) : (postVendor v a b).cht = b.cht := by simp [postVendor]
@[simp] theorem postVendor_halo (v : VendorEv) (a : EvArgs) (b : Blk) : (postVendor v a b).halo = b.halo := by simp [postVendor]
@[simp] theorem postVendor_dram (v : VendorEv) (a : EvArgs) (b : Blk) : (postVendor v a b).dram = b.dram := by simp [postVendor]
@[simp] theorem postVendor_pers (v : VendorEv) (a : EvArgs) (b : Blk) : (postVendor v a b).pers = b.pers := by simp [postVendor]
@[simp] theorem postVendor_nvf (v : VendorEv) (a : EvArgs) (b : Blk) : (postVendor v a b).nvf = b.nvf := by simp [postVendor]
@[simp] theorem postVendor_far (v : VendorEv) (a : EvArgs) (b : Blk) : (postVendor v a b).far = b.far := by simp [postVendor]
@[simp] theorem postVendor_twin (v : VendorEv) (a : EvArgs) (b : Blk) : (postVendor v a b).twin = b.twin := by simp [postVendor]
@[simp] theorem postVendor_orb (v : VendorEv) (a : EvArgs) (b : Blk) : (postVendor v a b).orb = b.orb := by simp [postVendor]
@[simp] theorem postVendor_cph (v : VendorEv) (a : EvArgs) (b : Blk) : (postVendor v a b).cph = b.cph := by simp [postVendor]
@[simp] theorem postVendor_ident (v : VendorEv) (a : EvArgs) (b : Blk) : (postVendor v a b).ident = b.ident := by simp [postVendor]
@[simp] theorem postVendor_pwr (v : VendorEv) (a : EvArgs) (b : Blk) : (postVendor v a b).pwr = b.pwr := by simp [postVendor]
@[simp] theorem postVendor_therm (v : VendorEv) (a : EvArgs) (b : Blk) : (postVendor v a b).therm = b.therm := by simp [postVendor]
@[simp] theorem postVendor_mgt (v : VendorEv) (a : EvArgs) (b : Blk) : (postVendor v a b).mgt = b.mgt := by simp [postVendor]
@[simp] theorem postVendor_fw (v : VendorEv) (a : EvArgs) (b : Blk) : (postVendor v a b).fw = b.fw := by simp [postVendor]

/-! ### violation -/

@[simp] theorem violation_free (n bit dpa : Nat) (l p : Bool) (b : Blk) : (violation n bit dpa l p b).free = b.free := by unfold violation; cases l <;> cases p <;> simp
@[simp] theorem violation_cyc (n bit dpa : Nat) (l p : Bool) (b : Blk) : (violation n bit dpa l p b).cyc = b.cyc := by unfold violation; cases l <;> cases p <;> simp
@[simp] theorem violation_aon (n bit dpa : Nat) (l p : Bool) (b : Blk) : (violation n bit dpa l p b).aon = b.aon := by unfold violation; cases l <;> cases p <;> simp
@[simp] theorem violation_straps (n bit dpa : Nat) (l p : Bool) (b : Blk) : (violation n bit dpa l p b).straps = b.straps := by unfold violation; cases l <;> cases p <;> simp
@[simp] theorem violation_flt (n bit dpa : Nat) (l p : Bool) (b : Blk) : (violation n bit dpa l p b).flt = b.flt := by unfold violation; cases l <;> cases p <;> simp
@[simp] theorem violation_mer (n bit dpa : Nat) (l p : Bool) (b : Blk) : (violation n bit dpa l p b).mer = b.mer := by unfold violation; cases l <;> cases p <;> simp
@[simp] theorem violation_cht (n bit dpa : Nat) (l p : Bool) (b : Blk) : (violation n bit dpa l p b).cht = b.cht := by unfold violation; cases l <;> cases p <;> simp
@[simp] theorem violation_halo (n bit dpa : Nat) (l p : Bool) (b : Blk) : (violation n bit dpa l p b).halo = b.halo := by unfold violation; cases l <;> cases p <;> simp
@[simp] theorem violation_dram (n bit dpa : Nat) (l p : Bool) (b : Blk) : (violation n bit dpa l p b).dram = b.dram := by unfold violation; cases l <;> cases p <;> simp
@[simp] theorem violation_pers (n bit dpa : Nat) (l p : Bool) (b : Blk) : (violation n bit dpa l p b).pers = b.pers := by unfold violation; cases l <;> cases p <;> simp
@[simp] theorem violation_nvf (n bit dpa : Nat) (l p : Bool) (b : Blk) : (violation n bit dpa l p b).nvf = b.nvf := by unfold violation; cases l <;> cases p <;> simp
@[simp] theorem violation_far (n bit dpa : Nat) (l p : Bool) (b : Blk) : (violation n bit dpa l p b).far = b.far := by unfold violation; cases l <;> cases p <;> simp
@[simp] theorem violation_twin (n bit dpa : Nat) (l p : Bool) (b : Blk) : (violation n bit dpa l p b).twin = b.twin := by unfold violation; cases l <;> cases p <;> simp
@[simp] theorem violation_orb (n bit dpa : Nat) (l p : Bool) (b : Blk) : (violation n bit dpa l p b).orb = b.orb := by unfold violation; cases l <;> cases p <;> simp
@[simp] theorem violation_cph (n bit dpa : Nat) (l p : Bool) (b : Blk) : (violation n bit dpa l p b).cph = b.cph := by unfold violation; cases l <;> cases p <;> simp
@[simp] theorem violation_ident (n bit dpa : Nat) (l p : Bool) (b : Blk) : (violation n bit dpa l p b).ident = b.ident := by unfold violation; cases l <;> cases p <;> simp
@[simp] theorem violation_pwr (n bit dpa : Nat) (l p : Bool) (b : Blk) : (violation n bit dpa l p b).pwr = b.pwr := by unfold violation; cases l <;> cases p <;> simp
@[simp] theorem violation_therm (n bit dpa : Nat) (l p : Bool) (b : Blk) : (violation n bit dpa l p b).therm = b.therm := by unfold violation; cases l <;> cases p <;> simp
@[simp] theorem violation_mgt (n bit dpa : Nat) (l p : Bool) (b : Blk) : (violation n bit dpa l p b).mgt = b.mgt := by unfold violation; cases l <;> cases p <;> simp
@[simp] theorem violation_fw (n bit dpa : Nat) (l p : Bool) (b : Blk) : (violation n bit dpa l p b).fw = b.fw := by unfold violation; cases l <;> cases p <;> simp

/-! ### powRecord -/

@[simp] theorem powRecord_free (t : PowType) (a : PowArgs) (b : Blk) : (powRecord t a b).free = b.free := rfl
@[simp] theorem powRecord_cyc (t : PowType) (a : PowArgs) (b : Blk) : (powRecord t a b).cyc = b.cyc := rfl
@[simp] theorem powRecord_aon (t : PowType) (a : PowArgs) (b : Blk) : (powRecord t a b).aon = b.aon := rfl
@[simp] theorem powRecord_straps (t : PowType) (a : PowArgs) (b : Blk) : (powRecord t a b).straps = b.straps := rfl
@[simp] theorem powRecord_errs (t : PowType) (a : PowArgs) (b : Blk) : (powRecord t a b).errs = b.errs := rfl
@[simp] theorem powRecord_flt (t : PowType) (a : PowArgs) (b : Blk) : (powRecord t a b).flt = b.flt := rfl
@[simp] theorem powRecord_logbook (t : PowType) (a : PowArgs) (b : Blk) : (powRecord t a b).logbook = b.logbook := rfl
@[simp] theorem powRecord_alm (t : PowType) (a : PowArgs) (b : Blk) : (powRecord t a b).alm = b.alm := rfl
@[simp] theorem powRecord_efl (t : PowType) (a : PowArgs) (b : Blk) : (powRecord t a b).efl = b.efl := rfl
@[simp] theorem powRecord_mer (t : PowType) (a : PowArgs) (b : Blk) : (powRecord t a b).mer = b.mer := rfl
@[simp] theorem powRecord_cht (t : PowType) (a : PowArgs) (b : Blk) : (powRecord t a b).cht = b.cht := rfl
@[simp] theorem powRecord_halo (t : PowType) (a : PowArgs) (b : Blk) : (powRecord t a b).halo = b.halo := rfl
@[simp] theorem powRecord_dram (t : PowType) (a : PowArgs) (b : Blk) : (powRecord t a b).dram = b.dram := rfl
@[simp] theorem powRecord_pers (t : PowType) (a : PowArgs) (b : Blk) : (powRecord t a b).pers = b.pers := rfl
@[simp] theorem powRecord_nvf (t : PowType) (a : PowArgs) (b : Blk) : (powRecord t a b).nvf = b.nvf := rfl
@[simp] theorem powRecord_far (t : PowType) (a : PowArgs) (b : Blk) : (powRecord t a b).far = b.far := rfl
@[simp] theorem powRecord_twin (t : PowType) (a : PowArgs) (b : Blk) : (powRecord t a b).twin = b.twin := rfl
@[simp] theorem powRecord_host (t : PowType) (a : PowArgs) (b : Blk) : (powRecord t a b).host = b.host := rfl
@[simp] theorem powRecord_orb (t : PowType) (a : PowArgs) (b : Blk) : (powRecord t a b).orb = b.orb := rfl
@[simp] theorem powRecord_cph (t : PowType) (a : PowArgs) (b : Blk) : (powRecord t a b).cph = b.cph := rfl
@[simp] theorem powRecord_ident (t : PowType) (a : PowArgs) (b : Blk) : (powRecord t a b).ident = b.ident := rfl
@[simp] theorem powRecord_therm (t : PowType) (a : PowArgs) (b : Blk) : (powRecord t a b).therm = b.therm := rfl
@[simp] theorem powRecord_mgt (t : PowType) (a : PowArgs) (b : Blk) : (powRecord t a b).mgt = b.mgt := rfl
@[simp] theorem powRecord_fw (t : PowType) (a : PowArgs) (b : Blk) : (powRecord t a b).fw = b.fw := rfl
@[simp] theorem powRecord_out (t : PowType) (a : PowArgs) (b : Blk) : (powRecord t a b).out = b.out := rfl

/-! ### noteCeiling -/

@[simp] theorem noteCeiling_free (b : Blk) : (noteCeiling b).free = b.free := by simp only [noteCeiling]; split <;> split <;> simp only [setErr_free]
@[simp] theorem noteCeiling_cyc (b : Blk) : (noteCeiling b).cyc = b.cyc := by simp only [noteCeiling]; split <;> split <;> simp only [setErr_cyc]
@[simp] theorem noteCeiling_aon (b : Blk) : (noteCeiling b).aon = b.aon := by simp only [noteCeiling]; split <;> split <;> simp only [setErr_aon]
@[simp] theorem noteCeiling_straps (b : Blk) : (noteCeiling b).straps = b.straps := by simp only [noteCeiling]; split <;> split <;> simp only [setErr_straps]
@[simp] theorem noteCeiling_flt (b : Blk) : (noteCeiling b).flt = b.flt := by simp only [noteCeiling]; split <;> split <;> simp only [setErr_flt]
@[simp] theorem noteCeiling_logbook (b : Blk) : (noteCeiling b).logbook = b.logbook := by simp only [noteCeiling]; split <;> split <;> simp only [setErr_logbook]
@[simp] theorem noteCeiling_efl (b : Blk) : (noteCeiling b).efl = b.efl := by simp only [noteCeiling]; split <;> split <;> simp only [setErr_efl]
@[simp] theorem noteCeiling_mer (b : Blk) : (noteCeiling b).mer = b.mer := by simp only [noteCeiling]; split <;> split <;> simp only [setErr_mer]
@[simp] theorem noteCeiling_cht (b : Blk) : (noteCeiling b).cht = b.cht := by simp only [noteCeiling]; split <;> split <;> simp only [setErr_cht]
@[simp] theorem noteCeiling_halo (b : Blk) : (noteCeiling b).halo = b.halo := by simp only [noteCeiling]; split <;> split <;> simp only [setErr_halo]
@[simp] theorem noteCeiling_dram (b : Blk) : (noteCeiling b).dram = b.dram := by simp only [noteCeiling]; split <;> split <;> simp only [setErr_dram]
@[simp] theorem noteCeiling_pers (b : Blk) : (noteCeiling b).pers = b.pers := by simp only [noteCeiling]; split <;> split <;> simp only [setErr_pers]
@[simp] theorem noteCeiling_nvf (b : Blk) : (noteCeiling b).nvf = b.nvf := by simp only [noteCeiling]; split <;> split <;> simp only [setErr_nvf]
@[simp] theorem noteCeiling_far (b : Blk) : (noteCeiling b).far = b.far := by simp only [noteCeiling]; split <;> split <;> simp only [setErr_far]
@[simp] theorem noteCeiling_twin (b : Blk) : (noteCeiling b).twin = b.twin := by simp only [noteCeiling]; split <;> split <;> simp only [setErr_twin]
@[simp] theorem noteCeiling_host (b : Blk) : (noteCeiling b).host = b.host := by simp only [noteCeiling]; split <;> split <;> simp only [setErr_host]
@[simp] theorem noteCeiling_orb (b : Blk) : (noteCeiling b).orb = b.orb := by simp only [noteCeiling]; split <;> split <;> simp only [setErr_orb]
@[simp] theorem noteCeiling_cph (b : Blk) : (noteCeiling b).cph = b.cph := by simp only [noteCeiling]; split <;> split <;> simp only [setErr_cph]
@[simp] theorem noteCeiling_ident (b : Blk) : (noteCeiling b).ident = b.ident := by simp only [noteCeiling]; split <;> split <;> simp only [setErr_ident]
@[simp] theorem noteCeiling_pwr (b : Blk) : (noteCeiling b).pwr = b.pwr := by simp only [noteCeiling]; split <;> split <;> simp only [setErr_pwr]
@[simp] theorem noteCeiling_therm (b : Blk) : (noteCeiling b).therm = b.therm := by simp only [noteCeiling]; split <;> split <;> simp only [setErr_therm]
@[simp] theorem noteCeiling_mgt (b : Blk) : (noteCeiling b).mgt = b.mgt := by simp only [noteCeiling]; split <;> split <;> simp only [setErr_mgt]
@[simp] theorem noteCeiling_fw (b : Blk) : (noteCeiling b).fw = b.fw := by simp only [noteCeiling]; split <;> split <;> simp only [setErr_fw]
@[simp] theorem noteCeiling_out (b : Blk) : (noteCeiling b).out = b.out := by simp only [noteCeiling]; split <;> split <;> simp only [setErr_out]

end Sys2Proof.Machine
end

