-- ==== Sys2Proof/Laws/Step.lean ====
section
/-!
SUPPORT. What the end of a step can do, and the runners of commands in one equation each: the proofs about commands cite these.
-/
namespace Sys2Proof.Machine
open Sys2Proof

/-! ### The end of a step -/

/-- Numbering the frames of one output changes the half-links only. -/
theorem frameMessage_eq (h : Nat) (m : TwinMsg) (b : Blk) : ∃ l, frameMessage h m b = { b with twin := { b.twin with links := l } } := by
  unfold frameMessage; split
  · exact ⟨_, rfl⟩
  · exact ⟨b.twin.links, rfl⟩

theorem frameOne_eq (b : Blk) (o : Output) : ∃ l, frameOne b o = { b with twin := { b.twin with links := l } } := by
  cases o
  case crn h m => exact frameMessage_eq h m b
  all_goals exact ⟨b.twin.links, rfl⟩

/-- Numbering the frames of a list of outputs changes the half-links only. -/
theorem frameFold_eq (os : List Output) (b : Blk) : ∃ l, os.foldl frameOne b = { b with twin := { b.twin with links := l } } := by
  induction os generalizing b with
  | nil => exact ⟨b.twin.links, rfl⟩
  | cons o os ih =>
    obtain ⟨l, h⟩ := frameOne_eq b o
    obtain ⟨l2, h2⟩ := ih (frameOne b o)
    refine ⟨l2, ?_⟩
    rw [List.foldl_cons, h2, h]

theorem frameOutputs_eq (b : Blk) : ∃ l, frameOutputs b = { b with twin := { b.twin with links := l } } := frameFold_eq b.out b

/-- Sending sensor events adds outputs only. -/
theorem eventFold_eq (f : Nat → Output) (ids : List Nat) (b : Blk) :
    ∃ o, ids.foldl (fun (x : Blk) id => send (f id) x) b = { b with out := o } := by
  induction ids generalizing b with
  | nil => exact ⟨b.out, rfl⟩
  | cons i ids ih =>
    obtain ⟨o, h⟩ := ih (send (f i) b)
    exact ⟨o, by simp only [List.foldl, h]; rfl⟩

theorem sensorEvents_eq (a b : Blk) : ∃ o, sensorEvents a b = { b with out := o } := by
  unfold sensorEvents
  split
  · exact ⟨b.out, rfl⟩
  · split
    · exact ⟨b.out, rfl⟩
    · exact eventFold_eq _ _ _

/-- The end of a step changes the half-links' frame counts and what has been sent, and nothing else. -/
theorem closeStep_eq (a b : Blk) : ∃ l o, closeStep a b = { b with twin := { b.twin with links := l }, out := o } := by
  obtain ⟨o, h⟩ := sensorEvents_eq a b
  obtain ⟨l, h2⟩ := frameOutputs_eq { b with out := o }
  exact ⟨l, o, by rw [closeStep, h, h2]⟩

/-- Without an event receiver no sensor event is sent. -/
theorem sensorEvents_none (a b : Blk) (h : b.mgt.receiver = none) : sensorEvents a b = b := by unfold sensorEvents; rw [h]

/-- Where no Crailanil message has been sent no frame is numbered. -/
theorem frameFold_none (os : List Output) (b : Blk) (h : ∀ n m, Output.crn n m ∉ os) : os.foldl frameOne b = b := by
  induction os generalizing b with
  | nil => rfl
  | cons o os ih =>
    have hi : os.foldl frameOne b = b := ih b (fun n m hm => h n m (List.mem_cons_of_mem _ hm))
    cases o
    case crn n m => exact absurd List.mem_cons_self (h n m)
    all_goals exact hi

theorem frameOutputs_none (b : Blk) (h : ∀ n m, Output.crn n m ∉ b.out) : frameOutputs b = b := frameFold_none b.out b h

/-- Without a receiver of events and a message to the twin the end of a step changes nothing. -/
theorem closeStep_quiet (a b : Blk) (hr : b.mgt.receiver = none) (ho : ∀ n m, Output.crn n m ∉ b.out) : closeStep a b = b := by
  rw [closeStep, sensorEvents_none a b hr, frameOutputs_none b ho]

@[simp] theorem closeStep_free (a b : Blk) : (closeStep a b).free = b.free := by obtain ⟨l, o, h⟩ := closeStep_eq a b; rw [h]
@[simp] theorem closeStep_cyc (a b : Blk) : (closeStep a b).cyc = b.cyc := by obtain ⟨l, o, h⟩ := closeStep_eq a b; rw [h]
@[simp] theorem closeStep_aon (a b : Blk) : (closeStep a b).aon = b.aon := by obtain ⟨l, o, h⟩ := closeStep_eq a b; rw [h]
@[simp] theorem closeStep_straps (a b : Blk) : (closeStep a b).straps = b.straps := by obtain ⟨l, o, h⟩ := closeStep_eq a b; rw [h]
@[simp] theorem closeStep_errs (a b : Blk) : (closeStep a b).errs = b.errs := by obtain ⟨l, o, h⟩ := closeStep_eq a b; rw [h]
@[simp] theorem closeStep_flt (a b : Blk) : (closeStep a b).flt = b.flt := by obtain ⟨l, o, h⟩ := closeStep_eq a b; rw [h]
@[simp] theorem closeStep_logbook (a b : Blk) : (closeStep a b).logbook = b.logbook := by obtain ⟨l, o, h⟩ := closeStep_eq a b; rw [h]
@[simp] theorem closeStep_alm (a b : Blk) : (closeStep a b).alm = b.alm := by obtain ⟨l, o, h⟩ := closeStep_eq a b; rw [h]
@[simp] theorem closeStep_efl (a b : Blk) : (closeStep a b).efl = b.efl := by obtain ⟨l, o, h⟩ := closeStep_eq a b; rw [h]
@[simp] theorem closeStep_mer (a b : Blk) : (closeStep a b).mer = b.mer := by obtain ⟨l, o, h⟩ := closeStep_eq a b; rw [h]
@[simp] theorem closeStep_cht (a b : Blk) : (closeStep a b).cht = b.cht := by obtain ⟨l, o, h⟩ := closeStep_eq a b; rw [h]
@[simp] theorem closeStep_halo (a b : Blk) : (closeStep a b).halo = b.halo := by obtain ⟨l, o, h⟩ := closeStep_eq a b; rw [h]
@[simp] theorem closeStep_dram (a b : Blk) : (closeStep a b).dram = b.dram := by obtain ⟨l, o, h⟩ := closeStep_eq a b; rw [h]
@[simp] theorem closeStep_pers (a b : Blk) : (closeStep a b).pers = b.pers := by obtain ⟨l, o, h⟩ := closeStep_eq a b; rw [h]
@[simp] theorem closeStep_nvf (a b : Blk) : (closeStep a b).nvf = b.nvf := by obtain ⟨l, o, h⟩ := closeStep_eq a b; rw [h]
@[simp] theorem closeStep_far (a b : Blk) : (closeStep a b).far = b.far := by obtain ⟨l, o, h⟩ := closeStep_eq a b; rw [h]
@[simp] theorem closeStep_host (a b : Blk) : (closeStep a b).host = b.host := by obtain ⟨l, o, h⟩ := closeStep_eq a b; rw [h]
@[simp] theorem closeStep_orb (a b : Blk) : (closeStep a b).orb = b.orb := by obtain ⟨l, o, h⟩ := closeStep_eq a b; rw [h]
@[simp] theorem closeStep_cph (a b : Blk) : (closeStep a b).cph = b.cph := by obtain ⟨l, o, h⟩ := closeStep_eq a b; rw [h]
@[simp] theorem closeStep_ident (a b : Blk) : (closeStep a b).ident = b.ident := by obtain ⟨l, o, h⟩ := closeStep_eq a b; rw [h]
@[simp] theorem closeStep_pwr (a b : Blk) : (closeStep a b).pwr = b.pwr := by obtain ⟨l, o, h⟩ := closeStep_eq a b; rw [h]
@[simp] theorem closeStep_therm (a b : Blk) : (closeStep a b).therm = b.therm := by obtain ⟨l, o, h⟩ := closeStep_eq a b; rw [h]
@[simp] theorem closeStep_mgt (a b : Blk) : (closeStep a b).mgt = b.mgt := by obtain ⟨l, o, h⟩ := closeStep_eq a b; rw [h]
@[simp] theorem closeStep_fw (a b : Blk) : (closeStep a b).fw = b.fw := by obtain ⟨l, o, h⟩ := closeStep_eq a b; rw [h]

/-! ### Runners -/

theorem run_up (f : Blk → Blk) (s : State) (h : s.blk.aon = true) : run f s = .next (s.after (f s.now)) := by
  unfold run stepBlk; rw [if_pos h]; rfl

theorem run_down (f : Blk → Blk) (s : State) (h : s.blk.aon = false) : run f s = .next { s with blk := s.now } := by
  unfold run stepBlk; rw [if_neg (by simp [h])]; rfl

theorem runAll_up (phys : Phys) (f : Blk → Blk) (s : State) (h : s.blk.aon = true) :
    runAll phys f s = .next (s.afterWork phys (f s.now)) := run_up _ s h

theorem runAll_down (phys : Phys) (f : Blk → Blk) (s : State) (h : s.blk.aon = false) : runAll phys f s = .next { s with blk := s.now } :=
  run_down _ s h

theorem runFuse_up (f : Blk → Blk) (s : State) (h : s.blk.aon = true) : runFuse f s = .next (s.after (f s.now)).blow := by
  unfold runFuse stepBlk; rw [if_pos h, if_pos h]; rfl

theorem runFuse_down (f : Blk → Blk) (s : State) (h : s.blk.aon = false) : runFuse f s = .next { s with blk := s.now } := by
  unfold runFuse; rw [if_neg (by simp [h])]; exact run_down f s h

theorem runFuseAll_up (phys : Phys) (f : Blk → Blk) (s : State) (h : s.blk.aon = true) :
    runFuseAll phys f s = .next (s.afterWork phys (f s.now)).blow := runFuse_up _ s h

theorem runFuseAll_down (phys : Phys) (f : Blk → Blk) (s : State) (h : s.blk.aon = false) :
    runFuseAll phys f s = .next { s with blk := s.now } := runFuse_down _ s h

/-- A runner that programs no fuse leaves the fuses and the queue alone. -/
theorem run_frame (f : Blk → Blk) (s : State) : ∃ b, run f s = .next { s with blk := b } := ⟨_, rfl⟩

/-- A runner that may program fuses only blows more of them, and leaves the queue alone. -/
theorem runFuse_frame (f : Blk → Blk) (s : State) : ∃ b m, runFuse f s = .next { s with blk := b, otp := s.otp.blow m } ∨ runFuse f s = .next { s with blk := b } := by
  by_cases h : s.blk.aon = true
  · exact ⟨_, _, .inl (by rw [runFuse_up f s h]; rfl)⟩
  · exact ⟨_, {}, .inr (by rw [runFuse_down f s (by simpa using h)])⟩

end Sys2Proof.Machine
end

