-- ==== Sys2Proof/Laws/Commands.lean ====
section
/-!
SUPPORT. One equation for each command: with always-on power up it is its effect, closed as every step is (by the block's own work first where
engines may go on).
-/
namespace Sys2Proof.Machine
open Sys2Proof

variable (s : State) (h : s.blk.aon = true)

theorem exec_aonPowerUp (straps : Nat) (s : State) : exec (.aonPowerUp straps) s = .next { s with blk := aonPowerUp straps s.now } := rfl
include h in
theorem exec_aonPowerLoss : exec (.aonPowerLoss) s = .next (s.after (aonPowerLoss s.now)) := run_up _ s h
include h in
theorem exec_registerWrite (env : RegEnv) (target : RegTarget) (value : W64) : exec (.registerWrite env target value) s = .next (s.afterWork env.phys (registerWrite env target value s.now)).blow := runFuseAll_up _ _ s h
include h in
theorem exec_registerAccessViolation (read : Bool) : exec (.registerAccessViolation read) s = .next (s.after (registerAccessViolation read s.now)) := run_up _ s h
include h in
theorem exec_portResetBegin (phys : Phys) (reset : PortReset) : exec (.portResetBegin phys reset) s = .next (s.afterWork phys (portResetBegin phys reset s.now)) := runAll_up _ _ s h
include h in
theorem exec_portResetEnd (reset : PortReset) : exec (.portResetEnd reset) s = .next (s.after (portResetEnd reset s.now)) := run_up _ s h
include h in
theorem exec_linkDown (phys : Phys) (port : Nat) : exec (.linkDown phys port) s = .next (s.afterWork phys (linkDown phys port s.now)) := runAll_up _ _ s h
include h in
theorem exec_linkTrained (port speed width : Nat) (cxl : Bool) : exec (.linkTrained port speed width cxl) s = .next (s.after (linkTrained port speed width cxl s.now)) := run_up _ s h
include h in
theorem exec_retrain (port : Nat) : exec (.retrain port) s = .next (s.after (viaReg (0x20008 + 0x4000 * port) (retrainPort port) s.now)) := run_up _ s h
include h in
theorem exec_disable (phys : Phys) (port : Nat) (on : Bool) : exec (.disable phys port on) s = .next (s.afterWork phys (viaReg (0x20008 + 0x4000 * port) (portDisable phys port on) s.now)) := runAll_up _ _ s h
include h in
theorem exec_flitCrcError (port : Nat) (exhausted : Bool) : exec (.flitCrcError port exhausted) s = .next (s.after (flitCrcError port exhausted s.now)) := run_up _ s h
include h in
theorem exec_firmwareRestart : exec (.firmwareRestart) s = .next (s.after (firmwareReset s.now)) := run_up _ s h
include h in
theorem exec_coresRunning (phys : Phys) : exec (.coresRunning phys) s = .next (s.afterWork phys (coresRunning s.now)) := runAll_up _ _ s h
include h in
theorem exec_coresStartTimeout : exec (.coresStartTimeout) s = .next (s.after (coresStartTimeout s.now)) := run_up _ s h
include h in
theorem exec_sysRstAssert (phys : Phys) : exec (.sysRstAssert phys) s = .next (s.after (sysRstAssert phys s.now)) := run_up _ s h
include h in
theorem exec_sysRstDeassert (straps : Nat) : exec (.sysRstDeassert straps) s = .next (s.after (sysRstDeassert straps s.now)) := run_up _ s h
include h in
theorem exec_hostWrite (phys : Phys) (ld tag dpa : Nat) (data : Half) (poison : Bool) : exec (.hostWrite phys ld tag dpa data poison) s = .next (s.afterWork phys (hostWrite phys ld tag dpa data poison s.now)) := runAll_up _ _ s h
include h in
theorem exec_hostRead (phys : Phys) (ld tag dpa : Nat) (exclusive : Bool) : exec (.hostRead phys ld tag dpa exclusive) s = .next (s.afterWork phys (hostRead phys ld tag dpa exclusive s.now)) := runAll_up _ _ s h
include h in
theorem exec_biRspI (phys : Phys) (holder granule : Nat) : exec (.biRspI phys holder granule) s = .next (s.afterWork phys (biRspI phys holder granule s.now)) := runAll_up _ _ s h
include h in
theorem exec_biTimeout (phys : Phys) (holder granule : Nat) : exec (.biTimeout phys holder granule) s = .next (s.afterWork phys (biTimeout phys holder granule s.now)) := runAll_up _ _ s h
include h in
theorem exec_streamIdleExpire (hemi granule : Nat) : exec (.streamIdleExpire hemi granule) s = .next (s.after (streamIdleExpire hemi granule s.now)) := run_up _ s h
include h in
theorem exec_mergeWindowExpire (phys : Phys) (line : Nat) : exec (.mergeWindowExpire phys line) s = .next (s.afterWork phys (mergeWindowExpire phys line s.now)) := runAll_up _ _ s h
include h in
theorem exec_heldHalfAccept (phys : Phys) : exec (.heldHalfAccept phys) s = .next (s.afterWork phys (heldHalfAccept phys s.now)) := runAll_up _ _ s h
include h in
theorem exec_fillVictimAccepted (phys : Phys) : exec (.fillVictimAccepted phys) s = .next (s.afterWork phys (fillVictimAccepted phys s.now)) := runAll_up _ _ s h
include h in
theorem exec_fatalFlushDone (phys : Phys) : exec (.fatalFlushDone phys) s = .next (s.afterWork phys (fatalFlushDone phys s.now)) := runAll_up _ _ s h
include h in
theorem exec_hdmDecoderCommit (ld decoder base size ways gran : Nat) (bi : Bool) : exec (.hdmDecoderCommit ld decoder base size ways gran bi) s = .next (s.after (decoderCommit ld decoder base size ways gran bi s.now)) := run_up _ s h
include h in
theorem exec_initiateDcAdd (transport : Nat) (session : Option Nat) (ld region length tag : Nat) : exec (.initiateDcAdd transport session ld region length tag) s = .next (s.after (fmCommand transport session ld 0x5604 (dcAdd ld region length tag) s.now)) := run_up _ s h
include h in
theorem exec_addDcResponse (ld : Nat) (accept : List (Nat × Nat)) : exec (.addDcResponse ld accept) s = .next (s.after (mailbox {} ld (.addDcResponse accept) s.now)) := run_up _ s h
include h in
theorem exec_dcOfferTimeout (ld base : Nat) : exec (.dcOfferTimeout ld base) s = .next (s.after (dcOfferTimeout ld base s.now)) := run_up _ s h
include h in
theorem exec_releaseDc (ld base size : Nat) : exec (.releaseDc ld base size) s = .next (s.after (mailbox {} ld (.releaseDc base size) s.now)) := run_up _ s h
include h in
theorem exec_initiateDcRelease (transport : Nat) (session : Option Nat) (ld base size : Nat) (forced : Bool) : exec (.initiateDcRelease transport session ld base size forced) s = .next (s.after (fmCommand transport session ld 0x5605 (dcForce ld base size forced) s.now)) := run_up _ s h
include h in
theorem exec_gpfPhase1 (port : Nat) : exec (.gpfPhase1 port) s = .next (s.after (gpfPhase1 port s.now)) := run_up _ s h
include h in
theorem exec_gpfPhase2 (port : Nat) : exec (.gpfPhase2 port) s = .next (s.after (gpfPhase2 port s.now)) := run_up _ s h
include h in
theorem exec_gpfPhase2Complete (port : Nat) : exec (.gpfPhase2Complete port) s = .next (s.after (gpfComplete port s.now)) := run_up _ s h
include h in
theorem exec_identifyMemoryDevice (ld : Nat) : exec (.identifyMemoryDevice ld) s = .next (s.after (mailbox {} ld .identify s.now)) := run_up _ s h
include h in
theorem exec_getHealthInfo (ld : Nat) : exec (.getHealthInfo ld) s = .next (s.after (mailbox {} ld .health s.now)) := run_up _ s h
include h in
theorem exec_getEventRecords (ld : Nat) (log : LogKind) : exec (.getEventRecords ld log) s = .next (s.after (mailbox {} ld (.getEvents log) s.now)) := run_up _ s h
include h in
theorem exec_clearEventRecords (ld : Nat) (log : LogKind) (count : Nat) : exec (.clearEventRecords ld log count) s = .next (s.after (mailbox {} ld (.clearEvents log count) s.now)) := run_up _ s h
include h in
theorem exec_getSupportedLogs (ld : Nat) : exec (.getSupportedLogs ld) s = .next (s.after (mailbox {} ld .supportedLogs s.now)) := run_up _ s h
include h in
theorem exec_getLog (ld log : Nat) : exec (.getLog ld log) s = .next (s.after (mailbox {} ld (.getLog log) s.now)) := run_up _ s h
include h in
theorem exec_setTimestamp (ld time : Nat) : exec (.setTimestamp ld time) s = .next (s.after (mailbox {} ld (.setTimestamp time) s.now)) := run_up _ s h
include h in
theorem exec_getMultiHeadedInfo (ld : Nat) : exec (.getMultiHeadedInfo ld) s = .next (s.after (mailbox {} ld .multiHeaded s.now)) := run_up _ s h
include h in
theorem exec_getPoisonList (ld dpa length : Nat) : exec (.getPoisonList ld dpa length) s = .next (s.after (mailbox {} ld (.getPoison dpa length) s.now)) := run_up _ s h
include h in
theorem exec_injectPoison (phys : Phys) (ld dpa : Nat) : exec (.injectPoison phys ld dpa) s = .next (s.afterWork phys (mailbox phys ld (.injectPoison dpa) s.now)) := runAll_up _ _ s h
include h in
theorem exec_clearPoison (phys : Phys) (ld dpa : Nat) (data : Half) : exec (.clearPoison phys ld dpa data) s = .next (s.afterWork phys (mailbox phys ld (.clearPoison dpa data) s.now)) := runAll_up _ _ s h
include h in
theorem exec_scanMedia (ld dpa length : Nat) : exec (.scanMedia ld dpa length) s = .next (s.after (mailbox {} ld (.scanMedia dpa length) s.now)) := run_up _ s h
include h in
theorem exec_scanMediaDone (ld : Nat) : exec (.scanMediaDone ld) s = .next (s.after (scanMediaDone ld s.now)) := run_up _ s h
include h in
theorem exec_mailboxUnsupported (ld opcode : Nat) (input : List Byte) : exec (.mailboxUnsupported ld opcode input) s = .next (s.after (mailbox {} ld (.other opcode input) s.now)) := run_up _ s h
include h in
theorem exec_getRegionMap (ld start count inputLen : Nat) : exec (.getRegionMap ld start count inputLen) s = .next (s.after (mailbox {} ld (.regionMap start count inputLen) s.now)) := run_up _ s h
include h in
theorem exec_getPersistenceStatus (ld inputLen : Nat) : exec (.getPersistenceStatus ld inputLen) s = .next (s.after (mailbox {} ld (.persistence inputLen) s.now)) := run_up _ s h
include h in
theorem exec_getRestoreStatus (ld inputLen : Nat) : exec (.getRestoreStatus ld inputLen) s = .next (s.after (mailbox {} ld (.restore inputLen) s.now)) := run_up _ s h
include h in
theorem exec_getEpochHistory (ld inputLen : Nat) : exec (.getEpochHistory ld inputLen) s = .next (s.after (mailbox {} ld (.epochHistory inputLen) s.now)) := run_up _ s h
include h in
theorem exec_getTopologyStatus (ld inputLen : Nat) : exec (.getTopologyStatus ld inputLen) s = .next (s.after (mailbox {} ld (.topology inputLen) s.now)) := run_up _ s h
include h in
theorem exec_getChartIdentity (ld inputLen : Nat) : exec (.getChartIdentity ld inputLen) s = .next (s.after (mailbox {} ld (.chartIdentity inputLen) s.now)) := run_up _ s h
include h in
theorem exec_mailboxWriteBusy (ld : Nat) : exec (.mailboxWriteBusy ld) s = .next (s.after (mailboxWriteBusy ld s.now)) := run_up _ s h
include h in
theorem exec_windowViolation (ld offset : Nat) (read : Bool) : exec (.windowViolation ld offset read) s = .next (s.after (windowViolation ld offset read s.now)) := run_up _ s h
include h in
theorem exec_ideKeyProg (transport session port : Nat) (stream : IdeStream) : exec (.ideKeyProg transport session port stream) s = .next (s.after (inIdeSession transport session (ideKeyProg port stream) s.now)) := run_up _ s h
include h in
theorem exec_ideKSetGo (transport session port : Nat) (stream : IdeStream) : exec (.ideKSetGo transport session port stream) s = .next (s.after (inIdeSession transport session (ideSetGo port stream) s.now)) := run_up _ s h
include h in
theorem exec_ideKSetStop (transport session port : Nat) (stream : IdeStream) : exec (.ideKSetStop transport session port stream) s = .next (s.after (inIdeSession transport session (ideSetStop port stream) s.now)) := run_up _ s h
include h in
theorem exec_ideQuery (transport session port : Nat) : exec (.ideQuery transport session port) s = .next (s.after (inIdeSession transport session (ideQuery port) s.now)) := run_up _ s h
include h in
theorem exec_openStaging : exec (.openStaging) s = .next (s.after (stageOpen s.now)) := run_up _ s h
include h in
theorem exec_stageData (value : W64) : exec (.stageData value) s = .next (s.after (stageData value s.now)) := run_up _ s h
include h in
theorem exec_verify : exec (.verify) s = .next (s.after (stageVerify s.now)) := run_up _ s h
include h in
theorem exec_verifyDone : exec (.verifyDone) s = .next (s.after (verifyDone s.now)) := run_up _ s h
include h in
theorem exec_commitDawn : exec (.commitDawn) s = .next (s.after (commitDawn s.now)) := run_up _ s h
include h in
theorem exec_commitDawnDone : exec (.commitDawnDone) s = .next (s.after (commitDawnDone s.now)) := run_up _ s h
include h in
theorem exec_commitLive : exec (.commitLive) s = .next (s.after (commitLive s.now)) := run_up _ s h
include h in
theorem exec_discard : exec (.discard) s = .next (s.after (stageDiscard s.now)) := run_up _ s h
include h in
theorem exec_liveSwitch (phys : Phys) : exec (.liveSwitch phys) s = .next (s.afterWork phys (liveSwitch s.now)) := runAll_up _ _ s h
include h in
theorem exec_liveBackgroundSwitch (phys : Phys) : exec (.liveBackgroundSwitch phys) s = .next (s.afterWork phys (liveBackgroundSwitch s.now)) := runAll_up _ _ s h
include h in
theorem exec_nearReshapeHold : exec (.nearReshapeHold) s = .next (s.after (nearReshapeHold s.now)) := run_up _ s h
include h in
theorem exec_nearReshapeSwitch (phys : Phys) : exec (.nearReshapeSwitch phys) s = .next (s.afterWork phys (nearReshapeSwitch phys s.now)) := runAll_up _ _ s h
include h in
theorem exec_meridianTick (gap : Nat) : exec (.meridianTick gap) s = .next (s.after (meridianTick gap s.now)) := run_up _ s h
include h in
theorem exec_tickLoss : exec (.tickLoss) s = .next (s.after (tickLoss s.now)) := run_up _ s h
include h in
theorem exec_deadReckoningTick : exec (.deadReckoningTick) s = .next (s.after (deadReckoningTick s.now)) := run_up _ s h
include h in
theorem exec_merFrame (cells : List (Bool × Bool)) (since : Nat) : exec (.merFrame cells since) s = .next (s.after (merFrame cells since s.now)) := run_up _ s h
include h in
theorem exec_frameMissing : exec (.frameMissing) s = .next (s.after (frameMissing s.now)) := run_up _ s h
include h in
theorem exec_slewAdjust : exec (.slewAdjust) s = .next (s.after (slewAdjust s.now)) := run_up _ s h
include h in
theorem exec_meridianWaitTimeout : exec (.meridianWaitTimeout) s = .next (s.after (meridianWaitTimeout s.now)) := run_up _ s h
include h in
theorem exec_ptpSync (header : PtpHdr) (time : Int) (twoStep : Bool) : exec (.ptpSync header time twoStep) s = .next (s.after (ptpSync header time twoStep s.now)) := run_up _ s h
include h in
theorem exec_ptpFollowUp (header : PtpHdr) (time : Int) : exec (.ptpFollowUp header time) s = .next (s.after (ptpFollowUp header time s.now)) := run_up _ s h
include h in
theorem exec_ptpAnnounce (header : PtpHdr) (rank : Nat) : exec (.ptpAnnounce header rank) s = .next (s.after (ptpAnnounce header rank s.now)) := run_up _ s h
include h in
theorem exec_ptpDelayResp (header : PtpHdr) (peer : Bool) (seq : Nat) (delay : Int) : exec (.ptpDelayResp header peer seq delay) s = .next (s.after (ptpDelayResp header peer seq delay s.now)) := run_up _ s h
include h in
theorem exec_ptpLoss : exec (.ptpLoss) s = .next (s.after (ptpLoss s.now)) := run_up _ s h
include h in
theorem exec_ptpDelayReqSend : exec (.ptpDelayReqSend) s = .next (s.after (ptpDelayReqSend s.now)) := run_up _ s h
include h in
theorem exec_epochBoundary (phys : Phys) : exec (.epochBoundary phys) s = .next (s.afterWork phys (epochEnds phys s.now)) := runAll_up _ _ s h
include h in
theorem exec_epochSeal : exec (.epochSeal) s = .next (s.after (epochSeal s.now)) := run_up _ s h
include h in
theorem exec_hourlyRecord : exec (.hourlyRecord) s = .next (s.after (hourlyRecord s.now)) := run_up _ s h
include h in
theorem exec_refreshBeat : exec (.refreshBeat) s = .next (s.after (refreshBeat s.now)) := run_up _ s h
include h in
theorem exec_spdTempPoll (reads : SMap Int) : exec (.spdTempPoll reads) s = .next (s.after (spdTempPoll reads s.now)) := run_up _ s h
include h in
theorem exec_readAgeLimit : exec (.readAgeLimit) s = .next (s.after (readAgeLimit s.now)) := run_up _ s h
include h in
theorem exec_caParityAlert (channel replays command : Nat) (location : W64) (addr : Nat) : exec (.caParityAlert channel replays command location addr) s = .next (s.after (caParityAlert channel replays command location addr s.now)) := run_up _ s h
include h in
theorem exec_thaw (phys : Phys) (channel : Nat) (twin : Option Line) : exec (.thaw phys channel twin) s = .next (s.afterWork phys (viaReg (0x40008 + 0x1000 * channel) (drmThaw channel twin) s.now)) := runAll_up _ _ s h
include h in
theorem exec_mark (channel dimm rank position : Nat) : exec (.mark channel dimm rank position) s = .next (s.after (viaReg (0x40008 + 0x1000 * channel) (drmMark channel dimm rank position) s.now)) := run_up _ s h
include h in
theorem exec_unmark (channel dimm rank position : Nat) : exec (.unmark channel dimm rank position) s = .next (s.after (viaReg (0x40008 + 0x1000 * channel) (drmUnmark channel dimm rank position) s.now)) := run_up _ s h
include h in
theorem exec_diagRead (phys : Phys) (channel : Nat) : exec (.diagRead phys channel) s = .next (s.after (viaReg (0x40008 + 0x1000 * channel) (drmDiagRead channel phys) s.now)) := run_up _ s h
include h in
theorem exec_remotePageCopyDone (phys : Phys) (page : Nat) (lines : SMap (Line × Bool)) : exec (.remotePageCopyDone phys page lines) s = .next (s.afterWork phys (remotePageCopyDone phys page lines s.now)) := runAll_up _ _ s h
include h in
theorem exec_zeroFillDone (phys : Phys) (page : Nat) : exec (.zeroFillDone phys page) s = .next (s.afterWork phys (zeroFillDone page s.now)) := runAll_up _ _ s h
include h in
theorem exec_writebackIssue (phys : Phys) : exec (.writebackIssue phys) s = .next (s.afterWork phys (writebackIssue phys s.now)) := runAll_up _ _ s h
include h in
theorem exec_writebackProgramDone (phys : Phys) (page : Nat) : exec (.writebackProgramDone phys page) s = .next (s.afterWork phys (writebackProgramDone page s.now)) := runAll_up _ _ s h
include h in
theorem exec_governorWindow : exec (.governorWindow) s = .next (s.after (governorWindow s.now)) := run_up _ s h
include h in
theorem exec_throttleRelease (phys : Phys) : exec (.throttleRelease phys) s = .next (s.afterWork phys (throttleRelease phys s.now)) := runAll_up _ _ s h
include h in
theorem exec_throttleOverdraw (phys : Phys) : exec (.throttleOverdraw phys) s = .next (s.afterWork phys (throttleOverdraw phys s.now)) := runAll_up _ _ s h
include h in
theorem exec_holdupLowAssert : exec (.holdupLowAssert) s = .next (s.after (holdupAssert s.now)) := run_up _ s h
include h in
theorem exec_holdupLowDeassert : exec (.holdupLowDeassert) s = .next (s.after (holdupDeassert s.now)) := run_up _ s h
include h in
theorem exec_holdupRestore : exec (.holdupRestore) s = .next (s.after (holdupRestore s.now)) := run_up _ s h
include h in
theorem exec_pwrFailAssert : exec (.pwrFailAssert) s = .next (s.after (pwrFailAssert s.now)) := run_up _ s h
include h in
theorem exec_duskFlushDone (phys : Phys) : exec (.duskFlushDone phys) s = .next (s.afterWork phys (duskFlushDone phys s.now)) := runAll_up _ _ s h
include h in
theorem exec_saveComplete (phys : Phys) : exec (.saveComplete phys) s = .next (s.afterWork phys (saveComplete phys s.now)) := runAll_up _ _ s h
include h in
theorem exec_pwrFailReturn (phys : Phys) : exec (.pwrFailReturn phys) s = .next (s.afterWork phys (pwrFailReturn phys s.now)) := runAll_up _ _ s h
include h in
theorem exec_restoreDone (phys : Phys) (page bad : Nat) : exec (.restoreDone phys page bad) s = .next (s.afterWork phys (restoreDone phys page bad s.now)) := runAll_up _ _ s h
include h in
theorem exec_backgroundRestore : exec (.backgroundRestore) s = .next (s.after (backgroundRestore s.now)) := run_up _ s h
include h in
theorem exec_generationDeath (generation : Nat) : exec (.generationDeath generation) s = .next (s.after (generationDeath generation s.now)) := run_up _ s h
include h in
theorem exec_nandReadDone (stripe position failing : Nat) (suspended : Bool) : exec (.nandReadDone stripe position failing suspended) s = .next (s.after (nandReadDone stripe position failing suspended s.now)) := run_up _ s h
include h in
theorem exec_nandProgramDone (phys : Phys) (stripe position : Nat) (ok : Bool) : exec (.nandProgramDone phys stripe position ok) s = .next (s.after (nandProgramDone phys stripe position ok s.now)) := run_up _ s h
include h in
theorem exec_nandEraseDone (zone : Nat) (failed : Option Nat) : exec (.nandEraseDone zone failed) s = .next (s.after (nandEraseDone zone failed s.now)) := run_up _ s h
include h in
theorem exec_memberTimeout (die : Nat) (op : NandOp) : exec (.memberTimeout die op) s = .next (s.after (memberTimeout die op s.now)) := run_up _ s h
include h in
theorem exec_stripePadTimeout : exec (.stripePadTimeout) s = .next (s.after (stripePadTimeout s.now)) := run_up _ s h
include h in
theorem exec_stripeJournalCommit : exec (.stripeJournalCommit) s = .next (s.after (stripeJournalCommit s.now)) := run_up _ s h
include h in
theorem exec_reclaim : exec (.reclaim) s = .next (s.after (reclaim s.now)) := run_up _ s h
include h in
theorem exec_replicaReplace : exec (.replicaReplace) s = .next (s.after (replicaReplace s.now)) := run_up _ s h
include h in
theorem exec_startRebuild : exec (.startRebuild) s = .next (s.after (viaReg 0x60008 startRebuildCmd s.now)) := run_up _ s h
include h in
theorem exec_rebuildStripe : exec (.rebuildStripe) s = .next (s.after (rebuildStripe s.now)) := run_up _ s h
include h in
theorem exec_admitDie (die : Nat) : exec (.admitDie die) s = .next (s.after (viaReg 0x60008 (admitDie die) s.now)) := run_up _ s h
include h in
theorem exec_retire (die : Nat) : exec (.retire die) s = .next (s.after (viaReg 0x60008 (retireCmd die) s.now)) := run_up _ s h
include h in
theorem exec_rawRead : exec (.rawRead) s = .next (s.after (viaReg 0x60008 rawRead s.now)) := run_up _ s h
include h in
theorem exec_rawReadDone (answer : RawAnswer) : exec (.rawReadDone answer) s = .next (s.after (rawReadDone answer s.now)) := run_up _ s h
include h in
theorem exec_patrolPause : exec (.patrolPause) s = .next (s.after (viaReg 0x60008 patrolPause s.now)) := run_up _ s h
include h in
theorem exec_patrolResume : exec (.patrolResume) s = .next (s.after (viaReg 0x60008 patrolResume s.now)) := run_up _ s h
include h in
theorem exec_patrolStripe (unread : List Nat) (errs : List (Nat × Nat × Nat)) : exec (.patrolStripe unread errs) s = .next (s.after (patrolStripe unread errs s.now)) := run_up _ s h
include h in
theorem exec_patrolDaily : exec (.patrolDaily) s = .next (s.after (patrolDaily s.now)) := run_up _ s h
include h in
theorem exec_reshapeComplete : exec (.reshapeComplete) s = .next (s.after (reshapeComplete s.now)) := run_up _ s h
include h in
theorem exec_stagingFillLand (phys : Phys) (page : Nat) (bad : List Nat) : exec (.stagingFillLand phys page bad) s = .next (s.afterWork phys (stagingFillLand phys page bad s.now)) := runAll_up _ _ s h
include h in
theorem exec_farWritebackDone (phys : Phys) (page : Nat) : exec (.farWritebackDone phys page) s = .next (s.afterWork phys (farWritebackDone phys page s.now)) := runAll_up _ _ s h
include h in
theorem exec_trnPromote (phys : Phys) (ld dpa count : Nat) : exec (.trnPromote phys ld dpa count) s = .next (s.afterWork phys (viaLd ld (trnPromote phys ld dpa count) s.now)) := runAll_up _ _ s h
include h in
theorem exec_trnEvict (phys : Phys) (ld dpa count : Nat) : exec (.trnEvict phys ld dpa count) s = .next (s.afterWork phys (viaLd ld (trnEvict phys ld dpa count) s.now)) := runAll_up _ _ s h
include h in
theorem exec_trnStart (ld area : Nat) : exec (.trnStart ld area) s = .next (s.after (viaLd ld (trnStart ld area) s.now)) := run_up _ s h
include h in
theorem exec_trnStop (phys : Phys) (ld area : Nat) : exec (.trnStop phys ld area) s = .next (s.afterWork phys (viaLd ld (trnStop ld area) s.now)) := runAll_up _ _ s h
include h in
theorem exec_trnRelease (phys : Phys) (ld area slot : Nat) : exec (.trnRelease phys ld area slot) s = .next (s.afterWork phys (viaLd ld (trnRelease ld area slot) s.now)) := runAll_up _ _ s h
include h in
theorem exec_transitFillStart (phys : Phys) (window : Nat) : exec (.transitFillStart phys window) s = .next (s.afterWork phys (transitFillStart phys window s.now)) := runAll_up _ _ s h
include h in
theorem exec_transitPageLand (phys : Phys) (window slot : Nat) (bad : List Nat) : exec (.transitPageLand phys window slot bad) s = .next (s.afterWork phys (transitPageLand phys window slot bad s.now)) := runAll_up _ _ s h
include h in
theorem exec_transitDue (phys : Phys) (window slot : Nat) : exec (.transitDue phys window slot) s = .next (s.afterWork phys (transitDue window slot s.now)) := runAll_up _ _ s h
include h in
theorem exec_transitStallCeiling (phys : Phys) (window slot : Nat) : exec (.transitStallCeiling phys window slot) s = .next (s.afterWork phys (transitStall window slot s.now)) := runAll_up _ _ s h
include h in
theorem exec_crailanilTrain (link width : Nat) (peer : TrainPeer) : exec (.crailanilTrain link width peer) s = .next (s.after (crailanilTrain link width peer s.now)) := run_up _ s h
include h in
theorem exec_trainTimeout : exec (.trainTimeout) s = .next (s.after (trainTimeout s.now)) := run_up _ s h
include h in
theorem exec_crailanilRekey (link : Nat) (share : List Byte) : exec (.crailanilRekey link share) s = .next (s.after (crailanilRekey link share s.now)) := run_up _ s h
include h in
theorem exec_crnAck (link seq : Nat) : exec (.crnAck link seq) s = .next (s.after (crnAck link seq s.now)) := run_up _ s h
include h in
theorem exec_crnNak (link seq : Nat) : exec (.crnNak link seq) s = .next (s.after (crnNak link seq s.now)) := run_up _ s h
include h in
theorem exec_crnAckTimer (link : Nat) : exec (.crnAckTimer link) s = .next (s.after (crnAckTimer link s.now)) := run_up _ s h
include h in
theorem exec_halfLinkDown (phys : Phys) (link : Nat) : exec (.halfLinkDown phys link) s = .next (s.afterWork phys (halfLinkDown link s.now)) := runAll_up _ _ s h
include h in
theorem exec_linkGraceExpire (phys : Phys) : exec (.linkGraceExpire phys) s = .next (s.afterWork phys (linkGraceExpire s.now)) := runAll_up _ _ s h
include h in
theorem exec_linkReturn (phys : Phys) : exec (.linkReturn phys) s = .next (s.afterWork phys (linkReturn phys s.now)) := runAll_up _ _ s h
include h in
theorem exec_mirrorWrite (phys : Phys) (tag addr : Nat) (data : Half) (poison : Bool) (epoch : Nat) : exec (.mirrorWrite phys tag addr data poison epoch) s = .next (s.afterWork phys (viaFrame phys (.mirrorWrite tag addr data poison epoch) (mirrorWrite phys tag addr data poison epoch) s.now)) := runAll_up _ _ s h
include h in
theorem exec_mirrorAck (phys : Phys) (tag : Nat) : exec (.mirrorAck phys tag) s = .next (s.afterWork phys (viaFrame phys (.mirrorAck tag) (mirrorAck tag) s.now)) := runAll_up _ _ s h
include h in
theorem exec_mirrorAckTimeout (phys : Phys) : exec (.mirrorAckTimeout phys) s = .next (s.afterWork phys (mirrorAckTimeout s.now)) := runAll_up _ _ s h
include h in
theorem exec_fwdRead (phys : Phys) (tag dpa ld : Nat) : exec (.fwdRead phys tag dpa ld) s = .next (s.afterWork phys (viaFrame phys (.fwdRead tag dpa ld) (fwdRead phys tag dpa ld) s.now)) := runAll_up _ _ s h
include h in
theorem exec_fwdWrite (phys : Phys) (tag dpa ld : Nat) (data : Half) (poison : Bool) : exec (.fwdWrite phys tag dpa ld data poison) s = .next (s.afterWork phys (viaFrame phys (.fwdWrite tag dpa ld data poison) (fwdWrite phys tag dpa ld data poison) s.now)) := runAll_up _ _ s h
include h in
theorem exec_fwdData (phys : Phys) (tag : Nat) (data : Half) (poison : Bool) : exec (.fwdData phys tag data poison) s = .next (s.afterWork phys (viaFrame phys (.fwdData tag data poison) (fwdData phys tag data poison) s.now)) := runAll_up _ _ s h
include h in
theorem exec_fwdDone (phys : Phys) (tag : Nat) : exec (.fwdDone phys tag) s = .next (s.afterWork phys (viaFrame phys (.fwdDone tag) (fwdDone tag) s.now)) := runAll_up _ _ s h
include h in
theorem exec_coldShipStart (phys : Phys) (twinS : Nat) : exec (.coldShipStart phys twinS) s = .next (s.after (coldShipStart phys twinS s.now)) := run_up _ s h
include h in
theorem exec_coldPage (phys : Phys) (key epoch : Nat) (lines : PageLines) : exec (.coldPage phys key epoch lines) s = .next (s.afterWork phys (viaFrame phys (.coldPage key epoch lines) (coldPage key epoch lines) s.now)) := runAll_up _ _ s h
include h in
theorem exec_coldEnd (phys : Phys) (pages epoch : Nat) : exec (.coldEnd phys pages epoch) s = .next (s.afterWork phys (viaFrame phys (.coldEnd pages epoch) (coldEnd pages epoch) s.now)) := runAll_up _ _ s h
include h in
theorem exec_coldAck (phys : Phys) (epoch : Nat) : exec (.coldAck phys epoch) s = .next (s.afterWork phys (viaFrame phys (.coldAck epoch) (coldAck phys epoch) s.now)) := runAll_up _ _ s h
include h in
theorem exec_shipHoldRelease (phys : Phys) : exec (.shipHoldRelease phys) s = .next (s.afterWork phys (shipHoldRelease phys s.now)) := runAll_up _ _ s h
include h in
theorem exec_syncDigest (phys : Phys) (page digest : Nat) : exec (.syncDigest phys page digest) s = .next (s.afterWork phys (viaFrame phys (.syncDigest page digest 0) (syncDigest phys page digest) s.now)) := runAll_up _ _ s h
include h in
theorem exec_syncPage (phys : Phys) (page stamp : Nat) (lines : List (Line × Bool)) : exec (.syncPage phys page stamp lines) s = .next (s.afterWork phys (viaFrame phys (.syncPage page stamp lines) (syncPage page stamp lines) s.now)) := runAll_up _ _ s h
include h in
theorem exec_syncMatch (phys : Phys) (page : Nat) (differ : Bool) (stamp : Nat) : exec (.syncMatch phys page differ stamp) s = .next (s.afterWork phys (viaFrame phys (.syncMatch page differ) (syncMatch phys page differ stamp) s.now)) := runAll_up _ _ s h
include h in
theorem exec_hotSyncDone : exec (.hotSyncDone) s = .next (s.after (hotSyncDone s.now)) := run_up _ s h
include h in
theorem exec_sfUpdate (phys : Phys) (granule : Nat) (holders : Option Holders) : exec (.sfUpdate phys granule holders) s = .next (s.afterWork phys (viaFrame phys (.sfUpdate granule holders) (sfUpdate granule holders) s.now)) := runAll_up _ _ s h
include h in
theorem exec_twinState (phys : Phys) (roles : Nat) (sealedEpoch : Option Nat) (copies : List Nat) : exec (.twinState phys roles sealedEpoch copies) s = .next (s.afterWork phys (viaFrame phys (.state roles sealedEpoch copies false) (twinState phys roles sealedEpoch copies) s.now)) := runAll_up _ _ s h
include h in
theorem exec_stateTimer : exec (.stateTimer) s = .next (s.after (stateTimer s.now)) := run_up _ s h
include h in
theorem exec_switchEpoch (phys : Phys) (epoch : Nat) : exec (.switchEpoch phys epoch) s = .next (s.afterWork phys (viaFrame phys (.switchEpoch epoch) (switchEpoch epoch) s.now)) := runAll_up _ _ s h
include h in
theorem exec_chartConfirm (phys : Phys) (digest : BitVec 512) : exec (.chartConfirm phys digest) s = .next (s.afterWork phys (viaFrame phys (.chartConfirm digest) (chartConfirm digest) s.now)) := runAll_up _ _ s h
include h in
theorem exec_twinViolation (stray : Bool) : exec (.twinViolation stray) s = .next (s.after (twinViolation stray s.now)) := run_up _ s h
include h in
theorem exec_heartbeat : exec (.heartbeat) s = .next (s.after (heartbeat s.now)) := run_up _ s h
include h in
theorem exec_renew (half : Nat) : exec (.renew half) s = .next (s.after (renew half s.now)) := run_up _ s h
include h in
theorem exec_fence (half : Nat) : exec (.fence half) s = .next (s.after (fence half s.now)) := run_up _ s h
include h in
theorem exec_grant (phys : Phys) (g : Grant) : exec (.grant phys g) s = .next (s.afterWork phys (grant phys g s.now)) := runAll_up _ _ s h
include h in
theorem exec_revoke (half : Nat) : exec (.revoke half) s = .next (s.after (revoke half s.now)) := run_up _ s h
include h in
theorem exec_statusQuery (half : Nat) : exec (.statusQuery half) s = .next (s.after (statusQuery half s.now)) := run_up _ s h
include h in
theorem exec_arbiterMessageInvalid (why : ArbFault) : exec (.arbiterMessageInvalid why) s = .next (s.after (arbInvalid why s.now)) := run_up _ s h
include h in
theorem exec_audit : exec (.audit) s = .next (s.after (viaReg 0x80060 audit s.now)) := run_up _ s h
include h in
theorem exec_twnRelease (half : Nat) : exec (.twnRelease half) s = .next (s.after (viaReg 0x80060 (twnRelease half) s.now)) := run_up _ s h
include h in
theorem exec_ethPortUp (port : Nat) (cr : Bool) : exec (.ethPortUp port cr) s = .next (s.after (ethPortUp port cr s.now)) := run_up _ s h
include h in
theorem exec_neighbourSolicitation (port target source : Nat) : exec (.neighbourSolicitation port target source) s = .next (s.after (neighbourSolicitation port target source s.now)) := run_up _ s h
include h in
theorem exec_ethFrameDiscard (kind : EthDiscard) : exec (.ethFrameDiscard kind) s = .next (s.after (ethFrameDiscard kind s.now)) := run_up _ s h
include h in
theorem exec_orbDoorbell (phys : Phys) (ld queue tail : Nat) : exec (.orbDoorbell phys ld queue tail) s = .next (s.afterWork phys (viaLd ld (doorbell ld queue tail) s.now)) := runAll_up _ _ s h
include h in
theorem exec_segmentSend (phys : Phys) (queue : Nat) : exec (.segmentSend phys queue) s = .next (s.afterWork phys (segmentSend phys queue s.now)) := runAll_up _ _ s h
include h in
theorem exec_orbWrite (phys : Phys) (wire : Wire) (packet : OrbPkt) : exec (.orbWrite phys wire packet) s = .next (s.afterWork phys (orbWrite phys wire packet s.now)) := runAll_up _ _ s h
include h in
theorem exec_orbRead (phys : Phys) (wire : Wire) (packet : OrbPkt) : exec (.orbRead phys wire packet) s = .next (s.afterWork phys (orbRead phys wire packet s.now)) := runAll_up _ _ s h
include h in
theorem exec_atomicAdd (phys : Phys) (wire : Wire) (packet : OrbPkt) : exec (.atomicAdd phys wire packet) s = .next (s.afterWork phys (orbAdd phys wire packet s.now)) := runAll_up _ _ s h
include h in
theorem exec_atomicCas (phys : Phys) (wire : Wire) (packet : OrbPkt) : exec (.atomicCas phys wire packet) s = .next (s.afterWork phys (orbCas phys wire packet s.now)) := runAll_up _ _ s h
include h in
theorem exec_writeNotify (phys : Phys) (wire : Wire) (packet : OrbPkt) : exec (.writeNotify phys wire packet) s = .next (s.afterWork phys (orbNotify phys wire packet s.now)) := runAll_up _ _ s h
include h in
theorem exec_readData (phys : Phys) (wire : Wire) (packet : OrbPkt) : exec (.readData phys wire packet) s = .next (s.afterWork phys (orbReadData phys wire packet s.now)) := runAll_up _ _ s h
include h in
theorem exec_orbAck (phys : Phys) (wire : Wire) (packet : OrbPkt) : exec (.orbAck phys wire packet) s = .next (s.afterWork phys (orbAck phys wire packet s.now)) := runAll_up _ _ s h
include h in
theorem exec_retransmitTimer (phys : Phys) (queue msgId offset : Nat) : exec (.retransmitTimer phys queue msgId offset) s = .next (s.afterWork phys (retransmitTimer phys queue msgId offset s.now)) := runAll_up _ _ s h
include h in
theorem exec_messageHorizon (phys : Phys) (queue msgId : Nat) : exec (.messageHorizon phys queue msgId) s = .next (s.afterWork phys (messageHorizon queue msgId s.now)) := runAll_up _ _ s h
include h in
theorem exec_waitTimeout (phys : Phys) (queue : Nat) : exec (.waitTimeout phys queue) s = .next (s.afterWork phys (waitTimeout queue s.now)) := runAll_up _ _ s h
include h in
theorem exec_waitTableRetry (phys : Phys) (queue : Nat) : exec (.waitTableRetry phys queue) s = .next (s.afterWork phys (waitTableRetry queue s.now)) := runAll_up _ _ s h
include h in
theorem exec_contextFetchDone (phys : Phys) (context : Bool) (index : Nat) : exec (.contextFetchDone phys context index) s = .next (s.afterWork phys (contextFetchDone phys context index s.now)) := runAll_up _ _ s h
include h in
theorem exec_replayEntryExpire (engine source queue msgId : Nat) : exec (.replayEntryExpire engine source queue msgId) s = .next (s.after (replayExpire engine source queue msgId s.now)) := run_up _ s h
include h in
theorem exec_replayCacheEcc (word : OrbEcc) (macroNo index : Nat) : exec (.replayCacheEcc word macroNo index) s = .next (s.after (replayCacheEcc word macroNo index s.now)) := run_up _ s h
include h in
theorem exec_replayWindowEnd (engine : Nat) : exec (.replayWindowEnd engine) s = .next (s.after (replayWindowEnd engine s.now)) := run_up _ s h
include h in
theorem exec_orbCreateQueue (phys : Phys) (ld : Nat) (args : List Nat) : exec (.orbCreateQueue phys ld args) s = .next (s.afterWork phys (viaLd ld (orbCommand phys ld 1 args) s.now)) := runAll_up _ _ s h
include h in
theorem exec_orbDestroyQueue (phys : Phys) (ld : Nat) (args : List Nat) : exec (.orbDestroyQueue phys ld args) s = .next (s.afterWork phys (viaLd ld (orbCommand phys ld 2 args) s.now)) := runAll_up _ _ s h
include h in
theorem exec_orbResumeQueue (phys : Phys) (ld : Nat) (args : List Nat) : exec (.orbResumeQueue phys ld args) s = .next (s.afterWork phys (viaLd ld (orbCommand phys ld 3 args) s.now)) := runAll_up _ _ s h
include h in
theorem exec_registerKey (phys : Phys) (ld : Nat) (args : List Nat) : exec (.registerKey phys ld args) s = .next (s.afterWork phys (viaLd ld (orbCommand phys ld 4 args) s.now)) := runAll_up _ _ s h
include h in
theorem exec_deregisterKey (phys : Phys) (ld : Nat) (args : List Nat) : exec (.deregisterKey phys ld args) s = .next (s.afterWork phys (viaLd ld (orbCommand phys ld 5 args) s.now)) := runAll_up _ _ s h
include h in
theorem exec_queryQueue (phys : Phys) (ld : Nat) (args : List Nat) : exec (.queryQueue phys ld args) s = .next (s.afterWork phys (viaLd ld (orbCommand phys ld 6 args) s.now)) := runAll_up _ _ s h
include h in
theorem exec_cphCreateQueue (phys : Phys) (ld : Nat) (args : List Nat) : exec (.cphCreateQueue phys ld args) s = .next (s.afterWork phys (viaLd ld (cphCommand phys ld 1 args) s.now)) := runAll_up _ _ s h
include h in
theorem exec_cphDestroyQueue (phys : Phys) (ld : Nat) (args : List Nat) : exec (.cphDestroyQueue phys ld args) s = .next (s.afterWork phys (viaLd ld (cphCommand phys ld 2 args) s.now)) := runAll_up _ _ s h
include h in
theorem exec_cphResumeQueue (phys : Phys) (ld : Nat) (args : List Nat) : exec (.cphResumeQueue phys ld args) s = .next (s.afterWork phys (viaLd ld (cphCommand phys ld 3 args) s.now)) := runAll_up _ _ s h
include h in
theorem exec_unwrapKey (phys : Phys) (ld : Nat) (args : List Nat) : exec (.unwrapKey phys ld args) s = .next (s.afterWork phys (viaLd ld (cphCommand phys ld 4 args) s.now)) := runAll_up _ _ s h
include h in
theorem exec_clearSlot (phys : Phys) (ld : Nat) (args : List Nat) : exec (.clearSlot phys ld args) s = .next (s.afterWork phys (viaLd ld (cphCommand phys ld 5 args) s.now)) := runAll_up _ _ s h
include h in
theorem exec_querySlot (phys : Phys) (ld : Nat) (args : List Nat) : exec (.querySlot phys ld args) s = .next (s.afterWork phys (viaLd ld (cphCommand phys ld 6 args) s.now)) := runAll_up _ _ s h
include h in
theorem exec_mgmtUnwrap (phys : Phys) (slot : Nat) : exec (.mgmtUnwrap phys slot) s = .next (s.afterWork phys (viaReg 0xA0008 (mgmtCph 1 slot) s.now)) := runAll_up _ _ s h
include h in
theorem exec_mgmtClearSlot (phys : Phys) (slot : Nat) : exec (.mgmtClearSlot phys slot) s = .next (s.afterWork phys (viaReg 0xA0008 (mgmtCph 2 slot) s.now)) := runAll_up _ _ s h
include h in
theorem exec_cphDoorbell (phys : Phys) (ld queue tail : Nat) : exec (.cphDoorbell phys ld queue tail) s = .next (s.afterWork phys (viaLd ld (cphDoorbell ld queue tail) s.now)) := runAll_up _ _ s h
include h in
theorem exec_cipherDescComplete (phys : Phys) (queue : Nat) : exec (.cipherDescComplete phys queue) s = .next (s.afterWork phys (cipherDescComplete phys queue s.now)) := runAll_up _ _ s h
include h in
theorem exec_verifyBufferFree (phys : Phys) (hemi : Nat) : exec (.verifyBufferFree phys hemi) s = .next (s.afterWork phys (verifyBufferFree phys hemi s.now)) := runAll_up _ _ s h
include h in
theorem exec_pageGo (ld : Nat) (ctrl : W64) : exec (.pageGo ld ctrl) s = .next (s.after (viaLd ld (pageGo ld ctrl) s.now)) := run_up _ s h
include h in
theorem exec_pageDone (ld : Nat) : exec (.pageDone ld) s = .next (s.after (pageDone ld s.now)) := run_up _ s h
include h in
theorem exec_slotStoreEcc (hemi slot : Nat) : exec (.slotStoreEcc hemi slot) s = .next (s.after (slotStoreEcc hemi slot s.now)) := run_up _ s h
include h in
theorem exec_wrapKey (transport : Nat) (session : Option Nat) (tag count addr : Nat) (header key : List Byte) : exec (.wrapKey transport session tag count addr header key) s = .next (s.after (wrapKey transport session tag count addr header key s.now)) := run_up _ s h
include h in
theorem exec_generateKey (transport : Nat) (session : Option Nat) (tag count addr : Nat) (header : List Byte) : exec (.generateKey transport session tag count addr header) s = .next (s.after (generateKey transport session tag count addr header s.now)) := run_up _ s h
include h in
theorem exec_installOwner (fuse : FuseRun) : exec (.installOwner fuse) s = .next (s.after (viaReg 0xB0100 (installOwner fuse) s.now)).blow := runFuse_up _ s h
include h in
theorem exec_aliasBind : exec (.aliasBind) s = .next (s.after (viaReg 0xB0100 aliasBind s.now)) := run_up _ s h
include h in
theorem exec_installAliasChain (arg : Nat) : exec (.installAliasChain arg) s = .next (s.after (viaReg 0xB0100 (installAliasChain arg) s.now)) := run_up _ s h
include h in
theorem exec_sealPart (fuse : FuseRun) : exec (.sealPart fuse) s = .next (s.after (viaReg 0xB0100 (lcsSeal fuse) s.now)).blow := runFuse_up _ s h
include h in
theorem exec_debugChallenge : exec (.debugChallenge) s = .next (s.after (viaReg 0xB0100 debugChallenge s.now)) := run_up _ s h
include h in
theorem exec_debugUnlock : exec (.debugUnlock) s = .next (s.after (viaReg 0xB0100 debugUnlock s.now)) := run_up _ s h
include h in
theorem exec_returnChallenge : exec (.returnChallenge) s = .next (s.after (viaReg 0xB0100 returnChallenge s.now)) := run_up _ s h
include h in
theorem exec_returnPart (arg : Nat) (fuse : FuseRun) : exec (.returnPart arg fuse) s = .next (s.after (viaReg 0xB0100 (lcsReturn arg fuse) s.now)).blow := runFuse_up _ s h
include h in
theorem exec_commitSvn (fuse : FuseRun) : exec (.commitSvn fuse) s = .next (s.after (viaReg 0xB0100 (commitSvn fuse) s.now)).blow := runFuse_up _ s h
include h in
theorem exec_tapProvision (chain : List Byte) : exec (.tapProvision chain) s = .next (s.after (tapProvision chain s.now)).blow := runFuse_up _ s h
include h in
theorem exec_tapInstruction (instruction : TapInstr) : exec (.tapInstruction instruction) s = .next (s.after (tapInstruction instruction s.now)) := run_up _ s h
include h in
theorem exec_getVersion (transport : Nat) : exec (.getVersion transport) s = .next (s.after (spdmVersion transport s.now)) := run_up _ s h
include h in
theorem exec_getCapabilities (transport version : Nat) : exec (.getCapabilities transport version) s = .next (s.after (spdmCapabilities transport version s.now)) := run_up _ s h
include h in
theorem exec_negotiateAlgorithms (transport : Nat) (offered : Bool) : exec (.negotiateAlgorithms transport offered) s = .next (s.after (spdmAlgorithms transport offered s.now)) := run_up _ s h
include h in
theorem exec_getDigests (transport : Nat) (session : Option Nat) : exec (.getDigests transport session) s = .next (s.after (spdmDigests transport session s.now)) := run_up _ s h
include h in
theorem exec_getCertificate (transport : Nat) (session : Option Nat) (slot offset length : Nat) : exec (.getCertificate transport session slot offset length) s = .next (s.after (spdmCertificate transport session slot offset length s.now)) := run_up _ s h
include h in
theorem exec_challenge (transport slot : Nat) (transcript : List Byte) : exec (.challenge transport slot transcript) s = .next (s.after (spdmChallenge transport slot transcript s.now)) := run_up _ s h
include h in
theorem exec_getMeasurements (transport : Nat) (session : Option Nat) (index : Nat) (signSlot : Option Nat) (transcript : List Byte) : exec (.getMeasurements transport session index signSlot transcript) s = .next (s.after (spdmMeasurements transport session index signSlot transcript s.now)) := run_up _ s h
include h in
theorem exec_keyExchange (transport slot : Nat) (transcript : List Byte) : exec (.keyExchange transport slot transcript) s = .next (s.after (spdmKeyExchange transport slot transcript s.now)) := run_up _ s h
include h in
theorem exec_finish (transport session : Nat) (root : Option (List Byte)) (ok : Bool) : exec (.finish transport session root ok) s = .next (s.after (spdmFinish transport session root ok s.now)) := run_up _ s h
include h in
theorem exec_spdmHeartbeat (transport session : Nat) : exec (.spdmHeartbeat transport session) s = .next (s.after (spdmHeartbeat transport session s.now)) := run_up _ s h
include h in
theorem exec_keyUpdate (transport session : Nat) : exec (.keyUpdate transport session) s = .next (s.after (spdmKeyUpdate transport session s.now)) := run_up _ s h
include h in
theorem exec_endSession (transport session : Nat) : exec (.endSession transport session) s = .next (s.after (spdmEnd transport session s.now)) := run_up _ s h
include h in
theorem exec_psqOn : exec (.psqOn) s = .next (s.after (viaReg 0xC0008 psqOn s.now)) := run_up _ s h
include h in
theorem exec_psqOff : exec (.psqOff) s = .next (s.after (viaReg 0xC0008 psqOff s.now)) := run_up _ s h
include h in
theorem exec_psqCycle : exec (.psqCycle) s = .next (s.after (viaReg 0xC0008 psqCycle s.now)) := run_up _ s h
include h in
theorem exec_dawnRetry : exec (.dawnRetry) s = .next (s.after (viaReg 0xC0008 psqDawnRetry s.now)) := run_up _ s h
include h in
theorem exec_sequencerPowerUp : exec (.sequencerPowerUp) s = .next (s.after (sequencerPowerUp s.now)) := run_up _ s h
include h in
theorem exec_seqPgRise (slot : Nat) : exec (.seqPgRise slot) s = .next (s.after (seqPgRise slot s.now)) := run_up _ s h
include h in
theorem exec_seqPgFall (slot : Nat) : exec (.seqPgFall slot) s = .next (s.after (seqPgFall slot s.now)) := run_up _ s h
include h in
theorem exec_pgTimeout (slot : Nat) : exec (.pgTimeout slot) s = .next (s.after (pgTimeout slot s.now)) := run_up _ s h
include h in
theorem exec_settleDone : exec (.settleDone) s = .next (s.after (settleDone s.now)) := run_up _ s h
include h in
theorem exec_dischargeTimeout (slot : Nat) : exec (.dischargeTimeout slot) s = .next (s.after (dischargeTimeout slot s.now)) := run_up _ s h
include h in
theorem exec_minOffEnd : exec (.minOffEnd) s = .next (s.after (minOffEnd s.now)) := run_up _ s h
include h in
theorem exec_dawnD0 (eflashOk : Bool) (fuse : FuseRun) : exec (.dawnD0 eflashOk fuse) s = .next (s.after (dawnD0 s.otp eflashOk fuse s.now)).blow := runFuse_up _ s h
include h in
theorem exec_dawnD2 (badA badB coresOk : Bool) : exec (.dawnD2 badA badB coresOk) s = .next (s.after (dawnD2 badA badB coresOk s.now)) := run_up _ s h
include h in
theorem exec_dawnD3 : exec (.dawnD3) s = .next (s.after (dawnD3 s.now)) := run_up _ s h
include h in
theorem exec_dawnD4 (found : SMap DimmFound) (dies : List DieFound) : exec (.dawnD4 found dies) s = .next (s.after (dawnD4 found dies s.now)) := run_up _ s h
include h in
theorem exec_dawnD5 (media : FlashMedia) (rate : Option Nat) : exec (.dawnD5 media rate) s = .next (s.after (dawnD5 media rate s.now)) := run_up _ s h
include h in
theorem exec_dawnD6 : exec (.dawnD6) s = .next (s.after (dawnD6 s.now)) := run_up _ s h
include h in
theorem exec_dawnD7 (phys : Phys) : exec (.dawnD7 phys) s = .next (s.afterWork phys (dawnD7 s.now)) := runAll_up _ _ s h
include h in
theorem exec_stageTimeout : exec (.stageTimeout) s = .next (s.after (stageTimeout s.now)) := run_up _ s h
include h in
theorem exec_sensorSample (samples : SMap Int) : exec (.sensorSample samples) s = .next (s.after (sensorSample samples s.now)) := run_up _ s h
include h in
theorem exec_throttleStep : exec (.throttleStep) s = .next (s.after (throttleStep s.now)) := run_up _ s h
include h in
theorem exec_hardTrip (sensor : Nat) (value : Int) : exec (.hardTrip sensor value) s = .next (s.after (hardTrip sensor value s.now)) := run_up _ s h
include h in
theorem exec_errorPinAssert (pin : Nat) (location : W64) : exec (.errorPinAssert pin location) s = .next (s.after (errorPinAssert pin location s.now)) := run_up _ s h
include h in
theorem exec_fltStatusClear (mask : BitVec 128) (asserted : List (Nat × W64)) : exec (.fltStatusClear mask asserted) s = .next (s.after (viaReg 0xE0000 (fltStatusClear mask asserted) s.now)) := run_up _ s h
include h in
theorem exec_fltFirstRearm : exec (.fltFirstRearm) s = .next (s.after (viaReg 0xE0010 fltFirstRearm s.now)) := run_up _ s h
include h in
theorem exec_logbookSecond : exec (.logbookSecond) s = .next (s.after (logbookSecond s.now)) := run_up _ s h
include h in
theorem exec_almanacSample (metric index : Nat) (value : Int) : exec (.almanacSample metric index value) s = .next (s.after (almanacSample metric index value s.now)) := run_up _ s h
include h in
theorem exec_almanacInterval (slot : Nat) : exec (.almanacInterval slot) s = .next (s.after (almanacInterval slot s.now)) := run_up _ s h
include h in
theorem exec_almanacHourly : exec (.almanacHourly) s = .next (s.after (almanacHourly s.now)) := run_up _ s h
include h in
theorem exec_freeze (on : Bool) : exec (.freeze on) s = .next (s.after (viaReg 0xF8000 (almFreeze on) s.now)) := run_up _ s h
include h in
theorem exec_freezeExpire : exec (.freezeExpire) s = .next (s.after (freezeExpire s.now)) := run_up _ s h
include h in
theorem exec_store : exec (.store) s = .next (s.after (viaReg 0xF8000 almStore s.now)) := run_up _ s h
include h in
theorem exec_clear : exec (.clear) s = .next (s.after (viaReg 0xF8000 almClear s.now)) := run_up _ s h
include h in
theorem exec_eflashProgramDone (phys : Phys) (ok : Bool) : exec (.eflashProgramDone phys ok) s = .next (s.afterWork phys (eflashProgramDone ok phys s.now)) := runAll_up _ _ s h
include h in
theorem exec_eflashEraseDone (us : Nat) (ok : Bool) : exec (.eflashEraseDone us ok) s = .next (s.after (eflashEraseDone us ok s.now)) := run_up _ s h
include h in
theorem exec_eflashSuspend : exec (.eflashSuspend) s = .next (s.after (eflashSuspend s.now)) := run_up _ s h
include h in
theorem exec_eflashResume : exec (.eflashResume) s = .next (s.after (eflashResume s.now)) := run_up _ s h
include h in
theorem exec_i3cDynamicAddress (port : Nat) (static : Option Nat) (addr : Nat) : exec (.i3cDynamicAddress port static addr) s = .next (s.after (i3cDynamicAddress port static addr s.now)) := run_up _ s h
include h in
theorem exec_mctpPacket (transport : Nat) (pecOk first last : Bool) (payload : List Byte) : exec (.mctpPacket transport pecOk first last payload) s = .next (s.after (mctpPacket transport pecOk first last payload s.now)) := run_up _ s h
include h in
theorem exec_setEndpointId (transport id : Nat) : exec (.setEndpointId transport id) s = .next (s.after (setEndpointId transport id s.now)) := run_up _ s h
include h in
theorem exec_setMtu (port size : Nat) : exec (.setMtu port size) s = .next (s.after (setMtu port size s.now)) := run_up _ s h
include h in
theorem exec_regRead (transport tag addr count : Nat) : exec (.regRead transport tag addr count) s = .next (s.after (regReadCmd transport tag addr count s.now)) := run_up _ s h
include h in
theorem exec_regWrite (env : RegEnv) (transport : Nat) (session : Option Nat) (tag addr count : Nat) (value : W64) : exec (.regWrite env transport session tag addr count value) s = .next (s.afterWork env.phys (regWriteCmd env transport session tag addr count value s.now)).blow := runFuseAll_up _ _ s h
include h in
theorem exec_logRead (transport tag addr count : Nat) (bad : List Nat) (corrected : Bool) : exec (.logRead transport tag addr count bad corrected) s = .next (s.after (logRead transport tag addr count bad corrected s.now)) := run_up _ s h
include h in
theorem exec_almRead (transport tag addr count : Nat) : exec (.almRead transport tag addr count) s = .next (s.after (almRead transport tag addr count s.now)) := run_up _ s h
include h in
theorem exec_vendorUnsupported (transport tag command count addr : Nat) : exec (.vendorUnsupported transport tag command count addr) s = .next (s.after (vendorUnsupported transport tag command count addr s.now)) := run_up _ s h
include h in
theorem exec_setEventReceiver (transport : Nat) (receiver : Option Nat) : exec (.setEventReceiver transport receiver) s = .next (s.after (setEventReceiver transport receiver s.now)) := run_up _ s h
include h in
theorem exec_getSensorReading (transport sensor : Nat) : exec (.getSensorReading transport sensor) s = .next (s.after (getSensorReading transport sensor s.now)) := run_up _ s h
include h in
theorem exec_getPdr (transport handle : Nat) : exec (.getPdr transport handle) s = .next (s.after (getPdr transport handle s.now)) := run_up _ s h
include h in
theorem exec_getFruRecordTable (transport : Nat) : exec (.getFruRecordTable transport) s = .next (s.after (getFru transport s.now)) := run_up _ s h
include h in
theorem exec_pldmBase (transport command arg : Nat) : exec (.pldmBase transport command arg) s = .next (s.after (pldmBase transport command arg s.now)) := run_up _ s h
include h in
theorem exec_requestUpdate (transport : Nat) (session : Option Nat) (fits : Bool) : exec (.requestUpdate transport session fits) s = .next (s.after (requestUpdate transport session fits s.now)) := run_up _ s h
include h in
theorem exec_passComponentTable (transport : Nat) (session : Option Nat) (fits : Bool) : exec (.passComponentTable transport session fits) s = .next (s.after (passComponentTable transport session fits s.now)) := run_up _ s h
include h in
theorem exec_updateComponent (transport : Nat) (session : Option Nat) (size : Nat) (fits : Bool) : exec (.updateComponent transport session size fits) s = .next (s.after (updateComponent transport session size fits s.now)) := run_up _ s h
include h in
theorem exec_firmwareData (block : List Byte) : exec (.firmwareData block) s = .next (s.after (firmwareData block s.now)) := run_up _ s h
include h in
theorem exec_verifyComplete (transport : Nat) (unreadable : Bool) : exec (.verifyComplete transport unreadable) s = .next (s.after (verifyComplete transport unreadable s.now)) := run_up _ s h
include h in
theorem exec_activateFirmware (transport : Nat) (session : Option Nat) : exec (.activateFirmware transport session) s = .next (s.after (activateFirmware transport session s.now)) := run_up _ s h
include h in
theorem exec_cancelUpdate (transport : Nat) (session : Option Nat) : exec (.cancelUpdate transport session) s = .next (s.after (cancelUpdate transport session s.now)) := run_up _ s h
include h in
theorem exec_updateAgentTimeout : exec (.updateAgentTimeout) s = .next (s.after (updateAgentTimeout s.now)) := run_up _ s h
include h in
theorem exec_ethPortDown (port : Nat) : exec (.ethPortDown port) s = .next (s.after (ethPortDown port s.now)) := run_up _ s h
include h in
theorem exec_autoNegotiationTimeout (port : Nat) : exec (.autoNegotiationTimeout port) s = .next (s.after (autoNegTimeout port s.now)) := run_up _ s h
include h in
theorem exec_arbSymbolLock : exec (.arbSymbolLock) s = .next (s.after (arbLock true s.now)) := run_up _ s h
include h in
theorem exec_arbSymbolLockLoss : exec (.arbSymbolLockLoss) s = .next (s.after (arbLock false s.now)) := run_up _ s h
include h in
theorem exec_handOverDeadline (phys : Phys) : exec (.handOverDeadline phys) s = .next (s.afterWork phys (handOverDeadline phys s.now)) := runAll_up _ _ s h
include h in
theorem exec_twinAnswerTimeout (phys : Phys) (line half : Nat) : exec (.twinAnswerTimeout phys line half) s = .next (s.afterWork phys (twinAnswerTimeout phys line half s.now)) := runAll_up _ _ s h

end Sys2Proof.Machine
end

