-- ==== Sys2Proof/Laws/Maps.lean ====
section
/-!
SUPPORT. Laws of the sparse table: what a read sees after each operation, and that every operation keeps the canonical form.
-/
namespace Sys2Proof.Machine.SMap

variable {α : Type}

/-- Every listed key is above `lo`. -/
def above (lo : Nat) (m : SMap α) : Prop := ∀ e ∈ m, lo < e.1

theorem sortedFrom_some_iff (lo : Nat) (m : SMap α) : sortedFrom (some lo) m = true ↔ above lo m ∧ wf m = true := by
  induction m generalizing lo with
  | nil => simp [sortedFrom, above, wf]
  | cons e m ih =>
    obtain ⟨k, v⟩ := e
    simp only [sortedFrom, wf, Bool.and_eq_true, decide_eq_true_eq]
    constructor
    · rintro ⟨h, hs⟩
      refine ⟨?_, hs⟩
      intro e he
      rcases List.mem_cons.1 he with rfl | he
      · exact h
      · exact Nat.lt_trans h (((ih k).1 hs).1 e he)
    · rintro ⟨h, hs⟩
      exact ⟨h (k, v) (by simp), hs⟩

theorem wf_cons (k : Nat) (v : α) (m : SMap α) : wf ((k, v) :: m) = true ↔ above k m ∧ wf m = true := by
  rw [← sortedFrom_some_iff]; rfl

theorem wf_nil : wf ([] : SMap α) = true := rfl

theorem above_insert {lo k : Nat} {v : α} {m : SMap α} (h : above lo m) (hk : lo < k) : above lo (insert m k v) := by
  induction m with
  | nil => intro e he; simp only [insert, List.mem_singleton] at he; subst he; exact hk
  | cons e m ih =>
    obtain ⟨j, w⟩ := e
    have hj : lo < j := h (j, w) (by simp)
    have hm : above lo m := fun e he => h e (by simp [he])
    intro e he
    simp only [insert] at he
    split at he
    · rcases List.mem_cons.1 he with rfl | he
      · exact hk
      · exact h e he
    · split at he
      · rcases List.mem_cons.1 he with rfl | he
        · exact hk
        · exact hm e he
      · rcases List.mem_cons.1 he with rfl | he
        · exact hj
        · exact ih hm e he

theorem wf_insert {m : SMap α} (h : wf m = true) (k : Nat) (v : α) : wf (insert m k v) = true := by
  induction m with
  | nil => rfl
  | cons e m ih =>
    obtain ⟨j, w⟩ := e
    obtain ⟨ha, hm⟩ := (wf_cons j w m).1 h
    simp only [insert]
    split
    · rename_i hk
      refine (wf_cons k v _).2 ⟨?_, h⟩
      intro e he
      rcases List.mem_cons.1 he with rfl | he
      · exact hk
      · exact Nat.lt_trans hk (ha e he)
    · split
      · rename_i hk; subst hk; exact (wf_cons _ v m).2 ⟨ha, hm⟩
      · exact (wf_cons j w _).2 ⟨above_insert ha (by omega), ih hm⟩

theorem above_sub {lo : Nat} {m m' : SMap α} (h : above lo m) (hs : ∀ e ∈ m', e ∈ m) : above lo m' := fun e he => h e (hs e he)

theorem mem_erase {m : SMap α} {k : Nat} {e : Nat × α} (he : e ∈ erase m k) : e ∈ m := (List.mem_filter.1 he).1

theorem wf_filter {m : SMap α} (h : wf m = true) (p : Nat × α → Bool) : wf (m.filter p) = true := by
  induction m with
  | nil => rfl
  | cons e m ih =>
    obtain ⟨j, w⟩ := e
    obtain ⟨ha, hm⟩ := (wf_cons j w m).1 h
    simp only [List.filter]
    split
    · exact (wf_cons j w _).2 ⟨above_sub ha (fun e he => (List.mem_filter.1 he).1), ih hm⟩
    · exact ih hm

theorem wf_erase {m : SMap α} (h : wf m = true) (k : Nat) : wf (erase m k) = true := wf_filter h _

theorem wf_keep {m : SMap α} (h : wf m = true) (p : Nat → α → Bool) : wf (keep m p) = true := wf_filter h _

@[simp] theorem find?_insert_same (m : SMap α) (k : Nat) (v : α) : find? (insert m k v) k = some v := by
  induction m with
  | nil => simp [insert, find?]
  | cons e m ih =>
    obtain ⟨j, w⟩ := e
    simp only [insert]
    split
    · simp [find?]
    · split
      · simp [find?]
      · rename_i h1 h2
        simp only [find?, if_neg (by omega : ¬ j = k), ih]

theorem find?_insert_other (m : SMap α) {k k' : Nat} (v : α) (h : k' ≠ k) : find? (insert m k v) k' = find? m k' := by
  induction m with
  | nil => simp only [insert, find?, if_neg (Ne.symm h)]
  | cons e m ih =>
    obtain ⟨j, w⟩ := e
    simp only [insert]
    split
    · simp only [find?, if_neg (Ne.symm h)]
    · split
      · rename_i hk; subst hk; simp only [find?, if_neg (Ne.symm h)]
      · simp only [find?, ih]

theorem find?_erase_other (m : SMap α) {k k' : Nat} (h : k' ≠ k) : find? (erase m k) k' = find? m k' := by
  induction m with
  | nil => rfl
  | cons e m ih =>
    obtain ⟨j, w⟩ := e
    have ih : find? (List.filter (fun e => decide (e.1 ≠ k)) m) k' = find? m k' := ih
    simp only [erase, List.filter]
    split
    · simp only [find?, ih]
    · rename_i hj
      have hj : j = k := by simpa using hj
      subst hj; simp only [find?, if_neg (Ne.symm h), ih]

@[simp] theorem find?_erase_same (m : SMap α) (k : Nat) : find? (erase m k) k = none := by
  induction m with
  | nil => rfl
  | cons e m ih =>
    obtain ⟨j, w⟩ := e
    have ih : find? (List.filter (fun e => decide (e.1 ≠ k)) m) k = none := ih
    simp only [erase, List.filter]
    split
    · rename_i hj
      have hj : ¬ j = k := by simpa using hj
      simp only [find?, if_neg hj, ih]
    · exact ih

theorem mem_insert {m : SMap α} {k : Nat} {v : α} {e : Nat × α} (he : e ∈ insert m k v) : e = (k, v) ∨ e ∈ m := by
  induction m with
  | nil => simp only [insert, List.mem_singleton] at he; exact .inl he
  | cons f m ih =>
    obtain ⟨j, w⟩ := f
    simp only [insert] at he
    split at he
    · rcases List.mem_cons.1 he with rfl | he
      · exact .inl rfl
      · exact .inr he
    · split at he
      · rcases List.mem_cons.1 he with rfl | he
        · exact .inl rfl
        · exact .inr (List.mem_cons_of_mem _ he)
      · rcases List.mem_cons.1 he with rfl | he
        · exact .inr List.mem_cons_self
        · rcases ih he with h | h
          · exact .inl h
          · exact .inr (List.mem_cons_of_mem _ h)

variable [DecidableEq α]

/-- A read after a write of the same key. -/
@[simp] theorem get_put_same (d : α) (m : SMap α) (k : Nat) (v : α) : get d (put d m k v) k = v := by
  unfold put get
  split
  · rename_i h; subst h; simp [find?_erase_same]
  · simp [find?_insert_same]

/-- A write leaves every other key alone. -/
theorem get_put_other (d : α) (m : SMap α) {k k' : Nat} (v : α) (h : k' ≠ k) : get d (put d m k v) k' = get d m k' := by
  unfold put get
  split
  · simp [find?_erase_other _ h]
  · simp [find?_insert_other _ _ h]

theorem wfd_wf {d : Nat → α} {m : SMap α} (h : wfd d m = true) : wf m = true := by
  simp only [wfd, Bool.and_eq_true] at h; exact h.1

theorem wfd_iff (d : Nat → α) (m : SMap α) : wfd d m = true ↔ wf m = true ∧ ∀ e ∈ m, e.2 ≠ d e.1 := by
  simp [wfd, List.all_eq_true]

/-- Storing keeps the canonical form. -/
theorem wfd_put {d : Nat → α} {m : SMap α} (h : wfd d m = true) (k : Nat) (v : α) : wfd d (put (d k) m k v) = true := by
  obtain ⟨hw, hd⟩ := (wfd_iff d m).1 h
  unfold put
  split
  · exact (wfd_iff _ _).2 ⟨wf_erase hw k, fun e he => hd e (mem_erase he)⟩
  · rename_i hv
    refine (wfd_iff _ _).2 ⟨wf_insert hw k v, fun e he => ?_⟩
    rcases mem_insert he with rfl | he
    · exact hv
    · exact hd e he

/-- Dropping entries keeps the canonical form. -/
theorem wfd_keep {d : Nat → α} {m : SMap α} (h : wfd d m = true) (p : Nat → α → Bool) : wfd d (keep m p) = true := by
  obtain ⟨hw, hd⟩ := (wfd_iff d m).1 h
  exact (wfd_iff _ _).2 ⟨wf_keep hw p, fun e he => hd e (List.mem_filter.1 he).1⟩

/-- A read after a change of one value. -/
@[simp] theorem get_upd_same (d : α) (m : SMap α) (k : Nat) (f : α → α) : get d (upd d m k f) k = f (get d m k) := get_put_same d m k _

theorem get_upd_other (d : α) (m : SMap α) {k k' : Nat} (f : α → α) (h : k' ≠ k) : get d (upd d m k f) k' = get d m k' :=
  get_put_other d m _ h

end Sys2Proof.Machine.SMap
end

