-- ==== Sys2Proof/Laws/Memory.lean ====
section
/-!
SUPPORT. Near DRAM: what each operation that stores or drops lines does to the table, and that it keeps the canonical form.
-/
namespace Sys2Proof.Machine
open Sys2Proof

/-- DRAM lists nothing after reset. -/
theorem reset_memory_wf : Memory.wf State.reset.blk.dram = true := by decide

/-- A line stored on a channel that is not frozen. -/
theorem putLine_lines (l : Nat) (d : DramLine) {b : Blk} (h : b.frozenLine l = false) :
    (putLine l d b).dram.lines = SMap.put (b.dram.filled l) b.dram.lines l d := by simp [putLine, h]

/-- A line queued on a frozen channel leaves DRAM as it is (R160). -/
theorem putLine_frozen (l : Nat) (d : DramLine) {b : Blk} (h : b.frozenLine l = true) : (putLine l d b).dram.lines = b.dram.lines := by
  simp [putLine, h, modChan]

/-- Storing a line fills nothing. -/
@[simp] theorem putLine_fills (l : Nat) (d : DramLine) (b : Blk) : (putLine l d b).dram.fills = b.dram.fills := by
  unfold putLine; split <;> rfl

/-- The canonical form of a DRAM whose fills have not changed. -/
theorem Memory.wf_of {d e : Dram} (hf : e.fills = d.fills) (h : SMap.wfd d.filled e.lines = true) : Memory.wf e = true := by
  have : e.filled = d.filled := by funext l; simp only [Dram.filled, hf]
  rw [Memory.wf, this]; exact h

/-- A line stored as it is. -/
theorem Memory.wf_put (l : Nat) (x : DramLine) {d : Dram} (h : Memory.wf d = true) : Memory.wf { d with lines := SMap.put (d.filled l) d.lines l x } = true :=
  Memory.wf_of (d := d) rfl (SMap.wfd_put h l x)

theorem putLine_wf (l : Nat) (d : DramLine) {b : Blk} (h : Memory.wf b.dram = true) : Memory.wf (putLine l d b).dram = true := by
  refine Memory.wf_of (putLine_fills l d b) ?_
  cases hf : b.frozenLine l with
  | true => rw [putLine_frozen l d hf]; exact h
  | false => rw [putLine_lines l d hf]; exact SMap.wfd_put h l d

@[simp] theorem useSlot_dram (n u : Nat) (i : Bool) (b : Blk) : (useSlot n u i b).dram = b.dram := by
  unfold useSlot; dsimp only; (repeat' split) <;> simp

/-- A write of a line stores it as `putLine` does; the use count of its key slot changes nothing of DRAM. -/
theorem writeLine_dram (l : Nat) (data : Line) (poison : Bool) (stamp : Nat) (b : Blk) :
    (writeLine l data poison stamp b).dram = (putLine l (b.lineFor l data poison stamp) b).dram := by simp [writeLine]

theorem writeLine_wf (l : Nat) (data : Line) (poison : Bool) (stamp : Nat) {b : Blk} (h : Memory.wf b.dram = true) :
    Memory.wf (writeLine l data poison stamp b).dram = true := by rw [writeLine_dram]; exact putLine_wf l _ h

/-- The lines of a page, and no others, leave the table when the page is dropped. -/
theorem dropPageLines_lines (p : Nat) (b : Blk) : (dropPageLines p b).dram.lines = SMap.keep b.dram.lines (fun l _ => l / 32 != p) := rfl

theorem dropPageLines_wf (p : Nat) {b : Blk} (h : Memory.wf b.dram = true) : Memory.wf (dropPageLines p b).dram = true := by
  refine Memory.wf_of (d := b.dram) rfl ?_
  rw [dropPageLines_lines]; exact SMap.wfd_keep h _

/-- Lost contents of DIMMs whose rails fall (R384): with none retained the fills are gone too, and no line is left. -/
theorem dropDram_wf (retained : Nat) {b : Blk} (h : Memory.wf b.dram = true) : Memory.wf (dropDram retained b).dram = true := by
  by_cases hr : retained = 0
  · subst hr
    have hk : SMap.keep b.dram.lines (fun l _ => (0 : Nat).testBit (2 * b.chanNo l + (b.geo l).dimm)) = [] := by simp [SMap.keep]
    have hl : (dropDram 0 b).dram.lines = [] := hk
    rw [Memory.wf, hl]; rfl
  · have hl : (dropDram retained b).dram.lines = SMap.keep b.dram.lines (fun l _ => retained.testBit (2 * b.chanNo l + (b.geo l).dimm)) := rfl
    refine Memory.wf_of (d := b.dram) (by simp [dropDram, hr]) ?_
    rw [hl]; exact SMap.wfd_keep h _

/-- A property that each element of a list keeps holds at the end of a fold over it. -/
theorem foldl_keeps {α β : Type} (P : α → Prop) (f : α → β → α) (l : List β) (hf : ∀ a, ∀ x ∈ l, P a → P (f a x)) {a : α} (h : P a) :
    P (l.foldl f a) := by
  induction l generalizing a with
  | nil => exact h
  | cons x l ih => exact ih (fun a y hy => hf a y (List.mem_cons_of_mem _ hy)) (hf a x List.mem_cons_self h)

/-- Lines that a system reset would lose are written poisoned. -/
theorem poisonFrozen_wf {b : Blk} (h : Memory.wf b.dram = true) : Memory.wf (poisonFrozen b).dram = true := by
  refine foldl_keeps (fun (b : Blk) => Memory.wf b.dram = true) _ _ ?_ h
  intro b l _ hb
  exact Memory.wf_put l _ hb

/-- Lines of a slot area that moves keep the form. -/
theorem moveWindows_wf (old new : List (WindowCfg × Nat)) {b : Blk} (h : Memory.wf b.dram = true) :
    Memory.wf (moveWindows old new b).dram = true := by
  refine Memory.wf_of (d := b.dram) rfl ?_
  refine foldl_keeps (fun m => SMap.wfd b.dram.filled m = true) _ _ (fun m e _ hm => ?_) (SMap.wfd_keep h _)
  dsimp only
  split
  · exact SMap.wfd_put hm _ _
  · exact hm

end Sys2Proof.Machine
end

