-- ==== Sys2Proof/Laws/Twin.lean ====
section
/-!
SUPPORT. What happens to a message of the twin on its way in: it arrives and acts, its frame fails and is asked for again, or the Dusk lets it act
without a half-link.
-/
namespace Sys2Proof.Machine
open Sys2Proof

/-- A message that arrives acts on the block that its frames have left. -/
theorem viaFrame_arrives (m : TwinMsg) (act : Blk → Blk) {phys : Phys} {b : Blk} (h : b.arrives phys m = true) : viaFrame phys m act b = act (b.arrived m) := by
  simp only [Blk.arrives, Blk.twinTakes, Blk.bringer, Bool.and_eq_true, Bool.not_eq_true'] at h
  simp [viaFrame, h.1.2, h.1.1.1.2, h.2, Blk.arrived, Blk.bringer]

/-- A message whose frame fails is asked for again and does not act. -/
theorem viaFrame_garbled (m : TwinMsg) (act : Blk → Blk) {phys : Phys} {b : Blk} (h : b.garbled phys m = true) : viaFrame phys m act b = b.nakked m := by
  simp only [Blk.garbled, Blk.bringer, Bool.and_eq_true, Bool.not_eq_true'] at h
  simp [viaFrame, h.1.1, h.1.2, h.2, Blk.nakked, Blk.bringer]

/-- From the Dusk trigger no frame is looked at. -/
theorem viaFrame_dusk (phys : Phys) (m : TwinMsg) (act : Blk → Blk) {b : Blk} (h : b.inDusk = true) : viaFrame phys m act b = act b := by
  simp [viaFrame, h]

/-- Without its half-link no frame is looked at. -/
theorem viaFrame_down (phys : Phys) (m : TwinMsg) (act : Blk → Blk) {b : Blk} (h : b.linkUp (b.bringer m) = false) : viaFrame phys m act b = act b := by
  simp only [Blk.bringer] at h
  simp [viaFrame, h]

/-- A failed frame sends one NAK. -/
@[simp] theorem nakked_out (b : Blk) (m : TwinMsg) : (b.nakked m).out = (countUncoded b).out ++ [.crnNak (b.bringer m) (b.link (b.bringer m)).recvSeq] := rfl

end Sys2Proof.Machine
end

