-- ==== Sys2Proof/Machine/LdView.lean ====
section
/-!
DEFINITION. What the registers of a logical device's window read (Tables 3-10, 4-8, 9-6, 9-10 to 9-12, 11-14, 11-15, 12-10, 12-14 and
19-2). The table of commands has no row for a plain read of a window, so no meaning uses this view; it says what host software sees.
-/
namespace Sys2Proof.Machine
open Sys2Proof

/-- HP_LD_ID (Table 4-8). -/
def Blk.ldId (b : Blk) (n : Nat) : W64 := view [place n 6 0, placeBit b.cht.isB 6]

/-- HP_LD_STATUS with the hold of the Dusk trigger and of an Eclipse (R112). -/
def Blk.ldStatusRead (b : Blk) (n : Nat) : W64 :=
  match (b.ld n).heldWin with
  | some w => w.status
  | none => b.ldStatus n

/-- The epoch status block with its hold (R83). -/
def Blk.epochBlockRead (b : Blk) (n : Nat) : List W64 :=
  match (b.ld n).heldWin with
  | some w => w.epoch
  | none => b.epochBlock

/-- A slot state word (Table 9-6). -/
def TrnSlot.word (x : TrnSlot) : W64 :=
  view [place x.state.code 3 0, placeBit x.late 3, placeBit x.poison 4, place x.desc 12 8, place x.layerTag 16 20, place x.fillNo 24 40]

/-- A 64-bit word of the i-th Transit window's area (R256, Tables 9-5, 9-6, 9-10 and 9-11); none where the area has no register. -/
def Blk.trnArea (b : Blk) (n i o : Nat) : Option W64 :=
  match b.ownWindow n i with
  | none => none
  | some c =>
    let x := b.window c.window
    let start := ((b.myWindows.find? (fun w => w.1.window = c.window)).map (·.2)).getD 0
    if o = 0 then some (view [place x.listLen 13 12])
    else if o = 8 then some (view [place x.state.code 2 0, place (x.nextFill % x.listLen) 12 2, place x.nextFill 32 14])
    else if o = 0x10 then some 0
    else if o = 0x18 then some (view [place c.slots 7 0, place c.slotMib 13 7, place c.window 8 20, placeBit c.loop 28])
    else if o = 0x20 then some (view [place (aliasBase + start) 48 0])
    else if 0x1000 ≤ o ∧ o < 0x1000 + 8 * c.slots then some (SMap.get TrnSlot.fresh x.slots ((o - 0x1000) / 8)).word
    else if 0x20000 ≤ o then
      let d := SMap.get TrnDesc.zero x.descs ((o - 0x20000) / 32)
      some (BitVec.ofNat 64 (match o % 32 / 8 with | 0 => d.src | 1 => d.word1 | 2 => d.due | _ => d.word3))
    else none

/-- TRN_LD_STAGE_STATUS (Table 9-12). -/
def StageCtl.word (c : StageCtl) : W64 :=
  view [place c.result 3 0, place c.pagesDone 13 3, placeBit c.evict 16, place c.filling.length 13 17]

/-- Eight bytes of a buffer that lists the bytes that are not zero. -/
def bufWord (m : SMap Byte) (at' : Nat) : W64 :=
  (List.range 8).foldl (fun (w : W64) i => w ||| ((SMap.get 0 m (at' + i)).setWidth 64 <<< (8 * i))) 0

/-- A 64-bit word of the register page (Table 12-10); none where no page or register is. -/
def Blk.pageWord (b : Blk) (n o : Nat) : Option W64 :=
  let p := b.page n
  if !b.cht.cur.cipher.pages then none
  else if o = 0 then some (view [place p.op 3 1, place p.slot 13 4, place p.length 15 17, place p.aadLen 13 32])
  else if o = 8 then some (view [place p.state.code 2 0, place p.status 4 2])
  else if o = 0x10 then some p.iv0
  else if o = 0x18 then some p.iv1
  else if o = 0x20 then some p.tag0
  else if o = 0x28 then some p.tag1
  else if 0x1000 ≤ o ∧ o < 0x2000 then some (bufWord p.aad (o - 0x1000))
  else if 0x4000 ≤ o ∧ o < 0x8000 then some (bufWord p.data (o - 0x4000))
  else none

/-- A word of the MSI-X area: the table of 256 entries of 16 bytes at its start, the pending-bit array at +0x8000 (R111; the places are assumption 133,
PRESUMED); the rest reads 0. -/
def Blk.msixWord (b : Blk) (n o : Nat) : W64 :=
  let l := b.ld n
  if o < 0x1000 then
    let e := SMap.get (0, 0, true) l.msix (o / 16)
    if o % 16 = 0 then BitVec.ofNat 64 e.1 else view [place e.2.1 32 0, placeBit e.2.2 32]
  else if 0x8000 ≤ o ∧ o < 0x8020 then view ((List.range 64).map (fun k => placeBit (l.pba.contains ((o - 0x8000) * 8 + k)) k))
  else 0

/-- The 64-bit word at an 8-byte aligned offset of the part of the window that this manual defines; none where an access is a violation. -/
def Blk.ldWord (b : Blk) (n off : Nat) : Option W64 :=
  if off < 0x20000 then some (Config.cxlWord n (off / 8))
  else if off < 0x30000 then some (b.msixWord n (off - 0x20000))
  else if off = 0x30000 then some (b.ldId n)
  else if off = 0x30008 then some (b.ldStatusRead n)
  else if 0x31000 ≤ off ∧ off < 0x31028 then (b.epochBlockRead n)[(off - 0x31000) / 8]?
  else if off = 0x100000 then some 0
  else if off = 0x100008 then let c := b.orbCmd n; some (view [place c.state 2 0, place c.reason 4 8, place c.lastOp 4 12])
  else if 0x100010 ≤ off ∧ off < 0x100040 then some (SMap.get 0 (b.orbCmd n).args ((off - 0x100010) / 8))
  else if 0x1100000 ≤ off ∧ off < 0x2100000 then some 0
  else if 0x2100000 ≤ off ∧ off < 0x2500000 then b.trnArea n ((off - 0x2100000) / 0x40000) ((off - 0x2100000) % 0x40000)
  else if off = 0x2500000 ∨ off = 0x2500008 then some 0
  else if off = 0x2500010 then some (b.stageCtl n).word
  else if off = 0x2900000 then some 0
  else if off = 0x2900008 then
    let c := b.cphCmd n; some (view [place c.state 2 0, place c.reason 4 4, place c.unwrap 8 8, place c.lastOp 4 16])
  else if 0x2900010 ≤ off ∧ off < 0x2900030 then some (SMap.get 0 (b.cphCmd n).args ((off - 0x2900010) / 8))
  else if 0x2901000 ≤ off ∧ off < 0x2901400 then some 0
  else if 0x2A00000 ≤ off ∧ off < 0x2A10000 then b.pageWord n (off - 0x2A00000)
  else none

/-- Is the aligned 4- or 8-byte read one that the window allows (R112)? -/
def Blk.ldAllowed (b : Blk) (n off size : Nat) : Bool :=
  (size == 4 || size == 8) && off % size == 0 && (b.ldWord n (off / 8 * 8)).isSome

/-- What a read of a logical device's window answers in the areas that this manual defines, always of this unit (R262): all ones where the access is not allowed (R112), and
Reset values while a reset of the port or of the logical device is under way (R479; LIST_LEN resets to 1). See assumption 66 (DESIGN CHOICE). -/
def Blk.ldRead (b : Blk) (n off size : Nat) : W64 :=
  if !b.ldAllowed n off size then ones64 >>> (64 - 8 * size)
  else
    let off8 := off / 8 * 8
    let inReset := (b.ld n).resetting || (b.port (n / 16)).inReset || b.pwr.sysRst
    let w :=
      if inReset then (if 0x2100000 ≤ off8 ∧ off8 < 0x2500000 ∧ (off8 - 0x2100000) % 0x40000 = 0 then 0x1000 else 0)
      else (b.ldWord n off8).getD 0
    if size = 8 then w else (w >>> (8 * (off % 8))) &&& 0xFFFFFFFF

end Sys2Proof.Machine
end

