-- ==== Sys2Proof/Machine/TwinForm.lean ====
section
/-!
DEFINITION. The bytes of what the block sends to its twin and to the arbiter: messages (Tables 10-2, 10-3), frames (Table 10-1) and arbiter
messages (Table 10-4). Every field is sent most significant byte first (R5, R265, R277).
-/
namespace Sys2Proof.Machine
open Sys2Proof

/-! ### Messages (R267) -/

/-- A 24-byte message header (Table 10-2). -/
def msgHeader (op : Nat) (poison : Bool) (len tag addr aux : Nat) : List Byte :=
  natBe 1 op ++ natBe 1 (if poison then 1 else 0) ++ natBe 2 len ++ natBe 4 tag ++ natBe 8 addr ++ natBe 8 aux

/-- What a CONTROL message carries, as numbers: subtype and contents. -/
def TwinMsg.control : TwinMsg → Nat × List Nat
  | .state roles sealedEpoch copies stale => (1, [roles, sealedEpoch.getD ones64.toNat, if stale then 1 else 0] ++ copies)
  | .switchEpoch e => (2, [e])
  | .chartConfirm d => (3, [d.toNat])
  | _ => (0, [])

/-- A snoop-filter entry as numbers: 0 for none, 1 and its holders, 2 for a coarse one with those removed since. -/
def holdersNo : Option Holders → List Nat
  | none => [0]
  | some (.exact ls) => 1 :: ls
  | some (.coarse gone) => 2 :: gone

/-- First byte's DPA of a shipped page, by its key. -/
def Blk.shipDpa (b : Blk) (key : Nat) : Nat := if 2 ^ 36 ≤ key then b.farDpa (key - 2 ^ 36) else b.pageDpa key

/-- The bytes of a message: header and payload (Table 10-3). A COLD page's lines travel as DRAM holds them, as its units do (R191). -/
def Blk.msgBytes (b : Blk) (m : TwinMsg) : List Byte :=
  match m with
  | .mirrorWrite t a d p e => msgHeader 0x01 p 64 t a e ++ bitsBytes 64 d
  | .mirrorAck t => msgHeader 0x02 false 0 t 0 0
  | .fwdRead t dpa ld => msgHeader 0x03 false 0 t dpa ld
  | .fwdWrite t dpa ld d p => msgHeader 0x04 p 64 t dpa ld ++ bitsBytes 64 d
  | .fwdData t d p => msgHeader 0x05 p 64 t 0 0 ++ bitsBytes 64 d
  | .fwdDone t => msgHeader 0x06 false 0 t 0 0
  | .coldPage k e ls =>
    msgHeader 0x07 (ls.any (fun x => x.2.poison)) 4096 0 (if 2 ^ 36 ≤ k then 2 ^ 63 + (k - 2 ^ 36) else k * 4096) e ++
      (List.range 32).flatMap (fun j => bitsBytes 128 ((SMap.get DramLine.zero ls j).stored (b.shipDpa k + 128 * j)))
  | .coldEnd n e => msgHeader 0x08 false 0 0 n e
  | .coldAck e => msgHeader 0x09 false 0 0 0 e
  | .syncDigest p d s => msgHeader 0x0A false 8 0 (p * 4096) d ++ natBe 8 s
  | .syncPage p s ls => msgHeader 0x0B (ls.any (fun x => x.2)) 4096 0 (p * 4096) s ++ ls.flatMap (fun x => bitsBytes 128 x.1)
  | .syncMatch p send => msgHeader 0x0C false 0 0 (p * 4096) (if send then 1 else 0)
  | .sfUpdate g w => msgHeader 0x0D false 0 0 (g * 128) (Config.sfEntry (holdersNo w))
  | m =>
    let c := m.control
    let x := (Config.controlBytes c.1 c.2).take 64
    msgHeader 0x0E false x.length 0 (Config.controlAddr c.1 c.2) c.1 ++ x

/-! ### Frames (R265) -/

/-- Bytes 0x000 to 0x00F of a frame (Table 10-1). -/
def frameHeader (kind channel used seq : Nat) (cont phase : Bool) : List Byte :=
  natBe 1 kind ++ natBe 1 channel ++ natBe 2 used ++ natBe 8 seq ++ natBe 1 ((if cont then 1 else 0) + (if phase then 2 else 0)) ++ natBe 3 0

/-- A protected frame of half-link `l`: header, payload and TAG under the key this unit sends with; the nonce is the half-link's number and SEQ. -/
def Blk.protect (b : Blk) (l seq : Nat) (phase : Bool) (header payload : List Byte) : List Byte :=
  let key := (b.slot (4 * l + if phase then 1 else 0)).key
  let iv := leNat (natBe 4 l ++ natBe 8 seq)
  let ct := Config.gcmCrypt key iv ((payload ++ List.replicate 480 0).take 480)
  header ++ ct ++ natBe 16 (Config.gcmTag key iv header ct)

/-- The 512 bytes of a DATA frame. -/
def Blk.frameBytes (b : Blk) (l : Nat) (f : CrnFrame) : List Byte :=
  let p := ((b.msgBytes f.msg).drop (480 * f.part)).take 480
  b.protect l f.seq f.phase (frameHeader 1 f.msg.channel p.length f.seq (f.part != 0) f.phase) p

/-- The 512 bytes of an ACK or NAK frame for a SEQ. -/
def Blk.answerFrame (b : Blk) (l : Nat) (nak : Bool) (seq : Nat) : List Byte :=
  let ph := (b.link l).keyPhase
  b.protect l seq ph (frameHeader (if nak then 3 else 2) 0 0 seq false ph) []

/-- The 512 bytes of a TRAIN frame, which is not protected (R264). -/
def trainFrame (content : List Byte) : List Byte :=
  frameHeader 4 0 content.length 0 false false ++ (content ++ List.replicate 480 0).take 480 ++ List.replicate 16 0

/-! ### Arbiter messages (R277) -/

/-- One bit of CRC-32C, reflected. -/
def crcBit (c : Nat) : Nat := if c % 2 = 1 then (c / 2) ^^^ 0x82F63B78 else c / 2

/-- CRC-32C of a byte string. -/
def crc32c (bs : List Byte) : Nat :=
  (bs.foldl (fun c x => crcBit (crcBit (crcBit (crcBit (crcBit (crcBit (crcBit (crcBit (c ^^^ x.toNat))))))))) 0xFFFFFFFF) ^^^ 0xFFFFFFFF

/-- Bytes 0x00 to 0x2F of an arbiter message (Table 10-4). -/
def ArbMsg.body (m : ArbMsg) : List Byte :=
  natBe 1 m.type.code ++ natBe 1 0 ++ natBe 2 m.seq ++ natBe 4 m.pairTag ++ (m.unit ++ List.replicate 16 0).take 16 ++ natBe 1 m.half ++ natBe 1 m.code ++ natBe 2 m.leaseNo ++
    natBe 4 0 ++ natBe 8 m.count ++ natBe 8 m.epoch

/-- The 52 bytes of an arbiter message, with its CRC. -/
def ArbMsg.bytes (m : ArbMsg) : List Byte := m.body ++ natBe 4 (crc32c m.body)

end Sys2Proof.Machine
end

