-- ==== Sys2Proof/Machine/OrbForm.lean ====
section
/-!
DEFINITION. The bytes of what the Ethernet ports send: Orbit packets in their frames (R294 to R296, R298, Tables 11-1 to 11-3) and Neighbour
Advertisements. Every field is sent most significant byte first (R5, R298).
-/
namespace Sys2Proof.Machine
open Sys2Proof

/-! ### Orbit packets (R298) -/

/-- The clear header (Table 11-1), which the tag authenticates. -/
def OrbPkt.clear (p : OrbPkt) : List Byte :=
  natBe 1 p.version ++ natBe 1 p.kind ++ natBe 1 (if p.kind = 3 then 0 else p.op) ++
    natBe 1 ((if p.retx then 1 else 0) + (if p.notify then 2 else 0) + 4 * p.flagBits) ++ natBe 2 p.src ++ natBe 2 p.dst ++ natBe 2 p.sa ++ natBe 1 p.engine ++
    natBe 1 0 ++ natBe 4 p.stamp ++ natBe 8 p.pn ++ natBe 8 p.msgCount

/-- The body of REQUEST and READ_DATA (Table 11-2). -/
def OrbPkt.fields (p : OrbPkt) : List Byte :=
  natBe 4 p.srcQ ++ natBe 4 p.dstQ ++ natBe 8 p.msgId ++ natBe 4 p.msgLen ++ natBe 4 p.offset ++ natBe 8 p.key ++ natBe 8 p.remote ++ natBe 8 p.op1 ++
    natBe 8 p.op2 ++ natBe 8 0

/-- An acknowledgement entry (Table 11-3). -/
def OrbAck.bytes (a : OrbAck) : List Byte :=
  natBe 4 a.queue ++ natBe 4 a.offset ++ natBe 8 a.msgId ++ natBe 4 a.stamp ++ natBe 1 a.code ++ natBe 1 0 ++ natBe 2 a.home

/-- What follows the clear header, before encryption. -/
def OrbPkt.plain (p : OrbPkt) : List Byte :=
  if p.kind = 3 then natBe 8 p.acks.length ++ p.acks.flatMap OrbAck.bytes else p.fields ++ p.payload

/-- The packet under the key of its SA: the nonce is SRC_NODE, ENGINE, a zero byte and PN (R296). -/
def Blk.orbBytes (b : Blk) (p : OrbPkt) : List Byte :=
  let key := (b.slot (((b.sa? p.sa).map (fun (a : SaCfg) => a.keySlot)).getD 0)).key
  let iv := leNat (natBe 2 p.src ++ natBe 1 p.engine ++ natBe 1 0 ++ natBe 8 p.pn)
  let ct := Config.gcmCrypt key iv p.plain
  p.clear ++ ct ++ natBe 16 (Config.gcmTag key iv p.clear ct)

/-! ### Frames (R294, R295) -/

/-- Sum of the 16-bit words of a byte string, an odd last byte padded with zero. -/
def wordSum : List Byte → Nat
  | [] => 0
  | [x] => x.toNat * 256
  | x :: y :: r => x.toNat * 256 + y.toNat + wordSum r

/-- The Internet checksum: the ones' complement of the ones' complement sum. -/
def inetSum (bs : List Byte) : Nat :=
  let s := wordSum bs
  0xFFFF - (if s = 0 then 0 else (s - 1) % 0xFFFF + 1)

/-- One bit of CRC-32, reflected. -/
def fcsBit (c : Nat) : Nat := if c % 2 = 1 then (c / 2) ^^^ 0xEDB88320 else c / 2

/-- The Ethernet frame check sequence. -/
def fcs (bs : List Byte) : Nat :=
  (bs.foldl (fun c x => fcsBit (fcsBit (fcsBit (fcsBit (fcsBit (fcsBit (fcsBit (fcsBit (c ^^^ x.toNat))))))))) 0xFFFFFFFF) ^^^ 0xFFFFFFFF

/-- The MAC address of a port: MAC_A + p, or MAC_B + p on unit B, with the addition on the low 24 bits (R294). -/
def Blk.mac (b : Blk) (port : Nat) : Nat :=
  let o := b.cht.cur.orbit
  let m := if b.cht.mode != .solo && b.cht.isB then o.macB else o.macA
  m / 2 ^ 24 * 2 ^ 24 + (m + port) % 2 ^ 24

/-- An IPv6 packet without extension headers. -/
def ipv6Packet (tclass flow next hops src dst : Nat) (body : List Byte) : List Byte :=
  natBe 4 (6 * 2 ^ 28 + tclass * 2 ^ 20 + flow) ++ natBe 2 body.length ++ natBe 1 next ++ natBe 1 hops ++ natBe 16 src ++ natBe 16 dst ++ body

/-- The pseudo-header that UDP and ICMPv6 checksums cover. -/
def pseudo (src dst len next : Nat) : List Byte := natBe 16 src ++ natBe 16 dst ++ natBe 4 len ++ natBe 4 next

/-- A frame of a port, to the port's gateway, with its FCS (R294, R295). `tag`: the IEEE 802.1Q tag of Orbit packets. -/
def Blk.etherFrame (b : Blk) (port : Nat) (tag : Bool) (packet : List Byte) : List Byte :=
  let o := b.cht.cur.orbit
  let x := natBe 6 (o.gateways.getD port 0) ++ natBe 6 (b.mac port) ++ (if tag then natBe 2 0x8100 ++ natBe 2 o.vlanTag else []) ++ natBe 2 0x86DD ++ packet
  x ++ natLe 4 (fcs x)

/-- UDP from source port 0xC000 + path to UDP_PORT; a checksum of zero is sent as all ones. -/
def Blk.udp (b : Blk) (path src dst : Nat) (body : List Byte) : List Byte :=
  let n := body.length + 8
  let ports := natBe 2 (0xC000 + path) ++ natBe 2 b.cht.cur.orbit.udpPort ++ natBe 2 n
  let s := inetSum (pseudo src dst n 17 ++ ports ++ natBe 2 0 ++ body)
  ports ++ natBe 2 (if s = 0 then 0xFFFF else s) ++ body

/-- The frame of an Orbit packet that this unit sends on a path and a port (R295). -/
def Blk.orbFrame (b : Blk) (p : OrbPkt) (path port : Nat) : List Byte :=
  let o := b.cht.cur.orbit
  let src := b.ipv6
  let dst := b.nodeAddr p.dst
  b.etherFrame port o.vlan (ipv6Packet (o.dscp * 4) path 17 64 src dst (b.udp path src dst (b.orbBytes p)))

/-- The frame of a Neighbour Advertisement (R294): hop limit 255, ICMPv6 type 136 with the unit's address and the port's MAC address, as IETF
RFC 4861 lays it out. See assumption 147 (PRESUMED). -/
def Blk.neighbourFrame (b : Blk) (port : Nat) (solicited : Bool) (dest : Nat) : List Byte :=
  let src := b.ipv6
  let head := natBe 1 136 ++ natBe 1 0
  let body := natBe 4 ((if solicited then 2 ^ 30 else 0) + 2 ^ 29) ++ natBe 16 src ++ natBe 1 2 ++ natBe 1 1 ++ natBe 6 (b.mac port)
  let s := inetSum (pseudo src dest (body.length + 4) 58 ++ head ++ natBe 2 0 ++ body)
  b.etherFrame port false (ipv6Packet 0 0 58 255 src dest (head ++ natBe 2 s ++ body))

end Sys2Proof.Machine
end

