-- ==== Sys2Proof/Tests/Help.lean ====
section
/-!
SUPPORT. The small states of the tests: the state after reset with some fields of the block changed.
-/
namespace Sys2Proof.Tests
open Sys2Proof Sys2Proof.Machine

/-- The state after reset with a change to the block. -/
def up (f : Blk → Blk) : State := { State.reset with blk := f State.reset.blk }

/-- The same, from another state. -/
def upOn (s : State) (f : Blk → Blk) : State := { s with blk := f s.blk }

/-- DIMMs in both slots of channel 0. -/
def dimms : SMap DimmFound := (List.range 2).map (fun n => (n, { rates := 15 }))

/-- Two dies on each of the 16 NAND channels. -/
def dies : List DieFound := (List.range 32).map (fun n => { channel := n % 16, lun := n / 16, pagesPerBlock := 1024, blocks := 40000 })

/-- A region of private Near data of one GiB for logical device 0. -/
def region0 : Region :=
  { id := 0, far := false, light := false, mirror := .none, sharing := .priv, keySlot := 0xFFFF, base := 0, size := 2 ^ 30, maskA := 1, maskB := 0,
    fastRestore := false, dynamic := false }

/-- Solo in service: one channel, port 0 trained with one logical device, line 0 in Halo. -/
def svc : State := up (fun b => { b with
  pwr.stage := .service, pwr.seq := .on, cht.loaded := true, cht.cur.isDefault := false, cht.cur.near := { sets := [⟨0, 1, 8, 64⟩], carves := [⟨67645734912, 256, 7⟩, ⟨67914170368, 2, 8⟩, ⟨67916267520, 4, 1⟩, ⟨67920461824, 128, 6⟩] },
  cht.cur.regions := [region0],
  cht.cur.ports := [(0, { enable := true, maxSpeed := 2, maxWidth := 2, ldCount := 1 })],
  host.ports := [(0, { cxlMem := true, flit256 := true, present := 1 })],
  dram.chans := [(0, { state := .ready, dimms := 2, capGib := 64 })], dram.powered := true, twin.halves := [(0, { gateOpen := true })],
  nvf.jReady := 2 ^ 40, halo.lines := [(0, { line := 0, data := 5 })] })

/-- A dynamic-capacity region of one block. -/
def region1 : Region := { region0 with id := 1, base := 2 ^ 30, size := 2 ^ 28, dynamic := true }

/-- The same with dynamic capacity. -/
def dyn : State := upOn svc (fun b => { b with
  cht.cur.regions := [region0, region1], cht.cur.ports := [(0, { enable := true, maxSpeed := 2, maxWidth := 2, ldCount := 1, maxExtents := 8 })] })

/-- An SPDM connection that has come through its negotiation. -/
def spdm : State := up (fun b => { b with ident.loaded := true, ident.conns := [(0, { version := 18, capabilities := true, algorithms := true })] })

/-- In service with a flash layout of 32 member dies on 16 channels, both replicas valid. -/
def flash : State := upOn svc (fun b => { b with
  nvf.layouts := [⟨0, 0, 2, (List.range 32).map (fun n => 16 * (n / 2) + n % 2)⟩], nvf.rep0 := { die := some 0, valid := true }, nvf.rep1 := { die := some 1, valid := true },
  nvf.dies := (List.range 32).map (fun n => (16 * (n / 2) + n % 2,
    { state := .member, pagesPerBlock := 1024, planes := 4, blocks := 40000, peRated := 3000 })) })

/-- A Far region of one GiB for logical device 0. -/
def region2 : Region := { region0 with id := 2, far := true, base := farBase }

/-- Flash, a staging area of 64 MiB, a slot area and one Transit window of two slots of 1 MiB for logical device 0. -/
def farS : State := upOn flash (fun b => { b with
  cht.cur.regions := [region0, region2],
  cht.cur.near := { sets := [⟨0, 1, 8, 64⟩], carves := [⟨2 ^ 33, 64, 4⟩, ⟨2 ^ 33 + 2 ^ 30, 64, 5⟩] },
  cht.cur.transit := { enable := true, windows := [⟨3, 0, 0, 2, false, 1⟩] } })

/-- The same with Far page 5 in a slot in the given state. -/
def staged (e : StageEntry) : State := upOn farS (fun b => { b with far.dir := [(16 * b.stageSet 5 + 2, { e with farPage := 5 })] })

/-- The same with Transit window 3 running. -/
def window (x : TrnWindow) : State := upOn farS (fun b => { b with far.windows := [(3, x)] })

/-- A descriptor of one page from Far page 5 on. -/
def desc5 : TrnDesc := { src := farBase + 5 * 4096, word1 := 4096 }

/-- A HOT and a COLD Near region of one GiB each for logical device 0. -/
def regionHot : Region := { region0 with mirror := .hot }
def regionCold : Region := { region0 with id := 1, mirror := .cold, base := 2 ^ 30 }

/-- Twin in service in the given role, both half-links up, the arbiter link up. -/
def twin (r : Role) : State := upOn svc (fun b => { b with
  cht.mode := .twin, cht.cur.topo.mode := .twin, cht.cur.regions := [regionHot, regionCold],
  twin.halves := [(0, { role := r, gateOpen := r == .holder })], twin.links := [(0, { width := 12 }), (1, { width := 12 })],
  twin.statusSent := some 0, twin.arbUp := true, ident.unitId := [1] })

/-- Orbit open on port 0: queue 2 and memory key 3 of logical device 0, security association 0 with key slot 32. -/
def orb : State := upOn svc (fun b => { b with
  cht.cur.orbit := { enable := true, backedQueues := 16, keys := 16, sas := [⟨32, true⟩] },
  cph.slots := [(32, { state := .loaded, limit := 2 ^ 32 })], mer.count := 10 ^ 6,
  orb.isOpen := true, orb.ports := [(0, { up := true })], orb.ctx := [(2, ())], orb.keyUsed := [(3, ())],
  orb.queues := [(2, { owner := 0, sq := 0, cq := 4096, counterDpa := 8192, log2 := 4, group := 7 })],
  orb.keys := [(3, { base := 65536, length := 4096, tag := 9, rights := 7, valid := true, group := 7, owner := 0 })] })

/-- A request packet for queue 2 and key 3. -/
def pkt (op : Nat) : OrbPkt := { op := op, src := 1, dst := 0, dstQ := 2, srcQ := 4, key := 3 * 2 ^ 40 + 9, msgCount := 10 ^ 6, msgLen := 8, op1 := 8 }

/-- How a packet of the given source node arrives on port 0. -/
def wire (src : Nat) : Wire := { srcAddr := orb.blk.nodeAddr src, dstAddr := orb.blk.ipv6 }

/-- Cipher queue 5 of logical device 0, and slot 40 loaded with an XTS key that the device may use. -/
def cph : State := upOn svc (fun b => { b with
  cht.cur.cipher.queueOwner := [(5, 0), (6, 0)], cph.queues := [(5, { owner := 0, sq := 4096, cq := 8192, log2 := 4 })],
  cph.slots := [(40, { state := .loaded, mode := .xts, rights := 6, ldMask := 1, limit := 100, count := 3, floor := 2 })] })

/-- The `w` bits of `n`, the most significant first. -/
def msbBits (w n : Nat) : List Bool := ((List.range w).map n.testBit).reverse

/-- The 96 cells of a frame that carries the count and the flags, a 1 rising at mid-cell (Table 3-1). -/
def cellsOf (count flags : Nat) : List (Bool × Bool) :=
  let body := msbBits 64 count ++ msbBits 8 flags
  (msbBits 8 0xD5 ++ body ++ msbBits 16 (frameCrc body)).map (fun x => (!x, x))

/-- PTP chosen, its port 1 up, a master known. -/
def ptp : State := up (fun b => { b with
  mer.body.source := 1, mer.body.ptpPort := 1, mer.holdAtFloor := false, orb.ports := [(1, { up := true })], mer.ptpMasters := [(5, 2)] })

/-- A state with commands waiting. -/
def queued (is : List Instr) (s : State) : State := { s with pending := is }

/-- The state after one step. -/
def ran (s : State) : State := match step s with | .next t => t | _ => s

end Sys2Proof.Tests
end

