-- ==== Sys2Proof/Tests/Slice0.lean ====
section
/-!
SUPPORT. The smoke test of well-formedness, and single steps on small states. Expected values are the spec's own examples and tables.
-/
namespace Sys2Proof.Tests

-- One theorem at a time: many kernel evaluations at once exhaust the compiler's threads.
set_option Elab.async false
open Sys2Proof Sys2Proof.Machine

/-! ### Each check of `Instr.wf` refuses an ill-formed command -/

theorem test_wf_port : Instr.wf (.retrain 4) = false := by decide
theorem test_wf_logical_device : Instr.wf (.getHealthInfo 64) = false := by decide
theorem test_wf_tag : Instr.wf (.hostRead {} 0 65536 0 false) = false := by decide
theorem test_wf_half_alignment : Instr.wf (.hostWrite {} 0 0 32 0 false) = false := by decide
theorem test_wf_address_of_52_bits : Instr.wf (.hostWrite {} 0 0 (2 ^ 52) 0 false) = false := by decide
theorem test_wf_run_length : Instr.wf (.trnPromote {} 0 0 4097) = false := by decide
theorem test_wf_empty_run : Instr.wf (.trnEvict {} 0 0 0) = false := by decide
theorem test_wf_arguments : Instr.wf (.orbCreateQueue {} 0 [0, 0, 0, 0, 0, 0, 0]) = false := by decide
theorem test_wf_argument_width : Instr.wf (.registerKey {} 0 [2 ^ 64]) = false := by decide
theorem test_wf_pins : Instr.wf (.fltStatusClear 0 [(91, 0)]) = false := by decide
theorem test_wf_dies : Instr.wf (.dawnD4 [] [{ channel := 16, lun := 0 }]) = false := by decide
theorem test_wf_reset : Instr.wf (.portResetBegin {} (.functionLevel 64)) = false := by decide
theorem test_wf_window_size : Instr.wf (.registerWrite {} (.ld 0 0 3) 0) = false := by decide
theorem test_wf_engine : Instr.wf (.replayCacheEcc (.replay 2) 0 0) = false := by decide
theorem test_wf_straps : Instr.wf (.aonPowerUp 4) = false := by decide
theorem test_wf_channel : Instr.wf (.caParityAlert 16 1 0 0 0) = false := by decide
theorem test_wf_half : Instr.wf (.fence 2) = false := by decide
theorem test_wf_rail : Instr.wf (.seqPgRise 16) = false := by decide
theorem test_wf_lanes : Instr.wf (.linkTrained 0 2 16 true) = false := by decide
theorem test_wf_transport : Instr.wf (.getVersion 66) = false := by decide
theorem test_wf_configuration_space : Instr.wf (.registerWrite {} (.cfg 64 .powerState) 0) = false := by decide
theorem test_wf_frame : Instr.wf (.merFrame [(true, false)] 0) = false := by decide
theorem test_wf_lines_of_a_page : Instr.wf (.syncPage {} 0 0 []) = false := by decide
theorem test_wf_position : Instr.wf (.mark 0 0 0 20) = false := by decide
theorem test_wf_opcode : Instr.wf (.mailboxUnsupported 0 65536 []) = false := by decide
theorem test_wf_accepts : Instr.wf (.hostWrite {} 63 65535 64 0 false) = true := by decide

/-! ### Worked examples of the spec -/

/-- The example of R12: a Halo tag error of quadrant 3. -/
theorem test_fault_location : faultLoc 1 0x13 0x05 0x01A 0x3C40 0xFFF = 0x530501A003C40FFF := by decide

/-- Table 5-6: quarter 2 of set 12,800 in way 9 of quadrant 1. -/
theorem test_halo_location : haloLoc 1 9 (12800 / 1024) (12800 % 1024 * 4 + 2) = 0x130900C000802FFF := by decide

/-- The example of R177: 3,000 J at 38.4 GB/s give 256 GiB. -/
theorem test_energy_ceiling : energyCeiling { energy := true } 3000 38400000000 = 256 * 2 ^ 30 := by decide

/-- The example of R179: a journal of 512 GiB and a map of 256 MiB give 503 GiB. -/
theorem test_journal_ceiling :
    (up (fun b => { b with nvf.jReady := 512 * 2 ^ 30, cht.cur.near := { carves := [⟨0, 256, 8⟩] } })).blk.ceilJ = 503 * 2 ^ 30 := by decide

/-- Worked example of chapter 19: DRM_FRZ_SYND5 of DC11 lies at address 0x4B150. -/
theorem test_freeze_syndrome_address :
    (up (fun b => { b with dram.chans := [(11, { cap.synd := [0, 0, 0, 0, 0, 7] })] })).blk.regRead 0x4B150 = 7 := by decide

/-- The catalogued check value of the CRC-16 of a frame (polynomial 0x1021, initial value 0xFFFF) over the ASCII digits 1 to 9. -/
theorem test_frame_crc : frameCrc ((ascii "123456789").flatMap (fun x => msbBits 8 x.toNat)) = 0x29B1 := by decide +kernel

/-- The catalogued check value of the CRC-32C of an arbiter message. -/
theorem test_arbiter_crc : crc32c (ascii "123456789") = 0xE3069283 := by decide +kernel

/-- The catalogued check value of the Ethernet CRC-32. -/
theorem test_frame_check_sequence : fcs (ascii "123456789") = 0xCBF43926 := by decide +kernel

/-- A frame is read back (Table 3-1). -/
theorem test_frame : decodeFrame (cellsOf (5 * 2 ^ 20) 3) = some (5 * 2 ^ 20, 3) := by decide +kernel

/-- A frame whose count is no multiple of 2^20 is invalid (R68). -/
theorem test_frame_count : decodeFrame (cellsOf (5 * 2 ^ 20 + 1) 3) = none := by decide +kernel

/-- The product of the field's generator and its highest power below the reduction, by 0x11D (R210). -/
theorem test_gf : gfMul 0x80 2 = 0x1D := by decide

/-- A Logbook record takes 64 bytes (R416). -/
theorem test_log_record_length : (LogRec.bytes { seq := 4, type := 5 }).length = 64 := by decide +kernel

/-- An Almanac record takes 224 bytes (R424). -/
theorem test_almanac_record_length : (AlmRec.bytes { metric := 3, inst := 1 }).length = 224 := by decide +kernel

/-- The body of a stripe-journal record takes bytes 0x00 to 0x37 (Table 8-2, R216). -/
theorem test_journal_record_length : (SjRec.body { type := .close }).length = 0x38 := by decide +kernel

/-! ### Single steps -/

/-- Table 4-11: reserved bits of HP_CTRL are ignored and BI_TIMEOUT takes 20 (R2, R8). -/
theorem test_hp_ctrl : (ran (queued [.registerWrite {} (.mgmt 0x20008) 0x14FC] svc)).blk.regRead 0x20008 = 0x1400 := by decide

/-- The reserved value 0 leaves BI_TIMEOUT at its reset value 8 (R2). -/
theorem test_hp_ctrl_reserved : (ran (queued [.registerWrite {} (.mgmt 0x20008) 0] svc)).blk.regRead 0x20008 = 0x800 := by decide

/-- HP_LD_ID is read-only and names the logical device (Table 4-8). -/
theorem test_ld_id : (ran (queued [.registerWrite {} (.ld 0 0x30000 8) 0xFF] svc)).blk.ldRead 0 0x30000 8 = 0 := by decide

/-- A reserved offset of the window reads all ones (R112). -/
theorem test_ld_reserved : svc.blk.ldRead 0 0x2D00000 4 = 0xFFFFFFFF := by decide

/-- A step on an empty queue only lets local time pass: 10 ns. -/
theorem test_idle : (ran svc).blk.cyc = svc.blk.cyc + 1 := by decide

/-- There is always-on power after reset: no statement about its loss is empty. -/
theorem witness_AlwaysOnPowerLossAndReturn : ∃ s : State, s.blk.aon = true := ⟨State.reset, rfl⟩

end Sys2Proof.Tests
end

