-- ==== Sys2Proof/Tests/Witness.lean ====
section
/-!
SUPPORT. For each statement of Certificates/Slice0/Obligations.lean, states and operands that meet the hypotheses of its clauses together.
-/
open Sys2Proof Sys2Proof.Machine
namespace Sys2Proof.Tests

-- One theorem at a time: many kernel evaluations at once exhaust the threads of the compiler.
set_option Elab.async false

/-- States and operands that meet the hypotheses of the clauses of AnEmptyQueueIdlesForOneCycle. -/
theorem witness_AnEmptyQueueIdlesForOneCycle :
    (∃ s : State, (s.pending = []) ∧ (s.blk.aon = true)) :=
  ⟨up (fun b => { b with cyc := 5 }), by decide +kernel⟩

/-- States and operands that meet the hypotheses of the clauses of SystemResetPin. -/
theorem witness_SystemResetPin :
    (∃ s : State, (s.blk.aon = true) ∧ (s.now.inDusk = false) ∧ (s.now.pwr.sysRst = false)) ∧
    (∃ s : State, (s.blk.aon = true) ∧ (s.now.inDusk = false) ∧ (s.now.pwr.sysRst = false)) ∧
    (∃ s : State, (s.blk.aon = true) ∧ (s.now.inDusk = true ∨ s.now.pwr.sysRst = true)) ∧
    (∃ s : State, (s.blk.aon = true) ∧ (s.now.inDusk = true ∨ s.now.pwr.sysRst = true)) ∧
    (∃ s : State, (s.blk.aon = true) ∧ (s.now.pwr.sysRst = true)) ∧
    (∃ s : State, (s.blk.aon = true) ∧ (s.now.pwr.sysRst = false)) :=
  ⟨⟨up (fun b => { b with pwr.seq := .lowering }), by decide +kernel⟩,
   ⟨up (fun b => { b with pwr.stage := .service, pwr.seq := .on }), by decide +kernel⟩,
   ⟨up (fun b => { b with pwr.sysRst := true }), by decide +kernel⟩,
   ⟨up (fun b => { b with pers.dusk := some {} }), by decide +kernel⟩,
   ⟨up (fun b => { b with pwr.sysRst := true }), by decide +kernel⟩,
   ⟨up id, by decide +kernel⟩⟩

/-- States and operands that meet the hypotheses of the clauses of SequencerRaisesRails. -/
theorem witness_SequencerRaisesRails :
    (∃ s : State, (s.blk.aon = true) ∧ (s.now.pwr.seq = .off) ∧ (s.now.mayRaise = true) ∧ (s.now.pwr.stage = .dawn 1) ∧ (s.now.pwr.sysRst = false) ∧ (s.now.pwr.en = 0)) ∧
    (∃ s : State, (s.blk.aon = true) ∧ (s.now.mayRaise = false)) ∧
    (∃ s : State, ∃ n : Nat, (s.blk.aon = true) ∧ (s.now.railSlots.contains n = true) ∧ ((s.now.rail n).noPg = false)) ∧
    (∃ s : State, ∃ n : Nat, (s.blk.aon = true) ∧ (s.now.railSlots.contains n = true) ∧ ((s.now.rail n).noPg = false)) ∧
    (∃ s : State, ∃ n : Nat, (s.blk.aon = true) ∧ (s.now.railSlots.contains n = false)) ∧
    (∃ s : State, ∃ n : Nat, (s.blk.aon = true) ∧ (s.now.pwr.seq = .raising) ∧ (s.now.pwr.settling = false) ∧ ((s.now.groupOf s.now.raiseSlots s.now.pwr.group).contains n = true) ∧ (s.now.pwr.pg.testBit n = false)) ∧
    (∃ s : State, (s.blk.aon = true) ∧ (s.now.pwr.seq = .raising) ∧ (s.now.pwr.settling = true) ∧ (s.now.nextOrder s.now.raiseSlots (some s.now.pwr.group) = none)) ∧
    (∃ s : State, ∃ o : Nat, (s.blk.aon = true) ∧ (s.now.pwr.seq = .raising) ∧ (s.now.pwr.settling = true) ∧ (s.now.nextOrder s.now.raiseSlots (some s.now.pwr.group) = some o)) ∧
    (∃ s : State, (s.blk.aon = true) ∧ (s.now.pwr.seq = .minOff) ∧ (s.now.pwr.lowerWhy ≠ .retry)) :=
  ⟨⟨up (fun b => { b with pwr.stage := .dawn 1, pwr.pwrStable := true }), by decide +kernel⟩,
   ⟨up id, by decide +kernel⟩,
   ⟨up id, 0, by decide +kernel⟩,
   ⟨up (fun b => { b with pwr.seq := .raising, pwr.group := 7 }), 9, by decide +kernel⟩,
   ⟨up id, 10, by decide +kernel⟩,
   ⟨up (fun b => { b with pwr.seq := .raising }), 0, by decide +kernel⟩,
   ⟨up (fun b => { b with pwr.seq := .raising, pwr.settling := true, pwr.group := 7 }), by decide +kernel⟩,
   ⟨up (fun b => { b with pwr.seq := .raising, pwr.settling := true, pwr.group := 6 }), 7, by decide +kernel⟩,
   ⟨up (fun b => { b with pwr.seq := .minOff }), by decide +kernel⟩⟩

/-- States and operands that meet the hypotheses of the clauses of RailsFallAndAreLost. -/
theorem witness_RailsFallAndAreLost :
    (∃ s : State, ∃ n : Nat, (s.blk.aon = true) ∧ (s.now.railSlots.contains n = false)) ∧
    (∃ s : State, ∃ n : Nat, (s.blk.aon = true) ∧ (s.now.railSlots.contains n = true) ∧ ((s.now.rail n).noPg = false) ∧ (s.now.pwr.pg.testBit n = true) ∧ (s.now.pwr.seq = .lowering)) ∧
    (∃ s : State, ∃ n : Nat, (s.blk.aon = true) ∧ (s.now.railSlots.contains n = true) ∧ ((s.now.rail n).noPg = false) ∧ (s.now.pwr.pg.testBit n = true) ∧ (s.now.pwr.seq = .raising)) ∧
    (∃ s : State, ∃ n : Nat, (s.blk.aon = true) ∧ (s.now.railSlots.contains n = true) ∧ ((s.now.rail n).noPg = false) ∧ (s.now.pwr.pg.testBit n = true) ∧ (s.now.pwr.seq = .on) ∧ (s.now.pwr.en.testBit n = true)) ∧
    (∃ s : State, ∃ n : Nat, (s.blk.aon = true) ∧ (s.now.pwr.seq = .lowering) ∧ (s.now.lowering.contains n = true) ∧ (s.now.pwr.lowered.testBit n = false) ∧ ((s.now.rail n).noPg = false) ∧ (s.now.pwr.pg.testBit n = true)) ∧
    (∃ s : State, ∃ n : Nat, (s.blk.aon = true) ∧ (s.now.pwr.seq = .lowering) ∧ (s.now.lowering.contains n = true) ∧ (s.now.pwr.lowered.testBit n = false) ∧ (s.now.pwr.pg.testBit n = false)) ∧
    (∃ s : State, (s.blk.aon = true) ∧ (s.now.pwr.seq ≠ .lowering)) :=
  ⟨⟨up id, 10, by decide +kernel⟩,
   ⟨up (fun b => { b with pwr.pg := 1, pwr.seq := .lowering }), 0, by decide +kernel⟩,
   ⟨up (fun b => { b with pwr.pg := 1, pwr.seq := .raising }), 0, by decide +kernel⟩,
   ⟨up (fun b => { b with pwr.pg := 1, pwr.seq := .on, pwr.en := 1 }), 0, by decide +kernel⟩,
   ⟨up (fun b => { b with pwr.pg := 1, pwr.seq := .lowering }), 0, by decide +kernel⟩,
   ⟨up (fun b => { b with pwr.seq := .lowering }), 0, by decide +kernel⟩,
   ⟨up id, by decide +kernel⟩⟩

/-- States and operands that meet the hypotheses of the clauses of PowerCommands. -/
theorem witness_PowerCommands :
    (∃ s : State, (s.blk.aon = true) ∧ (s.now.inDusk = false)) ∧
    (∃ s : State, (s.blk.aon = true) ∧ (s.now.inDusk = false) ∧ (s.now.pwr.stage = .twilight)) ∧
    (∃ s : State, (s.blk.aon = true) ∧ (s.now.inDusk = false) ∧ (s.now.pwr.stage ≠ .twilight)) ∧
    (∃ s : State, (s.blk.aon = true) ∧ (s.now.inDusk = true)) :=
  ⟨⟨up id, by decide +kernel⟩,
   ⟨up (fun b => { b with pwr.stage := .twilight }), by decide +kernel⟩,
   ⟨up id, by decide +kernel⟩,
   ⟨up (fun b => { b with pers.dusk := some {} }), by decide +kernel⟩⟩

/-- States and operands that meet the hypotheses of the clauses of DawnStagesZeroToThree. -/
theorem witness_DawnStagesZeroToThree :
    (∃ s : State, (s.blk.aon = true) ∧ (s.now.mayD0 = false)) ∧
    (∃ s : State, (s.blk.aon = true) ∧ (s.now.mayD0 = true)) ∧
    (∃ s : State, (s.blk.aon = true) ∧ (s.now.mayD0 = true)) ∧
    (∃ s : State, (s.blk.aon = true) ∧ (s.now.mayD0 = true)) ∧
    (∃ s : State, (s.blk.aon = true) ∧ (s.now.mayD0 = true)) ∧
    (∃ s : State, (s.blk.aon = true) ∧ (s.now.atStage 2 = false)) ∧
    (∃ s : State, (s.blk.aon = true) ∧ (s.now.atStage 2 = true) ∧ (s.now.mgt.active < 2)) ∧
    (∃ s : State, (s.blk.aon = true) ∧ (s.now.atStage 2 = true) ∧ (s.now.mgt.active < 2)) ∧
    (∃ s : State, (s.blk.aon = true) ∧ (s.now.atStage 3 = false)) ∧
    (∃ s : State, (s.blk.aon = true) ∧ (s.now.atStage 3 = true) ∧ (s.now.ident.lc = .returned)) ∧
    (∃ s : State, (s.blk.aon = true) ∧ (s.now.atStage 3 = true) ∧ (s.now.ident.lc ≠ .returned) ∧ (s.now.cht.slotRec.pending = true)) ∧
    (∃ s : State, (s.blk.aon = true) ∧ (s.now.atStage 3 = true) ∧ (s.now.ident.lc ≠ .returned) ∧ (s.now.cht.slotRec.pending = false)) ∧
    (∃ s : State, (s.blk.aon = true) ∧ (s.now.atStage 3 = true) ∧ (s.now.ident.lc ≠ .returned) ∧ (s.now.cht.slotRec.pending = false)) :=
  ⟨⟨up (fun b => { b with pwr.stage := .service }), by decide +kernel⟩,
   ⟨up id, by decide +kernel⟩,
   ⟨up (fun b => { b with pwr.stage := .down, pwr.pwrStable := true }), by decide +kernel⟩,
   ⟨up id, by decide +kernel⟩,
   ⟨up (fun b => { b with pwr.stage := .down, pwr.pwrStable := true, pwr.boot.failed := 3 }), by decide +kernel⟩,
   ⟨up id, by decide +kernel⟩,
   ⟨up (fun b => { b with pwr.stage := .dawn 2, pwr.seq := .on }), by decide +kernel⟩,
   ⟨up (fun b => { b with pwr.stage := .dawn 2, pwr.seq := .on, mgt.active := 1 }), by decide +kernel⟩,
   ⟨up id, by decide +kernel⟩,
   ⟨up (fun b => { b with pwr.stage := .dawn 3, pwr.seq := .on, ident.lc := .returned }), by decide +kernel⟩,
   ⟨up (fun b => { b with pwr.stage := .dawn 3, pwr.seq := .on, cht.slotRec.pending := true }), by decide +kernel⟩,
   ⟨up (fun b => { b with pwr.stage := .dawn 3, pwr.seq := .on }), by decide +kernel⟩,
   ⟨up (fun b => { b with pwr.stage := .dawn 3, pwr.seq := .on, pers.sb.update := 1, pers.sb.digest := 5 }), by decide +kernel⟩⟩

/-- States and operands that meet the hypotheses of the clauses of DawnStagesFourToSeven. -/
theorem witness_DawnStagesFourToSeven :
    (∃ s : State, (s.blk.aon = true) ∧ (s.now.atStage 4 = false)) ∧
    (∃ s : State, ∃ f : SMap DimmFound, ∃ d : List DieFound, (s.blk.aon = true) ∧ (s.now.atStage 4 = true) ∧ ((discover f d s.now).cht.cur.isDefault = true) ∧ ((discover f d s.now).population.chans = [])) ∧
    (∃ s : State, (s.blk.aon = true) ∧ (s.now.atStage 4 = true)) ∧
    (∃ s : State, (s.blk.aon = true) ∧ (s.now.atStage 5 = false)) ∧
    (∃ s : State, ∃ m : FlashMedia, (s.blk.aon = true) ∧ (s.now.atStage 5 = true) ∧ (s.now.nvf.layouts ≠ []) ∧ (s.now.replicaReads m = false)) ∧
    (∃ s : State, ∃ m : FlashMedia, (s.blk.aon = true) ∧ (s.now.atStage 5 = true) ∧ (s.now.nvf.layouts = [] ∨ s.now.replicaReads m = true)) ∧
    (∃ s : State, (s.blk.aon = true) ∧ (s.now.atStage 6 = false)) ∧
    (∃ s : State, (s.blk.aon = true) ∧ (s.now.atStage 6 = true) ∧ (s.now.mer.state ≠ .locked) ∧ (s.now.mer.waitDone = false) ∧ (s.now.mer.body.source ≠ 2)) ∧
    (∃ s : State, (s.blk.aon = true) ∧ (s.now.atStage 6 = true) ∧ (s.now.mer.waitDone = true) ∧ (s.now.cht.cur.isDefault = false) ∧ (s.now.twinDiffers = false)) ∧
    (∃ s : State, (s.blk.aon = true) ∧ (s.now.atStage 6 = true) ∧ (s.now.mer.waitDone = true) ∧ (s.now.cht.cur.isDefault = false) ∧ (s.now.twinDiffers = true)) ∧
    (∃ s : State, (s.blk.aon = true) ∧ (s.now.atStage 7 = true)) ∧
    (∃ s : State, (s.blk.aon = true) ∧ (s.now.atStage 7 = false)) ∧
    (∃ s : State, ∃ n : Nat, (s.blk.aon = true) ∧ (1 < n) ∧ (s.now.atStage n = true)) ∧
    (∃ s : State, ∃ n : Nat, (s.blk.aon = true) ∧ (1 < n) ∧ (s.now.atStage n = true)) ∧
    (∃ s : State, (s.blk.aon = true) ∧ (s.now.pwr.stage = .dawn 1 ∨ s.now.pwr.stage = .service)) ∧
    (∃ s : State, (s.blk.aon = true) ∧ (s.now.pwr.stage = .dawn 1 ∨ s.now.pwr.stage = .service)) :=
  ⟨⟨up id, by decide +kernel⟩,
   ⟨up (fun b => { b with pwr.stage := .dawn 4, pwr.seq := .on }), ([] : SMap DimmFound), ([] : List DieFound), by decide +kernel⟩,
   ⟨up (fun b => { b with pwr.stage := .dawn 4, pwr.seq := .on }), by decide +kernel⟩,
   ⟨up id, by decide +kernel⟩,
   ⟨up (fun b => { b with pwr.stage := .dawn 5, pwr.seq := .on, nvf.layouts := [{ gen := 0, seed := 0, spare := 0, members := [] }] }), ({} : FlashMedia), by decide +kernel⟩,
   ⟨up (fun b => { b with pwr.stage := .dawn 5, pwr.seq := .on }), ({ area0 := true } : FlashMedia), by decide +kernel⟩,
   ⟨up id, by decide +kernel⟩,
   ⟨up (fun b => { b with pwr.stage := .dawn 6, pwr.seq := .on }), by decide +kernel⟩,
   ⟨up (fun b => { b with pwr.stage := .dawn 6, pwr.seq := .on, mer.waitDone := true, cht.cur.isDefault := false }), by decide +kernel⟩,
   ⟨up (fun b => { b with pwr.stage := .dawn 6, pwr.seq := .on, mer.waitDone := true, cht.cur.isDefault := false, cht.mode := .twin, twin.peerDigest := some 5 }), by decide +kernel⟩,
   ⟨up (fun b => { b with pwr.stage := .dawn 7, pwr.seq := .on, pwr.boot.failed := 2 }), by decide +kernel⟩,
   ⟨up id, by decide +kernel⟩,
   ⟨up (fun b => { b with pwr.stage := .dawn 2, pwr.seq := .on }), 2, by decide +kernel⟩,
   ⟨up (fun b => { b with pwr.stage := .dawn 7, pwr.seq := .on }), 7, by decide +kernel⟩,
   ⟨up (fun b => { b with pwr.stage := .dawn 1 }), by decide +kernel⟩,
   ⟨up (fun b => { b with pwr.stage := .service }), by decide +kernel⟩⟩

/-- States and operands that meet the hypotheses of the clauses of RegisterWrites. -/
theorem witness_RegisterWrites :
    (∃ s : State, ∃ a : Nat, (s.blk.aon = true) ∧ (a % 8 ≠ 0)) ∧
    (∃ s : State, ∃ a, (s.blk.aon = true) ∧ (a % 8 = 0) ∧ (s.now.regInReset a = true) ∧ ((regAt s.now a).isSome = true)) ∧
    (∃ s : State, ∃ a : Nat, ∃ r : ErrReg, (s.blk.aon = true) ∧ (s.now.pwr.sysRst = false) ∧ ((a, r) ∈ [(0x10050, ErrReg.mer), (0x20010, .hp 0), (0x24010, .hp 1), (0x28010, .hp 2), (0x2C010, .hp 3), (0x30008, .hal), (0x40028, .drm 0), (0x4F028, .drm 15), (0x50070, .per), (0x60050, .nvf), (0x70018, .trn), (0x80068, .twn), (0x90020, .orb), (0xA0048, .cph), (0xB0110, .lcs), (0xC0028, .psq), (0xD0020, .thm), (0xF0030, .log), (0xF8028, .alm), (0x100008, .efl), (0x110028, .mgt)])) ∧
    (∃ s : State, ∃ a : Nat, ∃ r : ErrReg, (s.blk.aon = true) ∧ (s.now.pwr.sysRst = false) ∧ ((a, r) ∈ [(0x10050, ErrReg.mer), (0x20010, .hp 0), (0x24010, .hp 1), (0x28010, .hp 2), (0x2C010, .hp 3), (0x30008, .hal), (0x40028, .drm 0), (0x4F028, .drm 15), (0x50070, .per), (0x60050, .nvf), (0x70018, .trn), (0x80068, .twn), (0x90020, .orb), (0xA0048, .cph), (0xB0110, .lcs), (0xC0028, .psq), (0xD0020, .thm), (0xF0030, .log), (0xF8028, .alm), (0x100008, .efl), (0x110028, .mgt)])) ∧
    (∃ s : State, ∃ a : Nat, ∃ r : ErrReg, (s.blk.aon = true) ∧ (s.now.pwr.sysRst = false) ∧ ((a, r) ∈ [(0x10050, ErrReg.mer), (0x20010, .hp 0), (0x24010, .hp 1), (0x28010, .hp 2), (0x2C010, .hp 3), (0x30008, .hal), (0x40028, .drm 0), (0x4F028, .drm 15), (0x50070, .per), (0x60050, .nvf), (0x70018, .trn), (0x80068, .twn), (0x90020, .orb), (0xA0048, .cph), (0xB0110, .lcs), (0xC0028, .psq), (0xD0020, .thm), (0xF0030, .log), (0xF8028, .alm), (0x100008, .efl), (0x110028, .mgt)])) ∧
    (∃ s : State, ∃ a : Nat, (s.blk.aon = true) ∧ (s.now.pwr.sysRst = false) ∧ (a ∈ [0x10000, 0x50000, 0xC0000, 0xD0000, 0x120000, 0xF0048])) ∧
    (∃ s : State, ∃ a : Nat, (s.blk.aon = true) ∧ (s.now.pwr.sysRst = false) ∧ (a ∈ [0x10000, 0x50000, 0xC0000, 0xD0000, 0x120000, 0xF0048])) :=
  ⟨⟨up id, 4, by decide +kernel⟩,
   ⟨up (fun b => { b with pwr.sysRst := true }), 0x50070, by decide +kernel⟩,
   ⟨up (fun b => { b with errs := [(ErrReg.mer.key, 13)] }), 0x10050, ErrReg.mer, by decide +kernel⟩,
   ⟨up id, 0x110028, ErrReg.mgt, by decide +kernel⟩,
   ⟨up (fun b => { b with errs := [((ErrReg.drm 15).key, 13)] }), 0x4F028, ErrReg.drm 15, by decide +kernel⟩,
   ⟨up id, 0x10000, by decide +kernel⟩,
   ⟨up id, 0xF0048, by decide +kernel⟩⟩

/-- States and operands that meet the hypotheses of the clauses of HostAccessesAtOnce. -/
theorem witness_HostAccessesAtOnce :
    (∃ s : State, ∃ phys : Phys, ∃ ld : Nat, ∃ dpa : Nat, ∃ k : Nat, ∃ h : HaloLine, (s.blk.aon = true) ∧ (phys.halo = []) ∧ (phys.ide = false) ∧ (s.now.servesHere ld (dpa / 64 * 64) = true) ∧ (s.now.haloFind (s.now.lineOf (dpa / 64 * 64)) = some (k, h))) ∧
    (∃ s : State, ∃ phys : Phys, ∃ ld : Nat, ∃ dpa : Nat, ∃ k : Nat, ∃ h : HaloLine, (s.blk.aon = true) ∧ (phys.halo = []) ∧ (phys.ide = false) ∧ (s.now.servesHere ld (dpa / 64 * 64) = true) ∧ (s.now.haloFind (s.now.lineOf (dpa / 64 * 64)) = some (k, h))) ∧
    (∃ s : State, ∃ phys : Phys, ∃ ld : Nat, ∃ tag : Nat, ∃ dpa : Nat, ∃ d : Half, ∃ poison : Bool, ∃ b, ∃ k : Nat, ∃ h : HaloLine, ∃ l, (s.blk.aon = true) ∧ (l = s.now.lineOf (dpa / 64 * 64)) ∧ (b = (offerStore { src := .host ld tag, dpa := dpa / 64 * 64, write := some (d, poison) } s.now).2) ∧ (phys.halo = []) ∧ (phys.ide = false) ∧ (s.now.servesHere ld (dpa / 64 * 64) = true) ∧ (s.now.paired = false) ∧ (s.now.acceptsWrite (dpa / 64 * 64) = true) ∧ (s.now.haloFind l = some (k, h))) ∧
    (∃ s : State, ∃ phys : Phys, ∃ ld : Nat, ∃ tag : Nat, ∃ dpa : Nat, ∃ d : Half, ∃ poison : Bool, ∃ b, ∃ k : Nat, ∃ h : HaloLine, ∃ l, (s.blk.aon = true) ∧ (l = s.now.lineOf (dpa / 64 * 64)) ∧ (b = (offerStore { src := .host ld tag, dpa := dpa / 64 * 64, write := some (d, poison) } s.now).2) ∧ (phys.halo = []) ∧ (phys.ide = false) ∧ (s.now.servesHere ld (dpa / 64 * 64) = true) ∧ (s.now.paired = false) ∧ (s.now.acceptsWrite (dpa / 64 * 64) = true) ∧ (s.now.haloFind l = some (k, h))) ∧
    (∃ s : State, ∃ ld : Nat, (s.blk.aon = true) ∧ (s.now.takesMem ld = false)) ∧
    (∃ s : State, ∃ ld : Nat, ∃ dpa : Nat, (s.blk.aon = true) ∧ (s.now.takesMem ld = true) ∧ (((s.now.portCfg (ld / 16)).ideRequired && !(s.now.port (ld / 16)).ideActive) = true) ∧ (s.now.reach ld (dpa / 64 * 64) = .masked)) ∧
    (∃ s : State, ∃ phys : Phys, ∃ ld : Nat, ∃ dpa : Nat, (s.blk.aon = true) ∧ (s.now.takesMem ld = true) ∧ (phys.ide = false) ∧ (((s.now.portCfg (ld / 16)).ideRequired && !(s.now.port (ld / 16)).ideActive) = false) ∧ (s.now.reach ld (dpa / 64 * 64) = .masked) ∧ (s.now.area (dpa / 64 * 64) ≠ .slot)) ∧
    (∃ s : State, ∃ phys : Phys, ∃ ld : Nat, ∃ dpa : Nat, (s.blk.aon = true) ∧ (s.now.takesMem ld = true) ∧ (phys.ide = false) ∧ (((s.now.portCfg (ld / 16)).ideRequired && !(s.now.port (ld / 16)).ideActive) = false) ∧ (s.now.reach ld (dpa / 64 * 64) = .unmapped)) ∧
    (∃ s : State, ∃ phys : Phys, ∃ ld : Nat, (s.blk.aon = true) ∧ (s.now.takesMem ld = true) ∧ (phys.ide = true) ∧ ((s.now.port (ld / 16)).ideActive = true)) :=
  ⟨⟨upOn svc (fun b => b), ({} : Phys), 0, 0, 0, ({ line := 0, data := 5 } : HaloLine), by decide +kernel⟩,
   ⟨upOn svc (fun b => { b with halo.lines := [(0, { line := 0, data := 5, poison := true })] }), ({} : Phys), 0, 127, 0, ({ line := 0, data := 5, poison := true } : HaloLine), by decide +kernel⟩,
   ⟨upOn svc (fun b => b), ({} : Phys), 0, 0, 0, 9, false, ((offerStore { src := .host (0) (0), dpa := (0) / 64 * 64, write := some ((9), (false)) } (upOn svc (fun b => b)).now).2), 0, ({ line := 0, data := 5 } : HaloLine), ((upOn svc (fun b => b)).now.lineOf ((0) / 64 * 64)), by refine ⟨?_, rfl, rfl, ?_⟩ <;> decide +kernel⟩,
   ⟨upOn svc (fun b => b), ({} : Phys), 0, 0, 127, 9, true, ((offerStore { src := .host (0) (0), dpa := (127) / 64 * 64, write := some ((9), (true)) } (upOn svc (fun b => b)).now).2), 0, ({ line := 0, data := 5 } : HaloLine), ((upOn svc (fun b => b)).now.lineOf ((127) / 64 * 64)), by refine ⟨?_, rfl, rfl, ?_⟩ <;> decide +kernel⟩,
   ⟨upOn svc (fun b => b), 1, by decide +kernel⟩,
   ⟨upOn svc (fun b => { b with cht.cur.ports := [(0, { enable := true, ideRequired := true })], cht.cur.regions := [{ region0 with maskA := 2 }] }), 0, 0, by decide +kernel⟩,
   ⟨upOn svc (fun b => { b with cht.cur.regions := [{ region0 with maskA := 2 }] }), ({} : Phys), 0, 0, by decide +kernel⟩,
   ⟨upOn svc (fun b => b), ({} : Phys), 0, 2 ^ 30, by decide +kernel⟩,
   ⟨upOn svc (fun b => { b with host.ports := [(0, { cxlMem := true, flit256 := true, present := 1, ideActive := true })] }), ({ ide := true } : Phys), 0, by decide +kernel⟩⟩

/-- States and operands that meet the hypotheses of the clauses of BackInvalidateAnswers. -/
theorem witness_BackInvalidateAnswers :
    (∃ s : State, ∃ n : Nat, ∃ g : Nat, ∃ w : BiWait, (s.blk.aon = true) ∧ (s.now.host.bi.find? (fun x => x.granule = g && x.lds.contains n) = some w) ∧ ((w.lds.filter (· != n)).isEmpty = false)) ∧
    (∃ s : State, ∃ n : Nat, ∃ g : Nat, ∃ w : BiWait, (s.blk.aon = true) ∧ (s.now.host.bi.find? (fun x => x.granule = g && x.lds.contains n) = some w) ∧ ((w.lds.filter (· != n)).isEmpty = true) ∧ (w.evict = true)) ∧
    (∃ s : State, ∃ n : Nat, ∃ g : Nat, ∃ w : BiWait, (s.blk.aon = true) ∧ (s.now.host.bi.find? (fun x => x.granule = g && x.lds.contains n) = some w) ∧ ((w.lds.filter (· != n)).isEmpty = true) ∧ (w.evict = false) ∧ (s.now.host.held.find? (fun h => h.why == .bi w.granule) = none)) ∧
    (∃ s : State, ∃ n : Nat, ∃ g : Nat, ∃ w : BiWait, (s.blk.aon = true) ∧ (s.now.host.bi.find? (fun x => x.granule = g && x.lds.contains n) = some w) ∧ ((w.lds.filter (· != n)).isEmpty = false) ∧ (s.now.holder (n % 64) = n)) ∧
    (∃ s : State, ∃ n : Nat, ∃ g : Nat, (s.blk.aon = true) ∧ (s.now.host.bi.any (fun w => w.granule = g && w.lds.contains n) = false) ∧ (s.now.host.biLate.contains (g, n) = true)) ∧
    (∃ s : State, ∃ n : Nat, ∃ g : Nat, (s.blk.aon = true) ∧ (s.now.host.bi.any (fun w => w.granule = g && w.lds.contains n) = false) ∧ (s.now.host.biLate.contains (g, n) = false) ∧ (s.now.holder (n % 64) = n)) ∧
    (∃ s : State, ∃ n : Nat, ∃ g : Nat, (s.blk.aon = true) ∧ (s.now.host.bi.any (fun w => w.granule = g && w.lds.contains n) = false)) :=
  ⟨⟨upOn svc (fun b => { b with host.bi := [⟨4, [0, 1], false⟩] }), 0, 4, (⟨4, [0, 1], false⟩ : BiWait), by decide +kernel⟩,
   ⟨upOn svc (fun b => { b with host.bi := [⟨4, [0], true⟩] }), 0, 4, (⟨4, [0], true⟩ : BiWait), by decide +kernel⟩,
   ⟨upOn svc (fun b => { b with host.bi := [⟨4, [0], false⟩] }), 0, 4, (⟨4, [0], false⟩ : BiWait), by decide +kernel⟩,
   ⟨upOn svc (fun b => { b with host.bi := [⟨4, [0, 1], false⟩] }), 0, 4, (⟨4, [0, 1], false⟩ : BiWait), by decide +kernel⟩,
   ⟨upOn svc (fun b => { b with host.biLate := [(4, 0)] }), 0, 4, by decide +kernel⟩,
   ⟨upOn svc (fun b => b), 0, 4, by decide +kernel⟩,
   ⟨upOn svc (fun b => b), 0, 4, by decide +kernel⟩⟩

/-- States and operands that meet the hypotheses of the clauses of PortClassResets. -/
theorem witness_PortClassResets :
    (∃ s : State, ∃ p : Nat, ∃ n : Nat, ∃ r, (s.blk.aon = true) ∧ (p < 4) ∧ (n < 64) ∧ (r ∈ [PortReset.conventional p, .hot p, .linkDisable p])) ∧
    (∃ s : State, ∃ p : Nat, ∃ n : Nat, ∃ r, (s.blk.aon = true) ∧ (p < 4) ∧ (n < 64) ∧ (r ∈ [PortReset.conventional p, .hot p, .linkDisable p])) ∧
    (∃ s : State, ∃ p : Nat, ∃ n : Nat, ∃ r, (s.blk.aon = true) ∧ (p < 4) ∧ (n < 64) ∧ (r ∈ [PortReset.functionLevel n, .cxl n])) ∧
    (∃ s : State, ∃ p : Nat, ∃ n : Nat, ∃ r, (s.blk.aon = true) ∧ (p < 4) ∧ (n < 64) ∧ (r ∈ [PortReset.functionLevel n, .cxl n])) ∧
    (∃ s : State, ∃ p : Nat, ∃ n : Nat, ∃ on, (s.blk.aon = true) ∧ (p < 4) ∧ (n < 64) ∧ (s.now.pwr.sysRst = false) ∧ ((s.now.port p).disable = on)) ∧
    (∃ s : State, ∃ p : Nat, ∃ n : Nat, (s.blk.aon = true) ∧ (p < 4) ∧ (n < 64) ∧ (s.now.pwr.sysRst = false) ∧ ((s.now.port p).disable = false)) ∧
    (∃ s : State, ∃ p : Nat, ∃ n : Nat, (s.blk.aon = true) ∧ (p < 4) ∧ (n < 64) ∧ (s.now.pwr.sysRst = false) ∧ ((s.now.port p).disable = true)) ∧
    (∃ s : State, ∃ p : Nat, ∃ n : Nat, (s.blk.aon = true) ∧ (p < 4) ∧ (n < 64)) :=
  ⟨⟨upOn svc (fun b => b), 0, 63, PortReset.conventional 0, by decide +kernel⟩,
   ⟨upOn svc (fun b => b), 3, 0, PortReset.linkDisable 3, by decide +kernel⟩,
   ⟨upOn svc (fun b => { b with host.lds := [(63, { doorbell := true })] }), 0, 63, PortReset.functionLevel 63, by decide +kernel⟩,
   ⟨upOn svc (fun b => b), 0, 0, PortReset.cxl 0, by decide +kernel⟩,
   ⟨upOn svc (fun b => b), 0, 0, false, by decide +kernel⟩,
   ⟨upOn svc (fun b => b), 0, 0, by decide +kernel⟩,
   ⟨upOn svc (fun b => { b with host.ports := [(3, { disable := true, inReset := true, resets := [2] })] }), 3, 0, by decide +kernel⟩,
   ⟨upOn svc (fun b => b), 0, 0, by decide +kernel⟩⟩

/-- States and operands that meet the hypotheses of the clauses of LinkTrainingAndReplay. -/
theorem witness_LinkTrainingAndReplay :
    (∃ s : State, ∃ p : Nat, (s.blk.aon = true) ∧ (p < 4) ∧ (s.now.mayTrain p = false)) ∧
    (∃ s : State, ∃ p : Nat, (s.blk.aon = true) ∧ (p < 4) ∧ (s.now.mayTrain p = true) ∧ (s.now.pwr.stage ≠ .twilight)) ∧
    (∃ s : State, ∃ p : Nat, (s.blk.aon = true) ∧ (p < 4) ∧ (s.now.mayTrain p = true) ∧ (s.now.pwr.stage ≠ .twilight)) ∧
    (∃ s : State, ∃ p : Nat, (s.blk.aon = true) ∧ (p < 4) ∧ (s.now.mayTrain p = true) ∧ (s.now.pwr.stage = .twilight)) ∧
    (∃ s : State, ∃ p : Nat, (s.blk.aon = true) ∧ (p < 4) ∧ (s.now.pwr.sysRst = false)) ∧
    (∃ s : State, ∃ p : Nat, (s.blk.aon = true) ∧ (p < 4)) :=
  ⟨⟨upOn svc (fun b => b), 3, by decide +kernel⟩,
   ⟨upOn svc (fun b => b), 0, by decide +kernel⟩,
   ⟨upOn svc (fun b => b), 0, by decide +kernel⟩,
   ⟨up (fun b => { b with pwr.stage := .twilight, pwr.twilight := true, pwr.en := 1, cht.cur.ports := [(0, { enable := true, maxSpeed := 2, maxWidth := 2, ldCount := 1 })] }), 0, by decide +kernel⟩,
   ⟨upOn svc (fun b => b), 3, by decide +kernel⟩,
   ⟨upOn svc (fun b => b), 0, by decide +kernel⟩⟩

/-- States and operands that meet the hypotheses of the clauses of DecodersAndDynamicCapacity. -/
theorem witness_DecodersAndDynamicCapacity :
    (∃ s : State, ∃ ld : Nat, ∃ dec : Nat, ∃ base : Nat, ∃ size, ∃ ways : Nat, ∃ gran : Nat, ∃ bi, (s.blk.aon = true) ∧ (dec < 8) ∧ ((s.now.port (ld / 16)).present.testBit (ld % 16) = true) ∧ (interleaveOk ways gran = true) ∧ (s.now.models ld base size = (bi, !bi) ∨ s.now.models ld base size = (false, false))) ∧
    (∃ s : State, ∃ ld : Nat, ∃ dec : Nat, ∃ base : Nat, ∃ size, ∃ ways : Nat, ∃ gran : Nat, ∃ bi, (s.blk.aon = true) ∧ (dec < 8) ∧ ((s.now.port (ld / 16)).present.testBit (ld % 16) = true) ∧ (interleaveOk ways gran = true) ∧ (s.now.models ld base size = (true, true) ∨ s.now.models ld base size = (!bi, bi))) ∧
    (∃ s : State, ∃ t : Nat, ∃ se : Option Nat, (s.blk.aon = true) ∧ (s.now.mayWrite .service 0 0 (s.now.ownerSession t se) = false)) ∧
    (∃ s : State, ∃ t : Nat, ∃ se : Option Nat, (s.blk.aon = true) ∧ (s.now.mayWrite .service 0 0 (s.now.ownerSession t se) = false)) ∧
    (∃ s : State, ∃ ld : Nat, ∃ t : Nat, ∃ se : Option Nat, ∃ dc : Nat, (s.blk.aon = true) ∧ (s.now.mayWrite .service 0 0 (s.now.ownerSession t se) = true) ∧ ((s.now.dcRegions ld)[dc]? = none)) ∧
    (∃ s : State, ∃ ld : Nat, ∃ t : Nat, ∃ se : Option Nat, ∃ dc : Nat, ∃ len : Nat, ∃ r, (s.blk.aon = true) ∧ (s.now.mayWrite .service 0 0 (s.now.ownerSession t se) = true) ∧ ((s.now.dcRegions ld)[dc]? = some r) ∧ (len = 0 ∨ len % frame ≠ 0)) ∧
    (∃ s : State, ∃ ld : Nat, ∃ t : Nat, ∃ se : Option Nat, ∃ dc : Nat, ∃ len, ∃ r, (s.blk.aon = true) ∧ (s.now.mayWrite .service 0 0 (s.now.ownerSession t se) = true) ∧ ((s.now.dcRegions ld)[dc]? = some r) ∧ (len ≠ 0) ∧ (len % frame = 0) ∧ (runsOf (s.now.freeBlocks r) (len / frame) ≠ [])) ∧
    (∃ s : State, ∃ ld : Nat, ∃ t : Nat, ∃ se : Option Nat, ∃ base, ∃ size, (s.blk.aon = true) ∧ (s.now.mayWrite .service 0 0 (s.now.ownerSession t se) = true) ∧ ((s.now.ld ld).extents.find? (fun e => e.base = base && e.size = size) = none)) ∧
    (∃ s : State, ∃ ld : Nat, ∃ t : Nat, ∃ se : Option Nat, ∃ base, ∃ size, ∃ e : Extent, (s.blk.aon = true) ∧ (s.now.mayWrite .service 0 0 (s.now.ownerSession t se) = true) ∧ ((s.now.ld ld).extents.find? (fun e => e.base = base && e.size = size) = some e)) ∧
    (∃ s : State, ∃ ld : Nat, ∃ acc : List (Nat × Nat), ∃ new, (s.blk.aon = true) ∧ (s.now.mailboxRuns ld = true) ∧ (acc.all (fun a => (s.now.ld ld).offers.any (fun e => e.base = a.1 && e.size = a.2)) = true) ∧ (new = ((s.now.ld ld).offers.filter (fun e => acc.contains (e.base, e.size))).filter (fun e => !(s.now.ld ld).extents.contains e)) ∧ ((s.now.ld ld).extents.length + new.length ≤ (s.now.portCfg (ld / 16)).maxExtents)) ∧
    (∃ s : State, ∃ ld : Nat, ∃ a : Nat × Nat, (s.blk.aon = true) ∧ (s.now.mailboxRuns ld = true) ∧ ((s.now.ld ld).offers.any (fun e => e.base = a.1 && e.size = a.2) = false)) ∧
    (∃ s : State, ∃ ld : Nat, ∃ base, ∃ size, ∃ e : Extent, (s.blk.aon = true) ∧ (s.now.mailboxRuns ld = true) ∧ ((s.now.ld ld).extents.find? (fun e => e.base = base && e.size = size) = some e)) ∧
    (∃ s : State, ∃ ld : Nat, ∃ base, ∃ size, (s.blk.aon = true) ∧ (s.now.mailboxRuns ld = true) ∧ ((s.now.ld ld).extents.find? (fun e => e.base = base && e.size = size) = none)) ∧
    (∃ s : State, ∃ p : Nat, (s.blk.aon = true) ∧ ((s.now.port p).cxlMem = true)) ∧
    (∃ s : State, ∃ p : Nat, ∃ w : GpfWait, (s.blk.aon = true) ∧ (s.now.host.gpf.find? (fun w => w.port = p) = some w) ∧ (s.now.gpfReady w = true)) ∧
    (∃ s : State, ∃ p : Nat, ∃ w : GpfWait, (s.blk.aon = true) ∧ (s.now.host.gpf.find? (fun w => w.port = p) = some w) ∧ (s.now.gpfReady w = false)) :=
  ⟨⟨upOn svc (fun b => b), 0, 7, 0, 2 ^ 30, 1, 256, false, by decide +kernel⟩,
   ⟨upOn svc (fun b => b), 0, 0, 0, 2 ^ 30, 1, 256, true, by decide +kernel⟩,
   ⟨upOn dyn (fun b => { b with ident.lc := .sealedState }), 0, (none : Option Nat), by decide +kernel⟩,
   ⟨upOn dyn (fun b => { b with ident.lc := .sealedState }), 0, (none : Option Nat), by decide +kernel⟩,
   ⟨upOn svc (fun b => b), 0, 0, (none : Option Nat), 0, by decide +kernel⟩,
   ⟨upOn dyn (fun b => b), 0, 0, (none : Option Nat), 0, 1, region1, by decide +kernel⟩,
   ⟨upOn dyn (fun b => b), 0, 0, (none : Option Nat), 0, 2 ^ 28, region1, by decide +kernel⟩,
   ⟨upOn dyn (fun b => b), 0, 0, (none : Option Nat), 2 ^ 30, 2 ^ 28, by decide +kernel⟩,
   ⟨upOn dyn (fun b => { b with host.lds := [(0, { extents := [⟨1, 2 ^ 30, 2 ^ 28, 0⟩] })] }), 0, 0, (none : Option Nat), 2 ^ 30, 2 ^ 28, (⟨1, 2 ^ 30, 2 ^ 28, 0⟩ : Extent), by decide +kernel⟩,
   ⟨upOn dyn (fun b => { b with host.lds := [(0, { offers := [⟨1, 2 ^ 30, 2 ^ 28, 0⟩] })] }), 0, ([(2 ^ 30, 2 ^ 28)] : List (Nat × Nat)), ((((upOn dyn (fun b => { b with host.lds := [(0, { offers := [⟨1, 2 ^ 30, 2 ^ 28, 0⟩] })] })).now.ld (0)).offers.filter (fun e => (([(2 ^ 30, 2 ^ 28)] : List (Nat × Nat))).contains (e.base, e.size))).filter (fun e => !((upOn dyn (fun b => { b with host.lds := [(0, { offers := [⟨1, 2 ^ 30, 2 ^ 28, 0⟩] })] })).now.ld (0)).extents.contains e)), by refine ⟨?_, ?_, ?_, rfl, ?_⟩ <;> decide +kernel⟩,
   ⟨upOn dyn (fun b => b), 0, ((2 ^ 30, 2 ^ 28) : Nat × Nat), by decide +kernel⟩,
   ⟨upOn dyn (fun b => { b with host.lds := [(0, { extents := [⟨1, 2 ^ 30, 2 ^ 28, 0⟩] })] }), 0, 2 ^ 30, 2 ^ 28, (⟨1, 2 ^ 30, 2 ^ 28, 0⟩ : Extent), by decide +kernel⟩,
   ⟨upOn dyn (fun b => b), 0, 2 ^ 30, 2 ^ 28, by decide +kernel⟩,
   ⟨upOn svc (fun b => b), 0, by decide +kernel⟩,
   ⟨upOn svc (fun b => { b with host.gpf := [⟨0, []⟩] }), 0, (⟨0, []⟩ : GpfWait), by decide +kernel⟩,
   ⟨upOn svc (fun b => { b with host.gpf := [⟨0, [4]⟩], host.mirror := [{ tag := 4, src := none, addr := 0 }] }), 0, (⟨0, [4]⟩ : GpfWait), by decide +kernel⟩⟩

/-- States and operands that meet the hypotheses of the clauses of MailboxQueriesAnswer. -/
theorem witness_MailboxQueriesAnswer :
    (∃ s : State, ∃ ld : Nat, (s.blk.aon = true) ∧ (s.now.mailboxRuns ld = true)) ∧
    (∃ s : State, ∃ ld : Nat, (s.blk.aon = true) ∧ (s.now.mailboxRuns ld = true)) ∧
    (∃ s : State, ∃ ld : Nat, (s.blk.aon = true) ∧ (s.now.mailboxRuns ld = true)) ∧
    (∃ s : State, ∃ ld : Nat, ∃ n : Nat, (s.blk.aon = true) ∧ (s.now.mailboxRuns ld = true) ∧ (n ≠ 0)) ∧
    (∃ s : State, ∃ ld : Nat, (s.blk.aon = true) ∧ (s.now.mailboxRuns ld = true)) ∧
    (∃ s : State, ∃ ld : Nat, (s.blk.aon = true) ∧ (s.now.mailboxRuns ld = true)) ∧
    (∃ s : State, ∃ ld : Nat, ∃ op, ∃ input : List Byte, (s.blk.aon = true) ∧ (s.now.mailboxRuns ld = true) ∧ (op ∉ mboxOpcodes) ∧ (input.length ≤ 32768)) ∧
    (∃ s : State, ∃ ld : Nat, (s.blk.aon = true) ∧ (s.now.mailboxRuns ld = true)) ∧
    (∃ s : State, ∃ ld : Nat, ∃ start : Nat, ∃ mx : Nat, ∃ rs : List Region, (s.blk.aon = true) ∧ (s.now.mailboxRuns ld = true) ∧ (rs = s.now.cht.cur.regions.filter (fun r => s.now.maskHas r ld)) ∧ (mx ≤ 1000) ∧ (start ≤ rs.length)) ∧
    (∃ s : State, ∃ ld : Nat, ∃ mx : Nat, (s.blk.aon = true) ∧ (s.now.mailboxRuns ld = true) ∧ (1000 < mx)) ∧
    (∃ s : State, ∃ ld : Nat, (s.blk.aon = true) ∧ (s.now.mailboxRuns ld = true)) ∧
    (∃ s : State, ∃ ld : Nat, ∃ n : Nat, (s.blk.aon = true) ∧ (s.now.mailboxRuns ld = true) ∧ (n ≠ 0)) :=
  ⟨⟨upOn svc (fun b => b), 0, by decide +kernel⟩,
   ⟨upOn svc (fun b => b), 0, by decide +kernel⟩,
   ⟨upOn svc (fun b => b), 0, by decide +kernel⟩,
   ⟨upOn svc (fun b => b), 0, 1, by decide +kernel⟩,
   ⟨upOn svc (fun b => b), 0, by decide +kernel⟩,
   ⟨upOn svc (fun b => b), 0, by decide +kernel⟩,
   ⟨upOn svc (fun b => b), 0, 0x1234, ([] : List Byte), by decide +kernel⟩,
   ⟨upOn svc (fun b => b), 0, by decide +kernel⟩,
   ⟨upOn svc (fun b => b), 0, 1, 1000, ([region0] : List Region), by refine ⟨?_, ?_, rfl, ?_⟩ <;> decide +kernel⟩,
   ⟨upOn svc (fun b => b), 0, 1001, by decide +kernel⟩,
   ⟨upOn svc (fun b => b), 0, by decide +kernel⟩,
   ⟨upOn svc (fun b => b), 0, 1, by decide +kernel⟩⟩

/-- States and operands that meet the hypotheses of the clauses of MailboxChangesState. -/
theorem witness_MailboxChangesState :
    (∃ s : State, ∃ ld : Nat, (s.blk.aon = true) ∧ (s.now.mailboxRuns ld = true)) ∧
    (∃ s : State, ∃ ld : Nat, (s.blk.aon = true) ∧ (s.now.mailboxRuns ld = true)) ∧
    (∃ s : State, ∃ ld : Nat, ∃ dpa : Nat, (s.blk.aon = true) ∧ (s.now.mailboxRuns ld = true) ∧ (s.now.ident.lc ≠ .sealedState ∨ s.now.mgt.permit.injectPoison = true) ∧ (s.now.reach ld dpa = .ok) ∧ (s.now.poisonWaits dpa = false)) ∧
    (∃ s : State, ∃ ld : Nat, (s.blk.aon = true) ∧ (s.now.mailboxRuns ld = true) ∧ (s.now.ident.lc = .sealedState) ∧ (s.now.mgt.permit.injectPoison = false)) ∧
    (∃ s : State, ∃ ld : Nat, ∃ dpa : Nat, (s.blk.aon = true) ∧ (s.now.mailboxRuns ld = true) ∧ (s.now.reach ld dpa = .ok) ∧ (s.now.poisonWaits dpa = false)) ∧
    (∃ s : State, ∃ ld : Nat, ∃ dpa, (s.blk.aon = true) ∧ (s.now.mailboxRuns ld = true) ∧ (s.now.reach ld dpa ≠ .ok)) ∧
    (∃ s : State, ∃ ld : Nat, ∃ dpa : Nat, ∃ len, (s.blk.aon = true) ∧ (s.now.mailboxRuns ld = true) ∧ (s.now.inView ld dpa len = true)) ∧
    (∃ s : State, ∃ ld : Nat, ∃ dpa : Nat, ∃ len, (s.blk.aon = true) ∧ (s.now.mailboxRuns ld = true) ∧ (s.now.inView ld dpa len = false)) ∧
    (∃ s : State, ∃ ld : Nat, ∃ dpa : Nat, ∃ len : Nat, (s.blk.aon = true) ∧ ((s.now.ld ld).scan = some (dpa, len))) ∧
    (∃ s : State, ∃ ld : Nat, (s.blk.aon = true) ∧ ((s.now.ld ld).scan = none)) ∧
    (∃ s : State, ∃ ld : Nat, (s.blk.aon = true) ∧ ((s.now.ld ld).doorbell = true)) ∧
    (∃ s : State, ∃ ld : Nat, (s.blk.aon = true) ∧ ((s.now.ld ld).doorbell = true) ∧ ((s.now.port (ld / 16)).present.testBit (ld % 16) = true) ∧ ((s.now.port (ld / 16)).inReset = false) ∧ ((s.now.ld ld).resetting = false)) ∧
    (∃ s : State, ∃ ld : Nat, (s.blk.aon = true) ∧ ((s.now.ld ld).doorbell = false)) ∧
    (∃ s : State, ∃ ld : Nat, (s.blk.aon = true) ∧ ((s.now.port (ld / 16)).present.testBit (ld % 16) = true) ∧ ((s.now.port (ld / 16)).inReset = false) ∧ ((s.now.ld ld).resetting = false) ∧ ((s.now.ld ld).doorbell = false) ∧ (s.now.mboxWaits = true)) :=
  ⟨⟨upOn svc (fun b => b), 0, by decide +kernel⟩,
   ⟨upOn svc (fun b => { b with host.lds := [(0, { logs := [(0, { recs := [.generalMedia 4] })] })] }), 0, by decide +kernel⟩,
   ⟨upOn svc (fun b => b), 0, 0, by decide +kernel⟩,
   ⟨upOn svc (fun b => { b with ident.lc := .sealedState }), 0, by decide +kernel⟩,
   ⟨upOn svc (fun b => b), 0, 0, by decide +kernel⟩,
   ⟨upOn svc (fun b => b), 0, 2 ^ 30, by decide +kernel⟩,
   ⟨upOn svc (fun b => b), 0, 0, 2 ^ 30, by decide +kernel⟩,
   ⟨upOn svc (fun b => b), 0, 0, 2 ^ 30 + 1, by decide +kernel⟩,
   ⟨upOn svc (fun b => { b with host.lds := [(0, { scan := some (0, 128) })] }), 0, 0, 128, by decide +kernel⟩,
   ⟨upOn svc (fun b => b), 0, by decide +kernel⟩,
   ⟨upOn svc (fun b => { b with host.lds := [(0, { doorbell := true })] }), 0, by decide +kernel⟩,
   ⟨upOn svc (fun b => { b with host.lds := [(0, { doorbell := true })] }), 0, by decide +kernel⟩,
   ⟨upOn svc (fun b => b), 0, by decide +kernel⟩,
   ⟨upOn svc (fun b => { b with fw.restarting := true }), 0, by decide +kernel⟩⟩

/-- States and operands that meet the hypotheses of the clauses of FirmwareRestarts. -/
theorem witness_FirmwareRestarts :
    (∃ s : State, (s.blk.aon = true) ∧ (s.now.inDusk = true ∨ s.now.pwr.stage = .twilight)) ∧
    (∃ s : State, (s.blk.aon = true) ∧ (s.now.inDusk = true ∨ s.now.pwr.stage = .twilight)) ∧
    (∃ s : State, (s.blk.aon = true) ∧ (s.now.inDusk = false) ∧ (s.now.pwr.stage ≠ .twilight)) ∧
    (∃ s : State, ∃ ld : Nat, (s.blk.aon = true) ∧ ((s.now.port (ld / 16)).present.testBit (ld % 16) = true) ∧ ((s.now.port (ld / 16)).inReset = false) ∧ ((s.now.ld ld).resetting = false) ∧ ((s.now.ld ld).doorbell = false) ∧ (s.now.fw.restarting = true)) ∧
    (∃ s : State, (s.blk.aon = true) ∧ (s.now.fw.restarting = true) ∧ (s.now.fw.paused = false) ∧ (s.now.mgt.activating = false) ∧ (s.now.nvf.rebuilding = true ∨ s.now.rebuildList = [])) ∧
    (∃ s : State, (s.blk.aon = true) ∧ (s.now.fw.restarting = true) ∧ (s.now.fw.paused = false) ∧ (s.now.mgt.activating = true) ∧ (s.now.nvf.rebuilding = true)) ∧
    (∃ s : State, (s.blk.aon = true) ∧ (s.now.fw.restarting = false ∨ s.now.fw.paused = true)) ∧
    (∃ s : State, (s.blk.aon = true) ∧ (s.now.fw.restarting = false ∨ s.now.fw.paused = true)) ∧
    (∃ s : State, (s.blk.aon = true) ∧ (s.now.fw.restarting = true) ∧ (s.now.fw.paused = false) ∧ (s.now.fw.retried = false) ∧ (s.now.mgt.activating = false)) ∧
    (∃ s : State, (s.blk.aon = true) ∧ (s.now.fw.restarting = true) ∧ (s.now.fw.paused = false) ∧ (s.now.fw.retried = true) ∧ (s.now.paired = false)) :=
  ⟨⟨up (fun b => { b with pwr.stage := .twilight }), by decide +kernel⟩,
   ⟨upOn svc (fun b => { b with pers.dusk := some {} }), by decide +kernel⟩,
   ⟨upOn svc (fun b => b), by decide +kernel⟩,
   ⟨upOn svc (fun b => { b with fw.restarting := true }), 0, by decide +kernel⟩,
   ⟨upOn svc (fun b => { b with fw.restarting := true }), by decide +kernel⟩,
   ⟨upOn svc (fun b => { b with fw.restarting := true, mgt.activating := true, nvf.rebuilding := true }), by decide +kernel⟩,
   ⟨upOn svc (fun b => b), by decide +kernel⟩,
   ⟨upOn svc (fun b => { b with fw.restarting := true, fw.paused := true }), by decide +kernel⟩,
   ⟨upOn svc (fun b => { b with fw.restarting := true }), by decide +kernel⟩,
   ⟨upOn svc (fun b => { b with fw.restarting := true, fw.retried := true }), by decide +kernel⟩⟩

/-- States and operands that meet the hypotheses of the clauses of HaloTimersAndHeldHalves. -/
theorem witness_HaloTimersAndHeldHalves :
    (∃ s : State, ∃ phys : Phys, ∃ l : Nat, (s.blk.aon = true) ∧ (phys.halo = []) ∧ (SMap.find? s.now.halo.mb l = none) ∧ (s.now.haloFind l = none)) ∧
    (∃ s : State, ∃ phys : Phys, ∃ l : Nat, ∃ k : Nat, ∃ x : HaloLine, (s.blk.aon = true) ∧ (phys.halo = []) ∧ (SMap.find? s.now.halo.mb l = none) ∧ (s.now.haloFind l = some (k, x)) ∧ (x.fixing.isSome = true)) ∧
    (∃ s : State, ∃ phys : Phys, ∃ l : Nat, ∃ e : MbEntry, (s.blk.aon = true) ∧ (phys.halo = []) ∧ (SMap.find? s.now.halo.mb l = some e) ∧ (e.full = true) ∧ ((e.foreign || s.now.streaming l || (s.now.partCfg e.part).noAllocate) = true) ∧ (s.now.haloFind l = none)) ∧
    (∃ s : State, (s.blk.aon = true) ∧ (s.now.host.held.find? s.now.entryFree = none)) ∧
    (∃ s : State, ∃ o : HeldReq, (s.blk.aon = true) ∧ (s.now.host.held.find? s.now.entryFree = some o)) ∧
    (∃ s : State, (s.blk.aon = true) ∧ (s.now.halo.waitClose = []) ∧ (s.now.host.held.find? (fun x => x.why == .victim) = none)) ∧
    (∃ s : State, ∃ o : HeldReq, (s.blk.aon = true) ∧ (s.now.halo.waitClose = []) ∧ (s.now.host.held.find? (fun x => x.why == .victim) = some o)) ∧
    (∃ s : State, ∃ l : Nat, ∃ ws : List (Nat × Nat), (s.blk.aon = true) ∧ (s.now.halo.waitClose = (l, 0) :: ws)) ∧
    (∃ s : State, (s.blk.aon = true) ∧ (s.now.halo.holding = false)) ∧
    (∃ s : State, (s.blk.aon = true) ∧ (s.now.halo.holding = true) ∧ (s.now.paired = false)) :=
  ⟨⟨upOn svc (fun b => b), ({} : Phys), 5, by decide +kernel⟩,
   ⟨upOn svc (fun b => { b with halo.lines := [(0, { line := 0, data := 5, fixing := some 1 })] }), ({} : Phys), 0, 0, ({ line := 0, data := 5, fixing := some 1 } : HaloLine), by decide +kernel⟩,
   ⟨upOn svc (fun b => { b with halo.mb := [(4, { half0 := some 1, half1 := some 2, foreign := true })] }), ({} : Phys), 4, ({ half0 := some 1, half1 := some 2, foreign := true } : MbEntry), by decide +kernel⟩,
   ⟨upOn svc (fun b => b), by decide +kernel⟩,
   ⟨upOn svc (fun b => { b with host.held := [⟨.mergeFull 0, { src := .host 0 0, dpa := 0, write := some (1, false) }⟩] }), (⟨.mergeFull 0, { src := .host 0 0, dpa := 0, write := some (1, false) }⟩ : HeldReq), by decide +kernel⟩,
   ⟨upOn svc (fun b => b), by decide +kernel⟩,
   ⟨upOn svc (fun b => { b with host.held := [⟨.victim, { src := .host 0 0, dpa := 0, write := none }⟩] }), (⟨.victim, { src := .host 0 0, dpa := 0, write := none }⟩ : HeldReq), by decide +kernel⟩,
   ⟨upOn svc (fun b => { b with halo.waitClose := [(4, 0)], halo.mb := [(4, { half0 := some 1, half1 := some 2, foreign := true })] }), 4, ([] : List (Nat × Nat)), by decide +kernel⟩,
   ⟨upOn svc (fun b => b), by decide +kernel⟩,
   ⟨upOn svc (fun b => { b with halo.holding := true }), by decide +kernel⟩⟩

/-- States and operands that meet the hypotheses of the clauses of SpdmNegotiationAndCertificates. -/
theorem witness_SpdmNegotiationAndCertificates :
    (∃ s : State, (s.blk.aon = true) ∧ (s.now.ident.loaded = true)) ∧
    (∃ s : State, ∃ v, (s.blk.aon = true) ∧ (s.now.ident.loaded = true) ∧ (v = 0x12 ∨ v = 0x13)) ∧
    (∃ s : State, ∃ v, (s.blk.aon = true) ∧ (s.now.ident.loaded = true) ∧ (v = 0x12 ∨ v = 0x13)) ∧
    (∃ s : State, ∃ v, (s.blk.aon = true) ∧ (s.now.ident.loaded = true) ∧ (v ≠ 0x12) ∧ (v ≠ 0x13)) ∧
    (∃ s : State, ∃ t : Nat, (s.blk.aon = true) ∧ (s.now.ident.loaded = true) ∧ ((s.now.conn t).capabilities = true)) ∧
    (∃ s : State, ∃ t : Nat, (s.blk.aon = true) ∧ (s.now.ident.loaded = true) ∧ ((s.now.conn t).capabilities = false)) ∧
    (∃ s : State, ∃ t : Nat, (s.blk.aon = true) ∧ (s.now.ident.loaded = true) ∧ (s.now.ident.lc ≠ .returned) ∧ ((s.now.conn t).algorithms = true)) ∧
    (∃ s : State, ∃ t : Nat, ∃ slot : Nat, ∃ c : List Byte, ∃ off : Nat, (s.blk.aon = true) ∧ (s.now.ident.loaded = true) ∧ (s.now.ident.lc ≠ .returned) ∧ ((s.now.conn t).algorithms = true) ∧ (s.now.chainOf slot = some c) ∧ (off ≤ c.length)) ∧
    (∃ s : State, ∃ t : Nat, ∃ slot : Nat, (s.blk.aon = true) ∧ (s.now.ident.loaded = true) ∧ (s.now.ident.lc ≠ .returned) ∧ ((s.now.conn t).algorithms = true) ∧ (s.now.chainOf slot = none)) ∧
    (∃ s : State, ∃ t : Nat, ∃ slot : Nat, ∃ k, ∃ c : List Byte, (s.blk.aon = true) ∧ (s.now.ident.loaded = true) ∧ (s.now.ident.lc ≠ .returned) ∧ ((s.now.conn t).algorithms = true) ∧ (s.now.slotKey slot = some k) ∧ (s.now.chainOf slot = some c)) ∧
    (∃ s : State, ∃ t : Nat, (s.blk.aon = true) ∧ (s.now.ident.loaded = true) ∧ (s.now.ident.lc ≠ .returned) ∧ ((s.now.conn t).algorithms = false)) ∧
    (∃ s : State, ∃ t : Nat, (s.blk.aon = true) ∧ (s.now.ident.loaded = true) ∧ (s.now.ident.lc ≠ .returned) ∧ ((s.now.conn t).algorithms = false)) ∧
    (∃ s : State, ∃ t : Nat, (s.blk.aon = true) ∧ (s.now.ident.loaded = true) ∧ (s.now.ident.lc ≠ .returned) ∧ ((s.now.conn t).algorithms = false)) ∧
    (∃ s : State, (s.blk.aon = true) ∧ (s.now.ident.loaded = true) ∧ (s.now.ident.lc = .returned)) ∧
    (∃ s : State, (s.blk.aon = true) ∧ (s.now.ident.loaded = true) ∧ (s.now.ident.lc = .returned)) ∧
    (∃ s : State, (s.blk.aon = true) ∧ (s.now.ident.loaded = true) ∧ (s.now.ident.lc = .returned)) ∧
    (∃ s : State, (s.blk.aon = true) ∧ (s.now.ident.loaded = false)) :=
  ⟨⟨up (fun b => { b with ident.loaded := true }), by decide +kernel⟩,
   ⟨up (fun b => { b with ident.loaded := true }), 0x12, by decide +kernel⟩,
   ⟨up (fun b => { b with ident.loaded := true }), 0x13, by decide +kernel⟩,
   ⟨up (fun b => { b with ident.loaded := true }), 0x11, by decide +kernel⟩,
   ⟨up (fun b => { b with ident.loaded := true, ident.conns := [(0, { version := 18, capabilities := true })] }), 0, by decide +kernel⟩,
   ⟨up (fun b => { b with ident.loaded := true }), 0, by decide +kernel⟩,
   ⟨up (fun b => { b with ident.loaded := true, ident.conns := [(0, { version := 18, capabilities := true, algorithms := true })] }), 0, by decide +kernel⟩,
   ⟨up (fun b => { b with ident.loaded := true, ident.identityChain := [1, 2, 3], ident.conns := [(0, { version := 18, capabilities := true, algorithms := true })] }), 0, 0, ([1, 2, 3] : List Byte), 3, by decide +kernel⟩,
   ⟨up (fun b => { b with ident.loaded := true, ident.conns := [(0, { version := 18, capabilities := true, algorithms := true })] }), 0, 1, by decide +kernel⟩,
   ⟨up (fun b => { b with ident.loaded := true, ident.fuse.salt0 := 1, ident.fuse.salt1 := 1, ident.conns := [(0, { version := 18, capabilities := true, algorithms := true })] }), 0, 0, (Config.shake256 57 (bitsBytes 32 (0 : BitVec 256) ++ natLe 32 1 ++ ascii "TXA-9480 IDENTITY v1")), ([] : List Byte), ⟨by decide +kernel, by decide +kernel, by decide +kernel, by decide +kernel, rfl, rfl⟩⟩,
   ⟨up (fun b => { b with ident.loaded := true }), 0, by decide +kernel⟩,
   ⟨up (fun b => { b with ident.loaded := true }), 0, by decide +kernel⟩,
   ⟨up (fun b => { b with ident.loaded := true }), 0, by decide +kernel⟩,
   ⟨up (fun b => { b with ident.loaded := true, ident.lc := .returned }), by decide +kernel⟩,
   ⟨up (fun b => { b with ident.loaded := true, ident.lc := .returned }), by decide +kernel⟩,
   ⟨up (fun b => { b with ident.loaded := true, ident.lc := .returned }), by decide +kernel⟩,
   ⟨up id, by decide +kernel⟩⟩

/-- States and operands that meet the hypotheses of the clauses of SpdmSessionsAndIde. -/
theorem witness_SpdmSessionsAndIde :
    (∃ s : State, ∃ t : Nat, ∃ i : Nat, (s.blk.aon = true) ∧ (s.now.ident.loaded = true) ∧ (s.now.ident.lc ≠ .returned) ∧ ((s.now.conn t).algorithms = true) ∧ (1 ≤ i) ∧ (i ≤ 7)) ∧
    (∃ s : State, ∃ t : Nat, ∃ i : Nat, (s.blk.aon = true) ∧ (s.now.ident.loaded = true) ∧ (s.now.ident.lc ≠ .returned) ∧ ((s.now.conn t).algorithms = true) ∧ (1 ≤ i) ∧ (i ≤ 7)) ∧
    (∃ s : State, ∃ t : Nat, ∃ i : Nat, ∃ slot : Nat, ∃ k, ∃ body : List Byte, (s.blk.aon = true) ∧ (s.now.ident.loaded = true) ∧ (s.now.ident.lc ≠ .returned) ∧ ((s.now.conn t).algorithms = true) ∧ (1 ≤ i) ∧ (i ≤ 7) ∧ (s.now.slotKey slot = some k) ∧ (body = 1 :: (natLe 3 (s.now.measureBlock i).length ++ s.now.measureBlock i))) ∧
    (∃ s : State, ∃ t : Nat, ∃ i : Nat, (s.blk.aon = true) ∧ (s.now.ident.loaded = true) ∧ (s.now.ident.lc ≠ .returned) ∧ ((s.now.conn t).algorithms = true) ∧ (7 < i) ∧ (i ≠ 0xFF)) ∧
    (∃ s : State, ∃ t : Nat, ∃ i, (s.blk.aon = true) ∧ (s.now.ident.loaded = true) ∧ (s.now.ident.lc ≠ .returned) ∧ ((s.now.conn t).algorithms = true) ∧ (7 < i) ∧ (i ≠ 0xFF)) ∧
    (∃ s : State, ∃ t : Nat, ∃ slot : Nat, ∃ k, (s.blk.aon = true) ∧ (s.now.ident.loaded = true) ∧ (s.now.ident.lc ≠ .returned) ∧ ((s.now.conn t).algorithms = true) ∧ (s.now.ident.sessions.length < 8) ∧ (s.now.slotKey slot = some k)) ∧
    (∃ s : State, ∃ t : Nat, (s.blk.aon = true) ∧ (s.now.ident.loaded = true) ∧ (s.now.ident.lc ≠ .returned) ∧ ((s.now.conn t).algorithms = true) ∧ (8 ≤ s.now.ident.sessions.length)) ∧
    (∃ s : State, ∃ t : Nat, ∃ id : Nat, ∃ x : Session, (s.blk.aon = true) ∧ (s.now.ident.loaded = true) ∧ (s.now.ident.lc ≠ .returned) ∧ ((s.now.conn t).algorithms = true) ∧ (s.now.session t id = some x) ∧ (x.established = false)) ∧
    (∃ s : State, ∃ t : Nat, ∃ id : Nat, ∃ x : Session, (s.blk.aon = true) ∧ (s.now.ident.loaded = true) ∧ (s.now.ident.lc ≠ .returned) ∧ ((s.now.conn t).algorithms = true) ∧ (s.now.session t id = some x) ∧ (x.established = true)) ∧
    (∃ s : State, ∃ t : Nat, ∃ id : Nat, (s.blk.aon = true) ∧ (s.now.ident.loaded = true) ∧ (s.now.ident.lc ≠ .returned) ∧ ((s.now.conn t).algorithms = true) ∧ (s.now.session t id = none)) ∧
    (∃ s : State, ∃ t : Nat, ∃ id : Nat, ∃ x : Session, ∃ p : Nat, (s.blk.aon = true) ∧ (s.now.ident.loaded = true) ∧ (s.now.ident.lc ≠ .returned) ∧ (s.now.session t id = some x) ∧ (x.established = true) ∧ (p < 4)) ∧
    (∃ s : State, ∃ t : Nat, ∃ id : Nat, ∃ x : Session, ∃ p : Nat, (s.blk.aon = true) ∧ (s.now.ident.loaded = true) ∧ (s.now.ident.lc ≠ .returned) ∧ (s.now.session t id = some x) ∧ (x.established = true) ∧ (p < 4) ∧ ((s.now.port p).ideKeys = true)) ∧
    (∃ s : State, ∃ t : Nat, ∃ id : Nat, ∃ x : Session, ∃ p : Nat, (s.blk.aon = true) ∧ (s.now.ident.loaded = true) ∧ (s.now.ident.lc ≠ .returned) ∧ (s.now.session t id = some x) ∧ (x.established = true) ∧ (p < 4) ∧ ((s.now.port p).ideIoKeys = true)) ∧
    (∃ s : State, ∃ t : Nat, ∃ id : Nat, ∃ x : Session, ∃ p : Nat, (s.blk.aon = true) ∧ (s.now.ident.loaded = true) ∧ (s.now.ident.lc ≠ .returned) ∧ (s.now.session t id = some x) ∧ (x.established = true) ∧ (p < 4)) ∧
    (∃ s : State, ∃ t : Nat, ∃ id : Nat, (s.blk.aon = true) ∧ (s.now.ident.loaded = true) ∧ (s.now.ident.lc ≠ .returned) ∧ (s.now.session t id = none)) :=
  ⟨⟨upOn spdm (fun b => b), 0, 1, by decide +kernel⟩,
   ⟨upOn spdm (fun b => b), 0, 7, by decide +kernel⟩,
   ⟨upOn spdm (fun b => { b with ident.fuse.salt0 := 1, ident.fuse.salt1 := 1 }), 0, 1, 0, (Config.shake256 57 (bitsBytes 32 (0 : BitVec 256) ++ natLe 32 1 ++ ascii "TXA-9480 IDENTITY v1")), (1 :: (natLe 3 (spdm.now.measureBlock 1).length ++ spdm.now.measureBlock 1) : List Byte), ⟨by decide +kernel, by decide +kernel, by decide +kernel, by decide +kernel, by decide +kernel, by decide +kernel, rfl, rfl⟩⟩,
   ⟨upOn spdm (fun b => b), 0, 8, by decide +kernel⟩,
   ⟨upOn spdm (fun b => b), 0, 0xFE, by decide +kernel⟩,
   ⟨upOn spdm (fun b => { b with ident.fuse.salt0 := 1, ident.fuse.salt1 := 1 }), 0, 0, (Config.shake256 57 (bitsBytes 32 (0 : BitVec 256) ++ natLe 32 1 ++ ascii "TXA-9480 IDENTITY v1")), ⟨by decide +kernel, by decide +kernel, by decide +kernel, by decide +kernel, by decide +kernel, rfl⟩⟩,
   ⟨upOn spdm (fun b => { b with ident.sessions := List.replicate 8 ⟨0, 0, false, false, 0⟩ }), 0, by decide +kernel⟩,
   ⟨upOn spdm (fun b => { b with ident.sessions := [⟨5, 0, false, false, 0⟩] }), 0, 5, (⟨5, 0, false, false, 0⟩ : Session), by decide +kernel⟩,
   ⟨upOn spdm (fun b => { b with ident.sessions := [⟨5, 0, false, true, 0⟩] }), 0, 5, (⟨5, 0, false, true, 0⟩ : Session), by decide +kernel⟩,
   ⟨upOn spdm (fun b => { b with ident.sessions := [⟨5, 1, false, true, 0⟩] }), 0, 5, by decide +kernel⟩,
   ⟨upOn spdm (fun b => { b with ident.sessions := [⟨5, 0, false, true, 0⟩] }), 0, 5, (⟨5, 0, false, true, 0⟩ : Session), 3, by decide +kernel⟩,
   ⟨upOn spdm (fun b => { b with ident.sessions := [⟨5, 0, false, true, 0⟩], host.ports := [(3, { ideKeys := true })] }), 0, 5, (⟨5, 0, false, true, 0⟩ : Session), 3, by decide +kernel⟩,
   ⟨upOn spdm (fun b => { b with ident.sessions := [⟨5, 0, false, true, 0⟩], host.ports := [(3, { ideIoKeys := true })] }), 0, 5, (⟨5, 0, false, true, 0⟩ : Session), 3, by decide +kernel⟩,
   ⟨upOn spdm (fun b => { b with ident.sessions := [⟨5, 0, false, true, 0⟩], host.ports := [(0, { ideActive := true })] }), 0, 5, (⟨5, 0, false, true, 0⟩ : Session), 0, by decide +kernel⟩,
   ⟨upOn spdm (fun b => b), 0, 0, by decide +kernel⟩⟩

/-- States and operands that meet the hypotheses of the clauses of OwnerInstallationAndSealing. -/
theorem witness_OwnerInstallationAndSealing :
    (∃ s : State, (s.blk.aon = true) ∧ (s.now.pwr.sysRst = false) ∧ (s.now.ident.loaded = true) ∧ (s.now.ident.state ≠ .busy) ∧ (s.now.ident.lc = .provision) ∧ (s.now.ident.fuse.seed0 = 0) ∧ (s.now.ident.fuse.seed1 = 0) ∧ (s.now.ident.fuse.key0 = 0) ∧ (s.now.ident.fuse.key1 = 0)) ∧
    (∃ s : State, (s.blk.aon = true) ∧ (s.now.pwr.sysRst = false) ∧ (s.now.ident.loaded = true) ∧ (s.now.ident.state ≠ .busy) ∧ (s.now.ident.lc = .provision ∨ s.now.ident.lc = .sealedState)) ∧
    (∃ s : State, ∃ arg : Nat, (s.blk.aon = true) ∧ (s.now.pwr.sysRst = false) ∧ (s.now.ident.loaded = true) ∧ (s.now.ident.state ≠ .busy) ∧ (s.now.ident.lc = .provision ∨ s.now.ident.lc = .sealedState) ∧ (s.now.ident.ownerKeyId.isSome = true) ∧ (16 ≤ arg % 2 ^ 15)) ∧
    (∃ s : State, ∃ arg : Nat, (s.blk.aon = true) ∧ (s.now.pwr.sysRst = false) ∧ (s.now.ident.loaded = true) ∧ (s.now.ident.state ≠ .busy) ∧ (s.now.ident.lc = .provision ∨ s.now.ident.lc = .sealedState) ∧ (s.now.ident.ownerKeyId.isSome = true) ∧ (arg < 16)) ∧
    (∃ s : State, (s.blk.aon = true) ∧ (s.now.pwr.sysRst = false) ∧ (s.now.ident.loaded = true) ∧ (s.now.ident.state ≠ .busy) ∧ (s.now.ident.lc = .provision) ∧ (s.now.ident.ownerKeyId.isSome = true) ∧ (s.now.ident.debugOpen = false)) ∧
    (∃ s : State, ∃ x : Running, (s.blk.aon = true) ∧ (s.now.pwr.sysRst = false) ∧ (s.now.ident.loaded = true) ∧ (s.now.ident.state ≠ .busy) ∧ (s.now.ident.lc = .provision ∨ s.now.ident.lc = .sealedState) ∧ (s.now.mgt.running = some x) ∧ (x.svn < s.now.ident.fuse.svn)) ∧
    (∃ s : State, ∃ x : Running, (s.blk.aon = true) ∧ (s.now.pwr.sysRst = false) ∧ (s.now.ident.loaded = true) ∧ (s.now.ident.state ≠ .busy) ∧ (s.now.ident.lc = .provision ∨ s.now.ident.lc = .sealedState) ∧ (s.now.mgt.running = some x) ∧ (s.now.ident.fuse.svn ≤ x.svn)) ∧
    (∃ s : State, ∃ x : Running, (s.blk.aon = true) ∧ (s.now.pwr.sysRst = false) ∧ (s.now.ident.loaded = true) ∧ (s.now.ident.state ≠ .busy) ∧ (s.now.ident.lc = .provision ∨ s.now.ident.lc = .sealedState) ∧ (s.now.mgt.running = some x) ∧ (s.now.ident.fuse.svn ≤ x.svn)) ∧
    (∃ s : State, (s.blk.aon = true) ∧ (s.now.pwr.sysRst = false) ∧ (s.now.ident.loaded = true) ∧ (s.now.ident.state ≠ .busy) ∧ (s.now.ident.lc = .foundry)) :=
  ⟨⟨up (fun b => { b with ident.loaded := true, ident.lc := .provision }), by decide +kernel⟩,
   ⟨up (fun b => { b with ident.loaded := true, ident.lc := .sealedState }), by decide +kernel⟩,
   ⟨up (fun b => { b with ident.loaded := true, ident.lc := .provision, ident.ownerKeyId := some [1] }), 16, by decide +kernel⟩,
   ⟨up (fun b => { b with ident.loaded := true, ident.lc := .provision, ident.ownerKeyId := some [1] }), 15, by decide +kernel⟩,
   ⟨up (fun b => { b with ident.loaded := true, ident.lc := .provision, ident.ownerKeyId := some [1] }), by decide +kernel⟩,
   ⟨up (fun b => { b with ident.loaded := true, ident.lc := .sealedState, ident.fuse.fwSvn := 7, mgt.running := some { svn := 2 } }), ({ svn := 2 } : Running), by decide +kernel⟩,
   ⟨up (fun b => { b with ident.loaded := true, ident.lc := .provision, ident.fuse.fwSvn := 7, mgt.running := some { svn := 64 } }), ({ svn := 64 } : Running), by decide +kernel⟩,
   ⟨up (fun b => { b with ident.loaded := true, ident.lc := .provision, ident.fuse.fwSvn := 7, mgt.running := some { svn := 3 } }), ({ svn := 3 } : Running), by decide +kernel⟩,
   ⟨up (fun b => { b with ident.loaded := true }), by decide +kernel⟩⟩

/-- States and operands that meet the hypotheses of the clauses of DebugReturnAndTap. -/
theorem witness_DebugReturnAndTap :
    (∃ s : State, (s.blk.aon = true) ∧ (s.now.pwr.sysRst = false) ∧ (s.now.ident.loaded = true) ∧ (s.now.ident.state ≠ .busy) ∧ (s.now.ident.lc = .provision ∨ s.now.ident.lc = .returned)) ∧
    (∃ s : State, (s.blk.aon = true) ∧ (s.now.pwr.sysRst = false) ∧ (s.now.ident.loaded = true) ∧ (s.now.ident.state ≠ .busy) ∧ (s.now.ident.lc = .provision ∨ s.now.ident.lc = .returned) ∧ (s.now.ident.debugNonce = none)) ∧
    (∃ s : State, ∃ n : List Byte, (s.blk.aon = true) ∧ (s.now.pwr.sysRst = false) ∧ (s.now.ident.loaded = true) ∧ (s.now.ident.state ≠ .busy) ∧ (s.now.ident.lc = .provision ∨ s.now.ident.lc = .returned) ∧ (s.now.ident.debugNonce = some n)) ∧
    (∃ s : State, (s.blk.aon = true) ∧ (s.now.pwr.sysRst = false) ∧ (s.now.ident.loaded = true) ∧ (s.now.ident.state ≠ .busy) ∧ (s.now.ident.lc = .provision ∨ s.now.ident.lc = .sealedState)) ∧
    (∃ s : State, (s.blk.aon = true) ∧ (s.now.pwr.sysRst = false) ∧ (s.now.ident.loaded = true) ∧ (s.now.ident.state ≠ .busy) ∧ (s.now.ident.lc = .provision ∨ s.now.ident.lc = .sealedState) ∧ ((s.now.port 0).disable = false)) ∧
    (∃ s : State, (s.blk.aon = true) ∧ (s.now.pwr.sysRst = false) ∧ (s.now.ident.loaded = true) ∧ (s.now.ident.state ≠ .busy) ∧ (s.now.ident.lc = .provision ∨ s.now.ident.lc = .sealedState) ∧ ((List.range 4).all (fun p => (s.now.port p).disable) = true) ∧ (s.now.halvesOf.any (fun h => (s.now.half h).role == .holder) = false) ∧ (s.now.ident.returnNonce = none)) ∧
    (∃ s : State, ∃ n : List Byte, (s.blk.aon = true) ∧ (s.now.pwr.sysRst = false) ∧ (s.now.ident.loaded = true) ∧ (s.now.ident.state ≠ .busy) ∧ (s.now.ident.lc = .provision) ∧ ((List.range 4).all (fun p => (s.now.port p).disable) = true) ∧ (s.now.halvesOf.any (fun h => (s.now.half h).role == .holder) = false) ∧ (s.now.ident.returnNonce = some n)) ∧
    (∃ s : State, ∃ chain : List Byte, (s.blk.aon = true) ∧ (s.now.pwr.sysRst = false) ∧ (s.now.ident.loaded = true) ∧ (s.now.ident.state ≠ .busy) ∧ (s.now.ident.lc = .foundry) ∧ (s.now.ident.fuse.identityKey.isSome = true) ∧ (chain ≠ [])) ∧
    (∃ s : State, (s.blk.aon = true) ∧ (s.now.pwr.sysRst = false) ∧ (s.now.ident.loaded = true) ∧ (s.now.ident.state ≠ .busy) ∧ (s.now.ident.lc ≠ .foundry)) ∧
    (∃ s : State, (s.blk.aon = true) ∧ (s.now.pwr.sysRst = false) ∧ (s.now.ident.loaded = true) ∧ (s.now.ident.state ≠ .busy)) :=
  ⟨⟨up (fun b => { b with ident.loaded := true, ident.lc := .returned }), by decide +kernel⟩,
   ⟨up (fun b => { b with ident.loaded := true, ident.lc := .provision }), by decide +kernel⟩,
   ⟨up (fun b => { b with ident.loaded := true, ident.lc := .provision, ident.debugNonce := some [1] }), ([1] : List Byte), by decide +kernel⟩,
   ⟨up (fun b => { b with ident.loaded := true, ident.lc := .sealedState }), by decide +kernel⟩,
   ⟨up (fun b => { b with ident.loaded := true, ident.lc := .provision }), by decide +kernel⟩,
   ⟨up (fun b => { b with ident.loaded := true, ident.lc := .provision, host.ports := (List.range 4).map (fun p => (p, { disable := true })) }), by decide +kernel⟩,
   ⟨up (fun b => { b with ident.loaded := true, ident.lc := .provision, ident.returnNonce := some [1], host.ports := (List.range 4).map (fun p => (p, { disable := true })) }), ([1] : List Byte), by decide +kernel⟩,
   ⟨up (fun b => { b with ident.loaded := true, ident.fuse.salt0 := 1, ident.fuse.salt1 := 1 }), ([1] : List Byte), by decide +kernel⟩,
   ⟨up (fun b => { b with ident.loaded := true, ident.lc := .provision }), by decide +kernel⟩,
   ⟨up (fun b => { b with ident.loaded := true, ident.lc := .sealedState }), by decide +kernel⟩⟩

/-- States and operands that meet the hypotheses of the clauses of StagingAChart. -/
theorem witness_StagingAChart :
    (∃ s : State, (s.blk.aon = true) ∧ (s.now.stagingOn = false)) ∧
    (∃ s : State, (s.blk.aon = true) ∧ (s.now.stagingOn = false)) ∧
    (∃ s : State, (s.blk.aon = true) ∧ (s.now.stagingOn = false)) ∧
    (∃ s : State, (s.blk.aon = true) ∧ (s.now.stagingOn = true) ∧ (s.now.cht.state = .idle ∨ s.now.cht.state = .verified ∨ s.now.cht.state = .rejected)) ∧
    (∃ s : State, (s.blk.aon = true) ∧ (s.now.stagingOn = true) ∧ (s.now.cht.state = .receiving) ∧ (s.now.cht.buf.length + 8 ≤ 1048576)) ∧
    (∃ s : State, (s.blk.aon = true) ∧ (s.now.stagingOn = true) ∧ (s.now.cht.state ≠ .receiving ∨ 1048576 < s.now.cht.buf.length + 8)) ∧
    (∃ s : State, (s.blk.aon = true) ∧ (s.now.stagingOn = true) ∧ (s.now.cht.state = .receiving)) ∧
    (∃ s : State, (s.blk.aon = true) ∧ (s.now.stagingOn = true) ∧ (s.now.cht.state = .verified)) ∧
    (∃ s : State, (s.blk.aon = true) ∧ (s.now.stagingOn = true) ∧ (s.now.cht.state = .receiving ∨ s.now.cht.state = .verified ∨ s.now.cht.state = .rejected ∨ s.now.cht.state = .pendingDawn)) ∧
    (∃ s : State, (s.blk.aon = true) ∧ (s.now.stagingOn = true) ∧ (s.now.cht.state = .verified)) ∧
    (∃ s : State, (s.blk.aon = true) ∧ (s.now.stagingOn = true) ∧ (s.now.cht.state = .applyingLive)) ∧
    (∃ s : State, (s.blk.aon = true) ∧ (s.now.stagingOn = true) ∧ (s.now.cht.state = .idle)) ∧
    (∃ s : State, (s.blk.aon = true) ∧ (s.now.cht.state ≠ .verifying)) ∧
    (∃ s : State, (s.blk.aon = true) ∧ (s.now.cht.state = .verifying)) ∧
    (∃ s : State, ∃ n : Nat, (s.blk.aon = true) ∧ (s.now.cht.state = .writing) ∧ (s.now.cht.commitNext = none) ∧ (s.now.cht.commitWait = none) ∧ (s.now.efl.cur = some (.chartSlot n)) ∧ (s.now.pwr.stage ≠ .twilight)) :=
  ⟨⟨up id, by decide +kernel⟩,
   ⟨up id, by decide +kernel⟩,
   ⟨up id, by decide +kernel⟩,
   ⟨upOn svc (fun b => { b with cht.state := .rejected, cht.buf := [1] }), by decide +kernel⟩,
   ⟨upOn svc (fun b => { b with cht.state := .receiving }), by decide +kernel⟩,
   ⟨upOn svc (fun b => b), by decide +kernel⟩,
   ⟨upOn svc (fun b => { b with cht.state := .receiving }), by decide +kernel⟩,
   ⟨upOn svc (fun b => { b with cht.state := .verified }), by decide +kernel⟩,
   ⟨upOn svc (fun b => { b with cht.state := .pendingDawn, cht.slotRec.pending := true }), by decide +kernel⟩,
   ⟨upOn svc (fun b => { b with cht.state := .verified }), by decide +kernel⟩,
   ⟨upOn svc (fun b => { b with cht.state := .applyingLive }), by decide +kernel⟩,
   ⟨upOn svc (fun b => { b with cht.state := .idle }), by decide +kernel⟩,
   ⟨upOn svc (fun b => b), by decide +kernel⟩,
   ⟨upOn svc (fun b => { b with cht.state := .verifying }), by decide +kernel⟩,
   ⟨upOn svc (fun b => { b with cht.state := .writing, cht.buf := [7], efl.cur := some (.chartSlot 1) }), 1, by decide +kernel⟩⟩

/-- States and operands that meet the hypotheses of the clauses of LiveSwitches. -/
theorem witness_LiveSwitches :
    (∃ s : State, (s.blk.aon = true) ∧ (s.now.cht.apply = none)) ∧
    (∃ s : State, (s.blk.aon = true) ∧ (s.now.cht.apply = none) ∧ (s.now.nvf.reshapeDone = false)) ∧
    (∃ s : State, (s.blk.aon = true) ∧ (s.now.cht.apply = none) ∧ (s.now.nvf.reshapeDone = true) ∧ (s.now.fwWaits = false) ∧ (s.now.inDusk = false)) ∧
    (∃ s : State, (s.blk.aon = true) ∧ (s.now.cht.apply = none)) ∧
    (∃ s : State, ∃ a : LiveApply, (s.blk.aon = true) ∧ (s.now.cht.apply = some a) ∧ (s.now.epoch < a.epoch ∨ a.switched = true ∨ s.now.inDusk = true ∨ s.now.fw.restarting = true)) ∧
    (∃ s : State, ∃ a : LiveApply, (s.blk.aon = true) ∧ (s.now.cht.apply = some a) ∧ (s.now.epoch < a.epoch ∨ a.switched = true ∨ s.now.inDusk = true ∨ s.now.fw.restarting = true)) ∧
    (∃ s : State, ∃ a : LiveApply, (s.blk.aon = true) ∧ (s.now.cht.apply = some a) ∧ (a.switched = false) ∧ (a.epoch ≤ s.now.epoch) ∧ (s.now.fwWaits = false) ∧ (s.now.inDusk = false) ∧ (s.now.inService = true)) ∧
    (∃ s : State, ∃ a : LiveApply, (s.blk.aon = true) ∧ (s.now.cht.apply = some a) ∧ (a.switched = false ∨ s.now.inDusk = true)) ∧
    (∃ s : State, ∃ a : LiveApply, (s.blk.aon = true) ∧ (s.now.cht.apply = some a) ∧ (a.switched = true) ∧ (s.now.fwWaits = false) ∧ (s.now.inDusk = false) ∧ (a.farLeft = false)) ∧
    (∃ s : State, ∃ a : LiveApply, (s.blk.aon = true) ∧ (s.now.cht.apply = some a) ∧ (a.switched = true) ∧ (s.now.fwWaits = false) ∧ (s.now.inDusk = false) ∧ (a.farLeft = true) ∧ (a.farDone = true)) ∧
    (∃ s : State, ∃ a : LiveApply, (s.blk.aon = true) ∧ (s.now.cht.apply = some a) ∧ (a.switched = true) ∧ (a.nearLeft = true) ∧ (a.nearHold = false) ∧ (s.now.inDusk = false) ∧ (s.now.reshapeDirty.length * 4096 ≤ 64 * 2 ^ 20)) ∧
    (∃ s : State, ∃ a : LiveApply, (s.blk.aon = true) ∧ (s.now.cht.apply = some a) ∧ (64 * 2 ^ 20 < s.now.reshapeDirty.length * 4096)) ∧
    (∃ s : State, ∃ a : LiveApply, (s.blk.aon = true) ∧ (s.now.cht.apply = some a) ∧ (a.nearHold = false ∨ s.now.reshapeDirty ≠ [])) ∧
    (∃ s : State, ∃ a : LiveApply, (s.blk.aon = true) ∧ (s.now.cht.apply = some a) ∧ (a.nearHold = true) ∧ (s.now.fwWaits = false) ∧ (s.now.inDusk = false) ∧ (s.now.reshapeDirty = []) ∧ (s.now.pers.inFlight = [])) :=
  ⟨⟨upOn svc (fun b => b), by decide +kernel⟩,
   ⟨upOn svc (fun b => b), by decide +kernel⟩,
   ⟨upOn svc (fun b => { b with nvf.reshapeDone := true, nvf.reshaping := true }), by decide +kernel⟩,
   ⟨upOn svc (fun b => b), by decide +kernel⟩,
   ⟨upOn svc (fun b => { b with cht.apply := some { epoch := 1, next := {} } }), ({ epoch := 1, next := {} } : LiveApply), by decide +kernel⟩,
   ⟨upOn svc (fun b => { b with cht.apply := some { epoch := 0, next := {}, switched := true } }), ({ epoch := 0, next := {}, switched := true } : LiveApply), by decide +kernel⟩,
   ⟨upOn svc (fun b => { b with cht.apply := some { epoch := 0, next := {} } }), ({ epoch := 0, next := {} } : LiveApply), by decide +kernel⟩,
   ⟨upOn svc (fun b => { b with cht.apply := some { epoch := 1, next := {} } }), ({ epoch := 1, next := {} } : LiveApply), by decide +kernel⟩,
   ⟨upOn svc (fun b => { b with cht.apply := some { epoch := 1, next := {}, switched := true } }), ({ epoch := 1, next := {}, switched := true } : LiveApply), by decide +kernel⟩,
   ⟨upOn svc (fun b => { b with cht.apply := some { epoch := 1, next := {}, switched := true, farLeft := true, farDone := true } }), ({ epoch := 1, next := {}, switched := true, farLeft := true, farDone := true } : LiveApply), by decide +kernel⟩,
   ⟨upOn svc (fun b => { b with cht.apply := some { epoch := 1, next := {}, switched := true, nearLeft := true } }), ({ epoch := 1, next := {}, switched := true, nearLeft := true } : LiveApply), by decide +kernel⟩,
   ⟨upOn svc (fun b => { b with cht.apply := some { epoch := 1, next := {}, switched := true, nearLeft := true }, pers.dirty := (List.range 16385).map (fun p => (p, ())) }), ({ epoch := 1, next := {}, switched := true, nearLeft := true } : LiveApply), by decide +kernel⟩,
   ⟨upOn svc (fun b => { b with cht.apply := some { epoch := 1, next := {}, switched := true, nearLeft := true } }), ({ epoch := 1, next := {}, switched := true, nearLeft := true } : LiveApply), by decide +kernel⟩,
   ⟨upOn svc (fun b => { b with cht.apply := some { epoch := 1, next := {}, switched := true, nearLeft := true, nearHold := true } }), ({ epoch := 1, next := {}, switched := true, nearLeft := true, nearHold := true } : LiveApply), by decide +kernel⟩⟩

/-- States and operands that meet the hypotheses of the clauses of MeridianCounts. -/
theorem witness_MeridianCounts :
    (∃ s : State, ∃ gap : Nat, (s.blk.aon = true) ∧ (s.now.mer.body.source = 0) ∧ (s.now.mer.holdAtFloor = false) ∧ (s.now.mer.body.tickNs ≤ 2 * gap) ∧ (s.now.mer.state = .locked)) ∧
    (∃ s : State, ∃ gap : Nat, (s.blk.aon = true) ∧ (s.now.mer.body.source = 0) ∧ (s.now.mer.holdAtFloor = false) ∧ (s.now.mer.body.tickNs ≤ 2 * gap) ∧ (s.now.mer.state = .locked)) ∧
    (∃ s : State, ∃ gap : Nat, (s.blk.aon = true) ∧ (s.now.mer.body.source = 0) ∧ (s.now.mer.holdAtFloor = false) ∧ (2 * gap < s.now.mer.body.tickNs)) ∧
    (∃ s : State, (s.blk.aon = true) ∧ (s.now.mer.body.source ≠ 0 ∨ s.now.mer.holdAtFloor = true)) ∧
    (∃ s : State, (s.blk.aon = true) ∧ (s.now.mer.holdAtFloor = false) ∧ (s.now.mer.state = .acquiring ∨ s.now.mer.state = .deadReckoning)) ∧
    (∃ s : State, (s.blk.aon = true) ∧ (s.now.mer.holdAtFloor = true)) ∧
    (∃ s : State, (s.blk.aon = true) ∧ (s.now.mer.body.source = 1) ∧ (s.now.mer.holdAtFloor = false) ∧ (s.now.mer.state = .locked) ∧ (s.now.mer.ptpOwed = 0)) ∧
    (∃ s : State, (s.blk.aon = true) ∧ (s.now.mer.body.source = 0) ∧ (s.now.mer.source = true)) ∧
    (∃ s : State, (s.blk.aon = true) ∧ (s.now.mer.body.source = 0) ∧ (s.now.mer.source = true) ∧ (s.now.mer.state = .locked ∨ s.now.mer.state = .slewing)) ∧
    (∃ s : State, (s.blk.aon = true) ∧ (s.now.mer.body.source ≠ 0 ∨ s.now.mer.source = false)) ∧
    (∃ s : State, (s.blk.aon = true) ∧ (s.now.mer.state = .slewing) ∧ (s.now.mer.adjust = true)) ∧
    (∃ s : State, (s.blk.aon = true) ∧ (s.now.mer.state = .slewing) ∧ (s.now.mer.adjust = true)) ∧
    (∃ s : State, (s.blk.aon = true) ∧ (s.now.mer.state = .slewing) ∧ (s.now.mer.adjust = true)) ∧
    (∃ s : State, (s.blk.aon = true) ∧ (s.now.mer.state ≠ .slewing)) ∧
    (∃ s : State, (s.blk.aon = true) ∧ (s.now.mer.body.source = 0)) ∧
    (∃ s : State, (s.blk.aon = true) ∧ (s.now.mer.body.source ≠ 0)) :=
  ⟨⟨up (fun b => { b with mer.holdAtFloor := false, mer.state := .locked, mer.count := 9999 }), 50, by decide +kernel⟩,
   ⟨up (fun b => { b with mer.holdAtFloor := false, mer.state := .locked, mer.count := 2 ^ 64 - 1 }), 50, by decide +kernel⟩,
   ⟨up (fun b => { b with mer.holdAtFloor := false }), 49, by decide +kernel⟩,
   ⟨up id, by decide +kernel⟩,
   ⟨up (fun b => { b with mer.holdAtFloor := false, mer.state := .deadReckoning }), by decide +kernel⟩,
   ⟨up id, by decide +kernel⟩,
   ⟨up (fun b => { b with mer.body.source := 1, mer.holdAtFloor := false, mer.state := .locked }), by decide +kernel⟩,
   ⟨up (fun b => { b with mer.source := true, mer.state := .slewing }), by decide +kernel⟩,
   ⟨up (fun b => { b with mer.source := true, mer.state := .slewing }), by decide +kernel⟩,
   ⟨up (fun b => { b with mer.body.source := 1 }), by decide +kernel⟩,
   ⟨up (fun b => { b with mer.state := .slewing, mer.adjust := true, mer.count := 5, mer.shadow := 9 }), by decide +kernel⟩,
   ⟨up (fun b => { b with mer.state := .slewing, mer.adjust := true, mer.count := 9, mer.shadow := 9 }), by decide +kernel⟩,
   ⟨up (fun b => { b with mer.state := .slewing, mer.adjust := true, mer.count := 9, mer.shadow := 5 }), by decide +kernel⟩,
   ⟨up (fun b => { b with mer.state := .locked }), by decide +kernel⟩,
   ⟨up (fun b => { b with mer.count := 4 }), by decide +kernel⟩,
   ⟨up (fun b => { b with mer.body.source := 2 }), by decide +kernel⟩⟩

/-- States and operands that meet the hypotheses of the clauses of MeridianFramesAndPtp. -/
theorem witness_MeridianFramesAndPtp :
    (∃ s : State, ∃ cells : List (Bool × Bool), (s.blk.aon = true) ∧ (s.now.mer.body.source = 0) ∧ (s.now.mer.holdAtFloor = false) ∧ (decodeFrame cells = none)) ∧
    (∃ s : State, ∃ cells : List (Bool × Bool), ∃ c, ∃ f : Nat, ∃ n : Nat, (s.blk.aon = true) ∧ (s.now.mer.body.source = 0) ∧ (s.now.mer.holdAtFloor = false) ∧ (decodeFrame cells = some (c, f)) ∧ (s.now.mer.state = .locked) ∧ (c = s.now.mer.count - n)) ∧
    (∃ s : State, ∃ cells : List (Bool × Bool), ∃ c, ∃ f : Nat, ∃ n : Nat, (s.blk.aon = true) ∧ (s.now.mer.body.source = 0) ∧ (s.now.mer.holdAtFloor = false) ∧ (decodeFrame cells = some (c, f)) ∧ (s.now.mer.state = .locked) ∧ (c ≠ s.now.mer.count - n) ∧ (s.now.mer.disagreed = none)) ∧
    (∃ s : State, ∃ cells : List (Bool × Bool), ∃ c, ∃ f : Nat, ∃ n : Nat, ∃ a, (s.blk.aon = true) ∧ (s.now.mer.body.source = 0) ∧ (s.now.mer.holdAtFloor = false) ∧ (decodeFrame cells = some (c, f)) ∧ (s.now.mer.state = .acquiring) ∧ (s.now.mer.prevFrame = some (a, s.now.mer.edges - n - 2 ^ 20)) ∧ (2 ^ 20 ≤ s.now.mer.edges - n) ∧ (c = a + 2 ^ 20) ∧ (s.now.mayStep = true) ∧ (s.now.mer.floor ≤ c)) ∧
    (∃ s : State, ∃ h : PtpHdr, (s.blk.aon = true) ∧ (s.now.ptpTakes h = true)) ∧
    (∃ s : State, ∃ h : PtpHdr, ∃ q : Nat, (s.blk.aon = true) ∧ (s.now.ptpTakes h = true) ∧ (s.now.mer.ptpDelayReq = some q)) ∧
    (∃ s : State, ∃ h : PtpHdr, ∃ q : Nat, (s.blk.aon = true) ∧ (s.now.ptpTakes h = true) ∧ (s.now.mer.ptpDelayReq ≠ some q)) ∧
    (∃ s : State, ∃ h : PtpHdr, (s.blk.aon = true) ∧ (s.now.ptpTakes h = true) ∧ (s.now.mer.ptpMaster = some h.master)) ∧
    (∃ s : State, ∃ h : PtpHdr, ∃ c : Nat, (s.blk.aon = true) ∧ (s.now.ptpTakes h = true) ∧ (s.now.mer.ptpMaster = some h.master) ∧ (s.now.mer.ptpSyncAt = some c)) ∧
    (∃ s : State, ∃ h : PtpHdr, (s.blk.aon = true) ∧ (s.now.ptpTakes h = false)) ∧
    (∃ s : State, ∃ h : PtpHdr, (s.blk.aon = true) ∧ (s.now.ptpTakes h = false)) ∧
    (∃ s : State, ∃ h : PtpHdr, (s.blk.aon = true) ∧ (s.now.ptpTakes h = false)) ∧
    (∃ s : State, ∃ h : PtpHdr, (s.blk.aon = true) ∧ (s.now.ptpTakes h = false)) ∧
    (∃ s : State, (s.blk.aon = true) ∧ (s.now.mer.body.source = 1) ∧ (s.now.mer.ptpMaster.isSome = true) ∧ ((SMap.get EthPort.down s.now.orb.ports s.now.mer.body.ptpPort).up = true)) ∧
    (∃ s : State, (s.blk.aon = true) ∧ (s.now.mer.body.source = 1)) ∧
    (∃ s : State, (s.blk.aon = true) ∧ (s.now.epoch ≤ s.now.mer.epoch) ∧ (s.now.cht.commitWait = none)) ∧
    (∃ s : State, (s.blk.aon = true) ∧ (s.now.mer.epoch < s.now.epoch)) ∧
    (∃ s : State, (s.blk.aon = true) ∧ (s.now.mer.epoch < s.now.epoch) ∧ (s.now.mer.runOpen = true) ∧ (s.now.mer.flagNow = 0) ∧ (s.now.mer.state = .locked) ∧ (s.now.mer.capable = true) ∧ (s.now.mer.ptpExcursion = false)) ∧
    (∃ s : State, ∃ l : Nat, (s.blk.aon = true) ∧ (l = Nat.max s.now.mer.body.l 1) ∧ (s.now.mer.count < l + 2)) ∧
    (∃ s : State, ∃ l : Nat, (s.blk.aon = true) ∧ (l = Nat.max s.now.mer.body.l 1) ∧ (l + 2 ≤ s.now.mer.count) ∧ (s.now.mer.sealedEpoch = none)) ∧
    (∃ s : State, ∃ l : Nat, ∃ e : Nat, (s.blk.aon = true) ∧ (l = Nat.max s.now.mer.body.l 1) ∧ (l + 2 ≤ s.now.mer.count) ∧ (s.now.mer.sealedEpoch = some e) ∧ (e + 1 ≤ (s.now.mer.count - 2) / l - 1)) ∧
    (∃ s : State, ∃ l : Nat, ∃ e : Nat, (s.blk.aon = true) ∧ (l = Nat.max s.now.mer.body.l 1) ∧ (l + 2 ≤ s.now.mer.count) ∧ (s.now.mer.sealedEpoch = some e) ∧ ((s.now.mer.count - 2) / l - 1 ≤ e)) :=
  ⟨⟨up (fun b => { b with mer.holdAtFloor := false, mer.count := 5 }), ((cellsOf (2 ^ 20) 3).drop 1 ++ [(true, false)] : List (Bool × Bool)), by decide +kernel⟩,
   ⟨up (fun b => { b with mer.holdAtFloor := false, mer.state := .locked, mer.count := 2 ^ 20 + 5 }), (cellsOf (2 ^ 20) 3 : List (Bool × Bool)), 2 ^ 20, 3, 5, by refine ⟨?_, ?_, ?_, ?_, ?_, rfl⟩ <;> decide +kernel⟩,
   ⟨up (fun b => { b with mer.holdAtFloor := false, mer.state := .locked, mer.count := 2 ^ 20 + 5 }), (cellsOf (2 ^ 21) 255 : List (Bool × Bool)), 2 ^ 21, 255, 5, by decide +kernel⟩,
   ⟨up (fun b => { b with mer.holdAtFloor := false, mer.state := .acquiring, mer.floor := 9, mer.edges := 2 ^ 20 + 40, mer.prevFrame := some (2 ^ 40, 7) }), (cellsOf (2 ^ 40 + 2 ^ 20) 0 : List (Bool × Bool)), 2 ^ 40 + 2 ^ 20, 0, 33, 2 ^ 40, by refine ⟨?_, ?_, ?_, ?_, ?_, ?_, ?_, rfl, ?_⟩ <;> decide +kernel⟩,
   ⟨upOn ptp (fun b => { b with mer.ptpMasters := [(5, 2), (7, 1)] }), ⟨1, false, 0, 5⟩, by decide +kernel⟩,
   ⟨upOn ptp (fun b => { b with mer.ptpDelayReq := some 7 }), ⟨1, false, 0, 5⟩, 7, by decide +kernel⟩,
   ⟨upOn ptp (fun b => { b with mer.ptpDelayReq := some 7 }), ⟨1, false, 0, 5⟩, 8, by decide +kernel⟩,
   ⟨upOn ptp (fun b => { b with mer.count := 5 }), ⟨1, false, 0, 5⟩, by decide +kernel⟩,
   ⟨upOn ptp (fun b => { b with mer.ptpSyncAt := some 3, mer.count := 5 }), ⟨1, false, 0, 5⟩, 3, by decide +kernel⟩,
   ⟨upOn ptp (fun b => b), ⟨2, false, 0, 5⟩, by decide +kernel⟩,
   ⟨upOn ptp (fun b => b), ⟨1, true, 0, 5⟩, by decide +kernel⟩,
   ⟨upOn ptp (fun b => b), ⟨1, false, 1, 5⟩, by decide +kernel⟩,
   ⟨up id, ⟨1, false, 0, 5⟩, by decide +kernel⟩,
   ⟨upOn ptp (fun b => b), by decide +kernel⟩,
   ⟨upOn ptp (fun b => { b with mer.state := .locked, mer.count := 7 }), by decide +kernel⟩,
   ⟨up id, by decide +kernel⟩,
   ⟨up (fun b => { b with mer.count := 20000 }), by decide +kernel⟩,
   ⟨up (fun b => { b with mer.count := 20000, mer.runOpen := true, mer.state := .locked }), by decide +kernel⟩,
   ⟨up (fun b => { b with mer.count := 10001 }), 10000, by refine ⟨?_, rfl, ?_⟩ <;> decide +kernel⟩,
   ⟨up (fun b => { b with mer.count := 10002 }), 10000, by refine ⟨?_, rfl, ?_⟩ <;> decide +kernel⟩,
   ⟨up (fun b => { b with mer.count := 30002, mer.sealedEpoch := some 0 }), 10000, 0, by refine ⟨?_, rfl, ?_⟩ <;> decide +kernel⟩,
   ⟨up (fun b => { b with mer.count := 10002, mer.sealedEpoch := some 0 }), 10000, 0, by refine ⟨?_, rfl, ?_⟩ <;> decide +kernel⟩⟩

/-- States and operands that meet the hypotheses of the clauses of DramChannelCommands. -/
theorem witness_DramChannelCommands :
    (∃ s : State, ∃ c : Nat, ∃ d : Nat, ∃ r : Nat, ∃ p : Nat, (s.blk.aon = true) ∧ (s.now.pwr.sysRst = false) ∧ (c < 16) ∧ (s.now.inDusk = false) ∧ (((s.now.chan c).hasRank d r) = true) ∧ (p < 20) ∧ ((s.now.chan c).state = .ready ∨ (s.now.chan c).state = .frozen) ∧ ((s.now.chan c).marks.contains (d, r, p) = false) ∧ (((s.now.chan c).marks.filter (fun m => m.1 = d && m.2.1 = r)).length < 2)) ∧
    (∃ s : State, ∃ c : Nat, ∃ d : Nat, ∃ r : Nat, ∃ p : Nat, (s.blk.aon = true) ∧ (s.now.pwr.sysRst = false) ∧ (c < 16) ∧ (s.now.inDusk = false) ∧ (((s.now.chan c).hasRank d r) = true) ∧ (p < 20) ∧ ((s.now.chan c).state = .ready ∨ (s.now.chan c).state = .frozen) ∧ ((s.now.chan c).marks.contains (d, r, p) = true)) ∧
    (∃ s : State, ∃ c : Nat, ∃ d : Nat, ∃ r : Nat, ∃ p : Nat, (s.blk.aon = true) ∧ (s.now.pwr.sysRst = false) ∧ (c < 16) ∧ (s.now.inDusk = false) ∧ (((s.now.chan c).hasRank d r) = true) ∧ (p < 20) ∧ ((s.now.chan c).state = .ready ∨ (s.now.chan c).state = .frozen) ∧ ((s.now.chan c).marks.contains (d, r, p) = false)) ∧
    (∃ s : State, ∃ c : Nat, ∃ d : Nat, ∃ r : Nat, (s.blk.aon = true) ∧ (s.now.pwr.sysRst = false) ∧ (c < 16) ∧ (s.now.inDusk = false) ∧ (((s.now.chan c).hasRank d r) = false)) ∧
    (∃ s : State, ∃ c : Nat, (s.blk.aon = true) ∧ (s.now.pwr.sysRst = false) ∧ (c < 16) ∧ (s.now.inDusk = false) ∧ ((s.now.chan c).state ≠ .frozen)) ∧
    (∃ s : State, ∃ c : Nat, (s.blk.aon = true) ∧ (s.now.pwr.sysRst = false) ∧ (c < 16) ∧ (s.now.inDusk = false) ∧ ((s.now.chan c).state ≠ .frozen) ∧ (s.now.fwWaits = false)) ∧
    (∃ s : State, ∃ c : Nat, ∃ g : W64, ∃ l : Nat, (s.blk.aon = true) ∧ (s.now.pwr.sysRst = false) ∧ (c < 16) ∧ (s.now.inDusk = false) ∧ ((s.now.chan c).state = .frozen) ∧ (g = (s.now.chan c).diagLoc) ∧ (fieldOf g 63 59 = c) ∧ ((s.now.chan c).hasRank (fieldOf g 58 58) (fieldOf g 57 56) = true) ∧ (fieldOf g 45 28 < rowsOf (s.now.chan c).density) ∧ (fieldOf g 27 17 % 16 = 0) ∧ (s.now.lineAtGeo c ⟨fieldOf g 58 58, fieldOf g 57 56, fieldOf g 50 48, fieldOf g 47 46, fieldOf g 45 28, fieldOf g 27 17⟩ = some l)) ∧
    (∃ s : State, ∃ c : Nat, (s.blk.aon = true) ∧ (s.now.pwr.sysRst = false) ∧ (c < 16) ∧ (s.now.inDusk = false) ∧ ((s.now.chan c).state = .frozen) ∧ (s.now.fwWaits = false) ∧ (s.now.syncTouches c = false) ∧ ((s.now.chan c).drops = []) ∧ ((s.now.chan c).queued = []) ∧ ((s.now.chan c).failLine = none)) ∧
    (∃ s : State, ∃ c : Nat, (s.blk.aon = true) ∧ (s.now.pwr.sysRst = false) ∧ (c < 16) ∧ (s.now.inDusk = false) ∧ (s.now.fwWaits = true)) ∧
    (∃ s : State, ∃ c : Nat, ∃ n : Nat, (s.blk.aon = true) ∧ ((s.now.chan c).state = .ready) ∧ (n < 2)) ∧
    (∃ s : State, ∃ c : Nat, ∃ n : Nat, (s.blk.aon = true) ∧ ((s.now.chan c).state = .ready) ∧ (2 ≤ n)) ∧
    (∃ s : State, (s.blk.aon = true) ∧ (s.now.populated = [])) ∧
    (∃ s : State, (s.blk.aon = true) ∧ (s.now.populated = [])) ∧
    (∃ s : State, ∃ r : SMap Int, ∃ c : Nat, ∃ d : Nat, ∃ x : Int, (s.blk.aon = true) ∧ (c ∈ s.now.populated) ∧ (d < (s.now.chan c).dimms) ∧ (SMap.find? r (2 * c + d) = some x) ∧ (1360 < x)) ∧
    (∃ s : State, ∃ p : Nat, (s.blk.aon = true) ∧ (s.now.presence p = .zero) ∧ (s.now.touchedPage p = true)) ∧
    (∃ s : State, ∃ p : Nat, (s.blk.aon = true) ∧ (s.now.presence p ≠ .zero ∨ s.now.touchedPage p = false)) ∧
    (∃ s : State, ∃ p : Nat, (s.blk.aon = true) ∧ (s.now.presence p ≠ .zero ∨ s.now.touchedPage p = false)) ∧
    (∃ s : State, ∃ p : Nat, (s.blk.aon = true) ∧ (s.now.presence p ≠ .remote)) ∧
    (∃ s : State, ∃ p : Nat, (s.blk.aon = true) ∧ (s.now.presence p = .remote) ∧ ((List.range 32).any (fun j => s.now.frozenLine (32 * p + j)) = false) ∧ ((carveAt s.now.cht.cur.near (p * 4096)).isNone = true)) :=
  ⟨⟨upOn svc (fun b => b), 0, 1, 0, 19, by decide +kernel⟩,
   ⟨upOn svc (fun b => { b with dram.chans := [(0, { state := .frozen, dimms := 2, capGib := 64, marks := [(0, 0, 3)] })] }), 0, 0, 0, 3, by decide +kernel⟩,
   ⟨upOn svc (fun b => { b with dram.chans := [(0, { state := .frozen, dimms := 2, capGib := 64, marks := [(0, 0, 3)] })] }), 0, 0, 0, 4, by decide +kernel⟩,
   ⟨upOn svc (fun b => b), 0, 2, 0, by decide +kernel⟩,
   ⟨upOn svc (fun b => b), 15, by decide +kernel⟩,
   ⟨upOn svc (fun b => b), 15, by decide +kernel⟩,
   ⟨upOn svc (fun b => { b with dram.chans := [(0, { state := .frozen, dimms := 2, capGib := 64 })] }), 0, (0 : W64), 0, by refine ⟨?_, ?_, ?_, ?_, ?_, rfl, ?_⟩ <;> decide +kernel⟩,
   ⟨upOn svc (fun b => { b with dram.chans := [(0, { state := .frozen, dimms := 2, capGib := 64 })], dram.lines := [(3, { plain := 7 })] }), 0, by decide +kernel⟩,
   ⟨upOn svc (fun b => { b with fw.restarting := true }), 0, by decide +kernel⟩,
   ⟨upOn svc (fun b => b), 0, 1, by decide +kernel⟩,
   ⟨upOn svc (fun b => b), 0, 2, by decide +kernel⟩,
   ⟨up (fun b => { b with dram.hotNext := true, dram.coolPolls := 3 }), by decide +kernel⟩,
   ⟨up (fun b => { b with dram.hotNext := true }), by decide +kernel⟩,
   ⟨upOn svc (fun b => b), ([(0, 100), (1, 1361)] : SMap Int), 0, 1, (1361 : Int), by decide +kernel⟩,
   ⟨upOn svc (fun b => { b with dram.lines := [(1, { plain := 7 })] }), 0, by decide +kernel⟩,
   ⟨upOn svc (fun b => b), 5, by decide +kernel⟩,
   ⟨upOn svc (fun b => { b with dram.pres := [(0, .resident)] }), 0, by decide +kernel⟩,
   ⟨upOn svc (fun b => b), 0, by decide +kernel⟩,
   ⟨upOn svc (fun b => { b with dram.pres := [(0, .remote)] }), 0, by decide +kernel⟩⟩

/-- States and operands that meet the hypotheses of the clauses of GovernorAndCeiling. -/
theorem witness_GovernorAndCeiling :
    (∃ s : State, (s.blk.aon = true) ∧ (s.now.nextWriteBack = none)) ∧
    (∃ s : State, ∃ p : Nat, ∃ paced, (s.blk.aon = true) ∧ (s.now.nextWriteBack = some (p, paced))) ∧
    (∃ s : State, ∃ p : Nat, ∃ u : FlashUnit, ∃ at' : Nat × Nat, ∃ red, (s.blk.aon = true) ∧ (s.now.slotOfPage p = none) ∧ (SMap.find? s.now.pers.inFlight p = some red) ∧ (SMap.find? s.now.pers.programs p = some u) ∧ (s.now.unitPlace u = some at') ∧ (u.kind = .home) ∧ ((s.now.stripe at'.1).done.contains (at'.2 / 4) = false) ∧ (s.now.mayProgram at'.1 (at'.2 / 4) = false)) ∧
    (∃ s : State, ∃ p : Nat, ∃ u : FlashUnit, ∃ at' : Nat × Nat, ∃ red, (s.blk.aon = true) ∧ (s.now.slotOfPage p = none) ∧ (SMap.find? s.now.pers.inFlight p = some red) ∧ (SMap.find? s.now.pers.programs p = some u) ∧ (s.now.unitPlace u = some at') ∧ (u.kind = .home) ∧ ((s.now.stripe at'.1).done.contains (at'.2 / 4) = false) ∧ (s.now.mayProgram at'.1 (at'.2 / 4) = true)) ∧
    (∃ s : State, ∃ p : Nat, ∃ u : FlashUnit, ∃ at' : Nat × Nat, ∃ red, (s.blk.aon = true) ∧ (s.now.slotOfPage p = none) ∧ (SMap.find? s.now.pers.inFlight p = some red) ∧ (SMap.find? s.now.pers.programs p = some u) ∧ (s.now.unitPlace u = some at') ∧ (u.kind = .home) ∧ ((s.now.stripe at'.1).done.contains (at'.2 / 4) = false) ∧ (s.now.mayProgram at'.1 (at'.2 / 4) = true)) ∧
    (∃ s : State, ∃ p : Nat, ∃ u : FlashUnit, ∃ at' : Nat × Nat, ∃ red, (s.blk.aon = true) ∧ (s.now.slotOfPage p = none) ∧ (SMap.find? s.now.pers.inFlight p = some red) ∧ (SMap.find? s.now.pers.programs p = some u) ∧ (s.now.unitPlace u = some at') ∧ (u.kind = .home) ∧ ((s.now.stripe at'.1).done.contains (at'.2 / 4) = true)) ∧
    (∃ s : State, (s.blk.aon = true) ∧ (s.now.epoch < s.now.pers.windowEnd)) ∧
    (∃ s : State, (s.blk.aon = true) ∧ (s.now.pers.windowEnd ≤ s.now.epoch)) ∧
    (∃ s : State, (s.blk.aon = true) ∧ (s.now.host.held.find? (fun x => x.why == .throttle) = none)) ∧
    (∃ s : State, ∃ o : HeldReq, (s.blk.aon = true) ∧ (s.now.host.held.find? (fun x => x.why == .throttle) = some o) ∧ (s.now.releaseOk = false ∨ s.now.inDusk = true)) ∧
    (∃ s : State, ∃ o : HeldReq, (s.blk.aon = true) ∧ (s.now.host.held.find? (fun x => x.why == .throttle) = some o) ∧ (s.now.releaseOk = true) ∧ (s.now.inDusk = false)) ∧
    (∃ s : State, (s.blk.aon = true) ∧ (s.now.throttling = false)) ∧
    (∃ s : State, ∃ p : Nat, (s.blk.aon = true) ∧ (s.now.throttling = true) ∧ (s.now.inDusk = false) ∧ (s.now.pers.inFlight.length < 262144) ∧ (2 < s.now.freeTlc) ∧ (s.now.oldest ((SMap.keys s.now.pers.dirty).filter s.now.canWriteBack) = some p)) ∧
    (∃ s : State, (s.blk.aon = true) ∧ (s.now.pers.holdupTimer = true) ∧ (s.now.pers.holdupLow = false)) ∧
    (∃ s : State, (s.blk.aon = true) ∧ (s.now.pers.holdupTimer = false ∨ s.now.pers.holdupLow = true)) ∧
    (∃ s : State, (s.blk.aon = true) ∧ (s.now.pers.holdupTimer = false ∨ s.now.pers.holdupLow = true)) :=
  ⟨⟨upOn svc (fun b => b), by decide +kernel⟩,
   ⟨upOn flash (fun b => { b with dram.pres := [(0, .resident)], pers.dirty := [(0, ())], mer.count := 10000000, pers.credit := 8192 }), 0, true, by decide +kernel⟩,
   ⟨upOn flash (fun b => { b with nvf.stripes := [(5, { units := [(0, { kind := .home, page := 0 })], used := 4 })], pers.inFlight := [(0, false)], pers.programs := [(0, { kind := .home, page := 0 })] }), 0, ({ kind := .home, page := 0 } : FlashUnit), ((5, 0) : Nat × Nat), false, by decide +kernel⟩,
   ⟨upOn flash (fun b => { b with nvf.stripes := [(5, { openDurable := true, used := 4, units := [(0, { kind := .home, page := 0 })] })], pers.inFlight := [(0, false)], pers.programs := [(0, { kind := .home, page := 0 })] }), 0, ({ kind := .home, page := 0 } : FlashUnit), ((5, 0) : Nat × Nat), false, by decide +kernel⟩,
   ⟨upOn flash (fun b => { b with nvf.stripes := [(5, { openDurable := true, used := 4, units := [(0, { kind := .home, page := 0 })] })], pers.dirty := [(0, ())], pers.inFlight := [(0, true)], pers.programs := [(0, { kind := .home, page := 0 })] }), 0, ({ kind := .home, page := 0 } : FlashUnit), ((5, 0) : Nat × Nat), true, by decide +kernel⟩,
   ⟨upOn flash (fun b => { b with nvf.stripes := [(5, { openDurable := true, used := 4, done := [0], units := [(0, { kind := .home, page := 0 })] })], pers.inFlight := [(0, false)], pers.programs := [(0, { kind := .home, page := 0 })] }), 0, ({ kind := .home, page := 0 } : FlashUnit), ((5, 0) : Nat × Nat), false, by decide +kernel⟩,
   ⟨upOn flash (fun b => { b with pers.windowEnd := 1 }), by decide +kernel⟩,
   ⟨upOn flash (fun b => { b with pers.credit := -5 }), by decide +kernel⟩,
   ⟨upOn svc (fun b => b), by decide +kernel⟩,
   ⟨upOn svc (fun b => { b with nvf.jReady := 0, host.held := [⟨.throttle, { src := .host 0 0, dpa := 0, write := some (1, false) }⟩] }), (⟨.throttle, { src := .host 0 0, dpa := 0, write := some (1, false) }⟩ : HeldReq), by decide +kernel⟩,
   ⟨upOn svc (fun b => { b with host.held := [⟨.throttle, { src := .host 0 0, dpa := 0, write := some (1, false) }⟩] }), (⟨.throttle, { src := .host 0 0, dpa := 0, write := some (1, false) }⟩ : HeldReq), by decide +kernel⟩,
   ⟨upOn svc (fun b => b), by decide +kernel⟩,
   ⟨upOn flash (fun b => { b with host.held := [⟨.throttle, { src := .host 0 0, dpa := 0, write := some (1, false) }⟩], dram.pres := [(0, .resident)], pers.dirty := [(0, ())] }), 0, by decide +kernel⟩,
   ⟨upOn svc (fun b => { b with pers.holdupTimer := true }), by decide +kernel⟩,
   ⟨upOn svc (fun b => b), by decide +kernel⟩,
   ⟨upOn svc (fun b => { b with pers.holdupTimer := true, pers.holdupLow := true }), by decide +kernel⟩⟩

/-- States and operands that meet the hypotheses of the clauses of DuskSaveAndRestore. -/
theorem witness_DuskSaveAndRestore :
    (∃ s : State, (s.blk.aon = true) ∧ (s.now.inDusk = false) ∧ (s.now.inService = true)) ∧
    (∃ s : State, (s.blk.aon = true) ∧ (s.now.inDusk = false) ∧ (s.now.fromD7 = false)) ∧
    (∃ s : State, ∃ d : Dusk, (s.blk.aon = true) ∧ (s.now.pers.dusk = some d) ∧ (d.thermal = false ∨ d.pwrFail = true)) ∧
    (∃ s : State, (s.blk.aon = true) ∧ (s.now.pers.dusk = none)) ∧
    (∃ s : State, ∃ phys : Phys, ∃ d : Dusk, (s.blk.aon = true) ∧ (s.now.pers.dusk = some d) ∧ (d.step = .flush) ∧ ((flushMet phys true s.now).ident.fuse.returnBegun ≠ 0)) ∧
    (∃ s : State, ∃ phys : Phys, ∃ d : Dusk, (s.blk.aon = true) ∧ (s.now.pers.dusk = some d) ∧ (d.step = .flush) ∧ ((flushMet phys true s.now).ident.fuse.returnBegun = 0) ∧ ((flushMet phys true s.now).replicaOk = true)) ∧
    (∃ s : State, ∃ phys : Phys, ∃ d : Dusk, (s.blk.aon = true) ∧ (s.now.pers.dusk = some d) ∧ (d.step = .flush) ∧ ((flushMet phys true s.now).ident.fuse.returnBegun = 0) ∧ ((flushMet phys true s.now).replicaOk = false)) ∧
    (∃ s : State, ∃ d : Dusk, ∃ g : SaveGen, (s.blk.aon = true) ∧ (s.now.pers.dusk = some d) ∧ (s.now.pers.gens.getLast? = some g) ∧ (d.step = .saving)) ∧
    (∃ s : State, ∃ d : Dusk, ∃ g : SaveGen, (s.blk.aon = true) ∧ (s.now.pers.dusk = some d) ∧ (s.now.pers.gens.getLast? = some g) ∧ (d.step ≠ .saving)) ∧
    (∃ s : State, ∃ d : Dusk, (s.blk.aon = true) ∧ (s.now.pers.dusk = some d) ∧ (d.step = .complete) ∧ (s.now.mayResume { d with logDone := true } = false)) ∧
    (∃ s : State, (s.blk.aon = true) ∧ (s.now.pers.dusk = none)) ∧
    (∃ s : State, ∃ p : Nat, (s.blk.aon = true) ∧ (s.now.presence p ≠ .pending ∨ s.now.inDusk = true)) ∧
    (∃ s : State, ∃ p : Nat, (s.blk.aon = true) ∧ (s.now.presence p ≠ .pending ∨ s.now.inDusk = true)) ∧
    (∃ s : State, ∃ phys : Phys, ∃ p : Nat, ∃ m, (s.blk.aon = true) ∧ (s.now.presence p = .pending) ∧ (s.now.inDusk = false) ∧ ((carveAt s.now.cht.cur.near (p * 4096)).isNone = true) ∧ (m = (if SMap.find? s.now.pers.from' p = some .lost then s.now else readMap phys (homeLeaf p) s.now))) ∧
    (∃ s : State, (s.blk.aon = true) ∧ (s.now.inDusk = true)) ∧
    (∃ s : State, ∃ p : Nat, (s.blk.aon = true) ∧ (s.now.host.held = []) ∧ (s.now.inDusk = false) ∧ (s.now.nextRestore = some p)) ∧
    (∃ s : State, ∃ n : Nat, (s.blk.aon = true) ∧ (s.now.pers.gens.find? (fun g => g.gen = n) = none)) ∧
    (∃ s : State, ∃ n : Nat, ∃ g : SaveGen, ∃ back : Nat, (s.blk.aon = true) ∧ (s.now.pers.gens.find? (fun g => g.gen = n) = some g) ∧ (s.now.pers.live.contains n = true) ∧ (s.now.genDead g = true) ∧ (s.now.inDusk = false) ∧ (back = Nat.min g.bytes (s.now.nvf.jRing - s.now.cht.cur.pers.journalGib * gib))) :=
  ⟨⟨upOn svc (fun b => b), by decide +kernel⟩,
   ⟨up (fun b => { b with pwr.stage := .dawn 3 }), by decide +kernel⟩,
   ⟨upOn svc (fun b => { b with pers.dusk := some {} }), ({} : Dusk), by decide +kernel⟩,
   ⟨upOn svc (fun b => b), by decide +kernel⟩,
   ⟨upOn svc (fun b => { b with pers.dusk := some {}, ident.fuse.returnBegun := 1 }), ({} : Phys), ({} : Dusk), by decide +kernel⟩,
   ⟨upOn flash (fun b => { b with pers.dusk := some {}, nvf.rep0 := { die := some 0, valid := true } }), ({} : Phys), ({} : Dusk), by decide +kernel⟩,
   ⟨upOn svc (fun b => { b with pers.dusk := some {} }), ({} : Phys), ({} : Dusk), by decide +kernel⟩,
   ⟨upOn svc (fun b => { b with pers.dusk := some { step := .saving }, pers.gens := [{ gen := 0, chunks := [[3]] }] }), ({ step := .saving } : Dusk), ({ gen := 0, chunks := [[3]] } : SaveGen), by decide +kernel⟩,
   ⟨upOn svc (fun b => { b with pers.dusk := some {}, pers.gens := [{ gen := 0 }] }), ({} : Dusk), ({ gen := 0 } : SaveGen), by decide +kernel⟩,
   ⟨upOn svc (fun b => { b with pers.dusk := some { step := .complete, pwrFail := true }, pwr.pwrFail := true }), ({ step := .complete, pwrFail := true } : Dusk), by decide +kernel⟩,
   ⟨upOn svc (fun b => b), by decide +kernel⟩,
   ⟨upOn svc (fun b => b), 0, by decide +kernel⟩,
   ⟨upOn svc (fun b => { b with pers.dusk := some {}, dram.pres := [(0, .pending)] }), 0, by decide +kernel⟩,
   ⟨upOn svc (fun b => { b with dram.pres := [(0, .pending)], pers.from' := [(0, .lost)] }), ({} : Phys), 0, ((if SMap.find? (upOn svc (fun b => { b with dram.pres := [(0, .pending)], pers.from' := [(0, .lost)] })).now.pers.from' (0) = some .lost then (upOn svc (fun b => { b with dram.pres := [(0, .pending)], pers.from' := [(0, .lost)] })).now else readMap (({} : Phys)) (homeLeaf (0)) (upOn svc (fun b => { b with dram.pres := [(0, .pending)], pers.from' := [(0, .lost)] })).now)), by refine ⟨?_, ?_, ?_, ?_, rfl⟩ <;> decide +kernel⟩,
   ⟨upOn svc (fun b => { b with pers.dusk := some {} }), by decide +kernel⟩,
   ⟨upOn svc (fun b => { b with dram.pres := [(3, .pending)], pers.from' := [(3, .home)] }), 3, by decide +kernel⟩,
   ⟨upOn svc (fun b => b), 0, by decide +kernel⟩,
   ⟨upOn svc (fun b => { b with pers.gens := [{ gen := 0, bytes := 4096 }], pers.live := [0], pers.sb.liveFirst := some 0 }), 0, ({ gen := 0, bytes := 4096 } : SaveGen), 0, by decide +kernel⟩⟩

/-- States and operands that meet the hypotheses of the clauses of NandOperationsAndLog. -/
theorem witness_NandOperationsAndLog :
    (∃ s : State, ∃ n : Nat, (s.blk.aon = true) ∧ (n % 16 = 0)) ∧
    (∃ s : State, ∃ i : Nat, ∃ q : Nat, ∃ n : Nat, ∃ d : Nat, (s.blk.aon = true) ∧ (n % 16 ≠ 0) ∧ (SMap.has s.now.nvf.stripes i = true) ∧ (q ≤ 17) ∧ (s.now.slotDie i q = some d)) ∧
    (∃ s : State, ∃ i : Nat, ∃ q : Nat, (s.blk.aon = true) ∧ (s.now.mayProgram i q = false)) ∧
    (∃ s : State, ∃ i : Nat, ∃ q : Nat, ∃ d : Nat, (s.blk.aon = true) ∧ (s.now.mayProgram i q = true) ∧ (s.now.slotDie i q = some d) ∧ ((s.now.stripe i).pool ≠ .journal)) ∧
    (∃ s : State, ∃ phys : Phys, ∃ i : Nat, ∃ q : Nat, (s.blk.aon = true) ∧ (s.now.mayProgram i q = true) ∧ (phys.map = [])) ∧
    (∃ s : State, ∃ phys : Phys, ∃ i : Nat, ∃ q : Nat, (s.blk.aon = true) ∧ (s.now.mayProgram i q = true) ∧ (phys.map = []) ∧ ((s.now.stripe i).done.contains q = false) ∧ ((s.now.stripe i).done.length < 17)) ∧
    (∃ s : State, ∃ d : Nat, (s.blk.aon = true) ∧ ((s.now.die d).retiredBlocks.length < s.now.zBad)) ∧
    (∃ s : State, ∃ z : Nat, (s.blk.aon = true) ∧ (s.now.poolOfZone z = some .journal)) ∧
    (∃ s : State, ∃ z : Nat, (s.blk.aon = true) ∧ (s.now.poolOfZone z = some .journal)) ∧
    (∃ s : State, ∃ z : Nat, (s.blk.aon = true) ∧ (s.now.poolOfZone z ≠ some .journal) ∧ ((s.now.zone z).state = .erasing)) ∧
    (∃ s : State, ∃ g : Nat, (s.blk.aon = true) ∧ ((s.now.die g).state ≠ .member)) ∧
    (∃ s : State, ∃ g : Nat, (s.blk.aon = true) ∧ ((s.now.die g).state = .member)) ∧
    (∃ s : State, ∃ g : Nat, (s.blk.aon = true) ∧ ((s.now.die g).state = .member)) ∧
    (∃ s : State, (s.blk.aon = true) ∧ (s.now.nvf.openStripe = none)) ∧
    (∃ s : State, ∃ i : Nat, (s.blk.aon = true) ∧ (s.now.nvf.openStripe = some i) ∧ (s.now.inDusk = false) ∧ ((s.now.stripe i).firstEpoch < s.now.epoch)) ∧
    (∃ s : State, ∃ i : Nat, (s.blk.aon = true) ∧ (s.now.nvf.openStripe = some i) ∧ (s.now.inDusk = true ∨ s.now.epoch ≤ (s.now.stripe i).firstEpoch)) ∧
    (∃ s : State, (s.blk.aon = true) ∧ (s.now.inDusk = true ∨ (s.now.nvf.reclaiming = none ∧ 6 < s.now.freeTlc))) ∧
    (∃ s : State, (s.blk.aon = true) ∧ (s.now.nvf.reclaiming = none) ∧ ((SMap.keys s.now.nvf.zones).filter (fun z => (s.now.zone z).pool == .tlc && (s.now.zone z).state == .closed && s.now.zoneSettled z) = [])) ∧
    (∃ s : State, ∃ v : Nat, (s.blk.aon = true) ∧ (s.now.inDusk = false) ∧ (s.now.nvf.reclaiming = none) ∧ (s.now.freeTlc ≤ 6) ∧ ((SMap.keys s.now.nvf.zones).filter (fun z => (s.now.zone z).pool == .tlc && (s.now.zone z).state == .closed && s.now.zoneSettled z) = [v])) ∧
    (∃ s : State, ∃ b : Blk, ∃ v : Nat, (s.blk.aon = true) ∧ (b.nvf.reclaiming = some v) ∧ (b.zoneLoad v ≠ 0)) ∧
    (∃ s : State, ∃ b : Blk, ∃ v : Nat, (s.blk.aon = true) ∧ (b.nvf.reclaiming = some v) ∧ (b.zoneLoad v = 0) ∧ (b.inDusk = false)) ∧
    (∃ s : State, ∃ g : Nat, (s.blk.aon = true) ∧ (s.now.nvf.layouts ≠ []) ∧ (s.now.nvf.rep0.valid = false) ∧ (s.now.nvf.rep1.valid = true) ∧ (s.now.nextReplica false = some g)) ∧
    (∃ s : State, ∃ g : Nat, (s.blk.aon = true) ∧ (s.now.nvf.layouts ≠ []) ∧ (s.now.nvf.rep0.valid = true) ∧ (s.now.nvf.rep1.valid = false) ∧ (s.now.nextReplica true = some g)) :=
  ⟨⟨upOn flash (fun b => b), 16, by decide +kernel⟩,
   ⟨upOn flash (fun b => { b with nvf.stripes := [(201654272, {})] }), 201654272, 17, 15, 193, by decide +kernel⟩,
   ⟨upOn flash (fun b => b), 201654272, 0, by decide +kernel⟩,
   ⟨upOn flash (fun b => { b with nvf.stripes := [(201654272, { openDurable := true, used := 64 })] }), 201654272, 17, 193, by decide +kernel⟩,
   ⟨upOn flash (fun b => { b with nvf.stripes := [(201654272, { openDurable := true, used := 64, done := [0, 1] })] }), {}, 201654272, 17, by decide +kernel⟩,
   ⟨upOn flash (fun b => { b with nvf.stripes := [(201654272, { openDurable := true, used := 64 })] }), {}, 201654272, 17, by decide +kernel⟩,
   ⟨upOn flash (fun b => b), 1, by decide +kernel⟩,
   ⟨upOn flash (fun b => { b with nvf.jErase := 2 ^ 40, nvf.erasing := [3] }), 3, by decide +kernel⟩,
   ⟨upOn flash (fun b => { b with nvf.jErase := 5 }), 6153, by decide +kernel⟩,
   ⟨upOn flash (fun b => { b with nvf.zones := [(6154, { state := .erasing })], nvf.erasing := [6154] }), 6154, by decide +kernel⟩,
   ⟨upOn flash (fun b => b), 2, by decide +kernel⟩,
   ⟨upOn flash (fun b => b), 0, by decide +kernel⟩,
   ⟨upOn flash (fun b => b), 0, by decide +kernel⟩,
   ⟨upOn flash (fun b => b), by decide +kernel⟩,
   ⟨upOn flash (fun b => { b with nvf.openStripe := some 201654272, nvf.stripes := [(201654272, { used := 3 })], mer.count := 10000 }), 201654272, by decide +kernel⟩,
   ⟨upOn flash (fun b => { b with nvf.openStripe := some 201654272, nvf.stripes := [(201654272, { used := 3 })], mer.count := 9999 }), 201654272, by decide +kernel⟩,
   ⟨upOn flash (fun b => b), by decide +kernel⟩,
   ⟨upOn flash (fun b => { b with nvf.zones := [(6154, { state := .open' }), (6155, { state := .open' }), (6156, { state := .open' })] }), by decide +kernel⟩,
   ⟨upOn flash (fun b => { b with nvf.zones := [(6154, { state := .closed }), (6155, { state := .open' }), (6156, { state := .open' })] }), 6154, by decide +kernel⟩,
   ⟨up id, ({ flash.blk with nvf.reclaiming := some 6154, nvf.zones := [(6154, { state := .closed })], nvf.stripes := [(201654272, { closed := true, mapped := true, used := 64, units := [(0, { kind := .home, page := 9 })] })], nvf.homeMap := [(9, { stripe := 201654272, slot := 0, gen := 0 })] } : Blk), 6154, by decide +kernel⟩,
   ⟨up id, ({ flash.blk with nvf.reclaiming := some 6154, nvf.zones := [(6154, { state := .closed })] } : Blk), 6154, by decide +kernel⟩,
   ⟨upOn flash (fun b => { b with nvf.rep0 := { die := some 0 } }), 0, by decide +kernel⟩,
   ⟨upOn flash (fun b => { b with nvf.rep1 := { die := some 1 } }), 128, by decide +kernel⟩⟩

/-- States and operands that meet the hypotheses of the clauses of FlashServiceCommands. -/
theorem witness_FlashServiceCommands :
    (∃ s : State, (s.blk.aon = true) ∧ (s.now.pwr.sysRst = false) ∧ (s.now.fwWaits = false) ∧ (s.now.inDusk = false)) ∧
    (∃ s : State, (s.blk.aon = true) ∧ (s.now.pwr.sysRst = false) ∧ (s.now.fwWaits = true)) ∧
    (∃ s : State, ∃ g : Nat, (s.blk.aon = true) ∧ (s.now.pwr.sysRst = false) ∧ (s.now.fwWaits = false) ∧ (s.now.nvf.rebuilding = true ∨ (s.now.die g).state ≠ .retired)) ∧
    (∃ s : State, ∃ g : Nat, (s.blk.aon = true) ∧ (s.now.pwr.sysRst = false) ∧ (s.now.fwWaits = false) ∧ (s.now.nvf.rebuilding = false) ∧ ((s.now.die g).state = .retired)) ∧
    (∃ s : State, ∃ g : Nat, (s.blk.aon = true) ∧ (s.now.pwr.sysRst = false) ∧ ((s.now.die g).state ≠ .member)) ∧
    (∃ s : State, ∃ g : Nat, (s.blk.aon = true) ∧ (s.now.pwr.sysRst = false) ∧ ((s.now.die g).state = .member)) ∧
    (∃ s : State, (s.blk.aon = true) ∧ (s.now.pwr.sysRst = false)) ∧
    (∃ s : State, (s.blk.aon = true) ∧ (s.now.inDusk = true)) ∧
    (∃ s : State, (s.blk.aon = true) ∧ (s.now.inDusk = false) ∧ (s.now.nvf.rebuildTodo = [])) ∧
    (∃ s : State, ∃ i : Nat, ∃ q : Nat, ∃ rest : List (Nat × Nat), (s.blk.aon = true) ∧ (s.now.inDusk = false) ∧ (s.now.nvf.rebuildTodo = (i, q) :: rest) ∧ ((s.now.stripe i).lost.length ≤ 2) ∧ ((s.now.slotDie i q).isSome = true) ∧ (SMap.has s.now.nvf.stripes i = true)) ∧
    (∃ s : State, (s.blk.aon = true) ∧ (s.now.nvf.rawResult ≠ 1)) ∧
    (∃ s : State, (s.blk.aon = true) ∧ (s.now.nvf.rawResult = 1) ∧ (s.now.dieAt s.now.nvf.rawLoc = none)) ∧
    (∃ s : State, ∃ g : Nat, (s.blk.aon = true) ∧ (s.now.nvf.rawResult = 1) ∧ (s.now.dieAt s.now.nvf.rawLoc = some g) ∧ (s.now.nvf.erasing.any (fun z => s.now.zoneOfBlock g (fieldOf s.now.nvf.rawLoc 47 32) == some z) = true)) ∧
    (∃ s : State, ∃ g : Nat, (s.blk.aon = true) ∧ (s.now.nvf.rawResult = 1) ∧ (s.now.dieAt s.now.nvf.rawLoc = some g) ∧ (s.now.nvf.erasing.any (fun z => s.now.zoneOfBlock g (fieldOf s.now.nvf.rawLoc 47 32) == some z) = false) ∧ (((s.now.zoneOfBlock g (fieldOf s.now.nvf.rawLoc 47 32)).bind (fun z => s.now.pageOfDie g z (fieldOf s.now.nvf.rawLoc 31 20))) = none)) ∧
    (∃ s : State, ∃ g : Nat, (s.blk.aon = true) ∧ (s.now.nvf.rawResult = 1) ∧ (s.now.dieAt s.now.nvf.rawLoc = some g) ∧ (s.now.nvf.erasing.any (fun z => s.now.zoneOfBlock g (fieldOf s.now.nvf.rawLoc 47 32) == some z) = false)) ∧
    (∃ s : State, (s.blk.aon = true) ∧ (s.now.patrolling = false)) ∧
    (∃ s : State, ∃ n, (s.blk.aon = true) ∧ (n = (if s.now.nvf.patrolEpoch = s.now.epoch then s.now.nvf.patrolCount else 0)) ∧ (s.now.nvf.patrolRate ≤ n)) ∧
    (∃ s : State, ∃ n, ∃ i : Nat, ∃ w, ∃ m, (s.blk.aon = true) ∧ (n = (if s.now.nvf.patrolEpoch = s.now.epoch then s.now.nvf.patrolCount else 0)) ∧ (n < s.now.nvf.patrolRate) ∧ (s.now.patrolling = true) ∧ (s.now.patrolNext = some (i, w)) ∧ ((s.now.stripe i).lost = []) ∧ (m = modNvf (fun v => { v with patrolPos := i + 1, patrolPasses := if w then sat32 v.patrolPasses else v.patrolPasses, patrolEpoch := s.now.epoch, patrolCount := n + 1 }) s.now)) ∧
    (∃ s : State, ∃ n, ∃ i : Nat, ∃ w, ∃ m, (s.blk.aon = true) ∧ (n = (if s.now.nvf.patrolEpoch = s.now.epoch then s.now.nvf.patrolCount else 0)) ∧ (n < s.now.nvf.patrolRate) ∧ (s.now.patrolling = true) ∧ (s.now.patrolNext = some (i, w)) ∧ ((s.now.stripe i).lost = []) ∧ (m = modNvf (fun v => { v with patrolPos := i + 1, patrolPasses := if w then sat32 v.patrolPasses else v.patrolPasses, patrolEpoch := s.now.epoch, patrolCount := n + 1 }) s.now)) ∧
    (∃ s : State, ∃ n, ∃ i : Nat, ∃ w, ∃ m, ∃ es : List (Nat × Nat × Nat), (s.blk.aon = true) ∧ (n = (if s.now.nvf.patrolEpoch = s.now.epoch then s.now.nvf.patrolCount else 0)) ∧ (n < s.now.nvf.patrolRate) ∧ (s.now.patrolling = true) ∧ (s.now.patrolNext = some (i, w)) ∧ ((s.now.stripe i).lost = []) ∧ (m = modNvf (fun v => { v with patrolPos := i + 1, patrolPasses := if w then sat32 v.patrolPasses else v.patrolPasses, patrolEpoch := s.now.epoch, patrolCount := n + 1 }) s.now) ∧ (m.culprit i es = .clean)) ∧
    (∃ s : State, ∃ n, ∃ i : Nat, ∃ w, ∃ m, ∃ es : List (Nat × Nat × Nat), ∃ q : Nat, (s.blk.aon = true) ∧ (n = (if s.now.nvf.patrolEpoch = s.now.epoch then s.now.nvf.patrolCount else 0)) ∧ (n < s.now.nvf.patrolRate) ∧ (s.now.patrolling = true) ∧ (s.now.patrolNext = some (i, w)) ∧ ((s.now.stripe i).lost = []) ∧ (m = modNvf (fun v => { v with patrolPos := i + 1, patrolPasses := if w then sat32 v.patrolPasses else v.patrolPasses, patrolEpoch := s.now.epoch, patrolCount := n + 1 }) s.now) ∧ (m.culprit i es = .page q)) ∧
    (∃ s : State, ∃ n, ∃ i : Nat, ∃ w, ∃ m, ∃ es : List (Nat × Nat × Nat), (s.blk.aon = true) ∧ (n = (if s.now.nvf.patrolEpoch = s.now.epoch then s.now.nvf.patrolCount else 0)) ∧ (n < s.now.nvf.patrolRate) ∧ (s.now.patrolling = true) ∧ (s.now.patrolNext = some (i, w)) ∧ ((s.now.stripe i).lost = []) ∧ (m = modNvf (fun v => { v with patrolPos := i + 1, patrolPasses := if w then sat32 v.patrolPasses else v.patrolPasses, patrolEpoch := s.now.epoch, patrolCount := n + 1 }) s.now) ∧ (m.culprit i es = .none)) ∧
    (∃ s : State, ∃ n, ∃ i : Nat, ∃ w, ∃ m, ∃ q : Nat, (s.blk.aon = true) ∧ (n = (if s.now.nvf.patrolEpoch = s.now.epoch then s.now.nvf.patrolCount else 0)) ∧ (n < s.now.nvf.patrolRate) ∧ (s.now.patrolling = true) ∧ (s.now.patrolNext = some (i, w)) ∧ ((s.now.stripe i).lost = []) ∧ (m = modNvf (fun v => { v with patrolPos := i + 1, patrolPasses := if w then sat32 v.patrolPasses else v.patrolPasses, patrolEpoch := s.now.epoch, patrolCount := n + 1 }) s.now) ∧ (q ≤ 17)) ∧
    (∃ s : State, ∃ d : Nat, (s.blk.aon = true) ∧ (d ≠ 0)) ∧
    (∃ s : State, ∃ epochs, (s.blk.aon = true) ∧ (epochs = s.now.cht.cur.far.patrolDays * 86400 * 10 ^ 9 / Nat.max (s.now.mer.body.l * s.now.mer.body.tickNs) 1)) ∧
    (∃ s : State, (s.blk.aon = true) ∧ (s.now.nvf.reshaping = false ∨ s.now.nvf.reshapePaused = true ∨ s.now.inDusk = true)) ∧
    (∃ s : State, ∃ a : LiveApply, (s.blk.aon = true) ∧ (s.now.nvf.reshaping = true) ∧ (s.now.nvf.reshapePaused = false) ∧ (s.now.inDusk = false) ∧ (s.now.cht.apply = some a) ∧ (s.now.nvf.stripes.filter (fun e => e.2.gen != s.now.layout.gen) = [])) ∧
    (∃ s : State, (s.blk.aon = true) ∧ (s.now.nvf.reshaping = true) ∧ (s.now.nvf.reshapePaused = false) ∧ (s.now.inDusk = false) ∧ (s.now.cht.apply = none) ∧ (s.now.nvf.stripes.filter (fun e => e.2.gen != s.now.layout.gen) = [])) :=
  ⟨⟨upOn flash (fun b => b), by decide +kernel⟩,
   ⟨upOn flash (fun b => { b with fw.restarting := true }), by decide +kernel⟩,
   ⟨upOn flash (fun b => b), 0, by decide +kernel⟩,
   ⟨upOn flash (fun b => { b with nvf.dies := [(0, { state := .retired })] }), 0, by decide +kernel⟩,
   ⟨upOn flash (fun b => b), 255, by decide +kernel⟩,
   ⟨upOn flash (fun b => b), 0, by decide +kernel⟩,
   ⟨upOn flash (fun b => b), by decide +kernel⟩,
   ⟨upOn flash (fun b => { b with pers.dusk := some {} }), by decide +kernel⟩,
   ⟨upOn flash (fun b => { b with nvf.rebuilding := true }), by decide +kernel⟩,
   ⟨upOn flash (fun b => { b with nvf.rebuilding := true, nvf.rebuildTodo := [(201654272, 17)], nvf.stripes := [(201654272, { closed := true, lost := [0, 17] })] }), 201654272, 17, ([] : List (Nat × Nat)), by decide +kernel⟩,
   ⟨upOn flash (fun b => b), by decide +kernel⟩,
   ⟨upOn flash (fun b => { b with nvf.rawResult := 1, nvf.rawLoc := ones64 }), by decide +kernel⟩,
   ⟨upOn flash (fun b => { b with nvf.rawResult := 1, nvf.rawLoc := BitVec.ofNat 64 (128 * 2 ^ 32), nvf.erasing := [0] }), 0, by decide +kernel⟩,
   ⟨upOn flash (fun b => { b with nvf.rawResult := 1 }), 0, by decide +kernel⟩,
   ⟨upOn flash (fun b => { b with nvf.rawResult := 1 }), 0, by decide +kernel⟩,
   ⟨upOn flash (fun b => b), by decide +kernel⟩,
   ⟨upOn flash (fun b => { b with nvf.patrolOn := true, nvf.patrolRate := 2, nvf.patrolCount := 2 }), ((if (upOn flash (fun b => { b with nvf.patrolOn := true, nvf.patrolRate := 2, nvf.patrolCount := 2 })).now.nvf.patrolEpoch = (upOn flash (fun b => { b with nvf.patrolOn := true, nvf.patrolRate := 2, nvf.patrolCount := 2 })).now.epoch then (upOn flash (fun b => { b with nvf.patrolOn := true, nvf.patrolRate := 2, nvf.patrolCount := 2 })).now.nvf.patrolCount else 0)), by refine ⟨?_, rfl, ?_⟩ <;> decide +kernel⟩,
   ⟨upOn flash (fun b => { b with nvf.patrolOn := true, nvf.patrolRate := 1, nvf.stripes := [(201654272, { closed := true })] }), ((if (upOn flash (fun b => { b with nvf.patrolOn := true, nvf.patrolRate := 1, nvf.stripes := [(201654272, { closed := true })] })).now.nvf.patrolEpoch = (upOn flash (fun b => { b with nvf.patrolOn := true, nvf.patrolRate := 1, nvf.stripes := [(201654272, { closed := true })] })).now.epoch then (upOn flash (fun b => { b with nvf.patrolOn := true, nvf.patrolRate := 1, nvf.stripes := [(201654272, { closed := true })] })).now.nvf.patrolCount else 0)), 201654272, false, (modNvf (fun v => { v with patrolPos := (201654272) + 1, patrolPasses := if (false) then sat32 v.patrolPasses else v.patrolPasses, patrolEpoch := (upOn flash (fun b => { b with nvf.patrolOn := true, nvf.patrolRate := 1, nvf.stripes := [(201654272, { closed := true })] })).now.epoch, patrolCount := (((if (upOn flash (fun b => { b with nvf.patrolOn := true, nvf.patrolRate := 1, nvf.stripes := [(201654272, { closed := true })] })).now.nvf.patrolEpoch = (upOn flash (fun b => { b with nvf.patrolOn := true, nvf.patrolRate := 1, nvf.stripes := [(201654272, { closed := true })] })).now.epoch then (upOn flash (fun b => { b with nvf.patrolOn := true, nvf.patrolRate := 1, nvf.stripes := [(201654272, { closed := true })] })).now.nvf.patrolCount else 0))) + 1 }) (upOn flash (fun b => { b with nvf.patrolOn := true, nvf.patrolRate := 1, nvf.stripes := [(201654272, { closed := true })] })).now), by refine ⟨?_, rfl, ?_, ?_, ?_, ?_, rfl⟩ <;> decide +kernel⟩,
   ⟨upOn flash (fun b => { b with nvf.patrolOn := true, nvf.patrolRate := 1, nvf.patrolEpoch := 7, nvf.patrolCount := 9, nvf.patrolPos := 201654272 + 1, nvf.stripes := [(201654272, { closed := true })] }), ((if (upOn flash (fun b => { b with nvf.patrolOn := true, nvf.patrolRate := 1, nvf.patrolEpoch := 7, nvf.patrolCount := 9, nvf.patrolPos := 201654272 + 1, nvf.stripes := [(201654272, { closed := true })] })).now.nvf.patrolEpoch = (upOn flash (fun b => { b with nvf.patrolOn := true, nvf.patrolRate := 1, nvf.patrolEpoch := 7, nvf.patrolCount := 9, nvf.patrolPos := 201654272 + 1, nvf.stripes := [(201654272, { closed := true })] })).now.epoch then (upOn flash (fun b => { b with nvf.patrolOn := true, nvf.patrolRate := 1, nvf.patrolEpoch := 7, nvf.patrolCount := 9, nvf.patrolPos := 201654272 + 1, nvf.stripes := [(201654272, { closed := true })] })).now.nvf.patrolCount else 0)), 201654272, true, (modNvf (fun v => { v with patrolPos := (201654272) + 1, patrolPasses := if (true) then sat32 v.patrolPasses else v.patrolPasses, patrolEpoch := (upOn flash (fun b => { b with nvf.patrolOn := true, nvf.patrolRate := 1, nvf.patrolEpoch := 7, nvf.patrolCount := 9, nvf.patrolPos := 201654272 + 1, nvf.stripes := [(201654272, { closed := true })] })).now.epoch, patrolCount := (((if (upOn flash (fun b => { b with nvf.patrolOn := true, nvf.patrolRate := 1, nvf.patrolEpoch := 7, nvf.patrolCount := 9, nvf.patrolPos := 201654272 + 1, nvf.stripes := [(201654272, { closed := true })] })).now.nvf.patrolEpoch = (upOn flash (fun b => { b with nvf.patrolOn := true, nvf.patrolRate := 1, nvf.patrolEpoch := 7, nvf.patrolCount := 9, nvf.patrolPos := 201654272 + 1, nvf.stripes := [(201654272, { closed := true })] })).now.epoch then (upOn flash (fun b => { b with nvf.patrolOn := true, nvf.patrolRate := 1, nvf.patrolEpoch := 7, nvf.patrolCount := 9, nvf.patrolPos := 201654272 + 1, nvf.stripes := [(201654272, { closed := true })] })).now.nvf.patrolCount else 0))) + 1 }) (upOn flash (fun b => { b with nvf.patrolOn := true, nvf.patrolRate := 1, nvf.patrolEpoch := 7, nvf.patrolCount := 9, nvf.patrolPos := 201654272 + 1, nvf.stripes := [(201654272, { closed := true })] })).now), by refine ⟨?_, rfl, ?_, ?_, ?_, ?_, rfl⟩ <;> decide +kernel⟩,
   ⟨upOn flash (fun b => { b with nvf.patrolOn := true, nvf.patrolRate := 1, nvf.stripes := [(201654272, { closed := true })] }), ((if (upOn flash (fun b => { b with nvf.patrolOn := true, nvf.patrolRate := 1, nvf.stripes := [(201654272, { closed := true })] })).now.nvf.patrolEpoch = (upOn flash (fun b => { b with nvf.patrolOn := true, nvf.patrolRate := 1, nvf.stripes := [(201654272, { closed := true })] })).now.epoch then (upOn flash (fun b => { b with nvf.patrolOn := true, nvf.patrolRate := 1, nvf.stripes := [(201654272, { closed := true })] })).now.nvf.patrolCount else 0)), 201654272, false, (modNvf (fun v => { v with patrolPos := (201654272) + 1, patrolPasses := if (false) then sat32 v.patrolPasses else v.patrolPasses, patrolEpoch := (upOn flash (fun b => { b with nvf.patrolOn := true, nvf.patrolRate := 1, nvf.stripes := [(201654272, { closed := true })] })).now.epoch, patrolCount := (((if (upOn flash (fun b => { b with nvf.patrolOn := true, nvf.patrolRate := 1, nvf.stripes := [(201654272, { closed := true })] })).now.nvf.patrolEpoch = (upOn flash (fun b => { b with nvf.patrolOn := true, nvf.patrolRate := 1, nvf.stripes := [(201654272, { closed := true })] })).now.epoch then (upOn flash (fun b => { b with nvf.patrolOn := true, nvf.patrolRate := 1, nvf.stripes := [(201654272, { closed := true })] })).now.nvf.patrolCount else 0))) + 1 }) (upOn flash (fun b => { b with nvf.patrolOn := true, nvf.patrolRate := 1, nvf.stripes := [(201654272, { closed := true })] })).now), ([] : List (Nat × Nat × Nat)), by refine ⟨?_, rfl, ?_, ?_, ?_, ?_, rfl, ?_⟩ <;> decide +kernel⟩,
   ⟨upOn flash (fun b => { b with nvf.patrolOn := true, nvf.patrolRate := 1, nvf.stripes := [(201654272, { closed := true })] }), ((if (upOn flash (fun b => { b with nvf.patrolOn := true, nvf.patrolRate := 1, nvf.stripes := [(201654272, { closed := true })] })).now.nvf.patrolEpoch = (upOn flash (fun b => { b with nvf.patrolOn := true, nvf.patrolRate := 1, nvf.stripes := [(201654272, { closed := true })] })).now.epoch then (upOn flash (fun b => { b with nvf.patrolOn := true, nvf.patrolRate := 1, nvf.stripes := [(201654272, { closed := true })] })).now.nvf.patrolCount else 0)), 201654272, false, (modNvf (fun v => { v with patrolPos := (201654272) + 1, patrolPasses := if (false) then sat32 v.patrolPasses else v.patrolPasses, patrolEpoch := (upOn flash (fun b => { b with nvf.patrolOn := true, nvf.patrolRate := 1, nvf.stripes := [(201654272, { closed := true })] })).now.epoch, patrolCount := (((if (upOn flash (fun b => { b with nvf.patrolOn := true, nvf.patrolRate := 1, nvf.stripes := [(201654272, { closed := true })] })).now.nvf.patrolEpoch = (upOn flash (fun b => { b with nvf.patrolOn := true, nvf.patrolRate := 1, nvf.stripes := [(201654272, { closed := true })] })).now.epoch then (upOn flash (fun b => { b with nvf.patrolOn := true, nvf.patrolRate := 1, nvf.stripes := [(201654272, { closed := true })] })).now.nvf.patrolCount else 0))) + 1 }) (upOn flash (fun b => { b with nvf.patrolOn := true, nvf.patrolRate := 1, nvf.stripes := [(201654272, { closed := true })] })).now), ([(3, 100, 8)] : List (Nat × Nat × Nat)), 3, by refine ⟨?_, rfl, ?_, ?_, ?_, ?_, rfl, ?_⟩ <;> decide +kernel⟩,
   ⟨upOn flash (fun b => { b with nvf.patrolOn := true, nvf.patrolRate := 1, nvf.stripes := [(201654272, { closed := true })] }), ((if (upOn flash (fun b => { b with nvf.patrolOn := true, nvf.patrolRate := 1, nvf.stripes := [(201654272, { closed := true })] })).now.nvf.patrolEpoch = (upOn flash (fun b => { b with nvf.patrolOn := true, nvf.patrolRate := 1, nvf.stripes := [(201654272, { closed := true })] })).now.epoch then (upOn flash (fun b => { b with nvf.patrolOn := true, nvf.patrolRate := 1, nvf.stripes := [(201654272, { closed := true })] })).now.nvf.patrolCount else 0)), 201654272, false, (modNvf (fun v => { v with patrolPos := (201654272) + 1, patrolPasses := if (false) then sat32 v.patrolPasses else v.patrolPasses, patrolEpoch := (upOn flash (fun b => { b with nvf.patrolOn := true, nvf.patrolRate := 1, nvf.stripes := [(201654272, { closed := true })] })).now.epoch, patrolCount := (((if (upOn flash (fun b => { b with nvf.patrolOn := true, nvf.patrolRate := 1, nvf.stripes := [(201654272, { closed := true })] })).now.nvf.patrolEpoch = (upOn flash (fun b => { b with nvf.patrolOn := true, nvf.patrolRate := 1, nvf.stripes := [(201654272, { closed := true })] })).now.epoch then (upOn flash (fun b => { b with nvf.patrolOn := true, nvf.patrolRate := 1, nvf.stripes := [(201654272, { closed := true })] })).now.nvf.patrolCount else 0))) + 1 }) (upOn flash (fun b => { b with nvf.patrolOn := true, nvf.patrolRate := 1, nvf.stripes := [(201654272, { closed := true })] })).now), ([(3, 100, 8), (5, 100, 1)] : List (Nat × Nat × Nat)), by refine ⟨?_, rfl, ?_, ?_, ?_, ?_, rfl, ?_⟩ <;> decide +kernel⟩,
   ⟨upOn flash (fun b => { b with nvf.patrolOn := true, nvf.patrolRate := 1, nvf.stripes := [(201654272, { closed := true })] }), ((if (upOn flash (fun b => { b with nvf.patrolOn := true, nvf.patrolRate := 1, nvf.stripes := [(201654272, { closed := true })] })).now.nvf.patrolEpoch = (upOn flash (fun b => { b with nvf.patrolOn := true, nvf.patrolRate := 1, nvf.stripes := [(201654272, { closed := true })] })).now.epoch then (upOn flash (fun b => { b with nvf.patrolOn := true, nvf.patrolRate := 1, nvf.stripes := [(201654272, { closed := true })] })).now.nvf.patrolCount else 0)), 201654272, false, (modNvf (fun v => { v with patrolPos := (201654272) + 1, patrolPasses := if (false) then sat32 v.patrolPasses else v.patrolPasses, patrolEpoch := (upOn flash (fun b => { b with nvf.patrolOn := true, nvf.patrolRate := 1, nvf.stripes := [(201654272, { closed := true })] })).now.epoch, patrolCount := (((if (upOn flash (fun b => { b with nvf.patrolOn := true, nvf.patrolRate := 1, nvf.stripes := [(201654272, { closed := true })] })).now.nvf.patrolEpoch = (upOn flash (fun b => { b with nvf.patrolOn := true, nvf.patrolRate := 1, nvf.stripes := [(201654272, { closed := true })] })).now.epoch then (upOn flash (fun b => { b with nvf.patrolOn := true, nvf.patrolRate := 1, nvf.stripes := [(201654272, { closed := true })] })).now.nvf.patrolCount else 0))) + 1 }) (upOn flash (fun b => { b with nvf.patrolOn := true, nvf.patrolRate := 1, nvf.stripes := [(201654272, { closed := true })] })).now), 17, by refine ⟨?_, rfl, ?_, ?_, ?_, ?_, rfl, ?_⟩ <;> decide +kernel⟩,
   ⟨up id, 255, by decide +kernel⟩,
   ⟨up id, ((up id).now.cht.cur.far.patrolDays * 86400 * 10 ^ 9 / Nat.max ((up id).now.mer.body.l * (up id).now.mer.body.tickNs) 1), by refine ⟨?_, rfl⟩ <;> decide +kernel⟩,
   ⟨upOn flash (fun b => b), by decide +kernel⟩,
   ⟨upOn flash (fun b => { b with nvf.reshaping := true, cht.apply := some { epoch := 1, next := {} } }), ({ epoch := 1, next := {} } : LiveApply), by decide +kernel⟩,
   ⟨upOn flash (fun b => { b with nvf.reshaping := true }), by decide +kernel⟩⟩

/-- States and operands that meet the hypotheses of the clauses of StagingFillsPromotesAndEvicts. -/
theorem witness_StagingFillsPromotesAndEvicts :
    (∃ s : State, ∃ phys : Phys, ∃ f : Nat, ∃ m, (s.blk.aon = true) ∧ (m = dirRead phys (s.now.stageSet f) s.now) ∧ (m.stageFind f = none)) ∧
    (∃ s : State, ∃ phys : Phys, ∃ f : Nat, ∃ m, ∃ i : Nat, (s.blk.aon = true) ∧ (m = dirRead phys (s.now.stageSet f) s.now) ∧ (m.stageFind f = some i) ∧ ((m.dirEntry i).state = .filling) ∧ (m.inDusk = false)) ∧
    (∃ s : State, ∃ phys : Phys, ∃ f : Nat, ∃ m, ∃ i : Nat, (s.blk.aon = true) ∧ (m = dirRead phys (s.now.stageSet f) s.now) ∧ (m.stageFind f = some i) ∧ ((m.dirEntry i).state ≠ .filling ∨ m.inDusk = true)) ∧
    (∃ s : State, ∃ f : Nat, (s.blk.aon = true) ∧ (s.now.stageFind f = none)) ∧
    (∃ s : State, ∃ f : Nat, ∃ i : Nat, ∃ u : FlashUnit, ∃ at' : Nat × Nat, ∃ red, (s.blk.aon = true) ∧ (s.now.stageFind f = some i) ∧ (SMap.find? s.now.pers.inFlight (s.now.slotPage i) = some red) ∧ (SMap.find? s.now.pers.programs (s.now.slotPage i) = some u) ∧ (s.now.unitPlace u = some at') ∧ (u.kind = .far) ∧ ((s.now.stripe at'.1).done.contains (at'.2 / 4) = false) ∧ (s.now.mayProgram at'.1 (at'.2 / 4) = false)) ∧
    (∃ s : State, ∃ f : Nat, ∃ i : Nat, ∃ u : FlashUnit, ∃ at' : Nat × Nat, ∃ red, ∃ m, (s.blk.aon = true) ∧ (s.now.stageFind f = some i) ∧ (SMap.find? s.now.pers.inFlight (s.now.slotPage i) = some red) ∧ (SMap.find? s.now.pers.programs (s.now.slotPage i) = some u) ∧ (s.now.unitPlace u = some at') ∧ (u.kind = .far) ∧ (((s.now.stripe at'.1).done.contains (at'.2 / 4) = true ∧ m = s.now) ∨ ((s.now.stripe at'.1).done.contains (at'.2 / 4) = false ∧ s.now.mayProgram at'.1 (at'.2 / 4) = true ∧ m = pageProgrammed at'.1 (at'.2 / 4) s.now))) ∧
    (∃ s : State, ∃ f : Nat, ∃ i : Nat, ∃ u : FlashUnit, ∃ at' : Nat × Nat, ∃ red, ∃ m, (s.blk.aon = true) ∧ (s.now.stageFind f = some i) ∧ (SMap.find? s.now.pers.inFlight (s.now.slotPage i) = some red) ∧ (SMap.find? s.now.pers.programs (s.now.slotPage i) = some u) ∧ (s.now.unitPlace u = some at') ∧ (u.kind = .far) ∧ (((s.now.stripe at'.1).done.contains (at'.2 / 4) = true ∧ m = s.now) ∨ ((s.now.stripe at'.1).done.contains (at'.2 / 4) = false ∧ s.now.mayProgram at'.1 (at'.2 / 4) = true ∧ m = pageProgrammed at'.1 (at'.2 / 4) s.now))) ∧
    (∃ s : State, ∃ n : Nat, (s.blk.aon = true) ∧ (s.now.ldTakes n = true) ∧ ((s.now.stageCtl n).busy.isSome = true)) ∧
    (∃ s : State, ∃ phys : Phys, ∃ n : Nat, ∃ p : Nat, ∃ i : Nat, ∃ m, (s.blk.aon = true) ∧ (s.now.ldTakes n = true) ∧ ((s.now.stageCtl n).busy = none) ∧ (s.now.area (4096 * p) = .far) ∧ (s.now.homed (4096 * p) = true) ∧ (s.now.reach n (4096 * p) = .ok) ∧ (m = dirRead phys (s.now.stageSet (s.now.farPage (4096 * p))) (stageBegin false n (4096 * p) 1 s.now)) ∧ (m.stageFind (s.now.farPage (4096 * p)) = some i) ∧ (0 < (m.dirEntry i).count)) ∧
    (∃ s : State, ∃ phys : Phys, ∃ n : Nat, ∃ p : Nat, ∃ i : Nat, ∃ m, (s.blk.aon = true) ∧ (s.now.ldTakes n = true) ∧ ((s.now.stageCtl n).busy = none) ∧ (s.now.area (4096 * p) = .far) ∧ (s.now.homed (4096 * p) = true) ∧ (s.now.reach n (4096 * p) = .ok) ∧ (m = dirRead phys (s.now.stageSet (s.now.farPage (4096 * p))) (stageBegin false n (4096 * p) 1 s.now)) ∧ (m.stageFind (s.now.farPage (4096 * p)) = some i) ∧ ((m.dirEntry i).count = 0) ∧ (m.cht.cur.transit.pinWays ≤ ((List.range 16).filter (fun w => decide (0 < (m.dirEntry (16 * m.stageSet (s.now.farPage (4096 * p)) + w)).count))).length)) ∧
    (∃ s : State, ∃ phys : Phys, ∃ n : Nat, ∃ p : Nat, ∃ i : Nat, ∃ m, (s.blk.aon = true) ∧ (s.now.ldTakes n = true) ∧ ((s.now.stageCtl n).busy = none) ∧ (s.now.area (4096 * p) = .far) ∧ (s.now.homed (4096 * p) = true) ∧ (m = dirRead phys (s.now.stageSet (s.now.farPage (4096 * p))) (stageBegin true n (4096 * p) 1 s.now)) ∧ (m.area (4096 * p) = .far) ∧ (m.stageFind (m.farPage (4096 * p)) = some i) ∧ ((m.dirEntry i).holds m.sideB n = true)) ∧
    (∃ s : State, ∃ phys : Phys, ∃ n : Nat, ∃ p : Nat, ∃ i : Nat, ∃ m, (s.blk.aon = true) ∧ (s.now.ldTakes n = true) ∧ ((s.now.stageCtl n).busy = none) ∧ (s.now.area (4096 * p) = .far) ∧ (s.now.homed (4096 * p) = true) ∧ (m = dirRead phys (s.now.stageSet (s.now.farPage (4096 * p))) (stageBegin true n (4096 * p) 1 s.now)) ∧ (m.area (4096 * p) = .far) ∧ (m.stageFind (m.farPage (4096 * p)) = some i) ∧ ((m.dirEntry i).holds m.sideB n = true)) ∧
    (∃ s : State, ∃ phys : Phys, ∃ n : Nat, ∃ p : Nat, ∃ i : Nat, ∃ m, (s.blk.aon = true) ∧ (s.now.ldTakes n = true) ∧ ((s.now.stageCtl n).busy = none) ∧ (s.now.area (4096 * p) = .far) ∧ (s.now.homed (4096 * p) = true) ∧ (m = dirRead phys (s.now.stageSet (s.now.farPage (4096 * p))) (stageBegin true n (4096 * p) 1 s.now)) ∧ (m.area (4096 * p) = .far) ∧ (m.stageFind (m.farPage (4096 * p)) = some i) ∧ ((m.dirEntry i).holds m.sideB n = false)) ∧
    (∃ s : State, ∃ n : Nat, ∃ dpa : Nat, ∃ count : Nat, (s.blk.aon = true) ∧ (s.now.ldTakes n = true) ∧ ((s.now.stageCtl n).busy = none) ∧ (0 < count) ∧ (s.now.area (dpa / 4096 * 4096) ≠ .far)) :=
  ⟨⟨upOn farS (fun b => b), ({} : Phys), 5, (dirRead (({} : Phys)) ((upOn farS (fun b => b)).now.stageSet (5)) (upOn farS (fun b => b)).now), by refine ⟨?_, rfl, ?_⟩ <;> decide +kernel⟩,
   ⟨staged { state := .filling, holdA := 3, roaA := 1 }, ({} : Phys), 5, (dirRead (({} : Phys)) ((staged { state := .filling, holdA := 3, roaA := 1 }).now.stageSet (5)) (staged { state := .filling, holdA := 3, roaA := 1 }).now), 2498, by refine ⟨?_, rfl, ?_⟩ <;> decide +kernel⟩,
   ⟨staged { state := .clean }, ({} : Phys), 5, (dirRead (({} : Phys)) ((staged { state := .clean }).now.stageSet (5)) (staged { state := .clean }).now), 2498, by refine ⟨?_, rfl, ?_⟩ <;> decide +kernel⟩,
   ⟨upOn farS (fun b => b), 5, by decide +kernel⟩,
   ⟨upOn (staged { state := .writing }) (fun b => { b with nvf.stripes := [(201654272, { used := 4, units := [(0, { kind := .far, page := 5 })] })], pers.inFlight := [(2099906, false)], pers.programs := [(2099906, { kind := .far, page := 5 })] }), 5, 2498, ({ kind := .far, page := 5 } : FlashUnit), ((201654272, 0) : Nat × Nat), false, by decide +kernel⟩,
   ⟨upOn (staged { state := .writing }) (fun b => { b with nvf.stripes := [(201654272, { openDurable := true, used := 4, units := [(0, { kind := .far, page := 5 })] })], pers.inFlight := [(2099906, false)], pers.programs := [(2099906, { kind := .far, page := 5 })] }), 5, 2498, ({ kind := .far, page := 5 } : FlashUnit), ((201654272, 0) : Nat × Nat), false, pageProgrammed 201654272 0 (upOn (staged { state := .writing }) (fun b => { b with nvf.stripes := [(201654272, { openDurable := true, used := 4, units := [(0, { kind := .far, page := 5 })] })], pers.inFlight := [(2099906, false)], pers.programs := [(2099906, { kind := .far, page := 5 })] })).now, by (refine ⟨?_, ?_, ?_, ?_, ?_, ?_, .inr ⟨?_, ?_, rfl⟩⟩ <;> decide +kernel)⟩,
   ⟨upOn (staged { state := .writing, redirtied := true }) (fun b => { b with nvf.stripes := [(201654272, { openDurable := true, used := 4, done := [0], units := [(0, { kind := .far, page := 5 })] })], pers.inFlight := [(2099906, true)], pers.programs := [(2099906, { kind := .far, page := 5 })] }), 5, 2498, ({ kind := .far, page := 5 } : FlashUnit), ((201654272, 0) : Nat × Nat), true, (upOn (staged { state := .writing, redirtied := true }) (fun b => { b with nvf.stripes := [(201654272, { openDurable := true, used := 4, done := [0], units := [(0, { kind := .far, page := 5 })] })], pers.inFlight := [(2099906, true)], pers.programs := [(2099906, { kind := .far, page := 5 })] })).now, by (refine ⟨?_, ?_, ?_, ?_, ?_, ?_, .inl ⟨?_, rfl⟩⟩ <;> decide +kernel)⟩,
   ⟨upOn farS (fun b => { b with far.ctl := [(0, { busy := some (0, 1) })] }), 0, by decide +kernel⟩,
   ⟨staged { state := .clean, holdA := 2 }, ({} : Phys), 0, 17179869189, 2498, (dirRead (({} : Phys)) ((staged { state := .clean, holdA := 2 }).now.stageSet ((staged { state := .clean, holdA := 2 }).now.farPage (4096 * (17179869189)))) (stageBegin false (0) (4096 * (17179869189)) 1 (staged { state := .clean, holdA := 2 }).now)), by refine ⟨?_, ?_, ?_, ?_, ?_, ?_, rfl, ?_⟩ <;> decide +kernel⟩,
   ⟨upOn (staged { state := .clean }) (fun b => { b with cht.cur.transit.pinWays := 0 }), ({} : Phys), 0, 17179869189, 2498, (dirRead (({} : Phys)) ((upOn (staged { state := .clean }) (fun b => { b with cht.cur.transit.pinWays := 0 })).now.stageSet ((upOn (staged { state := .clean }) (fun b => { b with cht.cur.transit.pinWays := 0 })).now.farPage (4096 * (17179869189)))) (stageBegin false (0) (4096 * (17179869189)) 1 (upOn (staged { state := .clean }) (fun b => { b with cht.cur.transit.pinWays := 0 })).now)), by refine ⟨?_, ?_, ?_, ?_, ?_, ?_, rfl, ?_⟩ <;> decide +kernel⟩,
   ⟨staged { state := .dirty, holdA := 3 }, ({} : Phys), 0, 17179869189, 2498, (dirRead (({} : Phys)) ((staged { state := .dirty, holdA := 3 }).now.stageSet ((staged { state := .dirty, holdA := 3 }).now.farPage (4096 * (17179869189)))) (stageBegin true (0) (4096 * (17179869189)) 1 (staged { state := .dirty, holdA := 3 }).now)), by refine ⟨?_, ?_, ?_, ?_, ?_, rfl, ?_⟩ <;> decide +kernel⟩,
   ⟨staged { state := .filling, holdA := 1 }, ({} : Phys), 0, 17179869189, 2498, (dirRead (({} : Phys)) ((staged { state := .filling, holdA := 1 }).now.stageSet ((staged { state := .filling, holdA := 1 }).now.farPage (4096 * (17179869189)))) (stageBegin true (0) (4096 * (17179869189)) 1 (staged { state := .filling, holdA := 1 }).now)), by refine ⟨?_, ?_, ?_, ?_, ?_, rfl, ?_⟩ <;> decide +kernel⟩,
   ⟨staged { state := .dirty, holdA := 2 }, ({} : Phys), 0, 17179869189, 2498, (dirRead (({} : Phys)) ((staged { state := .dirty, holdA := 2 }).now.stageSet ((staged { state := .dirty, holdA := 2 }).now.farPage (4096 * (17179869189)))) (stageBegin true (0) (4096 * (17179869189)) 1 (staged { state := .dirty, holdA := 2 }).now)), by refine ⟨?_, ?_, ?_, ?_, ?_, rfl, ?_⟩ <;> decide +kernel⟩,
   ⟨upOn farS (fun b => b), 0, 4096, 5000, by decide +kernel⟩⟩

/-- States and operands that meet the hypotheses of the clauses of TransitWindows. -/
theorem witness_TransitWindows :
    (∃ s : State, ∃ n : Nat, ∃ i : Nat, (s.blk.aon = true) ∧ (s.now.ldTakes n = true) ∧ (s.now.ownWindow n i = none)) ∧
    (∃ s : State, ∃ n : Nat, ∃ i : Nat, (s.blk.aon = true) ∧ (s.now.ldTakes n = true) ∧ (s.now.ownWindow n i = none)) ∧
    (∃ s : State, ∃ n : Nat, ∃ i : Nat, ∃ w : WindowCfg, (s.blk.aon = true) ∧ (s.now.ldTakes n = true) ∧ (s.now.ownWindow n i = some w) ∧ (s.now.cht.cur.transit.enable = true) ∧ ((s.now.window w.window).state ≠ .running)) ∧
    (∃ s : State, ∃ n : Nat, ∃ i : Nat, ∃ w : WindowCfg, (s.blk.aon = true) ∧ (s.now.ldTakes n = true) ∧ (s.now.ownWindow n i = some w) ∧ (s.now.cht.cur.transit.enable = false ∨ (s.now.window w.window).state = .running)) ∧
    (∃ s : State, ∃ n : Nat, ∃ i : Nat, ∃ w : WindowCfg, (s.blk.aon = true) ∧ (s.now.ldTakes n = true) ∧ (s.now.ownWindow n i = some w)) ∧
    (∃ s : State, ∃ n : Nat, ∃ i : Nat, ∃ w : WindowCfg, ∃ q : Nat, (s.blk.aon = true) ∧ (s.now.ldTakes n = true) ∧ (s.now.ownWindow n i = some w) ∧ (w.slots ≤ q)) ∧
    (∃ s : State, ∃ n : Nat, ∃ i : Nat, ∃ w : WindowCfg, ∃ q : Nat, (s.blk.aon = true) ∧ (s.now.ldTakes n = true) ∧ (s.now.ownWindow n i = some w) ∧ (q < w.slots) ∧ ((s.now.trnSlot w.window q).state = .empty)) ∧
    (∃ s : State, ∃ n : Nat, ∃ i : Nat, ∃ w : WindowCfg, ∃ q : Nat, (s.blk.aon = true) ∧ (s.now.ldTakes n = true) ∧ (s.now.ownWindow n i = some w) ∧ (q < w.slots)) ∧
    (∃ s : State, ∃ wn : Nat, ∃ w : WindowCfg, ∃ k : Nat, (s.blk.aon = true) ∧ (s.now.windowCfg wn = some w) ∧ (k = (s.now.window wn).nextFill) ∧ ((s.now.window wn).state ≠ .running ∨ (s.now.trnSlot wn (k % Nat.max w.slots 1)).state ≠ .empty ∨ s.now.inDusk = true ∨ (s.now.half s.now.ownHalf).gateOpen = false)) ∧
    (∃ s : State, ∃ wn : Nat, ∃ w : WindowCfg, ∃ k : Nat, (s.blk.aon = true) ∧ (s.now.windowCfg wn = some w) ∧ (k = (s.now.window wn).nextFill) ∧ ((s.now.window wn).state = .running) ∧ ((s.now.trnSlot wn (k % Nat.max w.slots 1)).state = .empty) ∧ (w.loop = true ∨ k < (s.now.window wn).listLen) ∧ (s.now.inDusk = false) ∧ ((s.now.half s.now.ownHalf).gateOpen = true) ∧ (s.now.host.held = []) ∧ (s.now.descOk w (SMap.get TrnDesc.zero (s.now.window wn).descs (k % Nat.max (s.now.window wn).listLen 1)) = true)) ∧
    (∃ s : State, ∃ wn : Nat, ∃ w : WindowCfg, ∃ k : Nat, (s.blk.aon = true) ∧ (s.now.windowCfg wn = some w) ∧ (k = (s.now.window wn).nextFill) ∧ ((s.now.window wn).state = .running) ∧ ((s.now.trnSlot wn (k % Nat.max w.slots 1)).state = .empty) ∧ (w.loop = true ∨ k < (s.now.window wn).listLen) ∧ (s.now.inDusk = false) ∧ ((s.now.half s.now.ownHalf).gateOpen = true) ∧ (s.now.host.held = []) ∧ (s.now.descOk w (SMap.get TrnDesc.zero (s.now.window wn).descs (k % Nat.max (s.now.window wn).listLen 1)) = false)) ∧
    (∃ s : State, ∃ wn : Nat, ∃ q : Nat, (s.blk.aon = true) ∧ ((s.now.trnSlot wn q).todo = [] ∨ s.now.inDusk = true ∨ (s.now.half s.now.ownHalf).gateOpen = false)) ∧
    (∃ s : State, ∃ phys : Phys, ∃ wn : Nat, ∃ q : Nat, ∃ p : Nat, ∃ rest : List Nat, ∃ dpa, ∃ m, ∃ i : Nat, (s.blk.aon = true) ∧ ((s.now.trnSlot wn q).todo = p :: rest) ∧ (s.now.inDusk = false) ∧ ((s.now.half s.now.ownHalf).gateOpen = true) ∧ (dpa = (s.now.trnSlot wn q).src + 4096 * p) ∧ (m = dirRead phys (s.now.stageSet (s.now.farPage dpa)) s.now) ∧ (s.now.stageFind (s.now.farPage dpa) = some i) ∧ (s.now.presence (s.now.slotPage i) = .pending)) ∧
    (∃ s : State, ∃ phys : Phys, ∃ wn : Nat, ∃ q : Nat, ∃ p : Nat, ∃ rest : List Nat, ∃ dpa, ∃ m, (s.blk.aon = true) ∧ ((s.now.trnSlot wn q).todo = p :: rest) ∧ (s.now.inDusk = false) ∧ ((s.now.half s.now.ownHalf).gateOpen = true) ∧ (dpa = (s.now.trnSlot wn q).src + 4096 * p) ∧ (m = dirRead phys (s.now.stageSet (s.now.farPage dpa)) s.now) ∧ (∀ i, s.now.stageFind (s.now.farPage dpa) = some i → s.now.presence (s.now.slotPage i) ≠ .pending)) ∧
    (∃ s : State, ∃ phys : Phys, ∃ wn : Nat, ∃ q : Nat, ∃ p : Nat, ∃ rest : List Nat, ∃ dpa, ∃ m, (s.blk.aon = true) ∧ ((s.now.trnSlot wn q).todo = p :: rest) ∧ (s.now.inDusk = false) ∧ ((s.now.half s.now.ownHalf).gateOpen = true) ∧ (dpa = (s.now.trnSlot wn q).src + 4096 * p) ∧ (m = dirRead phys (s.now.stageSet (s.now.farPage dpa)) s.now) ∧ (∀ i, s.now.stageFind (s.now.farPage dpa) = some i → s.now.presence (s.now.slotPage i) ≠ .pending)) ∧
    (∃ s : State, ∃ wn : Nat, ∃ q : Nat, ∃ w : WindowCfg, ∃ d : Nat, (s.blk.aon = true) ∧ (s.now.windowCfg wn = some w) ∧ ((s.now.trnSlot wn q).due = some d) ∧ (s.now.mer.count < d)) ∧
    (∃ s : State, ∃ wn : Nat, ∃ q : Nat, ∃ w : WindowCfg, ∃ d : Nat, (s.blk.aon = true) ∧ (s.now.windowCfg wn = some w) ∧ ((s.now.trnSlot wn q).due = some d) ∧ (d ≤ s.now.mer.count)) ∧
    (∃ s : State, ∃ wn : Nat, ∃ q : Nat, (s.blk.aon = true) ∧ (s.now.host.held.find? (fun h => h.why == .slot wn q) = none)) ∧
    (∃ s : State, ∃ wn : Nat, ∃ q : Nat, ∃ w : WindowCfg, ∃ o : HeldReq, ∃ n : Nat, ∃ t : Nat, (s.blk.aon = true) ∧ (s.now.windowCfg wn = some w) ∧ (s.now.host.held.find? (fun h => h.why == .slot wn q) = some o) ∧ (o.req.src = .host n t) ∧ (o.req.write = none)) :=
  ⟨⟨upOn farS (fun b => b), 0, 1, by decide +kernel⟩,
   ⟨upOn farS (fun b => b), 0, 1, by decide +kernel⟩,
   ⟨upOn farS (fun b => b), 0, 0, (⟨3, 0, 0, 2, false, 1⟩ : WindowCfg), by decide +kernel⟩,
   ⟨window { state := .running }, 0, 0, (⟨3, 0, 0, 2, false, 1⟩ : WindowCfg), by decide +kernel⟩,
   ⟨window { state := .running, slots := [(0, { state := .ready }), (1, { state := .filling })] }, 0, 0, (⟨3, 0, 0, 2, false, 1⟩ : WindowCfg), by decide +kernel⟩,
   ⟨window { state := .running }, 0, 0, (⟨3, 0, 0, 2, false, 1⟩ : WindowCfg), 2, by decide +kernel⟩,
   ⟨window { state := .running }, 0, 0, (⟨3, 0, 0, 2, false, 1⟩ : WindowCfg), 1, by decide +kernel⟩,
   ⟨window { state := .running, slots := [(1, { state := .ready })] }, 0, 0, (⟨3, 0, 0, 2, false, 1⟩ : WindowCfg), 1, by decide +kernel⟩,
   ⟨window {}, 3, (⟨3, 0, 0, 2, false, 1⟩ : WindowCfg), 0, by refine ⟨?_, ?_, rfl, ?_⟩ <;> decide +kernel⟩,
   ⟨window { state := .running, listLen := 2, nextFill := 1, descs := [(1, desc5)] }, 3, (⟨3, 0, 0, 2, false, 1⟩ : WindowCfg), 1, by refine ⟨?_, ?_, rfl, ?_⟩ <;> decide +kernel⟩,
   ⟨window { state := .running, listLen := 2, nextFill := 1 }, 3, (⟨3, 0, 0, 2, false, 1⟩ : WindowCfg), 1, by refine ⟨?_, ?_, rfl, ?_⟩ <;> decide +kernel⟩,
   ⟨upOn farS (fun b => b), 3, 0, by decide +kernel⟩,
   ⟨upOn (window { state := .running, slots := [(1, { state := .filling, src := farBase + 5 * 4096, todo := [0] })] }) (fun b => { b with far.dir := [(2498, { state := .clean, farPage := 5 })], dram.pres := [(2099906, .pending)] }), ({} : Phys), 3, 1, 0, ([] : List Nat), (((upOn (window { state := .running, slots := [(1, { state := .filling, src := farBase + 5 * 4096, todo := [0] })] }) (fun b => { b with far.dir := [(2498, { state := .clean, farPage := 5 })], dram.pres := [(2099906, .pending)] })).now.trnSlot (3) (1)).src + 4096 * (0)), (dirRead (({} : Phys)) ((upOn (window { state := .running, slots := [(1, { state := .filling, src := farBase + 5 * 4096, todo := [0] })] }) (fun b => { b with far.dir := [(2498, { state := .clean, farPage := 5 })], dram.pres := [(2099906, .pending)] })).now.stageSet ((upOn (window { state := .running, slots := [(1, { state := .filling, src := farBase + 5 * 4096, todo := [0] })] }) (fun b => { b with far.dir := [(2498, { state := .clean, farPage := 5 })], dram.pres := [(2099906, .pending)] })).now.farPage ((((upOn (window { state := .running, slots := [(1, { state := .filling, src := farBase + 5 * 4096, todo := [0] })] }) (fun b => { b with far.dir := [(2498, { state := .clean, farPage := 5 })], dram.pres := [(2099906, .pending)] })).now.trnSlot (3) (1)).src + 4096 * (0))))) (upOn (window { state := .running, slots := [(1, { state := .filling, src := farBase + 5 * 4096, todo := [0] })] }) (fun b => { b with far.dir := [(2498, { state := .clean, farPage := 5 })], dram.pres := [(2099906, .pending)] })).now), 2498, by refine ⟨?_, ?_, ?_, ?_, rfl, rfl, ?_⟩ <;> decide +kernel⟩,
   ⟨window { state := .running, slots := [(1, { state := .filling, src := farBase, todo := [0] })] }, ({} : Phys), 3, 1, 0, ([] : List Nat), (((window { state := .running, slots := [(1, { state := .filling, src := farBase, todo := [0] })] }).now.trnSlot (3) (1)).src + 4096 * (0)), (dirRead (({} : Phys)) ((window { state := .running, slots := [(1, { state := .filling, src := farBase, todo := [0] })] }).now.stageSet ((window { state := .running, slots := [(1, { state := .filling, src := farBase, todo := [0] })] }).now.farPage ((((window { state := .running, slots := [(1, { state := .filling, src := farBase, todo := [0] })] }).now.trnSlot (3) (1)).src + 4096 * (0))))) (window { state := .running, slots := [(1, { state := .filling, src := farBase, todo := [0] })] }).now), by (refine ⟨?_, ?_, ?_, ?_, rfl, rfl, fun i h => absurd (h.symm.trans (by decide +kernel : _ = (none : Option Nat))) nofun⟩ <;> decide +kernel)⟩,
   ⟨window { state := .running, slots := [(1, { state := .filling, src := farBase, todo := [0, 1] })] }, ({} : Phys), 3, 1, 0, ([1] : List Nat), (((window { state := .running, slots := [(1, { state := .filling, src := farBase, todo := [0, 1] })] }).now.trnSlot (3) (1)).src + 4096 * (0)), (dirRead (({} : Phys)) ((window { state := .running, slots := [(1, { state := .filling, src := farBase, todo := [0, 1] })] }).now.stageSet ((window { state := .running, slots := [(1, { state := .filling, src := farBase, todo := [0, 1] })] }).now.farPage ((((window { state := .running, slots := [(1, { state := .filling, src := farBase, todo := [0, 1] })] }).now.trnSlot (3) (1)).src + 4096 * (0))))) (window { state := .running, slots := [(1, { state := .filling, src := farBase, todo := [0, 1] })] }).now), by (refine ⟨?_, ?_, ?_, ?_, rfl, rfl, fun i h => absurd (h.symm.trans (by decide +kernel : _ = (none : Option Nat))) nofun⟩ <;> decide +kernel)⟩,
   ⟨window { state := .running, slots := [(1, { state := .ready, due := some 5 })] }, 3, 1, (⟨3, 0, 0, 2, false, 1⟩ : WindowCfg), 5, by decide +kernel⟩,
   ⟨window { state := .running, slots := [(1, { state := .ready, due := some 0 })] }, 3, 1, (⟨3, 0, 0, 2, false, 1⟩ : WindowCfg), 0, by decide +kernel⟩,
   ⟨upOn farS (fun b => b), 3, 1, by decide +kernel⟩,
   ⟨upOn farS (fun b => { b with host.held := [⟨.slot 3 1, { src := .host 0 7, dpa := 0, write := none }⟩] }), 3, 1, (⟨3, 0, 0, 2, false, 1⟩ : WindowCfg), (⟨.slot 3 1, { src := .host 0 7, dpa := 0, write := none }⟩ : HeldReq), 0, 7, by decide +kernel⟩⟩

/-- States and operands that meet the hypotheses of the clauses of HalfLinksOfTheTwinLink. -/
theorem witness_HalfLinksOfTheTwinLink :
    (∃ s : State, ∃ l : Nat, ∃ w : Nat, (s.blk.aon = true) ∧ (s.now.mayPair = false ∨ 2 ≤ l ∨ (w ≠ 4 ∧ w ≠ 8 ∧ w ≠ 12))) ∧
    (∃ s : State, ∃ l : Nat, ∃ w : Nat, (s.blk.aon = true) ∧ (s.now.mayPair = false ∨ 2 ≤ l ∨ (w ≠ 4 ∧ w ≠ 8 ∧ w ≠ 12))) ∧
    (∃ s : State, ∃ l : Nat, ∃ w : Nat, ∃ c, (s.blk.aon = true) ∧ (s.now.mayPair = true) ∧ (l < 2) ∧ (w = 4 ∨ w = 8 ∨ w = 12) ∧ (c = natBe 32 (Config.freeNat s.now.free))) ∧
    (∃ s : State, ∃ l : Nat, ∃ w : Nat, ∃ c, (s.blk.aon = true) ∧ (s.now.mayPair = true) ∧ (l < 2) ∧ (w = 4 ∨ w = 8 ∨ w = 12) ∧ (c = natBe 32 (Config.freeNat s.now.free))) ∧
    (∃ s : State, (s.blk.aon = true) ∧ (s.now.cht.cur.isDefault = true) ∧ (s.now.pwr.stage = .dawn 6) ∧ (s.now.twin.trained = false)) ∧
    (∃ s : State, (s.blk.aon = true) ∧ (s.now.cht.cur.isDefault = false ∨ s.now.pwr.stage ≠ .dawn 6 ∨ s.now.twin.trained = true)) ∧
    (∃ s : State, ∃ l : Nat, (s.blk.aon = true) ∧ (s.now.linkUp l = true) ∧ (2 ^ 31 ≤ (s.now.link l).frames ∨ 2 ^ 31 ≤ (s.now.link l).framesIn)) ∧
    (∃ s : State, ∃ l : Nat, (s.blk.aon = true) ∧ (s.now.linkUp l = false ∨ ((s.now.link l).frames < 2 ^ 31 ∧ (s.now.link l).framesIn < 2 ^ 31))) ∧
    (∃ s : State, ∃ l : Nat, (s.blk.aon = true) ∧ (s.now.linkUp l = false ∨ ((s.now.link l).frames < 2 ^ 31 ∧ (s.now.link l).framesIn < 2 ^ 31))) ∧
    (∃ s : State, ∃ l : Nat, ∃ q : Nat, (s.blk.aon = true) ∧ ((s.now.link l).unacked.any (fun f => f.seq == q) = false)) ∧
    (∃ s : State, ∃ l : Nat, ∃ q : Nat, ∃ again, (s.blk.aon = true) ∧ ((s.now.link l).unacked.any (fun f => f.seq == q) = true) ∧ (again = (s.now.link l).unacked.filter (fun f => decide (q ≤ f.seq))) ∧ ((s.now.link l).nak ≠ q ∨ (s.now.link l).resends < 7)) ∧
    (∃ s : State, ∃ l : Nat, ∃ q : Nat, ∃ again, (s.blk.aon = true) ∧ ((s.now.link l).unacked.any (fun f => f.seq == q) = true) ∧ (again = (s.now.link l).unacked.filter (fun f => decide (q ≤ f.seq))) ∧ ((s.now.link l).nak ≠ q ∨ (s.now.link l).resends < 7)) ∧
    (∃ s : State, ∃ l : Nat, ∃ q : Nat, ∃ again, (s.blk.aon = true) ∧ ((s.now.link l).unacked.any (fun f => f.seq == q) = true) ∧ (again = (s.now.link l).unacked.filter (fun f => decide (q ≤ f.seq))) ∧ ((s.now.link l).nak = q) ∧ (7 ≤ (s.now.link l).resends)) ∧
    (∃ s : State, ∃ l : Nat, (s.blk.aon = true) ∧ ((s.now.link l).ackDue = true) ∧ (s.now.linkUp l = true)) ∧
    (∃ s : State, ∃ l : Nat, (s.blk.aon = true) ∧ ((s.now.link l).ackDue = false ∨ s.now.linkUp l = false)) ∧
    (∃ s : State, ∃ l : Nat, (s.blk.aon = true) ∧ (s.now.linkUp l = false)) ∧
    (∃ s : State, ∃ l : Nat, (s.blk.aon = true) ∧ (l < 2) ∧ (s.now.linkUp l = true) ∧ (s.now.linkUp (1 - l) = true)) ∧
    (∃ s : State, ∃ l : Nat, (s.blk.aon = true) ∧ (l < 2) ∧ (s.now.linkUp l = true) ∧ (s.now.linkUp (1 - l) = false)) ∧
    (∃ s : State, (s.blk.aon = true) ∧ (s.now.twin.linkDown = false ∨ s.now.twin.graceExpired = true ∨ s.now.inDusk = true)) ∧
    (∃ s : State, (s.blk.aon = true) ∧ (s.now.twin.linkDown = true) ∧ (s.now.twin.graceExpired = false) ∧ (s.now.inDusk = false)) ∧
    (∃ s : State, (s.blk.aon = true) ∧ (s.now.twin.linkDown = true) ∧ (s.now.twin.graceExpired = false) ∧ (s.now.inDusk = false)) ∧
    (∃ s : State, (s.blk.aon = true) ∧ (s.now.twin.linkDown = false ∨ s.now.inDusk = true ∨ (s.now.linkUp 0 = false ∧ s.now.linkUp 1 = false))) ∧
    (∃ s : State, (s.blk.aon = true) ∧ (s.now.twin.linkDown = true) ∧ (s.now.inDusk = false) ∧ (s.now.linkUp 0 = true ∨ s.now.linkUp 1 = true) ∧ (s.now.host.held = [])) :=
  ⟨⟨upOn svc (fun b => b), 0, 12, by decide +kernel⟩,
   ⟨upOn svc (fun b => { b with cht.cur.topo.mode := .twin }), 2, 12, by decide +kernel⟩,
   ⟨upOn svc (fun b => { b with cht.cur.topo.mode := .twin }), 1, 12, (natBe 32 (Config.freeNat (upOn svc (fun b => { b with cht.cur.topo.mode := .twin })).now.free)), by refine ⟨?_, ?_, ?_, ?_, rfl⟩ <;> decide +kernel⟩,
   ⟨up (fun b => { b with pwr.stage := .dawn 6, cht.cur.isDefault := true }), 0, 4, (natBe 32 (Config.freeNat (up (fun b => { b with pwr.stage := .dawn 6, cht.cur.isDefault := true })).now.free)), by refine ⟨?_, ?_, ?_, ?_, rfl⟩ <;> decide +kernel⟩,
   ⟨up (fun b => { b with pwr.stage := .dawn 6, cht.cur.isDefault := true, cht.loaded := true }), by decide +kernel⟩,
   ⟨upOn svc (fun b => b), by decide +kernel⟩,
   ⟨upOn svc (fun b => { b with twin.links := [(1, { width := 12, frames := 2147483648, unacked := [{ seq := 4, msg := .fwdDone 1 }] })] }), 1, by decide +kernel⟩,
   ⟨upOn svc (fun b => { b with twin.links := [(1, { width := 12, frames := 2147483647 })] }), 1, by decide +kernel⟩,
   ⟨upOn svc (fun b => b), 1, by decide +kernel⟩,
   ⟨upOn svc (fun b => { b with twin.links := [(1, { width := 12, unacked := [{ seq := 4, msg := .fwdDone 1 }, { seq := 5, msg := .fwdDone 1 }, { seq := 6, msg := .fwdDone 1 }] })] }), 1, 3, by decide +kernel⟩,
   ⟨upOn svc (fun b => { b with twin.links := [(1, { width := 12, unacked := [{ seq := 4, msg := .fwdDone 1 }, { seq := 5, msg := .fwdDone 1 }, { seq := 6, msg := .fwdDone 1 }], nak := 5, resends := 6 })] }), 1, 5, (((upOn svc (fun b => { b with twin.links := [(1, { width := 12, unacked := [{ seq := 4, msg := .fwdDone 1 }, { seq := 5, msg := .fwdDone 1 }, { seq := 6, msg := .fwdDone 1 }], nak := 5, resends := 6 })] })).now.link (1)).unacked.filter (fun f => decide ((5) ≤ f.seq))), by refine ⟨?_, ?_, rfl, ?_⟩ <;> decide +kernel⟩,
   ⟨upOn svc (fun b => { b with twin.links := [(1, { width := 12, unacked := [{ seq := 4, msg := .fwdDone 1 }, { seq := 5, msg := .fwdDone 1 }, { seq := 6, msg := .fwdDone 1 }], nak := 5, resends := 7 })] }), 1, 6, (((upOn svc (fun b => { b with twin.links := [(1, { width := 12, unacked := [{ seq := 4, msg := .fwdDone 1 }, { seq := 5, msg := .fwdDone 1 }, { seq := 6, msg := .fwdDone 1 }], nak := 5, resends := 7 })] })).now.link (1)).unacked.filter (fun f => decide ((6) ≤ f.seq))), by refine ⟨?_, ?_, rfl, ?_⟩ <;> decide +kernel⟩,
   ⟨upOn svc (fun b => { b with twin.links := [(1, { width := 12, unacked := [{ seq := 4, msg := .fwdDone 1 }, { seq := 5, msg := .fwdDone 1 }, { seq := 6, msg := .fwdDone 1 }], nak := 5, resends := 7 })] }), 1, 5, (((upOn svc (fun b => { b with twin.links := [(1, { width := 12, unacked := [{ seq := 4, msg := .fwdDone 1 }, { seq := 5, msg := .fwdDone 1 }, { seq := 6, msg := .fwdDone 1 }], nak := 5, resends := 7 })] })).now.link (1)).unacked.filter (fun f => decide ((5) ≤ f.seq))), by refine ⟨?_, ?_, rfl, ?_⟩ <;> decide +kernel⟩,
   ⟨upOn svc (fun b => { b with twin.links := [(1, { width := 12, ackDue := true, recvSeq := 9 })] }), 1, by decide +kernel⟩,
   ⟨upOn svc (fun b => { b with twin.links := [(1, { width := 12 })] }), 1, by decide +kernel⟩,
   ⟨upOn svc (fun b => b), 1, by decide +kernel⟩,
   ⟨upOn svc (fun b => { b with twin.links := [(0, { width := 12 }), (1, { width := 4 })] }), 1, by decide +kernel⟩,
   ⟨upOn svc (fun b => { b with twin.links := [(1, { width := 4 })] }), 1, by decide +kernel⟩,
   ⟨upOn svc (fun b => b), by decide +kernel⟩,
   ⟨upOn svc (fun b => { b with cht.mode := .twin, twin.linkDown := true, twin.halves := [(0, { role := .holder, gateOpen := true })] }), by decide +kernel⟩,
   ⟨upOn svc (fun b => { b with cht.mode := .twin, twin.linkDown := true, twin.halves := [(0, { role := .standby })] }), by decide +kernel⟩,
   ⟨upOn svc (fun b => { b with twin.linkDown := true }), by decide +kernel⟩,
   ⟨upOn svc (fun b => { b with cht.mode := .twin, twin.linkDown := true, twin.links := [(1, { width := 4 })], twin.halves := [(0, { role := .holder, gateOpen := true })] }), by decide +kernel⟩⟩

/-- States and operands that meet the hypotheses of the clauses of EthernetPorts. -/
theorem witness_EthernetPorts :
    (∃ s : State, ∃ p : Nat, (s.blk.aon = true) ∧ (p < ethPorts s.now.cht.cur.orbit) ∧ (s.now.cht.cur.orbit.enable = true ∨ (s.now.mer.body.source = 1 ∧ p = s.now.mer.body.ptpPort))) ∧
    (∃ s : State, ∃ p : Nat, (s.blk.aon = true) ∧ (p < ethPorts s.now.cht.cur.orbit) ∧ (s.now.cht.cur.orbit.enable = true ∨ (s.now.mer.body.source = 1 ∧ p = s.now.mer.body.ptpPort))) ∧
    (∃ s : State, ∃ p : Nat, (s.blk.aon = true) ∧ (ethPorts s.now.cht.cur.orbit ≤ p)) ∧
    (∃ s : State, ∃ p : Nat, (s.blk.aon = true) ∧ (s.now.cht.cur.orbit.enable = false) ∧ (s.now.mer.body.source ≠ 1 ∨ p ≠ s.now.mer.body.ptpPort)) ∧
    (∃ s : State, ∃ p : Nat, (s.blk.aon = true) ∧ (p < ethPorts s.now.cht.cur.orbit) ∧ ((SMap.get EthPort.down s.now.orb.ports p).up = false)) ∧
    (∃ s : State, ∃ p : Nat, (s.blk.aon = true) ∧ ((SMap.get EthPort.down s.now.orb.ports p).up = true)) ∧
    (∃ s : State, ∃ p : Nat, ∃ a : Nat, (s.blk.aon = true) ∧ ((SMap.get EthPort.down s.now.orb.ports p).up = true) ∧ (a ≠ 0)) ∧
    (∃ s : State, ∃ p : Nat, (s.blk.aon = true) ∧ ((SMap.get EthPort.down s.now.orb.ports p).up = true)) ∧
    (∃ s : State, ∃ p : Nat, ∃ a : Nat, (s.blk.aon = true) ∧ (a ≠ s.now.ipv6 ∨ (SMap.get EthPort.down s.now.orb.ports p).up = false)) ∧
    (∃ s : State, ∃ p : Nat, ∃ a : Nat, (s.blk.aon = true) ∧ (a ≠ s.now.ipv6 ∨ (SMap.get EthPort.down s.now.orb.ports p).up = false)) :=
  ⟨⟨upOn svc (fun b => { b with cht.cur.orbit.enable := true }), 7, by decide +kernel⟩,
   ⟨upOn svc (fun b => { b with mer.body.source := 1, mer.body.ptpPort := 7 }), 7, by decide +kernel⟩,
   ⟨upOn svc (fun b => b), 8, by decide +kernel⟩,
   ⟨upOn svc (fun b => b), 7, by decide +kernel⟩,
   ⟨upOn svc (fun b => b), 7, by decide +kernel⟩,
   ⟨upOn svc (fun b => { b with orb.ports := [(1, { up := true })] }), 1, by decide +kernel⟩,
   ⟨upOn svc (fun b => { b with orb.ports := [(1, { up := true })] }), 1, 99, by decide +kernel⟩,
   ⟨upOn svc (fun b => { b with orb.ports := [(1, { up := true })] }), 1, by decide +kernel⟩,
   ⟨upOn svc (fun b => { b with orb.ports := [(1, { up := true })] }), 1, 99, by decide +kernel⟩,
   ⟨upOn svc (fun b => b), 1, 99, by decide +kernel⟩⟩

/-- States and operands that meet the hypotheses of the clauses of MirrorWritesAndForwards. -/
theorem witness_MirrorWritesAndForwards :
    (∃ s : State, ∃ phys : Phys, ∃ t : Nat, ∃ a : Nat, ∃ d : Half, ∃ p, ∃ e : Nat, (s.blk.aon = true) ∧ (s.now.garbled phys (.mirrorWrite t a d p e) = true)) ∧
    (∃ s : State, ∃ phys : Phys, ∃ t : Nat, ∃ a : Nat, ∃ l : Nat, (s.blk.aon = true) ∧ (s.now.garbled phys (.fwdRead t a l) = true)) ∧
    (∃ s : State, ∃ phys : Phys, ∃ t : Nat, ∃ a : Nat, ∃ d : Half, ∃ p, ∃ l : Nat, (s.blk.aon = true) ∧ (s.now.garbled phys (.fwdWrite t a l d p) = true)) ∧
    (∃ s : State, ∃ phys : Phys, ∃ t : Nat, (s.blk.aon = true) ∧ (s.now.garbled phys (.mirrorAck t) = true)) ∧
    (∃ s : State, ∃ phys : Phys, ∃ t : Nat, ∃ d : Half, ∃ p, (s.blk.aon = true) ∧ (s.now.garbled phys (.fwdData t d p) = true)) ∧
    (∃ s : State, ∃ phys : Phys, ∃ t : Nat, (s.blk.aon = true) ∧ (s.now.garbled phys (.fwdDone t) = true)) ∧
    (∃ s : State, (s.blk.aon = true) ∧ (s.now.inDusk = true)) ∧
    (∃ s : State, ∃ phys : Phys, ∃ t : Nat, ∃ a : Nat, ∃ d : Half, ∃ p, ∃ e : Nat, ∃ f, (s.blk.aon = true) ∧ (s.now.arrives phys (.mirrorWrite t a d p e) = true) ∧ (f = s.now.arrived (.mirrorWrite t a d p e)) ∧ (f.mirrorTarget a = none)) ∧
    (∃ s : State, ∃ phys : Phys, ∃ t : Nat, ∃ a : Nat, ∃ d : Half, ∃ p, ∃ e : Nat, ∃ f, (s.blk.aon = true) ∧ (s.now.arrives phys (.mirrorWrite t a d p e) = true) ∧ (f = s.now.arrived (.mirrorWrite t a d p e)) ∧ (f.mirrorTarget a = none)) ∧
    (∃ s : State, ∃ phys : Phys, ∃ t : Nat, ∃ a : Nat, ∃ d : Half, ∃ p, ∃ e : Nat, ∃ f, ∃ l : Nat, ∃ r, (s.blk.aon = true) ∧ (s.now.arrives phys (.mirrorWrite t a d p e) = true) ∧ (f = s.now.arrived (.mirrorWrite t a d p e)) ∧ (f.mirrorTarget a = some l) ∧ ((f.lineInfo l).region = some r) ∧ (f.keyEmpty r = true)) ∧
    (∃ s : State, ∃ phys : Phys, ∃ t : Nat, ∃ a : Nat, ∃ d : Half, ∃ p, ∃ e : Nat, ∃ f, ∃ l : Nat, ∃ r, (s.blk.aon = true) ∧ (s.now.arrives phys (.mirrorWrite t a d p e) = true) ∧ (f = s.now.arrived (.mirrorWrite t a d p e)) ∧ (f.mirrorTarget a = some l) ∧ ((f.lineInfo l).region = some r) ∧ (f.keyEmpty r = false)) ∧
    (∃ s : State, ∃ phys : Phys, ∃ t : Nat, ∃ a : Nat, ∃ l : Nat, ∃ d : Half, ∃ p, ∃ f, (s.blk.aon = true) ∧ (s.now.arrives phys (.fwdWrite t a l d p) = true) ∧ (f = s.now.arrived (.fwdWrite t a l d p))) ∧
    (∃ s : State, ∃ phys : Phys, ∃ t : Nat, ∃ a : Nat, ∃ l : Nat, ∃ f, (s.blk.aon = true) ∧ (s.now.arrives phys (.fwdRead t a l) = true) ∧ (f = s.now.arrived (.fwdRead t a l)) ∧ (f.regionOf (a / 64 * 64) = none) ∧ (f.area (a / 64 * 64) = .none)) ∧
    (∃ s : State, ∃ phys : Phys, ∃ t : Nat, ∃ a : Nat, ∃ l : Nat, ∃ f, ∃ r, (s.blk.aon = true) ∧ (s.now.arrives phys (.fwdRead t a l) = true) ∧ (f = s.now.arrived (.fwdRead t a l)) ∧ (f.regionOf (a / 64 * 64) = some r) ∧ (r.mirror ≠ .hot)) ∧
    (∃ s : State, ∃ phys : Phys, ∃ t : Nat, ∃ a : Nat, ∃ l : Nat, ∃ f, ∃ r, ∃ x : Half, (s.blk.aon = true) ∧ (s.now.arrives phys (.fwdRead t a l) = true) ∧ (f = s.now.arrived (.fwdRead t a l)) ∧ (f.regionOf (a / 64 * 64) = some r) ∧ (r.mirror = .hot) ∧ ((f.half (f.halfOf (a / 64 * 64))).role = .standby) ∧ ((readHalf phys (f.lineOf (a / 64 * 64)) (halfIx (a / 64 * 64)) none f).1 = .data x)) ∧
    (∃ s : State, ∃ phys : Phys, ∃ t : Nat, (s.blk.aon = true) ∧ (s.now.arrives phys (.mirrorAck t) = true) ∧ (s.now.host.mirror.find? (fun m => m.tag = t && !m.acked) = none)) ∧
    (∃ s : State, ∃ phys : Phys, ∃ t : Nat, ∃ m : MirrorWait, ∃ n : Nat, ∃ x : Nat, (s.blk.aon = true) ∧ (s.now.arrives phys (.mirrorAck t) = true) ∧ (s.now.host.mirror.find? (fun m => m.tag = t && !m.acked) = some m) ∧ (s.now.withheld (s.now.lineInfo (m.addr / 128)).dpa = false) ∧ (m.src = some (.host n x))) ∧
    (∃ s : State, ∃ phys : Phys, ∃ t : Nat, ∃ m : MirrorWait, (s.blk.aon = true) ∧ (s.now.arrives phys (.mirrorAck t) = true) ∧ (s.now.host.mirror.find? (fun m => m.tag = t && !m.acked) = some m) ∧ (s.now.withheld (s.now.lineInfo (m.addr / 128)).dpa = true)) ∧
    (∃ s : State, (s.blk.aon = true) ∧ (s.now.host.mirror.any (fun m => !m.acked) = true) ∧ (s.now.twin.linkDown = false) ∧ (s.now.inDusk = false)) ∧
    (∃ s : State, (s.blk.aon = true) ∧ (s.now.host.mirror.any (fun m => !m.acked) = false ∨ s.now.twin.linkDown = true ∨ s.now.inDusk = true)) ∧
    (∃ s : State, ∃ phys : Phys, ∃ t : Nat, ∃ d : Half, ∃ p, ∃ f : FwdWait, ∃ n : Nat, ∃ x : Nat, (s.blk.aon = true) ∧ (s.now.arrives phys (.fwdData t d p) = true) ∧ (s.now.twin.fetches.find? (fun y => y.1 = t) = none) ∧ (s.now.host.fwd.find? (fun y => y.tag = t) = some f) ∧ (f.dead = false) ∧ (f.req.src = .host n x) ∧ (f.req.write = none)) ∧
    (∃ s : State, ∃ phys : Phys, ∃ t : Nat, ∃ f : FwdWait, ∃ n : Nat, ∃ x : Nat, (s.blk.aon = true) ∧ (s.now.arrives phys (.fwdDone t) = true) ∧ (s.now.host.fwd.find? (fun y => y.tag = t) = some f) ∧ (f.dead = false) ∧ (f.req.src = .host n x)) ∧
    (∃ s : State, ∃ phys : Phys, ∃ t : Nat, ∃ d : Half, ∃ p, (s.blk.aon = true) ∧ (s.now.twin.fetches.find? (fun y => y.1 = t) = none) ∧ (s.now.host.fwd.find? (fun y => y.tag = t) = none) ∧ (s.now.arrives phys (.fwdData t d p) = true)) ∧
    (∃ s : State, ∃ phys : Phys, ∃ t : Nat, (s.blk.aon = true) ∧ (s.now.twin.fetches.find? (fun y => y.1 = t) = none) ∧ (s.now.host.fwd.find? (fun y => y.tag = t) = none) ∧ (s.now.arrives phys (.fwdDone t) = true)) ∧
    (∃ s : State, ∃ l : Nat, ∃ i : Nat, (s.blk.aon = true) ∧ (s.now.twin.fetches.any (fun x => x.2 = 2 * l + i) = false)) ∧
    (∃ s : State, ∃ l : Nat, ∃ i : Nat, (s.blk.aon = true) ∧ (s.now.twin.fetches.any (fun x => x.2 = 2 * l + i) = true) ∧ (s.now.host.held = [])) ∧
    (∃ s : State, (s.blk.aon = true) ∧ (s.now.host.held.find? (fun h => h.why == .ship) = none)) ∧
    (∃ s : State, ∃ o : HeldReq, (s.blk.aon = true) ∧ (s.now.host.held.find? (fun h => h.why == .ship) = some o)) :=
  ⟨⟨twin .holder, {crn := true}, 9, 64, (7 : Half), false, 3, by decide +kernel⟩,
   ⟨twin .holder, {crn := true}, 9, 64, 0, by decide +kernel⟩,
   ⟨twin .holder, {crn := true}, 9, 64, (7 : Half), false, 0, by decide +kernel⟩,
   ⟨twin .holder, {crn := true}, 9, by decide +kernel⟩,
   ⟨twin .holder, {crn := true}, 9, (7 : Half), false, by decide +kernel⟩,
   ⟨twin .holder, {crn := true}, 9, by decide +kernel⟩,
   ⟨upOn (twin .holder) (fun b => { b with pers.dusk := some {} }), by decide +kernel⟩,
   ⟨twin .holder, ({} : Phys), 9, 64, (7 : Half), false, 3, ((twin .holder).now.arrived (.mirrorWrite (9) (64) ((7 : Half)) (false) (3))), by refine ⟨?_, ?_, rfl, ?_⟩ <;> decide +kernel⟩,
   ⟨twin .standby, ({} : Phys), 9, 1073741824, (7 : Half), false, 3, ((twin .standby).now.arrived (.mirrorWrite (9) (1073741824) ((7 : Half)) (false) (3))), by refine ⟨?_, ?_, rfl, ?_⟩ <;> decide +kernel⟩,
   ⟨upOn (twin .standby) (fun b => { b with cht.cur.regions := [{ regionHot with keySlot := 2 }] }), ({} : Phys), 9, 64, (7 : Half), false, 3, ((upOn (twin .standby) (fun b => { b with cht.cur.regions := [{ regionHot with keySlot := 2 }] })).now.arrived (.mirrorWrite (9) (64) ((7 : Half)) (false) (3))), 0, { regionHot with keySlot := 2 }, by refine ⟨?_, ?_, rfl, ?_⟩ <;> decide +kernel⟩,
   ⟨twin .standby, ({} : Phys), 9, 64, (7 : Half), false, 3, ((twin .standby).now.arrived (.mirrorWrite (9) (64) ((7 : Half)) (false) (3))), 0, regionHot, by refine ⟨?_, ?_, rfl, ?_⟩ <;> decide +kernel⟩,
   ⟨twin .holder, ({} : Phys), 9, 70, 0, (7 : Half), false, ((twin .holder).now.arrived (.fwdWrite (9) (70) (0) ((7 : Half)) (false))), by refine ⟨?_, ?_, rfl⟩ <;> decide +kernel⟩,
   ⟨twin .holder, ({} : Phys), 9, 281474976710592, 0, ((twin .holder).now.arrived (.fwdRead (9) (281474976710592) (0))), by refine ⟨?_, ?_, rfl, ?_⟩ <;> decide +kernel⟩,
   ⟨twin .holder, ({} : Phys), 9, 1073741824, 0, ((twin .holder).now.arrived (.fwdRead (9) (1073741824) (0))), regionCold, by refine ⟨?_, ?_, rfl, ?_⟩ <;> decide +kernel⟩,
   ⟨twin .standby, ({} : Phys), 9, 64, 0, ((twin .standby).now.arrived (.fwdRead (9) (64) (0))), regionHot, (0 : Half), by refine ⟨?_, ?_, rfl, ?_⟩ <;> decide +kernel⟩,
   ⟨upOn (twin .holder) (fun b => { b with host.mirror := [{ tag := 4, src := none, addr := 0 }] }), ({} : Phys), 5, by decide +kernel⟩,
   ⟨upOn (twin .holder) (fun b => { b with host.mirror := [{ tag := 4, src := some (.host 0 8), addr := 0 }] }), ({} : Phys), 4, ({ tag := 4, src := some (.host 0 8), addr := 0 } : MirrorWait), 0, 8, by decide +kernel⟩,
   ⟨upOn (twin .holder) (fun b => { b with host.mirror := [{ tag := 4, src := some (.host 0 8), addr := 0 }], twin.halves := [(0, { role := .eclipse, eclipse := true })] }), ({} : Phys), 4, ({ tag := 4, src := some (.host 0 8), addr := 0 } : MirrorWait), by decide +kernel⟩,
   ⟨upOn (twin .holder) (fun b => { b with host.mirror := [{ tag := 4, src := some (.host 0 8), addr := 0 }] }), by decide +kernel⟩,
   ⟨upOn (twin .holder) (fun b => { b with host.mirror := [{ tag := 4, src := some (.host 0 8), addr := 0, acked := true }] }), by decide +kernel⟩,
   ⟨upOn (twin .standby) (fun b => { b with host.fwd := [{ tag := 4, req := { src := .host 0 8, dpa := 0, write := none } }] }), ({} : Phys), 4, (7 : Half), false, ({ tag := 4, req := { src := .host 0 8, dpa := 0, write := none } } : FwdWait), 0, 8, by decide +kernel⟩,
   ⟨upOn (twin .standby) (fun b => { b with host.fwd := [{ tag := 4, req := { src := .host 0 8, dpa := 0, write := some (7, false) } }] }), ({} : Phys), 4, ({ tag := 4, req := { src := .host 0 8, dpa := 0, write := some (7, false) } } : FwdWait), 0, 8, by decide +kernel⟩,
   ⟨upOn (twin .standby) (fun b => { b with host.fwd := [{ tag := 4, req := { src := .host 0 8, dpa := 0, write := none } }] }), ({} : Phys), 5, (7 : Half), false, by decide +kernel⟩,
   ⟨upOn (twin .standby) (fun b => { b with host.fwd := [{ tag := 4, req := { src := .host 0 8, dpa := 0, write := none } }] }), ({} : Phys), 5, by decide +kernel⟩,
   ⟨upOn svc (fun b => { b with twin.fetches := [(1, 5)] }), 2, 0, by decide +kernel⟩,
   ⟨upOn svc (fun b => { b with twin.fetches := [(1, 5)] }), 2, 1, by decide +kernel⟩,
   ⟨upOn svc (fun b => b), by decide +kernel⟩,
   ⟨upOn svc (fun b => { b with host.held := [⟨.ship, { src := .host 0 0, dpa := 0, write := some (1, false) }⟩] }), (⟨.ship, { src := .host 0 0, dpa := 0, write := some (1, false) }⟩ : HeldReq), by decide +kernel⟩⟩

/-- States and operands that meet the hypotheses of the clauses of ColdDeltasAndHotSync. -/
theorem witness_ColdDeltasAndHotSync :
    (∃ s : State, (s.blk.aon = true) ∧ (s.now.paired = false ∨ s.now.inDusk = true ∨ s.now.twin.linkDown = true ∨ s.now.twin.shipping.isSome = true ∨ s.now.halvesOf.any (fun h => (s.now.half h).role == .holder) = false)) ∧
    (∃ s : State, (s.blk.aon = true) ∧ (s.now.paired = false ∨ s.now.inDusk = true ∨ s.now.twin.linkDown = true ∨ s.now.twin.shipping.isSome = true ∨ s.now.halvesOf.any (fun h => (s.now.half h).role == .holder) = false)) ∧
    (∃ s : State, ∃ e : Nat, ∃ z : Nat, (s.blk.aon = true) ∧ (s.now.paired = true) ∧ (s.now.inDusk = false) ∧ (s.now.twin.linkDown = false) ∧ (s.now.twin.shipping = none) ∧ (s.now.halvesOf.any (fun h => (s.now.half h).role == .holder) = true) ∧ (s.now.twin.catchUp = none) ∧ (s.now.nextShip = some e) ∧ (s.now.mer.sealedEpoch = some z) ∧ (z < e)) ∧
    (∃ s : State, ∃ e : Nat, ∃ z : Nat, (s.blk.aon = true) ∧ (s.now.paired = true) ∧ (s.now.inDusk = false) ∧ (s.now.twin.linkDown = false) ∧ (s.now.twin.shipping = none) ∧ (s.now.halvesOf.any (fun h => (s.now.half h).role == .holder) = true) ∧ (s.now.twin.catchUp = none) ∧ (s.now.nextShip = some e) ∧ (s.now.mer.sealedEpoch = some z) ∧ (e ≤ z)) ∧
    (∃ s : State, ∃ e : Nat, ∃ z : Nat, (s.blk.aon = true) ∧ (s.now.paired = true) ∧ (s.now.inDusk = false) ∧ (s.now.twin.linkDown = false) ∧ (s.now.twin.shipping = none) ∧ (s.now.halvesOf.any (fun h => (s.now.half h).role == .holder) = true) ∧ (s.now.twin.catchUp = none) ∧ (s.now.nextShip = some e) ∧ (s.now.mer.sealedEpoch = some z) ∧ (e ≤ z) ∧ (s.now.twin.shipList.filter (fun x => x.2 = e) = [])) ∧
    (∃ s : State, ∃ phys : Phys, ∃ k : Nat, ∃ e : Nat, ∃ ls : PageLines, (s.blk.aon = true) ∧ (s.now.garbled phys (.coldPage k e ls) = true)) ∧
    (∃ s : State, ∃ phys : Phys, ∃ e : Nat, ∃ n : Nat, (s.blk.aon = true) ∧ (s.now.garbled phys (.coldEnd n e) = true)) ∧
    (∃ s : State, ∃ phys : Phys, ∃ e : Nat, (s.blk.aon = true) ∧ (s.now.garbled phys (.coldAck e) = true)) ∧
    (∃ s : State, ∃ phys : Phys, ∃ k : Nat, ∃ n : Nat, (s.blk.aon = true) ∧ (s.now.garbled phys (.syncDigest k n 0) = true)) ∧
    (∃ s : State, ∃ phys : Phys, ∃ k : Nat, ∃ n : Nat, ∃ ll : List (Line × Bool), (s.blk.aon = true) ∧ (s.now.garbled phys (.syncPage k n ll) = true)) ∧
    (∃ s : State, ∃ phys : Phys, ∃ k : Nat, ∃ x, (s.blk.aon = true) ∧ (s.now.garbled phys (.syncMatch k x) = true)) ∧
    (∃ s : State, ∃ phys : Phys, ∃ k : Nat, ∃ w : Option Holders, (s.blk.aon = true) ∧ (s.now.garbled phys (.sfUpdate k w) = true)) ∧
    (∃ s : State, ∃ phys : Phys, ∃ k : Nat, ∃ y : Option Nat, ∃ c : List Nat, (s.blk.aon = true) ∧ (s.now.garbled phys (.state k y c false) = true)) ∧
    (∃ s : State, ∃ phys : Phys, ∃ e : Nat, (s.blk.aon = true) ∧ (s.now.garbled phys (.switchEpoch e) = true)) ∧
    (∃ s : State, ∃ phys : Phys, ∃ d : BitVec 512, (s.blk.aon = true) ∧ (s.now.garbled phys (.chartConfirm d) = true)) ∧
    (∃ s : State, (s.blk.aon = true) ∧ (s.now.inDusk = true)) ∧
    (∃ s : State, (s.blk.aon = true) ∧ (s.now.twinTakes = true)) ∧
    (∃ s : State, (s.blk.aon = true) ∧ (s.now.twinTakes = false)) ∧
    (∃ s : State, ∃ phys : Phys, ∃ p : Nat, ∃ e : Nat, ∃ ls : PageLines, ∃ r, (s.blk.aon = true) ∧ (s.now.arrives phys (.coldPage p e ls) = true) ∧ (p < 2 ^ 36) ∧ ((carveAt s.now.cht.cur.near (p * 4096)).isNone = true) ∧ (s.now.binary = false) ∧ (s.now.regionOf (p * 4096) = some r) ∧ (s.now.mirrorClass r = .cold)) ∧
    (∃ s : State, ∃ phys : Phys, ∃ n : Nat, ∃ e : Nat, (s.blk.aon = true) ∧ (s.now.arrives phys (.coldEnd n e) = true) ∧ (n ≠ s.now.twin.coldCount)) ∧
    (∃ s : State, ∃ phys : Phys, ∃ n : Nat, ∃ e : Nat, ∃ ok, (s.blk.aon = true) ∧ (s.now.arrives phys (.coldEnd n e) = true) ∧ (n = s.now.twin.coldCount) ∧ (s.now.twin.coldWait = []) ∧ (ok = (s.now.twin.deltas.filter (fun d => d.epoch == e)).all (fun d => d.units.all (fun x => s.now.durable x.2) && d.farUnits.all (fun x => s.now.durable x.2)))) ∧
    (∃ s : State, ∃ phys : Phys, ∃ n : Nat, ∃ e : Nat, ∃ ok, (s.blk.aon = true) ∧ (s.now.arrives phys (.coldEnd n e) = true) ∧ (n = s.now.twin.coldCount) ∧ (s.now.twin.coldWait = []) ∧ (ok = (s.now.twin.deltas.filter (fun d => d.epoch == e)).all (fun d => d.units.all (fun x => s.now.durable x.2) && d.farUnits.all (fun x => s.now.durable x.2)))) ∧
    (∃ s : State, ∃ phys : Phys, ∃ p : Nat, ∃ x : Nat, ∃ f, (s.blk.aon = true) ∧ (s.now.arrives phys (.syncDigest p x 0) = true) ∧ (f = s.now.arrived (.syncDigest p x 0)) ∧ (f.mirrorTarget (p * 4096) = none)) ∧
    (∃ s : State, ∃ phys : Phys, ∃ p : Nat, ∃ x : Nat, ∃ f, ∃ l : Nat, (s.blk.aon = true) ∧ (s.now.arrives phys (.syncDigest p x 0) = true) ∧ (f = s.now.arrived (.syncDigest p x 0)) ∧ (f.mirrorTarget (p * 4096) = some l)) ∧
    (∃ s : State, ∃ phys : Phys, ∃ p : Nat, ∃ x : Nat, ∃ ll : List (Line × Bool), ∃ f, (s.blk.aon = true) ∧ (s.now.arrives phys (.syncPage p x ll) = true) ∧ (f = s.now.arrived (.syncPage p x ll)) ∧ (f.mirrorTarget (p * 4096) = none)) ∧
    (∃ s : State, ∃ phys : Phys, ∃ p : Nat, ∃ x : Nat, ∃ ll : List (Line × Bool), ∃ f, ∃ l : Nat, ∃ r, (s.blk.aon = true) ∧ (s.now.arrives phys (.syncPage p x ll) = true) ∧ (f = s.now.arrived (.syncPage p x ll)) ∧ (f.mirrorTarget (p * 4096) = some l) ∧ ((f.lineInfo l).region = some r) ∧ (f.keyEmpty r = true)) ∧
    (∃ s : State, ∃ phys : Phys, ∃ p : Nat, ∃ x : Nat, ∃ ll : List (Line × Bool), ∃ f, ∃ l : Nat, ∃ r, (s.blk.aon = true) ∧ (s.now.arrives phys (.syncPage p x ll) = true) ∧ (f = s.now.arrived (.syncPage p x ll)) ∧ (f.mirrorTarget (p * 4096) = some l) ∧ ((f.lineInfo l).region = some r) ∧ (f.keyEmpty r = false)) ∧
    (∃ s : State, ∃ phys : Phys, ∃ g : Nat, ∃ f, (s.blk.aon = true) ∧ (s.now.arrives phys (.sfUpdate g none) = true) ∧ (f = s.now.arrived (.sfUpdate g none))) ∧
    (∃ s : State, ∃ phys : Phys, ∃ g : Nat, ∃ w, ∃ f, (s.blk.aon = true) ∧ (s.now.arrives phys (.sfUpdate g (some w)) = true) ∧ (f = s.now.arrived (.sfUpdate g (some w)))) ∧
    (∃ s : State, ∃ phys : Phys, ∃ x, ∃ y, (s.blk.aon = true) ∧ (s.now.arrives phys (.state 0 x y false) = true)) ∧
    (∃ s : State, ∃ phys : Phys, ∃ e : Nat, (s.blk.aon = true) ∧ (s.now.arrives phys (.switchEpoch e) = true)) ∧
    (∃ s : State, ∃ phys : Phys, ∃ d : BitVec 512, ∃ a : LiveApply, ∃ k : Nat, (s.blk.aon = true) ∧ (s.now.arrives phys (.chartConfirm d) = true) ∧ (s.now.cht.commitWait = some (a, k)) ∧ (a.next.digest = d)) ∧
    (∃ s : State, ∃ phys : Phys, ∃ d : BitVec 512, ∃ a : LiveApply, ∃ k : Nat, (s.blk.aon = true) ∧ (s.now.arrives phys (.chartConfirm d) = true) ∧ (s.now.cht.commitWait = some (a, k)) ∧ (a.next.digest ≠ d)) ∧
    (∃ s : State, ∃ phys : Phys, ∃ d : BitVec 512, (s.blk.aon = true) ∧ (s.now.arrives phys (.chartConfirm d) = true) ∧ (s.now.cht.commitWait = none) ∧ (s.now.cht.staged = some d) ∧ (s.now.cht.state = .verified)) ∧
    (∃ s : State, ∃ phys : Phys, ∃ e : Nat, (s.blk.aon = true) ∧ (s.now.arrives phys (.coldAck e) = true) ∧ (s.now.twin.shipping ≠ some e)) ∧
    (∃ s : State, ∃ phys : Phys, ∃ e : Nat, (s.blk.aon = true) ∧ (s.now.arrives phys (.coldAck e) = true) ∧ (s.now.twin.shipping = some e) ∧ (s.now.twin.catchUp = none)) ∧
    (∃ s : State, ∃ phys : Phys, ∃ p : Nat, ∃ d, ∃ f, (s.blk.aon = true) ∧ (s.now.arrives phys (.syncMatch p d) = true) ∧ (f = s.now.arrived (.syncMatch p d)) ∧ (SMap.find? s.now.twin.syncWait p = none)) ∧
    (∃ s : State, ∃ phys : Phys, ∃ p : Nat, ∃ d, ∃ f, ∃ y : Nat, (s.blk.aon = true) ∧ (s.now.arrives phys (.syncMatch p d) = true) ∧ (f = s.now.arrived (.syncMatch p d)) ∧ (SMap.find? s.now.twin.syncWait p = some y) ∧ (d = false)) ∧
    (∃ s : State, ∃ phys : Phys, ∃ p : Nat, ∃ d, ∃ x : Nat, ∃ f, ∃ y : Nat, (s.blk.aon = true) ∧ (s.now.arrives phys (.syncMatch p d) = true) ∧ (f = s.now.arrived (.syncMatch p d)) ∧ (SMap.find? s.now.twin.syncWait p = some y) ∧ (d = true) ∧ (y ≠ x)) ∧
    (∃ s : State, ∃ phys : Phys, ∃ p : Nat, ∃ d, ∃ x : Nat, ∃ f, ∃ y : Nat, (s.blk.aon = true) ∧ (s.now.arrives phys (.syncMatch p d) = true) ∧ (f = s.now.arrived (.syncMatch p d)) ∧ (SMap.find? s.now.twin.syncWait p = some y) ∧ (d = true) ∧ (y = x)) ∧
    (∃ s : State, (s.blk.aon = true) ∧ (s.now.inDusk = true)) ∧
    (∃ s : State, (s.blk.aon = true) ∧ (s.now.inDusk = false) ∧ (s.now.twin.syncing = true) ∧ (s.now.twin.syncTodo = []) ∧ (s.now.twin.syncWait = [])) ∧
    (∃ s : State, (s.blk.aon = true) ∧ (s.now.inDusk = false) ∧ (s.now.twin.syncing = false) ∧ (s.now.halvesOf.any (fun h => (s.now.half h).role != .holder) = true)) :=
  ⟨⟨upOn svc (fun b => b), by decide +kernel⟩,
   ⟨upOn (twin .holder) (fun b => { b with twin.linkDown := true }), by decide +kernel⟩,
   ⟨upOn (twin .holder) (fun b => { b with twin.shipped := some 4, mer.sealedEpoch := some 4 }), 5, 4, by decide +kernel⟩,
   ⟨upOn (twin .holder) (fun b => { b with twin.shipped := some 3, mer.sealedEpoch := some 4, twin.shipList := [(262144, 4), (262145, 5)] }), 4, 4, by decide +kernel⟩,
   ⟨upOn (twin .holder) (fun b => { b with twin.shipped := some 3, mer.sealedEpoch := some 4, twin.shipList := [(262145, 5)] }), 4, 4, by decide +kernel⟩,
   ⟨twin .standby, {crn := true}, 5, 6, ([] : PageLines), by decide +kernel⟩,
   ⟨twin .standby, {crn := true}, 6, 2, by decide +kernel⟩,
   ⟨twin .standby, {crn := true}, 6, by decide +kernel⟩,
   ⟨twin .standby, {crn := true}, 5, 2, by decide +kernel⟩,
   ⟨twin .standby, {crn := true}, 5, 2, ([] : List (Line × Bool)), by decide +kernel⟩,
   ⟨twin .standby, {crn := true}, 5, true, by decide +kernel⟩,
   ⟨twin .standby, {crn := true}, 5, (none : Option Holders), by decide +kernel⟩,
   ⟨twin .standby, {crn := true}, 5, (none : Option Nat), ([] : List Nat), by decide +kernel⟩,
   ⟨twin .standby, {crn := true}, 6, by decide +kernel⟩,
   ⟨twin .standby, {crn := true}, (5 : BitVec 512), by decide +kernel⟩,
   ⟨upOn (twin .standby) (fun b => { b with pers.dusk := some {} }), by decide +kernel⟩,
   ⟨twin .standby, by decide +kernel⟩,
   ⟨upOn svc (fun b => b), by decide +kernel⟩,
   ⟨twin .standby, ({} : Phys), 262145, 6, ([] : PageLines), regionCold, by decide +kernel⟩,
   ⟨upOn (twin .standby) (fun b => { b with twin.coldCount := 2, twin.deltas := [{ epoch := 6, complete := true }, { epoch := 7 }] }), ({} : Phys), 3, 7, by decide +kernel⟩,
   ⟨upOn (twin .standby) (fun b => { b with twin.coldCount := 2, twin.deltas := [{ epoch := 7 }] }), ({} : Phys), 2, 7, (((upOn (twin .standby) (fun b => { b with twin.coldCount := 2, twin.deltas := [{ epoch := 7 }] })).now.twin.deltas.filter (fun d => d.epoch == (7))).all (fun d => d.units.all (fun x => (upOn (twin .standby) (fun b => { b with twin.coldCount := 2, twin.deltas := [{ epoch := 7 }] })).now.durable x.2) && d.farUnits.all (fun x => (upOn (twin .standby) (fun b => { b with twin.coldCount := 2, twin.deltas := [{ epoch := 7 }] })).now.durable x.2))), by refine ⟨?_, ?_, rfl, ?_, rfl⟩ <;> decide +kernel⟩,
   ⟨upOn (twin .standby) (fun b => { b with twin.coldCount := 1, twin.deltas := [{ epoch := 7, units := [(262145, { kind := .home, page := 262145 })] }] }), ({} : Phys), 1, 7, (((upOn (twin .standby) (fun b => { b with twin.coldCount := 1, twin.deltas := [{ epoch := 7, units := [(262145, { kind := .home, page := 262145 })] }] })).now.twin.deltas.filter (fun d => d.epoch == (7))).all (fun d => d.units.all (fun x => (upOn (twin .standby) (fun b => { b with twin.coldCount := 1, twin.deltas := [{ epoch := 7, units := [(262145, { kind := .home, page := 262145 })] }] })).now.durable x.2) && d.farUnits.all (fun x => (upOn (twin .standby) (fun b => { b with twin.coldCount := 1, twin.deltas := [{ epoch := 7, units := [(262145, { kind := .home, page := 262145 })] }] })).now.durable x.2))), by refine ⟨?_, ?_, rfl, ?_, rfl⟩ <;> decide +kernel⟩,
   ⟨twin .holder, ({} : Phys), 0, 0, ((twin .holder).now.arrived (.syncDigest (0) (0) 0)), by refine ⟨?_, ?_, rfl, ?_⟩ <;> decide +kernel⟩,
   ⟨twin .standby, ({} : Phys), 3, 0, ((twin .standby).now.arrived (.syncDigest (3) (0) 0)), 96, by refine ⟨?_, ?_, rfl, ?_⟩ <;> decide +kernel⟩,
   ⟨twin .holder, ({} : Phys), 0, 0, ([] : List (Line × Bool)), ((twin .holder).now.arrived (.syncPage (0) (0) (([] : List (Line × Bool))))), by refine ⟨?_, ?_, rfl, ?_⟩ <;> decide +kernel⟩,
   ⟨upOn (twin .standby) (fun b => { b with cht.cur.regions := [{ regionHot with keySlot := 2 }] }), ({} : Phys), 3, 8, ([] : List (Line × Bool)), ((upOn (twin .standby) (fun b => { b with cht.cur.regions := [{ regionHot with keySlot := 2 }] })).now.arrived (.syncPage (3) (8) (([] : List (Line × Bool))))), 96, { regionHot with keySlot := 2 }, by refine ⟨?_, ?_, rfl, ?_⟩ <;> decide +kernel⟩,
   ⟨upOn (twin .standby) (fun b => { b with twin.stale := true }), ({} : Phys), 3, 8, ([] : List (Line × Bool)), ((upOn (twin .standby) (fun b => { b with twin.stale := true })).now.arrived (.syncPage (3) (8) (([] : List (Line × Bool))))), 96, regionHot, by refine ⟨?_, ?_, rfl, ?_⟩ <;> decide +kernel⟩,
   ⟨twin .standby, ({} : Phys), 5, ((twin .standby).now.arrived (.sfUpdate (5) none)), by refine ⟨?_, ?_, rfl⟩ <;> decide +kernel⟩,
   ⟨twin .standby, ({} : Phys), 5, Holders.coarse [0, 3], ((twin .standby).now.arrived (.sfUpdate (5) (some (Holders.coarse [0, 3])))), by refine ⟨?_, ?_, rfl⟩ <;> decide +kernel⟩,
   ⟨twin .standby, ({} : Phys), some 4, [1], by decide +kernel⟩,
   ⟨twin .standby, ({} : Phys), 77, by decide +kernel⟩,
   ⟨upOn (twin .standby) (fun b => { b with cht.commitWait := some ({ epoch := 9, next := { digest := 5 } }, 12) }), ({} : Phys), (5 : BitVec 512), ({ epoch := 9, next := { digest := 5 } } : LiveApply), 12, by decide +kernel⟩,
   ⟨upOn (twin .standby) (fun b => { b with cht.commitWait := some ({ epoch := 9, next := { digest := 5 } }, 12) }), ({} : Phys), (6 : BitVec 512), ({ epoch := 9, next := { digest := 5 } } : LiveApply), 12, by decide +kernel⟩,
   ⟨upOn (twin .standby) (fun b => { b with cht.staged := some 5, cht.state := .verified }), ({} : Phys), (5 : BitVec 512), by decide +kernel⟩,
   ⟨upOn (twin .holder) (fun b => { b with twin.shipping := some 4 }), ({} : Phys), 5, by decide +kernel⟩,
   ⟨upOn (twin .holder) (fun b => { b with twin.shipping := some 4, twin.shipList := [(262144, 4), (262145, 5)] }), ({} : Phys), 4, by decide +kernel⟩,
   ⟨twin .holder, ({} : Phys), 1, true, ((twin .holder).now.arrived (.syncMatch (1) (true))), by refine ⟨?_, ?_, rfl, ?_⟩ <;> decide +kernel⟩,
   ⟨upOn (twin .holder) (fun b => { b with twin.syncWait := [(1, 7)] }), ({} : Phys), 1, false, ((upOn (twin .holder) (fun b => { b with twin.syncWait := [(1, 7)] })).now.arrived (.syncMatch (1) (false))), 7, by refine ⟨?_, ?_, rfl, ?_, rfl⟩ <;> decide +kernel⟩,
   ⟨upOn (twin .holder) (fun b => { b with twin.syncWait := [(1, 7)] }), ({} : Phys), 1, true, 8, ((upOn (twin .holder) (fun b => { b with twin.syncWait := [(1, 7)] })).now.arrived (.syncMatch (1) (true))), 7, by refine ⟨?_, ?_, rfl, ?_, rfl, ?_⟩ <;> decide +kernel⟩,
   ⟨upOn (twin .holder) (fun b => { b with twin.syncWait := [(1, 7)] }), ({} : Phys), 1, true, 7, ((upOn (twin .holder) (fun b => { b with twin.syncWait := [(1, 7)] })).now.arrived (.syncMatch (1) (true))), 7, by refine ⟨?_, ?_, rfl, ?_, rfl, rfl⟩ <;> decide +kernel⟩,
   ⟨upOn svc (fun b => { b with pers.dusk := some {} }), by decide +kernel⟩,
   ⟨upOn (twin .holder) (fun b => { b with twin.syncing := true }), by decide +kernel⟩,
   ⟨upOn (twin .standby) (fun b => { b with twin.stale := true }), by decide +kernel⟩⟩

/-- States and operands that meet the hypotheses of the clauses of LeaseAndArbiterMessages. -/
theorem witness_LeaseAndArbiterMessages :
    (∃ s : State, (s.blk.aon = true) ∧ (s.now.arbTakes = true)) ∧
    (∃ s : State, (s.blk.aon = true) ∧ (s.now.arbTakes = false)) ∧
    (∃ s : State, (s.blk.aon = true) ∧ (s.now.arbTakes = false)) ∧
    (∃ s : State, (s.blk.aon = true) ∧ (s.now.arbTakes = false)) ∧
    (∃ s : State, ∃ h : Nat, ∃ x : Nat, (s.blk.aon = true) ∧ (s.now.arbTakes = true) ∧ ((s.now.half h).expiry = some x) ∧ ((s.now.half h).role = .holder) ∧ (x ≤ s.now.mer.count + s.now.leaseL / 2)) ∧
    (∃ s : State, ∃ h : Nat, ∃ x : Nat, (s.blk.aon = true) ∧ (s.now.arbTakes = true) ∧ ((s.now.half h).expiry = some x) ∧ ((s.now.half h).role = .holder) ∧ (s.now.mer.count + s.now.leaseL / 2 < x)) ∧
    (∃ s : State, ∃ h : Nat, ∃ f : Int, (s.blk.aon = true) ∧ (s.now.fenceAt h = some f) ∧ ((s.now.half h).role = .holder) ∧ (f ≤ (s.now.mer.count : Int)) ∧ (s.now.inDusk = false)) ∧
    (∃ s : State, ∃ h : Nat, ∃ f : Int, (s.blk.aon = true) ∧ (s.now.fenceAt h = some f) ∧ ((s.now.half h).role ≠ .holder ∨ (s.now.mer.count : Int) < f ∨ s.now.inDusk = true)) ∧
    (∃ s : State, ∃ g : Grant, (s.blk.aon = true) ∧ (s.now.arbTakes = true) ∧ (s.now.twin.arbUp = true) ∧ (g.unit ≠ s.now.ident.unitId ∨ g.pairTag ≠ s.now.pairTag ∨ s.now.halvesOf.contains g.half = false)) ∧
    (∃ s : State, ∃ g : Grant, (s.blk.aon = true) ∧ (s.now.arbTakes = true) ∧ (s.now.twin.arbUp = true) ∧ (g.unit ≠ s.now.ident.unitId ∨ g.pairTag ≠ s.now.pairTag ∨ s.now.halvesOf.contains g.half = false)) ∧
    (∃ s : State, ∃ g : Grant, (s.blk.aon = true) ∧ (s.now.arbTakes = true) ∧ (s.now.twin.arbUp = true) ∧ (g.unit = s.now.ident.unitId) ∧ (g.pairTag = s.now.pairTag) ∧ (s.now.halvesOf.contains g.half = true) ∧ (s.now.halo.fatal = true ∨ s.now.twin.faulted = true)) ∧
    (∃ s : State, ∃ g : Grant, (s.blk.aon = true) ∧ (s.now.arbTakes = true) ∧ (s.now.twin.arbUp = true) ∧ (g.unit = s.now.ident.unitId) ∧ (g.pairTag = s.now.pairTag) ∧ (s.now.halvesOf.contains g.half = true) ∧ (s.now.halo.fatal = false) ∧ (s.now.twin.faulted = false) ∧ (g.expiry ≤ s.now.mer.count + s.now.leaseL + s.now.leaseG) ∧ ((g.expiry : Int) - s.now.leaseG - s.now.mer.drift ≤ (s.now.mer.count : Int))) ∧
    (∃ s : State, ∃ g : Grant, (s.blk.aon = true) ∧ (s.now.arbTakes = true) ∧ (s.now.twin.arbUp = true) ∧ (g.unit = s.now.ident.unitId) ∧ (g.pairTag = s.now.pairTag) ∧ (s.now.halvesOf.contains g.half = true) ∧ (s.now.halo.fatal = false) ∧ (s.now.twin.faulted = false) ∧ (g.expiry ≤ s.now.mer.count + s.now.leaseL + s.now.leaseG) ∧ ((s.now.mer.count : Int) < (g.expiry : Int) - s.now.leaseG - s.now.mer.drift) ∧ ((s.now.half g.half).role = .holder)) ∧
    (∃ s : State, ∃ g : Grant, (s.blk.aon = true) ∧ (s.now.arbTakes = true) ∧ (s.now.twin.arbUp = true) ∧ (g.unit = s.now.ident.unitId) ∧ (g.pairTag = s.now.pairTag) ∧ (s.now.halvesOf.contains g.half = true) ∧ (s.now.halo.fatal = false) ∧ (s.now.twin.faulted = false) ∧ (g.expiry ≤ s.now.mer.count + s.now.leaseL + s.now.leaseG) ∧ ((s.now.mer.count : Int) < (g.expiry : Int) - s.now.leaseG - s.now.mer.drift) ∧ ((s.now.half g.half).role = .standby) ∧ (s.now.twin.stale = true) ∧ (g.force = false)) ∧
    (∃ s : State, ∃ g : Grant, (s.blk.aon = true) ∧ (s.now.arbTakes = true) ∧ (s.now.twin.arbUp = true) ∧ (g.unit = s.now.ident.unitId) ∧ (g.pairTag = s.now.pairTag) ∧ (s.now.halvesOf.contains g.half = true) ∧ (s.now.halo.fatal = false) ∧ (s.now.twin.faulted = false) ∧ (g.expiry ≤ s.now.mer.count + s.now.leaseL + s.now.leaseG) ∧ ((s.now.mer.count : Int) < (g.expiry : Int) - s.now.leaseG - s.now.mer.drift) ∧ ((s.now.half g.half).role = .standby) ∧ (s.now.twin.stale = false) ∧ (s.now.host.held = []) ∧ (s.now.hasCold = false) ∧ (s.now.twin.coldHeld = none) ∧ (s.now.twin.peerRoles = 0) ∧ ((s.now.half g.half).eclipse = false)) ∧
    (∃ s : State, ∃ h : Nat, (s.blk.aon = true) ∧ (s.now.arbTakes = true) ∧ (s.now.twin.arbUp = true) ∧ ((s.now.half h).role = .holder)) ∧
    (∃ s : State, ∃ h : Nat, (s.blk.aon = true) ∧ (s.now.arbTakes = true) ∧ (s.now.twin.arbUp = true) ∧ ((s.now.half h).role ≠ .holder)) ∧
    (∃ s : State, (s.blk.aon = true) ∧ (s.now.arbTakes = true) ∧ (s.now.twin.arbUp = true)) ∧
    (∃ s : State, (s.blk.aon = true) ∧ (s.now.inDusk = false)) ∧
    (∃ s : State, (s.blk.aon = true) ∧ (s.now.inDusk = true)) ∧
    (∃ s : State, (s.blk.aon = true) ∧ (s.now.pwr.sysRst = false) ∧ (s.now.inDusk = true)) ∧
    (∃ s : State, (s.blk.aon = true) ∧ (s.now.pwr.sysRst = false) ∧ (s.now.inDusk = true)) ∧
    (∃ s : State, (s.blk.aon = true) ∧ (s.now.pwr.sysRst = false) ∧ (s.now.inDusk = false) ∧ (s.now.paired = true) ∧ (s.now.halvesOf.any (fun h => (s.now.half h).role == .holder) = true)) ∧
    (∃ s : State, (s.blk.aon = true) ∧ (s.now.pwr.sysRst = false) ∧ (s.now.inDusk = false) ∧ (s.now.paired = true) ∧ (s.now.halvesOf.any (fun h => (s.now.half h).role == .holder) = false)) ∧
    (∃ s : State, ∃ h : Nat, (s.blk.aon = true) ∧ (s.now.pwr.sysRst = false) ∧ (s.now.inDusk = false) ∧ (s.now.paired = true) ∧ ((s.now.half h).role ≠ .holder)) ∧
    (∃ s : State, ∃ h : Nat, (s.blk.aon = true) ∧ (s.now.pwr.sysRst = false) ∧ (s.now.inDusk = false) ∧ (s.now.paired = true) ∧ ((s.now.half h).role = .holder)) :=
  ⟨⟨twin .holder, by decide +kernel⟩,
   ⟨upOn svc (fun b => b), by decide +kernel⟩,
   ⟨upOn svc (fun b => b), by decide +kernel⟩,
   ⟨upOn svc (fun b => b), by decide +kernel⟩,
   ⟨upOn (twin .holder) (fun b => { b with mer.count := 100000, twin.halves := [(0, { role := .holder, gateOpen := true, expiry := some 200000 })] }), 0, 200000, by decide +kernel⟩,
   ⟨upOn (twin .holder) (fun b => { b with mer.count := 99999, twin.halves := [(0, { role := .holder, gateOpen := true, expiry := some 200000 })] }), 0, 200000, by decide +kernel⟩,
   ⟨upOn (twin .holder) (fun b => { b with mer.count := 189997, twin.halves := [(0, { role := .holder, gateOpen := true, expiry := some 200000 })] }), 0, (189997 : Int), by decide +kernel⟩,
   ⟨upOn (twin .holder) (fun b => { b with mer.count := 189996, twin.halves := [(0, { role := .holder, gateOpen := true, expiry := some 200000 })] }), 0, (189997 : Int), by decide +kernel⟩,
   ⟨twin .standby, ({ unit := [2], pairTag := 0, half := 0, expiry := 5 } : Grant), by decide +kernel⟩,
   ⟨twin .standby, ({ unit := [1], pairTag := 0, half := 1, expiry := 5 } : Grant), by decide +kernel⟩,
   ⟨upOn (twin .standby) (fun b => { b with halo.fatal := true }), ({ unit := [1], pairTag := 0, half := 0, expiry := 200000 } : Grant), by decide +kernel⟩,
   ⟨upOn (twin .standby) (fun b => { b with mer.count := 189997 }), ({ unit := [1], pairTag := 0, half := 0, expiry := 200000 } : Grant), by decide +kernel⟩,
   ⟨upOn (twin .holder) (fun b => { b with mer.count := 100000, twin.halves := [(0, { role := .holder, gateOpen := true, expiry := some 200000, leaseNo := 3 })] }), ({ unit := [1], pairTag := 0, half := 0, expiry := 200000, leaseNo := 4 } : Grant), by decide +kernel⟩,
   ⟨upOn (twin .standby) (fun b => { b with twin.stale := true, mer.count := 100000 }), ({ unit := [1], pairTag := 0, half := 0, expiry := 200000 } : Grant), by decide +kernel⟩,
   ⟨upOn (twin .standby) (fun b => { b with cht.cur.regions := [regionHot], mer.count := 100000 }), ({ unit := [1], pairTag := 0, half := 0, expiry := 200000, leaseNo := 9 } : Grant), by decide +kernel⟩,
   ⟨twin .holder, 0, by decide +kernel⟩,
   ⟨twin .standby, 0, by decide +kernel⟩,
   ⟨twin .standby, by decide +kernel⟩,
   ⟨upOn svc (fun b => b), by decide +kernel⟩,
   ⟨upOn svc (fun b => { b with pers.dusk := some {} }), by decide +kernel⟩,
   ⟨upOn svc (fun b => { b with pers.dusk := some {} }), by decide +kernel⟩,
   ⟨upOn svc (fun b => { b with pers.dusk := some {} }), by decide +kernel⟩,
   ⟨twin .holder, by decide +kernel⟩,
   ⟨twin .standby, by decide +kernel⟩,
   ⟨twin .standby, 0, by decide +kernel⟩,
   ⟨twin .holder, 0, by decide +kernel⟩⟩

/-- States and operands that meet the hypotheses of the clauses of OrbitRequestsThatArrive. -/
theorem witness_OrbitRequestsThatArrive :
    (∃ s : State, ∃ w : Wire, (s.blk.aon = true) ∧ (s.now.orb.isOpen = false ∨ (SMap.get EthPort.down s.now.orb.ports w.port).up = false)) ∧
    (∃ s : State, ∃ w : Wire, ∃ p : OrbPkt, (s.blk.aon = true) ∧ (s.now.orb.isOpen = true) ∧ ((SMap.get EthPort.down s.now.orb.ports w.port).up = true) ∧ (s.now.badFrame w p = true)) ∧
    (∃ s : State, ∃ w : Wire, ∃ p : OrbPkt, (s.blk.aon = true) ∧ (s.now.orb.isOpen = true) ∧ ((SMap.get EthPort.down s.now.orb.ports w.port).up = true) ∧ (s.now.badFrame w p = false) ∧ (s.now.sa? p.sa = none)) ∧
    (∃ s : State, ∃ w : Wire, ∃ p : OrbPkt, ∃ a : SaCfg, ∃ q : OrbQueue, ∃ b, ∃ c : Nat, (s.blk.aon = true) ∧ (s.now.receives w p a = true) ∧ (b = useSlot a.keySlot 1 false s.now) ∧ (p.kind = 1) ∧ (p.version = 1) ∧ (p.flagBits = 0) ∧ (b.missingCtx p = false) ∧ (b.missingKey p = false) ∧ (p.dstQ < b.cht.cur.orbit.backedQueues) ∧ (b.oq p.dstQ = some q) ∧ (p.badLength = false) ∧ (SMap.has b.orb.window (p.dstQ % 2) = false) ∧ (b.keyCheck p q.group = .inr c) ∧ (c ≠ 3) ∧ (p.op = 3) ∧ (p.notify = false) ∧ (p.payload = [])) ∧
    (∃ s : State, ∃ w : Wire, ∃ p : OrbPkt, ∃ a : SaCfg, ∃ q : OrbQueue, ∃ b, ∃ c : Nat, (s.blk.aon = true) ∧ (s.now.receives w p a = true) ∧ (b = useSlot a.keySlot 1 false s.now) ∧ (p.kind = 1) ∧ (p.version = 1) ∧ (p.flagBits = 0) ∧ (b.missingCtx p = false) ∧ (b.missingKey p = false) ∧ (p.dstQ < b.cht.cur.orbit.backedQueues) ∧ (b.oq p.dstQ = some q) ∧ (p.badLength = false) ∧ (SMap.has b.orb.window (p.dstQ % 2) = false) ∧ (b.keyCheck p q.group = .inr c) ∧ (c ≠ 3) ∧ (p.op = 1) ∧ (p.notify = false)) ∧
    (∃ s : State, ∃ w : Wire, ∃ p : OrbPkt, ∃ a : SaCfg, ∃ q : OrbQueue, ∃ b, ∃ k : KeyEntry, ∃ t, ∃ i, (s.blk.aon = true) ∧ (s.now.receives w p a = true) ∧ (b = useSlot a.keySlot 1 false s.now) ∧ (p.kind = 1) ∧ (p.version = 1) ∧ (p.flagBits = 0) ∧ (b.missingCtx p = false) ∧ (b.missingKey p = false) ∧ (p.dstQ < b.cht.cur.orbit.backedQueues) ∧ (b.oq p.dstQ = some q) ∧ (p.badLength = false) ∧ (SMap.has b.orb.window (p.dstQ % 2) = false) ∧ (b.keyCheck p q.group = .inl k) ∧ (t = k.base + p.remote + p.offset) ∧ (i = p.key / 2 ^ 40) ∧ (b.paired = false) ∧ (b.binary = false) ∧ ((b.half 0).gateOpen = true) ∧ (p.op = 1) ∧ (p.notify = false)) ∧
    (∃ s : State, ∃ w : Wire, ∃ p : OrbPkt, ∃ a : SaCfg, ∃ q : OrbQueue, ∃ b, ∃ k : KeyEntry, ∃ t, ∃ i, (s.blk.aon = true) ∧ (s.now.receives w p a = true) ∧ (b = useSlot a.keySlot 1 false s.now) ∧ (p.kind = 1) ∧ (p.version = 1) ∧ (p.flagBits = 0) ∧ (b.missingCtx p = false) ∧ (b.missingKey p = false) ∧ (p.dstQ < b.cht.cur.orbit.backedQueues) ∧ (b.oq p.dstQ = some q) ∧ (p.badLength = false) ∧ (SMap.has b.orb.window (p.dstQ % 2) = false) ∧ (b.keyCheck p q.group = .inl k) ∧ (t = k.base + p.remote + p.offset) ∧ (i = p.key / 2 ^ 40) ∧ (b.paired = false) ∧ (b.binary = false) ∧ ((b.half 0).gateOpen = true) ∧ (p.op = 3) ∧ (p.notify = false) ∧ (p.payload = [])) ∧
    (∃ s : State, ∃ w : Wire, ∃ p : OrbPkt, ∃ a : SaCfg, ∃ q : OrbQueue, ∃ b, ∃ k : KeyEntry, ∃ t, ∃ i, ∃ r : Replay, (s.blk.aon = true) ∧ (s.now.receives w p a = true) ∧ (b = useSlot a.keySlot 1 false s.now) ∧ (p.kind = 1) ∧ (p.version = 1) ∧ (p.flagBits = 0) ∧ (b.missingCtx p = false) ∧ (b.missingKey p = false) ∧ (p.dstQ < b.cht.cur.orbit.backedQueues) ∧ (b.oq p.dstQ = some q) ∧ (p.badLength = false) ∧ (SMap.has b.orb.window (p.dstQ % 2) = false) ∧ (b.keyCheck p q.group = .inl k) ∧ (t = k.base + p.remote + p.offset) ∧ (i = p.key / 2 ^ 40) ∧ (b.paired = false) ∧ (b.binary = false) ∧ ((b.half 0).gateOpen = true) ∧ (p.notify = false) ∧ (p.payload = []) ∧ (b.orb.openCount ≤ p.msgCount) ∧ (b.replayFind (p.dstQ % 2) p = some r) ∧ (p.op = 4)) ∧
    (∃ s : State, ∃ w : Wire, ∃ p : OrbPkt, ∃ a : SaCfg, ∃ q : OrbQueue, ∃ b, ∃ k : KeyEntry, ∃ t, ∃ i, ∃ r : Replay, (s.blk.aon = true) ∧ (s.now.receives w p a = true) ∧ (b = useSlot a.keySlot 1 false s.now) ∧ (p.kind = 1) ∧ (p.version = 1) ∧ (p.flagBits = 0) ∧ (b.missingCtx p = false) ∧ (b.missingKey p = false) ∧ (p.dstQ < b.cht.cur.orbit.backedQueues) ∧ (b.oq p.dstQ = some q) ∧ (p.badLength = false) ∧ (SMap.has b.orb.window (p.dstQ % 2) = false) ∧ (b.keyCheck p q.group = .inl k) ∧ (t = k.base + p.remote + p.offset) ∧ (i = p.key / 2 ^ 40) ∧ (b.paired = false) ∧ (b.binary = false) ∧ ((b.half 0).gateOpen = true) ∧ (p.notify = false) ∧ (p.payload = []) ∧ (b.orb.openCount ≤ p.msgCount) ∧ (b.replayFind (p.dstQ % 2) p = some r) ∧ (p.op = 5)) ∧
    (∃ s : State, ∃ w : Wire, ∃ p : OrbPkt, ∃ a : SaCfg, ∃ q : OrbQueue, ∃ b, ∃ k : KeyEntry, ∃ t, ∃ i, (s.blk.aon = true) ∧ (s.now.receives w p a = true) ∧ (b = useSlot a.keySlot 1 false s.now) ∧ (p.kind = 1) ∧ (p.version = 1) ∧ (p.flagBits = 0) ∧ (b.missingCtx p = false) ∧ (b.missingKey p = false) ∧ (p.dstQ < b.cht.cur.orbit.backedQueues) ∧ (b.oq p.dstQ = some q) ∧ (p.badLength = false) ∧ (SMap.has b.orb.window (p.dstQ % 2) = false) ∧ (b.keyCheck p q.group = .inl k) ∧ (t = k.base + p.remote + p.offset) ∧ (i = p.key / 2 ^ 40) ∧ (b.paired = false) ∧ (b.binary = false) ∧ ((b.half 0).gateOpen = true) ∧ (p.notify = false) ∧ (p.payload = []) ∧ (b.orb.openCount ≤ p.msgCount) ∧ (b.replayFind (p.dstQ % 2) p = none) ∧ (b.replayUsed (p.dstQ % 2) < 32768) ∧ (b.atomicBusy p = false) ∧ (t % 64 ≤ 56) ∧ (p.op = 4)) ∧
    (∃ s : State, ∃ w : Wire, ∃ p : OrbPkt, ∃ a : SaCfg, ∃ q : OrbQueue, ∃ b, ∃ k : KeyEntry, ∃ t, ∃ i, (s.blk.aon = true) ∧ (s.now.receives w p a = true) ∧ (b = useSlot a.keySlot 1 false s.now) ∧ (p.kind = 1) ∧ (p.version = 1) ∧ (p.flagBits = 0) ∧ (b.missingCtx p = false) ∧ (b.missingKey p = false) ∧ (p.dstQ < b.cht.cur.orbit.backedQueues) ∧ (b.oq p.dstQ = some q) ∧ (p.badLength = false) ∧ (SMap.has b.orb.window (p.dstQ % 2) = false) ∧ (b.keyCheck p q.group = .inl k) ∧ (t = k.base + p.remote + p.offset) ∧ (i = p.key / 2 ^ 40) ∧ (b.paired = false) ∧ (b.binary = false) ∧ ((b.half 0).gateOpen = true) ∧ (p.notify = false) ∧ (p.payload = []) ∧ (b.orb.openCount ≤ p.msgCount) ∧ (b.replayFind (p.dstQ % 2) p = none) ∧ (b.replayUsed (p.dstQ % 2) < 32768) ∧ (b.atomicBusy p = false) ∧ (t % 64 ≤ 56) ∧ (p.op = 5)) ∧
    (∃ s : State, ∃ w : Wire, ∃ p : OrbPkt, ∃ a : SaCfg, ∃ q : OrbQueue, ∃ b, ∃ k : KeyEntry, ∃ r : Replay, (s.blk.aon = true) ∧ (s.now.receives w p a = true) ∧ (b = useSlot a.keySlot 1 false s.now) ∧ (p.kind = 1) ∧ (p.version = 1) ∧ (p.flagBits = 0) ∧ (b.missingCtx p = false) ∧ (b.missingKey p = false) ∧ (p.dstQ < b.cht.cur.orbit.backedQueues) ∧ (b.oq p.dstQ = some q) ∧ (p.badLength = false) ∧ (SMap.has b.orb.window (p.dstQ % 2) = false) ∧ (b.keyCheck p q.group = .inl k) ∧ (p.op = 2) ∧ (p.notify = true) ∧ (p.payload = []) ∧ (b.replayFind (p.dstQ % 2) p = some r)) ∧
    (∃ s : State, ∃ w : Wire, ∃ p : OrbPkt, ∃ a : SaCfg, ∃ q : OrbQueue, ∃ b, ∃ k : KeyEntry, ∃ q' : OrbQueue, (s.blk.aon = true) ∧ (s.now.receives w p a = true) ∧ (b = useSlot a.keySlot 1 false s.now) ∧ (p.kind = 1) ∧ (p.version = 1) ∧ (p.flagBits = 0) ∧ (b.missingCtx p = false) ∧ (b.missingKey p = false) ∧ (p.dstQ < b.cht.cur.orbit.backedQueues) ∧ (b.oq p.dstQ = some q) ∧ (p.badLength = false) ∧ (SMap.has b.orb.window (p.dstQ % 2) = false) ∧ (b.keyCheck p q.group = .inl k) ∧ (p.op = 2) ∧ (p.notify = true) ∧ (p.payload = []) ∧ (b.replayFind (p.dstQ % 2) p = none) ∧ (b.replayUsed (p.dstQ % 2) < 32768) ∧ (b.orb.openCount ≤ p.msgCount) ∧ (q' = { q with counter := wrap64 (q.counter + 1) })) :=
  ⟨⟨upOn svc (fun b => b), (wire 1 : Wire), by decide +kernel⟩,
   ⟨upOn orb (fun b => b), ({ wire 1 with extHeaders := 1 } : Wire), pkt 3, by decide +kernel⟩,
   ⟨upOn orb (fun b => b), (wire 1 : Wire), ({ pkt 3 with sa := 1 } : OrbPkt), by decide +kernel⟩,
   ⟨upOn orb (fun b => b), (wire 1 : Wire), ({ pkt 3 with key := 3 * 2 ^ 40 + 8 } : OrbPkt), (⟨32, true⟩ : SaCfg), ({ owner := 0, sq := 0, cq := 4096, counterDpa := 8192, log2 := 4, group := 7 } : OrbQueue), (useSlot ((⟨32, true⟩ : SaCfg)).keySlot 1 false (upOn orb (fun b => b)).now), 2, by refine ⟨?_, ?_, rfl, ?_⟩ <;> decide +kernel⟩,
   ⟨upOn orb (fun b => b), (wire 1 : Wire), ({ pkt 1 with key := 3 * 2 ^ 40 + 8 } : OrbPkt), (⟨32, true⟩ : SaCfg), ({ owner := 0, sq := 0, cq := 4096, counterDpa := 8192, log2 := 4, group := 7 } : OrbQueue), (useSlot ((⟨32, true⟩ : SaCfg)).keySlot 1 false (upOn orb (fun b => b)).now), 2, by refine ⟨?_, ?_, rfl, ?_⟩ <;> decide +kernel⟩,
   ⟨upOn orb (fun b => b), (wire 1 : Wire), ({ pkt 1 with payload := [1, 2, 3, 4, 5, 6, 7, 8] } : OrbPkt), (⟨32, true⟩ : SaCfg), ({ owner := 0, sq := 0, cq := 4096, counterDpa := 8192, log2 := 4, group := 7 } : OrbQueue), (useSlot ((⟨32, true⟩ : SaCfg)).keySlot 1 false (upOn orb (fun b => b)).now), ({ base := 65536, length := 4096, tag := 9, rights := 7, valid := true, group := 7, owner := 0 } : KeyEntry), ((({ base := 65536, length := 4096, tag := 9, rights := 7, valid := true, group := 7, owner := 0 } : KeyEntry)).base + (({ pkt 1 with payload := [1, 2, 3, 4, 5, 6, 7, 8] } : OrbPkt)).remote + (({ pkt 1 with payload := [1, 2, 3, 4, 5, 6, 7, 8] } : OrbPkt)).offset), ((({ pkt 1 with payload := [1, 2, 3, 4, 5, 6, 7, 8] } : OrbPkt)).key / 2 ^ 40), by refine ⟨?_, ?_, rfl, ?_, ?_, ?_, ?_, ?_, ?_, ?_, ?_, ?_, ?_, rfl, rfl, ?_⟩ <;> decide +kernel⟩,
   ⟨upOn orb (fun b => b), (wire 1 : Wire), pkt 3, (⟨32, true⟩ : SaCfg), ({ owner := 0, sq := 0, cq := 4096, counterDpa := 8192, log2 := 4, group := 7 } : OrbQueue), (useSlot ((⟨32, true⟩ : SaCfg)).keySlot 1 false (upOn orb (fun b => b)).now), ({ base := 65536, length := 4096, tag := 9, rights := 7, valid := true, group := 7, owner := 0 } : KeyEntry), ((({ base := 65536, length := 4096, tag := 9, rights := 7, valid := true, group := 7, owner := 0 } : KeyEntry)).base + (pkt 3).remote + (pkt 3).offset), ((pkt 3).key / 2 ^ 40), by refine ⟨?_, ?_, rfl, ?_, ?_, ?_, ?_, ?_, ?_, ?_, ?_, ?_, ?_, rfl, rfl, ?_⟩ <;> decide +kernel⟩,
   ⟨upOn orb (fun b => { b with orb.replayN := [{ src := 1, queue := 4, msgId := 0, msgCount := 1000000, result := 77 }] }), (wire 1 : Wire), pkt 4, (⟨32, true⟩ : SaCfg), ({ owner := 0, sq := 0, cq := 4096, counterDpa := 8192, log2 := 4, group := 7 } : OrbQueue), (useSlot ((⟨32, true⟩ : SaCfg)).keySlot 1 false (upOn orb (fun b => { b with orb.replayN := [{ src := 1, queue := 4, msgId := 0, msgCount := 1000000, result := 77 }] })).now), ({ base := 65536, length := 4096, tag := 9, rights := 7, valid := true, group := 7, owner := 0 } : KeyEntry), ((({ base := 65536, length := 4096, tag := 9, rights := 7, valid := true, group := 7, owner := 0 } : KeyEntry)).base + (pkt 4).remote + (pkt 4).offset), ((pkt 4).key / 2 ^ 40), ({ src := 1, queue := 4, msgId := 0, msgCount := 1000000, result := 77 } : Replay), by refine ⟨?_, ?_, rfl, ?_, ?_, ?_, ?_, ?_, ?_, ?_, ?_, ?_, ?_, rfl, rfl, ?_⟩ <;> decide +kernel⟩,
   ⟨upOn orb (fun b => { b with orb.replayN := [{ src := 1, queue := 4, msgId := 0, msgCount := 1000000, result := 77 }] }), (wire 1 : Wire), pkt 5, (⟨32, true⟩ : SaCfg), ({ owner := 0, sq := 0, cq := 4096, counterDpa := 8192, log2 := 4, group := 7 } : OrbQueue), (useSlot ((⟨32, true⟩ : SaCfg)).keySlot 1 false (upOn orb (fun b => { b with orb.replayN := [{ src := 1, queue := 4, msgId := 0, msgCount := 1000000, result := 77 }] })).now), ({ base := 65536, length := 4096, tag := 9, rights := 7, valid := true, group := 7, owner := 0 } : KeyEntry), ((({ base := 65536, length := 4096, tag := 9, rights := 7, valid := true, group := 7, owner := 0 } : KeyEntry)).base + (pkt 5).remote + (pkt 5).offset), ((pkt 5).key / 2 ^ 40), ({ src := 1, queue := 4, msgId := 0, msgCount := 1000000, result := 77 } : Replay), by refine ⟨?_, ?_, rfl, ?_, ?_, ?_, ?_, ?_, ?_, ?_, ?_, ?_, ?_, rfl, rfl, ?_⟩ <;> decide +kernel⟩,
   ⟨upOn orb (fun b => b), (wire 1 : Wire), pkt 4, (⟨32, true⟩ : SaCfg), ({ owner := 0, sq := 0, cq := 4096, counterDpa := 8192, log2 := 4, group := 7 } : OrbQueue), (useSlot ((⟨32, true⟩ : SaCfg)).keySlot 1 false (upOn orb (fun b => b)).now), ({ base := 65536, length := 4096, tag := 9, rights := 7, valid := true, group := 7, owner := 0 } : KeyEntry), ((({ base := 65536, length := 4096, tag := 9, rights := 7, valid := true, group := 7, owner := 0 } : KeyEntry)).base + (pkt 4).remote + (pkt 4).offset), ((pkt 4).key / 2 ^ 40), by refine ⟨?_, ?_, rfl, ?_, ?_, ?_, ?_, ?_, ?_, ?_, ?_, ?_, ?_, rfl, rfl, ?_⟩ <;> decide +kernel⟩,
   ⟨upOn orb (fun b => b), (wire 1 : Wire), pkt 5, (⟨32, true⟩ : SaCfg), ({ owner := 0, sq := 0, cq := 4096, counterDpa := 8192, log2 := 4, group := 7 } : OrbQueue), (useSlot ((⟨32, true⟩ : SaCfg)).keySlot 1 false (upOn orb (fun b => b)).now), ({ base := 65536, length := 4096, tag := 9, rights := 7, valid := true, group := 7, owner := 0 } : KeyEntry), ((({ base := 65536, length := 4096, tag := 9, rights := 7, valid := true, group := 7, owner := 0 } : KeyEntry)).base + (pkt 5).remote + (pkt 5).offset), ((pkt 5).key / 2 ^ 40), by refine ⟨?_, ?_, rfl, ?_, ?_, ?_, ?_, ?_, ?_, ?_, ?_, ?_, ?_, rfl, rfl, ?_⟩ <;> decide +kernel⟩,
   ⟨upOn orb (fun b => { b with orb.replayN := [{ src := 1, queue := 4, msgId := 0, msgCount := 1000000, result := 77 }] }), (wire 1 : Wire), ({ pkt 2 with notify := true } : OrbPkt), (⟨32, true⟩ : SaCfg), ({ owner := 0, sq := 0, cq := 4096, counterDpa := 8192, log2 := 4, group := 7 } : OrbQueue), (useSlot ((⟨32, true⟩ : SaCfg)).keySlot 1 false (upOn orb (fun b => { b with orb.replayN := [{ src := 1, queue := 4, msgId := 0, msgCount := 1000000, result := 77 }] })).now), ({ base := 65536, length := 4096, tag := 9, rights := 7, valid := true, group := 7, owner := 0 } : KeyEntry), ({ src := 1, queue := 4, msgId := 0, msgCount := 1000000, result := 77 } : Replay), by refine ⟨?_, ?_, rfl, ?_⟩ <;> decide +kernel⟩,
   ⟨upOn orb (fun b => b), (wire 1 : Wire), ({ pkt 2 with notify := true } : OrbPkt), (⟨32, true⟩ : SaCfg), ({ owner := 0, sq := 0, cq := 4096, counterDpa := 8192, log2 := 4, group := 7 } : OrbQueue), (useSlot ((⟨32, true⟩ : SaCfg)).keySlot 1 false (upOn orb (fun b => b)).now), ({ base := 65536, length := 4096, tag := 9, rights := 7, valid := true, group := 7, owner := 0 } : KeyEntry), ({ owner := 0, sq := 0, cq := 4096, counterDpa := 8192, log2 := 4, group := 7, counter := wrap64 1 } : OrbQueue), by refine ⟨?_, ?_, rfl, ?_, ?_, ?_, ?_, ?_, ?_, ?_, ?_, ?_, ?_, ?_, ?_, ?_, ?_, ?_, ?_, rfl⟩ <;> decide +kernel⟩⟩

/-- States and operands that meet the hypotheses of the clauses of OrbitAnswersAndSending. -/
theorem witness_OrbitAnswersAndSending :
    (∃ s : State, ∃ w : Wire, (s.blk.aon = true) ∧ (s.now.orb.isOpen = false ∨ (SMap.get EthPort.down s.now.orb.ports w.port).up = false)) ∧
    (∃ s : State, ∃ w : Wire, ∃ p : OrbPkt, ∃ a : SaCfg, ∃ b, ∃ x : OrbAck, (s.blk.aon = true) ∧ (s.now.receives w p a = true) ∧ (b = useSlot a.keySlot 1 false s.now) ∧ (p.kind = 3) ∧ (p.acks = [x]) ∧ (b.omsg x.queue x.msgId = none)) ∧
    (∃ s : State, ∃ w : Wire, ∃ p : OrbPkt, ∃ a : SaCfg, ∃ b, ∃ x : OrbAck, ∃ m : OrbMsg, (s.blk.aon = true) ∧ (s.now.receives w p a = true) ∧ (b = useSlot a.keySlot 1 false s.now) ∧ (p.kind = 3) ∧ (p.acks = [x]) ∧ (b.omsg x.queue x.msgId = some m) ∧ (SMap.find? m.segs x.offset = none)) ∧
    (∃ s : State, ∃ w : Wire, ∃ p : OrbPkt, ∃ a : SaCfg, ∃ b, ∃ x : OrbAck, ∃ m : OrbMsg, ∃ g : OrbSeg, (s.blk.aon = true) ∧ (s.now.receives w p a = true) ∧ (b = useSlot a.keySlot 1 false s.now) ∧ (p.kind = 3) ∧ (p.acks = [x]) ∧ (b.omsg x.queue x.msgId = some m) ∧ (SMap.find? m.segs x.offset = some g) ∧ (g.notify = false) ∧ (x.code = 0) ∧ (SMap.erase m.segs x.offset ≠ [])) ∧
    (∃ s : State, ∃ w : Wire, ∃ p : OrbPkt, ∃ a : SaCfg, ∃ b, (s.blk.aon = true) ∧ (s.now.receives w p a = true) ∧ (b = useSlot a.keySlot 1 false s.now) ∧ (p.kind = 2) ∧ (b.oq p.srcQ = none)) ∧
    (∃ s : State, ∃ w : Wire, ∃ p : OrbPkt, ∃ a : SaCfg, ∃ b, ∃ q : OrbQueue, ∃ m : OrbMsg, ∃ g : OrbSeg, (s.blk.aon = true) ∧ (s.now.receives w p a = true) ∧ (b = useSlot a.keySlot 1 false s.now) ∧ (p.kind = 2) ∧ (b.oq p.srcQ = some q) ∧ (b.omsg p.srcQ p.msgId = some m) ∧ (SMap.find? m.segs p.offset = some g) ∧ (g.busy = false) ∧ (m.op = 3) ∧ (p.payload.length = g.len) ∧ (p.op1 = 0)) ∧
    (∃ s : State, ∃ n : Nat, ∃ q : Nat, ∃ x : OrbQueue, (s.blk.aon = true) ∧ (s.now.ldTakes n = true) ∧ (s.now.oq q = some x) ∧ (x.owner = n)) ∧
    (∃ s : State, ∃ n : Nat, ∃ q : Nat, ∃ x : OrbQueue, (s.blk.aon = true) ∧ (s.now.ldTakes n = true) ∧ (s.now.oq q = some x) ∧ (x.owner ≠ n)) ∧
    (∃ s : State, ∃ n : Nat, ∃ q : Nat, (s.blk.aon = true) ∧ (s.now.ldTakes n = true) ∧ (s.now.oq q = none)) ∧
    (∃ s : State, ∃ q : Nat, (s.blk.aon = true) ∧ (s.now.oq q = none)) ∧
    (∃ s : State, ∃ q : Nat, ∃ x : OrbQueue, ∃ m : OrbMsg, (s.blk.aon = true) ∧ (s.now.oq q = some x) ∧ (x.msgs.find? (fun m => m.unsent) = some m) ∧ (s.now.queueMoves q x = false ∨ s.now.portsUp = [] ∨ m.msgCount + s.now.orbLt ≤ s.now.mer.count)) ∧
    (∃ s : State, ∃ q : Nat, ∃ x : OrbQueue, ∃ m : OrbMsg, ∃ o : Nat, ∃ g : OrbSeg, (s.blk.aon = true) ∧ (s.now.oq q = some x) ∧ (x.msgs.find? (fun m => m.unsent) = some m) ∧ (s.now.queueMoves q x = true) ∧ (s.now.portsUp ≠ []) ∧ (s.now.mer.count < m.msgCount + s.now.orbLt) ∧ ((x.inFlight : Rat) < x.cwnd) ∧ (s.now.segsOf (q % 2) < 32768) ∧ (m.op ≠ 3) ∧ (m.unit (s.now.cht.cur.orbit.maxInflight - x.inFlight) = [(o, g)])) ∧
    (∃ s : State, ∃ q : Nat, ∃ i : Nat, (s.blk.aon = true) ∧ (s.now.omsg q i = none)) ∧
    (∃ s : State, ∃ q : Nat, ∃ i : Nat, ∃ o : Nat, ∃ m : OrbMsg, (s.blk.aon = true) ∧ (s.now.omsg q i = some m) ∧ (SMap.has m.segs o = true)) ∧
    (∃ s : State, ∃ q : Nat, ∃ i : Nat, ∃ m : OrbMsg, (s.blk.aon = true) ∧ (s.now.omsg q i = some m) ∧ (m.msgCount + s.now.orbLt ≤ s.now.mer.count)) ∧
    (∃ s : State, ∃ q : Nat, ∃ i : Nat, ∃ m : OrbMsg, (s.blk.aon = true) ∧ (s.now.omsg q i = some m) ∧ (s.now.mer.count < m.msgCount + s.now.orbLt)) ∧
    (∃ s : State, ∃ q : Nat, ∃ x : OrbQueue, ∃ m : OrbMsg, (s.blk.aon = true) ∧ (s.now.oq q = some x) ∧ (x.waiting = some m) ∧ (m.op2 / 2 ^ 32 = 0)) ∧
    (∃ s : State, ∃ q : Nat, ∃ x : OrbQueue, ∃ m : OrbMsg, ∃ y : OrbQueue, (s.blk.aon = true) ∧ (s.now.oq q = some x) ∧ (x.waiting = some m) ∧ (m.op2 / 2 ^ 32 ≠ 0) ∧ (s.now.oq (m.op2 % 2 ^ 22) = some y)) ∧
    (∃ s : State, ∃ q : Nat, ∃ x : OrbQueue, ∃ m : OrbMsg, (s.blk.aon = true) ∧ (s.now.oq q = some x) ∧ (x.waiting = some m) ∧ (m.waitFull = true) ∧ (s.now.waitsOf (q % 2) < 16384)) ∧
    (∃ s : State, ∃ i : Nat, (s.blk.aon = true) ∧ (i < s.now.cht.cur.orbit.backedQueues) ∧ (s.now.orb.miss = [])) ∧
    (∃ s : State, ∃ e : Nat, (s.blk.aon = true) ∧ (SMap.find? s.now.orb.window e = none)) ∧
    (∃ s : State, ∃ e : Nat, ∃ c : Nat, (s.blk.aon = true) ∧ (SMap.find? s.now.orb.window e = some c) ∧ (c + s.now.orbLt + s.now.mer.drift < s.now.mer.count)) ∧
    (∃ s : State, ∃ e : Nat, ∃ c : Nat, (s.blk.aon = true) ∧ (SMap.find? s.now.orb.window e = some c) ∧ (s.now.mer.count ≤ c + s.now.orbLt + s.now.mer.drift)) :=
  ⟨⟨upOn svc (fun b => b), (wire 0 : Wire), by decide +kernel⟩,
   ⟨upOn orb (fun b => b), (wire 0 : Wire), ({ kind := 3, msgCount := 1000000, acks := [⟨2, 0, 5, 0, 0, 0⟩] } : OrbPkt), (⟨32, true⟩ : SaCfg), (useSlot ((⟨32, true⟩ : SaCfg)).keySlot 1 false (upOn orb (fun b => b)).now), (⟨2, 0, 5, 0, 0, 0⟩ : OrbAck), by refine ⟨?_, ?_, rfl, ?_⟩ <;> decide +kernel⟩,
   ⟨upOn orb (fun b => { b with orb.queues := [(2, { owner := 0, sq := 0, cq := 4096, counterDpa := 8192, log2 := 4, group := 7, msgs := [{ idx := 0, op := 1, len := 8192, msgId := 5, msgCount := 1000000, next := 8192, segs := [(0, { len := 4096 }), (4096, { len := 4096 })] }] })] }), (wire 0 : Wire), ({ kind := 3, msgCount := 1000000, acks := [⟨2, 1, 5, 0, 0, 0⟩] } : OrbPkt), (⟨32, true⟩ : SaCfg), (useSlot ((⟨32, true⟩ : SaCfg)).keySlot 1 false (upOn orb (fun b => { b with orb.queues := [(2, { owner := 0, sq := 0, cq := 4096, counterDpa := 8192, log2 := 4, group := 7, msgs := [{ idx := 0, op := 1, len := 8192, msgId := 5, msgCount := 1000000, next := 8192, segs := [(0, { len := 4096 }), (4096, { len := 4096 })] }] })] })).now), (⟨2, 1, 5, 0, 0, 0⟩ : OrbAck), ({ idx := 0, op := 1, len := 8192, msgId := 5, msgCount := 1000000, next := 8192, segs := [(0, { len := 4096 }), (4096, { len := 4096 })] } : OrbMsg), by refine ⟨?_, ?_, rfl, ?_⟩ <;> decide +kernel⟩,
   ⟨upOn orb (fun b => { b with orb.queues := [(2, { owner := 0, sq := 0, cq := 4096, counterDpa := 8192, log2 := 4, group := 7, msgs := [{ idx := 0, op := 1, len := 8192, msgId := 5, msgCount := 1000000, next := 8192, segs := [(0, { len := 4096 }), (4096, { len := 4096 })] }] })] }), (wire 0 : Wire), ({ kind := 3, msgCount := 1000000, acks := [⟨2, 4096, 5, 0, 0, 0⟩] } : OrbPkt), (⟨32, true⟩ : SaCfg), (useSlot ((⟨32, true⟩ : SaCfg)).keySlot 1 false (upOn orb (fun b => { b with orb.queues := [(2, { owner := 0, sq := 0, cq := 4096, counterDpa := 8192, log2 := 4, group := 7, msgs := [{ idx := 0, op := 1, len := 8192, msgId := 5, msgCount := 1000000, next := 8192, segs := [(0, { len := 4096 }), (4096, { len := 4096 })] }] })] })).now), (⟨2, 4096, 5, 0, 0, 0⟩ : OrbAck), ({ idx := 0, op := 1, len := 8192, msgId := 5, msgCount := 1000000, next := 8192, segs := [(0, { len := 4096 }), (4096, { len := 4096 })] } : OrbMsg), ({ len := 4096 } : OrbSeg), by refine ⟨?_, ?_, rfl, ?_⟩ <;> decide +kernel⟩,
   ⟨upOn orb (fun b => b), (wire 0 : Wire), ({ kind := 2, msgCount := 1000000, srcQ := 1 } : OrbPkt), (⟨32, true⟩ : SaCfg), (useSlot ((⟨32, true⟩ : SaCfg)).keySlot 1 false (upOn orb (fun b => b)).now), by refine ⟨?_, ?_, rfl, ?_⟩ <;> decide +kernel⟩,
   ⟨upOn orb (fun b => { b with orb.queues := [(2, { owner := 0, sq := 0, cq := 4096, counterDpa := 8192, log2 := 4, group := 7, msgs := [{ idx := 0, op := 3, len := 8, msgId := 5, msgCount := 1000000, next := 8192, segs := [(0, { len := 8 })] }] })] }), (wire 0 : Wire), ({ kind := 2, msgCount := 1000000, srcQ := 2, msgId := 5, payload := [1, 2, 3, 4, 5, 6, 7, 8] } : OrbPkt), (⟨32, true⟩ : SaCfg), (useSlot ((⟨32, true⟩ : SaCfg)).keySlot 1 false (upOn orb (fun b => { b with orb.queues := [(2, { owner := 0, sq := 0, cq := 4096, counterDpa := 8192, log2 := 4, group := 7, msgs := [{ idx := 0, op := 3, len := 8, msgId := 5, msgCount := 1000000, next := 8192, segs := [(0, { len := 8 })] }] })] })).now), ({ owner := 0, sq := 0, cq := 4096, counterDpa := 8192, log2 := 4, group := 7, msgs := [{ idx := 0, op := 3, len := 8, msgId := 5, msgCount := 1000000, next := 8192, segs := [(0, { len := 8 })] }] } : OrbQueue), ({ idx := 0, op := 3, len := 8, msgId := 5, msgCount := 1000000, next := 8192, segs := [(0, { len := 8 })] } : OrbMsg), ({ len := 8 } : OrbSeg), by refine ⟨?_, ?_, rfl, ?_⟩ <;> decide +kernel⟩,
   ⟨upOn orb (fun b => b), 0, 2, ({ owner := 0, sq := 0, cq := 4096, counterDpa := 8192, log2 := 4, group := 7 } : OrbQueue), by decide +kernel⟩,
   ⟨upOn orb (fun b => { b with orb.queues := [(2, { owner := 1, sq := 0, cq := 4096, counterDpa := 8192, log2 := 4, group := 7 })] }), 0, 2, ({ owner := 1, sq := 0, cq := 4096, counterDpa := 8192, log2 := 4, group := 7 } : OrbQueue), by decide +kernel⟩,
   ⟨upOn orb (fun b => b), 0, 3, by decide +kernel⟩,
   ⟨upOn orb (fun b => b), 3, by decide +kernel⟩,
   ⟨upOn orb (fun b => { b with orb.queues := [(2, { owner := 0, sq := 0, cq := 4096, counterDpa := 8192, log2 := 4, group := 7, msgs := [{ idx := 0, op := 1, len := 8192, msgId := 5, msgCount := 1000000, next := 4096 }] })], mer.count := 2000000 }), 2, ({ owner := 0, sq := 0, cq := 4096, counterDpa := 8192, log2 := 4, group := 7, msgs := [{ idx := 0, op := 1, len := 8192, msgId := 5, msgCount := 1000000, next := 4096 }] } : OrbQueue), ({ idx := 0, op := 1, len := 8192, msgId := 5, msgCount := 1000000, next := 4096 } : OrbMsg), by decide +kernel⟩,
   ⟨upOn orb (fun b => { b with orb.queues := [(2, { owner := 0, sq := 0, cq := 4096, counterDpa := 8192, log2 := 4, group := 7, msgs := [{ idx := 0, op := 1, len := 8192, msgId := 5, msgCount := 1000000, next := 4096 }] })] }), 2, ({ owner := 0, sq := 0, cq := 4096, counterDpa := 8192, log2 := 4, group := 7, msgs := [{ idx := 0, op := 1, len := 8192, msgId := 5, msgCount := 1000000, next := 4096 }] } : OrbQueue), ({ idx := 0, op := 1, len := 8192, msgId := 5, msgCount := 1000000, next := 4096 } : OrbMsg), 4096, ({ len := 4096 } : OrbSeg), by decide +kernel⟩,
   ⟨upOn orb (fun b => b), 2, 5, by decide +kernel⟩,
   ⟨upOn orb (fun b => { b with orb.queues := [(2, { owner := 0, sq := 0, cq := 4096, counterDpa := 8192, log2 := 4, group := 7, msgs := [{ idx := 0, op := 1, len := 8192, msgId := 5, msgCount := 1000000, next := 8192, segs := [(0, { len := 4096 }), (4096, { len := 4096 })] }] })] }), 2, 5, 4096, ({ idx := 0, op := 1, len := 8192, msgId := 5, msgCount := 1000000, next := 8192, segs := [(0, { len := 4096 }), (4096, { len := 4096 })] } : OrbMsg), by decide +kernel⟩,
   ⟨upOn orb (fun b => { b with orb.queues := [(2, { owner := 0, sq := 0, cq := 4096, counterDpa := 8192, log2 := 4, group := 7, msgs := [{ idx := 0, op := 1, len := 8192, msgId := 5, msgCount := 1000000, next := 8192, segs := [(0, { len := 4096 }), (4096, { len := 4096 })] }] })], mer.count := 1500000 }), 2, 5, ({ idx := 0, op := 1, len := 8192, msgId := 5, msgCount := 1000000, next := 8192, segs := [(0, { len := 4096 }), (4096, { len := 4096 })] } : OrbMsg), by decide +kernel⟩,
   ⟨upOn orb (fun b => { b with orb.queues := [(2, { owner := 0, sq := 0, cq := 4096, counterDpa := 8192, log2 := 4, group := 7, msgs := [{ idx := 0, op := 1, len := 8192, msgId := 5, msgCount := 1000000, next := 8192, segs := [(0, { len := 4096 }), (4096, { len := 4096 })] }] })], mer.count := 1499999 }), 2, 5, ({ idx := 0, op := 1, len := 8192, msgId := 5, msgCount := 1000000, next := 8192, segs := [(0, { len := 4096 }), (4096, { len := 4096 })] } : OrbMsg), by decide +kernel⟩,
   ⟨upOn orb (fun b => { b with orb.queues := [(2, { owner := 0, sq := 0, cq := 4096, counterDpa := 8192, log2 := 4, group := 7, msgs := [{ idx := 0, op := 6, msgId := 5 }] })] }), 2, ({ owner := 0, sq := 0, cq := 4096, counterDpa := 8192, log2 := 4, group := 7, msgs := [{ idx := 0, op := 6, msgId := 5 }] } : OrbQueue), ({ idx := 0, op := 6, msgId := 5 } : OrbMsg), by decide +kernel⟩,
   ⟨upOn orb (fun b => { b with orb.queues := [(2, { owner := 0, sq := 0, cq := 4096, counterDpa := 8192, log2 := 4, group := 7, msgs := [{ idx := 0, op := 6, op2 := 8589934594, msgId := 5 }] })] }), 2, ({ owner := 0, sq := 0, cq := 4096, counterDpa := 8192, log2 := 4, group := 7, msgs := [{ idx := 0, op := 6, op2 := 8589934594, msgId := 5 }] } : OrbQueue), ({ idx := 0, op := 6, op2 := 8589934594, msgId := 5 } : OrbMsg), ({ owner := 0, sq := 0, cq := 4096, counterDpa := 8192, log2 := 4, group := 7, msgs := [{ idx := 0, op := 6, op2 := 8589934594, msgId := 5 }] } : OrbQueue), by decide +kernel⟩,
   ⟨upOn orb (fun b => { b with orb.queues := [(2, { owner := 0, sq := 0, cq := 4096, counterDpa := 8192, log2 := 4, group := 7, msgs := [{ idx := 0, op := 6, msgId := 5, waitFull := true }] })] }), 2, ({ owner := 0, sq := 0, cq := 4096, counterDpa := 8192, log2 := 4, group := 7, msgs := [{ idx := 0, op := 6, msgId := 5, waitFull := true }] } : OrbQueue), ({ idx := 0, op := 6, msgId := 5, waitFull := true } : OrbMsg), by decide +kernel⟩,
   ⟨upOn orb (fun b => b), 5, by decide +kernel⟩,
   ⟨upOn orb (fun b => b), 0, by decide +kernel⟩,
   ⟨upOn orb (fun b => { b with orb.window := [(0, 1000000)], mer.count := 1500002 }), 0, 1000000, by decide +kernel⟩,
   ⟨upOn orb (fun b => { b with orb.window := [(0, 1000000)], mer.count := 1500001 }), 0, 1000000, by decide +kernel⟩⟩

/-- States and operands that meet the hypotheses of the clauses of OrbitQueueAndKeyCommands. -/
theorem witness_OrbitQueueAndKeyCommands :
    (∃ s : State, ∃ n : Nat, ∃ b, (s.blk.aon = true) ∧ (s.now.ldTakes n = true) ∧ ((s.now.orbCmd n).state = 1) ∧ (b = modOrbCmd n (fun c => { c with reason := 6 }) s.now)) ∧
    (∃ s : State, ∃ n : Nat, ∃ args : List Nat, ∃ b, (s.blk.aon = true) ∧ (s.now.ldTakes n = true) ∧ ((s.now.orbCmd n).state ≠ 1) ∧ (s.now.fwWaits = false) ∧ (b = takeOrbCmd n 1 args s.now) ∧ (b.cht.cur.orbit.enable = false)) ∧
    (∃ s : State, ∃ n : Nat, ∃ args : List Nat, ∃ b, (s.blk.aon = true) ∧ (s.now.ldTakes n = true) ∧ ((s.now.orbCmd n).state ≠ 1) ∧ (s.now.fwWaits = false) ∧ (b = takeOrbCmd n 1 args s.now) ∧ (b.cht.cur.orbit.enable = true) ∧ (b.pwr.boot.duskCount.any (fun c => decide (b.mer.count ≤ c + b.orbLt)) = true)) ∧
    (∃ s : State, ∃ n : Nat, ∃ args : List Nat, ∃ b, ∃ c, ∃ l, ∃ q, (s.blk.aon = true) ∧ (s.now.ldTakes n = true) ∧ ((s.now.orbCmd n).state ≠ 1) ∧ (s.now.fwWaits = false) ∧ (b = takeOrbCmd n 1 args s.now) ∧ (c = b.orbCmd n) ∧ (l = c.arg 1 % 32) ∧ (b.cht.cur.orbit.enable = true) ∧ (b.pwr.boot.duskCount.any (fun c => decide (b.mer.count ≤ c + b.orbLt)) = false) ∧ (4 ≤ l) ∧ (l ≤ 16) ∧ (b.ringOk n (c.arg 0) (2 ^ l * 64) = true) ∧ (b.ringOk n (c.arg 2) (2 ^ l * 32) = true) ∧ (b.ringOk n (c.arg 3) 8 = true) ∧ ((c.arg 1).testBit 32 = true) ∧ (q = c.arg 1 / 2 ^ 36 % 2 ^ 22) ∧ (b.queueFree q = false)) ∧
    (∃ s : State, ∃ n : Nat, ∃ args : List Nat, ∃ b, ∃ c, ∃ l, ∃ q, (s.blk.aon = true) ∧ (s.now.ldTakes n = true) ∧ ((s.now.orbCmd n).state ≠ 1) ∧ (s.now.fwWaits = false) ∧ (b = takeOrbCmd n 1 args s.now) ∧ (c = b.orbCmd n) ∧ (l = c.arg 1 % 32) ∧ (b.cht.cur.orbit.enable = true) ∧ (b.pwr.boot.duskCount.any (fun c => decide (b.mer.count ≤ c + b.orbLt)) = false) ∧ (4 ≤ l) ∧ (l ≤ 16) ∧ (b.ringOk n (c.arg 0) (2 ^ l * 64) = true) ∧ (b.ringOk n (c.arg 2) (2 ^ l * 32) = true) ∧ (b.ringOk n (c.arg 3) 8 = true) ∧ ((c.arg 1).testBit 32 = true) ∧ (q = c.arg 1 / 2 ^ 36 % 2 ^ 22) ∧ (b.queueFree q = true)) ∧
    (∃ s : State, ∃ n : Nat, ∃ args : List Nat, ∃ b, ∃ q, ∃ r : Nat, (s.blk.aon = true) ∧ (s.now.ldTakes n = true) ∧ ((s.now.orbCmd n).state ≠ 1) ∧ (s.now.fwWaits = false) ∧ (b = takeOrbCmd n 2 args s.now) ∧ (q = (b.orbCmd n).arg 0) ∧ (b.ownQueue n q = .inr r)) ∧
    (∃ s : State, ∃ n : Nat, ∃ args : List Nat, ∃ b, ∃ q, ∃ x : OrbQueue, (s.blk.aon = true) ∧ (s.now.ldTakes n = true) ∧ ((s.now.orbCmd n).state ≠ 1) ∧ (s.now.fwWaits = false) ∧ (b = takeOrbCmd n 2 args s.now) ∧ (q = (b.orbCmd n).arg 0) ∧ (b.ownQueue n q = .inl x)) ∧
    (∃ s : State, ∃ n : Nat, ∃ args : List Nat, ∃ b, ∃ q, ∃ r : Nat, (s.blk.aon = true) ∧ (s.now.ldTakes n = true) ∧ ((s.now.orbCmd n).state ≠ 1) ∧ (s.now.fwWaits = false) ∧ (b = takeOrbCmd n 3 args s.now) ∧ (q = (b.orbCmd n).arg 0) ∧ (b.ownQueue n q = .inr r)) ∧
    (∃ s : State, ∃ n : Nat, ∃ args : List Nat, ∃ b, ∃ q, ∃ x : OrbQueue, (s.blk.aon = true) ∧ (s.now.ldTakes n = true) ∧ ((s.now.orbCmd n).state ≠ 1) ∧ (s.now.fwWaits = false) ∧ (b = takeOrbCmd n 3 args s.now) ∧ (q = (b.orbCmd n).arg 0) ∧ (b.ownQueue n q = .inl x)) ∧
    (∃ s : State, ∃ n : Nat, ∃ args : List Nat, ∃ b, (s.blk.aon = true) ∧ (s.now.ldTakes n = true) ∧ ((s.now.orbCmd n).state ≠ 1) ∧ (s.now.fwWaits = false) ∧ (b = takeOrbCmd n 4 args s.now) ∧ (b.cht.cur.orbit.enable = false)) ∧
    (∃ s : State, ∃ n : Nat, ∃ args : List Nat, ∃ b, ∃ c, ∃ k, (s.blk.aon = true) ∧ (s.now.ldTakes n = true) ∧ ((s.now.orbCmd n).state ≠ 1) ∧ (s.now.fwWaits = false) ∧ (b = takeOrbCmd n 4 args s.now) ∧ (c = b.orbCmd n) ∧ (k = c.arg 3) ∧ (b.cht.cur.orbit.enable = true) ∧ (c.arg 1 ≠ 0) ∧ (b.inView n (c.arg 0) (c.arg 1) = true) ∧ (c.arg 2 % 8 ≠ 0) ∧ ((c.arg 2).testBit 32 = true) ∧ (SMap.has b.orb.keyUsed (k / 2 ^ 40) = true) ∧ (k / 2 ^ 40 < b.cht.cur.orbit.keys)) ∧
    (∃ s : State, ∃ n : Nat, ∃ args : List Nat, ∃ b, ∃ c, ∃ k, (s.blk.aon = true) ∧ (s.now.ldTakes n = true) ∧ ((s.now.orbCmd n).state ≠ 1) ∧ (s.now.fwWaits = false) ∧ (b = takeOrbCmd n 4 args s.now) ∧ (c = b.orbCmd n) ∧ (k = c.arg 3) ∧ (b.cht.cur.orbit.enable = true) ∧ (c.arg 1 ≠ 0) ∧ (b.inView n (c.arg 0) (c.arg 1) = true) ∧ (c.arg 2 % 8 ≠ 0) ∧ ((c.arg 2).testBit 32 = true) ∧ (SMap.has b.orb.keyUsed (k / 2 ^ 40) = false) ∧ (k / 2 ^ 40 < b.cht.cur.orbit.keys)) ∧
    (∃ s : State, ∃ n : Nat, ∃ args : List Nat, ∃ b, ∃ k, ∃ e : KeyEntry, (s.blk.aon = true) ∧ (s.now.ldTakes n = true) ∧ ((s.now.orbCmd n).state ≠ 1) ∧ (s.now.fwWaits = false) ∧ (b = takeOrbCmd n 5 args s.now) ∧ (k = (b.orbCmd n).arg 3) ∧ (SMap.find? b.orb.keys (k / 2 ^ 40) = some e) ∧ (SMap.has b.orb.keyUsed (k / 2 ^ 40) = false ∨ e.tag ≠ k % 2 ^ 40)) ∧
    (∃ s : State, ∃ n : Nat, ∃ args : List Nat, ∃ b, ∃ k, ∃ e : KeyEntry, (s.blk.aon = true) ∧ (s.now.ldTakes n = true) ∧ ((s.now.orbCmd n).state ≠ 1) ∧ (s.now.fwWaits = false) ∧ (b = takeOrbCmd n 5 args s.now) ∧ (k = (b.orbCmd n).arg 3) ∧ (SMap.find? b.orb.keys (k / 2 ^ 40) = some e) ∧ (SMap.has b.orb.keyUsed (k / 2 ^ 40) = true) ∧ (e.tag = k % 2 ^ 40) ∧ (e.owner ≠ n)) ∧
    (∃ s : State, ∃ n : Nat, ∃ args : List Nat, ∃ b, ∃ k, ∃ e : KeyEntry, (s.blk.aon = true) ∧ (s.now.ldTakes n = true) ∧ ((s.now.orbCmd n).state ≠ 1) ∧ (s.now.fwWaits = false) ∧ (b = takeOrbCmd n 5 args s.now) ∧ (k = (b.orbCmd n).arg 3) ∧ (SMap.find? b.orb.keys (k / 2 ^ 40) = some e) ∧ (SMap.has b.orb.keyUsed (k / 2 ^ 40) = true) ∧ (e.tag = k % 2 ^ 40) ∧ (e.owner = n)) ∧
    (∃ s : State, ∃ n : Nat, ∃ args : List Nat, ∃ b, ∃ q, ∃ x : OrbQueue, (s.blk.aon = true) ∧ (s.now.ldTakes n = true) ∧ ((s.now.orbCmd n).state ≠ 1) ∧ (s.now.fwWaits = false) ∧ (b = takeOrbCmd n 6 args s.now) ∧ (q = (b.orbCmd n).arg 0) ∧ (b.ownQueue n q = .inl x)) ∧
    (∃ s : State, ∃ n : Nat, ∃ args : List Nat, ∃ b, ∃ q, (s.blk.aon = true) ∧ (s.now.ldTakes n = true) ∧ ((s.now.orbCmd n).state ≠ 1) ∧ (s.now.fwWaits = false) ∧ (b = takeOrbCmd n 6 args s.now) ∧ (q = (b.orbCmd n).arg 0) ∧ (b.ownQueue n q = .inr 2)) :=
  ⟨⟨upOn orb (fun b => { b with orb.cmds := [(0, { state := 1 })] }), 0, (modOrbCmd (0) (fun c => { c with reason := 6 }) (upOn orb (fun b => { b with orb.cmds := [(0, { state := 1 })] })).now), by refine ⟨?_, ?_, ?_, rfl⟩ <;> decide +kernel⟩,
   ⟨upOn svc (fun b => b), 0, ([] : List Nat), (takeOrbCmd (0) 1 (([] : List Nat)) (upOn svc (fun b => b)).now), by refine ⟨?_, ?_, ?_, ?_, rfl, ?_⟩ <;> decide +kernel⟩,
   ⟨upOn orb (fun b => { b with pwr.boot.duskCount := some 999999 }), 0, ([] : List Nat), (takeOrbCmd (0) 1 (([] : List Nat)) (upOn orb (fun b => { b with pwr.boot.duskCount := some 999999 })).now), by refine ⟨?_, ?_, ?_, ?_, rfl, ?_⟩ <;> decide +kernel⟩,
   ⟨upOn orb (fun b => b), 0, ([0, 141733920772, 32768, 8] : List Nat), (takeOrbCmd (0) 1 (([0, 141733920772, 32768, 8] : List Nat)) (upOn orb (fun b => b)).now), (((takeOrbCmd (0) 1 (([0, 141733920772, 32768, 8] : List Nat)) (upOn orb (fun b => b)).now)).orbCmd (0)), (((((takeOrbCmd (0) 1 (([0, 141733920772, 32768, 8] : List Nat)) (upOn orb (fun b => b)).now)).orbCmd (0))).arg 1 % 32), (((((takeOrbCmd (0) 1 (([0, 141733920772, 32768, 8] : List Nat)) (upOn orb (fun b => b)).now)).orbCmd (0))).arg 1 / 2 ^ 36 % 2 ^ 22), by refine ⟨?_, ?_, ?_, ?_, rfl, rfl, rfl, ?_, ?_, ?_, ?_, ?_, ?_, ?_, ?_, rfl, ?_⟩ <;> decide +kernel⟩,
   ⟨upOn orb (fun b => b), 0, ([0, 210453397508, 32768, 8] : List Nat), (takeOrbCmd (0) 1 (([0, 210453397508, 32768, 8] : List Nat)) (upOn orb (fun b => b)).now), (((takeOrbCmd (0) 1 (([0, 210453397508, 32768, 8] : List Nat)) (upOn orb (fun b => b)).now)).orbCmd (0)), (((((takeOrbCmd (0) 1 (([0, 210453397508, 32768, 8] : List Nat)) (upOn orb (fun b => b)).now)).orbCmd (0))).arg 1 % 32), (((((takeOrbCmd (0) 1 (([0, 210453397508, 32768, 8] : List Nat)) (upOn orb (fun b => b)).now)).orbCmd (0))).arg 1 / 2 ^ 36 % 2 ^ 22), by refine ⟨?_, ?_, ?_, ?_, rfl, rfl, rfl, ?_, ?_, ?_, ?_, ?_, ?_, ?_, ?_, rfl, ?_⟩ <;> decide +kernel⟩,
   ⟨upOn orb (fun b => b), 0, ([3] : List Nat), (takeOrbCmd (0) 2 (([3] : List Nat)) (upOn orb (fun b => b)).now), ((((takeOrbCmd (0) 2 (([3] : List Nat)) (upOn orb (fun b => b)).now)).orbCmd (0)).arg 0), 1, by refine ⟨?_, ?_, ?_, ?_, rfl, rfl, ?_⟩ <;> decide +kernel⟩,
   ⟨upOn orb (fun b => b), 0, ([2] : List Nat), (takeOrbCmd (0) 2 (([2] : List Nat)) (upOn orb (fun b => b)).now), ((((takeOrbCmd (0) 2 (([2] : List Nat)) (upOn orb (fun b => b)).now)).orbCmd (0)).arg 0), ({ owner := 0, sq := 0, cq := 4096, counterDpa := 8192, log2 := 4, group := 7 } : OrbQueue), by refine ⟨?_, ?_, ?_, ?_, rfl, rfl, ?_⟩ <;> decide +kernel⟩,
   ⟨upOn orb (fun b => b), 0, ([3] : List Nat), (takeOrbCmd (0) 3 (([3] : List Nat)) (upOn orb (fun b => b)).now), ((((takeOrbCmd (0) 3 (([3] : List Nat)) (upOn orb (fun b => b)).now)).orbCmd (0)).arg 0), 1, by refine ⟨?_, ?_, ?_, ?_, rfl, rfl, ?_⟩ <;> decide +kernel⟩,
   ⟨upOn orb (fun b => b), 0, ([2] : List Nat), (takeOrbCmd (0) 3 (([2] : List Nat)) (upOn orb (fun b => b)).now), ((((takeOrbCmd (0) 3 (([2] : List Nat)) (upOn orb (fun b => b)).now)).orbCmd (0)).arg 0), ({ owner := 0, sq := 0, cq := 4096, counterDpa := 8192, log2 := 4, group := 7 } : OrbQueue), by refine ⟨?_, ?_, ?_, ?_, rfl, rfl, ?_⟩ <;> decide +kernel⟩,
   ⟨upOn svc (fun b => b), 0, ([] : List Nat), (takeOrbCmd (0) 4 (([] : List Nat)) (upOn svc (fun b => b)).now), by refine ⟨?_, ?_, ?_, ?_, rfl, ?_⟩ <;> decide +kernel⟩,
   ⟨upOn orb (fun b => b), 0, ([65536, 4096, 4294967303, 3298534883337] : List Nat), (takeOrbCmd (0) 4 (([65536, 4096, 4294967303, 3298534883337] : List Nat)) (upOn orb (fun b => b)).now), (((takeOrbCmd (0) 4 (([65536, 4096, 4294967303, 3298534883337] : List Nat)) (upOn orb (fun b => b)).now)).orbCmd (0)), (((((takeOrbCmd (0) 4 (([65536, 4096, 4294967303, 3298534883337] : List Nat)) (upOn orb (fun b => b)).now)).orbCmd (0))).arg 3), by refine ⟨?_, ?_, ?_, ?_, rfl, rfl, rfl, ?_⟩ <;> decide +kernel⟩,
   ⟨upOn orb (fun b => b), 0, ([65536, 4096, 4294967303, 4398046511113] : List Nat), (takeOrbCmd (0) 4 (([65536, 4096, 4294967303, 4398046511113] : List Nat)) (upOn orb (fun b => b)).now), (((takeOrbCmd (0) 4 (([65536, 4096, 4294967303, 4398046511113] : List Nat)) (upOn orb (fun b => b)).now)).orbCmd (0)), (((((takeOrbCmd (0) 4 (([65536, 4096, 4294967303, 4398046511113] : List Nat)) (upOn orb (fun b => b)).now)).orbCmd (0))).arg 3), by refine ⟨?_, ?_, ?_, ?_, rfl, rfl, rfl, ?_⟩ <;> decide +kernel⟩,
   ⟨upOn orb (fun b => b), 0, ([0, 0, 0, 3298534883336] : List Nat), (takeOrbCmd (0) 5 (([0, 0, 0, 3298534883336] : List Nat)) (upOn orb (fun b => b)).now), ((((takeOrbCmd (0) 5 (([0, 0, 0, 3298534883336] : List Nat)) (upOn orb (fun b => b)).now)).orbCmd (0)).arg 3), ({ base := 65536, length := 4096, tag := 9, rights := 7, valid := true, group := 7, owner := 0 } : KeyEntry), by refine ⟨?_, ?_, ?_, ?_, rfl, rfl, ?_⟩ <;> decide +kernel⟩,
   ⟨upOn orb (fun b => { b with orb.keys := [(3, { base := 65536, length := 4096, tag := 9, rights := 7, valid := true, group := 7, owner := 1 })] }), 0, ([0, 0, 0, 3298534883337] : List Nat), (takeOrbCmd (0) 5 (([0, 0, 0, 3298534883337] : List Nat)) (upOn orb (fun b => { b with orb.keys := [(3, { base := 65536, length := 4096, tag := 9, rights := 7, valid := true, group := 7, owner := 1 })] })).now), ((((takeOrbCmd (0) 5 (([0, 0, 0, 3298534883337] : List Nat)) (upOn orb (fun b => { b with orb.keys := [(3, { base := 65536, length := 4096, tag := 9, rights := 7, valid := true, group := 7, owner := 1 })] })).now)).orbCmd (0)).arg 3), ({ base := 65536, length := 4096, tag := 9, rights := 7, valid := true, group := 7, owner := 1 } : KeyEntry), by refine ⟨?_, ?_, ?_, ?_, rfl, rfl, ?_⟩ <;> decide +kernel⟩,
   ⟨upOn orb (fun b => b), 0, ([0, 0, 0, 3298534883337] : List Nat), (takeOrbCmd (0) 5 (([0, 0, 0, 3298534883337] : List Nat)) (upOn orb (fun b => b)).now), ((((takeOrbCmd (0) 5 (([0, 0, 0, 3298534883337] : List Nat)) (upOn orb (fun b => b)).now)).orbCmd (0)).arg 3), ({ base := 65536, length := 4096, tag := 9, rights := 7, valid := true, group := 7, owner := 0 } : KeyEntry), by refine ⟨?_, ?_, ?_, ?_, rfl, rfl, ?_⟩ <;> decide +kernel⟩,
   ⟨upOn orb (fun b => b), 0, ([2] : List Nat), (takeOrbCmd (0) 6 (([2] : List Nat)) (upOn orb (fun b => b)).now), ((((takeOrbCmd (0) 6 (([2] : List Nat)) (upOn orb (fun b => b)).now)).orbCmd (0)).arg 0), ({ owner := 0, sq := 0, cq := 4096, counterDpa := 8192, log2 := 4, group := 7 } : OrbQueue), by refine ⟨?_, ?_, ?_, ?_, rfl, rfl, ?_⟩ <;> decide +kernel⟩,
   ⟨upOn orb (fun b => { b with orb.queues := [(2, { owner := 1, sq := 0, cq := 4096, counterDpa := 8192, log2 := 4, group := 7 })] }), 0, ([2] : List Nat), (takeOrbCmd (0) 6 (([2] : List Nat)) (upOn orb (fun b => { b with orb.queues := [(2, { owner := 1, sq := 0, cq := 4096, counterDpa := 8192, log2 := 4, group := 7 })] })).now), ((((takeOrbCmd (0) 6 (([2] : List Nat)) (upOn orb (fun b => { b with orb.queues := [(2, { owner := 1, sq := 0, cq := 4096, counterDpa := 8192, log2 := 4, group := 7 })] })).now)).orbCmd (0)).arg 0), by refine ⟨?_, ?_, ?_, ?_, rfl, rfl, ?_⟩ <;> decide +kernel⟩⟩

/-- States and operands that meet the hypotheses of the clauses of CipherQueueAndSlotCommands. -/
theorem witness_CipherQueueAndSlotCommands :
    (∃ s : State, ∃ n : Nat, ∃ b, (s.blk.aon = true) ∧ (s.now.ldTakes n = true) ∧ ((s.now.cphCmd n).state = 1) ∧ (b = modCphCmd n (fun c => { c with reason := 3 }) s.now)) ∧
    (∃ s : State, ∃ n : Nat, ∃ args : List Nat, ∃ b, ∃ c, ∃ q, ∃ l, (s.blk.aon = true) ∧ (s.now.ldTakes n = true) ∧ ((s.now.cphCmd n).state ≠ 1) ∧ (s.now.fwWaits = false) ∧ (b = takeCphCmd n 1 args s.now) ∧ (c = b.cphCmd n) ∧ (q = c.arg 0 % 256) ∧ (l = c.arg 3 % 16) ∧ (b.queueOwner q ≠ some n)) ∧
    (∃ s : State, ∃ n : Nat, ∃ args : List Nat, ∃ b, ∃ c, ∃ q, ∃ l, (s.blk.aon = true) ∧ (s.now.ldTakes n = true) ∧ ((s.now.cphCmd n).state ≠ 1) ∧ (s.now.fwWaits = false) ∧ (b = takeCphCmd n 1 args s.now) ∧ (c = b.cphCmd n) ∧ (q = c.arg 0 % 256) ∧ (l = c.arg 3 % 16) ∧ (b.queueOwner q = some n) ∧ ((b.cq q).isSome = true)) ∧
    (∃ s : State, ∃ n : Nat, ∃ args : List Nat, ∃ b, ∃ c, ∃ q, ∃ l, (s.blk.aon = true) ∧ (s.now.ldTakes n = true) ∧ ((s.now.cphCmd n).state ≠ 1) ∧ (s.now.fwWaits = false) ∧ (b = takeCphCmd n 1 args s.now) ∧ (c = b.cphCmd n) ∧ (q = c.arg 0 % 256) ∧ (l = c.arg 3 % 16) ∧ (b.queueOwner q = some n) ∧ (b.cq q = none) ∧ (4 ≤ l) ∧ (l ≤ 12) ∧ (b.ringOk n (c.arg 1) (2 ^ l * 64) = true) ∧ (b.ringOk n (c.arg 2) (2 ^ l * 16) = true)) ∧
    (∃ s : State, ∃ n : Nat, ∃ args : List Nat, ∃ b, ∃ q, ∃ r : Nat, (s.blk.aon = true) ∧ (s.now.ldTakes n = true) ∧ ((s.now.cphCmd n).state ≠ 1) ∧ (s.now.fwWaits = false) ∧ (b = takeCphCmd n 2 args s.now) ∧ (q = (b.cphCmd n).arg 0 % 256) ∧ (b.ownCq n q = .inr r)) ∧
    (∃ s : State, ∃ n : Nat, ∃ args : List Nat, ∃ b, ∃ q, ∃ x : CphQueue, (s.blk.aon = true) ∧ (s.now.ldTakes n = true) ∧ ((s.now.cphCmd n).state ≠ 1) ∧ (s.now.fwWaits = false) ∧ (b = takeCphCmd n 2 args s.now) ∧ (q = (b.cphCmd n).arg 0 % 256) ∧ (b.ownCq n q = .inl x)) ∧
    (∃ s : State, ∃ n : Nat, ∃ args : List Nat, ∃ b, ∃ q, ∃ r : Nat, (s.blk.aon = true) ∧ (s.now.ldTakes n = true) ∧ ((s.now.cphCmd n).state ≠ 1) ∧ (s.now.fwWaits = false) ∧ (b = takeCphCmd n 3 args s.now) ∧ (q = (b.cphCmd n).arg 0 % 256) ∧ (b.ownCq n q = .inr r)) ∧
    (∃ s : State, ∃ n : Nat, ∃ args : List Nat, ∃ b, ∃ q, ∃ x : CphQueue, (s.blk.aon = true) ∧ (s.now.ldTakes n = true) ∧ ((s.now.cphCmd n).state ≠ 1) ∧ (s.now.fwWaits = false) ∧ (b = takeCphCmd n 3 args s.now) ∧ (q = (b.cphCmd n).arg 0 % 256) ∧ (b.ownCq n q = .inl x)) ∧
    (∃ s : State, ∃ n : Nat, ∃ args : List Nat, ∃ b, ∃ a, (s.blk.aon = true) ∧ (s.now.ldTakes n = true) ∧ ((s.now.cphCmd n).state ≠ 1) ∧ (s.now.fwWaits = false) ∧ (b = takeCphCmd n 4 args s.now) ∧ (a = (b.cphCmd n).arg 1) ∧ (a % 16 ≠ 0)) ∧
    (∃ s : State, ∃ n : Nat, ∃ args : List Nat, ∃ b, ∃ a, (s.blk.aon = true) ∧ (s.now.ldTakes n = true) ∧ ((s.now.cphCmd n).state ≠ 1) ∧ (s.now.fwWaits = false) ∧ (b = takeCphCmd n 4 args s.now) ∧ (a = (b.cphCmd n).arg 1) ∧ (a % 16 = 0) ∧ (b.inView n a 112 = true)) ∧
    (∃ s : State, ∃ n : Nat, ∃ args : List Nat, ∃ b, ∃ q, (s.blk.aon = true) ∧ (s.now.ldTakes n = true) ∧ ((s.now.cphCmd n).state ≠ 1) ∧ (s.now.fwWaits = false) ∧ (b = takeCphCmd n 5 args s.now) ∧ (q = (b.cphCmd n).arg 0) ∧ (userSlot q = false)) ∧
    (∃ s : State, ∃ n : Nat, ∃ args : List Nat, ∃ b, ∃ q, (s.blk.aon = true) ∧ (s.now.ldTakes n = true) ∧ ((s.now.cphCmd n).state ≠ 1) ∧ (s.now.fwWaits = false) ∧ (b = takeCphCmd n 5 args s.now) ∧ (q = (b.cphCmd n).arg 0) ∧ (userSlot q = true) ∧ ((b.slot q).ldMask.testBit n = false)) ∧
    (∃ s : State, ∃ n : Nat, ∃ args : List Nat, ∃ b, ∃ q, (s.blk.aon = true) ∧ (s.now.ldTakes n = true) ∧ ((s.now.cphCmd n).state ≠ 1) ∧ (s.now.fwWaits = false) ∧ (b = takeCphCmd n 5 args s.now) ∧ (q = (b.cphCmd n).arg 0) ∧ (userSlot q = true) ∧ ((b.slot q).ldMask.testBit n = true) ∧ (b.slotInUse q = true)) ∧
    (∃ s : State, ∃ n : Nat, ∃ args : List Nat, ∃ b, ∃ q, (s.blk.aon = true) ∧ (s.now.ldTakes n = true) ∧ ((s.now.cphCmd n).state ≠ 1) ∧ (s.now.fwWaits = false) ∧ (b = takeCphCmd n 5 args s.now) ∧ (q = (b.cphCmd n).arg 0) ∧ (userSlot q = true) ∧ ((b.slot q).ldMask.testBit n = true) ∧ (b.slotInUse q = false)) ∧
    (∃ s : State, ∃ n : Nat, ∃ args : List Nat, ∃ b, ∃ q, (s.blk.aon = true) ∧ (s.now.ldTakes n = true) ∧ ((s.now.cphCmd n).state ≠ 1) ∧ (s.now.fwWaits = false) ∧ (b = takeCphCmd n 6 args s.now) ∧ (q = (b.cphCmd n).arg 0) ∧ (userSlot q = true) ∧ ((b.slot q).ldMask.testBit n = true)) ∧
    (∃ s : State, (s.blk.aon = true) ∧ (s.now.pwr.sysRst = false) ∧ (s.now.cph.cmd.state = 1)) ∧
    (∃ s : State, (s.blk.aon = true) ∧ (s.now.pwr.sysRst = false) ∧ (s.now.cph.cmd.state ≠ 1) ∧ (s.now.fwWaits = false) ∧ (blobFormatOk s.now.blobBytes = false)) ∧
    (∃ s : State, ∃ q : Nat, (s.blk.aon = true) ∧ (s.now.pwr.sysRst = false) ∧ (s.now.cph.cmd.state ≠ 1) ∧ (s.now.fwWaits = false) ∧ (userSlot q = true) ∧ (s.now.slotInUse q = false)) ∧
    (∃ s : State, ∃ q : Nat, (s.blk.aon = true) ∧ (s.now.pwr.sysRst = false) ∧ (s.now.cph.cmd.state ≠ 1) ∧ (s.now.fwWaits = false) ∧ (userSlot q = false ∨ s.now.slotInUse q = true)) ∧
    (∃ s : State, ∃ q : Nat, (s.blk.aon = true) ∧ (s.now.pwr.sysRst = false) ∧ (s.now.cph.cmd.state ≠ 1) ∧ (s.now.fwWaits = false) ∧ (userSlot q = false ∨ s.now.slotInUse q = true)) :=
  ⟨⟨upOn cph (fun b => { b with cph.cmds := [(0, { state := 1 })] }), 0, (modCphCmd (0) (fun c => { c with reason := 3 }) (upOn cph (fun b => { b with cph.cmds := [(0, { state := 1 })] })).now), by refine ⟨?_, ?_, ?_, rfl⟩ <;> decide +kernel⟩,
   ⟨upOn cph (fun b => b), 0, ([7, 4096, 8192, 4] : List Nat), (takeCphCmd (0) 1 (([7, 4096, 8192, 4] : List Nat)) (upOn cph (fun b => b)).now), (((takeCphCmd (0) 1 (([7, 4096, 8192, 4] : List Nat)) (upOn cph (fun b => b)).now)).cphCmd (0)), (((((takeCphCmd (0) 1 (([7, 4096, 8192, 4] : List Nat)) (upOn cph (fun b => b)).now)).cphCmd (0))).arg 0 % 256), (((((takeCphCmd (0) 1 (([7, 4096, 8192, 4] : List Nat)) (upOn cph (fun b => b)).now)).cphCmd (0))).arg 3 % 16), by refine ⟨?_, ?_, ?_, ?_, rfl, rfl, rfl, rfl, ?_⟩ <;> decide +kernel⟩,
   ⟨upOn cph (fun b => b), 0, ([5, 4096, 8192, 4] : List Nat), (takeCphCmd (0) 1 (([5, 4096, 8192, 4] : List Nat)) (upOn cph (fun b => b)).now), (((takeCphCmd (0) 1 (([5, 4096, 8192, 4] : List Nat)) (upOn cph (fun b => b)).now)).cphCmd (0)), (((((takeCphCmd (0) 1 (([5, 4096, 8192, 4] : List Nat)) (upOn cph (fun b => b)).now)).cphCmd (0))).arg 0 % 256), (((((takeCphCmd (0) 1 (([5, 4096, 8192, 4] : List Nat)) (upOn cph (fun b => b)).now)).cphCmd (0))).arg 3 % 16), by refine ⟨?_, ?_, ?_, ?_, rfl, rfl, rfl, rfl, ?_⟩ <;> decide +kernel⟩,
   ⟨upOn cph (fun b => b), 0, ([6, 16384, 8192, 4] : List Nat), (takeCphCmd (0) 1 (([6, 16384, 8192, 4] : List Nat)) (upOn cph (fun b => b)).now), (((takeCphCmd (0) 1 (([6, 16384, 8192, 4] : List Nat)) (upOn cph (fun b => b)).now)).cphCmd (0)), (((((takeCphCmd (0) 1 (([6, 16384, 8192, 4] : List Nat)) (upOn cph (fun b => b)).now)).cphCmd (0))).arg 0 % 256), (((((takeCphCmd (0) 1 (([6, 16384, 8192, 4] : List Nat)) (upOn cph (fun b => b)).now)).cphCmd (0))).arg 3 % 16), by refine ⟨?_, ?_, ?_, ?_, rfl, rfl, rfl, rfl, ?_⟩ <;> decide +kernel⟩,
   ⟨upOn cph (fun b => b), 0, ([6] : List Nat), (takeCphCmd (0) 2 (([6] : List Nat)) (upOn cph (fun b => b)).now), ((((takeCphCmd (0) 2 (([6] : List Nat)) (upOn cph (fun b => b)).now)).cphCmd (0)).arg 0 % 256), 2, by refine ⟨?_, ?_, ?_, ?_, rfl, rfl, ?_⟩ <;> decide +kernel⟩,
   ⟨upOn cph (fun b => b), 0, ([5] : List Nat), (takeCphCmd (0) 2 (([5] : List Nat)) (upOn cph (fun b => b)).now), ((((takeCphCmd (0) 2 (([5] : List Nat)) (upOn cph (fun b => b)).now)).cphCmd (0)).arg 0 % 256), ({ owner := 0, sq := 4096, cq := 8192, log2 := 4 } : CphQueue), by refine ⟨?_, ?_, ?_, ?_, rfl, rfl, ?_⟩ <;> decide +kernel⟩,
   ⟨upOn cph (fun b => b), 0, ([6] : List Nat), (takeCphCmd (0) 3 (([6] : List Nat)) (upOn cph (fun b => b)).now), ((((takeCphCmd (0) 3 (([6] : List Nat)) (upOn cph (fun b => b)).now)).cphCmd (0)).arg 0 % 256), 2, by refine ⟨?_, ?_, ?_, ?_, rfl, rfl, ?_⟩ <;> decide +kernel⟩,
   ⟨upOn cph (fun b => b), 0, ([5] : List Nat), (takeCphCmd (0) 3 (([5] : List Nat)) (upOn cph (fun b => b)).now), ((((takeCphCmd (0) 3 (([5] : List Nat)) (upOn cph (fun b => b)).now)).cphCmd (0)).arg 0 % 256), ({ owner := 0, sq := 4096, cq := 8192, log2 := 4 } : CphQueue), by refine ⟨?_, ?_, ?_, ?_, rfl, rfl, ?_⟩ <;> decide +kernel⟩,
   ⟨upOn cph (fun b => b), 0, ([0, 8] : List Nat), (takeCphCmd (0) 4 (([0, 8] : List Nat)) (upOn cph (fun b => b)).now), ((((takeCphCmd (0) 4 (([0, 8] : List Nat)) (upOn cph (fun b => b)).now)).cphCmd (0)).arg 1), by refine ⟨?_, ?_, ?_, ?_, rfl, rfl, ?_⟩ <;> decide +kernel⟩,
   ⟨upOn cph (fun b => b), 0, ([0, 16] : List Nat), (takeCphCmd (0) 4 (([0, 16] : List Nat)) (upOn cph (fun b => b)).now), ((((takeCphCmd (0) 4 (([0, 16] : List Nat)) (upOn cph (fun b => b)).now)).cphCmd (0)).arg 1), by refine ⟨?_, ?_, ?_, ?_, rfl, rfl, ?_⟩ <;> decide +kernel⟩,
   ⟨upOn cph (fun b => b), 0, ([31] : List Nat), (takeCphCmd (0) 5 (([31] : List Nat)) (upOn cph (fun b => b)).now), ((((takeCphCmd (0) 5 (([31] : List Nat)) (upOn cph (fun b => b)).now)).cphCmd (0)).arg 0), by refine ⟨?_, ?_, ?_, ?_, rfl, rfl, ?_⟩ <;> decide +kernel⟩,
   ⟨upOn cph (fun b => b), 0, ([41] : List Nat), (takeCphCmd (0) 5 (([41] : List Nat)) (upOn cph (fun b => b)).now), ((((takeCphCmd (0) 5 (([41] : List Nat)) (upOn cph (fun b => b)).now)).cphCmd (0)).arg 0), by refine ⟨?_, ?_, ?_, ?_, rfl, rfl, ?_⟩ <;> decide +kernel⟩,
   ⟨upOn cph (fun b => { b with cht.cur.regions := [{ region0 with keySlot := 40 }] }), 0, ([40] : List Nat), (takeCphCmd (0) 5 (([40] : List Nat)) (upOn cph (fun b => { b with cht.cur.regions := [{ region0 with keySlot := 40 }] })).now), ((((takeCphCmd (0) 5 (([40] : List Nat)) (upOn cph (fun b => { b with cht.cur.regions := [{ region0 with keySlot := 40 }] })).now)).cphCmd (0)).arg 0), by refine ⟨?_, ?_, ?_, ?_, rfl, rfl, ?_⟩ <;> decide +kernel⟩,
   ⟨upOn cph (fun b => b), 0, ([40] : List Nat), (takeCphCmd (0) 5 (([40] : List Nat)) (upOn cph (fun b => b)).now), ((((takeCphCmd (0) 5 (([40] : List Nat)) (upOn cph (fun b => b)).now)).cphCmd (0)).arg 0), by refine ⟨?_, ?_, ?_, ?_, rfl, rfl, ?_⟩ <;> decide +kernel⟩,
   ⟨upOn cph (fun b => b), 0, ([40] : List Nat), (takeCphCmd (0) 6 (([40] : List Nat)) (upOn cph (fun b => b)).now), ((((takeCphCmd (0) 6 (([40] : List Nat)) (upOn cph (fun b => b)).now)).cphCmd (0)).arg 0), by refine ⟨?_, ?_, ?_, ?_, rfl, rfl, ?_⟩ <;> decide +kernel⟩,
   ⟨upOn cph (fun b => { b with cph.cmd.state := 1 }), by decide +kernel⟩,
   ⟨upOn cph (fun b => b), by decide +kernel⟩,
   ⟨upOn cph (fun b => b), 40, by decide +kernel⟩,
   ⟨upOn cph (fun b => b), 31, by decide +kernel⟩,
   ⟨upOn cph (fun b => { b with cht.cur.regions := [{ region0 with keySlot := 40 }] }), 40, by decide +kernel⟩⟩

/-- States and operands that meet the hypotheses of the clauses of CipherDescriptorsAndPages. -/
theorem witness_CipherDescriptorsAndPages :
    (∃ s : State, ∃ n : Nat, ∃ q : Nat, ∃ x : CphQueue, (s.blk.aon = true) ∧ (s.now.ldTakes n = true) ∧ (s.now.cq q = some x) ∧ (x.owner = n)) ∧
    (∃ s : State, ∃ n : Nat, ∃ q : Nat, ∃ x : CphQueue, (s.blk.aon = true) ∧ (s.now.ldTakes n = true) ∧ (s.now.cq q = some x) ∧ (x.owner ≠ n)) ∧
    (∃ s : State, ∃ n : Nat, ∃ q : Nat, (s.blk.aon = true) ∧ (s.now.ldTakes n = true) ∧ (s.now.cq q = none)) ∧
    (∃ s : State, ∃ q : Nat, (s.blk.aon = true) ∧ (s.now.cq q = none)) ∧
    (∃ s : State, ∃ q : Nat, ∃ x : CphQueue, (s.blk.aon = true) ∧ (s.now.cq q = some x) ∧ (s.now.cphMoves x = false ∨ x.jobs = [])) ∧
    (∃ s : State, ∃ q : Nat, ∃ x : CphQueue, ∃ j : CphJob, ∃ rest : List CphJob, (s.blk.aon = true) ∧ (s.now.cq q = some x) ∧ (s.now.cphMoves x = true) ∧ (x.jobs = j :: rest) ∧ (j.status = none)) ∧
    (∃ s : State, ∃ q : Nat, ∃ x : CphQueue, ∃ j : CphJob, ∃ rest : List CphJob, ∃ st : Nat, (s.blk.aon = true) ∧ (s.now.cq q = some x) ∧ (s.now.cphMoves x = true) ∧ (x.jobs = j :: rest) ∧ (j.status = some st)) ∧
    (∃ s : State, ∃ h : Nat, (s.blk.aon = true) ∧ (SMap.get 0 s.now.cph.verifyDone h = 0)) ∧
    (∃ s : State, ∃ h : Nat, (s.blk.aon = true) ∧ (0 < SMap.get 0 s.now.cph.verifyDone h) ∧ (s.now.cph.queues = []) ∧ (s.now.cph.pages = [])) ∧
    (∃ s : State, ∃ n : Nat, (s.blk.aon = true) ∧ (s.now.ldTakes n = true) ∧ (s.now.cht.cur.cipher.pages = false ∨ (s.now.page n).state = .busy)) ∧
    (∃ s : State, ∃ n : Nat, (s.blk.aon = true) ∧ (s.now.ldTakes n = true) ∧ (s.now.cht.cur.cipher.pages = false ∨ (s.now.page n).state = .busy)) ∧
    (∃ s : State, ∃ n : Nat, (s.blk.aon = true) ∧ (s.now.ldTakes n = true) ∧ (s.now.cht.cur.cipher.pages = true) ∧ ((s.now.page n).state ≠ .busy) ∧ (s.now.inDusk = true)) ∧
    (∃ s : State, ∃ n : Nat, ∃ w : W64, ∃ len, ∃ aadLen, ∃ st : Nat, (s.blk.aon = true) ∧ (s.now.ldTakes n = true) ∧ (s.now.cht.cur.cipher.pages = true) ∧ ((s.now.page n).state ≠ .busy) ∧ (s.now.inDusk = false) ∧ (len = pageLimit 16384 (fieldOf w 31 17) (s.now.page n).length) ∧ (aadLen = pageLimit 4096 (fieldOf w 44 32) (s.now.page n).aadLen) ∧ (s.now.opCheck n (fieldOf w 3 1) (fieldOf w 16 4) len aadLen = some st)) ∧
    (∃ s : State, ∃ n : Nat, ∃ w : W64, ∃ len, ∃ aadLen, (s.blk.aon = true) ∧ (s.now.ldTakes n = true) ∧ (s.now.cht.cur.cipher.pages = true) ∧ ((s.now.page n).state ≠ .busy) ∧ (s.now.inDusk = false) ∧ (len = pageLimit 16384 (fieldOf w 31 17) (s.now.page n).length) ∧ (aadLen = pageLimit 4096 (fieldOf w 44 32) (s.now.page n).aadLen) ∧ (s.now.opCheck n (fieldOf w 3 1) (fieldOf w 16 4) len aadLen = none) ∧ (1 ≤ fieldOf w 3 1) ∧ (fieldOf w 3 1 ≤ 2)) ∧
    (∃ s : State, ∃ n : Nat, (s.blk.aon = true) ∧ ((s.now.page n).waitBuf = true)) ∧
    (∃ s : State, ∃ n : Nat, (s.blk.aon = true) ∧ ((s.now.page n).waitBuf = false) ∧ ((s.now.page n).state ≠ .busy)) ∧
    (∃ s : State, ∃ n : Nat, ∃ st : Nat, (s.blk.aon = true) ∧ ((s.now.page n).waitBuf = false) ∧ ((s.now.page n).holdsBuf = false) ∧ ((s.now.page n).state = .busy) ∧ ((s.now.page n).fail = some st)) ∧
    (∃ s : State, ∃ n : Nat, ∃ p, (s.blk.aon = true) ∧ (p = s.now.page n) ∧ (p.waitBuf = false) ∧ (p.state = .busy) ∧ (p.fail = none) ∧ (p.op = 1)) ∧
    (∃ s : State, ∃ q : Nat, (s.blk.aon = true) ∧ (s.now.cht.cur.faults = []) ∧ (userSlot q = true)) :=
  ⟨⟨upOn cph (fun b => b), 0, 5, ({ owner := 0, sq := 4096, cq := 8192, log2 := 4 } : CphQueue), by decide +kernel⟩,
   ⟨upOn cph (fun b => { b with cph.queues := [(5, { owner := 1 })] }), 0, 5, ({ owner := 1 } : CphQueue), by decide +kernel⟩,
   ⟨upOn cph (fun b => b), 0, 6, by decide +kernel⟩,
   ⟨upOn cph (fun b => b), 6, by decide +kernel⟩,
   ⟨upOn cph (fun b => b), 5, ({ owner := 0, sq := 4096, cq := 8192, log2 := 4 } : CphQueue), by decide +kernel⟩,
   ⟨upOn cph (fun b => { b with cph.queues := [(5, { owner := 0, sq := 4096, cq := 8192, log2 := 4, jobs := [{ index := 0 }] })] }), 5, ({ owner := 0, sq := 4096, cq := 8192, log2 := 4, jobs := [{ index := 0 }] } : CphQueue), ({ index := 0 } : CphJob), ([] : List CphJob), by decide +kernel⟩,
   ⟨upOn cph (fun b => { b with cph.queues := [(5, { owner := 0, sq := 4096, cq := 8192, log2 := 4, jobs := [{ index := 0, status := some 0, len := 64 }] })] }), 5, ({ owner := 0, sq := 4096, cq := 8192, log2 := 4, jobs := [{ index := 0, status := some 0, len := 64 }] } : CphQueue), ({ index := 0, status := some 0, len := 64 } : CphJob), ([] : List CphJob), 0, by decide +kernel⟩,
   ⟨upOn cph (fun b => b), 0, by decide +kernel⟩,
   ⟨upOn cph (fun b => { b with cph.queues := [], cph.verify := [(1, 2)], cph.verifyDone := [(1, 1)] }), 1, by decide +kernel⟩,
   ⟨upOn cph (fun b => { b with cph.pages := [(0, { state := .busy })] }), 0, by decide +kernel⟩,
   ⟨upOn cph (fun b => { b with cht.cur.cipher.pages := false }), 0, by decide +kernel⟩,
   ⟨upOn cph (fun b => { b with pers.dusk := some {} }), 0, by decide +kernel⟩,
   ⟨upOn cph (fun b => b), 0, (659 : W64), (pageLimit 16384 (fieldOf ((659 : W64)) 31 17) ((upOn cph (fun b => b)).now.page (0)).length), (pageLimit 4096 (fieldOf ((659 : W64)) 44 32) ((upOn cph (fun b => b)).now.page (0)).aadLen), 3, by refine ⟨?_, ?_, ?_, ?_, ?_, rfl, rfl, ?_⟩ <;> decide +kernel⟩,
   ⟨upOn cph (fun b => b), 0, (2097795 : W64), (pageLimit 16384 (fieldOf ((2097795 : W64)) 31 17) ((upOn cph (fun b => b)).now.page (0)).length), (pageLimit 4096 (fieldOf ((2097795 : W64)) 44 32) ((upOn cph (fun b => b)).now.page (0)).aadLen), by refine ⟨?_, ?_, ?_, ?_, ?_, rfl, rfl, ?_⟩ <;> decide +kernel⟩,
   ⟨upOn cph (fun b => { b with cph.pages := [(0, { waitBuf := true, state := .busy })] }), 0, by decide +kernel⟩,
   ⟨upOn cph (fun b => b), 0, by decide +kernel⟩,
   ⟨upOn cph (fun b => { b with cph.pages := [(0, { state := .busy, fail := some 3 })] }), 0, 3, by decide +kernel⟩,
   ⟨upOn cph (fun b => { b with cph.pages := [(0, { state := .busy, op := 1, length := 16 })] }), 0, ((upOn cph (fun b => { b with cph.pages := [(0, { state := .busy, op := 1, length := 16 })] })).now.page (0)), by refine ⟨?_, rfl, ?_⟩ <;> decide +kernel⟩,
   ⟨upOn cph (fun b => b), 40, by decide +kernel⟩⟩

/-- States and operands that meet the hypotheses of the clauses of ManagementPathAnswers. -/
theorem witness_ManagementPathAnswers :
    (∃ s : State, ∃ x : Option Nat, (s.blk.aon = true) ∧ (x = none ∨ x = some (s.now.i3cStatic 0))) ∧
    (∃ s : State, ∃ x : Option Nat, (s.blk.aon = true) ∧ (x = none ∨ x = some (s.now.i3cStatic 0))) ∧
    (∃ s : State, ∃ x : Option Nat, (s.blk.aon = true) ∧ (x = none ∨ x = some (s.now.i3cStatic 1))) ∧
    (∃ s : State, ∃ x : Option Nat, (s.blk.aon = true) ∧ (x = none ∨ x = some (s.now.i3cStatic 1))) ∧
    (∃ s : State, ∃ p : Nat, ∃ x, (s.blk.aon = true) ∧ (x ≠ s.now.i3cStatic p)) ∧
    (∃ s : State, ∃ t : Nat, (s.blk.aon = true) ∧ (t < 2)) ∧
    (∃ s : State, ∃ t : Nat, ∃ x : List Byte, (s.blk.aon = true) ∧ (s.now.mtu t < x.length ∨ s.now.hasTransport t = false)) ∧
    (∃ s : State, ∃ t : Nat, ∃ x : List Byte, (s.blk.aon = true) ∧ (s.now.mtu t < x.length ∨ s.now.hasTransport t = false)) ∧
    (∃ s : State, ∃ t : Nat, ∃ x : List Byte, (s.blk.aon = true) ∧ (s.now.hasTransport t = true) ∧ (x.length ≤ s.now.mtu t) ∧ (x.length ≤ 4096)) ∧
    (∃ s : State, ∃ t : Nat, ∃ x : List Byte, ∃ y : List Byte, (s.blk.aon = true) ∧ (s.now.hasTransport t = true) ∧ (x.length ≤ s.now.mtu t) ∧ (SMap.find? s.now.mgt.assembling t = some y) ∧ ((y ++ x).length ≤ 4096)) ∧
    (∃ s : State, ∃ t : Nat, ∃ x : List Byte, ∃ y : List Byte, (s.blk.aon = true) ∧ (s.now.hasTransport t = true) ∧ (x.length ≤ s.now.mtu t) ∧ (SMap.find? s.now.mgt.assembling t = some y)) ∧
    (∃ s : State, ∃ i : Nat, (s.blk.aon = true) ∧ (0 < i) ∧ (i < 255)) ∧
    (∃ s : State, ∃ i : Nat, (s.blk.aon = true) ∧ (i = 0 ∨ 255 ≤ i)) ∧
    (∃ s : State, ∃ i : Nat, (s.blk.aon = true) ∧ (i = 0 ∨ 255 ≤ i)) ∧
    (∃ s : State, ∃ n : Nat, (s.blk.aon = true) ∧ (64 ≤ n) ∧ (n ≤ 256)) ∧
    (∃ s : State, ∃ n : Nat, (s.blk.aon = true) ∧ (64 ≤ n) ∧ (n ≤ 256)) ∧
    (∃ s : State, ∃ n : Nat, (s.blk.aon = true) ∧ (n < 64 ∨ 256 < n)) ∧
    (∃ s : State, ∃ n : Nat, (s.blk.aon = true) ∧ (n < 64 ∨ 256 < n)) ∧
    (∃ s : State, ∃ a : Nat, (s.blk.aon = true) ∧ (a % 8 ≠ 0)) ∧
    (∃ s : State, ∃ a : Nat, ∃ n : Nat, (s.blk.aon = true) ∧ (a % 8 = 0) ∧ (n = 0 ∨ 32 < n ∨ regSpaceEnd < a + 8 * n)) ∧
    (∃ s : State, ∃ a, ∃ n : Nat, (s.blk.aon = true) ∧ (a % 8 = 0) ∧ (n = 0 ∨ 32 < n ∨ regSpaceEnd < a + 8 * n)) ∧
    (∃ s : State, ∃ a, ∃ n : Nat, (s.blk.aon = true) ∧ (a % 8 = 0) ∧ (0 < n) ∧ (n ≤ 32) ∧ (a + 8 * n ≤ regSpaceEnd)) ∧
    (∃ s : State, ∃ a : Nat, (s.blk.aon = true) ∧ (a % 8 ≠ 0)) ∧
    (∃ s : State, ∃ a : Nat, ∃ n : Nat, (s.blk.aon = true) ∧ (a % 8 = 0) ∧ (n ≠ 1 ∨ regSpaceEnd < a + 8)) ∧
    (∃ s : State, ∃ a, ∃ n : Nat, (s.blk.aon = true) ∧ (a % 8 = 0) ∧ (n ≠ 1 ∨ regSpaceEnd < a + 8)) ∧
    (∃ s : State, ∃ a : Nat, (s.blk.aon = true) ∧ (a % 8 = 0) ∧ (a + 8 ≤ regSpaceEnd) ∧ ((regAt s.now a).isNone = true)) ∧
    (∃ s : State, ∃ t : Nat, ∃ u : Option Nat, ∃ a : Nat, ∃ w : W64, (s.blk.aon = true) ∧ (a % 8 = 0) ∧ (a + 8 ≤ regSpaceEnd) ∧ ((regAt s.now a).isSome = true) ∧ (s.now.mayWrite (writeClass a) a w (s.now.ownerSession t u) = false)) ∧
    (∃ s : State, ∃ t : Nat, ∃ u : Option Nat, ∃ a : Nat, ∃ w : W64, (s.blk.aon = true) ∧ (a % 8 = 0) ∧ (a + 8 ≤ regSpaceEnd) ∧ ((regAt s.now a).isSome = true) ∧ (s.now.mayWrite (writeClass a) a w (s.now.ownerSession t u) = true) ∧ (s.now.cmdBusy a w = false)) ∧
    (∃ s : State, ∃ t : Nat, ∃ u : Option Nat, ∃ a, ∃ w : W64, (s.blk.aon = true) ∧ (a % 8 = 0) ∧ (a + 8 ≤ regSpaceEnd) ∧ ((regAt s.now a).isSome = true) ∧ (s.now.mayWrite (writeClass a) a w (s.now.ownerSession t u) = true) ∧ (s.now.cmdBusy a w = true) ∧ (s.now.regInReset a = false)) ∧
    (∃ s : State, ∃ n : Nat, (s.blk.aon = true) ∧ (n = 0 ∨ 16 < n)) ∧
    (∃ s : State, ∃ n : Nat, (s.blk.aon = true) ∧ (n = 0 ∨ 16 < n)) ∧
    (∃ s : State, ∃ n : Nat, (s.blk.aon = true) ∧ (0 < n) ∧ (n ≤ 16)) ∧
    (∃ s : State, ∃ a : Nat, (s.blk.aon = true) ∧ (530 < a)) ∧
    (∃ s : State, ∃ a : Nat, (s.blk.aon = true) ∧ (a ≤ 530) ∧ (s.now.alm.storing.isSome = true)) ∧
    (∃ s : State, ∃ a : Nat, (s.blk.aon = true) ∧ (a < 512) ∧ (s.now.alm.storing = none)) ∧
    (∃ s : State, ∃ a : Nat, (s.blk.aon = true) ∧ (512 ≤ a) ∧ (a ≤ 530) ∧ (s.now.alm.storing = none)) ∧
    (∃ s : State, ∃ a : Nat, (s.blk.aon = true) ∧ (512 ≤ a) ∧ (a ≤ 530) ∧ (s.now.alm.storing = none)) ∧
    (∃ s : State, ∃ c : Nat, (s.blk.aon = true) ∧ (c = 0 ∨ 6 < c)) ∧
    (∃ s : State, ∃ c : Nat, (s.blk.aon = true) ∧ (c = 0 ∨ 6 < c)) ∧
    (∃ s : State, ∃ t : Nat, ∃ u : Option Nat, (s.blk.aon = true) ∧ (s.now.ownerSession t u = false)) ∧
    (∃ s : State, ∃ t : Nat, ∃ u, ∃ hdr : List Byte, ∃ key : List Byte, (s.blk.aon = true) ∧ (s.now.ownerSession t u = true) ∧ (hdr.length = 64) ∧ (key.length = (if uAt hdr 8 1 = 1 then 64 else 32)) ∧ (s.now.cph.kek.isSome = true)) ∧
    (∃ s : State, ∃ t : Nat, ∃ u, ∃ hdr : List Byte, ∃ f, (s.blk.aon = true) ∧ (s.now.ownerSession t u = true) ∧ (hdr.length = 64) ∧ (f = drawFree s.now) ∧ (s.now.cph.kek.isSome = true)) ∧
    (∃ s : State, ∃ i : Nat, (s.blk.aon = true) ∧ (sensorIds.contains i = false)) ∧
    (∃ s : State, ∃ i : Nat, ∃ v : Int, (s.blk.aon = true) ∧ (sensorIds.contains i = true) ∧ (s.now.sensorValue i = some v)) ∧
    (∃ s : State, ∃ i : Nat, (s.blk.aon = true) ∧ (sensorIds.length < i)) ∧
    (∃ s : State, ∃ i : Nat, (s.blk.aon = true) ∧ (i ≤ sensorIds.length)) ∧
    (∃ s : State, ∃ a : Nat, (s.blk.aon = true) ∧ (0 < a) ∧ (a < 255)) :=
  ⟨⟨upOn svc (fun b => b), (none : Option Nat), by decide +kernel⟩,
   ⟨upOn svc (fun b => b), (some 0x30 : Option Nat), by decide +kernel⟩,
   ⟨upOn svc (fun b => b), (none : Option Nat), by decide +kernel⟩,
   ⟨upOn svc (fun b => b), (some 0x34 : Option Nat), by decide +kernel⟩,
   ⟨upOn svc (fun b => b), 0, 0x31, by decide +kernel⟩,
   ⟨upOn svc (fun b => b), 1, by decide +kernel⟩,
   ⟨upOn svc (fun b => b), 1, (List.replicate 65 (1 : Byte) : List Byte), by decide +kernel⟩,
   ⟨upOn svc (fun b => b), 9, ([1] : List Byte), by decide +kernel⟩,
   ⟨upOn svc (fun b => b), 1, (List.replicate 64 (1 : Byte) : List Byte), by decide +kernel⟩,
   ⟨upOn svc (fun b => { b with mgt.assembling := [(1, [3])] }), 1, ([1] : List Byte), ([3] : List Byte), by decide +kernel⟩,
   ⟨upOn svc (fun b => { b with mgt.assembling := [(1, [3])] }), 1, ([1] : List Byte), ([3] : List Byte), by decide +kernel⟩,
   ⟨upOn svc (fun b => b), 254, by decide +kernel⟩,
   ⟨upOn svc (fun b => b), 255, by decide +kernel⟩,
   ⟨upOn svc (fun b => b), 0, by decide +kernel⟩,
   ⟨upOn svc (fun b => b), 64, by decide +kernel⟩,
   ⟨upOn svc (fun b => b), 256, by decide +kernel⟩,
   ⟨upOn svc (fun b => b), 63, by decide +kernel⟩,
   ⟨upOn svc (fun b => b), 257, by decide +kernel⟩,
   ⟨upOn svc (fun b => b), 4, by decide +kernel⟩,
   ⟨upOn svc (fun b => b), 8, 33, by decide +kernel⟩,
   ⟨upOn svc (fun b => b), regSpaceEnd, 1, by decide +kernel⟩,
   ⟨upOn svc (fun b => b), (regSpaceEnd - 8 * 32), 32, by decide +kernel⟩,
   ⟨upOn svc (fun b => b), 12, by decide +kernel⟩,
   ⟨upOn svc (fun b => b), 16, 2, by decide +kernel⟩,
   ⟨upOn svc (fun b => b), regSpaceEnd, 1, by decide +kernel⟩,
   ⟨upOn svc (fun b => b), 65528, by decide +kernel⟩,
   ⟨upOn svc (fun b => { b with ident.lc := .sealedState }), 0, (none : Option Nat), 786440, (1 : W64), by decide +kernel⟩,
   ⟨upOn svc (fun b => b), 0, (none : Option Nat), 16, (1 : W64), by decide +kernel⟩,
   ⟨upOn svc (fun b => { b with ident.state := .busy }), 0, (none : Option Nat), 0xB0100, (4 : W64), by decide +kernel⟩,
   ⟨upOn svc (fun b => b), 17, by decide +kernel⟩,
   ⟨upOn svc (fun b => b), 0, by decide +kernel⟩,
   ⟨upOn svc (fun b => { b with logbook.recs := [(0, { seq := 4, type := 5 })] }), 16, by decide +kernel⟩,
   ⟨upOn svc (fun b => b), 531, by decide +kernel⟩,
   ⟨upOn svc (fun b => { b with alm.storing := some 0 }), 530, by decide +kernel⟩,
   ⟨upOn svc (fun b => b), 511, by decide +kernel⟩,
   ⟨upOn svc (fun b => b), 512, by decide +kernel⟩,
   ⟨upOn svc (fun b => b), 530, by decide +kernel⟩,
   ⟨upOn svc (fun b => b), 0, by decide +kernel⟩,
   ⟨upOn svc (fun b => b), 7, by decide +kernel⟩,
   ⟨upOn svc (fun b => b), 0, (none : Option Nat), by decide +kernel⟩,
   ⟨upOn svc (fun b => { b with ident.sessions := [{ id := 3, transport := 0, owner := true, established := true, updates := 0 }], cph.kek := some [1] }), 0, some 3, (List.replicate 64 (0 : Byte) : List Byte), (List.replicate 32 (1 : Byte) : List Byte), by decide +kernel⟩,
   ⟨upOn svc (fun b => { b with ident.sessions := [{ id := 3, transport := 0, owner := true, established := true, updates := 0 }], cph.kek := some [1] }), 0, some 3, (List.replicate 64 (0 : Byte) : List Byte), (drawFree (upOn svc (fun b => { b with ident.sessions := [{ id := 3, transport := 0, owner := true, established := true, updates := 0 }], cph.kek := some [1] })).now), by refine ⟨?_, ?_, ?_, rfl, ?_⟩ <;> decide +kernel⟩,
   ⟨upOn svc (fun b => b), 0, by decide +kernel⟩,
   ⟨upOn svc (fun b => b), 65, (0 : Int), by decide +kernel⟩,
   ⟨upOn svc (fun b => b), 45, by decide +kernel⟩,
   ⟨upOn svc (fun b => b), 44, by decide +kernel⟩,
   ⟨upOn svc (fun b => b), 254, by decide +kernel⟩⟩

/-- States and operands that meet the hypotheses of the clauses of FirmwareUpdateCommands. -/
theorem witness_FirmwareUpdateCommands :
    (∃ s : State, (s.blk.aon = true) ∧ (s.now.mgt.update ≠ .idle)) ∧
    (∃ s : State, ∃ t : Nat, ∃ u : Option Nat, ∃ f, (s.blk.aon = true) ∧ (s.now.mgt.update = .idle) ∧ (s.now.mayUpdate t u = false ∨ f = false ∨ s.now.inDusk = true)) ∧
    (∃ s : State, ∃ t : Nat, ∃ u : Option Nat, ∃ f, (s.blk.aon = true) ∧ (s.now.mgt.update = .idle) ∧ (s.now.mayUpdate t u = true) ∧ (f = true) ∧ (s.now.inDusk = false)) ∧
    (∃ s : State, ∃ t : Nat, ∃ u : Option Nat, ∃ f, (s.blk.aon = true) ∧ (s.now.mgt.update = .idle) ∧ (s.now.mayUpdate t u = true) ∧ (f = true) ∧ (s.now.inDusk = false)) ∧
    (∃ s : State, (s.blk.aon = true) ∧ (s.now.mgt.update = .idle)) ∧
    (∃ s : State, (s.blk.aon = true) ∧ (s.now.mgt.update = .idle)) ∧
    (∃ s : State, ∃ t : Nat, ∃ u : Option Nat, (s.blk.aon = true) ∧ (s.now.mgt.update = .requested) ∧ (s.now.mayUpdate t u = true)) ∧
    (∃ s : State, ∃ t : Nat, ∃ u : Option Nat, ∃ n : Nat, ∃ f, (s.blk.aon = true) ∧ (s.now.mgt.update = .table) ∧ (s.now.mayUpdate t u = true) ∧ (f = false ∨ n = 0 ∨ 2 ^ 23 < n)) ∧
    (∃ s : State, ∃ t : Nat, ∃ u : Option Nat, ∃ n : Nat, ∃ f, (s.blk.aon = true) ∧ (s.now.mgt.update = .table) ∧ (s.now.mayUpdate t u = true) ∧ (f = true) ∧ (0 < n) ∧ (n ≤ 2 ^ 23)) ∧
    (∃ s : State, ∃ x : List Byte, (s.blk.aon = true) ∧ (s.now.mgt.update ≠ .receiving ∨ s.now.inDusk = true ∨ x.length ≠ Nat.min 4096 (s.now.mgt.updateSize - s.now.mgt.updateGot) ∨ x = [])) ∧
    (∃ s : State, ∃ x : List Byte, (s.blk.aon = true) ∧ (s.now.mgt.update = .receiving) ∧ (s.now.inDusk = false) ∧ (x.length = Nat.min 4096 (s.now.mgt.updateSize - s.now.mgt.updateGot)) ∧ (x ≠ []) ∧ (s.now.efl.cur ≠ some (.firmware s.now.targetBank)) ∧ (s.now.efl.jobs.contains (.firmware s.now.targetBank) = false)) ∧
    (∃ s : State, (s.blk.aon = true) ∧ (s.now.mgt.update ≠ .verifying)) ∧
    (∃ s : State, (s.blk.aon = true) ∧ (s.now.mgt.update = .verifying)) ∧
    (∃ s : State, ∃ t : Nat, ∃ u : Option Nat, (s.blk.aon = true) ∧ (s.now.mgt.update ≠ .idle) ∧ (s.now.mgt.update ≠ .ready ∨ s.now.mayUpdate t u = false ∨ s.now.inDusk = true)) ∧
    (∃ s : State, ∃ t : Nat, ∃ u : Option Nat, ∃ b : Blk, (s.blk.aon = true) ∧ (s.now.mgt.update = .ready) ∧ (s.now.mayUpdate t u = true) ∧ (s.now.inDusk = false) ∧ (s.now.pwr.stage ≠ .twilight) ∧ (b = updateSay t 0x1A 0 (addJob .bootRecord (modMgt (fun m => { m with active := s.now.targetBank, trial := true, update := .idle, updateSize := 0, updateGot := 0 }) s.now))) ∧ ((s.now.mgt.running.map (fun (r : Running) => r.supDigest)) = some (((s.now.bank s.now.targetBank).drop 0x20).take 64))) ∧
    (∃ s : State, ∃ t : Nat, ∃ u : Option Nat, ∃ b : Blk, (s.blk.aon = true) ∧ (s.now.mgt.update = .ready) ∧ (s.now.mayUpdate t u = true) ∧ (s.now.inDusk = false) ∧ (s.now.pwr.stage ≠ .twilight) ∧ (b = updateSay t 0x1A 0 (addJob .bootRecord (modMgt (fun m => { m with active := s.now.targetBank, trial := true, update := .idle, updateSize := 0, updateGot := 0 }) s.now))) ∧ ((s.now.mgt.running.map (fun (r : Running) => r.supDigest)) ≠ some (((s.now.bank s.now.targetBank).drop 0x20).take 64))) ∧
    (∃ s : State, ∃ t : Nat, ∃ u : Option Nat, (s.blk.aon = true) ∧ (s.now.mgt.update = .ready) ∧ (s.now.mayUpdate t u = true) ∧ (s.now.inDusk = false) ∧ (s.now.pwr.stage = .twilight)) ∧
    (∃ s : State, ∃ t : Nat, ∃ u : Option Nat, (s.blk.aon = true) ∧ (s.now.mgt.update ≠ .idle) ∧ (s.now.mayUpdate t u = false)) ∧
    (∃ s : State, ∃ t : Nat, ∃ u : Option Nat, (s.blk.aon = true) ∧ (s.now.mgt.update ≠ .idle) ∧ (s.now.mayUpdate t u = true)) ∧
    (∃ s : State, (s.blk.aon = true) ∧ (s.now.mgt.update ≠ .idle)) :=
  ⟨⟨upOn svc (fun b => { b with mgt.update := .ready }), by decide +kernel⟩,
   ⟨upOn svc (fun b => b), 0, (none : Option Nat), false, by decide +kernel⟩,
   ⟨upOn svc (fun b => b), 0, (none : Option Nat), true, by refine ⟨?_, ?_, ?_, rfl, ?_⟩ <;> decide +kernel⟩,
   ⟨upOn svc (fun b => { b with mgt.pendingReset := true, mgt.running := some { bank := 1 } }), 0, (none : Option Nat), true, by refine ⟨?_, ?_, ?_, rfl, ?_⟩ <;> decide +kernel⟩,
   ⟨upOn svc (fun b => b), by decide +kernel⟩,
   ⟨upOn svc (fun b => b), by decide +kernel⟩,
   ⟨upOn svc (fun b => { b with mgt.update := .requested }), 0, (none : Option Nat), by decide +kernel⟩,
   ⟨upOn svc (fun b => { b with mgt.update := .table }), 0, (none : Option Nat), 8388609, true, by decide +kernel⟩,
   ⟨upOn svc (fun b => { b with mgt.update := .table }), 0, (none : Option Nat), 8388608, true, by refine ⟨?_, ?_, ?_, rfl, ?_⟩ <;> decide +kernel⟩,
   ⟨upOn svc (fun b => { b with mgt.update := .receiving, mgt.updateSize := 3, mgt.updateGot := 1 }), ([1] : List Byte), by decide +kernel⟩,
   ⟨upOn svc (fun b => { b with mgt.update := .receiving, mgt.updateSize := 3, mgt.updateGot := 1 }), ([1, 2] : List Byte), by decide +kernel⟩,
   ⟨upOn svc (fun b => b), by decide +kernel⟩,
   ⟨upOn svc (fun b => { b with mgt.update := .verifying }), by decide +kernel⟩,
   ⟨upOn svc (fun b => { b with mgt.update := .verifying }), 0, (none : Option Nat), by decide +kernel⟩,
   ⟨upOn svc (fun b => { b with mgt.update := .ready, mgt.running := some {} }), 0, (none : Option Nat), (updateSay (0) 0x1A 0 (addJob .bootRecord (modMgt (fun m => { m with active := (upOn svc (fun b => { b with mgt.update := .ready, mgt.running := some {} })).now.targetBank, trial := true, update := .idle, updateSize := 0, updateGot := 0 }) (upOn svc (fun b => { b with mgt.update := .ready, mgt.running := some {} })).now))), by refine ⟨?_, ?_, ?_, ?_, ?_, rfl, ?_⟩ <;> decide +kernel⟩,
   ⟨upOn svc (fun b => { b with mgt.update := .ready }), 0, (none : Option Nat), (updateSay (0) 0x1A 0 (addJob .bootRecord (modMgt (fun m => { m with active := (upOn svc (fun b => { b with mgt.update := .ready })).now.targetBank, trial := true, update := .idle, updateSize := 0, updateGot := 0 }) (upOn svc (fun b => { b with mgt.update := .ready })).now))), by refine ⟨?_, ?_, ?_, ?_, ?_, rfl, ?_⟩ <;> decide +kernel⟩,
   ⟨upOn svc (fun b => { b with mgt.update := .ready, pwr.stage := .twilight }), 0, (none : Option Nat), by decide +kernel⟩,
   ⟨upOn svc (fun b => { b with mgt.update := .ready, ident.lc := .sealedState }), 0, (none : Option Nat), by decide +kernel⟩,
   ⟨upOn svc (fun b => { b with mgt.update := .receiving }), 0, (none : Option Nat), by decide +kernel⟩,
   ⟨upOn svc (fun b => { b with mgt.update := .receiving }), by decide +kernel⟩⟩

/-- States and operands that meet the hypotheses of the clauses of ThermalMonitor. -/
theorem witness_ThermalMonitor :
    (∃ s : State, (s.blk.aon = true) ∧ (s.now.pwr.sysRst = true)) ∧
    (∃ s : State, (s.blk.aon = true) ∧ (s.now.pwr.sysRst = true)) ∧
    (∃ s : State, ∃ n : Nat, ∃ v : Int, ∃ k, (s.blk.aon = true) ∧ (s.now.pwr.sysRst = false) ∧ (n < 32) ∧ (s.now.unpowered n = false) ∧ ((s.now.sensor n).cause = 0) ∧ (k = (if 0 < (s.now.sensor n).same ∧ (s.now.sensor n).raw = v then (s.now.sensor n).same + 1 else 1)) ∧ (sampleCause (s.now.sensor n) v k = 0)) ∧
    (∃ s : State, ∃ n : Nat, ∃ v : Int, ∃ k, (s.blk.aon = true) ∧ (s.now.pwr.sysRst = false) ∧ (n < 32) ∧ (s.now.unpowered n = false) ∧ ((s.now.sensor n).cause = 0) ∧ (k = (if 0 < (s.now.sensor n).same ∧ (s.now.sensor n).raw = v then (s.now.sensor n).same + 1 else 1)) ∧ (sampleCause (s.now.sensor n) v k ≠ 0)) ∧
    (∃ s : State, ∃ n : Nat, ∃ v : Int, ∃ k, (s.blk.aon = true) ∧ (s.now.pwr.sysRst = false) ∧ (n < 32) ∧ (s.now.unpowered n = false) ∧ ((s.now.sensor n).cause = 0) ∧ (k = (if 0 < (s.now.sensor n).same ∧ (s.now.sensor n).raw = v then (s.now.sensor n).same + 1 else 1)) ∧ (sampleCause (s.now.sensor n) v k ≠ 0)) ∧
    (∃ s : State, (s.blk.aon = true) ∧ (s.now.therm.frozen = true)) ∧
    (∃ s : State, (s.blk.aon = true) ∧ (s.now.therm.frozen = false) ∧ (s.now.pwr.sysRst = false)) ∧
    (∃ s : State, ∃ n : Nat, ∃ v : Int, (s.blk.aon = true) ∧ (n < 32) ∧ (s.now.unpowered n = false) ∧ ((s.now.sensor n).cause = 0) ∧ (((s.now.cht.cur.thermal.shutdownC + 8 : Nat) : Int) * 16 ≤ v)) ∧
    (∃ s : State, ∃ n : Nat, ∃ v : Int, (s.blk.aon = true) ∧ (32 ≤ n ∨ s.now.unpowered n = true ∨ (s.now.sensor n).cause ≠ 0 ∨ v < ((s.now.cht.cur.thermal.shutdownC + 8 : Nat) : Int) * 16)) :=
  ⟨⟨upOn svc (fun b => { b with pwr.sysRst := true }), by decide +kernel⟩,
   ⟨upOn svc (fun b => { b with pwr.sysRst := true }), by decide +kernel⟩,
   ⟨upOn svc (fun b => { b with therm.sensors := [(5, { reading := some 800, raw := 800, same := 1022 })] }), 5, (800 : Int), ((if 0 < ((upOn svc (fun b => { b with therm.sensors := [(5, { reading := some 800, raw := 800, same := 1022 })] })).now.sensor (5)).same ∧ ((upOn svc (fun b => { b with therm.sensors := [(5, { reading := some 800, raw := 800, same := 1022 })] })).now.sensor (5)).raw = ((800 : Int)) then ((upOn svc (fun b => { b with therm.sensors := [(5, { reading := some 800, raw := 800, same := 1022 })] })).now.sensor (5)).same + 1 else 1)), by refine ⟨?_, ?_, ?_, ?_, ?_, rfl, ?_⟩ <;> decide +kernel⟩,
   ⟨upOn svc (fun b => { b with therm.sensors := [(5, { reading := some 800, raw := 800, same := 1023 })] }), 5, (800 : Int), ((if 0 < ((upOn svc (fun b => { b with therm.sensors := [(5, { reading := some 800, raw := 800, same := 1023 })] })).now.sensor (5)).same ∧ ((upOn svc (fun b => { b with therm.sensors := [(5, { reading := some 800, raw := 800, same := 1023 })] })).now.sensor (5)).raw = ((800 : Int)) then ((upOn svc (fun b => { b with therm.sensors := [(5, { reading := some 800, raw := 800, same := 1023 })] })).now.sensor (5)).same + 1 else 1)), by refine ⟨?_, ?_, ?_, ?_, ?_, rfl, ?_⟩ <;> decide +kernel⟩,
   ⟨upOn svc (fun b => { b with therm.sensors := [(5, { reading := some 800, raw := 800, same := 3 })] }), 5, (1121 : Int), ((if 0 < ((upOn svc (fun b => { b with therm.sensors := [(5, { reading := some 800, raw := 800, same := 3 })] })).now.sensor (5)).same ∧ ((upOn svc (fun b => { b with therm.sensors := [(5, { reading := some 800, raw := 800, same := 3 })] })).now.sensor (5)).raw = ((1121 : Int)) then ((upOn svc (fun b => { b with therm.sensors := [(5, { reading := some 800, raw := 800, same := 3 })] })).now.sensor (5)).same + 1 else 1)), by refine ⟨?_, ?_, ?_, ?_, ?_, rfl, ?_⟩ <;> decide +kernel⟩,
   ⟨upOn svc (fun b => { b with therm.frozen := true }), by decide +kernel⟩,
   ⟨upOn svc (fun b => b), by decide +kernel⟩,
   ⟨upOn svc (fun b => b), 5, (1968 : Int), by decide +kernel⟩,
   ⟨upOn svc (fun b => b), 5, (1967 : Int), by decide +kernel⟩⟩

/-- States and operands that meet the hypotheses of the clauses of FaultCollectorLogbookAndAlmanac. -/
theorem witness_FaultCollectorLogbookAndAlmanac :
    (∃ s : State, ∃ p : Nat, (s.blk.aon = true) ∧ (90 < p ∨ s.now.flt.status.getLsbD p = true)) ∧
    (∃ s : State, ∃ p : Nat, (s.blk.aon = true) ∧ (90 < p ∨ s.now.flt.status.getLsbD p = true)) ∧
    (∃ s : State, ∃ p : Nat, (s.blk.aon = true) ∧ (p ≤ 90) ∧ (s.now.flt.status.getLsbD p = false) ∧ (s.now.cht.cur.faults = [])) ∧
    (∃ s : State, ∃ p : Nat, (s.blk.aon = true) ∧ (p ≤ 90) ∧ (s.now.flt.status.getLsbD p = false) ∧ (s.now.cht.cur.faults = [])) ∧
    (∃ s : State, (s.blk.aon = true) ∧ (s.now.pwr.sysRst = false) ∧ (s.now.cht.cur.faults = [])) ∧
    (∃ s : State, (s.blk.aon = true) ∧ (s.now.pwr.sysRst = false) ∧ (s.now.pinsHigh = [])) ∧
    (∃ s : State, (s.blk.aon = true) ∧ (s.now.pwr.sysRst = false)) ∧
    (∃ s : State, ∃ m : Nat, ∃ i : Nat, (s.blk.aon = true) ∧ (s.now.alm.frozen = true) ∧ (s.now.alm.recs.any (fun e => e.2.metric = m ∧ e.2.inst = i) = true)) ∧
    (∃ s : State, ∃ m : Nat, ∃ i : Nat, ∃ k : Nat, ∃ r : AlmRec, (s.blk.aon = true) ∧ (s.now.alm.frozen = false) ∧ (SMap.find? s.now.alm.recs k = some r) ∧ (r.metric = m) ∧ (r.inst = i)) ∧
    (∃ s : State, ∃ k : Nat, (s.blk.aon = true) ∧ (SMap.find? s.now.alm.recs k = none)) ∧
    (∃ s : State, ∃ k : Nat, ∃ r : AlmRec, (s.blk.aon = true) ∧ (SMap.find? s.now.alm.recs k = some r) ∧ (r.rate = false)) ∧
    (∃ s : State, ∃ k : Nat, ∃ r : AlmRec, (s.blk.aon = true) ∧ (SMap.find? s.now.alm.recs k = some r) ∧ (s.now.epoch < s.now.intervalEnd k r)) ∧
    (∃ s : State, ∃ k : Nat, ∃ r : AlmRec, (s.blk.aon = true) ∧ (SMap.find? s.now.alm.recs k = some r) ∧ (r.rate = true) ∧ (s.now.intervalEnd k r ≤ s.now.epoch)) ∧
    (∃ s : State, (s.blk.aon = true) ∧ (s.now.inDusk = true)) ∧
    (∃ s : State, (s.blk.aon = true) ∧ (s.now.inDusk = false) ∧ (s.now.alm.frozen = true)) ∧
    (∃ s : State, (s.blk.aon = true) ∧ (s.now.inDusk = false) ∧ (s.now.alm.frozen = false) ∧ (s.now.alm.storing = none)) ∧
    (∃ s : State, (s.blk.aon = true) ∧ (s.now.alm.frozen = false)) ∧
    (∃ s : State, (s.blk.aon = true) ∧ (s.now.alm.frozen = true)) ∧
    (∃ s : State, (s.blk.aon = true) ∧ (s.now.pwr.sysRst = false)) ∧
    (∃ s : State, (s.blk.aon = true) ∧ (s.now.pwr.sysRst = false) ∧ (s.now.alm.hourlyDue = false)) ∧
    (∃ s : State, (s.blk.aon = true) ∧ (s.now.pwr.sysRst = false) ∧ (s.now.alm.storing.isSome = true)) ∧
    (∃ s : State, (s.blk.aon = true) ∧ (s.now.pwr.sysRst = false) ∧ (s.now.alm.storing = none)) ∧
    (∃ s : State, (s.blk.aon = true) ∧ (s.now.pwr.sysRst = false) ∧ (s.now.alm.frozen = true)) ∧
    (∃ s : State, (s.blk.aon = true) ∧ (s.now.pwr.sysRst = false) ∧ (s.now.alm.frozen = false)) :=
  ⟨⟨upOn svc (fun b => b), 91, by decide +kernel⟩,
   ⟨upOn svc (fun b => { b with flt.status := 2 }), 1, by decide +kernel⟩,
   ⟨upOn svc (fun b => b), 90, by decide +kernel⟩,
   ⟨upOn svc (fun b => { b with flt.status := 2, flt.firstValid := true, flt.firstPin := 1 }), 3, by decide +kernel⟩,
   ⟨upOn svc (fun b => { b with flt.status := 6 }), by decide +kernel⟩,
   ⟨upOn svc (fun b => { b with flt.status := 6 }), by decide +kernel⟩,
   ⟨upOn svc (fun b => { b with flt.firstValid := true }), by decide +kernel⟩,
   ⟨upOn svc (fun b => { b with alm.frozen := true, alm.recs := [(2, { metric := 3, inst := 1, seq := 6, width := 10 })] }), 3, 1, by decide +kernel⟩,
   ⟨upOn svc (fun b => { b with alm.recs := [(2, { metric := 3, inst := 1, seq := 6, width := 10 })] }), 3, 1, 2, ({ metric := 3, inst := 1, seq := 6, width := 10 } : AlmRec), by decide +kernel⟩,
   ⟨upOn svc (fun b => b), 9999, by decide +kernel⟩,
   ⟨upOn svc (fun b => { b with alm.recs := [(2, { metric := 3, inst := 1, seq := 6, width := 10 })] }), 2, ({ metric := 3, inst := 1, seq := 6, width := 10 } : AlmRec), by decide +kernel⟩,
   ⟨upOn svc (fun b => { b with alm.recs := [(2, { metric := 3, inst := 1, rate := true, seq := 6, current := 31, interval := 100 })] }), 2, ({ metric := 3, inst := 1, rate := true, seq := 6, current := 31, interval := 100 } : AlmRec), by decide +kernel⟩,
   ⟨upOn svc (fun b => { b with mer.count := 100000000, alm.recs := [(2, { metric := 3, inst := 1, rate := true, seq := 6, current := 31, interval := 100 })] }), 2, ({ metric := 3, inst := 1, rate := true, seq := 6, current := 31, interval := 100 } : AlmRec), by decide +kernel⟩,
   ⟨upOn svc (fun b => { b with pers.dusk := some {} }), by decide +kernel⟩,
   ⟨upOn svc (fun b => { b with alm.frozen := true }), by decide +kernel⟩,
   ⟨upOn svc (fun b => b), by decide +kernel⟩,
   ⟨upOn svc (fun b => b), by decide +kernel⟩,
   ⟨upOn svc (fun b => { b with alm.frozen := true, alm.hourlyDue := true }), by decide +kernel⟩,
   ⟨upOn svc (fun b => b), by decide +kernel⟩,
   ⟨upOn svc (fun b => { b with alm.frozen := true }), by decide +kernel⟩,
   ⟨upOn svc (fun b => { b with alm.storing := some 1 }), by decide +kernel⟩,
   ⟨upOn svc (fun b => b), by decide +kernel⟩,
   ⟨upOn svc (fun b => { b with alm.frozen := true }), by decide +kernel⟩,
   ⟨upOn svc (fun b => { b with alm.recs := [(2, { metric := 3, inst := 1, seq := 6, width := 10 })] }), by decide +kernel⟩⟩

/-- States and operands that meet the hypotheses of the clauses of EflashJobs. -/
theorem witness_EflashJobs :
    (∃ s : State, (s.blk.aon = true) ∧ (s.now.efl.cur = none)) ∧
    (∃ s : State, (s.blk.aon = true) ∧ (s.now.efl.cur = none)) ∧
    (∃ s : State, (s.blk.aon = true) ∧ (s.now.efl.cur = none)) ∧
    (∃ s : State, ∃ i : Nat, (s.blk.aon = true) ∧ (s.now.efl.cur = some (.erase i))) ∧
    (∃ s : State, (s.blk.aon = true) ∧ (s.now.inDusk = false) ∧ (s.now.efl.cur = some .bootRecord)) ∧
    (∃ s : State, ∃ r : LogRec, ∃ rest : List LogRec, (s.blk.aon = true) ∧ (s.now.inDusk = false) ∧ (s.now.efl.cur = some .logRecord) ∧ (s.now.efl.jobs = []) ∧ (s.now.logbook.buf = r :: rest) ∧ (s.now.logbook.headPos < 508)) ∧
    (∃ s : State, ∃ i : Nat, (s.blk.aon = true) ∧ (s.now.efl.cur = some (.erase i)) ∧ (i < 576) ∧ (s.now.mgt.update = .idle) ∧ (s.now.efl.redo.contains i = false) ∧ (s.now.efl.jobs = [])) ∧
    (∃ s : State, ∃ i : Nat, (s.blk.aon = true) ∧ (s.now.efl.cur = some (.erase i)) ∧ (i < 576) ∧ (s.now.mgt.update = .idle)) ∧
    (∃ s : State, ∃ j, (s.blk.aon = true) ∧ (s.now.efl.cur = some j) ∧ ((match j with | .erase _ => true | _ => false) = false)) ∧
    (∃ s : State, ∃ j, (s.blk.aon = true) ∧ (s.now.efl.cur = some j) ∧ ((match j with | .erase _ => true | _ => false) = false)) ∧
    (∃ s : State, ∃ i : Nat, (s.blk.aon = true) ∧ (s.now.efl.cur = some (.erase i))) ∧
    (∃ s : State, (s.blk.aon = true) ∧ (s.now.efl.susp = none ∨ s.now.inDusk = true)) ∧
    (∃ s : State, ∃ i : Nat, (s.blk.aon = true) ∧ (s.now.efl.susp = some i) ∧ (s.now.inDusk = false) ∧ (s.now.efl.cur = none)) :=
  ⟨⟨upOn svc (fun b => b), by decide +kernel⟩,
   ⟨upOn svc (fun b => b), by decide +kernel⟩,
   ⟨upOn svc (fun b => b), by decide +kernel⟩,
   ⟨upOn svc (fun b => { b with efl.cur := some (.erase 1) }), 1, by decide +kernel⟩,
   ⟨upOn svc (fun b => { b with efl.cur := some .bootRecord }), by decide +kernel⟩,
   ⟨upOn svc (fun b => { b with efl.cur := some .logRecord, logbook.buf := [{ seq := 4, type := 5 }], logbook.headPos := 507 }), ({ seq := 4, type := 5 } : LogRec), ([] : List LogRec), by decide +kernel⟩,
   ⟨upOn svc (fun b => { b with efl.cur := some (.erase 575), efl.begun := [575] }), 575, by decide +kernel⟩,
   ⟨upOn svc (fun b => { b with efl.cur := some (.erase 575), efl.begun := [575] }), 575, by decide +kernel⟩,
   ⟨upOn svc (fun b => { b with efl.cur := some .bootRecord }), EflJob.bootRecord, by decide +kernel⟩,
   ⟨upOn svc (fun b => { b with efl.cur := some .bootRecord }), EflJob.bootRecord, by decide +kernel⟩,
   ⟨upOn svc (fun b => { b with efl.cur := some (.erase 5) }), 5, by decide +kernel⟩,
   ⟨upOn svc (fun b => b), by decide +kernel⟩,
   ⟨upOn svc (fun b => { b with efl.susp := some 5 }), 5, by decide +kernel⟩⟩

/-- States and operands that meet the hypotheses of the clauses of EveryCommandAnswersAndLeavesTheQueue. -/
theorem witness_EveryCommandAnswersAndLeavesTheQueue :
    (∃ s : State, ∃ t : State, (s.queueWf = true) ∧ (step s = .next t)) :=
  ⟨queued [.psqOn, .psqOn] svc, ran (queued [.psqOn, .psqOn] svc), ⟨by decide +kernel, rfl⟩⟩

/-- States and operands that meet the hypotheses of the clauses of FusesOnlyRise. -/
theorem witness_FusesOnlyRise :
    (∃ o : Otp, ∃ s : State, ∃ t : State, (Otp.within o s.otp) ∧ (step s = .next t)) :=
  ⟨({ fwSvn := 1 } : Otp), queued [.commitSvn .whole] { svc with otp := { fwSvn := 1 } }, ran (queued [.commitSvn .whole] { svc with otp := { fwSvn := 1 } }), ⟨by unfold Otp.within; decide +kernel, rfl⟩⟩

/-- States and operands that meet the hypotheses of the clauses of LifeCycleNeverGoesBack. -/
theorem witness_LifeCycleNeverGoesBack :
    (∃ s : State, ∃ t : State, ∃ i : Nat, (step s = .next t) ∧ (s.otp.lc0.getLsbD i = true)) ∧
    (∃ s : State, ∃ t : State, ∃ i : Nat, (step s = .next t) ∧ (s.otp.lc1.getLsbD i = true)) ∧
    (∃ s : State, ∃ t : State, ∃ i : Nat, (step s = .next t) ∧ (s.otp.lc2.getLsbD i = true)) ∧
    (∃ s : State, ∃ t : State, ∃ i : Nat, (step s = .next t) ∧ (s.otp.fwSvn.getLsbD i = true)) ∧
    (∃ s : State, ∃ t : State, ∃ i : Nat, (step s = .next t) ∧ (s.otp.revoke.getLsbD i = true)) ∧
    (∃ s : State, ∃ t : State, ∃ i : Nat, (step s = .next t) ∧ (s.otp.returnBegun.getLsbD i = true)) ∧
    (∃ s : State, ∃ t : State, (step s = .next t)) :=
  ⟨⟨queued [.psqOn] ({ svc with otp := { svc.otp with lc0 := 1 } }), ran (queued [.psqOn] ({ svc with otp := { svc.otp with lc0 := 1 } })), 0, ⟨rfl, by decide +kernel⟩⟩,
   ⟨queued [.psqOn] ({ svc with otp := { svc.otp with lc1 := 4 } }), ran (queued [.psqOn] ({ svc with otp := { svc.otp with lc1 := 4 } })), 2, ⟨rfl, by decide +kernel⟩⟩,
   ⟨queued [.psqOn] ({ svc with otp := { svc.otp with lc2 := 2 } }), ran (queued [.psqOn] ({ svc with otp := { svc.otp with lc2 := 2 } })), 1, ⟨rfl, by decide +kernel⟩⟩,
   ⟨queued [.psqOn] ({ svc with otp := { svc.otp with fwSvn := 1 <<< 63 } }), ran (queued [.psqOn] ({ svc with otp := { svc.otp with fwSvn := 1 <<< 63 } })), 63, ⟨rfl, by decide +kernel⟩⟩,
   ⟨queued [.psqOn] ({ svc with otp := { svc.otp with revoke := 8 } }), ran (queued [.psqOn] ({ svc with otp := { svc.otp with revoke := 8 } })), 3, ⟨rfl, by decide +kernel⟩⟩,
   ⟨queued [.psqOn] ({ svc with otp := { svc.otp with returnBegun := 1 } }), ran (queued [.psqOn] ({ svc with otp := { svc.otp with returnBegun := 1 } })), 0, ⟨rfl, by decide +kernel⟩⟩,
   ⟨queued [.psqOn] svc, ran (queued [.psqOn] svc), rfl⟩⟩

/-- States and operands that meet the hypotheses of the clauses of NothingRunsWithoutAlwaysOnPower. -/
theorem witness_NothingRunsWithoutAlwaysOnPower :
    (∃ i : Instr, ∃ s : State, (s.blk.aon = false) ∧ (∀ straps, i ≠ .aonPowerUp straps)) :=
  ⟨Instr.psqOn, up (fun b => { b with aon := false }), ⟨by decide +kernel, fun _ => nofun⟩⟩

/-- States and operands that meet the hypotheses of the clauses of TheEnginesRestWhenIdle. -/
theorem witness_TheEnginesRestWhenIdle :
    (∃ b : Blk, (b.enginesIdle = true)) :=
  ⟨svc.now, by decide +kernel⟩

/-- States and operands that meet the hypotheses of the clauses of RegistersInAResetIgnoreWrites. -/
theorem witness_RegistersInAResetIgnoreWrites :
    (∃ s : State, ∃ b, (s.blk.aon = true) ∧ (s.now.pwr.sysRst = true) ∧ (b = countEvent 0x12 0 s.now)) ∧
    (∃ s : State, ∃ b, (s.blk.aon = true) ∧ (s.now.pwr.sysRst = true) ∧ (b = countEvent 0x12 0 s.now)) ∧
    (∃ s : State, ∃ b, (s.blk.aon = true) ∧ (s.now.pwr.sysRst = true) ∧ (b = countEvent 0x12 0 s.now)) ∧
    (∃ s : State, ∃ b, (s.blk.aon = true) ∧ (s.now.pwr.sysRst = true) ∧ (b = countEvent 0x12 0 s.now)) ∧
    (∃ s : State, ∃ b, (s.blk.aon = true) ∧ (s.now.pwr.sysRst = true) ∧ (b = countEvent 0x12 0 s.now)) ∧
    (∃ s : State, ∃ b, (s.blk.aon = true) ∧ (s.now.pwr.sysRst = true) ∧ (b = countEvent 0x12 0 s.now)) ∧
    (∃ s : State, ∃ b, ∃ c : Nat, (s.blk.aon = true) ∧ (s.now.pwr.sysRst = true) ∧ (b = countEvent 0x12 0 s.now) ∧ (c < 16)) ∧
    (∃ s : State, ∃ b, (s.blk.aon = true) ∧ (s.now.pwr.sysRst = true) ∧ (b = countEvent 0x12 0 s.now)) ∧
    (∃ s : State, ∃ b, (s.blk.aon = true) ∧ (s.now.pwr.sysRst = true) ∧ (b = countEvent 0x12 0 s.now) ∧ (s.now.alm.frozen = false)) ∧
    (∃ s : State, ∃ b, (s.blk.aon = true) ∧ (s.now.pwr.sysRst = true) ∧ (b = countEvent 0x12 0 s.now) ∧ (s.now.inDusk = false)) :=
  ⟨⟨upOn svc (fun b => { b with pwr.sysRst := true }), (countEvent 0x12 0 (upOn svc (fun b => { b with pwr.sysRst := true })).now), by refine ⟨?_, ?_, rfl⟩ <;> decide +kernel⟩,
   ⟨upOn svc (fun b => { b with pwr.sysRst := true }), (countEvent 0x12 0 (upOn svc (fun b => { b with pwr.sysRst := true })).now), by refine ⟨?_, ?_, rfl⟩ <;> decide +kernel⟩,
   ⟨upOn svc (fun b => { b with pwr.sysRst := true }), (countEvent 0x12 0 (upOn svc (fun b => { b with pwr.sysRst := true })).now), by refine ⟨?_, ?_, rfl⟩ <;> decide +kernel⟩,
   ⟨upOn svc (fun b => { b with pwr.sysRst := true }), (countEvent 0x12 0 (upOn svc (fun b => { b with pwr.sysRst := true })).now), by refine ⟨?_, ?_, rfl⟩ <;> decide +kernel⟩,
   ⟨upOn svc (fun b => { b with pwr.sysRst := true }), (countEvent 0x12 0 (upOn svc (fun b => { b with pwr.sysRst := true })).now), by refine ⟨?_, ?_, rfl⟩ <;> decide +kernel⟩,
   ⟨upOn svc (fun b => { b with pwr.sysRst := true }), (countEvent 0x12 0 (upOn svc (fun b => { b with pwr.sysRst := true })).now), by refine ⟨?_, ?_, rfl⟩ <;> decide +kernel⟩,
   ⟨upOn svc (fun b => { b with pwr.sysRst := true }), (countEvent 0x12 0 (upOn svc (fun b => { b with pwr.sysRst := true })).now), 15, by refine ⟨?_, ?_, rfl, ?_⟩ <;> decide +kernel⟩,
   ⟨upOn svc (fun b => { b with pwr.sysRst := true }), (countEvent 0x12 0 (upOn svc (fun b => { b with pwr.sysRst := true })).now), by refine ⟨?_, ?_, rfl⟩ <;> decide +kernel⟩,
   ⟨upOn svc (fun b => { b with pwr.sysRst := true }), (countEvent 0x12 0 (upOn svc (fun b => { b with pwr.sysRst := true })).now), by refine ⟨?_, ?_, rfl, ?_⟩ <;> decide +kernel⟩,
   ⟨upOn svc (fun b => { b with pwr.sysRst := true }), (countEvent 0x12 0 (upOn svc (fun b => { b with pwr.sysRst := true })).now), by refine ⟨?_, ?_, rfl, ?_⟩ <;> decide +kernel⟩⟩

/-- States and operands that meet the hypotheses of the clauses of DramHoldsWhatWasWritten. -/
theorem witness_DramHoldsWhatWasWritten :
    (∃ b : Blk, ∃ l : Nat, (b.frozenLine l = false)) ∧
    (∃ b : Blk, ∃ l : Nat, ∃ k : Nat, (b.frozenLine l = false) ∧ (k ≠ l)) ∧
    (∃ b : Blk, ∃ l : Nat, (b.frozenLine l = true)) ∧
    (∃ b : Blk, (Memory.wf b.dram = true)) ∧
    (∃ b : Blk, (Memory.wf b.dram = true)) ∧
    (∃ l : Nat, ∃ p : Nat, (l / 32 ≠ p)) :=
  ⟨⟨svc.now, 7, by decide +kernel⟩,
   ⟨svc.now, 7, 8, by decide +kernel⟩,
   ⟨(upOn svc (fun b => { b with dram.chans := [(0, { state := .frozen, dimms := 2, capGib := 64 })] })).now, 7, by decide +kernel⟩,
   ⟨(upOn svc (fun b => { b with dram.lines := [(7, { plain := 9 })] })).now, by decide +kernel⟩,
   ⟨(upOn svc (fun b => { b with dram.lines := [(7, { plain := 9 })] })).now, by decide +kernel⟩,
   ⟨32, 0, by decide +kernel⟩⟩

/-- States and operands that meet the hypotheses of the clauses of FaultStatusIsClearedByWritingOne. -/
theorem witness_FaultStatusIsClearedByWritingOne :
    (∃ s : State, (s.blk.aon = true) ∧ (s.now.pwr.sysRst = false) ∧ (s.now.pinsHigh = [])) ∧
    (∃ s : State, ∃ m : BitVec 128, ∃ p : Nat, (s.blk.aon = true) ∧ (s.now.pwr.sysRst = false) ∧ (s.now.pinsHigh = []) ∧ (m.getLsbD p = true) ∧ (s.now.flt.status.getLsbD p = true)) ∧
    (∃ s : State, (s.blk.aon = true) ∧ (s.now.pwr.sysRst = false)) ∧
    (∃ s : State, (s.blk.aon = true) ∧ (s.now.pwr.sysRst = false) ∧ (s.now.flt.firstValid = false) ∧ (s.now.cht.cur.faults = [])) :=
  ⟨⟨upOn svc (fun b => { b with flt.status := 6 }), by decide +kernel⟩,
   ⟨upOn svc (fun b => { b with flt.status := 6 }), (2 : BitVec 128), 1, by decide +kernel⟩,
   ⟨upOn svc (fun b => { b with flt.firstValid := true }), by decide +kernel⟩,
   ⟨upOn svc (fun b => b), by decide +kernel⟩⟩

/-- States and operands that meet the hypotheses of the clauses of PowerCommandsInServiceFireTheDusk. -/
theorem witness_PowerCommandsInServiceFireTheDusk :
    (∃ s : State, (s.blk.aon = true) ∧ (s.now.pwr.sysRst = false) ∧ (s.now.inDusk = false) ∧ (s.now.fromD7 = true)) ∧
    (∃ d : Dusk, (d.thermal = false)) ∧
    (∃ b : Blk, (b.pwr.holdOff = true)) ∧
    (∃ s : State, (s.blk.aon = true) ∧ (s.now.pwr.sysRst = false) ∧ (s.now.inDusk = false)) ∧
    (∃ b : Blk, (b.pwr.noResume = true)) :=
  ⟨⟨upOn svc (fun b => b), by decide +kernel⟩,
   ⟨({} : Dusk), by decide +kernel⟩,
   ⟨(upOn svc (fun b => { b with pwr.holdOff := true })).now, by decide +kernel⟩,
   ⟨upOn svc (fun b => b), by decide +kernel⟩,
   ⟨(upOn svc (fun b => { b with pwr.noResume := true })).now, by decide +kernel⟩⟩

end Sys2Proof.Tests
end

section
/-!
SUPPORT and PROOF. The Dusk trigger of R186 as OFF and CYCLE of PSQ_CMD fire it (R386). The work that the trigger starts leaves the power sequencer
and the persistence state alone, so what the trigger records in them is what the command leaves.
-/
namespace Sys2Proof.Machine
open Sys2Proof

@[simp] theorem modPwr_pwr (f : PowerSt → PowerSt) (b : Blk) : (modPwr f b).pwr = f b.pwr := rfl

/-! ### The flush of a fence and the release of a lease leave power and persistence alone -/

/-- A fold whose steps leave power and persistence alone leaves them alone. -/
theorem foldl_power_pers {β : Type} (f : Blk → β → Blk) (hf : ∀ b x, (f b x).pwr = b.pwr ∧ (f b x).pers = b.pers) (l : List β) (b : Blk) :
    (l.foldl f b).pwr = b.pwr ∧ (l.foldl f b).pers = b.pers :=
  foldl_keeps (fun a => a.pwr = b.pwr ∧ a.pers = b.pers) f l (fun a x _ ⟨hpwr, hpers⟩ => ⟨(hf a x).1.trans hpwr, (hf a x).2.trans hpers⟩) ⟨rfl, rfl⟩

@[simp] theorem useSlot_power_pers (n u : Nat) (i : Bool) (b : Blk) : (useSlot n u i b).pwr = b.pwr ∧ (useSlot n u i b).pers = b.pers := by
  unfold useSlot
  dsimp only
  split
  · exact ⟨rfl, rfl⟩
  · constructor <;> (repeat' split) <;> simp

@[simp] theorem putLine_power_pers (l : Nat) (d : DramLine) (b : Blk) : (putLine l d b).pwr = b.pwr ∧ (putLine l d b).pers = b.pers := by
  unfold putLine; split <;> simp

@[simp] theorem writeLine_power_pers (l : Nat) (d : Line) (p : Bool) (s : Nat) (b : Blk) :
    (writeLine l d p s b).pwr = b.pwr ∧ (writeLine l d p s b).pers = b.pers := by simp [writeLine]

@[simp] theorem flushHalo_power_pers (k : Bool) (e : Nat × HaloLine) (b : Blk) : (flushHalo k e b).pwr = b.pwr ∧ (flushHalo k e b).pers = b.pers := by
  unfold flushHalo
  constructor <;> (repeat' split) <;> simp

@[simp] theorem flushEntry_power_pers (e : Nat × MbEntry) (b : Blk) : (flushEntry e b).pwr = b.pwr ∧ (flushEntry e b).pers = b.pers := by
  unfold flushEntry
  cases e.2.full <;> simp

@[simp] theorem flushHalf_power_pers (h : Nat) (b : Blk) : (flushHalf h b).pwr = b.pwr ∧ (flushHalf h b).pers = b.pers := by
  simp [flushHalf, foldl_power_pers]

@[simp] theorem holdWindows_power_pers (b : Blk) : (holdWindows b).pwr = b.pwr ∧ (holdWindows b).pers = b.pers :=
  foldl_power_pers _ (fun b n => by dsimp only; split <;> simp) _ b

@[simp] theorem fenceHalf_power_pers (h : Nat) (b : Blk) : (fenceHalf h b).pwr = b.pwr ∧ (fenceHalf h b).pers = b.pers := by
  unfold fenceHalf; split <;> simp [beginEclipse]

@[simp] theorem releaseHalf_power_pers (c h : Nat) (b : Blk) : (releaseHalf c h b).pwr = b.pwr ∧ (releaseHalf c h b).pers = b.pers := by
  unfold releaseHalf; split <;> simp [sendArb]

@[simp] theorem releaseAll_power_pers (c : Nat) (b : Blk) : (releaseAll c b).pwr = b.pwr ∧ (releaseAll c b).pers = b.pers :=
  foldl_power_pers _ (fun b h => releaseHalf_power_pers c h b) _ b

/-! ### What the trigger abandons and records -/

@[simp] theorem dropSummary_power_pers (c : Nat) (b : Blk) : (dropSummary c b).pwr = b.pwr ∧ (dropSummary c b).pers = b.pers := by
  unfold dropSummary
  dsimp only
  split <;> simp

@[simp] theorem dropSummaries_power_pers (l : List (Nat × Chan)) (b : Blk) :
    (l.foldl (fun b e => dropSummary e.1 b) b).pwr = b.pwr ∧ (l.foldl (fun b e => dropSummary e.1 b) b).pers = b.pers :=
  foldl_power_pers _ (fun b e => dropSummary_power_pers e.1 b) l b

@[simp] theorem abortUpdate_power_pers (b : Blk) : (abortUpdate b).pwr = b.pwr ∧ (abortUpdate b).pers = b.pers := by
  unfold abortUpdate; split <;> simp

@[simp] theorem abandonHourly_power_pers (b : Blk) : (abandonHourly b).pwr = b.pwr ∧ (abandonHourly b).pers = b.pers := by
  unfold abandonHourly
  dsimp only
  split <;> simp

/-- The end of a Dawn as ABORTED changes the boot record's state only. -/
theorem abortDawn_eq (b : Blk) : ∃ o, abortDawn b = modPwr (fun p => { p with boot := o }) b := by
  unfold abortDawn; split
  · exact ⟨_, rfl⟩
  · exact ⟨b.pwr.boot, rfl⟩

@[simp] theorem abortDawn_holdOff_pwrFail (b : Blk) :
    (abortDawn b).pwr.holdOff = b.pwr.holdOff ∧ (abortDawn b).pwr.pwrFail = b.pwr.pwrFail := by
  obtain ⟨o, h⟩ := abortDawn_eq b; rw [h]; exact ⟨rfl, rfl⟩

/-! ### The trigger -/

/-- From D7 and outside a Dusk the trigger begins one, of its own cause, says whether service may be resumed, and leaves HOLD_OFF (R186, R386). -/
theorem trigger_begins_dusk (thermal noResume : Bool) (b : Blk) (hdusk : b.inDusk = false) (hd7 : b.fromD7 = true) :
    (trigger thermal noResume b).pers.dusk = some { thermal := thermal, pwrFail := b.pwr.pwrFail } ∧
    (trigger thermal noResume b).pwr.holdOff = b.pwr.holdOff ∧ (trigger thermal noResume b).pwr.noResume = noResume := by
  simp [trigger, hdusk, hd7, stopWriteback]

/-- A block in the Dusk that a power command fires: its cause is no thermal one, and service is not resumed after it (R386). -/
def Blk.firedByCommand (b : Blk) : Prop := b.inDusk = true ∧ (∀ d, b.pers.dusk = some d → d.thermal = false) ∧ b.pwr.noResume = true

/-- A power command's trigger, as the end of the step leaves it. -/
theorem duskOrOff_after_firedByCommand (s : State) (b : Blk) (hdusk : b.inDusk = false) (hd7 : b.fromD7 = true) :
    (s.after (duskOrOff false true b)).blk.firedByCommand ∧ (s.after (duskOrOff false true b)).blk.pwr.holdOff = b.pwr.holdOff := by
  obtain ⟨hfired, hhold, hresume⟩ := trigger_begins_dusk false true b hdusk hd7
  simp [State.after, duskOrOff, hd7, Blk.firedByCommand, Blk.inDusk, hfired, hhold, hresume]

/-! ### PSQ_CMD outside a Dusk -/

/-- No reset covers the sequencer's registers (R479). -/
@[simp] theorem viaReg_psqCmdReg (f : Blk → Blk) (b : Blk) : viaReg 0xC0008 f b = f b := rfl

theorem psqCmd_awake (f : Blk → Blk) (b : Blk) (hdusk : b.inDusk = false) : psqCmd f b = f b := by simp [psqCmd, hdusk]

section
variable (s : State) (haon : s.blk.aon = true) (hdusk : s.now.inDusk = false)
include haon hdusk

theorem exec_psqOn_awake : exec .psqOn s = .next (s.after (noteOn s.now (modPwr (fun p => { p with holdOff := false }) s.now))) := by
  rw [exec_psqOn s haon, viaReg_psqCmdReg, psqOn, psqCmd_awake _ _ hdusk]

theorem exec_psqOff_awake : exec .psqOff s = .next (s.after (duskOrOff false true (setHoldOff s.now))) := by
  rw [exec_psqOff s haon, viaReg_psqCmdReg, psqOff, psqCmd_awake _ _ hdusk]

theorem exec_psqCycle_awake : exec .psqCycle s = .next (s.after (duskOrOff false true s.now)) := by
  rw [exec_psqCycle s haon, viaReg_psqCmdReg, psqCycle, psqCmd_awake _ _ hdusk]

end

/-- Recording an on request leaves HOLD_OFF as the request left it (R379). -/
@[simp] theorem noteOn_holdOff (before b : Blk) : (noteOn before b).pwr.holdOff = b.pwr.holdOff := by
  unfold noteOn; split <;> rfl

/-! ### What the Dusk's cause, HOLD_OFF and the bar to resumption do later -/

/-- The generation that a save writes is the newest, and its header's CAUSE is 1 for a thermal Dusk alone (R190). -/
theorem writeSave_cause (phys : Phys) (d : Dusk) (b : Blk) :
    ∃ g, (writeSave phys d b).pers.gens.getLast? = some g ∧ g.cause = if d.thermal then 1 else 0 :=
  ⟨_, List.getLast?_concat, rfl⟩

theorem mayRaise_of_holdOff (b : Blk) (h : b.pwr.holdOff = true) : b.mayRaise = false := by simp [Blk.mayRaise, h]

theorem mayResume_of_noResume (b : Blk) (d : Dusk) (h : b.pwr.noResume = true) : b.mayResume d = false := by simp [Blk.mayResume, h]

/-- Settles O59: OFF and CYCLE end at the same trigger, and OFF differs by the HOLD_OFF that it sets before. -/
theorem powerCommandsInServiceFireTheDusk : Obligations.PowerCommandsInServiceFireTheDusk := by
  unfold Obligations.PowerCommandsInServiceFireTheDusk
  refine ⟨fun s haon _ hdusk hd7 => ⟨?off, ?cycle⟩, fun phys d b hd => ?cause, mayRaise_of_holdOff, fun s haon _ hdusk => ?on, mayResume_of_noResume⟩
  case off =>
    obtain ⟨⟨hin, hcause, hresume⟩, hhold⟩ := duskOrOff_after_firedByCommand s (setHoldOff s.now) hdusk hd7
    exact ⟨_, exec_psqOff_awake s haon hdusk, hin, hcause, hhold, hresume⟩
  case cycle =>
    obtain ⟨⟨hin, hcause, hresume⟩, hhold⟩ := duskOrOff_after_firedByCommand s s.now hdusk hd7
    exact ⟨_, exec_psqCycle_awake s haon hdusk, hin, hcause, hhold, hresume⟩
  case cause =>
    obtain ⟨g, hlast, hg⟩ := writeSave_cause phys d b
    exact ⟨g, hlast, by simp [hg, hd]⟩
  case on =>
    exact ⟨_, exec_psqOn_awake s haon hdusk, by simp [State.after]⟩

end Sys2Proof.Machine
end

section
/-!
SUPPORT and PROOF. The fault status word under R412: what a write of 1s clears, what latches again at once, and what the first-source capture
holds after a rearm and after the latch that follows it.
-/
namespace Sys2Proof.Machine
open Sys2Proof

/-! ### Latching (R410, R411) -/

@[simp] theorem react_none (b : Blk) : react .none b = b := by simp [react]

/-- The collector as a latch leaves it: the status bit, the interrupt, and the first source or else OVERFLOW (R410, R411). -/
def latchedFlt (pin : Nat) (loc : W64) (b : Blk) : Flt :=
  let f := if b.flt.firstValid then { b.flt with overflow := true }
           else { b.flt with firstPin := pin, firstValid := true, firstLoc := loc, firstCount := b.mer.count, firstUs := b.us }
  { f with status := f.status ||| (1 <<< pin), irq := true }

/-- The records of a latch: the FAULT record outside a Dusk, and the Logbook's (R411). -/
def recordLatch (pin : Nat) (loc : W64) (b : Blk) : Blk :=
  logRecord (0x2000 + pin) { pin := pin, kind := .fault, loc := loc }
    (if b.inDusk then b else postVendor .fault { loc := loc, locKind := 1, detail := [pin] } b)

@[simp] theorem recordLatch_flt (pin : Nat) (loc : W64) (b : Blk) : (recordLatch pin loc b).flt = b.flt := by unfold recordLatch; split <;> simp
@[simp] theorem recordLatch_cht (pin : Nat) (loc : W64) (b : Blk) : (recordLatch pin loc b).cht = b.cht := by unfold recordLatch; split <;> simp

/-- A latch changes the collector, then is recorded, and only then does the pin's reaction follow (R411, R414). -/
theorem latchPin_eq (pin : Nat) (loc : W64) (b : Blk) :
    latchPin pin loc b =
      react (SMap.get .none (recordLatch pin loc { b with flt := latchedFlt pin loc b }).cht.cur.faults pin)
        (recordLatch pin loc { b with flt := latchedFlt pin loc b }) := rfl

/-- Where the Chart names no reaction, the collector stays as the latch leaves it. -/
theorem latchPin_flt (pin : Nat) (loc : W64) (b : Blk) (hfaults : b.cht.cur.faults = []) : (latchPin pin loc b).flt = latchedFlt pin loc b := by
  simp [latchPin_eq, hfaults, SMap.get, SMap.find?]

/-- A latch while VALID is clear is captured as the first source (R410). -/
theorem latchedFlt_captures_first (pin : Nat) (loc : W64) (b : Blk) (hvalid : b.flt.firstValid = false) :
    (latchedFlt pin loc b).firstValid = true ∧ (latchedFlt pin loc b).firstPin = pin ∧ (latchedFlt pin loc b).firstLoc = loc := by
  simp [latchedFlt, hvalid]

/-- A pin whose status bit is clear latches when it is asserted (R411). -/
theorem assertPin_of_status_clear (pin : Nat) (loc : W64) (b : Blk) (hclear : b.flt.status.getLsbD pin = false) :
    assertPin pin loc b = latchPin pin loc b := by simp [assertPin, hclear]

/-! ### FLT_STATUS and FLT_FIRST (R412) -/

/-- Outside a system reset the collector's registers take their writes (R479). -/
theorem viaReg_fltReg (off : Nat) (hoff : off < 0x10000) (f : Blk → Blk) (b : Blk) (hrst : b.pwr.sysRst = false) : viaReg (0xE0000 + off) f b = f b := by
  have hpage : (0xE0000 + off) / 0x10000 = 0xE := by omega
  simp [viaReg, Blk.regInReset, hpage, hrst]

/-- The block with the bits of a mask cleared in its fault status word, and nothing else changed. -/
def clearFaultStatus (mask : BitVec 128) (b : Blk) : Blk := { b with flt := { b.flt with status := b.flt.status &&& ~~~mask } }

theorem clearFaultStatus_bit (mask : BitVec 128) (b : Blk) (pin : Nat) :
    (clearFaultStatus mask b).flt.status.getLsbD pin = (b.flt.status.getLsbD pin && !mask.getLsbD pin) := by
  simp only [clearFaultStatus, BitVec.getLsbD_and, BitVec.getLsbD_not]
  by_cases hpin : pin < 128
  · simp [hpin]
  · simp [BitVec.getLsbD_of_ge _ _ (Nat.le_of_not_lt hpin)]

/-- The bits written 1 clear first; then each pin of a cleared bit that stays asserted asserts anew. -/
theorem fltStatusClear_eq (mask : BitVec 128) (more : List (Nat × W64)) (b : Blk) :
    fltStatusClear mask more b =
      ((b.pinsHigh ++ more).filter (fun x => (b.flt.status &&& mask).getLsbD x.1)).foldl (fun b x => assertPin x.1 x.2 b) (clearFaultStatus mask b) := rfl

theorem fltStatusClear_no_pin (mask : BitVec 128) (b : Blk) (hhigh : b.pinsHigh = []) : fltStatusClear mask [] b = clearFaultStatus mask b := by
  simp [fltStatusClear_eq, hhigh]

theorem fltStatusClear_one_pin (mask : BitVec 128) (pin : Nat) (loc : W64) (b : Blk) (hhigh : b.pinsHigh = []) (hmask : mask.getLsbD pin = true)
    (hset : b.flt.status.getLsbD pin = true) : fltStatusClear mask [(pin, loc)] b = latchPin pin loc (clearFaultStatus mask b) := by
  have hclear : (clearFaultStatus mask b).flt.status.getLsbD pin = false := by simp [clearFaultStatus_bit, hmask]
  calc fltStatusClear mask [(pin, loc)] b
    _ = assertPin pin loc (clearFaultStatus mask b) := by simp [fltStatusClear_eq, hhigh, hset, hmask]
    _ = latchPin pin loc (clearFaultStatus mask b) := assertPin_of_status_clear pin loc _ hclear

section
variable (s : State) (haon : s.blk.aon = true) (hrst : s.now.pwr.sysRst = false)
include haon hrst

theorem exec_fltStatusClear_unreset (mask : BitVec 128) (more : List (Nat × W64)) :
    exec (.fltStatusClear mask more) s = .next (s.after (fltStatusClear mask more s.now)) := by
  rw [exec_fltStatusClear s haon, viaReg_fltReg 0 (by decide) _ _ hrst]

theorem exec_fltFirstRearm_unreset : exec .fltFirstRearm s = .next (s.after (fltFirstRearm s.now)) := by
  rw [exec_fltFirstRearm s haon, viaReg_fltReg 0x10 (by decide) _ _ hrst]

end

/-- Settles O58: a clear writes the status word alone, a pin that stays asserted finds its bit clear and so latches anew, and a latch after a
rearm finds VALID clear. -/
theorem faultStatusIsClearedByWritingOne : Obligations.FaultStatusIsClearedByWritingOne := by
  unfold Obligations.FaultStatusIsClearedByWritingOne
  refine fun s haon hrst => ⟨fun m hhigh => ?clear, fun m p l hhigh hmask hset => ?latchAgain, ?rearm, fun p l hvalid hfaults => ?capture⟩
  case clear =>
    rw [exec_fltStatusClear_unreset s haon hrst, fltStatusClear_no_pin m _ hhigh]; rfl
  case latchAgain =>
    rw [exec_fltStatusClear_unreset s haon hrst, fltStatusClear_one_pin m p l _ hhigh hmask hset]; rfl
  case rearm =>
    exact ⟨_, exec_fltFirstRearm_unreset s haon hrst, by simp [State.after, fltFirstRearm]⟩
  case capture =>
    rw [latchPin_flt p l s.now hfaults]; exact latchedFlt_captures_first p l s.now hvalid

end Sys2Proof.Machine
end

section
/-!
SUPPORT and PROOF. What a command can do at all: every command is run by one of three runners, so the facts about fuses, queue and always-on power
need no look at what the commands mean.
-/
namespace Sys2Proof.Machine
open Sys2Proof

/-! ### The runners -/

/-- Every command but the return of always-on power is run by a runner that needs it: it may program fuses or it may not. -/
theorem exec_runner (i : Instr) (s : State) : (∃ f, exec i s = run f s) ∨ (∃ f, exec i s = runFuse f s) ∨ ∃ straps, i = .aonPowerUp straps := by
  cases i
  case aonPowerUp straps => exact .inr (.inr ⟨straps, rfl⟩)
  case registerWrite | dawnD0 | installOwner | sealPart | returnPart | commitSvn | tapProvision | regWrite => exact .inr (.inl ⟨_, rfl⟩)
  all_goals exact .inl ⟨_, rfl⟩

/-- A command answers a next state that keeps the queue and whose fuses are those of before or those with some more blown (R355). -/
theorem exec_next (i : Instr) (s : State) : ∃ t, exec i s = .next t ∧ t.pending = s.pending ∧ (t.otp = s.otp ∨ ∃ m, t.otp = s.otp.blow m) := by
  rcases exec_runner i s with ⟨f, h⟩ | ⟨f, h⟩ | ⟨straps, rfl⟩
  · exact ⟨_, h, rfl, .inl rfl⟩
  · obtain ⟨b, m, hfuse | hnone⟩ := runFuse_frame f s
    · exact ⟨_, h.trans hfuse, rfl, .inr ⟨m, rfl⟩⟩
    · exact ⟨_, h.trans hnone, rfl, .inl rfl⟩
  · exact ⟨_, exec_aonPowerUp straps s, rfl, .inl rfl⟩

/-- With always-on power down a command other than its return leaves the block as it is (R489). -/
theorem exec_aon_down (i : Instr) (s : State) (haon : s.blk.aon = false) (hi : ∀ straps, i ≠ .aonPowerUp straps) : exec i s = .next { s with blk := s.now } := by
  rcases exec_runner i s with ⟨f, h⟩ | ⟨f, h⟩ | ⟨straps, h⟩
  · exact h.trans (run_down f s haon)
  · exact h.trans (runFuse_down f s haon)
  · exact absurd h (hi straps)

/-! ### A step -/

/-- A step answers a next state that has taken the first waiting command and whose fuses are those of before or those with some more blown. -/
theorem step_next (s : State) : ∃ t, step s = .next t ∧ t.pending = s.pending.tail ∧ (t.otp = s.otp ∨ ∃ m, t.otp = s.otp.blow m) := by
  obtain ⟨b, o, q⟩ := s
  cases q with
  | nil => exact ⟨_, rfl, rfl, .inl rfl⟩
  | cons i rest => exact exec_next i ⟨b, o, rest⟩

/-- What the step to `t` has done to the fuses and to the queue. -/
theorem step_inv {s t : State} (h : step s = .next t) : t.pending = s.pending.tail ∧ (t.otp = s.otp ∨ ∃ m, t.otp = s.otp.blow m) := by
  obtain ⟨u, hu, hframe⟩ := step_next s
  obtain rfl : u = t := by simpa [hu] using h
  exact hframe

/-- Settles O50. -/
theorem everyCommandAnswersAndLeavesTheQueue : Obligations.EveryCommandAnswersAndLeavesTheQueue := by
  unfold Obligations.EveryCommandAnswersAndLeavesTheQueue
  refine ⟨fun i s => ?exec, fun s => ?step, fun s t hwf h => ?wf⟩
  case exec => obtain ⟨t, ht, hq, _⟩ := exec_next i s; exact ⟨t, ht, hq⟩
  case step => obtain ⟨t, ht, hq, _⟩ := step_next s; exact ⟨t, ht, hq⟩
  case wf =>
    obtain ⟨hq, _⟩ := step_inv h
    simp only [State.queueWf, List.all_eq_true, hq] at hwf ⊢
    exact fun i hi => hwf i (List.mem_of_mem_tail hi)

/-- Settles O53. -/
theorem nothingRunsWithoutAlwaysOnPower : Obligations.NothingRunsWithoutAlwaysOnPower := by
  unfold Obligations.NothingRunsWithoutAlwaysOnPower
  exact fun i s haon hi => ⟨_, exec_aon_down i s haon hi, rfl, rfl, rfl⟩

/-- Settles O1. -/
theorem stepRunsTheFrontCommand : Obligations.StepRunsTheFrontCommand := fun _ _ => rfl

end Sys2Proof.Machine
end

section
/-!
PROOF. Fuses only rise (R355): what a step may blow is laid over the bank as it was, so every blown bit, and all that is counted from blown bits, stays.
-/
namespace Sys2Proof.Machine
open Sys2Proof

/-! ### The order of fuse banks -/

theorem Otp.blow_assoc (a b c : Otp) : (a.blow b).blow c = a.blow (b.blow c) := by simp [Otp.blow, BitVec.or_assoc]

theorem Otp.within_refl (o : Otp) : Otp.within o o := by simp [Otp.within, Otp.blow]

/-- What lies within a bank lies within it when more of it is blown. -/
theorem Otp.within_blow {o p : Otp} (h : Otp.within o p) (m : Otp) : Otp.within o (p.blow m) := by
  rw [Otp.within] at h ⊢
  rw [← Otp.blow_assoc, h]

theorem Otp.within_step {o : Otp} {s t : State} (h : Otp.within o s.otp) (hstep : step s = .next t) : Otp.within o t.otp := by
  obtain ⟨_, heq | ⟨m, hm⟩⟩ := step_inv hstep
  · rwa [heq]
  · rw [hm]; exact Otp.within_blow h m

/-- Settles O51. -/
theorem fusesOnlyRise : Obligations.FusesOnlyRise := by
  unfold Obligations.FusesOnlyRise
  exact fun o s t h hstep => Otp.within_step h hstep

/-! ### What is read from the fuses -/

/-- A bit that is set stays set under more bits. -/
theorem getLsbD_of_or_eq {w : Nat} {x y : BitVec w} (h : x ||| y = y) {i : Nat} (hx : x.getLsbD i = true) : y.getLsbD i = true := by
  rw [← h, BitVec.getLsbD_or, hx, Bool.true_or]

/-- More blown bits are counted as at least as many. -/
theorem blown_le_of_or_eq {w : Nat} {x y : BitVec w} (h : x ||| y = y) (n : Nat) : blown n x.toNat ≤ blown n y.toNat := by
  have hsub := List.countP_mono_left (l := List.range n) (p := fun i => x.toNat.testBit i) (q := fun i => y.toNat.testBit i)
    fun _ _ hi => getLsbD_of_or_eq h hi
  rwa [List.countP_eq_length_filter, List.countP_eq_length_filter] at hsub

theorem natMax_mono {a b c d : Nat} (hac : a ≤ c) (hbd : b ≤ d) : Nat.max a b ≤ Nat.max c d :=
  Nat.max_le.2 ⟨Nat.le_trans hac (Nat.le_max_left c d), Nat.le_trans hbd (Nat.le_max_right c d)⟩

/-- The LC_STATE copies of a bank that lies within another (R356). -/
theorem Otp.within_lc {o p : Otp} (h : Otp.within o p) : o.lc0 ||| p.lc0 = p.lc0 ∧ o.lc1 ||| p.lc1 = p.lc1 ∧ o.lc2 ||| p.lc2 = p.lc2 :=
  ⟨congrArg Otp.lc0 h, congrArg Otp.lc1 h, congrArg Otp.lc2 h⟩

theorem Otp.within_lcBits {o p : Otp} (h : Otp.within o p) : o.lcBits ≤ p.lcBits := by
  obtain ⟨h0, h1, h2⟩ := Otp.within_lc h
  exact natMax_mono (blown_le_of_or_eq h0 3) (natMax_mono (blown_le_of_or_eq h1 3) (blown_le_of_or_eq h2 3))

/-- Settles O52: the bank of before lies within the bank of after, and each field with it. -/
theorem lifeCycleNeverGoesBack : Obligations.LifeCycleNeverGoesBack := by
  unfold Obligations.LifeCycleNeverGoesBack
  intro s t hstep
  have h : Otp.within s.otp t.otp := Otp.within_step (Otp.within_refl _) hstep
  obtain ⟨h0, h1, h2⟩ := Otp.within_lc h
  exact ⟨fun _ => getLsbD_of_or_eq h0, fun _ => getLsbD_of_or_eq h1, fun _ => getLsbD_of_or_eq h2, fun _ => getLsbD_of_or_eq (congrArg Otp.fwSvn h),
    fun _ => getLsbD_of_or_eq (congrArg Otp.revoke h), fun _ => getLsbD_of_or_eq (congrArg Otp.returnBegun h), Otp.within_lcBits h⟩

end Sys2Proof.Machine
end

section
/-!
PROOF. Near DRAM as a store of lines, the state after reset, and the block's own work where none is under way.
-/
namespace Sys2Proof.Machine
open Sys2Proof

/-! ### Near DRAM (R165) -/

/-- Entries that are kept are found as before. -/
theorem SMap.find?_keep_of_true {α : Type} (m : SMap α) (p : Nat → Bool) {k : Nat} (hk : p k = true) : SMap.find? (SMap.keep m (fun j _ => p j)) k = SMap.find? m k := by
  induction m with
  | nil => rfl
  | cons e m ih =>
    obtain ⟨j, v⟩ := e
    simp only [SMap.keep] at ih
    by_cases hj : p j = true
    · simp [SMap.keep, hj, SMap.find?, ih]
    · have hne : j ≠ k := fun h => hj (h ▸ hk)
      simp [SMap.keep, hj, SMap.find?, hne, ih]

/-- Entries that are not kept are found no more. -/
theorem SMap.find?_keep_of_false {α : Type} (m : SMap α) (p : Nat → Bool) {k : Nat} (hk : p k = false) : SMap.find? (SMap.keep m (fun j _ => p j)) k = none := by
  induction m with
  | nil => rfl
  | cons e m ih =>
    obtain ⟨j, v⟩ := e
    simp only [SMap.keep] at ih
    by_cases hj : p j = true
    · have hne : j ≠ k := fun h => by simp [← h, hj] at hk
      simp [SMap.keep, hj, SMap.find?, hne, ih]
    · simp [SMap.keep, hj, ih]

/-- What a line that is not listed holds does not depend on what is listed. -/
theorem putLine_filled (l k : Nat) (d : DramLine) (b : Blk) : (putLine l d b).dram.filled k = b.dram.filled k := by
  simp only [Dram.filled, putLine_fills]

theorem putLine_dramLine_same (l : Nat) (d : DramLine) {b : Blk} (h : b.frozenLine l = false) : (putLine l d b).dramLine l = d := by
  rw [Blk.dramLine, putLine_filled, putLine_lines l d h, SMap.get_put_same]

theorem putLine_dramLine_other {l k : Nat} (d : DramLine) {b : Blk} (h : b.frozenLine l = false) (hk : k ≠ l) : (putLine l d b).dramLine k = b.dramLine k := by
  rw [Blk.dramLine, Blk.dramLine, putLine_filled, putLine_lines l d h]
  simp only [SMap.get, SMap.put]
  split
  · rw [SMap.find?_erase_other _ hk]
  · rw [SMap.find?_insert_other _ _ hk]

/-- A line of a page that is dropped reads as its fill left it. -/
theorem dropPageLines_dramLine_dropped (p l : Nat) (b : Blk) : (dropPageLines p b).dramLine (32 * p + l % 32) = b.dram.filled (32 * p + l % 32) := by
  have hp : ((32 * p + l % 32) / 32 != p) = false := by simp; omega
  rw [Blk.dramLine, SMap.get, dropPageLines_lines, SMap.find?_keep_of_false _ (fun l => l / 32 != p) hp]; rfl

theorem dropPageLines_dramLine_other {p l : Nat} (b : Blk) (h : l / 32 ≠ p) : (dropPageLines p b).dramLine l = b.dramLine l := by
  rw [Blk.dramLine, SMap.get, dropPageLines_lines, SMap.find?_keep_of_true _ (fun l => l / 32 != p) (by simpa using h)]; rfl

/-- Settles O57. -/
theorem dramHoldsWhatWasWritten : Obligations.DramHoldsWhatWasWritten := by
  unfold Obligations.DramHoldsWhatWasWritten
  exact fun b l d => ⟨fun h => ⟨putLine_dramLine_same l d h, fun _ hk => putLine_dramLine_other d h hk⟩, putLine_frozen l d,
    fun h => ⟨putLine_wf l d h, fun p => dropPageLines_wf p h⟩, fun p => ⟨dropPageLines_dramLine_dropped p l b, dropPageLines_dramLine_other b⟩⟩

/-! ### The state after reset -/

/-- Settles O54. -/
theorem theStateAfterReset : Obligations.TheStateAfterReset := by
  unfold Obligations.TheStateAfterReset
  exact ⟨rfl, rfl, rfl, rfl, rfl, rfl, rfl, rfl, rfl, rfl, reset_memory_wf, Otp.within_refl _, rfl⟩

/-! ### The block's own work -/

/-- Where no command waits none is resumed. -/
theorem runDeferred_of_nil (phys : Phys) (b : Blk) (h : b.fw.deferred = []) : runDeferred phys b = b := by simp [runDeferred, h]

theorem orbProgress_of_idle (phys : Phys) (b : Blk) (hheld : b.orb.held = []) (hq : b.orb.queues = []) (hdereg : b.orb.dereg = []) (htodo : b.orb.keyTodo = []) :
    orbProgress phys b = none := by simp [orbProgress, hheld, hq, hdereg, htodo, SMap.first?]

theorem cphProgress_of_idle (phys : Phys) (b : Blk) (hq : b.cph.queues = []) : cphProgress phys b = none := by simp [cphProgress, hq, SMap.first?]

/-- The engines stop where none has work, whatever the fuel. -/
theorem pump_of_progress_none (phys : Phys) (fuel : Nat) (b : Blk) (h : progress phys b = none) : pump phys fuel b = b := by
  cases fuel with
  | zero => rfl
  | succ n => simp only [pump, h]

theorem settleCold_of_none (b : Blk) (h : b.twin.coldDue = none) : settleCold b = b := by simp only [settleCold, h]

/-- Settles O55: each of the three parts of the block's own work finds nothing to do. -/
theorem theEnginesRestWhenIdle : Obligations.TheEnginesRestWhenIdle := by
  unfold Obligations.TheEnginesRestWhenIdle
  intro phys b h
  simp only [Blk.enginesIdle, Bool.and_eq_true, List.isEmpty_iff, Option.isNone_iff_eq_none] at h
  obtain ⟨⟨⟨⟨⟨⟨⟨hdef, hjobs⟩, hheld⟩, hoq⟩, hdereg⟩, htodo⟩, hcq⟩, hcold⟩ := h
  have hprog : progress phys b = none := by
    simp [progress, hjobs, orbProgress_of_idle phys b hheld hoq hdereg htodo, cphProgress_of_idle phys b hcq]
  rw [settleWork, runDeferred_of_nil phys b hdef, pump_of_progress_none phys _ b hprog, settleCold_of_none b hcold]

end Sys2Proof.Machine
end

section
/-!
PROOF. Registers in a system reset (R479), and the step in which no command waits (R80, R270).
-/
namespace Sys2Proof.Machine
open Sys2Proof

/-! ### Registers in a reset -/

/-- A register whose reset is under way takes no write: the access is counted (R479). -/
theorem viaReg_of_inReset {a : Nat} (f : Blk → Blk) {b : Blk} (h : b.regInReset a = true) : viaReg a f b = countEvent 0x12 0 b := by simp [viaReg, h, regViolation]

/-- Settles O56. -/
theorem registersInAResetIgnoreWrites : Obligations.RegistersInAResetIgnoreWrites := by
  unfold Obligations.RegistersInAResetIgnoreWrites
  rintro s phys haon hrst _ rfl
  have hflash : s.now.regInReset 0x60008 = true := by simp [Blk.regInReset, hrst]
  have hrearm : s.now.regInReset 0xE0010 = true := by simp [Blk.regInReset, hrst]
  have hstatus : s.now.regInReset 0xE0000 = true := by simp [Blk.regInReset, hrst]
  have htwin : s.now.regInReset 0x80060 = true := by simp [Blk.regInReset, hrst]
  have hcipher : s.now.regInReset 0xA0008 = true := by simp [Blk.regInReset, hrst]
  have hchan : ∀ c < 16, s.now.regInReset (0x40008 + 0x1000 * c) = true := fun c hc => by
    have hpage : (0x40008 + 0x1000 * c) / 0x10000 = 4 := by omega
    simp [Blk.regInReset, hpage, hrst]
  refine ⟨?pause, ?resume, ?raw, ?rebuild, fun g => ⟨?join, ?retire⟩, ?rearm, fun m x => ?clear, ?audit, fun h => ?release,
    fun c d r p hc => ⟨?mark, ?unmark⟩, fun q => ⟨?unwrap, ?clearSlot⟩, fun _ => exec_freeze s haon true, ?on⟩
  case pause => rw [exec_patrolPause s haon, viaReg_of_inReset _ hflash]
  case resume => rw [exec_patrolResume s haon, viaReg_of_inReset _ hflash]
  case raw => rw [exec_rawRead s haon, viaReg_of_inReset _ hflash]
  case rebuild => rw [exec_startRebuild s haon, viaReg_of_inReset _ hflash]
  case join => rw [exec_admitDie s haon, viaReg_of_inReset _ hflash]
  case retire => rw [exec_retire s haon, viaReg_of_inReset _ hflash]
  case rearm => rw [exec_fltFirstRearm s haon, viaReg_of_inReset _ hrearm]
  case clear => rw [exec_fltStatusClear s haon, viaReg_of_inReset _ hstatus]
  case audit => rw [exec_audit s haon, viaReg_of_inReset _ htwin]
  case release => rw [exec_twnRelease s haon, viaReg_of_inReset _ htwin]
  case mark => rw [exec_mark s haon, viaReg_of_inReset _ (hchan c hc)]
  case unmark => rw [exec_unmark s haon, viaReg_of_inReset _ (hchan c hc)]
  case unwrap => rw [exec_mgmtUnwrap s haon, viaReg_of_inReset _ hcipher]
  case clearSlot => rw [exec_mgmtClearSlot s haon, viaReg_of_inReset _ hcipher]
  case on => exact exec_psqOn_awake s haon

/-! ### Reading a line while nothing fails -/

theorem decodeLine_of_no_error (light poison : Bool) (marks : List Nat) : decodeLine light poison marks [] = if poison then .poisoned [] else .data 0 0 [] := rfl



/-- Where the media show no error a read of DRAM at most sets a channel's LIGHT_TAG bit (R149). -/
theorem readDram_of_no_burst (phys : Phys) (l : Nat) (src : Reader) (b : Blk) (h : phys.burst l = []) :
    (readDram phys l src b).2 = b ∨ ∃ c, (readDram phys l src b).2 = setErr (.drm c) 3 b := by
  unfold readDram
  split
  · exact .inl rfl
  · dsimp only
    rw [h, decodeLine_of_no_error]
    cases (b.dramLine l).poison
    · simp only [Bool.false_eq_true, if_false]
      split
      · exact .inr ⟨_, rfl⟩
      · split <;> exact .inl rfl
    · exact .inl rfl

/-- The same for the read of an open entry's base (R123). -/
theorem rmwBase_of_no_burst (phys : Phys) (l : Nat) (b : Blk) (h : phys.burst l = []) :
    (rmwBase phys l b).2 = b ∨ ∃ c, (rmwBase phys l b).2 = setErr (.drm c) 3 b := by
  unfold rmwBase
  split
  · exact .inl rfl
  · have hread := readDram_of_no_burst phys l .rmw b h
    split <;> simp_all

/-- The same for a line that an engine reads whole (R159). -/
theorem lineOut_quiet (src : Reader) (l : Nat) (b : Blk) : (lineOut {} src l b).2 = b ∨ ∃ c, (lineOut {} src l b).2 = setErr (.drm c) 3 b := by
  have hbase := rmwBase_of_no_burst {} l b rfl
  have hread := readDram_of_no_burst {} l src b rfl
  have hwords : useWords {} l wholeLine (lookupFault {} l b) = b := rfl
  unfold lineOut
  simp only [hwords]
  split
  · exact .inl rfl
  · split
    · split
      · exact .inl rfl
      · exact hbase
    · split
      · exact .inl rfl
      · split <;> simp_all

/-! ### The step without a command -/

/-- The count, the persistence state and DRAM are as they were. -/
def Blk.sameMemory (a b : Blk) : Prop := b.mer = a.mer ∧ b.dram = a.dram ∧ b.pers = a.pers

theorem lineOut_sameMemory (src : Reader) (l : Nat) (b : Blk) : b.sameMemory (lineOut {} src l b).2 := by
  rcases lineOut_quiet src l b with h | ⟨c, h⟩ <;> rw [h] <;> simp [Blk.sameMemory]

theorem pageNow_sameMemory (p : Nat) (b : Blk) : b.sameMemory (pageNow {} p b).2 := by
  unfold pageNow
  split
  · exact ⟨rfl, rfl, rfl⟩
  · refine foldl_keeps (fun acc : List (Line × Bool) × Blk => b.sameMemory acc.2) _ _ (fun acc j _ hacc => ?_) ⟨rfl, rfl, rfl⟩
    obtain ⟨hmer, hdram, hpers⟩ := hacc
    obtain ⟨hm, hd, hp⟩ := lineOut_sameMemory .wb (32 * p + j) acc.2
    exact ⟨hm.trans hmer, hd.trans hdram, hp.trans hpers⟩

theorem pageNow_cyc (p : Nat) (b : Blk) : (pageNow {} p b).2.cyc = b.cyc := by
  unfold pageNow
  split
  · rfl
  · refine foldl_keeps (fun acc : List (Line × Bool) × Blk => acc.2.cyc = b.cyc) _ _ (fun acc j _ hacc => ?_) rfl
    rcases lineOut_quiet .wb (32 * p + j) acc.2 with h | ⟨c, h⟩ <;> simp [h, hacc]

/-- A HOT sync's next page leaves the clock, the count, the persistence state and DRAM alone (R270). -/
theorem syncStep_sameMemory (b : Blk) : b.sameMemory (syncStep {} b) ∧ (syncStep {} b).cyc = b.cyc := by
  unfold syncStep
  split
  · exact ⟨⟨rfl, rfl, rfl⟩, rfl⟩
  · split
    · exact ⟨⟨rfl, rfl, rfl⟩, rfl⟩
    · rename_i p n rest _
      dsimp only
      generalize hx : modTwin (fun t => { t with syncTodo := if n ≤ 1 then rest else (p + 1, n - 1) :: rest }) b = x
      have hb : b.sameMemory x ∧ x.cyc = b.cyc := by subst hx; exact ⟨⟨rfl, rfl, rfl⟩, rfl⟩
      obtain ⟨⟨hmer, hdram, hpers⟩, hcyc⟩ := hb
      obtain ⟨hm, hd, hp⟩ := pageNow_sameMemory p x
      have hc := pageNow_cyc p x
      split
      · exact ⟨⟨hmer, hdram, hpers⟩, hcyc⟩
      · split
        · simp [Blk.sameMemory, hm, hd, hp, hc, hmer, hdram, hpers, hcyc]
        · simp [sendSyncPage, Blk.sameMemory, hm, hd, hp, hc, hmer, hdram, hpers, hcyc]

theorem idle_of_aon (s : State) (haon : s.blk.aon = true) : idle s = s.after (syncStep {} { s.now with cyc := s.blk.cyc + 1 }) := by
  unfold idle stepBlk; rw [if_pos haon]; rfl

/-- Settles O2. -/
theorem anEmptyQueueIdlesForOneCycle : Obligations.AnEmptyQueueIdlesForOneCycle := by
  unfold Obligations.AnEmptyQueueIdlesForOneCycle
  intro s hq haon
  obtain ⟨⟨hmer, hdram, hpers⟩, hcyc⟩ := syncStep_sameMemory { s.now with cyc := s.blk.cyc + 1 }
  refine ⟨_, (by rw [step, hq] : step s = .next (idle s)), ?_⟩
  rw [idle_of_aon s haon]
  simp only [State.after, closeStep_cyc, closeStep_mer, closeStep_dram, closeStep_pers]
  exact ⟨hcyc, hq, trivial, hmer, hdram, hpers⟩

end Sys2Proof.Machine
end

section
/-!
PROOF. The power sequencer's commands (R377 to R386, R396): each statement's clause is one branch of the command.
-/
namespace Sys2Proof.Machine
open Sys2Proof

/-! ### Raising rails (R378 to R382) -/

/-- Settles O5. -/
theorem sequencerRaisesRails : Obligations.SequencerRaisesRails := by
  unfold Obligations.SequencerRaisesRails
  intro s haon
  refine ⟨fun hseq hmay hstage hrst hen => ?raise, fun hmay => ?stay, fun n hslot hpg => ?noted, fun n hslot => ?notNoted, fun n hseq hset hin hpg => ?waited,
    fun hseq hset hlast => ?lastGroup, fun o hseq hset hnext => ?nextGroup, fun hseq hwhy => ?minOff⟩
  case raise => rw [exec_sequencerPowerUp s haon]; simp [sequencerPowerUp, hseq, hmay, hstage, hrst, hen]
  case stay => rw [exec_sequencerPowerUp s haon]; simp [sequencerPowerUp, hmay]
  case noted => rw [exec_seqPgRise s haon, seqPgRise, hslot, hpg]; rfl
  case notNoted => rw [exec_seqPgRise s haon, seqPgRise, hslot]; rfl
  case waited => rw [exec_pgTimeout s haon, pgTimeout, hseq, hset, hin, hpg, Bool.not_false, Bool.or_true]; rfl
  case lastGroup => rw [exec_settleDone s haon, settleDone, hseq, hset, hlast]; rfl
  case nextGroup => rw [exec_settleDone s haon, settleDone, hseq, hset, hnext]; rfl
  case minOff => rw [exec_minOffEnd s haon]; simp [minOffEnd, hseq, hwhy, modPwr]

/-! ### Falling power-good (R383, R384) -/

section
variable {n : Nat} {b : Blk} (hslot : b.railSlots.contains n = true) (hno : (b.rail n).noPg = false) (hpg : b.pwr.pg.testBit n = true)
include hslot hno hpg

/-- The fall of a power-good that was high is noted, and the sequencer's phase decides what follows. -/
theorem seqPgFall_of_high : seqPgFall n b = match b.pwr.seq with
    | .lowering => lowerWhile 17 (modPwr (fun p => { p with pg := clearBit p.pg n }) b)
    | .on => if b.railEn n then pgLostAt n (modPwr (fun p => { p with pg := clearBit p.pg n }) b) else modPwr (fun p => { p with pg := clearBit p.pg n }) b
    | _ => modPwr (fun p => { p with pg := clearBit p.pg n }) b := by
  rw [seqPgFall, hslot, hno, hpg]; rfl

end

/-- Settles O6. -/
theorem railsFallAndAreLost : Obligations.RailsFallAndAreLost := by
  unfold Obligations.RailsFallAndAreLost
  intro s n haon
  rw [exec_seqPgFall s haon, exec_dischargeTimeout s haon]
  refine ⟨fun hslot => ?notListed, fun hslot hno hpg => ?high, fun hseq hin hnot => ⟨fun hno hpg => ?slow, fun hpg => ?discharged⟩, fun hseq => ?notLowering⟩
  case notListed => rw [seqPgFall, hslot]; rfl
  case high =>
    rw [seqPgFall_of_high hslot hno hpg]
    refine ⟨fun hseq => ?_, fun hseq => ?_, fun hseq hen => ?_⟩
    · rw [hseq]; rfl
    · rw [hseq]; rfl
    · rw [hseq, Blk.railEn, hen]; rfl
  case slow => rw [dischargeTimeout, hseq, hin, hnot, hno, hpg]; rfl
  case discharged => rw [dischargeTimeout, hseq, hin, hnot, hpg, Bool.and_false]; rfl
  case notLowering => simp [dischargeTimeout, hseq]

/-! ### PSQ_CMD (R386, R396) -/

theorem psqCmd_inDusk (f : Blk → Blk) (b : Blk) (h : b.inDusk = true) : psqCmd f b = setErr .psq 6 b := by rw [psqCmd, if_pos h]

/-- Settles O7. -/
theorem powerCommands : Obligations.PowerCommands := by
  unfold Obligations.PowerCommands
  intro s haon
  refine ⟨fun hdusk => ⟨exec_psqOn_awake s haon hdusk, exec_psqOff_awake s haon hdusk, exec_psqCycle_awake s haon hdusk, fun h => ?retry, fun h => ?noRetry⟩,
    fun hdusk => ⟨?on, ?off, ?cycle, ?dawnRetry⟩⟩
  case retry => rw [exec_dawnRetry s haon, viaReg_psqCmdReg, psqDawnRetry, psqCmd_awake _ _ hdusk, h]; rfl
  case noRetry => rw [exec_dawnRetry s haon, viaReg_psqCmdReg, psqDawnRetry, psqCmd_awake _ _ hdusk]; simp [h]
  case on => rw [exec_psqOn s haon, viaReg_psqCmdReg, psqOn, psqCmd_inDusk _ _ hdusk]
  case off => rw [exec_psqOff s haon, viaReg_psqCmdReg, psqOff, psqCmd_inDusk _ _ hdusk]
  case cycle => rw [exec_psqCycle s haon, viaReg_psqCmdReg, psqCycle, psqCmd_inDusk _ _ hdusk]
  case dawnRetry => rw [exec_dawnRetry s haon, viaReg_psqCmdReg, psqDawnRetry, psqCmd_inDusk _ _ hdusk]

end Sys2Proof.Machine
end

section
/-!
PROOF. Loss and return of always-on power (R65, R383, R384, R503), and the system reset (R479).
-/
namespace Sys2Proof.Machine
open Sys2Proof

/-! ### Cutting the rails -/

/-- A save that power cuts short changes the generations and draws free values. -/
theorem cutSave_eq (b : Blk) : ∃ n p, cutSave b = { b with free := n, pers := p } := by
  unfold cutSave
  split
  · dsimp only; split
    · exact ⟨_, _, rfl⟩
    · exact ⟨b.free, b.pers, rfl⟩
  · exact ⟨b.free, b.pers, rfl⟩

/-- Nothing is retained where no DIMM is in self-refresh. -/
theorem dropDram_zero_lines (b : Blk) : (dropDram 0 b).dram.lines = [] := by simp [dropDram, SMap.keep]

/-- What a cut of every rail leaves: no enable, DRAM and Halo empty, no request; and what it does not touch (R384, R443, R503). -/
theorem cutRails_eq (b : Blk) : ∃ n p d h v t w, cutRails b = { b with free := n, pers := p, dram := d, halo := h, host := v, therm := t, pwr := w } ∧
    d.lines = [] ∧ h.lines = [] ∧ h.mb = [] ∧ w.en = 0 ∧ w.boot.countFloor = b.pwr.boot.countFloor := by
  unfold cutRails railsDown
  obtain ⟨n, p, h⟩ := cutSave_eq (modPwr (fun p => { p with en := 0, keep := 0, lowerWhy := .offRequest }) b)
  rw [h]
  exact ⟨_, _, _, _, _, _, _, rfl, dropDram_zero_lines _, rfl, rfl, rfl, rfl⟩

/-- The loss of always-on power cuts the rails and notes the extents. -/
theorem aonPowerLoss_eq (b : Blk) (haon : b.aon = true) : ∃ n p d h v t w, aonPowerLoss b =
    { b with aon := false, free := n, pers := p, dram := d, halo := h, host := v, therm := t, pwr := w } ∧
    d.lines = [] ∧ h.lines = [] ∧ h.mb = [] ∧ w.en = 0 ∧ w.boot.countFloor = b.pwr.boot.countFloor := by
  obtain ⟨n, p, d, h, v, t, w, heq, hfacts⟩ := cutRails_eq b
  refine ⟨n, p, d, h, (noteExtents (cutRails b)).host, t, w, ?_, hfacts⟩
  rw [aonPowerLoss, haon, heq]; rfl

theorem aonPowerLoss_down (b : Blk) (haon : b.aon = false) : aonPowerLoss b = b := by rw [aonPowerLoss, haon]; rfl

/-- What the loss leaves for the return, whether power was up or not. -/
theorem aonPowerLoss_keeps (b : Blk) : (aonPowerLoss b).nvf = b.nvf ∧ (aonPowerLoss b).cht = b.cht ∧ (aonPowerLoss b).pwr.boot.countFloor = b.pwr.boot.countFloor := by
  cases haon : b.aon
  · rw [aonPowerLoss_down b haon]; exact ⟨rfl, rfl, rfl⟩
  · obtain ⟨n, p, d, h, v, t, w, heq, _, _, _, _, hfloor⟩ := aonPowerLoss_eq b haon
    rw [heq]; exact ⟨rfl, rfl, hfloor⟩

/-! ### The return -/

/-- Dropping deltas of the twin changes the stripes' lists of units and the deltas only. -/
theorem dropDeltas_eq (left : ColdDelta → Bool) (b : Blk) :
    ∃ x, dropDeltas left b = { b with nvf := { b.nvf with stripes := x }, twin := { b.twin with deltas := b.twin.deltas.filter left } } := ⟨_, rfl⟩

/-- An update that the loss has ended is recorded after the power-on reset. -/
theorem aonPowerUp_eq (straps : Nat) (b : Blk) :
    aonPowerUp straps b = powerOnReset straps (aonPowerLoss b) ∨ aonPowerUp straps b = setErr .mgt 5 (powerOnReset straps (aonPowerLoss b)) := by
  unfold aonPowerUp
  dsimp only
  split
  · exact .inr rfl
  · exact .inl rfl

/-- Settles O3. -/
theorem alwaysOnPowerLossAndReturn : Obligations.AlwaysOnPowerLossAndReturn := by
  unfold Obligations.AlwaysOnPowerLossAndReturn
  refine ⟨fun s haon => ?loss, fun s straps => ?up⟩
  case loss =>
    obtain ⟨n, p, d, h, v, t, w, heq, hd, hh, hmb, hen, _⟩ := aonPowerLoss_eq s.now haon
    refine ⟨_, exec_aonPowerLoss s haon, ?_⟩
    simp [State.after, heq, hd, hh, hmb, hen]
  case up =>
    obtain ⟨hnvf, hcht, hfloor⟩ := aonPowerLoss_keeps s.now
    refine ⟨_, exec_aonPowerUp straps s, ?_⟩
    rcases aonPowerUp_eq straps s.now with h | h <;> obtain ⟨x, hx⟩ := dropDeltas_eq (fun d => d.complete) (aonPowerLoss s.now) <;>
      simp [h, powerOnReset, hx, hnvf, hcht, hfloor, NvfSt.kept, ChartSt.kept, Logbook.kept]

/-! ### SYS_RST_N -/

/-- What a system reset leaves empty (R479). -/
theorem systemReset_empties (b : Blk) : (systemReset b).host.held = [] ∧ (systemReset b).halo.lines = [] ∧ (systemReset b).halo.mb = [] ∧
    (systemReset b).cph.slots = [] ∧ (systemReset b).fw = {} := by
  simp [systemReset, HostSt.kept]

/-- An assertion outside a Dusk and outside a reset ends in a system reset, with the Dawn at D0 where no rail is being lowered. -/
theorem sysRstAssert_eq (phys : Phys) (b : Blk) (hdusk : b.inDusk = false) (hrst : b.pwr.sysRst = false) : ∃ x, sysRstAssert phys b =
    modPwr (fun p => { p with sysRst := true, twilight := false, warmKeep := false, stage := if p.seq = .lowering || p.seq = .minOff then .down else .dawn 0 }) (systemReset x) := by
  unfold sysRstAssert
  rw [hdusk, hrst]
  exact ⟨_, rfl⟩

/-- Settles O4. -/
theorem systemResetPin : Obligations.SystemResetPin := by
  unfold Obligations.SystemResetPin
  refine ⟨fun s phys haon hdusk hrst => ?assert, fun s phys haon hno => ?ignored, fun s straps haon hrst => ?deassert, fun s straps haon hrst => ?outside⟩
  case assert =>
    obtain ⟨x, hx⟩ := sysRstAssert_eq phys s.now hdusk hrst
    obtain ⟨hheld, hlines, hmb, hslots, hfw⟩ := systemReset_empties x
    refine ⟨_, exec_sysRstAssert s haon phys, ?_⟩
    rw [hx]
    refine ⟨by simp [State.after], ?_, by simp [State.after, hheld], by simp [State.after, hlines], by simp [State.after, hmb], by simp [State.after, hslots],
      by simp [State.after, hfw], rfl, rfl⟩
    simp only [State.after, closeStep_pwr, modPwr_pwr]
    split
    · exact .inr rfl
    · exact .inl rfl
  case ignored =>
    rw [exec_sysRstAssert s haon, sysRstAssert, if_pos (by simpa using hno)]
  case deassert =>
    rw [exec_sysRstDeassert s haon, sysRstDeassert, hrst]; rfl
  case outside =>
    rw [exec_sysRstDeassert s haon, sysRstDeassert, hrst]; rfl

end Sys2Proof.Machine
end

section
/-!
PROOF. The stages of a Dawn (R387 to R390, Table 14-5): each stage's branches, once for each.
-/
namespace Sys2Proof.Machine
open Sys2Proof

/-! ### D0, D2 and D3 -/

/-- A system reset leaves the power state alone (R391). -/
theorem systemReset_pwr (b : Blk) : (systemReset b).pwr = b.pwr := by
  have hdrop : ∀ x, (dropDeltas (fun d => d.complete) x).pwr = x.pwr := fun _ => rfl
  simp [systemReset, hdrop, noteExtents, abortUpdate_power_pers]

/-- A power cycle is counted where the rails have been down (R383). -/
theorem d0Begin_cycles (b : Blk) :
    (d0Begin b).pwr.boot.cycles = if b.pwr.boot.railsWentDown then b.pwr.boot.cycles + 1 else b.pwr.boot.cycles := by
  unfold d0Begin
  cases b.pwr.boot.railsWentDown
  · rfl
  · simp [systemReset_pwr]

theorem noteBegun_mgt (n : Nat) (b : Blk) : (noteBegun n b).mgt = b.mgt := by unfold noteBegun; split <;> simp

/-- The two banks as D2 has checked them. -/
def Blk.banksChecked (b : Blk) : Blk :=
  noteBegun 0 (noteBegun 1 { b with mgt := { b.mgt with infoA := b.bankInfo 0 false, infoB := b.bankInfo 1 false, pendingReset := false } })

theorem banksChecked_active (b : Blk) : b.banksChecked.mgt.active = b.mgt.active := by simp [Blk.banksChecked, noteBegun_mgt]

/-- A bank runs, and the cores report or do not (R471, Table 14-7). -/
def startBank (coresOk : Bool) (n : Nat) (b : Blk) : Blk := if coresOk then stageDone 2 3 (loadBank n b) else failDawn 2 .cores 0 (loadBank n b)

/-- The active bank is loaded where it checks out, else the other where that does (R471). -/
theorem dawnD2_readable (coresOk : Bool) (b : Blk) (hst : b.atStage 2 = true) (ha : b.mgt.active < 2) :
    dawnD2 false false coresOk b =
      if (b.bankInfo b.mgt.active false).result = .ok then startBank coresOk b.mgt.active b.banksChecked
      else if (b.bankInfo (1 - b.mgt.active) false).result = .ok then
        startBank coresOk (1 - b.mgt.active)
          (addJob .bootRecord { b.banksChecked with mgt := { b.banksChecked.mgt with active := 1 - b.mgt.active, trial := false } })
      else failDawn 2 .firmware ((b.bankInfo 0 false).result.code + 256 * (b.bankInfo 1 false).result.code) b.banksChecked := by
  have hact := banksChecked_active b
  have hcheck : dawnD2 false false coresOk b =
      (let ok := fun (n : Nat) => (if n = 0 then (b.bankInfo 0 false).result else (b.bankInfo 1 false).result) == BankResult.ok
       let a := b.banksChecked.mgt.active
       if ok a || ok (1 - a) then
         startBank coresOk (if ok a then b.banksChecked else addJob .bootRecord { b.banksChecked with mgt := { b.banksChecked.mgt with active := 1 - a, trial := false } }).mgt.active
           (if ok a then b.banksChecked else addJob .bootRecord { b.banksChecked with mgt := { b.banksChecked.mgt with active := 1 - a, trial := false } })
       else failDawn 2 .firmware ((b.bankInfo 0 false).result.code + 256 * (b.bankInfo 1 false).result.code) b.banksChecked) := by
    rw [dawnD2, hst]; rfl
  rw [hcheck]
  dsimp only
  rw [hact]
  have hbit : b.mgt.active = 0 ∨ b.mgt.active = 1 := by omega
  rcases hbit with h0 | h1
  · by_cases hA : (b.bankInfo 0 false).result = .ok
    · simp [h0, hA, hact]
    · by_cases hB : (b.bankInfo 1 false).result = .ok <;> simp [h0, hA, hB]
  · by_cases hB : (b.bankInfo 1 false).result = .ok
    · simp [h1, hB, hact]
    · by_cases hA : (b.bankInfo 0 false).result = .ok <;> simp [h1, hA, hB]

/-- Settles O8. -/
theorem dawnStagesZeroToThree : Obligations.DawnStagesZeroToThree := by
  unfold Obligations.DawnStagesZeroToThree
  intro s haon
  refine ⟨fun ok r h => ?noD0, fun r h => ?noRecord, fun h => ?d0, d0Begin_cycles _, fun a b c h => ?noD2, fun c h ha => ?d2, fun h => ?noD3, fun h hlc => ?returned,
    fun h hlc => ⟨fun hp => ?pending, fun hp => ?active⟩⟩
  case noD0 => rw [exec_dawnD0 s haon, dawnD0, h]; rfl
  case noRecord => rw [exec_dawnD0 s haon, dawnD0, h]; rfl
  case d0 => rw [exec_dawnD0 s haon, dawnD0, h]; rfl
  case noD2 => rw [exec_dawnD2 s haon, dawnD2, h]; rfl
  case d2 => rw [exec_dawnD2 s haon, dawnD2_readable c _ h ha]; rfl
  case noD3 => rw [exec_dawnD3 s haon, dawnD3, h]; rfl
  case returned => rw [exec_dawnD3 s haon, dawnD3, h, hlc]; rfl
  case pending =>
    rw [exec_dawnD3 s haon, dawnD3, h, Bool.not_true, if_neg Bool.false_ne_true, if_neg hlc, hp]
    cases hv : validate (s.now.checkEnv {}) (s.now.slotBytes s.now.stagedSlot) false <;> simp only [↓reduceIte, hv]
  case active =>
    rw [exec_dawnD3 s haon, dawnD3, h, Bool.not_true, if_neg Bool.false_ne_true, if_neg hlc, hp]
    cases hv : validate (s.now.checkEnv {}) (s.now.slotBytes s.now.cht.slotRec.active) false <;> simp only [Bool.false_eq_true, ↓reduceIte, hv]

/-! ### D4 to D7 -/

/-- The Chart as D4 checks it against the population found: the default Chart is made for it (R49, R53). -/
def Blk.d4Check (x : Blk) (pool : Bool) : Verdict :=
  if x.cht.cur.isDefault then .ok (defaultChart x.population .solo false)
  else validate (x.checkEnv x.population) (x.slotBytes (if x.cht.dawnPending then x.stagedSlot else x.cht.slotRec.active)) pool

section
variable {f : SMap DimmFound} {d : List DieFound} {b x : Blk} (hst : b.atStage 4 = true) (hx : discover f d b = x)
include hst hx

theorem dawnD4_rejected {r : Reason} {n o : Nat} (h : x.d4Check false = .bad r n o) : dawnD4 f d b = failD4 r n o x := by
  subst hx; unfold Blk.d4Check at h; unfold dawnD4; rw [hst]; dsimp only; rw [h]; rfl

theorem dawnD4_unpopulated {c : Chart} (h : x.d4Check false = .ok c) (hpop : x.population.chans = [] ∨ populationOk x.population c = false) :
    dawnD4 f d b = failD4 .population (populationSect x.population c) 0 { x with cht := { x.cht with cur := c } } := by
  have hpop : (x.population.chans.isEmpty || !populationOk x.population c) = true := by simpa using hpop
  subst hx; unfold Blk.d4Check at h; unfold dawnD4; rw [hst]; dsimp only; rw [h]
  dsimp only; rw [if_pos hpop]; rfl

theorem dawnD4_done {c : Chart} (h : x.d4Check false = .ok c) (hpool : x.d4Check true = .ok c) (hchans : x.population.chans ≠ [])
    (hpop : populationOk x.population c = true) (hsum : poolCheck x.population x.cht.isB c = true) :
    ∃ w, dawnD4 f d b = stageDone 4 5 (modPwr (fun p => { p with warmKeep := w }) { x with cht := { x.cht with cur := c } }) := by
  have hpop : ¬ (x.population.chans.isEmpty || !populationOk x.population c) = true := by simp [hchans, hpop]
  have hsum : ¬ (!poolCheck x.population x.cht.isB c) = true := by simp [hsum]
  refine ⟨({ x with cht := { x.cht with cur := c } } : Blk).warmMatches f, ?_⟩
  subst hx; unfold Blk.d4Check at h hpool; unfold dawnD4; rw [hst]; dsimp only; rw [h]
  dsimp only; rw [if_neg hpop, hpool]
  dsimp only; rw [if_neg hsum]; rfl

end

/-- Under a Chart that is not the default one the pair keeps its Chart at D6 (R62). -/
theorem pairByDefault_of_not_default (b : Blk) (h : b.cht.cur.isDefault = false) : pairByDefault b = b := by
  unfold pairByDefault; rw [h, Bool.false_and]

/-- D6 after its wait, under a Chart that is not the default one (R38, R450). -/
theorem dawnD6_waited (b : Blk) (hst : b.atStage 6 = true) (hw : b.mer.waitDone = true) (hdef : b.cht.cur.isDefault = false) :
    dawnD6 b = if b.twinDiffers then failDawn 6 .twinMismatch 0 (noteReject .twinMismatch 0 0 (b.halvesOf.foldl (fun b h => sendStatus h 4 b) b))
      else stageDone 6 7 (d6Standby b) := by
  rw [dawnD6, hst, hw, hdef, Bool.or_true, Bool.true_or]
  dsimp only
  rw [pairByDefault_of_not_default b hdef]; rfl

theorem zeroFill_mer (b : Blk) : (zeroFill b).mer = b.mer := by unfold zeroFill; split <;> rfl

theorem openOrbit_mer (b : Blk) : (openOrbit b).mer = b.mer := by unfold openOrbit; split <;> simp

theorem startRebuild_mer (b : Blk) : (startRebuild b).mer = b.mer := by unfold startRebuild; split <;> simp

theorem patrolDaily_mer (b : Blk) : (patrolDaily b).mer = b.mer := by unfold patrolDaily; exact modNvf_mer _ _

theorem withScrubLines_mer (b : Blk) (n : Nat) : ({ b with dram := { b.dram with scrubLines := n } } : Blk).mer = b.mer := rfl

/-- The power and Meridian state are not the trial's, and the trial is over (R473). -/
theorem endTrial_facts (b : Blk) : ∀ x, x = (if b.mgt.trial then addJob .bootRecord { b with mgt := { b.mgt with trial := false } } else b) →
    x.pwr = b.pwr ∧ x.mer = b.mer ∧ x.mgt.trial = false := by
  rintro _ rfl
  by_cases h : b.mgt.trial = true
  · rw [if_pos h]; exact ⟨addJob_pwr .., addJob_mer .., by rw [addJob_mgt]⟩
  · rw [if_neg h]; exact ⟨rfl, rfl, by simpa using h⟩

/-- What D7 leaves: the unit in service, the failed-Dawn count clear and no bank on trial (R387, R389, R473). -/
def D7Leaves (b y : Blk) : Prop := y.pwr.stage = .service ∧ y.pwr.boot.failed = 0 ∧ y.pwr.boot.dawnOpen = none ∧ y.mer = b.mer ∧ y.mgt.trial = false

theorem dawnD7_leaves (b : Blk) (hst : b.atStage 7 = true) : D7Leaves b (dawnD7 b) := by
  rw [dawnD7, hst]
  extract_lets opened gated dramNow scrubbed patrolled rebuilt released logged served mgtNow tried
  have hopened : opened.mer = b.mer := (openOrbit_mer _).trans (zeroFill_mer b)
  clear_value opened
  have hgated : gated.mer = opened.mer := by simp only [gated]; split <;> rfl
  clear_value gated
  have hpatrolled : patrolled.mer = gated.mer := (patrolDaily_mer _).trans ((modNvf_mer _ _).trans (withScrubLines_mer gated _))
  clear_value patrolled
  have hrebuilt : rebuilt.mer = patrolled.mer := by
    simp only [rebuilt]; split
    · rfl
    · exact startRebuild_mer _
  clear_value rebuilt
  have hreleased : released.mer = rebuilt.mer := by simp only [released, releaseWindows, modPers_mer]
  clear_value released
  have hlogged : logged.mer = released.mer := by simp only [logged, logEvent_mer, powRecord_mer]
  clear_value logged
  have hserved : served.pwr.stage = .service ∧ served.pwr.boot.failed = 0 ∧ served.pwr.boot.dawnOpen = none ∧ served.mer = logged.mer := by
    simp only [served, endDawn, modPwr_pwr, modPwr_mer, and_self]
  clear_value served
  rw [Bool.not_true, if_neg Bool.false_ne_true]
  obtain ⟨hpwr, hmer, htrial⟩ := endTrial_facts served tried rfl
  clear_value tried
  unfold D7Leaves
  rw [noteCeiling_pwr, noteCeiling_mer, noteCeiling_mgt, hpwr, hmer]
  obtain ⟨hstage, hfailed, hopen, hkept⟩ := hserved
  exact ⟨hstage, hfailed, hopen, by rw [hkept, hlogged, hreleased, hrebuilt, hpatrolled, hgated, hopened], htrial⟩

/-- Settles O9. -/
theorem dawnStagesFourToSeven : Obligations.DawnStagesFourToSeven := by
  unfold Obligations.DawnStagesFourToSeven
  intro s haon
  refine ⟨fun f d h => ?noD4, fun f d h hdef hpop => ?defaultEmpty, fun f d h => ⟨fun r n o hread => ?rejected, fun c hread hpop => ?unpopulated,
    fun c hread hpool hchans hpop hsum => ?done⟩, fun m n h => ?noD5, fun m n h hlay hrep => ?metaLost, fun m n h hok => ?d5, fun h => ?noD6, fun h hst hw hsrc => ?waits,
    fun h hw hdef => ⟨fun hd => ?d6, fun hd => ?differs⟩, fun phys h => ?d7, fun phys h => ?noD7, fun n hn h => ?overrun, fun h => ?noLimit⟩
  case noD4 => rw [exec_dawnD4 s haon, dawnD4, h]; rfl
  case defaultEmpty =>
    exact ⟨defaultChart (discover f d s.now).population .solo false, by rw [exec_dawnD4 s haon, dawnD4_unpopulated h rfl (if_pos hdef) (.inl hpop)]⟩
  case rejected => rw [exec_dawnD4 s haon, dawnD4_rejected h rfl hread]
  case unpopulated => rw [exec_dawnD4 s haon, dawnD4_unpopulated h rfl hread hpop]
  case done =>
    obtain ⟨w, hdone⟩ := dawnD4_done h rfl hread hpool hchans hpop hsum
    exact ⟨w, by rw [exec_dawnD4 s haon, hdone]⟩
  case noD5 => rw [exec_dawnD5 s haon, dawnD5, h]; rfl
  case metaLost => rw [exec_dawnD5 s haon]; simp [dawnD5, h, hlay, hrep]
  case d5 => rw [exec_dawnD5 s haon]; rcases hok with hok | hok <;> simp [dawnD5, h, hok]
  case noD6 => rw [exec_dawnD6 s haon, dawnD6, h]; rfl
  case waits => rw [exec_dawnD6 s haon]; simp [dawnD6, h, hst, hw, hsrc]
  case d6 => rw [exec_dawnD6 s haon, dawnD6_waited _ h hw hdef, hd]; rfl
  case differs => rw [exec_dawnD6 s haon, dawnD6_waited _ h hw hdef, hd]; rfl
  case d7 => exact ⟨_, exec_dawnD7 s haon phys, dawnD7_leaves _ h⟩
  case noD7 => rw [exec_dawnD7 s haon, dawnD7, h]; rfl
  case overrun =>
    have hstage : s.now.pwr.stage = .dawn n := by simp only [Blk.atStage, Bool.and_eq_true, beq_iff_eq] at h; exact h.1.1.1
    obtain ⟨k, rfl⟩ : ∃ k, n = k + 2 := ⟨n - 2, by omega⟩
    rw [exec_stageTimeout s haon]; simp [stageTimeout, hstage, h]
  case noLimit =>
    rw [exec_stageTimeout s haon]; rcases h with h | h <;> simp [stageTimeout, h]

end Sys2Proof.Machine
end

section
/-!
PROOF. The Ethernet ports (R273 to R276, R295).
-/
namespace Sys2Proof.Machine
open Sys2Proof

/-- Settles O36. -/
theorem ethernetPorts : Obligations.EthernetPorts := by
  unfold Obligations.EthernetPorts
  intro s haon
  refine ⟨fun p cr hp hon => ?up, fun p cr hp => ⟨?noPort, ?noTimeout⟩, fun p cr hoff hptp => ?disabled, fun p => exec_ethPortDown s haon p, fun p hp hdown => ?timeout,
    fun p hup => ⟨?linked, fun a ha => ?asked, ?all⟩, fun p a f hnot => ?notOurs, exec_ethFrameDiscard s haon _, exec_ethFrameDiscard s haon _, exec_ethFrameDiscard s haon _⟩
  case up => rw [exec_ethPortUp s haon, ethPortUp, if_pos (by simpa [hp] using hon)]
  case noPort => rw [exec_ethPortUp s haon, ethPortUp, if_neg (by simp [Nat.not_lt.2 hp])]
  case noTimeout => rw [exec_autoNegotiationTimeout s haon, autoNegTimeout, if_neg (by simp [Nat.not_lt.2 hp])]
  case disabled => rw [exec_ethPortUp s haon, ethPortUp, if_neg (by rcases hptp with h | h <;> simp [hoff, h])]
  case timeout => rw [exec_autoNegotiationTimeout s haon, autoNegTimeout, if_pos (by simp [hp, hdown])]
  case linked => rw [exec_autoNegotiationTimeout s haon, autoNegTimeout, if_neg (by simp [hup])]
  case asked => rw [exec_neighbourSolicitation s haon, neighbourSolicitation, if_pos (by simp [hup]), if_neg ha, decide_eq_true ha]
  case all => rw [exec_neighbourSolicitation s haon, neighbourSolicitation, if_pos (by simp [hup]), if_pos rfl]; rfl
  case notOurs => rw [exec_neighbourSolicitation s haon, neighbourSolicitation, if_neg (by rcases hnot with h | h <;> simp [h])]

end Sys2Proof.Machine
end

section
/-!
PROOF. The thermal monitor (R397 to R404). A pin that asserts may react with a fence, a restart of the cores, a Dusk or an off request; none of these touches the
sensors or the throttle steps, and no error bit is cleared by them.
-/
namespace Sys2Proof.Machine
open Sys2Proof

/-! ### What the reactions of an error pin leave -/

/-- The sensors, the throttle steps, the count and the next generation's number are as they were, and every error bit that was set still is. -/
def ReactionKept (a b : Blk) : Prop :=
  (b.therm.sensors = a.therm.sensors ∧ b.therm.stepN = a.therm.stepN ∧ b.therm.stepS = a.therm.stepS) ∧
  b.mer.count = a.mer.count ∧ b.pers.sb.nextGen = a.pers.sb.nextGen ∧ ∀ k n, (SMap.get 0 a.errs k).getLsbD n = true → (SMap.get 0 b.errs k).getLsbD n = true

theorem ReactionKept.of_eq {a b : Blk} (ht : b.therm = a.therm) (he : b.errs = a.errs) (hm : b.mer.count = a.mer.count)
    (hg : b.pers.sb.nextGen = a.pers.sb.nextGen) : ReactionKept a b := by
  unfold ReactionKept; rw [ht, he]; exact ⟨⟨rfl, rfl, rfl⟩, hm, hg, fun _ _ h => h⟩

theorem ReactionKept.refl (a : Blk) : ReactionKept a a := .of_eq rfl rfl rfl rfl

theorem ReactionKept.trans {a b c : Blk} (hab : ReactionKept a b) (hbc : ReactionKept b c) : ReactionKept a c := by
  obtain ⟨⟨hs, hn, hp⟩, hm, hg, he⟩ := hab
  obtain ⟨⟨hs', hn', hp'⟩, hm', hg', he'⟩ := hbc
  exact ⟨⟨hs'.trans hs, hn'.trans hn, hp'.trans hp⟩, hm'.trans hm, hg'.trans hg, fun k n h => he' k n (he k n h)⟩

theorem ReactionKept.foldl {β : Type} (f : Blk → β → Blk) (hf : ∀ b x, ReactionKept b (f b x)) (l : List β) (b : Blk) : ReactionKept b (l.foldl f b) :=
  foldl_keeps (ReactionKept b) f l (fun a x _ h => h.trans (hf a x)) (.refl b)

theorem setErr_errs (r : ErrReg) (n : Nat) (b : Blk) : (setErr r n b).errs = SMap.upd 0 b.errs r.key (fun w => w ||| (1 <<< n)) := by
  unfold setErr; cases h : r.group <;> simp

theorem setErrLog_errs (r : ErrReg) (n : Nat) (a : LogArgs) (b : Blk) : (setErrLog r n a b).errs = (setErr r n b).errs := by
  unfold setErrLog; cases h : r.group <;> simp

/-- The bit that an error sets is set. -/
theorem setErr_sets (r : ErrReg) {n : Nat} (hn : n < 64) (b : Blk) : (SMap.get 0 (setErr r n b).errs r.key).getLsbD n = true := by
  rw [setErr_errs, SMap.get_upd_same, BitVec.getLsbD_or, Bool.or_eq_true]
  exact .inr ((BitVec.getLsbD_ofNat 64 (1 <<< n) n).trans (by simp [hn, Nat.one_shiftLeft, Nat.testBit_two_pow_self]))

theorem setErr_reactionKept (r : ErrReg) (n : Nat) (b : Blk) : ReactionKept b (setErr r n b) := by
  refine ⟨by simp, by simp, by simp, fun k m h => ?_⟩
  rw [setErr_errs]
  by_cases hk : k = r.key
  · rw [hk, SMap.get_upd_same, BitVec.getLsbD_or, ← hk, h, Bool.true_or]
  · rw [SMap.get_upd_other _ _ _ hk, h]

theorem setErrLog_reactionKept (r : ErrReg) (n : Nat) (a : LogArgs) (b : Blk) : ReactionKept b (setErrLog r n a b) :=
  (setErr_reactionKept r n b).trans (.of_eq (by simp) (setErrLog_errs r n a b) (by simp) (by simp))

theorem useSlot_reactionKept (n u : Nat) (i : Bool) (b : Blk) : ReactionKept b (useSlot n u i b) := by
  unfold useSlot
  extract_lets k spent k' used counted
  have hcounted : ReactionKept b counted := by
    simp only [counted]
    split
    · exact (ReactionKept.of_eq (by simp [used]) (by simp [used]) (by simp [used]) (by simp [used])).trans (setErrLog_reactionKept ..)
    · exact .of_eq (by simp [used]) (by simp [used]) (by simp [used]) (by simp [used])
  clear_value counted
  (repeat' split)
  · exact .refl b
  · exact hcounted.trans (setErr_reactionKept ..)
  · exact hcounted.trans ((ReactionKept.of_eq (by simp) (by simp) (by simp) (by simp)).trans (setErrLog_reactionKept ..))
  · exact hcounted

theorem writeLine_reactionKept (l : Nat) (d : Line) (p : Bool) (s : Nat) (b : Blk) : ReactionKept b (writeLine l d p s b) := by
  refine .trans (b := putLine l (b.lineFor l d p s) b) ?_ (useSlot_reactionKept ..)
  unfold putLine; split
  · exact .of_eq (by simp) (by simp) (by simp) (by simp)
  · exact .of_eq rfl rfl rfl rfl

theorem flushHalo_reactionKept (k : Bool) (e : Nat × HaloLine) (b : Blk) : ReactionKept b (flushHalo k e b) := by
  unfold flushHalo
  split
  · exact .refl b
  · extract_lets written
    have hwritten : ReactionKept b written := by
      simp only [written]; split
      · exact writeLine_reactionKept ..
      · exact .refl b
    clear_value written
    split <;> exact hwritten.trans (.of_eq (by simp) (by simp) (by simp) (by simp))

theorem flushEntry_reactionKept (e : Nat × MbEntry) (b : Blk) : ReactionKept b (flushEntry e b) := by
  unfold flushEntry
  extract_lets m fed h cleared
  refine .trans (b := cleared) ?_ (writeLine_reactionKept ..)
  have hfed : ReactionKept b fed := by
    simp only [fed]; split
    · exact .refl b
    · exact .of_eq (by simp) (by simp) (by simp) (by simp)
  exact hfed.trans (.of_eq rfl rfl rfl rfl)

theorem flushHalf_reactionKept (h : Nat) (b : Blk) : ReactionKept b (flushHalf h b) :=
  (ReactionKept.foldl _ (fun b e => flushHalo_reactionKept false e b) _ b).trans (ReactionKept.foldl _ (fun b e => flushEntry_reactionKept e b) _ _)

theorem holdWindows_reactionKept (b : Blk) : ReactionKept b (holdWindows b) :=
  .foldl _ (fun b n => by
    dsimp only; split
    · exact .refl b
    · exact .of_eq (by simp) (by simp) (by simp) (by simp)) _ b

theorem fenceHalf_reactionKept (h : Nat) (b : Blk) : ReactionKept b (fenceHalf h b) := by
  unfold fenceHalf; split
  · refine .trans ?_ (flushHalf_reactionKept ..)
    exact (holdWindows_reactionKept b).trans (.of_eq (by simp [beginEclipse]) (by simp [beginEclipse]) (by simp [beginEclipse]) (by simp [beginEclipse]))
  · exact .refl b

theorem releaseAll_reactionKept (c : Nat) (b : Blk) : ReactionKept b (releaseAll c b) := by
  refine .foldl _ (fun b h => ?_) _ b
  unfold releaseHalf; split
  · exact (fenceHalf_reactionKept h b).trans (.of_eq (by simp [sendArb]) (by simp [sendArb]) (by simp [sendArb]) (by simp [sendArb]))
  · exact .refl b

theorem dropSummary_reactionKept (c : Nat) (b : Blk) : ReactionKept b (dropSummary c b) := by
  unfold dropSummary; dsimp only; split
  · exact .refl b
  · exact .of_eq (by simp) (by simp) (by simp) (by simp)

theorem abortUpdate_reactionKept (b : Blk) : ReactionKept b (abortUpdate b) := by
  unfold abortUpdate; split
  · exact .refl b
  · exact (ReactionKept.of_eq rfl rfl rfl rfl).trans (setErr_reactionKept ..)

theorem abandonHourly_reactionKept (b : Blk) : ReactionKept b (abandonHourly b) := by
  unfold abandonHourly; dsimp only; split
  · exact .of_eq (by simp) (by simp) (by simp) (by simp)
  · exact .of_eq rfl rfl rfl rfl

theorem abortDawn_reactionKept (b : Blk) : ReactionKept b (abortDawn b) := by
  obtain ⟨o, h⟩ := abortDawn_eq b; rw [h]; exact .of_eq rfl rfl rfl rfl

theorem trigger_reactionKept (t n : Bool) (b : Blk) : ReactionKept b (trigger t n b) := by
  unfold trigger
  split
  · exact .refl b
  · extract_lets aborted persNow dusk marked almNow thermNow frozen logged jobs summed eclipsed hostNow held released closedN closedS
    have haborted : ReactionKept b aborted := (holdWindows_reactionKept b).trans ((abortDawn_reactionKept _).trans (abortUpdate_reactionKept _))
    clear_value aborted
    have hlogged : ReactionKept aborted logged := by
      refine ⟨?_, by simp [logged, frozen, marked, dusk], by simp [logged, frozen, marked, dusk, persNow], fun k n h => ?_⟩
      · simp [logged, frozen, thermNow, marked, dusk]
      · simpa [logged, frozen, marked, dusk] using h
    clear_value logged
    have hjobs : ReactionKept logged jobs := (abandonHourly_reactionKept logged).trans (.of_eq (by simp [jobs]) (by simp [jobs]) (by simp [jobs]) (by simp [jobs]))
    clear_value jobs
    have hsummed : ReactionKept jobs summed := .foldl _ (fun b e => dropSummary_reactionKept _ b) _ jobs
    clear_value summed
    have hreleased : ReactionKept held released := releaseAll_reactionKept _ _
    have hheld : ReactionKept summed held := .of_eq rfl rfl rfl rfl
    clear_value released held
    exact haborted.trans (hlogged.trans (hjobs.trans (hsummed.trans (hheld.trans (hreleased.trans (.of_eq rfl rfl rfl rfl))))))

theorem cutSave_sb (b : Blk) : (cutSave b).pers.sb = b.pers.sb := by
  unfold cutSave
  split
  · dsimp only; split <;> rfl
  · rfl

theorem railsDown_reactionKept (b : Blk) : ReactionKept b (railsDown b) := by
  obtain ⟨n, p, h⟩ := cutSave_eq b
  have hsb : p.sb = b.pers.sb := by rw [← cutSave_sb b, h]
  unfold railsDown; rw [h]
  exact ⟨⟨rfl, rfl, rfl⟩, rfl, congrArg (fun x : Superblock => x.nextGen) hsb, fun _ _ h => h⟩

theorem cutRails_reactionKept (b : Blk) : ReactionKept b (cutRails b) := (ReactionKept.of_eq rfl rfl rfl rfl).trans (railsDown_reactionKept _)

theorem beginRaise_reactionKept (n : Nat) (b : Blk) : ReactionKept b (beginRaise n b) := by
  unfold beginRaise; split <;> exact .of_eq rfl rfl rfl rfl

theorem lowerNext_reactionKept (b : Blk) : ReactionKept b (lowerNext b) := by
  unfold lowerNext; split
  · unfold lowerDone; split
    · exact .of_eq rfl rfl rfl rfl
    · exact .of_eq rfl rfl rfl rfl
    · exact beginRaise_reactionKept ..
    · exact railsDown_reactionKept b
  · exact .of_eq rfl rfl rfl rfl

theorem lowerWhile_reactionKept (n : Nat) (b : Blk) : ReactionKept b (lowerWhile n b) := by
  induction n generalizing b with
  | zero => exact .refl b
  | succ n ih =>
    unfold lowerWhile; split
    · exact (lowerNext_reactionKept b).trans (ih _)
    · exact .refl b

theorem startLower_reactionKept (w : LowerWhy) (k : Nat) (b : Blk) : ReactionKept b (startLower w k b) := by
  unfold startLower
  extract_lets lowering
  have hlowering : ReactionKept b lowering := .of_eq rfl rfl rfl rfl
  exact hlowering.trans ((lowerNext_reactionKept _).trans (lowerWhile_reactionKept 17 _))

theorem offIfSettled_reactionKept (b : Blk) : ReactionKept b (offIfSettled b) := by
  unfold offIfSettled; split
  · exact (ReactionKept.of_eq (by simp) (by simp) (by simp) (by simp)).trans ((abortDawn_reactionKept _).trans (startLower_reactionKept ..))
  · exact .refl b

theorem offRequest_reactionKept (b : Blk) : ReactionKept b (offRequest b) := by
  have hrecord : ReactionKept b (abortDawn (powRecord .offDuringUp {} b)) := (ReactionKept.of_eq (by simp) (by simp) (by simp) (by simp)).trans (abortDawn_reactionKept _)
  unfold offRequest; split
  · exact (ReactionKept.of_eq rfl rfl rfl rfl).trans (offIfSettled_reactionKept _)
  · exact hrecord.trans (.of_eq rfl rfl rfl rfl)
  · exact hrecord.trans (.of_eq rfl rfl rfl rfl)
  · split
    · exact .refl b
    · exact (abortDawn_reactionKept b).trans (startLower_reactionKept ..)
  · exact .refl b

theorem duskOrOff_reactionKept (t n : Bool) (b : Blk) : ReactionKept b (duskOrOff t n b) := by
  unfold duskOrOff; split
  · exact trigger_reactionKept ..
  · exact offRequest_reactionKept b

theorem firmwareReset_reactionKept (b : Blk) : ReactionKept b (firmwareReset b) := by
  unfold firmwareReset; split
  · exact .refl b
  · exact .of_eq (by simp [dropCommit]) (by simp [dropCommit]) (by simp [dropCommit]) (by simp [dropCommit])

theorem react_reactionKept (a : FaultAction) (b : Blk) : ReactionKept b (react a b) := by
  unfold react; split
  · exact .refl b
  · cases a with
    | none => exact .refl b
    | release => dsimp only; split
                 · exact releaseAll_reactionKept ..
                 · exact .refl b
    | firmwareRestart => dsimp only; split
                         · exact .refl b
                         · exact firmwareReset_reactionKept b
    | duskOff =>
      have hhold : ReactionKept b (setHoldOff b) := .of_eq rfl rfl rfl rfl
      dsimp only; exact hhold.trans (duskOrOff_reactionKept false true _)
    | duskCycle => dsimp only; exact duskOrOff_reactionKept false true b

theorem logRecord_reactionKept (n : Nat) (a : LogArgs) (b : Blk) : ReactionKept b (logRecord n a b) := .of_eq (by simp) (by simp) (by simp) (by simp)

/-- A pin that latches keeps what its event, its record and its reaction keep (R410 to R412). -/
theorem latchWith_reactionKept {post note : Blk → Blk} (hpost : ∀ b, ReactionKept b (post b)) (hnote : ∀ b, ReactionKept b (note b)) (pin : Nat) (loc : W64) (b : Blk) :
    ReactionKept b (latchWith post note pin loc b) := by
  unfold latchWith
  extract_lets f g latched posted noted
  have hlatched : ReactionKept b latched := .of_eq rfl rfl rfl rfl
  clear_value latched
  have hposted : ReactionKept latched posted := by
    simp only [posted]; split
    · exact .refl _
    · exact hpost latched
  clear_value posted
  exact hlatched.trans (hposted.trans ((logRecord_reactionKept ..).trans ((hnote _).trans (react_reactionKept _ noted))))

theorem postVendor_reactionKept (k : VendorEv) (a : EvArgs) (b : Blk) : ReactionKept b (postVendor k a b) := .of_eq (by simp) (by simp) (by simp) (by simp)

theorem assertPin_reactionKept (pin : Nat) (loc : W64) (b : Blk) : ReactionKept b (assertPin pin loc b) := by
  unfold assertPin; split
  · exact .refl b
  · exact latchWith_reactionKept (postVendor_reactionKept _ _) .refl ..

/-! ### The monitor's steps -/

theorem setThrottle_reactionKept (s v : Bool) (b : Blk) : ReactionKept b (setThrottle s v b) := by cases s <;> exact ⟨⟨rfl, rfl, rfl⟩, rfl, rfl, fun _ _ h => h⟩

theorem warnLevel_reactionKept (b : Blk) : ReactionKept b (warnLevel b) := by
  unfold warnLevel
  extract_lets c
  split
  · have hwarn : ReactionKept b (modTherm (fun t => { t with warn := true }) b) := ⟨⟨rfl, rfl, rfl⟩, rfl, rfl, fun _ _ h => h⟩
    exact hwarn.trans ((setErr_reactionKept ..).trans (assertPin_reactionKept ..))
  · split
    · exact ⟨⟨rfl, rfl, rfl⟩, rfl, rfl, fun _ _ h => h⟩
    · exact .refl b

theorem throttleLevel_reactionKept (s : Bool) (b : Blk) : ReactionKept b (throttleLevel s b) := by
  unfold throttleLevel
  extract_lets c
  split
  · exact (setThrottle_reactionKept s true b).trans ((setErrLog_reactionKept ..).trans (assertPin_reactionKept ..))
  · split
    · exact setThrottle_reactionKept ..
    · exact .refl b

theorem noteOn_reactionKept (a b : Blk) : ReactionKept b (noteOn a b) := by
  unfold noteOn; split
  · exact .of_eq (by simp) (by simp) (by simp) (by simp)
  · exact .refl b

theorem shutdown_reactionKept (v : Bool) (b : Blk) : ReactionKept b (modTherm (fun t => { t with shutdown := v }) b) := ⟨⟨rfl, rfl, rfl⟩, rfl, rfl, fun _ _ h => h⟩

theorem shutdownLevel_reactionKept (b : Blk) : ReactionKept b (shutdownLevel b) := by
  unfold shutdownLevel
  split
  · exact (shutdown_reactionKept true b).trans ((setErrLog_reactionKept ..).trans ((assertPin_reactionKept ..).trans (duskOrOff_reactionKept true false _)))
  · split
    · exact (shutdown_reactionKept false b).trans (noteOn_reactionKept b _)
    · exact .refl b

/-- Outside a system reset a sample is what its sensors give, with the levels that follow (R397 to R402). -/
theorem sensorSample_reactionKept (m : SMap Int) (b : Blk) (hrst : b.pwr.sysRst = false) : ReactionKept (m.foldl sampleSensor b) (sensorSample m b) := by
  rw [sensorSample, hrst]
  have hpeak : ∀ x : Blk, ReactionKept x (modTherm (fun t => { t with peak := hotter t.peak x.temp }) x) := fun x => ⟨⟨rfl, rfl, rfl⟩, rfl, rfl, fun _ _ h => h⟩
  exact (hpeak _).trans ((warnLevel_reactionKept _).trans ((throttleLevel_reactionKept ..).trans ((throttleLevel_reactionKept ..).trans (shutdownLevel_reactionKept _))))

/-- The sensor as a sample leaves it (R397, R398). -/
def Sensor.sampled (s : Sensor) (v : Int) (k : Nat) : Sensor :=
  { reading := if sampleCause s v k = 0 then some v else s.reading, cause := sampleCause s v k, raw := v, same := k }

/-- The block with one sensor sampled. -/
def Blk.withSample (b : Blk) (n : Nat) (v : Int) (k : Nat) : Blk :=
  modTherm (fun t => { t with sensors := SMap.put Sensor.fresh t.sensors n ((b.sensor n).sampled v k) }) b

theorem sampleSensor_eq (b : Blk) {n : Nat} {v : Int} {k : Nat} (hn : n < 32) (hp : b.unpowered n = false) (hc : (b.sensor n).cause = 0)
    (hk : k = if 0 < (b.sensor n).same ∧ (b.sensor n).raw = v then (b.sensor n).same + 1 else 1) :
    sampleSensor b (n, v) = if sampleCause (b.sensor n) v k = 0 then feedMetric 4 n v (b.withSample n v k)
      else assertPin 85 (sensorLoc n) (setErrLog .thm 4 { kind := .fault, loc := sensorLoc n } (b.withSample n v k)) := by
  have hk' : (if (decide (0 < (b.sensor n).same) && decide ((b.sensor n).raw = v)) = true then (b.sensor n).same + 1 else 1) = k := by simp [hk]
  unfold sampleSensor
  dsimp only
  rw [if_neg (by simp [hn, hp, hc]), hk']
  rfl

theorem withSample_sensor (b : Blk) (n : Nat) (v : Int) (k : Nat) : (b.withSample n v k).sensor n = (b.sensor n).sampled v k := SMap.get_put_same ..

theorem withSample_sensor_other (b : Blk) {n m : Nat} (v : Int) (k : Nat) (h : m ≠ n) : (b.withSample n v k).sensor m = b.sensor m := SMap.get_put_other _ _ _ h

theorem ReactionKept.sensor {a b : Blk} (h : ReactionKept a b) (n : Nat) : b.sensor n = a.sensor n := by
  obtain ⟨⟨hs, _, _⟩, _⟩ := h
  unfold Blk.sensor; rw [hs]

/-- A hard trip of a sensor that counts cuts every rail (R403). -/
theorem hardTrip_eq (b : Blk) {n : Nat} {v : Int} (hn : n < 32) (hp : b.unpowered n = false) (hc : (b.sensor n).cause = 0)
    (hv : ((b.cht.cur.thermal.shutdownC + 8 : Nat) : Int) * 16 ≤ v) :
    hardTrip n v b = setErrLog .thm 3 { kind := .fault, loc := sensorLoc n, detail := natLe 1 n ++ natLe 2 (signedBits 16 v) }
      (cutRails (modTherm (fun t => { t with shutdown := true }) (abortDawn b))) := by
  unfold hardTrip; rw [if_neg (by simp [hn, hp, hc]; omega)]

theorem cutRails_off (b : Blk) : (cutRails b).pwr.en = 0 ∧ (cutRails b).therm.shutdown = b.therm.shutdown := by
  unfold cutRails railsDown
  obtain ⟨n, p, h⟩ := cutSave_eq (modPwr (fun p => { p with en := 0, keep := 0, lowerWhy := .offRequest }) b)
  rw [h]; exact ⟨rfl, rfl⟩

/-- Settles O47. -/
theorem thermalMonitor : Obligations.ThermalMonitor := by
  unfold Obligations.ThermalMonitor
  intro s haon
  refine ⟨fun hrst => ⟨fun m => ?noSample, ?noStep⟩, fun n v k hrst hn hp hc hk => ⟨fun hok => ?valid, fun hbad => ?broken⟩, fun hfrz => ?frozen, fun hfrz hrst => ?step,
    fun n v hn hp hc hv => ?trip, fun n v hnot => ?noTrip⟩
  case noSample => rw [exec_sensorSample s haon, sensorSample, hrst]; rfl
  case noStep => rw [exec_throttleStep s haon, throttleStep, hrst, Bool.or_true]; rfl
  case valid =>
    have hkept := sensorSample_reactionKept [(n, v)] s.now hrst
    rw [List.foldl_cons, List.foldl_nil, sampleSensor_eq _ hn hp hc hk, if_pos hok] at hkept
    have hkept := (ReactionKept.of_eq (feedMetric_therm ..) (feedMetric_errs ..) (by simp) (by simp)).trans hkept
    refine ⟨_, exec_sensorSample s haon _, ?_, fun m hm => ?_, ?_⟩
    · rw [hkept.sensor, withSample_sensor, Sensor.sampled, hok, if_pos rfl]
    · rw [hkept.sensor, withSample_sensor_other _ _ _ hm]
    · obtain ⟨⟨_, hstepN, hstepS⟩, _⟩ := hkept
      exact ⟨hstepN, hstepS⟩
  case broken =>
    have hkept := sensorSample_reactionKept [(n, v)] s.now hrst
    rw [List.foldl_cons, List.foldl_nil, sampleSensor_eq _ hn hp hc hk, if_neg hbad] at hkept
    have hkept := (assertPin_reactionKept ..).trans hkept
    have hsens := (setErrLog_reactionKept ..).trans hkept
    refine ⟨_, exec_sensorSample s haon _, ?_, ?_, fun m hm => ?_, ?_⟩
    · rw [hsens.sensor, withSample_sensor, Sensor.sampled]
    · rw [hsens.sensor, withSample_sensor, Sensor.sampled, if_neg hbad]
    · rw [hsens.sensor, withSample_sensor_other _ _ _ hm]
    · obtain ⟨_, _, _, herr⟩ := hkept
      exact herr _ _ (by rw [setErrLog_errs]; exact setErr_sets .thm (by decide) _)
  case frozen => rw [exec_throttleStep s haon, throttleStep, hfrz, Bool.true_or]; rfl
  case step => rw [exec_throttleStep s haon, throttleStep, hfrz, hrst]; rfl
  case trip =>
    obtain ⟨hen, hshut⟩ := cutRails_off (modTherm (fun t => { t with shutdown := true }) (abortDawn s.now))
    refine ⟨_, exec_hardTrip s haon n v, ?_⟩
    rw [hardTrip_eq _ hn hp hc hv, setErrLog_pwr, setErrLog_therm, setErrLog_errs]
    exact ⟨hen, hshut, setErr_sets .thm (by decide) _⟩
  case noTrip =>
    rw [exec_hardTrip s haon, hardTrip, if_pos]
    simpa only [Bool.or_eq_true, decide_eq_true_eq, bne_iff_ne, or_assoc] using hnot

end Sys2Proof.Machine
end

section
/-!
PROOF. The eFlash controller's jobs (R431 to R438).
-/
namespace Sys2Proof.Machine
open Sys2Proof

/-! ### The job queue -/

theorem pickJob_busy {b : Blk} (h : b.efl.cur.isSome = true) : pickJob b = b := by unfold pickJob; rw [if_pos h]

theorem pickJob_nothing {b : Blk} (h : b.efl.jobs = []) : pickJob b = b := by
  unfold pickJob; rw [h]; split <;> rfl

/-- A job that is taken from the queue begins (R434, R436). -/
def beginJob (j : EflJob) (b : Blk) : Blk := match j with | .erase s => startErase s b | _ => b

/-- The job is under way, and out of the queue. -/
def Blk.withJob (b : Blk) (j : EflJob) : Blk := { b with efl := { b.efl with cur := some j, jobs := b.efl.jobs.erase j } }

theorem pickJob_takes {b : Blk} {j : EflJob} (hcur : b.efl.cur = none) (hj : b.efl.jobs.find? (fun j => b.jobRuns j) = some j) :
    pickJob b = beginJob j (b.withJob j) := by
  unfold pickJob; rw [hcur]; simp only [hj]; cases j <;> rfl

theorem startErase_efl (s : Nat) (b : Blk) : ∃ g, (startErase s b).efl = { b.efl with begun := g } := by
  unfold startErase; dsimp only; (repeat' split) <;> exact ⟨_, rfl⟩

/-- The next job changes the job under way, the queue and the marks of begun erases only. -/
theorem pickJob_efl (b : Blk) : ∃ c js g, (pickJob b).efl = { b.efl with cur := c, jobs := js, begun := g } := by
  unfold pickJob
  split
  · exact ⟨_, _, _, rfl⟩
  · split
    · exact ⟨_, _, _, rfl⟩
    · next j hj =>
      cases j with
      | erase s => obtain ⟨g, h⟩ := startErase_efl s (b.withJob (.erase s))
                   exact ⟨_, _, g, h⟩
      | _ => exact ⟨_, _, _, rfl⟩

/-- An erase at the front of the queue begins where none is suspended and no Dusk is under way. -/
theorem pickJob_erase {b : Blk} {i : Nat} {rest : List EflJob} (hcur : b.efl.cur = none) (hs : b.efl.susp = none) (hdusk : b.inDusk = false)
    (hjobs : b.efl.jobs = .erase i :: rest) : pickJob b = startErase i { b with efl := { b.efl with cur := some (.erase i), jobs := rest } } := by
  rw [pickJob_takes (j := .erase i) hcur (by rw [hjobs]; exact List.find?_cons_of_pos (by simp [Blk.jobRuns, hs, hdusk])), beginJob, Blk.withJob, hjobs,
    List.erase_cons_head]

theorem jobEnds_efl (b : Blk) : ∃ c js g, (jobEnds b).efl = { b.efl with cur := c, jobs := js, begun := g } := by
  obtain ⟨c, js, g, h⟩ := pickJob_efl { b with efl := { b.efl with cur := none } }
  exact ⟨c, js, g, h⟩

theorem jobEnds_nothing {b : Blk} (h : b.efl.jobs = []) : jobEnds b = { b with efl := { b.efl with cur := none } } := by
  unfold jobEnds; rw [pickJob_nothing (by exact h)]

theorem addJob_busy (j : EflJob) {b : Blk} (h : b.efl.cur.isSome = true) : addJob j b = { b with efl := { b.efl with jobs := b.efl.jobs ++ [j] } } := by
  unfold addJob; rw [pickJob_busy (by exact h)]

/-- A record that comes while a job is under way only waits behind it. -/
theorem bufferRecord_busy (t : Nat) (a : LogArgs) {b : Blk} (h : b.efl.cur.isSome = true) : ∃ js, (bufferRecord t a b).efl = { b.efl with jobs := js } := by
  unfold bufferRecord
  dsimp only
  split
  · exact ⟨_, rfl⟩
  · rw [addJob_busy _ (by exact h)]; exact ⟨_, rfl⟩

theorem logRecord_busy (t : Nat) (a : LogArgs) {b : Blk} (h : b.efl.cur.isSome = true) : ∃ js, (logRecord t a b).efl = { b.efl with jobs := js } := by
  unfold logRecord
  split
  · exact bufferRecord_busy t a h
  · split
    · exact bufferRecord_busy t a (b := { b with logbook := _ }) h
    · exact ⟨_, rfl⟩

theorem setErrLog_busy (r : ErrReg) (n : Nat) (a : LogArgs) {b : Blk} (h : b.efl.cur.isSome = true) : ∃ js, (setErrLog r n a b).efl = { b.efl with jobs := js } := by
  unfold setErrLog
  split
  · obtain ⟨js, hjs⟩ := logRecord_busy (0x100 * (_ % 0x100) + n) a (b := setErr r n b) (by rw [setErr_efl]; exact h)
    exact ⟨js, by rw [hjs, setErr_efl]⟩
  · exact ⟨b.efl.jobs, by rw [setErr_efl]⟩

/-- While an erase is suspended no erase goes on, and the next job leaves the Logbook and the Almanac alone. -/
theorem pickJob_suspended (b : Blk) {i : Nat} (hs : b.efl.susp = some i) (hcur : b.efl.cur = none) :
    (∃ c js, pickJob b = { b with efl := { b.efl with cur := c, jobs := js } }) ∧ ∀ k, (pickJob b).efl.cur ≠ some (.erase k) := by
  cases hj : b.efl.jobs.find? (fun j => b.jobRuns j) with
  | none =>
    have hnone : pickJob b = b := by unfold pickJob; rw [hcur, hj]; rfl
    rw [hnone, hcur]; exact ⟨⟨none, b.efl.jobs, by rw [← hcur]⟩, by simp⟩
  | some j =>
    have hruns : b.jobRuns j = true := by simpa using List.find?_some hj
    rw [pickJob_takes hcur hj]
    cases j with
    | erase k => simp [Blk.jobRuns, hs] at hruns
    | _ => exact ⟨⟨_, _, rfl⟩, by simp [beginJob, Blk.withJob]⟩

/-- A job that waits is under way or waits still once another has ended. -/
theorem jobEnds_keeps_job (b : Blk) {j : EflJob} (hj : j ∈ b.efl.jobs) (hprog : ∀ k, j ≠ .erase k) : (jobEnds b).efl.cur = some j ∨ j ∈ (jobEnds b).efl.jobs := by
  unfold jobEnds
  generalize hx : ({ b with efl := { b.efl with cur := none } } : Blk) = x
  have hcur : x.efl.cur = none := by rw [← hx]
  have hjobs : j ∈ x.efl.jobs := by rw [← hx]; exact hj
  cases hf : x.efl.jobs.find? (fun j => x.jobRuns j) with
  | none =>
    have hnone : pickJob x = x := by unfold pickJob; rw [hcur, hf]; rfl
    rw [hnone]; exact .inr hjobs
  | some i =>
    rw [pickJob_takes hcur hf]
    by_cases hij : j = i
    · subst hij
      cases j with
      | erase k => exact absurd rfl (hprog k)
      | _ => exact .inl rfl
    · have hmem : j ∈ x.efl.jobs.erase i := (List.mem_erase_of_ne hij).2 hjobs
      cases i with
      | erase k =>
        obtain ⟨g, h⟩ := startErase_efl k (x.withJob (.erase k))
        exact .inr (by rw [beginJob, h]; exact hmem)
      | _ => exact .inr hmem

/-! ### The ends of programs and erases -/

theorem eflashProgramDone_boot (ok : Bool) (phys : Phys) (b : Blk) (hdusk : b.inDusk = false) (hcur : b.efl.cur = some .bootRecord) :
    eflashProgramDone ok phys b = if ok then jobEnds b else jobEnds (jobFails .bootRecord b) := by
  have hfail : (jobFails .bootRecord b).inDusk = false := by simpa [Blk.inDusk, jobFails] using hdusk
  unfold eflashProgramDone
  rw [hcur]
  cases ok
  · simp only [Bool.false_eq_true, ↓reduceIte, hfail]
  · simp only [↓reduceIte, jobEffect, hdusk, Bool.false_eq_true]

/-- A record that is programmed before the head's last places only moves the head on (R422). -/
theorem eflashProgramDone_record (phys : Phys) (b : Blk) {r : LogRec} {rest : List LogRec} (hdusk : b.inDusk = false) (hcur : b.efl.cur = some .logRecord)
    (hjobs : b.efl.jobs = []) (hbuf : b.logbook.buf = r :: rest) (hpos : b.logbook.headPos < 508) :
    eflashProgramDone true phys b = { b with efl := { b.efl with cur := none }, logbook := { b.logbook with
      recs := SMap.insert b.logbook.recs (512 * b.logbook.head + b.logbook.headPos) r, buf := rest, headPos := b.logbook.headPos + 1 } } := by
  have htakes : b.logbook.takes = true := by simp [Logbook.takes]; omega
  have hprog : programRecord b = modLog (fun l => { l with recs := SMap.insert l.recs (512 * l.head + l.headPos) r, buf := rest, headPos := l.headPos + 1 }) b := by
    unfold programRecord
    rw [hbuf]
    dsimp only
    have hroom : ¬ (decide (509 ≤ b.logbook.headPos) && b.logbook.aheadErased) = true := by simp; omega
    rw [htakes, Bool.not_true, if_neg Bool.false_ne_true, if_neg hroom]
    exact if_neg (by show ¬ b.logbook.headPos + 1 = 509; omega)
  unfold eflashProgramDone
  rw [hcur]
  simp only [↓reduceIte, jobEffect, hprog]
  rw [if_neg (by simpa [Blk.inDusk] using hdusk), jobEnds_nothing (by exact hjobs)]
  rfl

/-- A failed erase outside the Logbook sets ERASE_FAIL and leaves the count (R436). -/
theorem eflashEraseDone_failed (us : Nat) (b : Blk) {i : Nat} (hcur : b.efl.cur = some (.erase i)) (hi : i < 576) (hup : b.mgt.update = .idle) :
    eflashEraseDone us false b = jobEnds (setErrLog .efl 5 { kind := .perType, detail := natLe 2 i } (feedMetric 11 0 us b)) := by
  have hlog : decide (576 ≤ i) = false := by simpa using hi
  unfold eflashEraseDone
  rw [hcur]
  simp only [hlog, Bool.false_and, Bool.false_eq_true, ↓reduceIte, setErrLog_mgt, feedMetric_mgt, hup]

theorem eflashEraseDone_done (us : Nat) (b : Blk) {i : Nat} (hcur : b.efl.cur = some (.erase i)) (hi : i < 576) (hup : b.mgt.update = .idle)
    (hredo : b.efl.redo.contains i = false) (hjobs : b.efl.jobs = []) :
    ∃ a, eflashEraseDone us true b = { b with alm := a, efl := { b.efl with cur := none, begun := b.efl.begun.filter (· != i), erases := sat32 b.efl.erases } } := by
  have hlog : decide (576 ≤ i) = false := by simpa using hi
  have hfeed : ∃ a, feedMetric 11 0 us b = { b with alm := a } := by unfold feedMetric; (repeat' split) <;> exact ⟨_, rfl⟩
  obtain ⟨a, ha⟩ := hfeed
  refine ⟨a, ?_⟩
  unfold eflashEraseDone
  rw [hcur]
  simp only [ha, hlog, hredo, Bool.false_and, Bool.false_eq_true, ↓reduceIte, hup]
  rw [jobEnds_nothing (by exact hjobs)]

/-- Settles O49. -/
theorem eflashJobs : Obligations.EflashJobs := by
  unfold Obligations.EflashJobs
  intro s phys haon
  refine ⟨fun ok hcur => ⟨?noJob, fun us => ?noErase, ?noSuspend⟩, fun ok i hcur => ?notProgram, fun hdusk hcur => ⟨?bootDone, ?bootFailed⟩,
    fun r rest hdusk hcur hjobs hbuf hpos => ?record, fun i us hcur hi hup => ⟨fun hredo hjobs => ?erased, ?eraseFailed⟩, fun j hcur hj => ⟨fun us ok => ?notErase, ?notSuspended⟩,
    fun i hcur => ?suspend, fun h => ?noResume, fun i hs hdusk hcur => ?resume⟩
  case noJob => rw [exec_eflashProgramDone s haon, eflashProgramDone, hcur]
  case noErase => rw [exec_eflashEraseDone s haon, eflashEraseDone, hcur]
  case noSuspend => rw [exec_eflashSuspend s haon, eflashSuspend, hcur]
  case notProgram => rw [exec_eflashProgramDone s haon, eflashProgramDone, hcur]
  case bootDone => rw [exec_eflashProgramDone s haon, eflashProgramDone_boot true phys _ hdusk hcur]; rfl
  case bootFailed =>
    refine ⟨_, exec_eflashProgramDone s haon phys false, ?_⟩
    rw [eflashProgramDone_boot false phys _ hdusk hcur, if_neg Bool.false_ne_true]
    have hbusy : (setErrLog .efl 4 {} s.now).efl.cur.isSome = true := by
      obtain ⟨js, h⟩ := setErrLog_busy .efl 4 {} (b := s.now) (by rw [hcur]; rfl)
      rw [h, hcur]; rfl
    refine ⟨?_, by simp [jobFails], by simp [jobFails], jobEnds_keeps_job _ ?_ (by simp)⟩
    · rw [jobEnds_errs, jobFails, addJob_errs, setErrLog_errs]; exact setErr_sets .efl (by decide) _
    · rw [jobFails, addJob_busy _ hbusy]; simp
  case record =>
    exact ⟨_, exec_eflashProgramDone s haon phys true, by rw [eflashProgramDone_record phys _ hdusk hcur hjobs hbuf hpos]; simp⟩
  case erased =>
    obtain ⟨a, h⟩ := eflashEraseDone_done us s.now hcur hi hup hredo hjobs
    exact ⟨_, exec_eflashEraseDone s haon us true, by rw [h]; simp⟩
  case eraseFailed =>
    refine ⟨_, exec_eflashEraseDone s haon us false, ?_⟩
    rw [eflashEraseDone_failed us _ hcur hi hup]
    refine ⟨?_, ?_, by simp⟩
    · rw [jobEnds_errs, setErrLog_errs]; exact setErr_sets .efl (by decide) _
    · obtain ⟨c, js, g, h⟩ := jobEnds_efl (setErrLog .efl 5 { kind := .perType, detail := natLe 2 i } (feedMetric 11 0 us s.now))
      obtain ⟨js', h'⟩ := setErrLog_busy .efl 5 { kind := .perType, detail := natLe 2 i } (b := feedMetric 11 0 us s.now) (by rw [feedMetric_efl, hcur]; rfl)
      rw [h, h', feedMetric_efl]
  case notErase =>
    rw [exec_eflashEraseDone s haon, eflashEraseDone, hcur]
    cases j with
    | erase i => exact absurd hj (by simp)
    | _ => rfl
  case notSuspended =>
    rw [exec_eflashSuspend s haon, eflashSuspend, hcur]
    cases j with
    | erase i => exact absurd hj (by simp)
    | _ => rfl
  case suspend =>
    have hsusp : eflashSuspend s.now = pickJob { s.now with efl := { s.now.efl with cur := none, susp := some i, suspends := sat32 s.now.efl.suspends } } := by
      rw [eflashSuspend, hcur]; rfl
    obtain ⟨⟨c, js, heq⟩, hno⟩ := pickJob_suspended { s.now with efl := { s.now.efl with cur := none, susp := some i, suspends := sat32 s.now.efl.suspends } } rfl rfl
    refine ⟨_, exec_eflashSuspend s haon, ?_⟩
    rw [hsusp]
    rw [heq] at hno ⊢
    exact ⟨rfl, rfl, hno, rfl, rfl, rfl, rfl⟩
  case noResume =>
    rw [exec_eflashResume s haon, eflashResume]
    rcases h with h | h
    · rw [h]
    · cases s.now.efl.susp with
      | none => rfl
      | some i => simp only [h, ↓reduceIte]
  case resume =>
    have hresume : eflashResume s.now = startErase i { s.now with efl := { s.now.efl with susp := none, cur := some (.erase i) } } := by
      rw [eflashResume, hs]
      simp only [hdusk, Bool.false_eq_true, ↓reduceIte]
      exact pickJob_erase hcur rfl hdusk rfl
    refine ⟨_, exec_eflashResume s haon, ?_⟩
    obtain ⟨g, hg⟩ := startErase_efl i { s.now with efl := { s.now.efl with susp := none, cur := some (.erase i) } }
    rw [hresume, hg]
    exact ⟨rfl, rfl, rfl, by simp, by simp⟩

end Sys2Proof.Machine
end

section
/-!
PROOF. The fault collector (R409 to R412), the Logbook's second (R425 to R427) and the Almanac (R428 to R430).
-/
namespace Sys2Proof.Machine
open Sys2Proof

/-! ### What the job queue and an error bit change of the Almanac and the Logbook -/

theorem SMap.find?_mapVal {α β : Type} (m : SMap α) (f : Nat → α → β) (k : Nat) : SMap.find? (SMap.mapVal m f) k = (SMap.find? m k).map (f k) := by
  induction m with
  | nil => rfl
  | cons e m ih =>
    obtain ⟨j, v⟩ := e
    simp only [SMap.mapVal, List.map_cons, SMap.find?] at ih ⊢
    by_cases h : j = k
    · subst h; simp
    · simpa [h] using ih

/-- An erase that begins drops an Almanac image or a Logbook sector's records. -/
theorem pickJob_alm_logbook (b : Blk) : (∃ m, (pickJob b).alm = { b.alm with images := m }) ∧ ∃ r, (pickJob b).logbook = { b.logbook with recs := r } := by
  have herase : ∀ s (x : Blk), (∃ m, (startErase s x).alm = { x.alm with images := m }) ∧ ∃ r, (startErase s x).logbook = { x.logbook with recs := r } := by
    intro s x
    unfold startErase; dsimp only
    split
    · exact ⟨⟨_, rfl⟩, ⟨_, rfl⟩⟩
    · split <;> exact ⟨⟨_, rfl⟩, ⟨_, rfl⟩⟩
  unfold pickJob
  split
  · exact ⟨⟨_, rfl⟩, ⟨_, rfl⟩⟩
  · split
    · exact ⟨⟨_, rfl⟩, ⟨_, rfl⟩⟩
    · next j _ =>
      cases j with
      | erase s => exact herase s (b.withJob (.erase s))
      | _ => exact ⟨⟨_, rfl⟩, ⟨_, rfl⟩⟩

theorem addJob_alm (j : EflJob) (b : Blk) : ∃ m, (addJob j b).alm = { b.alm with images := m } := by
  obtain ⟨⟨m, h⟩, _⟩ := pickJob_alm_logbook { b with efl := { b.efl with jobs := b.efl.jobs ++ [j] } }
  exact ⟨m, h⟩

theorem addJob_logbook (j : EflJob) (b : Blk) : ∃ r, (addJob j b).logbook = { b.logbook with recs := r } := by
  obtain ⟨_, r, h⟩ := pickJob_alm_logbook { b with efl := { b.efl with jobs := b.efl.jobs ++ [j] } }
  exact ⟨r, h⟩

theorem setErr_alm (r : ErrReg) (n : Nat) (b : Blk) : ∃ d e, (setErr r n b).alm = { b.alm with dropped := d, events := e } := by
  have hcount : ∀ g c (x : Blk), ∃ d e, (countEvent g c x).alm = { x.alm with dropped := d, events := e } := by
    intro g c x; unfold countEvent; (repeat' split) <;> exact ⟨_, _, rfl⟩
  unfold setErr
  split
  · exact hcount ..
  · exact ⟨_, _, rfl⟩

/-! ### The fault collector -/

theorem react_none_of_no_faults {b : Blk} (h : b.cht.cur.faults = []) (pin : Nat) : react (SMap.get .none b.cht.cur.faults pin) b = b := by
  rw [h]; exact react_none b

theorem recordLatch_keeps (pin : Nat) (loc : W64) (b : Blk) : (recordLatch pin loc b).dram = b.dram ∧ (recordLatch pin loc b).twin = b.twin ∧
    (recordLatch pin loc b).pwr = b.pwr ∧ (recordLatch pin loc b).errs = b.errs := by
  unfold recordLatch; split <;> simp

/-- Where the Chart names no reaction a latch is the collector's and the records' only (R410, R411). -/
theorem latchPin_quiet (pin : Nat) (loc : W64) (b : Blk) (h : b.cht.cur.faults = []) : latchPin pin loc b = recordLatch pin loc { b with flt := latchedFlt pin loc b } := by
  rw [latchPin_eq]; exact react_none_of_no_faults (by rw [recordLatch_cht]; exact h) pin

/-- What a run of latches without reactions keeps: no pin outside the mask changes, none that is set clears (R411, R412). -/
structure Latching (mask : BitVec 128) (a b : Blk) : Prop where
  faults : b.cht.cur.faults = []
  outside : ∀ p, mask.getLsbD p = false → b.flt.status.getLsbD p = a.flt.status.getLsbD p
  rises : ∀ p, a.flt.status.getLsbD p = true → b.flt.status.getLsbD p = true
  dram : b.dram = a.dram
  errs : b.errs = a.errs

theorem latchedFlt_status (pin : Nat) (loc : W64) (b : Blk) : (latchedFlt pin loc b).status = b.flt.status ||| (1 <<< pin) := by
  unfold latchedFlt; cases b.flt.firstValid <;> rfl

theorem getLsbD_or_bit (w : BitVec 128) (n p : Nat) : (w ||| (1 <<< n)).getLsbD p = (w.getLsbD p || (decide (p < 128) && decide (n = p))) := by
  rw [BitVec.getLsbD_or]
  have hbit : ((((1 <<< n : Nat)) : BitVec 128)).getLsbD p = (decide (p < 128) && decide (n = p)) := by
    refine (BitVec.getLsbD_ofNat 128 (1 <<< n) p).trans ?_
    rw [Nat.one_shiftLeft, Nat.testBit_two_pow]
  exact congrArg _ hbit

theorem assertPin_latching {mask : BitVec 128} {pin : Nat} (hpin : mask.getLsbD pin = true) (loc : W64) {a b : Blk} (h : Latching mask a b) :
    Latching mask a (assertPin pin loc b) ∧ (assertPin pin loc b).flt.status.getLsbD pin = true := by
  have hlt : pin < 128 := BitVec.lt_of_getLsbD hpin
  by_cases hset : b.flt.status.getLsbD pin = true
  · have hsame : assertPin pin loc b = b := by unfold assertPin; rw [if_pos hset]
    rw [hsame]; exact ⟨h, hset⟩
  · have hlatch : assertPin pin loc b = recordLatch pin loc { b with flt := latchedFlt pin loc b } := by
      unfold assertPin; rw [if_neg hset, latchPin_quiet _ _ _ h.faults]
    obtain ⟨hdram, _, _, herrs⟩ := recordLatch_keeps pin loc { b with flt := latchedFlt pin loc b }
    have hstatus : (assertPin pin loc b).flt.status = b.flt.status ||| (1 <<< pin) := by rw [hlatch, recordLatch_flt, latchedFlt_status]
    refine ⟨⟨?_, fun p hp => ?_, fun p hp => ?_, ?_, ?_⟩, ?_⟩
    · rw [hlatch, recordLatch_cht]; exact h.faults
    · have hne : pin ≠ p := fun he => by rw [he, hp] at hpin; exact absurd hpin (by decide)
      rw [hstatus, getLsbD_or_bit, decide_eq_false hne, Bool.and_false, Bool.or_false, h.outside p hp]
    · rw [hstatus, getLsbD_or_bit, h.rises p hp, Bool.true_or]
    · rw [hlatch, hdram]; exact h.dram
    · rw [hlatch, herrs]; exact h.errs
    · rw [hstatus, getLsbD_or_bit, decide_eq_true hlt, decide_eq_true rfl]; simp

theorem assertPins_latching {mask : BitVec 128} (l : List (Nat × W64)) (hl : ∀ x ∈ l, mask.getLsbD x.1 = true) {a b : Blk} (h : Latching mask a b) :
    Latching mask a (l.foldl (fun b x => assertPin x.1 x.2 b) b) ∧ ∀ x ∈ l, (l.foldl (fun b x => assertPin x.1 x.2 b) b).flt.status.getLsbD x.1 = true := by
  induction l generalizing a b with
  | nil => exact ⟨h, by simp⟩
  | cons y l ih =>
    have hl' : ∀ x ∈ l, mask.getLsbD x.1 = true := fun x hx => hl x (List.mem_cons_of_mem _ hx)
    obtain ⟨hstep, hset⟩ := assertPin_latching (hl y List.mem_cons_self) y.2 h
    obtain ⟨hrun, hall⟩ := ih hl' hstep
    have hself : Latching mask (assertPin y.1 y.2 b) (assertPin y.1 y.2 b) := ⟨hstep.faults, fun _ _ => rfl, fun _ hp => hp, rfl, rfl⟩
    refine ⟨hrun, fun x hx => ?_⟩
    rcases List.mem_cons.1 hx with rfl | hx
    · exact (ih hl' hself).1.rises _ hset
    · exact hall x hx

/-! ### The Logbook's second -/

/-- A suppression record is buffered, and the type counts stay (R427). -/
theorem suppressionRecord_keeps (a : LogArgs) (b : Blk) : (logRecord 0x1301 a b).logbook.suppressed = b.logbook.suppressed ∧
    (logRecord 0x1301 a b).logbook.perSecond = b.logbook.perSecond := by
  have hbuf : logRecord 0x1301 a b = bufferRecord 0x1301 a b := if_pos rfl
  rw [hbuf]
  unfold bufferRecord
  dsimp only
  split
  · exact ⟨rfl, rfl⟩
  · obtain ⟨r, h⟩ := addJob_logbook .logRecord { b with logbook := { b.logbook with
      buf := b.logbook.buf ++ [_], nextSeq := b.logbook.nextSeq + 1 } }
    rw [h]; exact ⟨rfl, rfl⟩

theorem logbookSecond_keeps (b : Blk) : (logbookSecond b).logbook.suppressed = [] ∧ (logbookSecond b).logbook.perSecond = [] ∧
    (logbookSecond b).cyc = (b.cyc / 10 ^ 8 + 1) * 10 ^ 8 ∧ (logbookSecond b).dram = b.dram := by
  unfold logbookSecond
  generalize (b.cyc / 10 ^ 8 + 1) * 10 ^ 8 = n
  refine foldl_keeps (fun x : Blk => x.logbook.suppressed = [] ∧ x.logbook.perSecond = [] ∧ x.cyc = n ∧ x.dram = b.dram) _ _
    (fun x e _ ⟨hsup, hper, hcyc, hdram⟩ => ?_) ⟨rfl, rfl, rfl, rfl⟩
  obtain ⟨hs, hp⟩ := suppressionRecord_keeps { kind := .perType, detail := natLe 2 e.1 ++ [0, 0] ++ natLe 4 e.2 } x
  exact ⟨by rw [setErr_logbook, hs, hsup], by rw [setErr_logbook, hp, hper], by rw [setErr_cyc, logRecord_cyc, hcyc], by rw [setErr_dram, logRecord_dram, hdram]⟩

/-! ### The Almanac -/

theorem viaReg_almReg (f : Blk → Blk) (b : Blk) : viaReg 0xF8000 f b = f b := by
  have hreg : b.regInReset 0xF8000 = false := by simp [Blk.regInReset]
  unfold viaReg; rw [hreg]; rfl

theorem storeImage_eq (c : Nat) (b : Blk) : ∃ m st, (storeImage c b).alm = { b.alm with storing := st, images := m } ∧ (b.alm.storing = none → st = some c) := by
  unfold storeImage
  obtain ⟨m, hm⟩ := addJob_alm (.almImage c) (modAlm (fun a => { a with storing := match a.storing with | some c => some c | none => some c }) b)
  exact ⟨m, match b.alm.storing with | some c => some c | none => some c, hm, fun h => by rw [h]⟩

theorem storeImage_stores (c : Nat) (b : Blk) (h : b.alm.storing = none) : (storeImage c b).alm.storing = some c ∧ (storeImage c b).alm.recs = b.alm.recs ∧ (storeImage c b).dram = b.dram := by
  obtain ⟨m, st, hm, hst⟩ := storeImage_eq c b
  rw [hm]
  exact ⟨hst h, rfl, by simp [storeImage]⟩

theorem almanacInterval_of_none (b : Blk) {k : Nat} (h : SMap.find? b.alm.recs k = none) : almanacInterval k b = b := by
  unfold almanacInterval; rw [h]

theorem almanacInterval_early (b : Blk) {k : Nat} {r : AlmRec} (h : SMap.find? b.alm.recs k = some r) (hr : r.rate = false ∨ b.epoch < b.intervalEnd k r) :
    almanacInterval k b = b := by
  unfold almanacInterval; rw [h]; exact if_pos (by simpa using hr)

/-- The record with its next bin current and empty (R429). -/
def AlmRec.moved (r : AlmRec) (frozen : Bool) : AlmRec :=
  let v : Int := (SMap.get 0 r.bins r.current : Nat)
  let r' : AlmRec := { r with seq := r.seq + 1, current := (r.current + 1) % 32, bins := SMap.erase r.bins ((r.current + 1) % 32) }
  if frozen then r'
  else { r' with min := some (match r.min with | some m => Min.min m v | none => v), max := some (match r.max with | some m => Max.max m v | none => v) }

theorem almanacInterval_moves (b : Blk) {k : Nat} {r : AlmRec} (h : SMap.find? b.alm.recs k = some r) (hrate : r.rate = true) (he : b.intervalEnd k r ≤ b.epoch) :
    almanacInterval k b = modAlm (fun a => { a with recs := SMap.insert a.recs k (r.moved b.alm.frozen) })
      (modAlm (fun a => { a with begun := SMap.insert a.begun k (SMap.get 0 a.begun k + r.interval) }) b) := by
  unfold almanacInterval; rw [h]
  exact if_neg (by simpa [hrate] using he)

theorem moved_facts (r : AlmRec) (f : Bool) : (r.moved f).seq = r.seq + 1 ∧ (r.moved f).current = (r.current + 1) % 32 ∧ (r.moved f).interval = r.interval ∧
    SMap.get 0 (r.moved f).bins (r.moved f).current = 0 ∧ (f = true → (r.moved f).min = r.min ∧ (r.moved f).max = r.max) := by
  have hbin : SMap.get 0 (SMap.erase r.bins ((r.current + 1) % 32)) ((r.current + 1) % 32) = 0 := by unfold SMap.get; rw [SMap.find?_erase_same]; rfl
  cases f
  · exact ⟨rfl, rfl, rfl, hbin, fun h => absurd h (by decide)⟩
  · exact ⟨rfl, rfl, rfl, hbin, fun _ => ⟨rfl, rfl⟩⟩

theorem feedMetric_unfrozen (m i : Nat) (v : Int) (b : Blk) (h : b.alm.frozen = false) :
    feedMetric m i v b = { b with alm := { b.alm with recs := SMap.mapVal b.alm.recs (fun _ r =>
      if r.metric = m ∧ r.inst = i then (if r.rate then r.events v.toNat else r.sample v) else r) } } := by
  unfold feedMetric; rw [h]; rfl

/-- The end of a freeze releases the hourly image that waited (R430). -/
theorem unfreeze_alm (b : Blk) (hf : b.alm.frozen = true) : (unfreeze b).alm.frozen = false ∧ (unfreeze b).alm.hourlyDue = false ∧
    (b.alm.hourlyDue = true → b.alm.storing = none → (unfreeze b).alm.storing = some 0) := by
  unfold unfreeze
  rw [hf]
  cases hd : b.alm.hourlyDue
  · exact ⟨rfl, rfl, fun h => absurd h (by decide)⟩
  · obtain ⟨m, st, hm, hst⟩ := storeImage_eq 0 (modAlm (fun a => { a with frozen := false, hourlyDue := false }) b)
    simp only [Bool.and_self, ↓reduceIte, hm]
    exact ⟨rfl, rfl, fun _ hs => hst hs⟩

/-- The record as CLEAR leaves it. -/
def AlmRec.cleared (r : AlmRec) (b : Blk) : AlmRec :=
  { r with seq := r.seq + 1, current := 0, samples := 0, min := none, max := none, bins := [], hours := b.pwr.boot.hours, cycles := b.pwr.boot.cycles }

theorem almClear_eq (b : Blk) (hf : b.alm.frozen = false) :
    almClear b = modAlm (fun a => { a with recs := SMap.mapVal a.recs (fun _ r => r.cleared b), events := [] }) b := by
  unfold almClear; rw [hf]; rfl

/-- Settles O48. -/
theorem faultCollectorLogbookAndAlmanac : Obligations.FaultCollectorLogbookAndAlmanac := by
  unfold Obligations.FaultCollectorLogbookAndAlmanac
  intro s haon
  refine ⟨fun p l h => ?noPin, fun p l hp hclear hfaults => ?pin, fun hrst => ⟨fun m more hfaults => ?clearAgain, fun m hhigh => ?clearAll, ?rearm⟩, ?second,
    fun m i v hfrz hany => ?dropped, fun m i v k r hfrz hr hm hi => ?sample, fun k hk => ?noRecord, fun k r hk => ⟨fun h => ?notRate, fun h => ?early, fun hrate he => ?moves⟩,
    fun hdusk => ?duskHour, fun hdusk hfrz => ?frozenHour, fun hdusk hfrz hst => ?hourly, fun hfrz => ?notFrozen, fun hfrz => ?expire,
    fun hrst => ⟨?freeze, fun hdue => ?unfreeze, fun hst => ?storing, fun hst => ?store, fun hfrz => ?frozenClear, fun hfrz => ?clear⟩⟩
  case noPin =>
    rw [exec_errorPinAssert s haon, errorPinAssert]
    rcases h with h | h
    · rw [if_neg (by omega)]
    · split
      · unfold assertPin; rw [if_pos h]
      · rfl
  case pin =>
    refine ⟨_, exec_errorPinAssert s haon p l, ?_⟩
    have hlatch : errorPinAssert p l s.now = recordLatch p l { s.now with flt := latchedFlt p l s.now } := by
      rw [errorPinAssert, if_pos hp, assertPin_of_status_clear _ _ _ hclear, latchPin_quiet _ _ _ hfaults]
    obtain ⟨hdram, htwin, hpwr, herrs⟩ := recordLatch_keeps p l { s.now with flt := latchedFlt p l s.now }
    rw [hlatch, recordLatch_flt, hdram, htwin, hpwr, herrs]
    refine ⟨latchedFlt_status p l s.now, ?_, ?_, fun hv => ?_, fun hv => ?_, rfl, rfl, rfl, rfl⟩
    · rfl
    · cases hv : s.now.flt.firstValid <;> simp [latchedFlt, hv]
    · simp [latchedFlt, hv]
    · simp [latchedFlt, hv]
  case clearAgain =>
    refine ⟨_, exec_fltStatusClear_unreset s haon hrst m more, ?_⟩
    rw [fltStatusClear_eq]
    have hpins : ∀ x ∈ (s.now.pinsHigh ++ more).filter (fun x => (s.now.flt.status &&& m).getLsbD x.1), m.getLsbD x.1 = true := by
      intro x hx
      have hbit := (List.mem_filter.1 hx).2
      rw [BitVec.getLsbD_and, Bool.and_eq_true] at hbit
      exact hbit.2
    obtain ⟨hrun, hset⟩ := assertPins_latching _ hpins (a := clearFaultStatus m s.now) (b := clearFaultStatus m s.now) ⟨hfaults, fun _ _ => rfl, fun _ h => h, rfl, rfl⟩
    refine ⟨fun x hx _ hbit => hset x (List.mem_filter.2 ⟨List.mem_append_right _ hx, hbit⟩), fun p hp => ?_, hrun.dram, hrun.errs⟩
    rw [hrun.outside p hp, clearFaultStatus_bit, hp, Bool.not_false, Bool.and_true]
  case clearAll => rw [exec_fltStatusClear_unreset s haon hrst, fltStatusClear_no_pin m _ hhigh]; rfl
  case rearm => exact exec_fltFirstRearm_unreset s haon hrst
  case second =>
    obtain ⟨hsup, hper, hcyc, hdram⟩ := logbookSecond_keeps s.now
    refine ⟨_, exec_logbookSecond s haon, hsup, hper, hcyc, hdram, fun h => ?_⟩
    rw [logbookSecond, h]
    generalize (s.now.cyc / 10 ^ 8 + 1) * 10 ^ 8 = n
    exact ⟨rfl, rfl⟩
  case dropped => rw [exec_almanacSample s haon, almanacSample, feedMetric, hfrz, if_pos rfl, if_pos hany]
  case sample =>
    refine ⟨_, exec_almanacSample s haon m i v, ?_⟩
    rw [almanacSample, feedMetric_unfrozen _ _ _ _ hfrz]
    dsimp only
    refine ⟨?_, fun j x hj hx => ?_, rfl⟩
    · rw [SMap.find?_mapVal, hr, Option.map_some, if_pos ⟨hm, hi⟩]
    · rw [SMap.find?_mapVal, hj, Option.map_some, if_neg (fun h => hx h.1)]
  case noRecord => rw [exec_almanacInterval s haon, almanacInterval_of_none _ hk]
  case notRate => rw [exec_almanacInterval s haon, almanacInterval_early _ hk (.inl h)]
  case early => rw [exec_almanacInterval s haon, almanacInterval_early _ hk (.inr h)]
  case moves =>
    obtain ⟨hseq, hcur, hint, hbin, hfrz⟩ := moved_facts r s.now.alm.frozen
    refine ⟨_, r.moved s.now.alm.frozen, exec_almanacInterval s haon k, ?_⟩
    rw [almanacInterval_moves _ hk hrate he]
    refine ⟨SMap.find?_insert_same .., hseq, hcur, hbin, hfrz, ?_, fun j hj => SMap.find?_insert_other _ _ hj⟩
    unfold Blk.intervalEnd
    rw [hint]
    exact congrArg (· + r.interval) (by simp [SMap.get, modAlm])
  case duskHour => rw [exec_almanacHourly s haon, almanacHourly, hdusk]; rfl
  case frozenHour => rw [exec_almanacHourly s haon, almanacHourly, hdusk, hfrz]; rfl
  case hourly =>
    obtain ⟨hstore, hrecs, hdram⟩ := storeImage_stores 0 s.now hst
    refine ⟨_, exec_almanacHourly s haon, ?_⟩
    rw [almanacHourly, hdusk, hfrz]
    exact ⟨hstore, hrecs, hdram⟩
  case notFrozen => rw [exec_freezeExpire s haon, freezeExpire, hfrz]; rfl
  case expire =>
    obtain ⟨hf, hd, hst⟩ := unfreeze_alm s.now hfrz
    obtain ⟨d, e, ha⟩ := setErr_alm .alm 0 (unfreeze s.now)
    refine ⟨_, exec_freezeExpire s haon, ?_⟩
    rw [freezeExpire, hfrz, if_pos rfl, ha]
    exact ⟨hf, hd, setErr_sets .alm (by decide) _, hst⟩
  case freeze => rw [exec_freeze s haon, viaReg_almReg]; rfl
  case unfreeze => rw [exec_freeze s haon, viaReg_almReg, almFreeze, if_neg Bool.false_ne_true, unfreeze, hdue, Bool.and_false]; rfl
  case storing => rw [exec_store s haon, viaReg_almReg, almStore, if_pos hst]
  case store =>
    obtain ⟨hstore, hrecs, hdram⟩ := storeImage_stores 2 s.now hst
    refine ⟨_, exec_store s haon, ?_⟩
    rw [viaReg_almReg, almStore, hst]
    exact ⟨hstore, hrecs, hdram⟩
  case frozenClear => rw [exec_clear s haon, viaReg_almReg, almClear, if_pos hfrz]
  case clear =>
    refine ⟨_, exec_clear s haon, ?_⟩
    rw [viaReg_almReg, almClear_eq _ hfrz]
    exact ⟨rfl, rfl, fun k r hk => ⟨r.cleared s.now, (SMap.find?_mapVal s.now.alm.recs (fun _ r => r.cleared s.now) k).trans (by rw [hk]; rfl), rfl, rfl, rfl, rfl, rfl, rfl⟩⟩

end Sys2Proof.Machine
end

section
/-!
PROOF. Firmware restarts (R25 to R27, R473).
-/
namespace Sys2Proof.Machine
open Sys2Proof

/-- Dropping a commit that was not done changes the eFlash jobs and the commit itself, and what an erase that may begin then takes. -/
theorem dropCommit_keeps (b : Blk) : (dropCommit b).cht.slotRec = b.cht.slotRec ∧ (dropCommit b).cht.cur = b.cht.cur ∧ (dropCommit b).cyc = b.cyc := by
  simp [dropCommit]

theorem firmwareReset_performed (b : Blk) (hdusk : b.inDusk = false) (htw : b.pwr.stage ≠ .twilight) :
    firmwareReset b = { dropCommit b with
      fw := { (dropCommit b).fw with restarting := true, retried := false }, flt := { (dropCommit b).flt with lastRestart := some (dropCommit b).cyc },
      cht := { (dropCommit b).cht with state := (if b.cht.slotRec.pending then .pendingDawn else .idle), buf := [], seqErr := false, reason := .none, sect := 0, offset := 0 } } := by
  unfold firmwareReset; rw [if_neg (by simp [hdusk, htw])]

theorem coresRunning_idle (b : Blk) (h : b.fw.restarting = false ∨ b.fw.paused = true) : coresRunning b = b := by
  unfold coresRunning; exact if_pos (by simpa using h)

theorem coresStartTimeout_idle (b : Blk) (h : b.fw.restarting = false ∨ b.fw.paused = true) : coresStartTimeout b = b := by
  unfold coresStartTimeout; exact if_pos (by simpa using h)

/-- A mailbox command that comes while the cores restart is kept with its doorbell set. -/
theorem mailbox_health_waits (phys : Phys) (ld : Nat) (b : Blk) (hp : (b.port (ld / 16)).present.testBit (ld % 16) = true) (hr : (b.port (ld / 16)).inReset = false)
    (hd : (b.ld ld).resetting = false) (hbell : (b.ld ld).doorbell = false) (hfw : b.fw.restarting = true) :
    mailbox phys ld .health b = modLd ld (fun l => { l with doorbell := true }) { b with fw := { b.fw with deferred := b.fw.deferred ++ [.mbox ld .health] } } := by
  have hheld : b.mboxHeld ld .health = true := by simp [Blk.mboxHeld, Blk.mboxWaits, Blk.fwWaits, hfw]
  have htouch : touchFor phys ld .health b = b := rfl
  unfold mailbox
  rw [hp, hr, hd, hbell, htouch]
  dsimp only
  rw [hheld]; rfl

/-- Settles O18. -/
theorem firmwareRestarts : Obligations.FirmwareRestarts := by
  unfold Obligations.FirmwareRestarts
  intro s phys haon
  refine ⟨fun h => ?refused, fun hdusk htw => ?restart, fun ld hp hr hd hbell hfw => ?mailbox, fun hfw hpause hact hreb => ?running, fun hfw hpause hact hreb => ?activated,
    fun h => ⟨?idle, ?idleTimeout⟩, fun hfw hpause hret hact => ?first, fun hfw hpause hret hpair => ?second⟩
  case refused =>
    rw [exec_firmwareRestart s haon, firmwareReset, if_pos (by rcases h with h | h <;> simp [h])]
  case restart =>
    obtain ⟨hslot, hcur, hcyc⟩ := dropCommit_keeps s.now
    refine ⟨_, exec_firmwareRestart s haon, ?_⟩
    rw [firmwareReset_performed _ hdusk htw]
    simp [State.after, dropCommit, State.now]
  case mailbox => rw [exec_getHealthInfo s haon, mailbox_health_waits _ _ _ hp hr hd hbell hfw]
  case running =>
    rw [exec_coresRunning s haon, coresRunning, hfw, hpause]
    have hquiet : (s.now.nvf.rebuilding || ({ s.now with fw := { s.now.fw with restarting := false, retried := false } } : Blk).rebuildList.isEmpty) = true := by
      rcases hreb with h | h
      · rw [h, Bool.true_or]
      · have hlist : ({ s.now with fw := { s.now.fw with restarting := false, retried := false } } : Blk).rebuildList = [] := h
        rw [hlist]; simp
    dsimp only
    rw [hact]
    simp only [Bool.not_true, Bool.or_self, Bool.false_eq_true, ↓reduceIte, hquiet]
  case activated =>
    refine ⟨_, exec_coresRunning s haon phys, ?_⟩
    have hload : coresRunning s.now = loadBank s.now.mgt.active (addJob .bootRecord
        { s.now with fw := { s.now.fw with restarting := false, retried := false }, mgt := { s.now.mgt with activating := false, trial := false } }) := by
      rw [coresRunning, hfw, hpause]; simp [hact, loadBank, hreb]
    rw [hload]; simp [loadBank]
  case idle => rw [exec_coresRunning s haon, coresRunning_idle _ h]
  case idleTimeout => rw [exec_coresStartTimeout s haon, coresStartTimeout_idle _ h]
  case first =>
    rw [exec_coresStartTimeout s haon, coresStartTimeout, hfw, hpause, hret]
    simp [hact]
  case second =>
    have hpair' : ({ s.now with fw := { s.now.fw with paused := true } } : Blk).paired = false := hpair
    rw [exec_coresStartTimeout s haon, coresStartTimeout, hfw, hpause, hret]
    simp [hpair']

end Sys2Proof.Machine
end

section
/-!
PROOF. SPDM negotiation, digests, certificates and challenges (R358 to R362).
-/
namespace Sys2Proof.Machine
open Sys2Proof

section
variable {t : Nat} {x : Option Nat} {f : Blk → Blk} {b : Blk}

theorem spdmAnswer_answered {r : Bool} (haon : b.aon = true) (hload : b.ident.loaded = true) (hlc : r = true ∨ b.ident.lc ≠ .returned) : spdmAnswer t x r f b = f b := by
  unfold spdmAnswer
  rw [hload, haon, if_neg (by decide), if_neg (by rcases hlc with h | h <;> simp [h])]

theorem spdmAnswer_unloaded {r : Bool} (hload : b.ident.loaded = false) : spdmAnswer t x r f b = b := by
  unfold spdmAnswer; rw [hload]; rfl

theorem afterNegotiation_answered (haon : b.aon = true) (hload : b.ident.loaded = true) (hlc : b.ident.lc ≠ .returned) (halg : (b.conn t).algorithms = true) :
    afterNegotiation t x false f b = f b := by
  unfold afterNegotiation; rw [spdmAnswer_answered haon hload (.inr hlc), if_pos halg]

theorem afterNegotiation_early (haon : b.aon = true) (hload : b.ident.loaded = true) (hlc : b.ident.lc ≠ .returned) (halg : (b.conn t).algorithms = false) :
    afterNegotiation t x false f b = spdmError t x 4 b := by
  unfold afterNegotiation; rw [spdmAnswer_answered haon hload (.inr hlc), halg]; rfl

theorem afterNegotiation_returned (haon : b.aon = true) (hload : b.ident.loaded = true) (hlc : b.ident.lc = .returned) :
    afterNegotiation t x false f b = spdmError t x 5 b := by
  unfold afterNegotiation spdmAnswer
  rw [hload, haon, if_neg (by decide), if_pos (by simp [hlc])]

end

/-- Settles O20. -/
theorem spdmNegotiationAndCertificates : Obligations.SpdmNegotiationAndCertificates := by
  unfold Obligations.SpdmNegotiationAndCertificates
  intro s t haon
  have hup : s.now.aon = true := haon
  refine ⟨fun hload => ⟨?version, fun v hv => ?capabilities, fun v h2 h3 => ?noVersion, fun hcap => ⟨?algorithms, ?noOffer⟩, fun ok hcap => ?tooEarly,
    fun hlc halg => ⟨fun x => ?digests, fun x slot c off len hc hoff => ?certificate, fun x slot off len hc => ?noChain, fun slot tr k c hk hc => ?challenge⟩,
    fun hlc halg => ⟨fun x => ?earlyDigests, fun x slot off len => ?earlyCertificate, fun slot tr => ?earlyChallenge⟩,
    fun hlc => ⟨fun x => ?goneDigests, fun x slot off len => ?goneCertificate, fun slot tr => ?goneChallenge⟩⟩, fun hload => ?unloaded⟩
  case version => rw [exec_getVersion s haon, spdmVersion, spdmAnswer_answered hup hload (.inl rfl)]; rfl
  case capabilities =>
    rw [exec_getCapabilities s haon, spdmCapabilities, spdmAnswer_answered hup hload (.inl rfl), if_pos (by simpa using hv)]
    exact ⟨_, rfl⟩
  case noVersion =>
    rw [exec_getCapabilities s haon, spdmCapabilities, spdmAnswer_answered hup hload (.inl rfl), if_neg (by simp [h2, h3])]; rfl
  case algorithms => rw [exec_negotiateAlgorithms s haon, spdmAlgorithms, spdmAnswer_answered hup hload (.inl rfl), hcap]; rfl
  case noOffer => rw [exec_negotiateAlgorithms s haon, spdmAlgorithms, spdmAnswer_answered hup hload (.inl rfl), hcap]; rfl
  case tooEarly => rw [exec_negotiateAlgorithms s haon, spdmAlgorithms, spdmAnswer_answered hup hload (.inl rfl), hcap]; rfl
  case digests => rw [exec_getDigests s haon, spdmDigests, afterNegotiation_answered hup hload hlc halg]; rfl
  case certificate =>
    rw [exec_getCertificate s haon, spdmCertificate, afterNegotiation_answered hup hload hlc halg]
    simp only [hc, if_neg (Nat.not_lt.2 hoff)]; rfl
  case noChain =>
    rw [exec_getCertificate s haon, spdmCertificate, afterNegotiation_answered hup hload hlc halg]
    simp only [hc]; rfl
  case challenge =>
    rw [exec_challenge s haon, spdmChallenge, afterNegotiation_answered hup hload hlc halg]
    simp only [hk, hc]; rfl
  case earlyDigests => rw [exec_getDigests s haon, spdmDigests, afterNegotiation_early hup hload hlc halg]; rfl
  case earlyCertificate => rw [exec_getCertificate s haon, spdmCertificate, afterNegotiation_early hup hload hlc halg]; rfl
  case earlyChallenge => rw [exec_challenge s haon, spdmChallenge, afterNegotiation_early hup hload hlc halg]; rfl
  case goneDigests => rw [exec_getDigests s haon, spdmDigests, afterNegotiation_returned hup hload hlc]; rfl
  case goneCertificate => rw [exec_getCertificate s haon, spdmCertificate, afterNegotiation_returned hup hload hlc]; rfl
  case goneChallenge => rw [exec_challenge s haon, spdmChallenge, afterNegotiation_returned hup hload hlc]; rfl
  case unloaded => rw [exec_getVersion s haon, spdmVersion, spdmAnswer_unloaded hload]

end Sys2Proof.Machine
end

section
/-!
PROOF. How the Meridian count advances (R67 to R76).
-/
namespace Sys2Proof.Machine
open Sys2Proof

/-- A flag changes the run's and the epoch's flags only. -/
theorem flagTick_mer (b : Blk) : ∃ fn ro rf rl rr, (flagTick b).mer = { b.mer with flagNow := fn, runOpen := ro, runFirst := rf, runLast := rl, runReason := rr } := by
  unfold flagTick flagEpoch
  (repeat' split)
  · exact ⟨_, _, _, _, _, rfl⟩
  · exact ⟨_, _, _, _, _, rfl⟩
  · rw [logEvent_mer]; exact ⟨_, _, _, _, _, rfl⟩

theorem sourceTick_locked {b : Blk} (h : b.mer.state = .locked) : sourceTick b = advance 1 b := by unfold sourceTick; rw [h]

/-- How far a slew's adjusting tick takes the count (R75). -/
def Mer.adjusted (m : Mer) : Nat := if m.count + 1 < m.shadow then 2 else if m.shadow < m.count + 1 then 0 else 1

theorem slewAdjust_mer (b : Blk) (hst : b.mer.state = .slewing) (hadj : b.mer.adjust = true) :
    (slewAdjust b).mer.adjust = false ∧ (slewAdjust b).mer.shadow = b.mer.shadow ∧ (slewAdjust b).mer.count = wrap64 (b.mer.count + b.mer.adjusted) ∧
      (slewAdjust b).mer.state = if b.mer.shadow = wrap64 (b.mer.count + b.mer.adjusted) then .locked else .slewing := by
  have hslew : slewAdjust b = (let x := advance b.mer.adjusted (modMer (fun m => { m with adjust := false }) b)
      if x.mer.shadow = x.mer.count then modMer (fun m => { m with state := .locked }) x else x) := by
    unfold slewAdjust; rw [if_neg (by simp [hst, hadj])]; rfl
  obtain ⟨fn, ro, rf, rl, rr, hx⟩ := flagTick_mer (modMer (fun m => { m with count := wrap64 (m.count + b.mer.adjusted) }) (modMer (fun m => { m with adjust := false }) b))
  rw [hslew]
  dsimp only
  unfold advance
  generalize hn : wrap64 (b.mer.count + b.mer.adjusted) = n at *
  generalize flagTick _ = y at hx ⊢
  have hkept : y.mer.adjust = false ∧ y.mer.shadow = b.mer.shadow ∧ y.mer.count = n ∧ y.mer.state = .slewing := by
    rw [hx]; exact ⟨rfl, rfl, hn, hst⟩
  obtain ⟨hadjust, hshadow, hcount, hstate⟩ := hkept
  rw [hshadow, hcount]
  by_cases heq : b.mer.shadow = n
  · rw [if_pos heq, if_pos heq]; exact ⟨hadjust, hshadow, hcount, rfl⟩
  · rw [if_neg heq, if_neg heq]; exact ⟨hadjust, hshadow, hcount, hstate⟩

theorem slewAdjust_idle (b : Blk) (h : b.mer.state ≠ .slewing) : slewAdjust b = b := by unfold slewAdjust; rw [if_pos (by simp [h])]

/-- Under PTP the generator's tick of a LOCKED count that owes nothing advances it (R71). -/
theorem deadReckoningTick_generator {b : Blk} (hsrc : b.mer.body.source = 1) (hhold : b.mer.holdAtFloor = false) (hst : b.mer.state = .locked)
    (howed : b.mer.ptpOwed = 0) : deadReckoningTick b = advance 1 b := by
  rw [deadReckoningTick, hhold, if_neg Bool.false_ne_true, hst]
  dsimp only
  rw [if_pos hsrc, generatorTick, howed, if_neg (by decide), if_neg (by decide), sourceTick_locked hst]

/-- Settles O26. -/
theorem meridianCounts : Obligations.MeridianCounts := by
  unfold Obligations.MeridianCounts
  intro s haon
  refine ⟨fun gap hsrc hhold hgap hst => ?edge, fun gap hsrc hhold hgap => ?glitch, fun gap h => ?noPin, fun hhold hst => ?reckoned, fun hhold => ?held,
    fun hsrc hhold hst howed => ?generated, fun hsrc hon => ⟨?lost, rfl, rfl, rfl, fun h => if_pos h⟩, fun h => ?nothingLost, fun hst hadj => ?adjust, fun hst => ?noSlew,
    ?waited, fun hsrc => ?missing, fun hsrc => ?notMissing⟩
  case edge =>
    rw [exec_meridianTick s haon, meridianTick, if_neg (by simp [hsrc, hhold]), if_neg (by omega), sourceTick_locked (by exact hst)]; rfl
  case glitch => rw [exec_meridianTick s haon, meridianTick, if_neg (by simp [hsrc, hhold]), if_pos hgap]
  case noPin => rw [exec_meridianTick s haon, meridianTick, if_pos (by simpa using h)]
  case reckoned =>
    rw [exec_deadReckoningTick s haon, deadReckoningTick, hhold, if_neg Bool.false_ne_true]
    rcases hst with h | h <;> rw [h] <;> rfl
  case held => rw [exec_deadReckoningTick s haon, deadReckoningTick, if_pos hhold]
  case generated =>
    rw [exec_deadReckoningTick s haon, deadReckoningTick_generator hsrc hhold hst howed]; rfl
  case lost => rw [exec_tickLoss s haon, tickLoss, if_neg (by simp [hsrc, hon])]
  case nothingLost => rw [exec_tickLoss s haon, tickLoss, if_pos (by simpa using h)]
  case adjust =>
    obtain ⟨hadjust, hshadow, hcount, hstate⟩ := slewAdjust_mer s.now hst hadj
    refine ⟨_, exec_slewAdjust s haon, ?_⟩
    have hmer : (s.after (slewAdjust s.now)).blk.mer = (slewAdjust s.now).mer := by simp [State.after]
    rw [hmer, hshadow, hcount, hstate]
    refine ⟨hadjust, rfl, ?_, rfl⟩
    unfold wrap64 Mer.adjusted
    split
    · rfl
    · split <;> rfl
  case noSlew => rw [exec_slewAdjust s haon, slewAdjust_idle _ hst]
  case waited => exact exec_meridianWaitTimeout s haon
  case missing => rw [exec_frameMissing s haon, frameMissing, if_pos hsrc]
  case notMissing => rw [exec_frameMissing s haon, frameMissing, if_neg hsrc]

end Sys2Proof.Machine
end

section
/-!
PROOF. SPDM measurements and sessions, and CXL IDE key management in a session (R104, R369 to R372).
-/
namespace Sys2Proof.Machine
open Sys2Proof

/-- After the negotiation a request is answered; in RETURN only one that R369 lists. -/
theorem afterNegotiation_taken {t : Nat} {x : Option Nat} {r : Bool} {f : Blk → Blk} {b : Blk} (haon : b.aon = true) (hload : b.ident.loaded = true)
    (hlc : b.ident.lc ≠ .returned) (halg : (b.conn t).algorithms = true) : afterNegotiation t x r f b = f b := by
  unfold afterNegotiation; rw [spdmAnswer_answered haon hload (.inr hlc), if_pos halg]

section
variable {t id : Nat} {x : Session} {f : Blk → Blk} {b : Blk}

theorem inSession_established (haon : b.aon = true) (hload : b.ident.loaded = true) (hlc : b.ident.lc ≠ .returned) (halg : (b.conn t).algorithms = true)
    (hs : b.session t id = some x) (he : x.established = true) : inSession t id f b = f b := by
  unfold inSession; rw [afterNegotiation_taken haon hload hlc halg]; simp only [hs, he, ↓reduceIte]

theorem inIdeSession_established (hlc : b.ident.lc ≠ .returned) (hs : b.session t id = some x) (he : x.established = true) : inIdeSession t id f b = f b := by
  unfold inIdeSession; simp only [hs]; rw [if_pos (by simp [he, hlc])]

theorem inIdeSession_none (hs : b.session t id = none) : inIdeSession t id f b = b := by unfold inIdeSession; simp only [hs]

end

/-- The response body for one measurement block. -/
def Blk.oneBlock (b : Blk) (i : Nat) : List Byte := 1 :: (natLe 3 (b.measureBlock i).length ++ b.measureBlock i)

section
variable {t i : Nat} {x : Option Nat} {tr : List Byte} {b : Blk} (haon : b.aon = true) (hload : b.ident.loaded = true) (hlc : b.ident.lc ≠ .returned)
  (halg : (b.conn t).algorithms = true)
include haon hload hlc halg

theorem spdmMeasurements_one (h1 : 1 ≤ i) (h7 : i ≤ 7) (sign : Option Nat) : spdmMeasurements t x i sign tr b =
    match sign with
    | none => spdmSay t x 0x60 (b.oneBlock i) b
    | some slot => match b.slotKey slot with
      | some k => spdmSay t x 0x60 (b.oneBlock i ++ (drawNonce b).1 ++ Config.ed448Sign k (tr ++ b.oneBlock i ++ (drawNonce b).1)) (drawNonce b).2
      | none => spdmError t x 1 b := by
  have hix : (if i = 0xFF then [1, 2, 3, 4, 5, 6, 7] else if (decide (1 ≤ i) && decide (i ≤ 7)) = true then [i] else []) = [i] := by
    rw [if_neg (by omega), if_pos (by simp [h1, h7])]
  have hbody : BitVec.ofNat 8 (if i = 0 then 7 else [i].length) :: (natLe 3 ([i].flatMap b.measureBlock).length ++ [i].flatMap b.measureBlock) = b.oneBlock i := by
    rw [if_neg (by omega), List.flatMap_singleton]; rfl
  unfold spdmMeasurements
  rw [afterNegotiation_taken haon hload hlc halg]
  dsimp only
  rw [hix, hbody]
  cases sign with
  | none => rfl
  | some slot => exact (if_neg (by simp)).trans (by cases b.slotKey slot <;> rfl)

theorem spdmMeasurements_beyond (h7 : 7 < i) (hff : i ≠ 0xFF) (sign : Option Nat) : spdmMeasurements t x i sign tr b = spdmError t x 1 b := by
  have hix : (if i = 0xFF then [1, 2, 3, 4, 5, 6, 7] else if (decide (1 ≤ i) && decide (i ≤ 7)) = true then [i] else []) = [] := by
    rw [if_neg hff, if_neg (by simp; omega)]
  unfold spdmMeasurements
  rw [afterNegotiation_taken haon hload hlc halg]
  dsimp only
  rw [hix, if_pos (by simp; omega)]

end

/-- Settles O21. -/
theorem spdmSessionsAndIde : Obligations.SpdmSessionsAndIde := by
  unfold Obligations.SpdmSessionsAndIde
  intro s t haon hload hlc
  have hup : s.now.aon = true := haon
  refine ⟨fun halg => ⟨fun x i tr h1 h7 => ?block, fun x i tr slot k body h1 h7 hk hbody => ?signed, fun x i tr slot h7 hff => ?noBlock,
    fun slot tr k hlen hk => ?exchange, fun slot tr hlen => ?full, fun id x root hs he => ⟨?finish, ?notVerified⟩,
    fun id x hs he => ⟨?heartbeat, ?update, ?ends⟩, fun id hs => ?noSession⟩,
    fun id x p hs he hp => ⟨?progMem, ?progIo, fun hk => ?goMem, fun hk => ?goIo, ?stopMem, ?stopIo, ?query⟩,
    fun id p st hs => ⟨?noProg, ?noGo, ?noStop, ?noQuery⟩⟩
  case block => rw [exec_getMeasurements s haon, spdmMeasurements_one hup hload hlc halg h1 h7]; rfl
  case signed =>
    rw [exec_getMeasurements s haon, spdmMeasurements_one hup hload hlc halg h1 h7, hbody]
    simp only [hk]; rfl
  case noBlock => rw [exec_getMeasurements s haon, spdmMeasurements_beyond hup hload hlc halg h7 hff]; rfl
  case exchange =>
    rw [exec_keyExchange s haon, spdmKeyExchange, afterNegotiation_taken hup hload hlc halg, if_neg (Nat.not_le.2 hlen)]
    simp only [hk]
    exact ⟨_, rfl⟩
  case full => rw [exec_keyExchange s haon, spdmKeyExchange, afterNegotiation_taken hup hload hlc halg, if_pos hlen]; rfl
  case finish =>
    rw [exec_finish s haon, spdmFinish, afterNegotiation_taken hup hload hlc halg]
    simp only [hs, he]; rfl
  case notVerified =>
    rw [exec_finish s haon, spdmFinish, afterNegotiation_taken hup hload hlc halg]
    simp only [hs, he]; rfl
  case heartbeat => rw [exec_spdmHeartbeat s haon, spdmHeartbeat, inSession_established hup hload hlc halg hs he]; rfl
  case update => rw [exec_keyUpdate s haon, spdmKeyUpdate, inSession_established hup hload hlc halg hs he]; rfl
  case ends => rw [exec_endSession s haon, spdmEnd, inSession_established hup hload hlc halg hs he]; rfl
  case noSession =>
    rw [exec_spdmHeartbeat s haon, spdmHeartbeat, inSession, afterNegotiation_taken hup hload hlc halg]
    simp only [hs]; rfl
  case progMem => rw [exec_ideKeyProg s haon, inIdeSession_established hlc hs he, ideKeyProg, if_pos hp]
  case progIo => rw [exec_ideKeyProg s haon, inIdeSession_established hlc hs he, ideKeyProg, if_pos hp]
  case goMem => rw [exec_ideKSetGo s haon, inIdeSession_established hlc hs he, ideSetGo, if_pos hp]; simp only [hk, ↓reduceIte]
  case goIo => rw [exec_ideKSetGo s haon, inIdeSession_established hlc hs he, ideSetGo, if_pos hp]; simp only [hk, ↓reduceIte]
  case stopMem => rw [exec_ideKSetStop s haon, inIdeSession_established hlc hs he, ideSetStop, if_pos hp]
  case stopIo => rw [exec_ideKSetStop s haon, inIdeSession_established hlc hs he, ideSetStop, if_pos hp]
  case query => rw [exec_ideQuery s haon, inIdeSession_established hlc hs he, ideQuery, if_pos hp]
  case noProg => rw [exec_ideKeyProg s haon, inIdeSession_none hs]
  case noGo => rw [exec_ideKSetGo s haon, inIdeSession_none hs]
  case noStop => rw [exec_ideKSetStop s haon, inIdeSession_none hs]
  case noQuery => rw [exec_ideQuery s haon, inIdeSession_none hs]

end Sys2Proof.Machine
end

section
/-!
PROOF. The life-cycle commands: owner installation and sealing, debug, return and the test access port (R358 to R368).
-/
namespace Sys2Proof.Machine
open Sys2Proof

/-! ### What a run of fuse bits blows -/

/-- What lies within the bits that are blown lies within the bank after. -/
theorem Otp.within_blow_right {o m : Otp} (h : Otp.within o m) (p : Otp) : Otp.within o (p.blow m) := by
  have hcomm : p.blow m = m.blow p := by simp [Otp.blow, BitVec.or_comm]
  rw [hcomm]; exact Otp.within_blow h p

/-- Each listed bit is blown in the bank of the list. -/
theorem Otp.bit_within_ofBits {f : FuseField} {i : Nat} {l : List (FuseField × Nat)} (h : (f, i) ∈ l) : Otp.within (Otp.bit f i) (Otp.ofBits l) := by
  have hrun : ∀ (l : List (FuseField × Nat)) (o : Otp), (Otp.within (Otp.bit f i) o ∨ (f, i) ∈ l) →
      Otp.within (Otp.bit f i) (l.foldl (fun o x => o.blow (Otp.bit x.1 x.2)) o) := by
    intro l
    induction l with
    | nil => intro o ho; simpa using ho
    | cons y l ih =>
      intro o ho
      refine ih _ ?_
      rcases ho with ho | ho
      · exact .inl (Otp.within_blow ho _)
      · rcases List.mem_cons.1 ho with rfl | ho
        · exact .inl (Otp.within_blow_right (Otp.within_refl _) o)
        · exact .inr ho
  exact hrun l {} (.inr h)

theorem mem_fuseBits {f : FuseField} {w v i : Nat} (hi : i < w) (hv : v.testBit i = true) : (f, i) ∈ fuseBits f w v :=
  List.mem_map.2 ⟨i, List.mem_filter.2 ⟨List.mem_range.2 hi, hv⟩, rfl⟩

/-- The bits of a copy that R365 still has to blow. -/
theorem missing_lc_bit (n : Nat) (hn : n ≤ 3) (x : BitVec 3) (i : Nat) (hi : i < n) (hx : x.getLsbD i = false) :
    (2 ^ n - 1 - (x.toNat &&& (2 ^ n - 1))).testBit i = true := by
  have hall : ∀ n ≤ 3, ∀ x : BitVec 3, ∀ i < n, x.getLsbD i = false → (2 ^ n - 1 - (x.toNat &&& (2 ^ n - 1))).testBit i = true := by decide
  exact hall n hn x i hi hx

theorem blown_of_low_bits (n : Nat) (hn : n ≤ 3) (x : BitVec 3) (h : ∀ i < n, x.getLsbD i = true) : n ≤ blown 3 x.toNat := by
  have hall : ∀ n ≤ 3, ∀ x : BitVec 3, (∀ i < n, x.getLsbD i = true) → n ≤ blown 3 x.toNat := by decide
  exact hall n hn x h

/-- Blowing what `lcForward` lists carries LC_STATE to at least that state (R356, R365). -/
theorem Otp.lcForward_reaches (o : Otp) {n : Nat} (hn : n ≤ 3) {l : List (FuseField × Nat)} (hl : ∀ x ∈ o.lcForward n, x ∈ l) :
    n ≤ (o.blow (Otp.ofBits l)).lcBits := by
  refine Nat.le_trans (blown_of_low_bits n hn (o.blow (Otp.ofBits l)).lc0 fun i hi => ?_) (Nat.le_max_left _ _)
  by_cases hx : o.lc0.getLsbD i = true
  · exact getLsbD_of_or_eq (Otp.within_lc (Otp.within_blow (Otp.within_refl o) _)).1 hx
  · have hmem : (FuseField.lc 0, i) ∈ l :=
      hl _ (List.mem_flatMap.2 ⟨(.lc 0, o.lc0.toNat), by simp, mem_fuseBits (by omega) (missing_lc_bit n hn o.lc0 i hi (by simpa using hx))⟩)
    have hwithin := Otp.within_blow_right (Otp.bit_within_ofBits hmem) o
    refine getLsbD_of_or_eq (x := BitVec.ofNat 3 (2 ^ i)) (Otp.within_lc hwithin).1 ?_
    have hbit : ∀ i < 3, (BitVec.ofNat 3 (2 ^ i)).getLsbD i = true := by decide
    exact hbit i (by omega)

theorem Otp.returning_of_begun (o : Otp) {l : List (FuseField × Nat)} (h : (FuseField.returnBegun 0, 0) ∈ l) : (o.blow (Otp.ofBits l)).returning = true := by
  have hwithin := Otp.within_blow_right (Otp.bit_within_ofBits h) o
  have hbit : (o.blow (Otp.ofBits l)).returnBegun.getLsbD 0 = true :=
    getLsbD_of_or_eq (x := BitVec.ofNat 3 (2 ^ 0)) (congrArg Otp.returnBegun hwithin) (by decide)
  unfold Otp.returning
  simp only [bne_iff_ne, ne_eq]
  intro hzero
  rw [hzero] at hbit
  exact absurd hbit (by decide)

/-! ### The life-cycle registers -/

theorem viaReg_lcsReg (f : Blk → Blk) (b : Blk) (hrst : b.pwr.sysRst = false) : viaReg 0xB0100 f b = f b := by
  have hreg : b.regInReset 0xB0100 = false := by simp [Blk.regInReset, hrst]
  unfold viaReg; rw [hreg]; rfl

/-- The block with a life-cycle command under way. -/
def Blk.lcsStarted (b : Blk) (op : Nat) : Blk := modId (fun i => { i with lastOp := op }) b

section
variable {b : Blk} {op : Nat} {states : List LcState} {f : Blk → Blk} (hload : b.ident.loaded = true) (haon : b.aon = true) (hbusy : b.ident.state ≠ .busy)
include hload haon hbusy

/-- A command in a state that its row lists runs with LAST_OP set (Table 13-11). -/
theorem lcs_runs (hlc : b.ident.lc ∈ states) : lcs op states f b = f (b.lcsStarted op) := by
  unfold lcs
  rw [hload, haon, if_neg (by decide), if_neg hbusy]
  exact if_pos (List.contains_iff_mem.2 hlc)

theorem lcs_state (hlc : b.ident.lc ∉ states) : lcs op states f b = lcsEnd 1 (b.lcsStarted op) := by
  unfold lcs
  rw [hload, haon, if_neg (by decide), if_neg hbusy]
  exact if_neg (fun h => hlc (List.contains_iff_mem.1 h))

end

theorem mem_owner_states {x : LcState} (h : x = .provision ∨ x = .sealedState) : x ∈ [LcState.provision, .sealedState] := by simpa using h

theorem mem_debug_states {x : LcState} (h : x = .provision ∨ x = .returned) : x ∈ [LcState.provision, .returned] := by simpa using h

/-- Settles O22. -/
theorem ownerInstallationAndSealing : Obligations.OwnerInstallationAndSealing := by
  unfold Obligations.OwnerInstallationAndSealing
  intro s haon hrst hload hbusy
  have hup : s.now.aon = true := haon
  refine ⟨fun hlc h0 h1 hk0 hk1 => ?install, fun hlc => ?bind, fun arg hlc hown => ⟨fun harg => ?noPiece, fun harg => ?piece⟩, fun hlc hown hdbg => ?seals,
    fun r x hlc hrun hsvn => ?rollback, fun x hlc hrun hsvn => ?commit, fun hlc r => ⟨?foundryInstall, ?foundryBind, ?foundrySeal, ?foundryCommit⟩⟩
  case install =>
    have hblank : ¬ (s.now.ident.fuse.seed0 != 0 || s.now.ident.fuse.seed1 != 0 || s.now.ident.fuse.key0 != 0 || s.now.ident.fuse.key1 != 0) = true := by
      rw [h0, h1, hk0, hk1]; decide
    rw [exec_installOwner s haon, viaReg_lcsReg _ _ hrst, installOwner, lcs_runs hload hup hbusy (by simp [hlc])]
    cases hv : Config.ed448Valid (s.now.lcsBytes 0 57)
    · exact congrArg (fun x => Host.Outcome.next (s.after x).blow) ((if_neg hblank).trans (if_pos (congrArg (!·) hv)))
    · exact congrArg (fun x => Host.Outcome.next (s.after x).blow) ((if_neg hblank).trans (if_neg (fun h => absurd ((congrArg (!·) hv).symm.trans h) (by decide))))
  case bind =>
    rw [exec_aliasBind s haon, viaReg_lcsReg _ _ hrst, aliasBind, lcs_runs hload hup hbusy (mem_owner_states hlc)]
    have hpub : (s.now.lcsStarted 2).aliasPub = s.now.aliasPub := rfl
    have howner : (s.now.lcsStarted 2).ident.ownerKeyId = s.now.ident.ownerKeyId := rfl
    have hkey : (s.now.lcsStarted 2).ident.fuse.identityKey = s.now.ident.fuse.identityKey := rfl
    rw [hpub, howner, hkey]
    cases s.now.aliasPub with
    | none => rfl
    | some a => cases s.now.ident.ownerKeyId with
      | none => rfl
      | some o => cases s.now.ident.fuse.identityKey <;> rfl
  case noPiece =>
    have hown' : ¬ s.now.ident.ownerKeyId.isNone = true := by rw [Option.isNone_iff_eq_none]; exact Option.isSome_iff_ne_none.1 hown
    rw [exec_installAliasChain s haon, viaReg_lcsReg _ _ hrst, installAliasChain, lcs_runs hload hup hbusy (mem_owner_states hlc)]
    exact congrArg (fun x => Host.Outcome.next (s.after x)) ((if_neg hown').trans (if_pos harg))
  case piece =>
    have hown' : ¬ s.now.ident.ownerKeyId.isNone = true := by rw [Option.isNone_iff_eq_none]; exact Option.isSome_iff_ne_none.1 hown
    have hmod : arg % 2 ^ 15 = arg := Nat.mod_eq_of_lt (by omega)
    have hlast : (!arg.testBit 15) = true := by rw [Nat.testBit_lt_two_pow (by omega : arg < 2 ^ 15)]; rfl
    rw [exec_installAliasChain s haon, viaReg_lcsReg _ _ hrst, installAliasChain, lcs_runs hload hup hbusy (mem_owner_states hlc), hmod]
    exact congrArg (fun x => Host.Outcome.next (s.after x)) ((if_neg hown').trans ((if_neg (by omega)).trans (if_pos hlast)))
  case seals =>
    refine ⟨_, exec_sealPart s haon .whole, ?_⟩
    have hopen : ¬ (s.now.ident.ownerKeyId.isNone || s.now.ident.debugOpen) = true := by
      obtain ⟨o, ho⟩ := Option.isSome_iff_exists.1 hown
      simp [ho, hdbg]
    rw [viaReg_lcsReg _ _ hrst, lcsSeal, lcs_runs hload hup hbusy (by simp [hlc])]
    dsimp only
    rw [if_neg (show ¬ ((s.now.lcsStarted 4).ident.ownerKeyId.isNone || (s.now.lcsStarted 4).ident.debugOpen) = true from hopen)]
    have hreach : 2 ≤ (s.now.ident.fuse.blow (Otp.ofBits (s.now.ident.fuse.lcForward 2))).lcBits := Otp.lcForward_reaches _ (by decide) fun _ h => h
    split
    · exact ⟨rfl, rfl, hreach, rfl⟩
    · exact ⟨rfl, rfl, hreach, rfl⟩
  case rollback =>
    have hsvn' : ((s.now.mgt.running.map (fun (x : Running) => x.svn)).getD 0) < s.now.ident.fuse.svn := by rw [hrun]; exact hsvn
    rw [exec_commitSvn s haon, viaReg_lcsReg _ _ hrst, commitSvn, lcs_runs hload hup hbusy (mem_owner_states hlc)]
    exact congrArg (fun x => Host.Outcome.next (s.after x).blow) (if_pos hsvn')
  case commit =>
    have hrun' : (s.now.lcsStarted 9).mgt.running = some x := hrun
    rw [exec_commitSvn s haon, viaReg_lcsReg _ _ hrst, commitSvn, lcs_runs hload hup hbusy (mem_owner_states hlc), hrun', Option.map_some, Option.getD_some]
    exact congrArg (fun x => Host.Outcome.next (s.after x).blow) (if_neg (Nat.not_lt.2 hsvn))
  case foundryInstall => rw [exec_installOwner s haon, viaReg_lcsReg _ _ hrst, installOwner, lcs_state hload hup hbusy (by simp [hlc])]; rfl
  case foundryBind => rw [exec_aliasBind s haon, viaReg_lcsReg _ _ hrst, aliasBind, lcs_state hload hup hbusy (by simp [hlc])]; rfl
  case foundrySeal => rw [exec_sealPart s haon, viaReg_lcsReg _ _ hrst, lcsSeal, lcs_state hload hup hbusy (by simp [hlc])]; rfl
  case foundryCommit => rw [exec_commitSvn s haon, viaReg_lcsReg _ _ hrst, commitSvn, lcs_state hload hup hbusy (by simp [hlc])]; rfl

/-! ### Debug, return and the test access port -/

theorem withDebugNonce_self {b : Blk} (h : b.ident.debugNonce = none) : modId (fun i => { i with debugNonce := none }) b = b :=
  calc modId (fun i => { i with debugNonce := none }) b
    _ = modId (fun i => { i with debugNonce := b.ident.debugNonce }) b := by rw [h]
    _ = b := rfl

theorem withReturnNonce_self {b : Blk} (h : b.ident.returnNonce = none) : modId (fun i => { i with returnNonce := none }) b = b :=
  calc modId (fun i => { i with returnNonce := none }) b
    _ = modId (fun i => { i with returnNonce := b.ident.returnNonce }) b := by rw [h]
    _ = b := rfl

section
variable {b : Blk} (hload : b.ident.loaded = true) (haon : b.aon = true) (hbusy : b.ident.state ≠ .busy) (hlc : b.ident.lc = .provision ∨ b.ident.lc = .returned)
include hload haon hbusy hlc

theorem debugUnlock_no_nonce (h : b.ident.debugNonce = none) : debugUnlock b = lcsEnd 4 (setErr .lcs 2 (b.lcsStarted 6)) := by
  have hnonce : (b.lcsStarted 6).ident.debugNonce = none := h
  rw [debugUnlock, lcs_runs hload haon hbusy (mem_debug_states hlc)]
  dsimp only
  rw [hnonce, withDebugNonce_self hnonce]

/-- The nonce is consumed; debug opens only with a Treldex signature over it (R366). -/
theorem debugUnlock_nonce {n : List Byte} (h : b.ident.debugNonce = some n) : debugUnlock b =
    if b.treldexSigned ((b.lcsBytes 0 1).headD 0).toNat (ascii "TXA-9480 DEBUG v1" ++ b.ident.unitId ++ n) (b.lcsBytes 8 114)
    then lcsEnd 0 (modId (fun i => { i with debugOpen := true }) (modId (fun i => { i with debugNonce := none }) (b.lcsStarted 6)))
    else lcsEnd 3 (setErr .lcs 2 (modId (fun i => { i with debugNonce := none }) (b.lcsStarted 6))) := by
  have hnonce : (b.lcsStarted 6).ident.debugNonce = some n := h
  rw [debugUnlock, lcs_runs hload haon hbusy (mem_debug_states hlc)]
  dsimp only
  rw [hnonce]; rfl

end

section
variable {b : Blk} {arg : Nat} {r : FuseRun} (hload : b.ident.loaded = true) (haon : b.aon = true) (hbusy : b.ident.state ≠ .busy)
  (hlc : b.ident.lc = .provision ∨ b.ident.lc = .sealedState)
include hload haon hbusy hlc

theorem lcsReturn_port_open (hport : (b.port 0).disable = false) :
    lcsReturn arg r b = lcsEnd 6 (setErr .lcs 3 (modId (fun i => { i with returnNonce := none }) (b.lcsStarted 8))) := by
  have hopen : (!((List.range 4).all (fun p => (b.port p).disable)) || b.halvesOf.any (fun h => (b.half h).role == .holder)) = true := by
    have hall : (List.range 4).all (fun p => (b.port p).disable) = false := List.all_eq_false.2 ⟨0, by simp, by simp [hport]⟩
    rw [hall]; rfl
  rw [lcsReturn, lcs_runs hload haon hbusy (mem_owner_states hlc)]
  exact if_pos hopen

variable (hports : (List.range 4).all (fun p => (b.port p).disable) = true) (hheld : b.halvesOf.any (fun h => (b.half h).role == .holder) = false)
include hports hheld

theorem lcsReturn_no_nonce (h : b.ident.returnNonce = none) : lcsReturn arg r b = lcsEnd 4 (setErr .lcs 3 (b.lcsStarted 8)) := by
  have hshut : ¬ (!((List.range 4).all (fun p => (b.port p).disable)) || b.halvesOf.any (fun h => (b.half h).role == .holder)) = true := by rw [hports, hheld]; decide
  have hnonce : (b.lcsStarted 8).ident.returnNonce = none := h
  rw [lcsReturn, lcs_runs hload haon hbusy (mem_owner_states hlc)]
  dsimp only
  rw [hnonce, withReturnNonce_self hnonce]
  exact if_neg hshut

end

/-- The fuse bits that RETURN blows, in its order: RETURN_BEGUN, the secret fields, LC_STATE (R367). -/
def Otp.returnBits (o : Otp) : List (FuseField × Nat) := (List.range 3).map (fun i => ((FuseField.returnBegun i, 0) : FuseField × Nat)) ++ o.secretBits ++ o.lcForward 3

/-- In PROVISION a RETURN with its nonce needs the Treldex signature only (R367). -/
theorem lcsReturn_nonce {b : Blk} {arg : Nat} {n : List Byte} (hload : b.ident.loaded = true) (haon : b.aon = true) (hbusy : b.ident.state ≠ .busy) (hlc : b.ident.lc = .provision)
    (hports : (List.range 4).all (fun p => (b.port p).disable) = true) (hheld : b.halvesOf.any (fun h => (b.half h).role == .holder) = false)
    (h : b.ident.returnNonce = some n) : lcsReturn arg .whole b =
      if b.treldexSigned (arg % 4) (ascii "TXA-9480 RETURN v1" ++ b.ident.unitId ++ n) (b.lcsBytes 0 114)
      then fuseEnd .whole (zeroiseSlots (burnBits b.ident.fuse.returnBits .whole (modId (fun i => { i with returnNonce := none }) (b.lcsStarted 8))))
      else lcsEnd 3 (setErr .lcs 3 (modId (fun i => { i with returnNonce := none }) (b.lcsStarted 8))) := by
  have hshut : ¬ (!((List.range 4).all (fun p => (b.port p).disable)) || b.halvesOf.any (fun h => (b.half h).role == .holder)) = true := by rw [hports, hheld]; decide
  have hnonce : (b.lcsStarted 8).ident.returnNonce = some n := h
  have hprov : ∀ x y, (!x || (b.ident.lc == .sealedState && y)) = !x := by intro x y; rw [hlc]; cases x <;> cases y <;> rfl
  rw [lcsReturn, lcs_runs hload haon hbusy (mem_owner_states (.inl hlc))]
  dsimp only
  rw [hnonce]
  refine (if_neg hshut).trans ?_
  dsimp only
  cases hsig : b.treldexSigned (arg % 4) (ascii "TXA-9480 RETURN v1" ++ b.ident.unitId ++ n) (b.lcsBytes 0 114)
  · exact if_pos ((hprov _ _).trans (congrArg (!·) hsig))
  · exact if_neg (fun hc => absurd (((hprov _ _).trans (congrArg (!·) hsig)).symm.trans hc) (by decide))

/-- A refused command's end changes no fuse, nonce or key slot. -/
theorem lcsRefuse_facts (n k : Nat) (b : Blk) : (lcsEnd n (setErr .lcs k b)).ident.returnNonce = b.ident.returnNonce ∧ (lcsEnd n (setErr .lcs k b)).ident.result = n ∧
    (lcsEnd n (setErr .lcs k b)).cph = b.cph ∧ (lcsEnd n (setErr .lcs k b)).ident.fuse = b.ident.fuse := by simp [lcsEnd, modId]

theorem tapProvision_eq {b : Blk} {chain : List Byte} (hload : b.ident.loaded = true) (haon : b.aon = true) (hlc : b.ident.lc = .foundry)
    (hkey : b.ident.fuse.identityKey.isSome = true) (hchain : chain ≠ []) :
    tapProvision chain b = loadIdentity (burnBits (b.ident.fuse.lcForward 1) .whole (modId (fun i => { i with identityChain := chain }) b)) := by
  unfold tapProvision
  rw [if_pos (by simp [hload, haon, hlc, hkey, hchain])]

/-- Settles O23. -/
theorem debugReturnAndTap : Obligations.DebugReturnAndTap := by
  unfold Obligations.DebugReturnAndTap
  intro s haon hrst hload hbusy
  have hup : s.now.aon = true := haon
  refine ⟨fun hlc => ⟨?challenge, fun hn => ?noNonce, fun n hn => ?unlock⟩, fun hlc => ⟨?returnChallenge, fun arg r hport => ?portOpen, fun arg r hports hheld hn => ?noReturnNonce⟩,
    fun arg n hlc hports hheld hn => ?returns, fun chain hlc hkey hchain => ?provision, fun chain hlc => ?noProvision, fun i => exec_tapInstruction s haon i⟩
  case challenge => rw [exec_debugChallenge s haon, viaReg_lcsReg _ _ hrst, debugChallenge, lcs_runs hload hup hbusy (mem_debug_states hlc)]; rfl
  case noNonce => rw [exec_debugUnlock s haon, viaReg_lcsReg _ _ hrst, debugUnlock_no_nonce hload hup hbusy hlc hn]; rfl
  case unlock =>
    rw [exec_debugUnlock s haon, viaReg_lcsReg _ _ hrst, debugUnlock_nonce hload hup hbusy hlc hn]
    exact congrArg (fun x => Host.Outcome.next (s.after x)) (ite_congr rfl (fun _ => by simp [lcsEnd, modId, Blk.lcsStarted]) fun _ => rfl)
  case returnChallenge => rw [exec_returnChallenge s haon, viaReg_lcsReg _ _ hrst, returnChallenge, lcs_runs hload hup hbusy (mem_owner_states hlc)]; rfl
  case portOpen => rw [exec_returnPart s haon, viaReg_lcsReg _ _ hrst, lcsReturn_port_open hload hup hbusy hlc hport]; rfl
  case noReturnNonce => rw [exec_returnPart s haon, viaReg_lcsReg _ _ hrst, lcsReturn_no_nonce hload hup hbusy hlc hports hheld hn]; rfl
  case returns =>
    refine ⟨_, exec_returnPart s haon arg .whole, ?_⟩
    rw [viaReg_lcsReg _ _ hrst, lcsReturn_nonce hload hup hbusy hlc hports hheld hn]
    cases s.now.treldexSigned (arg % 4) (ascii "TXA-9480 RETURN v1" ++ s.now.ident.unitId ++ n) (s.now.lcsBytes 0 114)
    · rw [if_neg Bool.false_ne_true, if_neg Bool.false_ne_true]
      obtain ⟨hnonce, hresult, hcph, hfuse⟩ := lcsRefuse_facts 3 3 (modId (fun i => { i with returnNonce := none }) (s.now.lcsStarted 8))
      exact ⟨hnonce, hresult, congrArg CphSt.slots hcph, hfuse⟩
    · exact ⟨rfl, rfl, rfl, Otp.returning_of_begun _ (List.mem_append_left _ (List.mem_append_left _ (by simp)))⟩
  case provision =>
    refine ⟨_, exec_tapProvision s haon chain, ?_⟩
    rw [tapProvision_eq hload hup hlc hkey hchain]
    exact ⟨rfl, Otp.lcForward_reaches _ (by decide) fun _ h => h⟩
  case noProvision => rw [exec_tapProvision s haon, tapProvision, if_neg (by simp [hlc])]

end Sys2Proof.Machine
end

section
/-!
PROOF. Back-invalidate answers (R97, R98), port-class resets (R9, R113), and link training (R86, R87).
-/
namespace Sys2Proof.Machine
open Sys2Proof

/-! ### Ports and logical devices -/

@[simp] theorem modPort_port (p : Nat) (f : PortSt → PortSt) (b : Blk) : (modPort p f b).port p = f (b.port p) := SMap.get_upd_same ..

@[simp] theorem modLd_ld (n : Nat) (f : LdSt → LdSt) (b : Blk) : (modLd n f b).ld n = f (b.ld n) := SMap.get_upd_same ..

/-- A posted event changes logical devices only. -/
theorem postTo_host (l : List Nat) (k : LogKind) (r : EvRec) (b : Blk) : ∃ x, (postTo l k r b).host = { b.host with lds := x } := by
  have hraise : ∀ n v (y : Blk), ∃ x, (raiseMsix n v y).host = { y.host with lds := x } := by
    intro n v y; simp only [raiseMsix]; split
    · exact ⟨_, rfl⟩
    · split
      · exact ⟨_, rfl⟩
      · exact ⟨_, rfl⟩
  have hint : ∀ n (y : Blk), ∃ x, (eventInterrupt n k y).host = { y.host with lds := x } := by
    intro n y; unfold eventInterrupt; dsimp only; split
    · exact hraise ..
    · exact ⟨_, rfl⟩
  unfold postTo
  refine foldl_keeps (fun y : Blk => ∃ x, y.host = { b.host with lds := x }) _ _ (fun y n _ ⟨x, hx⟩ => ?_) ⟨_, rfl⟩
  obtain ⟨z, hz⟩ := hint n (modLd n (fun l => { l with logs := SMap.upd EvLog.empty l.logs k.code (fun g => g.add r) }) y)
  exact ⟨z, by rw [hz]; simp [modLd, hx]⟩

/-- A violation is counted at its port and posted; the rest of the host side stays. -/
theorem violation_host (ld bit dpa : Nat) (l p : Bool) (b : Blk) : ∃ x y, (violation ld bit dpa l p b).host = { b.host with ports := x, lds := y } := by
  unfold violation
  extract_lets port noted counted
  have hnoted : noted.host = b.host := by simp only [noted]; split <;> simp
  clear_value noted
  have hcounted : ∃ x, counted.host = { b.host with ports := x } := ⟨_, by rw [← hnoted]; rfl⟩
  obtain ⟨x, hx⟩ := hcounted
  clear_value counted
  split
  · obtain ⟨y, hy⟩ := postTo_host [ld] .warning (vendorRec .violation { detail := [bit, dpa] } counted) counted
    exact ⟨x, y, by rw [hy, hx]⟩
  · exact ⟨x, b.host.lds, hx⟩

theorem violation_errs (ld bit dpa : Nat) (l p : Bool) (b : Blk) : (violation ld bit dpa l p b).errs = (setErr (.hp (ld / 16)) bit b).errs := by
  unfold violation; dsimp only
  cases l <;> cases p <;> simp [setErrLog_errs]

/-- The error register after its bit is set. -/
theorem setErr_err (r : ErrReg) (n : Nat) (b : Blk) : (setErr r n b).err r = b.err r ||| (1 <<< n) := by
  unfold Blk.err; rw [setErr_errs, SMap.get_upd_same]

/-! ### Back-invalidate -/

theorem bi_awaited {b : Blk} {g n : Nat} {w : BiWait} (h : b.host.bi.find? (fun x => x.granule = g && x.lds.contains n) = some w) :
    b.host.bi.any (fun x => x.granule = g && x.lds.contains n) = true := by
  have hw := List.find?_some h
  exact List.any_eq_true.2 ⟨w, List.mem_of_find?_eq_some h, hw⟩

/-- An answer that is not the last leaves the other holders awaited (R97). -/
theorem biAnswered_more (phys : Phys) {b : Blk} {g n : Nat} {w : BiWait} (h : b.host.bi.find? (fun x => x.granule = g && x.lds.contains n) = some w)
    (hleft : (w.lds.filter (· != n)).isEmpty = false) :
    biAnswered phys g n b = { b with host := { b.host with bi := b.host.bi.map (fun x => if x.granule = g then { x with lds := w.lds.filter (· != n) } else x) } } := by
  unfold biAnswered; rw [h]; dsimp only; rw [hleft]; rfl

theorem biAnswered_last (phys : Phys) {b : Blk} {g n : Nat} {w : BiWait} (h : b.host.bi.find? (fun x => x.granule = g && x.lds.contains n) = some w)
    (hleft : (w.lds.filter (· != n)).isEmpty = true) :
    biAnswered phys g n b = biSettled phys { b with host := { b.host with bi := b.host.bi.filter (fun x => x.granule != g) } } w := by
  unfold biAnswered; rw [h]; dsimp only; rw [hleft]; rfl

/-- The filter's entry of a granule changes the snoop filter only, and tells the twin. -/
theorem sfSet_eq (g : Nat) (who : Option Holders) (b : Blk) : ∃ sf t o, sfSet g who b = { b with host := { b.host with sf := sf, sfTick := t }, out := o } := by
  unfold sfSet
  extract_lets t sf kept
  clear_value t sf
  split
  · exact ⟨sf, t, _, rfl⟩
  · exact ⟨sf, t, b.out, rfl⟩

/-- Settles O12. -/
theorem backInvalidateAnswers : Obligations.BackInvalidateAnswers := by
  unfold Obligations.BackInvalidateAnswers
  intro s phys n g haon
  refine ⟨fun w hw => ⟨fun hleft => ?more, fun hleft hev => ?evict, fun hleft hev hheld => ?alone, fun hleft hown => ?timeout⟩,
    fun hno => ⟨fun hlate => ?late, fun hlate hown => ?stray, ?nothing⟩⟩
  case more => rw [exec_biRspI s haon, biRspI, if_pos (bi_awaited hw), biAnswered_more phys hw hleft]
  case evict => rw [exec_biRspI s haon, biRspI, if_pos (bi_awaited hw), biAnswered_last phys hw hleft, biSettled, if_pos hev]
  case alone =>
    rw [exec_biRspI s haon, biRspI, if_pos (bi_awaited hw), biAnswered_last phys hw hleft, biSettled, hev]
    dsimp only
    rw [hheld]; rfl
  case timeout =>
    refine ⟨_, exec_biTimeout s haon phys n g, ?_⟩
    rw [biTimeout, if_pos (bi_awaited hw)]
    extract_lets violated hostNow noted dropped
    have hviol : violated = violation (n % 64) 4 (g * 128) true true s.now := by simp only [violated, biViolation]; rw [if_pos hown]
    obtain ⟨x, y, hhost⟩ := violation_host (n % 64) 4 (g * 128) true true s.now
    have hviolated : violated.host = { s.now.host with ports := x, lds := y } ∧ violated.errs = (setErr (.hp (n % 64 / 16)) 4 s.now).errs ∧
        violated.dram = s.now.dram ∧ violated.halo = s.now.halo := by
      rw [hviol, hhost, violation_errs]; simp
    clear_value violated
    obtain ⟨hhost', herrs, hdram, hhalo⟩ := hviolated
    have hnoted : noted.host.bi = s.now.host.bi ∧ noted.host.biLate = (g, n) :: s.now.host.biLate.erase (g, n) ∧ noted.errs = violated.errs ∧
        noted.dram = violated.dram ∧ noted.halo = violated.halo := ⟨by simp only [noted, hostNow, hhost'], by simp only [noted, hhost'], rfl, rfl, rfl⟩
    clear_value noted
    have hdropped : ∃ sf t o, dropped = { noted with host := { noted.host with sf := sf, sfTick := t }, out := o } := by
      simp only [dropped]; split
      · exact sfSet_eq ..
      · exact ⟨_, _, _, rfl⟩
    obtain ⟨sf, t, o, hdrop⟩ := hdropped
    obtain ⟨hbi, hlate, herrs', hdram', hhalo'⟩ := hnoted
    have hw' : dropped.host.bi.find? (fun x => x.granule = g && x.lds.contains n) = some w := by rw [hdrop]; dsimp only; rw [hbi]; exact hw
    rw [biAnswered_more phys hw' hleft, hdrop]
    refine ⟨?_, by dsimp only; rw [hbi], hlate, hdram'.trans hdram, hhalo'.trans hhalo⟩
    show noted.err _ = _
    unfold Blk.err
    rw [herrs', herrs]
    exact setErr_err ..
  case late => rw [exec_biRspI s haon, biRspI, hno, if_neg Bool.false_ne_true, if_pos hlate]
  case stray => rw [exec_biRspI s haon, biRspI, hno, if_neg Bool.false_ne_true, hlate, if_neg Bool.false_ne_true, biViolation, if_pos hown]
  case nothing => rw [exec_biTimeout s haon, biTimeout, hno]; rfl

/-! ### Port-class resets -/

theorem addReset_contains (k : Nat) (l : List Nat) : (addReset k l).contains k = true := by
  unfold addReset; split
  · assumption
  · simp

theorem modLds_keep_port (p : Nat) (f : LdSt → LdSt) (l : List Nat) (b : Blk) :
    (l.foldl (fun b n => modLd n f b) b).port p = b.port p ∧ (l.foldl (fun b n => modLd n f b) b).dram = b.dram ∧ (l.foldl (fun b n => modLd n f b) b).halo = b.halo :=
  foldl_keeps (fun x : Blk => x.port p = b.port p ∧ x.dram = b.dram ∧ x.halo = b.halo) (fun b n => modLd n f b) l (fun _ _ _ h => h) ⟨rfl, rfl, rfl⟩

/-- A reset of a port begins: what its registers then show (R9, R113, R479). -/
theorem portResetBegin_port (phys : Phys) (r : PortReset) (p : Nat) (b : Blk) (hport : r.port? = some p) (hex : r.exists? = true) (haon : b.aon = true) :
    ((portResetBegin phys r b).port p).inReset = true ∧ ((portResetBegin phys r b).port p).resets.contains r.kind = true ∧
      ((portResetBegin phys r b).port p).present = 0 ∧ ((portResetBegin phys r b).port p).speed = 0 ∧ ((portResetBegin phys r b).port p).width = 0 ∧
      ((portResetBegin phys r b).port p).cxlMem = false ∧ ((portResetBegin phys r b).port p).ideActive = false ∧ ((portResetBegin phys r b).port p).ideIo = false := by
  unfold portResetBegin
  rw [hex, haon, if_neg (by decide)]
  dsimp only
  rw [hport]
  simp only [modPort_port, linkStatusDown, addReset_contains, and_self]

theorem portResetEnd_port (r : PortReset) (p : Nat) (b : Blk) (hport : r.port? = some p) (hex : r.exists? = true) :
    (portResetEnd r b).port p = { b.port p with inReset := !((b.port p).resets.erase r.kind).isEmpty, resets := (b.port p).resets.erase r.kind } ∧
      (portResetEnd r b).dram = b.dram ∧ (portResetEnd r b).halo = b.halo := by
  unfold portResetEnd
  rw [hex, Bool.not_true, if_neg Bool.false_ne_true, hport]
  dsimp only
  split
  · obtain ⟨hp, hd, hh⟩ := modLds_keep_port p (fun l => { l with heldWin := none }) r.lds
      (modPort p (fun x => { x with inReset := !((b.port p).resets.erase r.kind).isEmpty, resets := (b.port p).resets.erase r.kind }) b)
    exact ⟨hp.trans (modPort_port ..), hd, hh⟩
  · exact ⟨modPort_port .., rfl, rfl⟩

/-- A reset of one logical device begins (R9, R479). -/
theorem portResetBegin_ld (phys : Phys) (r : PortReset) (n : Nat) (b : Blk) (hport : r.port? = none) (hlds : r.lds = [n]) (hex : r.exists? = true) (haon : b.aon = true) :
    ((portResetBegin phys r b).ld n).resetting = true ∧ ((portResetBegin phys r b).ld n).resets.contains r.kind = true ∧
      ((portResetBegin phys r b).ld n).doorbell = false ∧ ((portResetBegin phys r b).ld n).msix = [] ∧
      (r.decoders = true → ((portResetBegin phys r b).ld n).decoders = []) := by
  unfold portResetBegin
  rw [hex, haon, if_neg (by decide)]
  dsimp only
  rw [hport, hlds]
  simp only [List.foldl_cons, List.foldl_nil, modLd_ld, resetWindow, addReset_contains, true_and]
  exact fun h => if_pos h

theorem portResetEnd_ld (r : PortReset) (n : Nat) (b : Blk) (hport : r.port? = none) (hlds : r.lds = [n]) (hex : r.exists? = true) :
    portResetEnd r b = modLd n (fun l => { l with
      resetting := !((b.ld n).resets.erase r.kind).isEmpty, resets := (b.ld n).resets.erase r.kind,
      heldWin := if ((b.ld n).resets.erase r.kind).isEmpty then none else l.heldWin }) b := by
  unfold portResetEnd
  rw [hex, Bool.not_true, if_neg Bool.false_ne_true, hport, hlds]; rfl

/-- Outside a system reset HP_CTRL takes its writes (R479). -/
theorem viaReg_hpCtrl (p : Nat) (hp : p < 4) (f : Blk → Blk) (b : Blk) (hrst : b.pwr.sysRst = false) : viaReg (0x20008 + 0x4000 * p) f b = f b := by
  have hpage : (0x20008 + 0x4000 * p) / 0x10000 = 2 := by omega
  have hoff : (0x20008 + 0x4000 * p) % 0x10000 % 0x4000 = 8 := by omega
  have hreg : b.regInReset (0x20008 + 0x4000 * p) = false := by simp only [Blk.regInReset, hpage, hoff, hrst]; rfl
  unfold viaReg; rw [hreg]; rfl

theorem afterReset_port (s : State) (b : Blk) (p : Nat) : (s.after b).blk.port p = b.port p ∧ (s.after b).blk.dram = b.dram ∧ (s.after b).blk.halo = b.halo := by
  simp [State.after, Blk.port]

theorem afterReset_ld (s : State) (b : Blk) (n : Nat) : (s.after b).blk.ld n = b.ld n := by simp [State.after, Blk.ld]

/-- Settles O13. -/
theorem portClassResets : Obligations.PortClassResets := by
  unfold Obligations.PortClassResets
  intro s phys p n haon hp hn
  have hup : s.now.aon = true := haon
  refine ⟨fun r hr => ?ports, fun r hr => ?devices, fun hrst => ⟨fun on hon => ?repeats, fun hoff => ?disable, fun hon => ?enable⟩, ?linkDown⟩
  case ports =>
    have hfacts : r.port? = some p ∧ r.exists? = true := by
      simp only [List.mem_cons, List.not_mem_nil, or_false] at hr
      rcases hr with rfl | rfl | rfl <;> exact ⟨rfl, decide_eq_true hp⟩
    obtain ⟨hport, hex⟩ := hfacts
    refine ⟨?_, ?_⟩
    · exact ⟨_, exec_portResetBegin s haon phys r, portResetBegin_port phys r p s.now hport hex hup⟩
    · obtain ⟨hend, hdram, hhalo⟩ := portResetEnd_port r p s.now hport hex
      obtain ⟨hpk, hdk, hhk⟩ := afterReset_port s (portResetEnd r s.now) p
      refine ⟨_, exec_portResetEnd s haon r, ?_⟩
      rw [hpk, hdk, hhk, hend, hdram, hhalo]
      exact ⟨rfl, rfl, rfl, rfl, rfl⟩
  case devices =>
    have hfacts : r.port? = none ∧ r.lds = [n] ∧ r.exists? = true ∧ (r = .cxl n → r.decoders = true) := by
      simp only [List.mem_cons, List.not_mem_nil, or_false] at hr
      rcases hr with rfl | rfl
      · exact ⟨rfl, rfl, decide_eq_true hn, fun h => by cases h⟩
      · exact ⟨rfl, rfl, decide_eq_true hn, fun _ => rfl⟩
    obtain ⟨hport, hlds, hex, hdec⟩ := hfacts
    refine ⟨?_, ?_⟩
    · obtain ⟨hin, hkind, hbell, hmsix, hnone⟩ := portResetBegin_ld phys r n s.now hport hlds hex hup
      exact ⟨_, exec_portResetBegin s haon phys r, hin, hkind, hbell, hmsix, fun h => hnone (hdec h)⟩
    · obtain ⟨_, hdk, hhk⟩ := afterReset_port s (portResetEnd r s.now) p
      refine ⟨_, exec_portResetEnd s haon r, ?_⟩
      rw [afterReset_ld, hdk, hhk, portResetEnd_ld r n s.now hport hlds hex, modLd_ld]
      exact ⟨rfl, rfl, fun h => if_pos (by rw [h]; rfl), rfl, rfl, rfl⟩
  case repeats => rw [exec_disable s haon, viaReg_hpCtrl p hp _ _ hrst, portDisable, if_pos (by simp [hon])]
  case disable => rw [exec_disable s haon, viaReg_hpCtrl p hp _ _ hrst, portDisable, if_neg (by simp [hoff, hp])]; rfl
  case enable => rw [exec_disable s haon, viaReg_hpCtrl p hp _ _ hrst, portDisable, if_neg (by simp [hon, hp])]; rfl
  case linkDown =>
    refine ⟨_, exec_linkDown s haon phys p, ?_⟩
    rw [linkDown, if_pos hp, linkStatusDown, modPort_port]
    exact ⟨rfl, rfl, rfl, rfl, rfl⟩

/-! ### Training -/

/-- What training sets at a port (R86, R87). -/
def PortSt.trained (x : PortSt) (c : PortCfg) (sp wd : Nat) (cxl tw : Bool) : PortSt :=
  { x with speed := speedField c.maxSpeed sp, width := speedField c.maxWidth wd, flit256 := cxl, cxlMem := cxl && !tw,
           retrain := false, twilight := tw, present := if cxl then 2 ^ c.ldCount - 1 else 0 }

theorem linkTrained_eq (p sp wd : Nat) (cxl : Bool) (b : Blk) (h : b.mayTrain p = true) (htw : b.pwr.stage ≠ .twilight) :
    linkTrained p sp wd cxl b = if cxl then modPort p (fun x => x.trained (b.portCfg p) sp wd cxl false) b
      else setErr (.hp p) 0 (modPort p (fun x => x.trained (b.portCfg p) sp wd cxl false) b) := by
  unfold linkTrained
  rw [h, Bool.not_true, if_neg Bool.false_ne_true]
  simp only [htw, decide_false, ↓reduceIte]; rfl

theorem linkTrained_twilight (p sp wd : Nat) (b : Blk) (h : b.mayTrain p = true) (htw : b.pwr.stage = .twilight) :
    linkTrained p sp wd true b = modPort p (fun x => x.trained { b.portCfg p with maxSpeed := 0, maxWidth := 0, ldCount := 1 } sp wd true true) b := by
  unfold linkTrained
  rw [h, Bool.not_true, if_neg Bool.false_ne_true]
  simp only [htw, decide_true, ↓reduceIte]; rfl

/-- Settles O14. -/
theorem linkTrainingAndReplay : Obligations.LinkTrainingAndReplay := by
  unfold Obligations.LinkTrainingAndReplay
  intro s p haon hp
  refine ⟨fun sp wd cxl h => ?mayNot, fun sp wd cxl h htw => ?trains, fun sp wd h htw => ⟨?first, ?twilight⟩, fun hrst => ?retrain, ?replayed, ?exhausted⟩
  case mayNot => rw [exec_linkTrained s haon, linkTrained, h]; rfl
  case trains =>
    obtain ⟨hpk, hdk, hhk⟩ := afterReset_port s (linkTrained p sp wd cxl s.now) p
    have herr : (s.after (linkTrained p sp wd cxl s.now)).blk.err (.hp p) = (linkTrained p sp wd cxl s.now).err (.hp p) := by simp [State.after, Blk.err]
    refine ⟨_, exec_linkTrained s haon p sp wd cxl, ?_⟩
    rw [hpk, hdk, hhk, herr, linkTrained_eq _ _ _ _ _ h htw]
    cases cxl
    · have hport : ∀ x : Blk, (setErr (.hp p) 0 x).port p = x.port p := fun x => by simp [Blk.port]
      rw [if_neg Bool.false_ne_true, hport, modPort_port, setErr_err, setErr_dram, setErr_halo]
      exact ⟨rfl, rfl, rfl, rfl, rfl, rfl, rfl, rfl, rfl, rfl⟩
    · rw [if_pos rfl, modPort_port]
      exact ⟨rfl, rfl, rfl, rfl, rfl, rfl, rfl, rfl, rfl, rfl⟩
  case first =>
    have hmay := h
    simp only [Blk.mayTrain, htw, ↓reduceIte, Bool.and_eq_true, beq_iff_eq] at hmay
    exact hmay.2.1
  case twilight =>
    obtain ⟨hpk, _, _⟩ := afterReset_port s (linkTrained p sp wd true s.now) p
    refine ⟨_, exec_linkTrained s haon p sp wd true, ?_⟩
    rw [hpk, linkTrained_twilight _ _ _ _ h htw, modPort_port]
    exact ⟨by simp [PortSt.trained, speedField], by simp [PortSt.trained, speedField], rfl, rfl, rfl⟩
  case retrain => rw [exec_retrain s haon, viaReg_hpCtrl p hp _ _ hrst, retrainPort, if_pos hp]
  case replayed => rw [exec_flitCrcError s haon]; rfl
  case exhausted =>
    obtain ⟨hpk, hdk, _⟩ := afterReset_port s (flitCrcError p true s.now) p
    refine ⟨_, exec_flitCrcError s haon p true, ?_⟩
    have hfree : (s.after (flitCrcError p true s.now)).blk.free = (flitCrcError p true s.now).free := by simp [State.after]
    rw [hpk, hdk, hfree, flitCrcError, if_pos (by simp [hp])]
    refine ⟨?_, ?_, ?_, rfl⟩
    · rw [modPort_port]
    · simp [drawFree]
    · simp

end Sys2Proof.Machine
end

section
/-!
PROOF. The mailbox of a logical device (R108, R109, Table 4-9).
-/
namespace Sys2Proof.Machine
open Sys2Proof

/-- The mailbox of a logical device takes a command: the device is present and no reset or command is under way. -/
structure MboxFree (b : Blk) (n : Nat) : Prop where
  present : (b.port (n / 16)).present.testBit (n % 16) = true
  portUp : (b.port (n / 16)).inReset = false
  devUp : (b.ld n).resetting = false
  bell : (b.ld n).doorbell = false

theorem mailboxRuns_iff (b : Blk) (n : Nat) : b.mailboxRuns n = true ↔ MboxFree b n ∧ b.mboxWaits = false ∧ b.inService = true := by
  simp only [Blk.mailboxRuns, Bool.and_eq_true, Bool.not_eq_true']
  constructor
  · rintro ⟨⟨⟨⟨⟨hp, hr⟩, hd⟩, hb⟩, hw⟩, hs⟩; exact ⟨⟨hp, hr, hd, hb⟩, hw, hs⟩
  · rintro ⟨⟨hp, hr, hd, hb⟩, hw, hs⟩; exact ⟨⟨⟨⟨⟨hp, hr⟩, hd⟩, hb⟩, hw⟩, hs⟩

theorem inService_not_twilight {b : Blk} (h : b.inService = true) : b.pwr.stage ≠ .twilight := by
  intro htw; rw [Blk.inService, htw] at h; exact absurd h (by decide)

section
variable {phys : Phys} {n : Nat} {c : MboxCmd} {b : Blk}

/-- A command runs where nothing makes it wait and no page has to be fetched for it. -/
theorem mailbox_runs (hfree : MboxFree b n) (htouch : touchFor phys n c b = b) (hheld : b.mboxHeld n c = false) : mailbox phys n c b = runMbox n c b := by
  unfold mailbox
  rw [hfree.present, hfree.portUp, hfree.devUp, hfree.bell, htouch]
  dsimp only
  rw [hheld]; rfl

/-- A command that touches no line runs at once. -/
theorem mailbox_runs_query (h : b.mailboxRuns n = true) (hq : b.poisonTarget n c = none) : mailbox phys n c b = runMbox n c b := by
  obtain ⟨hfree, hwait, _⟩ := (mailboxRuns_iff b n).1 h
  exact mailbox_runs hfree (by unfold touchFor; rw [hq]; rfl) (by unfold Blk.mboxHeld; rw [hwait, hq]; rfl)

/-- A poison command of a line that is in memory runs at once. -/
theorem mailbox_runs_poison {a : Nat} (h : b.mailboxRuns n = true) (ht : b.poisonTarget n c = some a) (hp : b.poisonWaits a = false) :
    mailbox phys n c b = runMbox n c b := by
  obtain ⟨hfree, hwait, _⟩ := (mailboxRuns_iff b n).1 h
  refine mailbox_runs hfree ?_ (by unfold Blk.mboxHeld; rw [hwait, ht]; exact hp)
  unfold touchFor
  rw [ht, Option.bind_some]
  cases hs : b.stagedPage a with
  | none => rfl
  | some f =>
    cases hf : b.stageFind f with
    | some i => dsimp only; rw [hf]; rfl
    | none =>
      have harea : b.area a ≠ .slot := fun he => by rw [Blk.stagedPage, he] at hs; cases hs
      have hwaits : b.poisonWaits a = true := by unfold Blk.poisonWaits; rw [if_neg harea, hs]; dsimp only; rw [hf]
      rw [hwaits] at hp; cases hp

theorem mailbox_waits (hfree : MboxFree b n) (hw : b.mboxWaits = true) (hq : b.poisonTarget n c = none) :
    mailbox phys n c b = modLd n (fun l => { l with doorbell := true }) { b with fw := { b.fw with deferred := b.fw.deferred ++ [.mbox n c] } } := by
  have htouch : touchFor phys n c b = b := by unfold touchFor; rw [hq]; rfl
  unfold mailbox
  rw [hfree.present, hfree.portUp, hfree.devUp, hfree.bell, htouch]
  dsimp only
  rw [show b.mboxHeld n c = true by unfold Blk.mboxHeld; rw [hw, Bool.true_or]]; rfl

theorem mailbox_busy (hp : (b.port (n / 16)).present.testBit (n % 16) = true) (hr : (b.port (n / 16)).inReset = false) (hd : (b.ld n).resetting = false)
    (hbell : (b.ld n).doorbell = true) : mailbox phys n c b = violation n 9 0 false true b := by
  unfold mailbox; rw [hp, hr, hd, hbell]; rfl

/-- In service no command is refused for Twilight. -/
theorem runMbox_twilight (h : b.inService = true) : (decide (b.pwr.stage = .twilight)) = false := decide_eq_false (inService_not_twilight h)

end

theorem runStandard_other (n op : Nat) (input : List Byte) (b : Blk) (h : op ∉ mboxOpcodes) : runStandard n op input b = send (.mbox n op 1 []) b := by
  unfold runStandard
  dsimp only
  split
  case h_12 => rfl
  all_goals exact absurd (by decide) h

/-- A command other than those of poison touches no line. -/
theorem runs_of_mailboxRuns {b : Blk} {n : Nat} (h : b.mailboxRuns n = true) : b.inService = true := ((mailboxRuns_iff b n).1 h).2.2

/-- Settles O16. -/
theorem mailboxQueriesAnswer : Obligations.MailboxQueriesAnswer := by
  unfold Obligations.MailboxQueriesAnswer
  intro s ld haon h
  have htw := runMbox_twilight (runs_of_mailboxRuns h)
  have hrun : ∀ c, s.now.poisonTarget ld c = none → mailbox {} ld c s.now = runMbox ld c s.now := fun c hq => mailbox_runs_query h hq
  refine ⟨?identify, ?health, fun k => ?events, ?logs, ?log, fun n hn => ?noLog, ?heads, fun dpa len => ?poison, fun op input hop hlen => ?unknown, ?time,
    fun start mx rs hrs hmx hstart => ?regions, fun start mx hmx => ?tooMany, ?persistence, ?restore, ?history, ?topology, ?chart,
    fun n hn => ⟨?noPersistence, ?noRestore, ?noHistory, ?noTopology, ?noChart⟩⟩
  case identify => rw [exec_identifyMemoryDevice s haon, hrun _ rfl, runMbox, htw]; rfl
  case health => rw [exec_getHealthInfo s haon, hrun _ rfl, runMbox, htw]; rfl
  case events => rw [exec_getEventRecords s haon, hrun _ rfl, runMbox, htw]; rfl
  case logs => rw [exec_getSupportedLogs s haon, hrun _ rfl, runMbox, htw]; rfl
  case log => rw [exec_getLog s haon, hrun _ rfl, runMbox, htw]; rfl
  case noLog => rw [exec_getLog s haon, hrun _ rfl, runMbox, htw]; simp only [hn, ↓reduceIte]; rfl
  case heads => rw [exec_getMultiHeadedInfo s haon, hrun _ rfl, runMbox, htw]; rfl
  case poison => rw [exec_getPoisonList s haon, hrun _ rfl, runMbox, htw]; rfl
  case unknown =>
    rw [exec_mailboxUnsupported s haon, hrun _ rfl, runMbox, htw]
    simp only [Bool.false_and, Bool.false_eq_true, ↓reduceIte, if_neg (Nat.not_lt.2 hlen), runStandard_other _ _ _ _ hop]
  case time => rw [exec_mailboxUnsupported s haon, hrun _ rfl, runMbox, htw]; rfl
  case regions =>
    rw [exec_getRegionMap s haon, hrun _ rfl, runMbox, htw]
    subst hrs
    simp only [Bool.false_and, Bool.false_eq_true, ↓reduceIte, ne_eq, not_true_eq_false, false_or, if_neg (not_or.2 ⟨Nat.not_lt.2 hmx, Nat.not_lt.2 hstart⟩)]; rfl
  case tooMany =>
    rw [exec_getRegionMap s haon, hrun _ rfl, runMbox, htw]
    simp only [Bool.false_and, Bool.false_eq_true, ↓reduceIte, hmx, true_or, or_true]; rfl
  case persistence => rw [exec_getPersistenceStatus s haon, hrun _ rfl, runMbox, htw]; rfl
  case restore => rw [exec_getRestoreStatus s haon, hrun _ rfl, runMbox, htw]; rfl
  case history => rw [exec_getEpochHistory s haon, hrun _ rfl, runMbox, htw]; rfl
  case topology => rw [exec_getTopologyStatus s haon, hrun _ rfl, runMbox, htw]; rfl
  case chart =>
    have hbytes : s.now.chartBytes = natLe 4 s.now.cht.cur.serial ++ natLe 4 0 ++ natLe 8 s.now.cht.cur.tag ++ bitsBytes 64 s.now.cht.cur.digest := by
      unfold Blk.chartBytes; rw [htw]; rfl
    rw [exec_getChartIdentity s haon, hrun _ rfl, runMbox, htw, ← hbytes]; rfl
  case noPersistence => rw [exec_getPersistenceStatus s haon, hrun _ rfl, runMbox, htw]; simp only [Bool.false_and, Bool.false_eq_true, ↓reduceIte, hn]; rfl
  case noRestore => rw [exec_getRestoreStatus s haon, hrun _ rfl, runMbox, htw]; simp only [Bool.false_and, Bool.false_eq_true, ↓reduceIte, hn]; rfl
  case noHistory => rw [exec_getEpochHistory s haon, hrun _ rfl, runMbox, htw]; simp only [Bool.false_and, Bool.false_eq_true, ↓reduceIte, hn]; rfl
  case noTopology => rw [exec_getTopologyStatus s haon, hrun _ rfl, runMbox, htw]; simp only [Bool.false_and, Bool.false_eq_true, ↓reduceIte, hn]; rfl
  case noChart => rw [exec_getChartIdentity s haon, hrun _ rfl, runMbox, htw]; simp only [Bool.false_and, Bool.false_eq_true, ↓reduceIte, hn]; rfl

/-- Settles O17. -/
theorem mailboxChangesState : Obligations.MailboxChangesState := by
  unfold Obligations.MailboxChangesState
  intro s phys ld haon
  refine ⟨fun h => ?running, fun dpa len hscan => ?scanned, fun hscan => ?noScan, fun hbell => ⟨?busyWrite, fun hp hr hd => ?busyCommand⟩, fun hbell => ?freeWrite,
    fun off => ⟨exec_windowViolation s haon ld off true, exec_windowViolation s haon ld off false⟩, fun hp hr hd hbell hw => ?waits⟩
  case running =>
    have htw := runMbox_twilight (runs_of_mailboxRuns h)
    have hrun : ∀ ph c, s.now.poisonTarget ld c = none → mailbox ph ld c s.now = runMbox ld c s.now := fun ph c hq => mailbox_runs_query h hq
    have hpoison : ∀ c a, s.now.poisonTarget ld c = some a → s.now.poisonWaits a = false → mailbox phys ld c s.now = runMbox ld c s.now :=
      fun c a ht hp => mailbox_runs_poison h ht hp
    have hreach : ∀ dpa, s.now.reach ld dpa = .ok → (s.now.reach ld dpa == .ok) = true := fun dpa hok => by rw [hok]; rfl
    have hnoReach : ∀ dpa, s.now.reach ld dpa ≠ .ok → (s.now.reach ld dpa == .ok) = false := fun dpa hok => beq_eq_false_iff_ne.2 hok
    refine ⟨fun t => ?time, fun k n => ?clearEvents, fun dpa hperm hok hp => ?inject, fun dpa hlc hperm => ?sealedPart, fun dpa d hok hp => ?clearPoison,
      fun dpa d hok => ?noClear, fun dpa len hv => ?scan, fun dpa len hv => ?scanRefused⟩
    case time => rw [exec_setTimestamp s haon, hrun _ _ rfl, runMbox, htw]; rfl
    case clearEvents => rw [exec_clearEventRecords s haon, hrun _ _ rfl, runMbox, htw]; rfl
    case inject =>
      have hopen : (decide (s.now.ident.lc = .sealedState) && !s.now.mgt.permit.injectPoison) = false := by rcases hperm with hl | hl <;> simp [hl]
      have htarget : s.now.poisonTarget ld (.injectPoison dpa) = some dpa := by
        simp only [Blk.poisonTarget, hopen, hok, Bool.false_or]; rfl
      rw [exec_injectPoison s haon, hpoison _ _ htarget hp, runMbox, htw]
      dsimp only
      rw [hopen, hreach _ hok]; rfl
    case sealedPart =>
      have hshut : (decide (s.now.ident.lc = .sealedState) && !s.now.mgt.permit.injectPoison) = true := by simp [hlc, hperm]
      have htarget : s.now.poisonTarget ld (.injectPoison dpa) = none := by simp only [Blk.poisonTarget, hshut, Bool.true_or]; rfl
      rw [exec_injectPoison s haon, hrun _ _ htarget, runMbox, htw]
      dsimp only
      rw [hshut]; rfl
    case clearPoison =>
      have htarget : s.now.poisonTarget ld (.clearPoison dpa d) = some dpa := by simp only [Blk.poisonTarget, hreach _ hok]; rfl
      rw [exec_clearPoison s haon, hpoison _ _ htarget hp, runMbox, htw]
      dsimp only
      rw [hreach _ hok]; rfl
    case noClear =>
      have htarget : s.now.poisonTarget ld (.clearPoison dpa d) = none := by simp only [Blk.poisonTarget, hnoReach _ hok]; rfl
      rw [exec_clearPoison s haon, hrun _ _ htarget, runMbox, htw]
      dsimp only
      rw [hnoReach _ hok]; rfl
    case scan =>
      rw [exec_scanMedia s haon, hrun _ _ rfl, runMbox, htw]
      dsimp only
      rw [hv]; rfl
    case scanRefused =>
      rw [exec_scanMedia s haon, hrun _ _ rfl, runMbox, htw]
      dsimp only
      rw [hv]; rfl
  case scanned => rw [exec_scanMediaDone s haon, scanMediaDone, hscan]
  case noScan => rw [exec_scanMediaDone s haon, scanMediaDone, hscan]
  case busyWrite => rw [exec_mailboxWriteBusy s haon, mailboxWriteBusy, if_pos hbell]
  case busyCommand => rw [exec_identifyMemoryDevice s haon, mailbox_busy hp hr hd hbell]
  case freeWrite => rw [exec_mailboxWriteBusy s haon, mailboxWriteBusy, hbell]; rfl
  case waits => rw [exec_identifyMemoryDevice s haon, mailbox_waits ⟨hp, hr, hd, hbell⟩ hw rfl]

end Sys2Proof.Machine
end

section
/-!
PROOF. Staging a Chart (R48 to R56, Table 2-6) and live switches (R57 to R62).
-/
namespace Sys2Proof.Machine
open Sys2Proof

/-! ### The staging registers -/

section
variable {b : Blk} {l : List StageState} {f : Blk → Blk}

theorem staging_off (h : b.stagingOn = false) : staging l f b = countEvent 0x12 0 b := by unfold staging; rw [h]; rfl

theorem staging_taken (h : b.stagingOn = true) (hst : b.cht.state ∈ l) : staging l f b = f b := by
  unfold staging; rw [h, Bool.not_true, if_neg Bool.false_ne_true, if_pos (List.contains_iff_mem.2 hst)]

/-- A command in a state that Table 2-6 does not list for it sets SEQ_ERR. -/
theorem staging_out_of_order (h : b.stagingOn = true) (hst : b.cht.state ∉ l) : staging l f b = { b with cht := { b.cht with seqErr := true } } := by
  unfold staging; rw [h, Bool.not_true, if_neg Bool.false_ne_true, if_neg (fun hc => hst (List.contains_iff_mem.1 hc))]

end

theorem stageDiscard_eq (b : Blk) (h : b.stagingOn = true) (hst : b.cht.state ∈ [StageState.receiving, .verified, .rejected, .pendingDawn]) :
    stageDiscard b = { b with cht := { b.cht with
      state := .idle, buf := [], slotRec := if b.cht.slotRec.pending then { b.cht.slotRec with seq := b.cht.slotRec.seq + 1, pending := false } else b.cht.slotRec } } := by
  unfold stageDiscard
  rw [staging_taken h hst]
  dsimp only
  split <;> rfl

/-- In Solo an accepted live Chart is programmed with the unit's own switch epoch (R59). -/
theorem acceptLive_solo (c : Chart) (b : Blk) (h : b.paired = false) : acceptLive c b = addJob (.chartSlot b.stagedSlot)
    { b with cht := { b.cht with state := .writing, commitWait := none, commitNext := some { epoch := b.soloEpoch, next := c } } } := by
  have hat : b.switchAt = b.soloEpoch := by unfold Blk.switchAt; rw [h]; rfl
  unfold acceptLive
  dsimp only
  rw [h, hat]; rfl

/-- The end of a Dawn commit outside Twilight (R50, R51). -/
theorem commitDawnDone_eq (b : Blk) {n : Nat} (hcur : b.efl.cur = some (.chartSlot n)) (hst : b.cht.state = .writing) (hnext : b.cht.commitNext = none)
    (hwait : b.cht.commitWait = none) (htw : b.pwr.stage ≠ .twilight) :
    commitDawnDone b = jobEnds (pendRecord true { b with cht := { b.cht with slots := SMap.put [] b.cht.slots n b.cht.buf, state := .pendingDawn } }) := by
  have htw' : (jobEnds (pendRecord true { b with cht := { b.cht with slots := SMap.put [] b.cht.slots n b.cht.buf, state := .pendingDawn } })).pwr.stage ≠ .twilight := by
    rw [jobEnds_pwr]; exact htw
  unfold commitDawnDone
  rw [hcur]
  dsimp only
  rw [if_neg (by simp [hst, hnext, hwait]), if_neg htw']

/-- Settles O24. -/
theorem stagingAChart : Obligations.StagingAChart := by
  unfold Obligations.StagingAChart
  intro s haon
  refine ⟨fun h => ⟨?offOpen, fun w => ?offData, ?offVerify, ?offCommit, ?offLive, ?offDiscard⟩, fun h => ⟨fun hst => ?opens, fun w hst hlen => ?data, fun w hst => ?noData, fun hst => ?verify, fun hst => ?commit,
    fun hst => ?discard, fun hst => ?live, fun hst => ?applying, fun hst => ⟨?idleVerify, ?idleCommit, ?idleLive, ?idleDiscard⟩⟩, fun hst => ?notVerifying, fun hst => ?verified,
    fun n hst hnext hwait hcur htw => ?committed⟩
  case offOpen => rw [exec_openStaging s haon, stageOpen, staging_off h]
  case offData => rw [exec_stageData s haon, stageData, staging_off h]
  case offVerify => rw [exec_verify s haon, stageVerify, staging_off h]
  case offCommit => rw [exec_commitDawn s haon, commitDawn, staging_off h]
  case offLive => rw [exec_commitLive s haon, commitLive, staging_off h]
  case offDiscard => rw [exec_discard s haon, stageDiscard, staging_off h]
  case opens => rw [exec_openStaging s haon, stageOpen, staging_taken h (by simpa using hst)]
  case data => rw [exec_stageData s haon, stageData, staging_taken h (by simp [hst]), if_neg (Nat.not_lt.2 hlen)]
  case noData =>
    rw [exec_stageData s haon, stageData]
    by_cases hrec : s.now.cht.state = .receiving
    · rw [staging_taken h (by simp [hrec]), if_pos (hst.resolve_left (fun hne => hne hrec))]
    · rw [staging_out_of_order h (by simp [hrec])]
  case verify => rw [exec_verify s haon, stageVerify, staging_taken h (by simp [hst])]; rfl
  case commit => rw [exec_commitDawn s haon, commitDawn, staging_taken h (by simp [hst])]
  case discard => rw [exec_discard s haon, stageDiscard_eq _ h (by simpa using hst)]
  case live =>
    rw [exec_commitLive s haon, commitLive, staging_taken h (by simp [hst])]
    dsimp only
    cases s.now.liveVerdict with
    | bad r n o => rfl
    | ok c =>
      dsimp only [Verdict.fold]
      cases hp : s.now.paired
      · rw [if_neg Bool.false_ne_true, if_neg Bool.false_ne_true, acceptLive_solo c _ hp]
      · rfl
  case applying => rw [exec_openStaging s haon, stageOpen, staging_out_of_order h (by simp [hst])]
  case idleVerify => rw [exec_verify s haon, stageVerify, staging_out_of_order h (by simp [hst])]
  case idleCommit => rw [exec_commitDawn s haon, commitDawn, staging_out_of_order h (by simp [hst])]
  case idleLive => rw [exec_commitLive s haon, commitLive, staging_out_of_order h (by simp [hst])]
  case idleDiscard => rw [exec_discard s haon, stageDiscard, staging_out_of_order h (by simp [hst])]
  case notVerifying => rw [exec_verifyDone s haon, verifyDone, if_pos (by simp [hst])]
  case verified =>
    rw [exec_verifyDone s haon, verifyDone, if_neg (by simp [hst])]
    cases s.now.verifyBuf <;> rfl
  case committed =>
    refine ⟨_, exec_commitDawnDone s haon, ?_⟩
    rw [commitDawnDone_eq _ hcur hst hnext hwait htw]
    simp [State.after, pendRecord]

/-! ### Live switches -/

theorem liveSwitch_none {b : Blk} (h : b.cht.apply = none) : liveSwitch b = b := by unfold liveSwitch; rw [h]

section
variable {b : Blk} {a : LiveApply} (h : b.cht.apply = some a)
include h

theorem liveSwitch_waits (hw : (a.switched || decide (b.epoch < a.epoch) || b.fwWaits || b.inDusk || !b.inService) = true) : liveSwitch b = b := by
  unfold liveSwitch; rw [h]; exact if_pos hw

theorem liveSwitch_switches (hw : (a.switched || decide (b.epoch < a.epoch) || b.fwWaits || b.inDusk || !b.inService) = false) : liveSwitch b = switchNow a b := by
  unfold liveSwitch; rw [h]; exact if_neg (by rw [hw]; decide)

theorem liveBackgroundSwitch_waits (hw : (!a.switched || b.fwWaits || b.inDusk) = true) : liveBackgroundSwitch b = b := by
  unfold liveBackgroundSwitch; rw [h]; exact if_pos hw

theorem liveBackgroundSwitch_switches (hw : (!a.switched || b.fwWaits || b.inDusk) = false) :
    liveBackgroundSwitch b = finishApply (switchMirror a (if a.farLeft && a.farDone then switchFar a b else b)) := by
  unfold liveBackgroundSwitch; rw [h]; exact if_neg (by rw [hw]; decide)

theorem nearReshapeHold_waits (hw : (!a.switched || !a.nearLeft || a.nearHold || b.inDusk || decide (64 * mib < b.reshapeDirty.length * 4096)) = true) :
    nearReshapeHold b = b := by
  unfold nearReshapeHold; rw [h]; exact if_pos hw

theorem nearReshapeHold_holds (hw : (!a.switched || !a.nearLeft || a.nearHold || b.inDusk || decide (64 * mib < b.reshapeDirty.length * 4096)) = false) :
    nearReshapeHold b = { b with cht := { b.cht with apply := some { a with nearHold := true } } } := by
  unfold nearReshapeHold; rw [h]
  refine (if_neg (by rw [hw]; decide)).trans ?_
  unfold modApply; rw [h]; rfl

theorem nearReshapeSwitch_waits (phys : Phys) (hw : a.nearHold = false ∨ b.reshapeDirty ≠ []) : nearReshapeSwitch phys b = b := by
  unfold nearReshapeSwitch; rw [h]
  refine if_pos ?_
  rcases hw with hw | hw <;> simp [hw]

end

/-- Moving the pages of a reshaped set leaves the list of dirty pages as it is. -/
theorem reshapeOne_dirty (b : Blk) (p : Nat) : (reshapeOne b p).pers.dirty = b.pers.dirty := by
  unfold reshapeOne
  dsimp only
  split
  · rfl
  · split <;> rfl

theorem reshapePages_dirty (ps : List Nat) (runs : List (Nat × Nat)) (b : Blk) :
    (runs.foldl (fun b r => setRun r.1 r.2 .pending b) (ps.foldl reshapeOne b)).pers.dirty = b.pers.dirty :=
  foldl_keeps (fun x : Blk => x.pers.dirty = b.pers.dirty) (fun b (r : Nat × Nat) => setRun r.1 r.2 .pending b) runs (fun _ _ _ hx => hx)
    (foldl_keeps (fun x : Blk => x.pers.dirty = b.pers.dirty) reshapeOne ps (fun x p _ hx => (reshapeOne_dirty x p).trans hx) rfl)

/-- Once the affected sets hold nothing dirty the NEAR_LAYOUT switches (R60). -/
theorem nearReshapeSwitch_switches (phys : Phys) {b : Blk} {a : LiveApply} (h : b.cht.apply = some a) (hhold : a.nearHold = true) (hfw : b.fwWaits = false)
    (hdusk : b.inDusk = false) (hdirty : b.reshapeDirty = []) (hflight : b.pers.inFlight = []) :
    ∃ x, nearReshapeSwitch phys b = finishApply (retryWhy phys .reshape x) ∧ x.cht.cur.near = a.next.near ∧ x.pers.dirty = b.pers.dirty := by
  have hgo : (!a.nearHold || b.fwWaits || b.inDusk || !b.reshapeDirty.isEmpty || (SMap.keys b.pers.inFlight).any (fun p => b.reshapePage p)) = false := by
    rw [hhold, hfw, hdusk, hdirty, hflight]; rfl
  unfold nearReshapeSwitch
  rw [h]
  dsimp only
  rw [hgo, if_neg Bool.false_ne_true]
  refine ⟨_, rfl, rfl, ?_⟩
  exact reshapePages_dirty ((b.writtenPages ++ SMap.keys b.dram.pres).eraseDups.filter (fun p => b.reshapePage p)) (b.reshapeRuns a) b

/-- Settles O25. -/
theorem liveSwitches : Obligations.LiveSwitches := by
  unfold Obligations.LiveSwitches
  intro s phys haon
  refine ⟨fun h => ⟨?none, fun hd => ?noBackground, fun hd hfw hdusk => ?resumed, ?noHold, ?noNear⟩, fun a h => ⟨fun hw => ?early, fun hs he hfw hdusk hserv => ?switch,
    fun hw => ?tooSoon, fun hs hfw hdusk hfar => ?background, fun hs hfw hdusk hfar hdone => ?farToo, fun hs hn hh hdusk hlen => ?hold, fun hlen => ?tooDirty,
    fun hw => ?noSwitch, fun hh hfw hdusk hdirty hflight => ?near⟩⟩
  case none => rw [exec_liveSwitch s haon, liveSwitch_none h]
  case noBackground => rw [exec_liveBackgroundSwitch s haon, liveBackgroundSwitch, h]; dsimp only; rw [hd]; rfl
  case resumed => rw [exec_liveBackgroundSwitch s haon, liveBackgroundSwitch, h]; dsimp only; rw [hd, hfw, hdusk]; rfl
  case noHold => rw [exec_nearReshapeHold s haon, nearReshapeHold, h]
  case noNear => rw [exec_nearReshapeSwitch s haon, nearReshapeSwitch, h]
  case early =>
    rw [exec_liveSwitch s haon, liveSwitch_waits h]
    rcases hw with hw | hw | hw | hw
    · rw [decide_eq_true hw]; simp
    · rw [hw]; simp
    · rw [hw]; simp
    · simp [Blk.fwWaits, hw]
  case switch => rw [exec_liveSwitch s haon, liveSwitch_switches h (by rw [hs, decide_eq_false (Nat.not_lt.2 he), hfw, hdusk, hserv]; rfl)]
  case tooSoon => rw [exec_liveBackgroundSwitch s haon, liveBackgroundSwitch_waits h (by rcases hw with hw | hw <;> rw [hw] <;> simp)]
  case background =>
    rw [exec_liveBackgroundSwitch s haon, liveBackgroundSwitch_switches h (by rw [hs, hfw, hdusk]; rfl), hfar, Bool.false_and, if_neg Bool.false_ne_true]
  case farToo => rw [exec_liveBackgroundSwitch s haon, liveBackgroundSwitch_switches h (by rw [hs, hfw, hdusk]; rfl), hfar, hdone]; rfl
  case hold =>
    have hfit : decide (64 * mib < s.now.reshapeDirty.length * 4096) = false := decide_eq_false (Nat.not_lt.2 hlen)
    rw [exec_nearReshapeHold s haon, nearReshapeHold_holds h (by rw [hs, hn, hh, hdusk, hfit]; rfl)]
  case tooDirty =>
    have hover : decide (64 * mib < s.now.reshapeDirty.length * 4096) = true := decide_eq_true hlen
    rw [exec_nearReshapeHold s haon, nearReshapeHold_waits h (by rw [hover, Bool.or_true])]
  case noSwitch => rw [exec_nearReshapeSwitch s haon, nearReshapeSwitch_waits h phys hw]
  case near =>
    obtain ⟨x, heq, hnear, hkept⟩ := nearReshapeSwitch_switches phys h hh hfw hdusk hdirty hflight
    exact ⟨x, by rw [exec_nearReshapeSwitch s haon, heq], hnear, hkept⟩

end Sys2Proof.Machine
end

section
/-!
PROOF. Frames, PTP, epoch boundaries, seals and the hourly record (O27; R65, R67 to R76).
-/
namespace Sys2Proof.Machine
open Sys2Proof

/-! ### Flagged epochs -/

/-- A flag changes the run's and the epoch's flags only. -/
theorem flagEpoch_mer (why first : Nat) (b : Blk) :
    ∃ fn ro rf rl rr, (flagEpoch why first b).mer = { b.mer with flagNow := fn, runOpen := ro, runFirst := rf, runLast := rl, runReason := rr } := by
  unfold flagEpoch
  (repeat' split)
  · exact ⟨_, _, _, _, _, rfl⟩
  · exact ⟨_, _, _, _, _, rfl⟩
  · rw [logEvent_mer]; exact ⟨_, _, _, _, _, rfl⟩

@[simp] theorem flagEpoch_dram (why first : Nat) (b : Blk) : (flagEpoch why first b).dram = b.dram := by
  unfold flagEpoch
  (repeat' split)
  · rfl
  · rfl
  · rw [logEvent_dram]; rfl

/-- A step leaves the count at the stepped-to value, LOCKED (R68, R69). -/
theorem stepCount_mer (n first : Nat) (b : Blk) : (stepCount n first b).mer.count = wrap64 n ∧ (stepCount n first b).mer.state = .locked := by
  unfold stepCount landStep
  obtain ⟨_, _, _, _, _, h⟩ := flagEpoch_mer reasonAlign
    (modMer (fun m => { m with count := wrap64 n, state := .locked, drTicks := 0, disagreed := none }) (flagEpoch reasonAlign (Nat.min first b.epoch) b)).epoch
    (modMer (fun m => { m with epoch := m.now, flagNow := if m.now = m.epoch then m.flagNow else 0 })
      (modMer (fun m => { m with count := wrap64 n, state := .locked, drTicks := 0, disagreed := none }) (flagEpoch reasonAlign (Nat.min first b.epoch) b)))
  dsimp only
  rw [h]
  exact ⟨rfl, rfl⟩

/-- Closing a run records it and marks it closed (R76). -/
theorem closeRun_mer (last : Nat) (b : Blk) : (closeRun last b).mer =
    { b.mer with runOpen := false, runLast := some last, runs := b.mer.runs ++ [(b.mer.runFirst, last)], runsSinceDawn := b.mer.runsSinceDawn + 1 } := by
  unfold closeRun
  dsimp only
  split
  · rw [logEvent_mer]; rfl
  · rw [postVendor_mer, logEvent_mer]; rfl

@[simp] theorem closeRun_dram (last : Nat) (b : Blk) : (closeRun last b).dram = b.dram := by
  unfold closeRun
  dsimp only
  split
  · rw [logEvent_dram]; rfl
  · rw [postVendor_dram, logEvent_dram]; rfl

/-- The block with the run closed where the epoch that ends was not flagged. -/
def runClosed (b : Blk) : Blk := if b.mer.runOpen && b.mer.flagNow = 0 then closeRun (b.mer.epoch - 1) b else b

theorem newEpoch_eq (b : Blk) : newEpoch b = flagTick (modMer (fun m => { m with epoch := m.now, flagNow := 0 }) (runClosed b)) := rfl

theorem runClosed_count (b : Blk) : (runClosed b).mer.count = b.mer.count ∧ (runClosed b).mer.body = b.mer.body := by
  unfold runClosed
  split
  · rw [closeRun_mer]; exact ⟨rfl, rfl⟩
  · exact ⟨rfl, rfl⟩

theorem runClosed_dram (b : Blk) : (runClosed b).dram = b.dram := by
  unfold runClosed
  split
  · rw [closeRun_dram]
  · rfl

/-- A new epoch is the one of the count, which stays (R72, R73). -/
theorem newEpoch_mer (b : Blk) : (newEpoch b).mer.epoch = b.epoch ∧ (newEpoch b).mer.count = b.mer.count := by
  obtain ⟨hcount, hbody⟩ := runClosed_count b
  obtain ⟨_, _, _, _, _, h⟩ := flagTick_mer (modMer (fun m => { m with epoch := m.now, flagNow := 0 }) (runClosed b))
  rw [newEpoch_eq, h]
  refine ⟨?_, hcount⟩
  show (runClosed b).mer.now = b.mer.now
  rw [Mer.now, hcount, hbody, Mer.now]

theorem newEpoch_dram (b : Blk) : (newEpoch b).dram = b.dram := by
  rw [newEpoch_eq, flagTick, flagEpoch_dram]
  exact runClosed_dram b

/-- After a clean epoch the open run is closed with the epoch before it, and a LOCKED, CAPABLE count flags nothing (R76). -/
theorem newEpoch_closes {b : Blk} (hopen : b.mer.runOpen = true) (hflag : b.mer.flagNow = 0) (hst : b.mer.state = .locked)
    (hcap : b.mer.capable = true) (hexc : b.mer.ptpExcursion = false) :
    (newEpoch b).mer.runOpen = false ∧ (newEpoch b).mer.runLast = some (b.mer.epoch - 1) := by
  have hclosed : runClosed b = closeRun (b.mer.epoch - 1) b := if_pos (by simp [hopen, hflag])
  have hwhy : (modMer (fun m => { m with epoch := m.now, flagNow := 0 }) (closeRun (b.mer.epoch - 1) b)).mer.reasons = 0 := by
    unfold modMer
    rw [closeRun_mer]
    show (match b.mer.state with | .locked => 0 | .slewing => reasonAlign | _ => reasonDr) ||| (if b.mer.capable = true then 0 else reasonConfig) |||
      (if b.mer.ptpExcursion = true then reasonPtp else 0) = 0
    rw [hst, hcap, hexc]
    rfl
  rw [newEpoch_eq, hclosed, flagTick, hwhy, flagEpoch, if_pos rfl]
  show (closeRun _ b).mer.runOpen = false ∧ (closeRun _ b).mer.runLast = _
  rw [closeRun_mer]
  exact ⟨rfl, rfl⟩

/-! ### Frames -/

theorem takeFrame_agrees {c f n : Nat} {b : Blk} (hst : b.mer.state = .locked) (hc : c = b.mer.count - n) :
    takeFrame c f n b = { b with mer := { b.mer with
      frameLast := c, frameFlags := f, prevFrame := some (c, b.mer.edges - n), offsetNs := 0, disagreed := none } } := by
  have hoff : ((c : Int) - ((b.mer.count - n : Nat) : Int)) * (b.mer.body.tickNs : Int) = 0 := by rw [← hc, Int.sub_self, Int.zero_mul]
  unfold takeFrame
  dsimp only
  rw [hst]
  dsimp only
  rw [if_pos hc]
  unfold modMer
  dsimp only
  rw [hoff, hst]

theorem takeFrame_disagrees {c f n : Nat} {b : Blk} (hst : b.mer.state = .locked) (hc : c ≠ b.mer.count - n) (hdis : b.mer.disagreed = none) :
    takeFrame c f n b = modMer (fun m => { m with disagreed := some (c, b.mer.count - n) }) (merNote 3
      (modMer (fun m => { m with offsetNs := ((c : Int) - (b.mer.count - n : Nat)) * m.body.tickNs })
        (modMer (fun m => { m with frameLast := c, frameFlags := f, prevFrame := some (c, b.mer.edges - n) }) b))) := by
  unfold takeFrame
  dsimp only
  rw [hst]
  dsimp only
  rw [if_neg hc, hdis]

/-- Before D7 the second of two consecutive frames sets the count, where it is not below the floor (R69). -/
theorem takeFrame_steps {c f n a : Nat} {b : Blk} (hst : b.mer.state = .acquiring) (hprev : b.mer.prevFrame = some (a, b.mer.edges - n - 2 ^ 20))
    (hedges : 2 ^ 20 ≤ b.mer.edges - n) (hc : c = a + 2 ^ 20) (hmay : b.mayStep = true) (hfloor : b.mer.floor ≤ c) :
    ∃ first x, takeFrame c f n b = stepCount (c + n) first x := by
  unfold takeFrame
  dsimp only
  rw [hst, hprev]
  dsimp only
  rw [if_pos (by rw [hc]; simp; omega), follow]
  rw [if_pos (by exact hmay), if_neg (Nat.not_lt.2 (by exact hfloor))]
  exact ⟨_, _, rfl⟩

/-! ### PTP and seals -/

/-- The loss of PTP is a fault after the source was given up and the transmitter forgotten (R71). -/
theorem ptpLoss_faults {b : Blk} (hsrc : b.mer.body.source = 1) :
    ∃ x, ptpLoss b = merFault 6 x ∧ x.mer.state = .deadReckoning ∧ x.mer.count = b.mer.count ∧ x.mer.ptpSyncAt = none ∧
      x.dram = b.dram ∧ x.cht = b.cht := by
  unfold ptpLoss
  rw [if_neg (by simp [hsrc])]
  exact ⟨_, rfl, rfl, rfl, rfl, rfl, rfl⟩

section
variable {b : Blk} {h : PtpHdr}

theorem ptpFrom_selected (ht : b.ptpTakes h = true) (hm : b.mer.ptpMaster = some h.master) : b.ptpFrom h = true := by
  rw [Blk.ptpFrom, ht, hm, Bool.true_and, beq_self_eq_true]

theorem ptpFrom_ignored (ht : b.ptpTakes h = false) : b.ptpFrom h = false := by rw [Blk.ptpFrom, ht, Bool.false_and]

end

section
variable {b : Blk}

theorem epochSeal_early (h : b.mer.count < Nat.max b.mer.body.l 1 + 2) : epochSeal b = b := by unfold epochSeal; dsimp only; rw [if_pos h]

theorem epochSeal_late (h : Nat.max b.mer.body.l 1 + 2 ≤ b.mer.count) : epochSeal b =
    match b.mer.sealedEpoch with
    | none => modMer (fun m => { m with sealedEpoch := some ((b.mer.count - 2) / Nat.max b.mer.body.l 1 - 1) }) b
    | some e => if e + 1 ≤ (b.mer.count - 2) / Nat.max b.mer.body.l 1 - 1 then modMer (fun m => { m with sealedEpoch := some (e + 1) }) b else b := by
  unfold epochSeal; exact if_neg (by omega)

end

/-- Settles O27. -/
theorem meridianFramesAndPtp : Obligations.MeridianFramesAndPtp := by
  unfold Obligations.MeridianFramesAndPtp
  intro s haon
  refine ⟨fun hsrc hhold => ⟨fun cells n hd => ?invalid, fun cells c f n hd hst hc => ?agrees, fun cells c f n hd hst hc hdis => ?disagrees,
      fun cells c f n a hd hst hprev hedges hc hmay hfloor => ?steps⟩,
    fun h ht => ⟨fun r => ?announce, fun q d hq => ?resp, fun p q d hq => ?strayResp, fun hm => ⟨fun t => ?syncTwo, fun t => ?syncOne, fun t c hat => ?follow⟩⟩,
    fun h ht => ⟨fun r => ?noAnnounce, fun t two => ?noSync, fun t => ?noFollow, fun p q d => ?noResp⟩,
    fun hsrc => ⟨fun hm hup => ?delayReq, ?loss⟩, fun phys he hw => ?noBoundary, fun phys he => ⟨?boundary, (newEpoch_mer _).1, (newEpoch_mer _).2, newEpoch_dram _,
      fun hopen hflag hst hcap hexc => newEpoch_closes hopen hflag hst hcap hexc⟩,
    fun l hl => ?seals, ?hour⟩
  case invalid => rw [exec_merFrame s haon, merFrame, if_neg (by simp [hsrc, hhold]), hd]
  case agrees => rw [exec_merFrame s haon, merFrame, if_neg (by simp [hsrc, hhold]), hd]; dsimp only; rw [takeFrame_agrees hst hc]
  case disagrees =>
    refine ⟨_, exec_merFrame s haon cells n, ?_⟩
    rw [merFrame, if_neg (by simp [hsrc, hhold]), hd]
    dsimp only
    rw [takeFrame_disagrees hst hc hdis]
    refine ⟨?_, ?_, ?_, ?_⟩
    · simp [State.after, modMer, merNote]
    · simpa [State.after, modMer, merNote] using hst
    · simp [State.after, modMer, merNote]
    · simp only [State.after, modMer, merNote, Blk.err, closeStep_errs, setErrLog_errs, setErr_errs, SMap.get_upd_same]
      rfl
  case steps =>
    refine ⟨_, exec_merFrame s haon cells n, ?_⟩
    rw [merFrame, if_neg (by simp [hsrc, hhold]), hd]
    dsimp only
    obtain ⟨first, x, hstep⟩ := takeFrame_steps (f := f) hst hprev hedges hc hmay hfloor
    rw [hstep, State.after]
    show (closeStep _ _).mer.count = _ ∧ (closeStep _ _).mer.state = _
    rw [closeStep_mer]
    exact stepCount_mer _ _ _
  case announce => rw [exec_ptpAnnounce s haon, ptpAnnounce, ht, if_neg (by decide)]; rfl
  case resp => rw [exec_ptpDelayResp s haon, ptpDelayResp, if_pos (by simp [ht, hq])]; rfl
  case strayResp => rw [exec_ptpDelayResp s haon, ptpDelayResp, if_neg (by simp [hq])]
  case syncTwo => rw [exec_ptpSync s haon, ptpSync, ptpFrom_selected ht hm]; rfl
  case syncOne => rw [exec_ptpSync s haon, ptpSync, ptpFrom_selected ht hm]; rfl
  case follow => rw [exec_ptpFollowUp s haon, ptpFollowUp, ptpFrom_selected ht hm, hat]; rfl
  case noAnnounce => rw [exec_ptpAnnounce s haon, ptpAnnounce, ht]; rfl
  case noSync => rw [exec_ptpSync s haon, ptpSync, ptpFrom_ignored ht]; rfl
  case noFollow => rw [exec_ptpFollowUp s haon, ptpFollowUp, ptpFrom_ignored ht]
  case noResp => rw [exec_ptpDelayResp s haon, ptpDelayResp, ht, if_neg (by simp)]
  case delayReq =>
    rw [exec_ptpDelayReqSend s haon, ptpDelayReqSend]
    dsimp only
    rw [if_neg (by simp [hsrc, hup, Option.isSome_iff_ne_none.1 hm])]
    rfl
  case loss =>
    obtain ⟨x, hx, hrest⟩ := ptpLoss_faults hsrc
    exact ⟨x, by rw [exec_ptpLoss s haon, hx], hrest⟩
  case noBoundary => rw [exec_epochBoundary s haon, epochEnds, epochBoundary, if_pos he, confirmLate, hw]
  case boundary => rw [exec_epochBoundary s haon, epochEnds, epochBoundary, if_neg (Nat.not_le.2 he)]
  case seals =>
    rw [exec_epochSeal s haon]
    subst hl
    refine ⟨fun hlt => ?early, fun hle hnone => ?first, fun e hle hsome hreach => ?next, fun e hle hsome hreach => ?reached⟩
    case early => rw [epochSeal_early hlt]
    case first => rw [epochSeal_late hle, hnone]; rfl
    case next => rw [epochSeal_late hle, hsome]; dsimp only; rw [if_pos hreach]; rfl
    case reached => rw [epochSeal_late hle, hsome]; dsimp only; rw [if_neg (by omega)]
  case hour =>
    refine ⟨_, exec_hourlyRecord s haon, ?_⟩
    simp [State.after, hourlyRecord, modPwr]

end Sys2Proof.Machine
end

section
/-!
PROOF. HDM decoders, dynamic capacity and the Global Persistent Flush (O15; R92 to R95, R101).
-/
namespace Sys2Proof.Machine
open Sys2Proof

/-! ### Tables -/

/-- A change of entries that keeps the keys and what stands at `k` keeps what the table holds at `k`. -/
theorem SMap.find?_map_of_fixed {α : Type} (m : SMap α) {f : Nat × α → Nat × α} {k : Nat} (hkey : ∀ e, (f e).1 = e.1) (hfix : ∀ v, f (k, v) = (k, v)) :
    SMap.find? (m.map f) k = SMap.find? m k := by
  induction m with
  | nil => rfl
  | cons e m ih =>
    obtain ⟨j, v⟩ := e
    by_cases h : j = k
    · subst h; rw [List.map_cons, hfix, SMap.find?, SMap.find?, if_pos rfl, if_pos rfl]
    · have hj : (f (j, v)).1 ≠ k := by rw [hkey]; exact h
      rw [List.map_cons, SMap.find?, SMap.find?, if_neg hj, if_neg h, ih]

/-! ### Decoders -/

section
variable {b : Blk} {n dec base size ways gran : Nat} {bi : Bool}

/-- The decoder of a logical device as a commit leaves it. -/
def Blk.withDecoder (b : Blk) (n dec base size ways gran : Nat) (bi ok : Bool) : Blk :=
  modLd n (fun l => { l with decoders := SMap.insert l.decoders dec ⟨base, size, bi, ways, gran, ok, !ok⟩ }) b

theorem decoderCommit_taken (hdec : dec < 8) (hp : (b.port (n / 16)).present.testBit (n % 16) = true) (hok : interleaveOk ways gran = true) {ok : Bool}
    (hm : (!((b.models n base size).1 && (b.models n base size).2) && !((b.models n base size).1 && !bi) && !((b.models n base size).2 && bi)) = ok) :
    decoderCommit n dec base size ways gran bi b =
      if ok then b.withDecoder n dec base size ways gran bi ok else violation n 3 base false false (b.withDecoder n dec base size ways gran bi ok) := by
  unfold decoderCommit
  rw [if_neg (by simp [hp]; omega)]
  dsimp only
  rw [hok, hm, Bool.and_true]
  rfl

end

/-! ### Extents -/

section
variable {b : Blk} {n : Nat}

@[simp] theorem pruneTags_ld (b : Blk) (n : Nat) : (pruneTags b).ld n = b.ld n := rfl

/-- The withdrawal of an unshared extent from the others leaves the taker as it is. -/
theorem withdrawPrivate_ld (b : Blk) (n : Nat) (es : List Extent) : (b.withdrawPrivate n es).ld n = b.ld n := by
  unfold Blk.ld SMap.get
  refine congrArg (Option.getD · LdSt.fresh) (SMap.find?_map_of_fixed _ (fun e => ?_) (fun v => if_pos rfl))
  split <;> rfl

/-- The tags of extents that a logical device took are held. -/
def Blk.tagsHeld (b : Blk) (yes : List Extent) : Blk :=
  pruneTags { b with host := { b.host with dcTags := b.host.dcTags.map (fun t => if yes.any (fun e => e.tag = t.tag && e.tag != 0) then { t with held := true } else t) } }

theorem tagsHeld_ld (b : Blk) (yes : List Extent) (n : Nat) : (b.tagsHeld yes).ld n = b.ld n := rfl

/-- The block with an accepted response: its extents taken, its other offers declined, and the tags that it holds marked. -/
def Blk.withTaken (b : Blk) (n : Nat) (yes new : List Extent) : Blk :=
  ((modLd n (fun l => { l with extents := (b.ld n).extents ++ new, offers := [] }) b).withdrawPrivate n yes).tagsHeld yes

theorem withTaken_ld (b : Blk) (n : Nat) (yes new : List Extent) :
    ((b.withTaken n yes new).ld n).extents = (b.ld n).extents ++ new ∧ ((b.withTaken n yes new).ld n).offers = [] := by
  rw [Blk.withTaken, tagsHeld_ld, withdrawPrivate_ld, modLd_ld]
  exact ⟨rfl, rfl⟩

theorem dcResponse_taken {acc : List (Nat × Nat)} (hall : acc.all (fun a => (b.ld n).offers.any (fun e => e.base = a.1 && e.size = a.2)) = true)
    (hlen : (b.ld n).extents.length + (((b.ld n).offers.filter (fun e => acc.contains (e.base, e.size))).filter (fun e => !(b.ld n).extents.contains e)).length ≤
      (b.portCfg (n / 16)).maxExtents) :
    dcResponse n acc b = (0, b.withTaken n ((b.ld n).offers.filter (fun e => acc.contains (e.base, e.size)))
      (((b.ld n).offers.filter (fun e => acc.contains (e.base, e.size))).filter (fun e => !(b.ld n).extents.contains e))) := by
  unfold dcResponse
  dsimp only
  rw [hall, if_neg (by simpa using hlen)]
  rfl

theorem dcResponse_refused {a : Nat × Nat} {acc : List (Nat × Nat)} (h : (b.ld n).offers.any (fun e => e.base = a.1 && e.size = a.2) = false) :
    dcResponse n (a :: acc) b = (2, violation n 8 a.1 false true b) := by
  unfold dcResponse
  dsimp only
  rw [List.all_cons, h, if_pos (by simp)]
  rfl

/-- An untagged add that a run of free blocks serves is offered at one of the runs (R94). -/
theorem dcAdd_offers {dc len : Nat} {r : Region} (hr : (b.dcRegions n)[dc]? = some r) (h0 : len ≠ 0) (hmod : len % frame = 0)
    (hrun : runsOf (b.freeBlocks r) (len / frame) ≠ []) :
    ∃ base, base ∈ runsOf (b.freeBlocks r) (len / frame) ∧ dcAdd n dc len 0 b =
      send (.mbox n 0x5604 0 []) (offerExtents n [⟨r.id, base, len, 0⟩] { b with free := b.free + 1 }) := by
  have hlen : len / frame * frame = len := Nat.div_mul_cancel (Nat.dvd_of_mod_eq_zero hmod)
  have hfree : (drawFree b).2.freeBlocks r = b.freeBlocks r := rfl
  have hpos : 0 < (runsOf (b.freeBlocks r) (len / frame)).length := List.length_pos_iff.2 hrun
  generalize hrs : runsOf (b.freeBlocks r) (len / frame) = rs at *
  have hi : (drawFree b).1 % rs.length < rs.length := Nat.mod_lt _ hpos
  have hchoice : chooseBlocks ((drawFree b).2.freeBlocks r) (len / frame) (drawFree b).1 = some [(rs.getD ((drawFree b).1 % rs.length) 0, len)] := by
    unfold chooseBlocks
    rw [hfree, hrs, hlen]
    cases rs with
    | nil => exact absurd rfl hrun
    | cons x xs => rfl
  refine ⟨rs.getD ((drawFree b).1 % rs.length) 0, ?_, ?_⟩
  · rw [List.getD_eq_getElem?_getD, List.getElem?_eq_getElem hi, Option.getD_some]; exact List.getElem_mem hi
  · unfold dcAdd
    rw [hr]
    dsimp only
    rw [if_neg (by simp [h0, hmod]), if_pos rfl]
    dsimp only
    rw [hchoice]
    rfl

end

theorem filter_not_contains_filter (l : List Extent) (p : Extent → Bool) : l.filter (fun e => !(l.filter p).contains e) = l.filter (fun e => !p e) := by
  refine List.filter_congr (fun e he => ?_)
  cases hp : p e <;> simp [List.mem_filter, he, hp]

/-- Settles O15. -/
theorem decodersAndDynamicCapacity : Obligations.DecodersAndDynamicCapacity := by
  unfold Obligations.DecodersAndDynamicCapacity
  intro s ld haon
  refine ⟨fun dec base size ways gran bi hdec hp hok => ⟨fun hm => ?committed, fun hm => ?refused⟩, fun t se hperm => ⟨fun dc len tag => ?noAdd, fun base size forced => ?noForce⟩,
    fun t se hperm => ⟨fun dc len tag hr => ?noRegion, fun dc len tag r hr hlen => ?badLength, fun dc len r hr h0 hmod hrun => ?offered, fun base size forced he => ?notHeld,
      fun base size e he => ⟨?asked, ?forced⟩⟩,
    fun hmb => ⟨fun acc new hall hnew hlen => ?taken, fun a acc h => ?notOffered, fun base size e he => ?released, fun base size he => ?notReleased⟩,
    fun base => ?timeout, fun p hp => ⟨?phase1, ?phase2⟩, fun p w hw hready => ?complete, fun p w hw hready => ?waits⟩
  case committed =>
    rw [exec_hdmDecoderCommit s haon, decoderCommit_taken (ok := true) hdec hp hok (by rcases hm with h | h <;> rw [h] <;> cases bi <;> rfl), if_pos rfl]; rfl
  case refused =>
    rw [exec_hdmDecoderCommit s haon, decoderCommit_taken (ok := false) hdec hp hok (by rcases hm with h | h <;> rw [h] <;> cases bi <;> rfl), if_neg Bool.false_ne_true]; rfl
  case noAdd => rw [exec_initiateDcAdd s haon, fmCommand, hperm, if_neg Bool.false_ne_true]
  case noForce => rw [exec_initiateDcRelease s haon, fmCommand, hperm, if_neg Bool.false_ne_true]
  case noRegion => rw [exec_initiateDcAdd s haon, fmCommand, hperm, if_pos rfl, dcAdd, hr]
  case badLength => rw [exec_initiateDcAdd s haon, fmCommand, hperm, if_pos rfl, dcAdd, hr]; dsimp only; rw [if_pos hlen]
  case offered =>
    obtain ⟨base, hbase, hadd⟩ := dcAdd_offers hr h0 hmod hrun
    exact ⟨base, hbase, by rw [exec_initiateDcAdd s haon, fmCommand, hperm, if_pos rfl, hadd]⟩
  case notHeld => rw [exec_initiateDcRelease s haon, fmCommand, hperm, if_pos rfl, dcForce, he]
  case asked => rw [exec_initiateDcRelease s haon, fmCommand, hperm, if_pos rfl, dcForce, he]; rfl
  case forced => rw [exec_initiateDcRelease s haon, fmCommand, hperm, if_pos rfl, dcForce, he]; rfl
  case taken =>
    subst hnew
    obtain ⟨hext, hoff⟩ := withTaken_ld s.now ld ((s.now.ld ld).offers.filter (fun e => acc.contains (e.base, e.size)))
      (((s.now.ld ld).offers.filter (fun e => acc.contains (e.base, e.size))).filter (fun e => !(s.now.ld ld).extents.contains e))
    refine ⟨_, ?_, hext, hoff, rfl, rfl⟩
    rw [exec_addDcResponse s haon, mailbox_runs_query hmb rfl, runMbox, runMbox_twilight (runs_of_mailboxRuns hmb)]
    dsimp only
    rw [dcResponse_taken hall hlen]
    rfl
  case notOffered =>
    rw [exec_addDcResponse s haon, mailbox_runs_query hmb rfl, runMbox, runMbox_twilight (runs_of_mailboxRuns hmb)]
    dsimp only
    rw [dcResponse_refused h]
    rfl
  case released =>
    rw [exec_releaseDc s haon, mailbox_runs_query hmb rfl, runMbox, runMbox_twilight (runs_of_mailboxRuns hmb)]
    dsimp only
    rw [dcRelease, he]
    rfl
  case notReleased =>
    rw [exec_releaseDc s haon, mailbox_runs_query hmb rfl, runMbox, runMbox_twilight (runs_of_mailboxRuns hmb)]
    dsimp only
    rw [dcRelease, he]
    rfl
  case timeout =>
    refine ⟨_, exec_dcOfferTimeout s haon ld base, ?_⟩
    have hld : (dcOfferTimeout ld base s.now).ld ld = { s.now.ld ld with offers := (s.now.ld ld).offers.filter (fun e => e.base != base) } := by
      rw [dcOfferTimeout, dropOffers, pruneTags_ld, modLd_ld, filter_not_contains_filter]
      congr 1
    have hblk : (s.after (dcOfferTimeout ld base s.now)).blk.ld ld = (dcOfferTimeout ld base s.now).ld ld := by
      show SMap.get _ (closeStep _ _).host.lds ld = _
      rw [closeStep_host]; rfl
    rw [hblk, hld]
    refine ⟨rfl, rfl, ?_, rfl⟩
    show (closeStep _ _).dram = _
    rw [closeStep_dram]; rfl
  case phase1 => rw [exec_gpfPhase1 s haon, gpfPhase1, hp, if_pos rfl]
  case phase2 => rw [exec_gpfPhase2 s haon, gpfPhase2, hp, if_pos rfl]
  case complete => rw [exec_gpfPhase2Complete s haon, gpfComplete, hw]; dsimp only; rw [hready, if_pos rfl]
  case waits => rw [exec_gpfPhase2Complete s haon, gpfComplete, hw]; dsimp only; rw [hready, if_neg Bool.false_ne_true]

end Sys2Proof.Machine
end

section
/-!
PROOF. The ends of NAND operations, padding, the stripe journal, reclaim and metadata replicas (O31; R206 to R218, R228, R231).
-/
namespace Sys2Proof.Machine
open Sys2Proof

/-! ### Stripes and dies -/

@[simp] theorem modStripe_stripe (i : Nat) (f : Stripe → Stripe) (b : Blk) : (modStripe i f b).stripe i = f (b.stripe i) := by
  show SMap.get {} (SMap.insert b.nvf.stripes i _) i = _
  rw [SMap.get, SMap.find?_insert_same]; rfl

@[simp] theorem modDie_die (g : Nat) (f : Die → Die) (b : Blk) : (modDie g f b).die g = f (b.die g) := SMap.get_upd_same ..

theorem setErr_die (r : ErrReg) (n g : Nat) (b : Blk) : (setErr r n b).die g = b.die g := by unfold Blk.die; rw [setErr_nvf]

theorem setErr_zBad (r : ErrReg) (n : Nat) (b : Blk) : (setErr r n b).zBad = b.zBad := by
  unfold Blk.zBad Blk.layout Blk.die; rw [setErr_nvf, setErr_cht]

/-- A block that fails while the reserve lasts is retired and replaced (R208). -/
theorem failBlock_die {g k n : Nat} {b : Blk} (h : (b.die g).retiredBlocks.length < b.zBad) :
    (failBlock g k n b).die g = { b.die g with
      grownBad := Nat.min ((b.die g).grownBad + 1) 0xFFFF
      retiredBlocks := (b.die g).retiredBlocks ++ [(b.die g).phys k]
      remap := SMap.insert (b.die g).remap k ((b.die g).phys ((b.die g).good - b.zBad + (b.die g).retiredBlocks.length)) } := by
  unfold failBlock
  dsimp only
  rw [setErr_zBad, if_pos h, modDie_die, setErr_die]

/-- The logical block that a reserve block has taken over maps to it. -/
theorem Die.phys_remapped (d : Die) (k p : Nat) (x y) : Die.phys { d with grownBad := x, retiredBlocks := y, remap := SMap.insert d.remap k p } k = p := by
  unfold Die.phys
  dsimp only
  rw [SMap.find?_insert_same]

theorem noteStarved_nvf (b : Blk) : (noteStarved b).nvf = { b.nvf with starved := decide (b.freeTlc ≤ 2) && !b.nvf.layouts.isEmpty } := by
  unfold noteStarved modNvf
  dsimp only
  split
  · rw [setErr_nvf]
  · rfl

theorem modStripe_congr {i : Nat} {f g : Stripe → Stripe} {b : Blk} (h : f (b.stripe i) = g (b.stripe i)) : modStripe i f b = modStripe i g b := by
  unfold modStripe modNvf
  dsimp only
  rw [show f (SMap.get {} b.nvf.stripes i) = g (SMap.get {} b.nvf.stripes i) from h]

/-- A page before the last of its stripe is noted as done, and the stripe stays open (R217). -/
theorem pageProgrammed_notes {i q : Nat} {b : Blk} (hq : (b.stripe i).done.contains q = false) (hlen : (b.stripe i).done.length < 17) :
    pageProgrammed i q b = modStripe i (fun x => { x with done := x.done ++ [q] }) b := by
  have hmod : modStripe i (fun x => { x with done := if x.done.contains q then x.done else x.done ++ [q] }) b =
      modStripe i (fun x => { x with done := x.done ++ [q] }) b := modStripe_congr (by simp only [hq, Bool.false_eq_true, ↓reduceIte])
  unfold pageProgrammed
  dsimp only
  rw [hmod, modStripe_stripe, if_neg]
  simp only [List.length_append, List.length_singleton, Bool.and_eq_true, decide_eq_true_eq]
  omega

theorem padStripe_eq {i : Nat} {b : Blk} (h : b.nvf.openStripe = some i) :
    ∃ f y, padStripe b = modNvf (fun v => { v with openStripe := none }) (modStripe i f y) ∧ ∀ x, (f x).used = 64 := by
  unfold padStripe
  rw [h]
  exact ⟨_, _, rfl, fun _ => rfl⟩

theorem padStripe_pads {i : Nat} {b : Blk} (h : b.nvf.openStripe = some i) : ((padStripe b).stripe i).used = 64 ∧ (padStripe b).nvf.openStripe = none := by
  obtain ⟨f, y, hpad, hused⟩ := padStripe_eq h
  have hstripe : (padStripe b).stripe i = (modStripe i f y).stripe i := by rw [hpad]; rfl
  rw [hstripe, modStripe_stripe, hpad]
  exact ⟨hused _, rfl⟩

/-! ### The stripe journal -/

/-- What the stripe journal's ring holds after records join it: the last checkpoint and what follows it, or all (R216). -/
def ringAfter (ring : List SjRec) : List SjRec :=
  match ring.reverse.find? (fun r => r.type == .checkpoint) with
  | some c => c :: (ring.reverse.takeWhile (fun r => r.type != .checkpoint)).reverse
  | none => ring

/-- Records that hold no checkpoint stay in the ring that they join. -/
theorem mem_ringAfter_append {old rs : List SjRec} (hrs : rs.any (fun r => r.type == .checkpoint) = false) {r : SjRec} (hr : r ∈ rs) : r ∈ ringAfter (old ++ rs) := by
  have hplain : ∀ x ∈ rs.reverse, (x.type != .checkpoint) = true := by
    intro x hx
    have := List.any_eq_false.1 hrs x (List.mem_reverse.1 hx)
    simpa [bne] using this
  unfold ringAfter
  split
  · rw [List.reverse_append, List.takeWhile_append_of_pos hplain]
    simp [hr]
  · exact List.mem_append_right _ hr

/-- The records that a write of the stripe journal makes durable. -/
def Blk.sjWritten (b : Blk) : Blk :=
  modReplicas (fun r => { r with sj := r.sj ++ b.nvf.sjPending }) (modNvf (fun n => { n with sjPending := [], sjRing := ringAfter (b.nvf.sjRing ++ b.nvf.sjPending) }) b)

/-- The stripe `i` is opened by a record that is now durable. -/
def Blk.opens (b : Blk) (i : Nat) (x : Stripe) : Bool :=
  (b.nvf.sjPending.filter (fun r => r.type == .open')).any (fun r => r.gen == x.gen && r.stripe == b.sjWritten.stripeNo i && r.seqFirst == x.seqFirst)

/-- The block with the stripes marked whose OPEN records are durable. -/
def Blk.sjOpened (b : Blk) : Blk :=
  modNvf (fun n => { n with stripes := SMap.mapVal n.stripes (fun i x => if b.opens i x then { x with openDurable := true } else x) }) b.sjWritten

theorem stripeJournalCommit_eq (b : Blk) : stripeJournalCommit b =
    if b.nvf.sjPending.any (fun r => r.type == .checkpoint) then finishCheckpoint b.sjOpened else b.sjOpened := rfl

/-- What an erase of zones leaves of the flash array's journal and maps. -/
structure SjKept (b c : Blk) : Prop where
  pending : c.nvf.sjPending = b.nvf.sjPending
  home : c.nvf.homeMap = b.nvf.homeMap
  sj0 : c.nvf.rep0.sj = b.nvf.rep0.sj
  sj1 : c.nvf.rep1.sj = b.nvf.rep1.sj

theorem eraseZone_sjKept (z : Nat) (b : Blk) : SjKept b (eraseZone z b) := ⟨rfl, rfl, rfl, rfl⟩

theorem SjKept.trans {b c d : Blk} (h : SjKept b c) (k : SjKept c d) : SjKept b d :=
  ⟨k.pending.trans h.pending, k.home.trans h.home, k.sj0.trans h.sj0, k.sj1.trans h.sj1⟩

/-- A change of the replicas that leaves their journals. -/
theorem modReplicas_sjKept (f : Replica → Replica) (b : Blk) (hf : ∀ r, (f r).sj = r.sj) : SjKept b (modReplicas f b) := by
  refine ⟨rfl, rfl, (apply_ite Replica.sj _ _ _).trans ?_, (apply_ite Replica.sj _ _ _).trans ?_⟩ <;> rw [hf, ite_self]

theorem finishCheckpoint_sjKept (b : Blk) : SjKept b (finishCheckpoint b) := by
  unfold finishCheckpoint
  split
  · dsimp only
    refine foldl_keeps (SjKept b) _ _ (fun y z _ h => h.trans (eraseZone_sjKept z y)) ?_
    refine SjKept.trans ?_ (modReplicas_sjKept _ _ ?_)
    · exact ⟨rfl, rfl, rfl, rfl⟩
    · exact fun _ => rfl
  · exact ⟨rfl, rfl, rfl, rfl⟩

theorem stripeJournalCommit_sjKept (b : Blk) : SjKept b.sjOpened (stripeJournalCommit b) := by
  rw [stripeJournalCommit_eq]
  split
  · exact finishCheckpoint_sjKept _
  · exact ⟨rfl, rfl, rfl, rfl⟩

theorem sjOpened_stripes (b : Blk) :
    b.sjOpened.nvf.stripes = SMap.mapVal b.nvf.stripes (fun i x => if b.opens i x then { x with openDurable := true } else x) := rfl

theorem sjOpened_sj0 (b : Blk) : b.sjOpened.nvf.rep0.sj = if b.nvf.rep0.valid then b.nvf.rep0.sj ++ b.nvf.sjPending else b.nvf.rep0.sj := apply_ite Replica.sj _ _ _

theorem sjOpened_sj1 (b : Blk) : b.sjOpened.nvf.rep1.sj = if b.nvf.rep1.valid then b.nvf.rep1.sj ++ b.nvf.sjPending else b.nvf.rep1.sj := apply_ite Replica.sj _ _ _

theorem sjOpened_opens {b : Blk} {r : SjRec} {i : Nat} {x : Stripe} (hr : r ∈ b.nvf.sjPending) (ht : r.type = .open') (hx : SMap.find? b.nvf.stripes i = some x)
    (hgen : r.gen = x.gen) (hno : r.stripe = b.stripeNo i) (hseq : r.seqFirst = x.seqFirst) :
    SMap.find? b.sjOpened.nvf.stripes i = some { x with openDurable := true } := by
  have hopens : b.opens i x = true := by
    refine List.any_eq_true.2 ⟨r, List.mem_filter.2 ⟨hr, by simp [ht]⟩, ?_⟩
    rw [hgen, hseq, hno]
    simp only [beq_self_eq_true, Bool.and_true, Bool.true_and]
    exact beq_self_eq_true (b.stripeNo i)
  rw [sjOpened_stripes, SMap.find?_mapVal, hx, Option.map_some, hopens]
  rfl

/-! ### Reclaim and replicas -/

/-- The closed zones that reclaim may take (R228). -/
def Blk.victims (b : Blk) : List Nat := (SMap.keys b.nvf.zones).filter (fun z => (b.zone z).pool == .tlc && (b.zone z).state == .closed && b.zoneSettled z)

/-- The zone with the least load of a list that begins with `z`. -/
def Blk.leastLoad (b : Blk) (z : Nat) (zs : List Nat) : Nat := zs.foldl (fun x y => if b.zoneLoad y < b.zoneLoad x then y else x) z

/-- The zone that reclaim begins with where none is under way (R228). -/
def Blk.reclaimPick (b : Blk) : Option Nat :=
  if 6 < b.freeTlc then none
  else match b.victims with
    | [] => none
    | z :: zs => some (b.leastLoad z zs)

/-- The relocation of a zone's current units. -/
def reclaimZone (z : Nat) (b : Blk) : Blk :=
  settleReclaim ((b.zoneStripes z).foldl (fun b i => relocateStripe i b) { b with nvf := { b.nvf with reclaiming := some z } })

theorem reclaim_eq (b : Blk) : reclaim b =
    if b.inDusk then b
    else match (match b.nvf.reclaiming with | some z => some z | none => b.reclaimPick) with
      | none => b
      | some z => reclaimZone z b := rfl

section
variable {b : Blk}

theorem reclaimPick_none (h : 6 < b.freeTlc ∨ b.victims = []) : b.reclaimPick = none := by
  unfold Blk.reclaimPick
  generalize b.freeTlc = n at *
  by_cases hf : 6 < n
  · rw [if_pos hf]
  · rw [if_neg hf, h.resolve_left hf]

theorem reclaimPick_only {v : Nat} (hf : b.freeTlc ≤ 6) (hv : b.victims = [v]) : b.reclaimPick = some v := by
  unfold Blk.reclaimPick
  generalize b.freeTlc = n at *
  rw [if_neg (Nat.not_lt.2 hf), hv]
  rfl

theorem reclaim_idle (hr : b.nvf.reclaiming = none) (h : 6 < b.freeTlc ∨ b.victims = []) : reclaim b = b := by
  rw [reclaim_eq, hr, reclaimPick_none h]
  exact ite_self b

theorem reclaim_begins {v : Nat} (hd : b.inDusk = false) (hr : b.nvf.reclaiming = none) (hf : b.freeTlc ≤ 6) (hv : b.victims = [v]) :
    reclaim b = reclaimZone v b := by
  rw [reclaim_eq, hr, reclaimPick_only hf hv, hd, if_neg Bool.false_ne_true]

/-- A metadata replica made new on a die (R215). -/
def Blk.newReplica (b : Blk) (g : Nat) : Replica :=
  { die := some g, valid := true, sb := b.pers.sb, root := SMap.keep b.nvf.saved.places (fun i _ => decide (2 ^ 25 ≤ i)), sj := b.nvf.sjRing }

/-- The northern replica made anew where it is lost. -/
def fillNorth (new : Nat → Replica) (b : Blk) : Blk :=
  if b.nvf.rep0.valid then b else match b.nextReplica false with
    | some g => modNvf (fun n => { n with rep0 := new g }) b
    | none => b

/-- The southern replica made anew where it is lost. -/
def fillSouth (new : Nat → Replica) (b : Blk) : Blk :=
  if b.nvf.rep1.valid then b else match b.nextReplica true with
    | some g => modNvf (fun n => { n with rep1 := new g }) b
    | none => b

theorem replicaReplace_eq (b : Blk) : replicaReplace b = if b.nvf.layouts.isEmpty then b else fillSouth b.newReplica (fillNorth b.newReplica b) := rfl

theorem replicaReplace_north {g : Nat} (hl : b.nvf.layouts ≠ []) (h0 : b.nvf.rep0.valid = false) (h1 : b.nvf.rep1.valid = true) (hg : b.nextReplica false = some g) :
    replicaReplace b = modNvf (fun n => { n with rep0 := b.newReplica g }) b := by
  rw [replicaReplace_eq, if_neg (by simpa using hl), fillNorth, h0, if_neg Bool.false_ne_true, hg]
  exact if_pos h1

theorem replicaReplace_south {g : Nat} (hl : b.nvf.layouts ≠ []) (h0 : b.nvf.rep0.valid = true) (h1 : b.nvf.rep1.valid = false) (hg : b.nextReplica true = some g) :
    replicaReplace b = modNvf (fun n => { n with rep1 := b.newReplica g }) b := by
  rw [replicaReplace_eq, if_neg (by simpa using hl), fillNorth, h0, if_pos rfl, fillSouth, h1, if_neg Bool.false_ne_true, hg]

end

/-- Settles O31. -/
theorem nandOperationsAndLog : Obligations.NandOperationsAndLog := by
  unfold Obligations.NandOperationsAndLog
  intro s phys haon
  refine ⟨fun i q n hn => ?readOk, fun i q n d hn hi hq hd => ?readLost, fun i q ok h => ?notDue, fun i q h => ⟨fun d hd hp => ?failed, fun hmap => ?programmed, fun hmap hc hlen => ?noted⟩,
    fun d k n h => ?retired, fun z g => ?eraseFailed, fun z hz => ?journalErased, fun z hz hst => ?erased, fun g op h => ?noMember, fun g op h => ?timeout, fun h => ?noOpen,
    fun i hi => ⟨fun hd he => ⟨?padded, padStripe_pads hi⟩, fun h => ?notPadded⟩, ?committed, fun h => ?noReclaim, fun hr hz => ?noVictim, fun v hd hr hf hv => ?reclaims,
    fun b v hv => ⟨fun hl => ?loaded, fun hl hd => ?emptied⟩, fun g hl h0 h1 hg => ?north, fun g hl h0 h1 hg => ?south⟩
  case readOk => rw [exec_nandReadDone s haon, nandReadDone, if_neg Bool.false_ne_true, if_pos (by simp [hn])]
  case readLost =>
    rw [exec_nandReadDone s haon, nandReadDone, if_neg Bool.false_ne_true, if_neg (by simp [hn, hi]; omega), hd]
    rfl
  case notDue => rw [exec_nandProgramDone s haon, nandProgramDone, h]; rfl
  case failed =>
    rw [exec_nandProgramDone s haon, nandProgramDone, h, if_neg (by decide), if_neg Bool.false_ne_true, Blk.pageDie, hd]
    dsimp only
    rw [if_neg (by simpa using hp)]
    rfl
  case programmed => rw [exec_nandProgramDone s haon, nandProgramDone, h, hmap]; rfl
  case noted => rw [exec_nandProgramDone s haon, nandProgramDone, h, hmap, ← pageProgrammed_notes hc hlen]; rfl
  case retired =>
    rw [failBlock_die h]
    exact ⟨rfl, rfl, Die.phys_remapped _ _ _ _ _⟩
  case eraseFailed => exact exec_nandEraseDone s haon z (some g)
  case journalErased =>
    refine ⟨_, exec_nandEraseDone s haon z none, ?_⟩
    rw [nandEraseDone]
    dsimp only
    rw [hz, if_pos (beq_self_eq_true _)]
    simp [State.after, modNvf]
  case erased =>
    refine ⟨_, exec_nandEraseDone s haon z none, ?_⟩
    have herase : nandEraseDone z none s.now = noteStarved (modNvf (fun n => { n with erasing := n.erasing.erase z, zones := SMap.erase n.zones z }) s.now) := by
      rw [nandEraseDone]
      dsimp only
      rw [if_neg (by simpa using hz), hst]
      rfl
    rw [herase]
    simp only [State.after, closeStep_nvf, noteStarved_nvf]
    exact ⟨rfl, rfl, rfl⟩
  case noMember => rw [exec_memberTimeout s haon, memberTimeout, if_pos (by simpa using h)]
  case timeout => rw [exec_memberTimeout s haon, memberTimeout, if_neg (by simp [h])]
  case noOpen => rw [exec_stripePadTimeout s haon, stripePadTimeout, h]
  case padded => rw [exec_stripePadTimeout s haon, stripePadTimeout, hi]; dsimp only; rw [if_pos (by simp [hd, he])]
  case notPadded =>
    rw [exec_stripePadTimeout s haon, stripePadTimeout, hi]
    dsimp only
    rw [if_neg]
    rcases h with h | h
    · simp [h]
    · simp only [Bool.and_eq_true, decide_eq_true_eq, not_and]; intro; omega
  case committed =>
    refine ⟨_, exec_stripeJournalCommit s haon, ?_⟩
    simp only [State.after, closeStep_nvf]
    obtain ⟨hpending, hhome, hsj0, hsj1⟩ := stripeJournalCommit_sjKept s.now
    refine ⟨hpending, hhome, hsj0.trans (sjOpened_sj0 _), hsj1.trans (sjOpened_sj1 _), fun hplain => ?_⟩
    rw [stripeJournalCommit_eq, hplain, if_neg Bool.false_ne_true]
    exact ⟨fun r hr => mem_ringAfter_append hplain hr, fun r i x hr ht hx hgen hno hseq => sjOpened_opens hr ht hx hgen hno hseq⟩
  case noReclaim =>
    rw [exec_reclaim s haon]
    rcases h with h | ⟨hr, hf⟩
    · rw [reclaim, if_pos h]
    · rw [reclaim_idle hr (.inl hf)]
  case noVictim => rw [exec_reclaim s haon, reclaim_idle hr (.inr hz)]
  case reclaims => rw [exec_reclaim s haon, reclaim_begins hd hr hf hv]; rfl
  case loaded => rw [settleReclaim, hv]; dsimp only; rw [if_neg (by simp [hl])]
  case emptied => rw [settleReclaim, hv]; dsimp only; rw [if_pos (by simp [hl, hd])]; rfl
  case north =>
    refine ⟨_, exec_replicaReplace s haon, ?_⟩
    rw [replicaReplace_north hl h0 h1 hg]
    simp only [State.after, closeStep_nvf]
    exact ⟨rfl, rfl, rfl, rfl, rfl⟩
  case south =>
    refine ⟨_, exec_replicaReplace s haon, ?_⟩
    rw [replicaReplace_south hl h0 h1 hg]
    simp only [State.after, closeStep_nvf]
    exact ⟨rfl, rfl, rfl, rfl, rfl⟩

end Sys2Proof.Machine
end

section
/-!
PROOF. Why the statement on rebuild, raw reads and the patrol (O32) fails: the record of a difference that no page explains bears the stripe's number from before
the relocation (R227), and the statement takes it from after. The two differ where the relocation opens the log's next stripe at the very place.
-/
namespace Sys2Proof.Machine
open Sys2Proof

namespace PatrolRecord

/-- A closed stripe of layout 1 with one current home unit. -/
def oldStripe : Stripe := { units := [(0, { kind := .home, page := 0 })], closed := true, mapped := true, gen := 1 }

/-- A flash array whose log goes on, under layout 2, at the place of the old stripe. Layout 1 has no stripe in a row, layout 2 has one. -/
def array : NvfSt :=
  { dies := [(0, { Die.absent with state := .member, pagesPerBlock := 3 })]
    layouts := [⟨1, 0, 0, []⟩, ⟨2, 0, 0, List.range 18⟩]
    zones := [(0, ⟨.open', 2, .tlc⟩)]
    stripes := [(32, oldStripe)]
    homeMap := [(0, { stripe := 32, slot := 0, gen := 1 })]
    logHead := 32
    patrolOn := true
    patrolRate := 1 }

def state : State := { blk := { aon := true, nvf := array } }

/-- Differences in two data pages at different positions: no page explains them. -/
def errs : PageErrs := [(0, 0, 1), (1, 1, 1)]

/-- The block as the patrol goes on to the old stripe. -/
def onStripe : Blk :=
  modNvf (fun v => { v with
    patrolPos := 32 + 1, patrolPasses := if false then sat32 v.patrolPasses else v.patrolPasses, patrolEpoch := state.now.epoch, patrolCount := 0 + 1 }) state.now

/-- The block with the old stripe relocated. -/
def relocated : Blk := relocateStripe 32 (spoilUnits 32 errs none onStripe)

/-- The location codes of the buffered Logbook records. -/
def locations (b : Blk) : List W64 := b.logbook.buf.map (fun (r : LogRec) => r.location)

/-- What the patrol leaves, with the stripe's number in the record. -/
def noted (n : Nat) : Blk :=
  modNvf (fun v => { v with unattributed := sat32 v.unattributed }) (setErrLog .nvf 7 { kind := .perType, loc := BitVec.ofNat 64 n } relocated)

theorem number_before : onStripe.stripeNo 32 = 0 := by decide

theorem number_after : relocated.stripeNo 32 = 1 := by decide

theorem no_culprit : onStripe.culprit 32 errs = .none := by decide

theorem patrol_notes : patrolStripe [] errs state.now = noted 0 := rfl

theorem noted_locations (n : Nat) : locations (noted n) = [BitVec.ofNat 64 n] := rfl

end PatrolRecord

section
open PatrolRecord

/-- Refutes O32. -/
theorem not_flashServiceCommands : ¬ Obligations.FlashServiceCommands := by
  unfold Obligations.FlashServiceCommands
  intro h
  obtain ⟨-, -, -, -, -, -, -, -, hpatrol, -⟩ := h state rfl
  obtain ⟨-, hstep⟩ := hpatrol 0 rfl
  obtain ⟨-, -, -, hnone, -⟩ := hstep 32 false onStripe (by decide) (by decide) (by decide) (by decide) rfl
  have hsame : State.after state (noted 0) = State.after state (noted 1) := by
    have hexec := hnone errs no_culprit
    rw [exec_patrolStripe state rfl, patrol_notes] at hexec
    rw [Host.Outcome.next.inj hexec]
    exact congrArg (fun n => State.after state (noted n)) number_after
  have hlog : locations (noted 0) = locations (noted 1) := by
    have := congrArg (fun t : State => locations t.blk) hsame
    simpa [State.after, locations] using this
  rw [noted_locations, noted_locations] at hlog
  exact absurd hlog (by decide)

end

end Sys2Proof.Machine
end

section
/-!
PROOF. I3C and MCTP, vendor commands, key wrapping and PLDM monitoring (O45; R462 to R468).
-/
namespace Sys2Proof.Machine
open Sys2Proof

/-! ### MCTP packets -/

section
variable {t : Nat} {f l : Bool} {x : List Byte} {b : Blk}

theorem mctpPacket_dropped (h : b.mtu t < x.length ∨ b.hasTransport t = false) : mctpPacket t true f l x b = b := by
  unfold mctpPacket
  rw [if_neg (by simp), if_pos (by rcases h with h | h <;> simp [h])]

/-- A packet that is taken joins what came before it, up to 4,096 bytes, until the last (R463). -/
theorem mctpPacket_joins (ht : b.hasTransport t = true) (hx : x.length ≤ b.mtu t) {m : List Byte}
    (hm : (if f then some [] else SMap.find? b.mgt.assembling t) = some m) : mctpPacket t true f l x b =
    if l || decide (4096 < (m ++ x).length) then modMgt (fun y => { y with assembling := SMap.erase y.assembling t }) b
    else modMgt (fun y => { y with assembling := SMap.insert y.assembling t (m ++ x) }) b := by
  unfold mctpPacket
  rw [if_neg (by simp), if_neg (by simp [ht]; omega)]
  dsimp only
  rw [hm]

end

/-! ### Vendor commands -/

section
variable {e : RegEnv} {t g a n : Nat} {u : Option Nat} {w : W64} {b : Blk}

theorem regWriteCmd_misaligned (h : a % 8 ≠ 0) : regWriteCmd e t u g a n w b = vendorFail t g 2 2 n a b := by
  unfold regWriteCmd; rw [if_pos h]

theorem regWriteCmd_badCount (ha : a % 8 = 0) (h : n ≠ 1 ∨ regSpaceEnd < a + 8) : regWriteCmd e t u g a n w b = vendorFail t g 2 3 n a b := by
  unfold regWriteCmd
  rw [if_neg (not_not_intro ha), if_pos (by rcases h with h | h <;> simp [h])]

/-- The write of one register of the space, by whether there is one and whether the path may write it (R466). -/
theorem regWriteCmd_one (ha : a % 8 = 0) (hend : a + 8 ≤ regSpaceEnd) : regWriteCmd e t u g a 1 w b =
    if (regAt b a).isNone then send (.vendor t (vendorMsg 2 0 g 1 a [])) b
    else if !b.mayWrite (writeClass a) a w (b.ownerSession t u) then vendorFail t g 2 1 1 a b
    else send (.vendor t (vendorMsg 2 (if b.cmdBusy a w && !b.regInReset a then 4 else 0) g 1 a [])) (regWrite e a w b) := by
  unfold regWriteCmd
  rw [if_neg (not_not_intro ha), if_neg (by simp; omega)]

theorem regReadCmd_badRange (ha : a % 8 = 0) (h : n = 0 ∨ 32 < n ∨ regSpaceEnd < a + 8 * n) : regReadCmd t g a n b = vendorFail t g 1 3 n a b := by
  unfold regReadCmd
  rw [if_neg (not_not_intro ha), if_pos (by rcases h with h | h | h <;> simp [h])]

theorem almRead_free (ha : a ≤ 530) (h : b.alm.storing = none) : almRead t g a 1 b =
    send (.vendor t (vendorMsg 4 0 g 1 a (if a < 512 then b.almBytes a
      else (List.range 32).flatMap (fun i => natLe 4 (SMap.get 0 b.alm.events (32 * (a - 512) + i)))))) b := by
  unfold almRead
  rw [if_neg (by simp; omega), h]
  rfl

end

/-! ### Wrapped keys -/

section
variable {b : Blk} {t : Nat} {u : Option Nat}

theorem wrapBlob_some (hdr key : List Byte) (h : b.cph.kek.isSome = true) : ∃ x, (wrapBlob hdr key b).1 = some x := by
  obtain ⟨kek, hkek⟩ := Option.isSome_iff_exists.1 h
  unfold wrapBlob
  rw [hkek]
  exact ⟨_, rfl⟩

theorem wrapCommand_noOwner (haon : b.aon = true) (hown : b.ownerSession t u = false) {c g n a : Nat} {hdr : List Byte} {key : Option (List Byte)} :
    wrapCommand c t u g n a hdr key b = vendorFail t g c 6 n a b := by
  unfold wrapCommand
  rw [if_neg (by simp [haon]), if_pos (by simp [hown])]

variable {c g : Nat} {hdr key : List Byte} {x : List Byte} (haon : b.aon = true) (hown : b.ownerSession t u = true) (hh : hdr.length = 64)
include haon hown hh

/-- A key of the header's length is wrapped in an owner session (R340). -/
theorem wrapCommand_key (hk : key.length = if uAt hdr 8 1 = 1 then 64 else 32) (hx : (wrapBlob hdr key b).1 = some x) :
    wrapCommand c t u g 1 0 hdr (some key) b = send (.vendor t (vendorMsg c 0 g 1 0 x)) (wrapBlob hdr key b).2 := by
  unfold wrapCommand
  rw [if_neg (by simp [haon]), if_neg (by simp [hown])]
  dsimp only
  rw [if_neg (by simp [hh, hk])]
  generalize wrapBlob hdr key b = r at hx ⊢
  obtain ⟨o, y⟩ := r
  subst hx
  rfl

/-- A generated key is drawn at the header's length and wrapped. -/
theorem wrapCommand_generated (hx : (wrapBlob hdr (natLe (if uAt hdr 8 1 = 1 then 64 else 32) (drawFree b).1) (drawFree b).2).1 = some x) :
    wrapCommand c t u g 1 0 hdr none b =
      send (.vendor t (vendorMsg c 0 g 1 0 x)) (wrapBlob hdr (natLe (if uAt hdr 8 1 = 1 then 64 else 32) (drawFree b).1) (drawFree b).2).2 := by
  unfold wrapCommand
  rw [if_neg (by simp [haon]), if_neg (by simp [hown])]
  dsimp only
  rw [if_neg (by simp [hh])]
  generalize wrapBlob hdr (natLe (if uAt hdr 8 1 = 1 then 64 else 32) (drawFree b).1) (drawFree b).2 = r at hx ⊢
  obtain ⟨o, y⟩ := r
  subst hx
  rfl

end

theorem filter_not_bad_nil (l : List LogRec) : l.filter (fun r => !([] : List Nat).contains r.seq) = l := List.filter_eq_self.2 (fun _ _ => rfl)

/-- Settles O45. -/
theorem managementPathAnswers : Obligations.ManagementPathAnswers := by
  unfold Obligations.ManagementPathAnswers
  intro s haon
  refine ⟨fun x a hx => ?addrA, fun x a hx => ?addrB, fun p x a hx => ?notOwn, fun t f l x ht => ?badPec, fun t f l x h => ?dropped, fun t x ht hx hlen => ?first,
    fun t x y ht hx hy hlen => ?joined, fun t x y ht hx hy => ?lastOne, fun t i h0 h1 => ?eid, fun t i h => ?noEid, fun n h0 h1 => ⟨?mtuA, ?mtuB⟩, fun p n h => ?noMtu,
    fun t g a n => ⟨fun ha => ?readMisaligned, fun ha h => ?readRange, fun ha h0 h1 hend => ?read⟩,
    fun e t u g a n w => ⟨fun ha => ?writeMisaligned, fun ha h => ?writeRange⟩,
    fun e t u g a w ha hend => ⟨fun hreg => ?noRegister, fun hreg hmay => ?notPermitted, fun hreg hmay hbusy => ?written, fun hreg hmay hbusy hrst => ?busy⟩,
    fun t g a n bad f h => ?logRange, fun t g a n h0 h1 => ?log, fun t g a => ⟨fun ha => ?almRange, fun ha hst => ?almBusy, fun ha hst => ?almRecord, fun ha ha' hst => ?almCounters⟩,
    fun t g c n a hc => ?unsupported, fun t u g n a hdr key hown => ⟨?noWrap, ?noGenerate⟩, fun t u g hdr key hown hh hk hkek => ?wrap, fun t u g hdr f hown hh hf hkek => ?generate,
    fun t r => ?receiver, fun t i hi => ?noSensor, fun t i v hi hv => ?sensor, fun t i hi => ?noPdr, fun t i hi => ?pdr, fun t => ?fru, fun t a h0 h1 => ?setTid, fun t a => ⟨?tid, ?types⟩⟩
  case addrA =>
    rw [exec_i3cDynamicAddress s haon, i3cDynamicAddress, if_neg (by rcases hx with h | h <;> simp [h]), if_pos rfl]
  case addrB =>
    rw [exec_i3cDynamicAddress s haon, i3cDynamicAddress, if_neg (by rcases hx with h | h <;> simp [h]), if_neg (by decide), if_pos rfl]
  case notOwn => rw [exec_i3cDynamicAddress s haon, i3cDynamicAddress, if_pos (by simp [hx])]
  case badPec => rw [exec_mctpPacket s haon, mctpPacket, if_pos (by simp [ht])]
  case dropped => rw [exec_mctpPacket s haon, mctpPacket_dropped h]
  case first => rw [exec_mctpPacket s haon, mctpPacket_joins ht hx (m := []) rfl, if_neg (by simpa using hlen)]; rfl
  case joined => rw [exec_mctpPacket s haon, mctpPacket_joins (f := false) ht hx hy, if_neg (by simpa using hlen)]
  case lastOne => rw [exec_mctpPacket s haon, mctpPacket_joins (f := false) ht hx hy, if_pos (by simp)]
  case eid => rw [exec_setEndpointId s haon, setEndpointId, if_neg (by simp; omega)]
  case noEid => rw [exec_setEndpointId s haon, setEndpointId, if_pos (by simpa using h)]
  case mtuA => rw [exec_setMtu s haon, setMtu, if_neg (by simp; omega), if_pos rfl]
  case mtuB => rw [exec_setMtu s haon, setMtu, if_neg (by simp; omega), if_neg (by decide), if_pos rfl]
  case noMtu => rw [exec_setMtu s haon, setMtu, if_pos (by simpa using h)]
  case readMisaligned => rw [exec_regRead s haon, regReadCmd, if_pos ha]
  case readRange => rw [exec_regRead s haon, regReadCmd_badRange ha h]
  case read => rw [exec_regRead s haon, regReadCmd, if_neg (not_not_intro ha), if_neg (by simp; omega)]
  case writeMisaligned => rw [exec_regWrite s haon, regWriteCmd_misaligned ha]
  case writeRange => rw [exec_regWrite s haon, regWriteCmd_badCount ha h]
  case noRegister => rw [exec_regWrite s haon, regWriteCmd_one ha hend, if_pos hreg]
  case notPermitted => rw [exec_regWrite s haon, regWriteCmd_one ha hend, if_neg (by simp [Option.isSome_iff_ne_none.1 hreg]), hmay]; rfl
  case written => rw [exec_regWrite s haon, regWriteCmd_one ha hend, if_neg (by simp [Option.isSome_iff_ne_none.1 hreg]), hmay, hbusy]; rfl
  case busy => rw [exec_regWrite s haon, regWriteCmd_one ha hend, if_neg (by simp [Option.isSome_iff_ne_none.1 hreg]), hmay, hbusy, hrst]; rfl
  case logRange => rw [exec_logRead s haon, logRead, if_pos (by simpa using h)]
  case log =>
    rw [exec_logRead s haon, logRead, if_neg (by simp; omega)]
    dsimp only
    rw [filter_not_bad_nil, if_neg Bool.false_ne_true, if_neg (by simp)]
  case almRange => rw [exec_almRead s haon, almRead, if_pos (by simp [ha])]
  case almBusy => rw [exec_almRead s haon, almRead, if_neg (by simp; omega), if_pos hst]
  case almRecord => rw [exec_almRead s haon, almRead_free (by omega) hst, if_pos ha]
  case almCounters => rw [exec_almRead s haon, almRead_free ha' hst, if_neg (by omega)]
  case unsupported => rw [exec_vendorUnsupported s haon, vendorUnsupported, if_neg (by simp; omega)]
  case noWrap => rw [exec_wrapKey s haon, wrapKey, wrapCommand_noOwner (b := s.now) haon hown]
  case noGenerate => rw [exec_generateKey s haon, generateKey, wrapCommand_noOwner (b := s.now) haon hown]
  case wrap =>
    obtain ⟨x, hx⟩ := wrapBlob_some hdr key hkek
    exact ⟨x, hx, by rw [exec_wrapKey s haon, wrapKey, wrapCommand_key (b := s.now) haon hown hh hk hx]⟩
  case generate =>
    subst hf
    obtain ⟨x, hx⟩ := wrapBlob_some (b := (drawFree s.now).2) hdr (natLe (if uAt hdr 8 1 = 1 then 64 else 32) (drawFree s.now).1) hkek
    exact ⟨x, hx, by rw [exec_generateKey s haon, generateKey, wrapCommand_generated (b := s.now) haon hown hh hx]⟩
  case receiver => exact exec_setEventReceiver s haon t r
  case noSensor => exact ⟨_, by rw [exec_getSensorReading s haon, getSensorReading, hi]; rfl⟩
  case sensor => exact ⟨_, by rw [exec_getSensorReading s haon, getSensorReading, hi, hv]; rfl⟩
  case noPdr => rw [exec_getPdr s haon, getPdr, List.getElem?_eq_none (by omega)]
  case pdr =>
    have hlt : i - 1 < sensorIds.length := by have : 0 < sensorIds.length := by decide
                                              omega
    refine ⟨_, by rw [exec_getPdr s haon, getPdr, List.getElem?_eq_getElem hlt], ?_⟩
    rw [List.getElem?_eq_getElem hlt]; rfl
  case fru => exact ⟨_, exec_getFruRecordTable s haon t⟩
  case setTid => rw [exec_pldmBase s haon, pldmBase, if_neg (by simp; omega)]
  case tid => rw [exec_pldmBase s haon, pldmBase]
  case types => rw [exec_pldmBase s haon, pldmBase]

end Sys2Proof.Machine
end

section
/-!
PROOF. The firmware update's commands (O46; R467, R472, R473).
-/
namespace Sys2Proof.Machine
open Sys2Proof

/-! ### Parts of the commands -/

section
variable {b : Blk}

@[simp] theorem updateSay_mgt (t c k : Nat) (b : Blk) : (updateSay t c k b).mgt = b.mgt := rfl
@[simp] theorem updateSay_dram (t c k : Nat) (b : Blk) : (updateSay t c k b).dram = b.dram := rfl
@[simp] theorem updateSay_errs (t c k : Nat) (b : Blk) : (updateSay t c k b).errs = b.errs := rfl
@[simp] theorem updateSay_pwr (t c k : Nat) (b : Blk) : (updateSay t c k b).pwr = b.pwr := rfl

theorem updateSay_out {t c k : Nat} (h : b.out = []) : (updateSay t c k b).out = [.pldm t 5 c k []] := by
  show b.out ++ _ = _
  rw [h, List.nil_append]

/-- The bank that a pending activation goes back to (R472). -/
def Blk.oldBank (b : Blk) : Nat := (b.mgt.running.map (fun (r : Running) => r.bank)).getD (1 - b.mgt.active)

theorem cancelPending_mgt (b : Blk) : (cancelPending b).mgt =
    if b.mgt.pendingReset then { b.mgt with active := b.oldBank, trial := false, pendingReset := false } else b.mgt := by
  unfold cancelPending
  cases h : b.mgt.pendingReset
  · rfl
  · rw [if_neg (by simp)]
    dsimp only
    rw [addJob_mgt]
    rfl

theorem cancelPending_out (b : Blk) : (cancelPending b).out = b.out := by
  unfold cancelPending
  split
  · rfl
  · dsimp only; rw [addJob_out]; rfl

theorem cancelPending_dram (b : Blk) : (cancelPending b).dram = b.dram := by
  unfold cancelPending
  split
  · rfl
  · dsimp only; rw [addJob_dram]; rfl

theorem requestUpdate_taken {t : Nat} {u : Option Nat} (hi : b.mgt.update = .idle) (hm : b.mayUpdate t u = true) (hd : b.inDusk = false) :
    requestUpdate t u true b = updateSay t 0x10 0 (modMgt (fun m => { m with update := .requested }) (cancelPending b)) := by
  unfold requestUpdate
  rw [if_neg (not_not_intro hi), if_neg (by simp [hm, hd])]

/-- The erases of a bank only join the eFlash jobs. -/
theorem eraseJobs_keep (n : Nat) (l : List Nat) (b : Blk) :
    (l.foldl (fun b i => addJob (.erase (256 * n + i)) b) b).mgt = b.mgt ∧ (l.foldl (fun b i => addJob (.erase (256 * n + i)) b) b).out = b.out ∧
      (l.foldl (fun b i => addJob (.erase (256 * n + i)) b) b).dram = b.dram := by
  refine foldl_keeps (fun y : Blk => y.mgt = b.mgt ∧ y.out = b.out ∧ y.dram = b.dram) _ _ (fun y i _ h => ?_) ⟨rfl, rfl, rfl⟩
  obtain ⟨hmgt, hout, hdram⟩ := h
  exact ⟨by rw [addJob_mgt, hmgt], by rw [addJob_out, hout], by rw [addJob_dram, hdram]⟩

/-- The block with the update's data under way to the bank that is not active. -/
def Blk.erasingBank (b : Blk) (size : Nat) : Blk :=
  modMgt (fun m => { m with update := .erasing 256, updateSize := size, updateGot := 0, header := [], banks := SMap.erase m.banks b.targetBank }) b

theorem updateComponent_taken {t n : Nat} {u : Option Nat} (hu : b.mgt.update = .table) (hm : b.mayUpdate t u = true) (h0 : 0 < n) (hn : n ≤ 2 ^ 23) :
    updateComponent t u n true b =
      updateSay t 0x14 0 ((List.range 256).foldl (fun x i => addJob (.erase (256 * b.targetBank + i)) x) (b.erasingBank n)) := by
  unfold updateComponent
  rw [if_neg (by rw [hu]; decide), if_neg (by simp [hu, hm]), if_neg (by simp; omega)]
  rfl

theorem firmwareData_ignored {x : List Byte} (h : b.mgt.update ≠ .receiving ∨ b.inDusk = true ∨ x.length ≠ Nat.min 4096 (b.mgt.updateSize - b.mgt.updateGot) ∨ x = []) :
    firmwareData x b = b := by
  unfold firmwareData
  dsimp only
  rw [if_pos]
  rcases h with h | h | h | h <;> simp [h]

/-- The management state with a block of firmware taken: what belongs to the header sector is held back (R472). -/
def Blk.withBlock (b : Blk) (x : List Byte) : Blk :=
  modMgt (fun m => { m with
    header := m.header ++ x.take (sectorBytes - b.mgt.updateGot)
    updateGot := m.updateGot + x.length
    banks := if (x.drop (sectorBytes - b.mgt.updateGot)).isEmpty then m.banks
      else SMap.insert m.banks b.targetBank
        ((if (b.bank b.targetBank).isEmpty then List.replicate sectorBytes 0xFF else b.bank b.targetBank) ++ x.drop (sectorBytes - b.mgt.updateGot)) }) b

theorem firmwareData_taken {x : List Byte} (hu : b.mgt.update = .receiving) (hd : b.inDusk = false) (hx : x.length = Nat.min 4096 (b.mgt.updateSize - b.mgt.updateGot))
    (hne : x ≠ []) (hcur : b.efl.cur ≠ some (.firmware b.targetBank)) (hjobs : b.efl.jobs.contains (.firmware b.targetBank) = false) :
    firmwareData x b =
      if (x.drop (sectorBytes - b.mgt.updateGot)).isEmpty && decide ((b.withBlock x).mgt.updateGot < (b.withBlock x).mgt.updateSize) then
        send (.firmwareRequest (b.withBlock x).mgt.updateGot (Nat.min 4096 ((b.withBlock x).mgt.updateSize - (b.withBlock x).mgt.updateGot))) (b.withBlock x)
      else addJob (.firmware b.targetBank) (b.withBlock x) := by
  unfold firmwareData
  dsimp only
  rw [if_neg (by simp [hu, hd, ← hx, hne, hcur]; simpa using hjobs)]
  rfl

theorem firmwareData_keeps {x : List Byte} (hu : b.mgt.update = .receiving) (hd : b.inDusk = false) (hx : x.length = Nat.min 4096 (b.mgt.updateSize - b.mgt.updateGot))
    (hne : x ≠ []) (hcur : b.efl.cur ≠ some (.firmware b.targetBank)) (hjobs : b.efl.jobs.contains (.firmware b.targetBank) = false) :
    (firmwareData x b).mgt = (b.withBlock x).mgt ∧ (firmwareData x b).dram = b.dram := by
  rw [firmwareData_taken hu hd hx hne hcur hjobs]
  split
  · exact ⟨rfl, rfl⟩
  · rw [addJob_mgt, addJob_dram]; exact ⟨rfl, rfl⟩

/-- The block with the verified bank's description recorded. -/
def Blk.verified (b : Blk) (bad : Bool) : Blk :=
  modMgt (fun m => if b.targetBank = 0 then { m with infoA := b.bankInfo b.targetBank bad } else { m with infoB := b.bankInfo b.targetBank bad })
    (noteBegun b.targetBank (if bad then setErr .efl 2 b else b))

/-- What the description of a bank leaves: the update, the banks, the Chart and what was sent. -/
theorem verified_keeps (b : Blk) (bad : Bool) : (b.verified bad).mgt.update = b.mgt.update ∧ (b.verified bad).mgt.active = b.mgt.active ∧
    (b.verified bad).mgt.banks = b.mgt.banks ∧ (b.verified bad).cht = b.cht ∧ (b.verified bad).out = b.out := by
  have hbegun : ∀ n (y : Blk), (noteBegun n y).mgt = y.mgt ∧ (noteBegun n y).cht = y.cht ∧ (noteBegun n y).out = y.out := by
    intro n y; unfold noteBegun; split <;> simp
  have hbad : (if bad then setErr .efl 2 b else b).mgt = b.mgt ∧ (if bad then setErr .efl 2 b else b).cht = b.cht ∧ (if bad then setErr .efl 2 b else b).out = b.out := by
    cases bad <;> simp
  obtain ⟨hm, hc, ho⟩ := hbegun b.targetBank (if bad then setErr .efl 2 b else b)
  obtain ⟨hm', hc', ho'⟩ := hbad
  unfold Blk.verified modMgt
  dsimp only
  rw [hm, hc, ho, hm', hc', ho']
  split <;> exact ⟨rfl, rfl, rfl, rfl, rfl⟩

theorem verifyComplete_due {t : Nat} {bad : Bool} (h : b.mgt.update = .verifying) : verifyComplete t bad b =
    if (b.bankInfo b.targetBank bad).result == .ok && decide ((b.verified bad).cht.cur.target.minFw ≤ (b.bankInfo b.targetBank bad).version) then
      updateSay t 0x17 0 (modMgt (fun m => { m with update := .ready }) (b.verified bad))
    else updateSay t 0x17 1 (b.verified bad) := by
  unfold verifyComplete
  rw [if_neg (not_not_intro h)]
  rfl

/-- The block with the updated bank named active on trial, and the answer sent (R473). -/
def Blk.trialBank (b : Blk) (t : Nat) : Blk :=
  updateSay t 0x1A 0 (addJob .bootRecord (modMgt (fun m => { m with active := b.targetBank, trial := true, update := .idle, updateSize := 0, updateGot := 0 }) b))

theorem trialBank_pwr (b : Blk) (t : Nat) : (b.trialBank t).pwr = b.pwr := by unfold Blk.trialBank; rw [updateSay_pwr, addJob_pwr]; rfl

theorem activateFirmware_taken {t : Nat} {u : Option Nat} (hu : b.mgt.update = .ready) (hm : b.mayUpdate t u = true) (hd : b.inDusk = false) :
    activateFirmware t u b =
      if b.pwr.stage = .twilight then exitTwilight 2 (b.trialBank t)
      else if ((b.mgt.running.map (fun (r : Running) => r.supDigest)) == some (((b.bank b.targetBank).drop 0x20).take 64)) = true then
        firmwareReset (modMgt (fun m => { m with activating := true }) (b.trialBank t))
      else modMgt (fun m => { m with pendingReset := true }) (b.trialBank t) := by
  unfold activateFirmware
  rw [if_neg (by rw [hu]; decide), if_neg (by simp [hu, hm, hd]), ← trialBank_pwr b t]
  rfl

/-- The end of an update without its activation (R472). -/
theorem abortUpdate_ends (h : b.mgt.update ≠ .idle) : (abortUpdate b).mgt.update = .idle ∧ (abortUpdate b).mgt.active = b.mgt.active ∧
    (abortUpdate b).mgt.banks = b.mgt.banks ∧ (SMap.get 0 (abortUpdate b).errs ErrReg.mgt.key).getLsbD 5 = true ∧ (abortUpdate b).out = b.out ∧
    (abortUpdate b).dram = b.dram := by
  unfold abortUpdate
  rw [if_neg h]
  dsimp only
  rw [setErr_mgt, setErr_out, setErr_dram]
  exact ⟨rfl, rfl, rfl, setErr_sets _ (by decide) _, rfl, rfl⟩

end

/-- Settles O46. -/
theorem firmwareUpdateCommands : Obligations.FirmwareUpdateCommands := by
  unfold Obligations.FirmwareUpdateCommands
  intro s haon
  refine ⟨fun t u f => ⟨fun h => ?underWay, fun hi h => ?refused, fun hi hm hf hd => ?requested⟩,
    fun hi t u f n => ⟨?idleTable, ?idleComponent, ?idleActivate, ?idleCancel, ?idleTimeout, fun x => ?idleData, fun x => ?idleVerify⟩, fun t u f hu hm => ?table,
    fun t u n f hu hm => ⟨fun h => ?wrongComponent, fun hf h0 hn => ?component⟩, fun x h => ?ignored, fun x hu hd hx hne hcur hjobs => ?data, fun t x h => ?notDue,
    fun t x h => ?verify, fun t u hi h => ?notReady, fun t u b hu hm hd htw hb => ⟨fun hsame => ?restart, fun hsame => ?nextReset⟩, fun t u hu hm hd htw => ?twilight,
    fun t u hi => ⟨fun hm => ?noCancel, fun hm => ?cancel, ?timeout⟩⟩
  case underWay => rw [exec_requestUpdate s haon, requestUpdate, if_pos h]
  case refused => rw [exec_requestUpdate s haon, requestUpdate, if_neg (not_not_intro hi), if_pos (by rcases h with h | h | h <;> simp [h])]
  case requested =>
    subst hf
    refine ⟨_, by rw [exec_requestUpdate s haon, requestUpdate_taken hi hm hd], rfl, updateSay_out (cancelPending_out _), ?_⟩
    have hmgt := cancelPending_mgt s.now
    have hdram := cancelPending_dram s.now
    generalize cancelPending s.now = y at hmgt hdram ⊢
    rw [updateSay_mgt, updateSay_dram]
    simp only [modMgt, hmgt]
    cases hp : s.now.mgt.pendingReset with
    | false => exact ⟨rfl, hp, hdram, fun _ => rfl, fun r h => by cases h⟩
    | true => exact ⟨rfl, rfl, hdram, fun h => absurd h (by decide), fun r _ hr => ⟨by simp [Blk.oldBank, hr], rfl⟩⟩
  case idleTable => rw [exec_passComponentTable s haon, passComponentTable, if_pos hi]
  case idleComponent => rw [exec_updateComponent s haon, updateComponent, if_pos hi]
  case idleActivate => rw [exec_activateFirmware s haon, activateFirmware, if_pos hi]
  case idleCancel => rw [exec_cancelUpdate s haon, cancelUpdate, if_pos hi]
  case idleTimeout => rw [exec_updateAgentTimeout s haon, updateAgentTimeout, abortUpdate, if_pos hi]
  case idleData => rw [exec_firmwareData s haon, firmwareData_ignored (.inl (by rw [hi]; decide))]
  case idleVerify => rw [exec_verifyComplete s haon, verifyComplete, if_pos (by rw [hi]; decide)]
  case table =>
    rw [exec_passComponentTable s haon, passComponentTable, if_neg (by rw [hu]; decide), if_neg (by simp [hu, hm])]
  case wrongComponent =>
    rw [exec_updateComponent s haon, updateComponent, if_neg (by rw [hu]; decide), if_neg (by simp [hu, hm]), if_pos (by simpa [or_assoc] using h)]
  case component =>
    subst hf
    obtain ⟨hmgt, hout, hdram⟩ := eraseJobs_keep s.now.targetBank (List.range 256) (s.now.erasingBank n)
    refine ⟨_, by rw [exec_updateComponent s haon, updateComponent_taken hu hm h0 hn], ?_⟩
    rw [updateSay_mgt, updateSay_dram, hmgt, hdram, updateSay_out (hout.trans rfl)]
    exact ⟨rfl, rfl, rfl, rfl, SMap.find?_erase_same .., rfl, rfl⟩
  case ignored => rw [exec_firmwareData s haon, firmwareData_ignored h]
  case data =>
    obtain ⟨hmgt, hdram⟩ := firmwareData_keeps hu hd hx hne hcur hjobs
    refine ⟨_, exec_firmwareData s haon x, ?_⟩
    rw [hmgt, hdram]
    exact ⟨rfl, rfl, rfl, hu, rfl⟩
  case notDue => rw [exec_verifyComplete s haon, verifyComplete, if_pos h]
  case verify =>
    obtain ⟨hupdate, hactive, hbanks, hcht, hout⟩ := verified_keeps s.now x
    refine ⟨_, by rw [exec_verifyComplete s haon, verifyComplete_due h], ?_⟩
    rw [hcht]
    by_cases hok : (s.now.bankInfo s.now.targetBank x).result = .ok ∧ s.now.cht.cur.target.minFw ≤ (s.now.bankInfo s.now.targetBank x).version
    · rw [if_pos (by simp [hok])]
      exact ⟨hactive, hbanks, fun _ => ⟨rfl, updateSay_out hout⟩, fun hbad => absurd hok.1 hbad⟩
    · rw [if_neg (by simpa using hok)]
      exact ⟨hactive, hbanks, fun h => absurd h hok, fun _ => ⟨hupdate.trans h, updateSay_out hout⟩⟩
  case notReady =>
    rw [exec_activateFirmware s haon, activateFirmware, if_neg hi, if_pos (by rcases h with h | h | h <;> simp [h])]
  case restart =>
    subst hb
    rw [exec_activateFirmware s haon, activateFirmware_taken hu hm hd, if_neg htw, if_pos (by rw [hsame]; exact beq_self_eq_true _)]
    rfl
  case nextReset =>
    subst hb
    rw [exec_activateFirmware s haon, activateFirmware_taken hu hm hd, if_neg htw, if_neg (by simpa using hsame)]
    rfl
  case twilight =>
    rw [exec_activateFirmware s haon, activateFirmware_taken hu hm hd, if_pos htw]
    rfl
  case noCancel => rw [exec_cancelUpdate s haon, cancelUpdate, if_neg hi, if_pos (by simp [hm])]
  case cancel =>
    obtain ⟨hidle, hactive, -, herr, hout, hdram⟩ := abortUpdate_ends hi
    refine ⟨_, by rw [exec_cancelUpdate s haon, cancelUpdate, if_neg hi, if_neg (by simp [hm])], ?_⟩
    exact ⟨hidle, hactive, herr, updateSay_out (hout.trans rfl), hdram⟩
  case timeout => exact ⟨_, exec_updateAgentTimeout s haon, abortUpdate_ends hi⟩

end Sys2Proof.Machine
end

section
/-!
PROOF. The Orbit command registers of a logical device (O42; R302, R303, R322, Table 11-14).
-/
namespace Sys2Proof.Machine
open Sys2Proof

/-! ### Taking a command -/

section
variable {b : Blk} {n : Nat}

/-- A logical device that is present and in no reset reaches its registers. -/
theorem viaLd_taken (h : b.ldTakes n = true) (f : Blk → Blk) : viaLd n f b = f b := by
  simp only [Blk.ldTakes, Bool.and_eq_true, Bool.not_eq_true'] at h
  obtain ⟨⟨⟨hp, hr⟩, hport⟩, hsys⟩ := h
  unfold viaLd
  rw [hp, hr, hport, hsys]
  rfl

theorem ldTakes_present (h : b.ldTakes n = true) : (!(b.port (n / 16)).present.testBit (n % 16) || (b.ld n).resetting) = false := by
  simp only [Blk.ldTakes, Bool.and_eq_true, Bool.not_eq_true'] at h
  obtain ⟨⟨⟨hp, hr⟩, -⟩, -⟩ := h
  rw [hp, hr]
  rfl

theorem orbCommand_busy (h : b.ldTakes n = true) (hst : (b.orbCmd n).state = 1) (phys : Phys) (op : Nat) (args : List Nat) :
    viaLd n (orbCommand phys n op args) b = modOrbCmd n (fun c => { c with reason := 6 }) b := by
  rw [viaLd_taken h, orbCommand, ldTakes_present h, if_neg Bool.false_ne_true, if_pos hst]

/-- A command that is taken runs at once where no restart of the cores makes it wait. -/
theorem orbCommand_runs (h : b.ldTakes n = true) (hst : (b.orbCmd n).state ≠ 1) (hfw : b.fwWaits = false) (phys : Phys) (op : Nat) (args : List Nat) :
    viaLd n (orbCommand phys n op args) b = runOrbCmd phys n op (takeOrbCmd n op args b) := by
  rw [viaLd_taken h, orbCommand, ldTakes_present h, if_neg Bool.false_ne_true, if_neg hst]
  exact if_neg (by rw [show (takeOrbCmd n op args b).fwWaits = b.fwWaits from rfl, hfw]; exact Bool.false_ne_true)

@[simp] theorem modOrbCmd_orbCmd (n : Nat) (f : CmdRegs → CmdRegs) (b : Blk) : (modOrbCmd n f b).orbCmd n = f (b.orbCmd n) := SMap.get_upd_same ..

theorem orbDone_orbCmd (n : Nat) (f : CmdRegs → CmdRegs) (b : Blk) : (orbDone n f b).orbCmd n = { f (b.orbCmd n) with state := 2, reason := 0 } := modOrbCmd_orbCmd ..

theorem orbDone_oq (n : Nat) (f : CmdRegs → CmdRegs) (b : Blk) (q : Nat) : (orbDone n f b).oq q = b.oq q := rfl

/-- An argument that fits its register reads as it was set. -/
theorem CmdRegs.arg_setArg (c : CmdRegs) (i : Nat) {v : Nat} (hv : v < 2 ^ 64) : (c.setArg i v).arg i = v := by
  unfold CmdRegs.arg CmdRegs.setArg
  rw [SMap.get_put_same, BitVec.toNat_ofNat, Nat.mod_eq_of_lt hv]

end

/-! ### Contexts on chip -/

/-- What the fetch of a context leaves: queues, command registers and memory. -/
structure CtxKept (b c : Blk) : Prop where
  queues : c.orb.queues = b.orb.queues
  cmds : c.orb.cmds = b.orb.cmds
  dram : c.dram = b.dram

theorem roomForCtx_kept {q : Nat} {b c : Blk} (h : roomForCtx q b = some c) : CtxKept b c := by
  unfold roomForCtx at h
  dsimp only at h
  split at h
  · cases h; exact ⟨rfl, rfl, rfl⟩
  · split at h
    · cases h
    · cases h; exact ⟨rfl, rfl, rfl⟩

theorem loadCtx_kept (q : Nat) (b : Blk) : CtxKept b (loadCtx q b) := by
  unfold loadCtx
  split
  · exact ⟨rfl, rfl, rfl⟩
  · split
    · next c hc =>
      obtain ⟨hqueues, hcmds, hdram⟩ := roomForCtx_kept hc
      exact ⟨hqueues, hcmds, hdram⟩
    · exact ⟨rfl, rfl, rfl⟩

/-! ### Queues -/

section
variable {b : Blk} {n q : Nat}

/-- A queue that stands with its context, and the number answered (R303). -/
def queueStands (n q : Nat) (x : OrbQueue) (b : Blk) : Blk :=
  orbDone n (fun c => c.setArg 5 q) (loadCtx q (modOrb (fun o => { o with queues := SMap.insert o.queues q x, retired := SMap.erase o.retired q }) b))

theorem queueStands_leaves (x : OrbQueue) (hq : q < 2 ^ 64) : (queueStands n q x b).oq q = some x ∧ ((queueStands n q x b).orbCmd n).state = 2 ∧
    ((queueStands n q x b).orbCmd n).arg 5 = q ∧ (∀ k, k ≠ q → (queueStands n q x b).oq k = b.oq k) ∧ (queueStands n q x b).dram = b.dram := by
  obtain ⟨hqueues, -, hdram⟩ := loadCtx_kept q (modOrb (fun o => { o with queues := SMap.insert o.queues q x, retired := SMap.erase o.retired q }) b)
  have hoq : ∀ k, (queueStands n q x b).oq k = SMap.find? (SMap.insert b.orb.queues q x) k := fun k => congrArg (SMap.find? · k) hqueues
  have hcmd : (queueStands n q x b).orbCmd n = { (CmdRegs.setArg _ 5 q) with state := 2, reason := 0 } := orbDone_orbCmd ..
  refine ⟨?_, ?_, ?_, fun k hk => ?_, hdram⟩
  · rw [hoq, SMap.find?_insert_same]
  · rw [hcmd]
  · rw [hcmd]; exact CmdRegs.arg_setArg _ 5 hq
  · rw [hoq, SMap.find?_insert_other _ _ hk]; rfl

/-- The number of a queue that CREATE_QUEUE takes. -/
def Blk.queueChoice (b : Blk) (explicit : Bool) (want : Nat) : Option Nat :=
  if explicit then (if b.queueFree want then some want else none) else (List.range b.cht.cur.orbit.backedQueues).find? b.queueFree

/-- The queue that CREATE_QUEUE's arguments describe. -/
def CmdRegs.queue (c : CmdRegs) (n : Nat) : OrbQueue :=
  { owner := n, sq := c.arg 0, cq := c.arg 2, counterDpa := c.arg 3, log2 := c.arg 1 % 32, group := c.arg 1 / 2 ^ 16 % 2 ^ 16 }

/-- A CREATE_QUEUE that passes its checks ends by the number that it finds. -/
theorem orbCreate_checked (hen : b.cht.cur.orbit.enable = true) (hearly : b.pwr.boot.duskCount.any (fun c => decide (b.mer.count ≤ c + b.orbLt)) = false)
    (hlow : 4 ≤ (b.orbCmd n).arg 1 % 32) (hhigh : (b.orbCmd n).arg 1 % 32 ≤ 16) (hsq : b.ringOk n ((b.orbCmd n).arg 0) (2 ^ ((b.orbCmd n).arg 1 % 32) * 64) = true)
    (hcq : b.ringOk n ((b.orbCmd n).arg 2) (2 ^ ((b.orbCmd n).arg 1 % 32) * 32) = true) (hcnt : b.ringOk n ((b.orbCmd n).arg 3) 8 = true) :
    orbCreate n b = (b.queueChoice (((b.orbCmd n).arg 1).testBit 32) ((b.orbCmd n).arg 1 / 2 ^ 36 % 2 ^ 22)).elim (orbFail n 1 b)
      (fun q => queueStands n q ((b.orbCmd n).queue n) b) := by
  have hring : (decide ((b.orbCmd n).arg 1 % 32 < 4) || decide (16 < (b.orbCmd n).arg 1 % 32) ||
      !b.ringOk n ((b.orbCmd n).arg 0) (2 ^ ((b.orbCmd n).arg 1 % 32) * 64) || !b.ringOk n ((b.orbCmd n).arg 2) (2 ^ ((b.orbCmd n).arg 1 % 32) * 32) ||
      !b.ringOk n ((b.orbCmd n).arg 3) 8) = false := by
    rw [hsq, hcq, hcnt, decide_eq_false (Nat.not_lt.2 hlow), decide_eq_false (Nat.not_lt.2 hhigh)]; rfl
  unfold orbCreate
  dsimp only
  rw [hen, hearly, hring, if_neg (by decide), if_neg Bool.false_ne_true, if_neg Bool.false_ne_true]
  unfold Blk.queueChoice
  generalize (if ((b.orbCmd n).arg 1).testBit 32 then _ else _ : Option Nat) = o
  cases o <;> rfl

/-- A destroyed queue is gone, and no other. -/
theorem destroyQueues_oq (q k : Nat) (b : Blk) : (destroyQueues (fun k _ => decide (k = q)) b).oq k = if k = q then none else b.oq k := by
  show SMap.find? (SMap.keep b.orb.queues (fun k _ => !decide (k = q))) k = _
  by_cases h : k = q
  · rw [if_pos h, SMap.find?_keep_of_false _ (fun k => !decide (k = q)) (by simp [h])]
  · rw [if_neg h, SMap.find?_keep_of_true _ (fun k => !decide (k = q)) (by simp [h])]; rfl

theorem orbDestroy_owned {x : OrbQueue} (h : b.ownQueue n ((b.orbCmd n).arg 0) = .inl x) :
    orbDestroy n b = orbDone n id (destroyQueues (fun k _ => decide (k = (b.orbCmd n).arg 0)) b) := by
  unfold orbDestroy; dsimp only; rw [h]

theorem orbDestroy_refused {r : Nat} (h : b.ownQueue n ((b.orbCmd n).arg 0) = .inr r) : orbDestroy n b = orbFail n r b := by
  unfold orbDestroy; dsimp only; rw [h]

theorem orbResume_owned {x : OrbQueue} (h : b.ownQueue n ((b.orbCmd n).arg 0) = .inl x) :
    orbResume n b = orbDone n id (modOq ((b.orbCmd n).arg 0) (fun x => { x with err := false }) b) := by
  unfold orbResume; dsimp only; rw [h]

theorem orbResume_refused {r : Nat} (h : b.ownQueue n ((b.orbCmd n).arg 0) = .inr r) : orbResume n b = orbFail n r b := by
  unfold orbResume; dsimp only; rw [h]

end

/-! ### Keys -/

section
variable {b : Blk} {n : Nat} {phys : Phys}

/-- An explicit REGISTER_KEY of a range in view with rights: refused where the index is in use, else the entry is written (R302). -/
theorem registerKey_explicit (hen : b.cht.cur.orbit.enable = true) (hlen : (b.orbCmd n).arg 1 ≠ 0) (hview : b.inView n ((b.orbCmd n).arg 0) ((b.orbCmd n).arg 1) = true)
    (hrights : (b.orbCmd n).arg 2 % 8 ≠ 0) (hexp : ((b.orbCmd n).arg 2).testBit 32 = true) (hlim : (b.orbCmd n).arg 3 / 2 ^ 40 < b.cht.cur.orbit.keys) :
    registerKey phys n b = if SMap.has b.orb.keyUsed ((b.orbCmd n).arg 3 / 2 ^ 40) then orbFail n 8 b
      else orbDone n (fun c => c.setArg 3 ((b.orbCmd n).arg 3)) (setKey phys ((b.orbCmd n).arg 3 / 2 ^ 40)
        { base := (b.orbCmd n).arg 0, length := (b.orbCmd n).arg 1, tag := (b.orbCmd n).arg 3 % 2 ^ 40, rights := (b.orbCmd n).arg 2 % 8, valid := true,
          group := (b.orbCmd n).arg 2 / 2 ^ 16 % 2 ^ 16, owner := n } b) := by
  have hcheck : (decide ((b.orbCmd n).arg 1 = 0) || !b.inView n ((b.orbCmd n).arg 0) ((b.orbCmd n).arg 1) || decide ((b.orbCmd n).arg 2 % 8 = 0)) = false := by
    rw [hview, decide_eq_false hlen, decide_eq_false hrights]; rfl
  unfold registerKey
  dsimp only
  rw [hen, hcheck, hexp, if_neg (by decide), if_neg Bool.false_ne_true, if_pos rfl, if_neg (Nat.not_le.2 hlim), if_pos rfl]
  cases SMap.has b.orb.keyUsed ((b.orbCmd n).arg 3 / 2 ^ 40) with
  | true => rw [if_pos rfl, if_pos rfl]
  | false => rw [if_neg Bool.false_ne_true, if_neg Bool.false_ne_true]

/-- DEREGISTER_KEY of an entry on chip (R302). -/
theorem deregisterKey_onChip {e : KeyEntry} (he : SMap.find? b.orb.keys ((b.orbCmd n).arg 3 / 2 ^ 40) = some e) :
    deregisterKey phys n b =
      if !SMap.has b.orb.keyUsed ((b.orbCmd n).arg 3 / 2 ^ 40) || e.tag != (b.orbCmd n).arg 3 % 2 ^ 40 then orbFail n 4 b
      else if e.owner != n then orbFail n 2 b
      else modOrb (fun o => { o with dereg := o.dereg ++ [(n, (b.orbCmd n).arg 3 / 2 ^ 40)] }) (setKey phys ((b.orbCmd n).arg 3 / 2 ^ 40) {} b) := by
  unfold deregisterKey
  dsimp only
  rw [he]

theorem queryQueue_owned {x : OrbQueue} (h : b.ownQueue n ((b.orbCmd n).arg 0) = .inl x) : queryQueue n b = orbDone n (fun c =>
    ((c.setArg 1 ((if x.err then 3 else if x.waiting.isSome then 2 else 1) + x.errStatus * 256)).setArg 2 (x.head + x.cqNext * 2 ^ 32)).setArg 3 x.counter) b := by
  unfold queryQueue; dsimp only; rw [h]

theorem queryQueue_notOwned (h : b.ownQueue n ((b.orbCmd n).arg 0) = .inr 2) : queryQueue n b = orbFail n 2 b := by
  unfold queryQueue; simp only [h]

end

/-- Settles O42. -/
theorem orbitQueueAndKeyCommands : Obligations.OrbitQueueAndKeyCommands := by
  unfold Obligations.OrbitQueueAndKeyCommands
  intro s phys n args haon hld
  refine ⟨fun hst b hb => ?busy, fun hst hfw => ?taken⟩
  case busy =>
    subst hb
    have hbusy := fun op => orbCommand_busy hld hst phys op args
    exact ⟨by rw [exec_orbCreateQueue s haon, hbusy], by rw [exec_orbDestroyQueue s haon, hbusy], by rw [exec_orbResumeQueue s haon, hbusy],
      by rw [exec_registerKey s haon, hbusy], by rw [exec_deregisterKey s haon, hbusy], by rw [exec_queryQueue s haon, hbusy]⟩
  case taken =>
    have hrun := fun op => orbCommand_runs hld hst hfw phys op args
    refine ⟨fun b hb => ⟨fun hen => ?disabled, fun hen hearly => ?early, fun c l q hc hl hen hearly hlow hhigh hsq hcq hcnt hexp hq => ⟨fun hfree => ?noQueue, fun hfree => ?created⟩⟩,
      fun b q hb hq => ⟨fun r hown => ?noDestroy, fun x hown => ?destroyed⟩, fun b q hb hq => ⟨fun r hown => ?noResume, fun x hown => ?resumed⟩,
      fun b hb => ⟨fun hen => ?keysDisabled, fun c k hc hk hen hlen hview hrights hexp => ⟨fun hused hlim => ?keyUsed, fun hfree hlim => ?registered⟩⟩,
      fun b k e hb hk he => ⟨fun h => ?wrongTag, fun hused htag hown => ?wrongOwner, fun hused htag hown => ?deregistered⟩,
      fun b q hb hq => ⟨fun x hown => ?queried, fun hown => ?notOwned⟩⟩
    case disabled => rw [exec_orbCreateQueue s haon, hrun, ← hb, runOrbCmd, orbCreate, hen]; rfl
    case early => rw [exec_orbCreateQueue s haon, hrun, ← hb, runOrbCmd, orbCreate, hen, hearly]; rfl
    case noQueue =>
      subst hc hl hq
      have hcreate := orbCreate_checked hen hearly hlow hhigh hsq hcq hcnt
      rw [hexp, Blk.queueChoice, if_pos rfl, hfree, if_neg Bool.false_ne_true] at hcreate
      rw [exec_orbCreateQueue s haon, hrun, ← hb, runOrbCmd, hcreate]
      rfl
    case created =>
      subst hc hl
      have hcreate := orbCreate_checked hen hearly hlow hhigh hsq hcq hcnt
      rw [hexp, ← hq, Blk.queueChoice, if_pos rfl, hfree, if_pos rfl] at hcreate
      refine ⟨_, by rw [exec_orbCreateQueue s haon, hrun, ← hb, runOrbCmd, hcreate]; rfl, queueStands_leaves _ ?_⟩
      rw [hq]; omega
    case noDestroy => subst hq; rw [exec_orbDestroyQueue s haon, hrun, ← hb, runOrbCmd, orbDestroy_refused hown]
    case destroyed =>
      subst hq
      refine ⟨_, by rw [exec_orbDestroyQueue s haon, hrun, ← hb, runOrbCmd, orbDestroy_owned hown], ?_⟩
      refine ⟨?_, fun k hk => ?_, ?_, rfl⟩
      · rw [orbDone_oq, destroyQueues_oq, if_pos rfl]
      · rw [orbDone_oq, destroyQueues_oq, if_neg hk]
      · rw [orbDone_orbCmd]
    case noResume => subst hq; rw [exec_orbResumeQueue s haon, hrun, ← hb, runOrbCmd, orbResume_refused hown]
    case resumed => subst hq; rw [exec_orbResumeQueue s haon, hrun, ← hb, runOrbCmd, orbResume_owned hown]
    case keysDisabled => rw [exec_registerKey s haon, hrun, ← hb, runOrbCmd, registerKey, hen]; rfl
    case keyUsed =>
      subst hk hc
      rw [exec_registerKey s haon, hrun, ← hb, runOrbCmd, registerKey_explicit hen hlen hview hrights hexp hlim, if_pos hused]
    case registered =>
      subst hk hc
      rw [exec_registerKey s haon, hrun, ← hb, runOrbCmd, registerKey_explicit hen hlen hview hrights hexp hlim, hfree, if_neg Bool.false_ne_true]
    case wrongTag =>
      subst hk
      rw [exec_deregisterKey s haon, hrun, ← hb, runOrbCmd, deregisterKey_onChip he, if_pos (h.elim (fun h => by rw [h]; rfl) (fun h => by rw [bne_iff_ne.2 h, Bool.or_true]))]
    case wrongOwner =>
      subst hk
      rw [exec_deregisterKey s haon, hrun, ← hb, runOrbCmd, deregisterKey_onChip he, if_neg (by rw [hused, htag, bne_self_eq_false]; exact Bool.false_ne_true), if_pos (by simpa using hown)]
    case deregistered =>
      subst hk
      rw [exec_deregisterKey s haon, hrun, ← hb, runOrbCmd, deregisterKey_onChip he, if_neg (by rw [hused, htag, bne_self_eq_false]; exact Bool.false_ne_true), if_neg (by simp [hown])]
    case queried => subst hq; rw [exec_queryQueue s haon, hrun, ← hb, runOrbCmd, queryQueue_owned hown]
    case notOwned => subst hq; rw [exec_queryQueue s haon, hrun, ← hb, runOrbCmd, queryQueue_notOwned hown]

end Sys2Proof.Machine
end

section
/-!
PROOF. The cipher command registers of a logical device and of the management path (O43; R340 to R342, R346, R350, Tables 12-14 and 12-16).
-/
namespace Sys2Proof.Machine
open Sys2Proof

/-! ### Taking a command -/

section
variable {b : Blk} {n : Nat}

theorem cphCommand_busy (h : b.ldTakes n = true) (hst : (b.cphCmd n).state = 1) (phys : Phys) (op : Nat) (args : List Nat) :
    viaLd n (cphCommand phys n op args) b = modCphCmd n (fun c => { c with reason := 3 }) b := by
  rw [viaLd_taken h, cphCommand, ldTakes_present h, if_neg Bool.false_ne_true, if_pos hst]

/-- A command that is taken runs at once where no restart of the cores makes it wait. -/
theorem cphCommand_runs (h : b.ldTakes n = true) (hst : (b.cphCmd n).state ≠ 1) (hfw : b.fwWaits = false) (phys : Phys) (op : Nat) (args : List Nat) :
    viaLd n (cphCommand phys n op args) b = runCphCmd phys n op (takeCphCmd n op args b) := by
  rw [viaLd_taken h, cphCommand, ldTakes_present h, if_neg Bool.false_ne_true, if_neg hst]
  exact if_neg (by rw [show (takeCphCmd n op args b).fwWaits = b.fwWaits from rfl, hfw]; exact Bool.false_ne_true)

@[simp] theorem modCphCmd_cphCmd (n : Nat) (f : CmdRegs → CmdRegs) (b : Blk) : (modCphCmd n f b).cphCmd n = f (b.cphCmd n) := SMap.get_upd_same ..

theorem cphDone_cphCmd (n : Nat) (f : CmdRegs → CmdRegs) (b : Blk) : (cphDone n f b).cphCmd n = { f (b.cphCmd n) with state := 2, reason := 0 } :=
  modCphCmd_cphCmd ..

end

/-! ### Queues -/

section
variable {b : Blk} {n q : Nat}

/-- The block with a cipher queue that stands (R346). -/
def Blk.withCq (b : Blk) (q : Nat) (x : CphQueue) : Blk := modCph (fun o => { o with queues := SMap.insert o.queues q x }) b

theorem withCq_cq (q : Nat) (x : CphQueue) (b : Blk) (k : Nat) : (b.withCq q x).cq k = if k = q then some x else b.cq k := by
  show SMap.find? (SMap.insert b.cph.queues q x) k = _
  by_cases h : k = q
  · rw [if_pos h, h, SMap.find?_insert_same]
  · rw [if_neg h, SMap.find?_insert_other _ _ h]; rfl

theorem cphCreate_notOwner (h : b.queueOwner ((b.cphCmd n).arg 0 % 256) ≠ some n) : cphCreate n b = cphFail n 1 b := by
  unfold cphCreate; dsimp only; rw [if_pos (by simpa using h)]

theorem cphCreate_inUse (h : b.queueOwner ((b.cphCmd n).arg 0 % 256) = some n) (hq : (b.cq ((b.cphCmd n).arg 0 % 256)).isSome = true) :
    cphCreate n b = cphFail n 4 b := by
  unfold cphCreate; dsimp only; rw [if_neg (by simp [h]), if_pos hq]

theorem cphCreate_checked (h : b.queueOwner ((b.cphCmd n).arg 0 % 256) = some n) (hq : b.cq ((b.cphCmd n).arg 0 % 256) = none)
    (hlow : 4 ≤ (b.cphCmd n).arg 3 % 16) (hhigh : (b.cphCmd n).arg 3 % 16 ≤ 12) (hsq : b.ringOk n ((b.cphCmd n).arg 1) (2 ^ ((b.cphCmd n).arg 3 % 16) * 64) = true)
    (hcq : b.ringOk n ((b.cphCmd n).arg 2) (2 ^ ((b.cphCmd n).arg 3 % 16) * 16) = true) :
    cphCreate n b = cphDone n id (b.withCq ((b.cphCmd n).arg 0 % 256)
      { owner := n, sq := (b.cphCmd n).arg 1, cq := (b.cphCmd n).arg 2, log2 := (b.cphCmd n).arg 3 % 16 }) := by
  have hring : (decide ((b.cphCmd n).arg 3 % 16 < 4) || decide (12 < (b.cphCmd n).arg 3 % 16) || !b.ringOk n ((b.cphCmd n).arg 1) (2 ^ ((b.cphCmd n).arg 3 % 16) * 64) ||
      !b.ringOk n ((b.cphCmd n).arg 2) (2 ^ ((b.cphCmd n).arg 3 % 16) * 16)) = false := by
    rw [hsq, hcq, decide_eq_false (Nat.not_lt.2 hlow), decide_eq_false (Nat.not_lt.2 hhigh)]; rfl
  unfold cphCreate
  dsimp only
  rw [if_neg (by simp [h]), hq, hring]
  rfl

theorem cphDestroy_owned {x : CphQueue} (h : b.ownCq n ((b.cphCmd n).arg 0 % 256) = .inl x) :
    cphDestroy n b = modCq ((b.cphCmd n).arg 0 % 256) (fun x => { x with closing := true }) b := by
  unfold cphDestroy; dsimp only; rw [h]

theorem cphDestroy_refused {r : Nat} (h : b.ownCq n ((b.cphCmd n).arg 0 % 256) = .inr r) : cphDestroy n b = cphFail n r b := by
  unfold cphDestroy; dsimp only; rw [h]

theorem cphResume_owned {x : CphQueue} (h : b.ownCq n ((b.cphCmd n).arg 0 % 256) = .inl x) :
    cphResume n b = cphDone n id (modCq ((b.cphCmd n).arg 0 % 256) (fun x => { x with err := false }) b) := by
  unfold cphResume; dsimp only; rw [h]

theorem cphResume_refused {r : Nat} (h : b.ownCq n ((b.cphCmd n).arg 0 % 256) = .inr r) : cphResume n b = cphFail n r b := by
  unfold cphResume; dsimp only; rw [h]

end

/-! ### Slots -/

theorem modSlot_slot (q k : Nat) (f : KeySlot → KeySlot) (b : Blk) : (modSlot q f b).slot k = if k = q then f (b.slot q) else b.slot k := by
  unfold Blk.slot modSlot
  dsimp only
  by_cases h : k = q
  · rw [if_pos h, h, SMap.get_upd_same]
  · rw [if_neg h, SMap.upd, SMap.get_put_other _ _ _ h]

/-- A cleared slot keeps its floor, count and check, and no other slot changes (R342). -/
theorem clearSlot_slot (q k : Nat) (b : Blk) : (clearSlot q b).slot k =
    if k = q then { floor := (b.slot q).floor, count := (b.slot q).count, check := (b.slot q).check } else b.slot k := modSlot_slot ..

theorem cphClear_allowed {b : Blk} {n : Nat} (hu : userSlot ((b.cphCmd n).arg 0) = true) (hm : (b.slot ((b.cphCmd n).arg 0)).ldMask.testBit n = true)
    (huse : b.slotInUse ((b.cphCmd n).arg 0) = false) : cphClear n b = cphDone n id (clearSlot ((b.cphCmd n).arg 0) b) := by
  unfold cphClear; dsimp only; rw [hu, hm, huse]; rfl

/-! ### The management path -/

/-- A cipher command of the management path is register 0xA0008. -/
theorem viaReg_cphReg (f : Blk → Blk) (b : Blk) (hrst : b.pwr.sysRst = false) : viaReg 0xA0008 f b = f b := by
  unfold viaReg Blk.regInReset; rw [hrst]; rfl

theorem unwrap_badFormat {x : List Byte} (h : blobFormatOk x = false) (c : Option Nat) (b : Blk) : unwrap x c b = (1, setErr .cph 1 b) := by
  unfold unwrap; dsimp only; rw [if_pos (by simp [h])]

theorem mgmtCph_runs {b : Blk} (hst : b.cph.cmd.state ≠ 1) (hfw : b.fwWaits = false) {op q : Nat} (hop : op = 1 ∨ op = 2) : mgmtCph op q b = runMgmtCph op q b := by
  unfold mgmtCph
  rw [if_neg hst, if_neg (by omega), hfw, if_neg Bool.false_ne_true]

/-- CLEAR_SLOT of the management path, by whether the slot may be cleared. -/
theorem runMgmtCph_clear (q : Nat) (b : Blk) : runMgmtCph 2 q b =
    modCph (fun o => { o with cmd := { o.cmd with state := if userSlot q && !b.slotInUse q then 2 else 3, lastOp := 2 }, cmdSlot := q })
      (if userSlot q && !b.slotInUse q then clearSlot q b else b) := rfl

/-- Settles O43. -/
theorem cipherQueueAndSlotCommands : Obligations.CipherQueueAndSlotCommands := by
  unfold Obligations.CipherQueueAndSlotCommands
  intro s phys haon
  refine ⟨fun n args hld => ⟨fun hst b hb => ?busy, fun hst hfw => ?taken⟩, fun hrst => ⟨fun hst q => ⟨?ignoredUnwrap, ?ignoredClear⟩,
    fun hst hfw => ⟨fun q hbad => ?badBlob, fun q hq huse => ?mgmtCleared, fun q h => ?mgmtNotCleared⟩⟩⟩
  case busy =>
    subst hb
    have hbusy := fun op => cphCommand_busy hld hst phys op args
    exact ⟨by rw [exec_cphCreateQueue s haon, hbusy], by rw [exec_cphDestroyQueue s haon, hbusy], by rw [exec_cphResumeQueue s haon, hbusy],
      by rw [exec_unwrapKey s haon, hbusy], by rw [exec_clearSlot s haon, hbusy], by rw [exec_querySlot s haon, hbusy]⟩
  case taken =>
    have hrun := fun op => cphCommand_runs hld hst hfw phys op args
    refine ⟨fun b c q l hb hc hq hl => ⟨fun hown => ?notOwner, fun hown hcq => ?inUse, fun hown hcq hlow hhigh hsq hring => ?created⟩,
      fun b q hb hq => ⟨fun r hown => ?noDestroy, fun x hown => ?destroyed⟩, fun b q hb hq => ⟨fun r hown => ?noResume, fun x hown => ?resumed⟩,
      fun b a hb ha => ⟨fun h16 => ?misaligned, fun h16 hview => ?unwraps⟩,
      fun b q hb hq => ⟨fun hu => ?clearNoSlot, fun hu hm => ?clearNotMine, fun hu hm huse => ?clearInUse, fun hu hm huse => ?cleared⟩,
      fun b q hb hq hu hm => ?queried⟩
    case notOwner => subst hq hc; rw [exec_cphCreateQueue s haon, hrun, ← hb, runCphCmd, cphCreate_notOwner hown]
    case inUse => subst hq hc; rw [exec_cphCreateQueue s haon, hrun, ← hb, runCphCmd, cphCreate_inUse hown hcq]
    case created =>
      subst hq hl hc
      refine ⟨_, by rw [exec_cphCreateQueue s haon, hrun, ← hb, runCphCmd, cphCreate_checked hown hcq hlow hhigh hsq hring], ?_⟩
      refine ⟨(withCq_cq _ _ _ _).trans (if_pos rfl), ?_, fun k hk => (withCq_cq _ _ _ _).trans (if_neg hk), rfl, rfl⟩
      rw [cphDone_cphCmd]
    case noDestroy => subst hq; rw [exec_cphDestroyQueue s haon, hrun, ← hb, runCphCmd, cphDestroy_refused hown]
    case destroyed => subst hq; rw [exec_cphDestroyQueue s haon, hrun, ← hb, runCphCmd, cphDestroy_owned hown]
    case noResume => subst hq; rw [exec_cphResumeQueue s haon, hrun, ← hb, runCphCmd, cphResume_refused hown]
    case resumed => subst hq; rw [exec_cphResumeQueue s haon, hrun, ← hb, runCphCmd, cphResume_owned hown]
    case misaligned => subst ha; rw [exec_unwrapKey s haon, hrun, ← hb, runCphCmd, cphUnwrap, if_pos (by simp [h16])]
    case unwraps => subst ha; rw [exec_unwrapKey s haon, hrun, ← hb, runCphCmd, cphUnwrap, if_neg (by simp [h16, hview])]
    case clearNoSlot => subst hq; rw [exec_clearSlot s haon, hrun, ← hb, runCphCmd, cphClear, hu]; rfl
    case clearNotMine => subst hq; rw [exec_clearSlot s haon, hrun, ← hb, runCphCmd, cphClear, hu, hm]; rfl
    case clearInUse => subst hq; rw [exec_clearSlot s haon, hrun, ← hb, runCphCmd, cphClear, hu, hm, huse]; rfl
    case cleared =>
      subst hq
      refine ⟨_, by rw [exec_clearSlot s haon, hrun, ← hb, runCphCmd, cphClear_allowed hu hm huse], ?_⟩
      refine ⟨?_, (clearSlot_slot _ _ _).trans (if_pos rfl), fun k hk => (clearSlot_slot _ _ _).trans (if_neg hk), rfl⟩
      rw [cphDone_cphCmd]
    case queried => subst hq; rw [exec_querySlot s haon, hrun, ← hb, runCphCmd, querySlot, hu, hm]; rfl
  case ignoredUnwrap => rw [exec_mgmtUnwrap s haon, viaReg_cphReg _ _ hrst, mgmtCph, if_pos hst]
  case ignoredClear => rw [exec_mgmtClearSlot s haon, viaReg_cphReg _ _ hrst, mgmtCph, if_pos hst]
  case badBlob =>
    refine ⟨_, by rw [exec_mgmtUnwrap s haon, viaReg_cphReg _ _ hrst, mgmtCph_runs hst hfw (.inl rfl), runMgmtCph, if_pos rfl, unwrap_badFormat hbad], ?_⟩
    exact ⟨rfl, rfl, by simp [modCph], by simp [modCph]⟩
  case mgmtCleared =>
    have hok : (userSlot q && !s.now.slotInUse q) = true := by rw [hq, huse]; rfl
    refine ⟨_, by rw [exec_mgmtClearSlot s haon, viaReg_cphReg _ _ hrst, mgmtCph_runs hst hfw (.inr rfl), runMgmtCph_clear, hok, if_pos rfl, if_pos rfl], ?_⟩
    exact ⟨rfl, (clearSlot_slot _ _ _).trans (if_pos rfl), fun k hk => (clearSlot_slot _ _ _).trans (if_neg hk)⟩
  case mgmtNotCleared =>
    have hbad : (userSlot q && !s.now.slotInUse q) = false := by rcases h with h | h <;> simp [h]
    refine ⟨_, by rw [exec_mgmtClearSlot s haon, viaReg_cphReg _ _ hrst, mgmtCph_runs hst hfw (.inr rfl), runMgmtCph_clear, hbad, if_neg Bool.false_ne_true, if_neg Bool.false_ne_true], ?_⟩
    exact ⟨rfl, rfl⟩

end Sys2Proof.Machine
end

section
/-!
PROOF. Cipher doorbells, completions, verify buffers, register pages and the slot store (O44; R346 to R353).
-/
namespace Sys2Proof.Machine
open Sys2Proof

/-! ### An error pin without reactions -/

/-- Where the Chart names no reaction, an asserted pin is set and only recorded (R410, R411). -/
theorem assertPin_quiet {pin : Nat} (hpin : pin < 128) (loc : W64) {b : Blk} (h : b.cht.cur.faults = []) :
    (assertPin pin loc b).flt.status.getLsbD pin = true ∧ (assertPin pin loc b).cph = b.cph ∧ (assertPin pin loc b).errs = b.errs ∧ (assertPin pin loc b).dram = b.dram := by
  by_cases hset : b.flt.status.getLsbD pin = true
  · have hsame : assertPin pin loc b = b := by unfold assertPin; rw [if_pos hset]
    rw [hsame]; exact ⟨hset, rfl, rfl, rfl⟩
  · have hlatch : assertPin pin loc b = recordLatch pin loc { b with flt := latchedFlt pin loc b } := by
      unfold assertPin; rw [if_neg hset, latchPin_quiet _ _ _ h]
    obtain ⟨hdram, -, -, herrs⟩ := recordLatch_keeps pin loc { b with flt := latchedFlt pin loc b }
    have hcph : ∀ x : Blk, (recordLatch pin loc x).cph = x.cph := by intro x; unfold recordLatch; split <;> simp
    rw [hlatch, hdram, herrs, hcph, recordLatch_flt, latchedFlt_status, getLsbD_or_bit]
    exact ⟨by simp [hpin], rfl, rfl, rfl⟩

/-! ### Queues -/

section
variable {b : Blk} {phys : Phys} {q : Nat} {x : CphQueue}

theorem cipherDescComplete_none (h : b.cq q = none) : cipherDescComplete phys q b = b := by unfold cipherDescComplete; rw [h]

theorem cipherDescComplete_still (h : b.cq q = some x) (hx : b.cphMoves x = false ∨ x.jobs = []) : cipherDescComplete phys q b = b := by
  unfold cipherDescComplete
  rw [h]
  dsimp only
  rcases hx with hx | hx
  · rw [hx]; exact if_pos rfl
  · rw [hx]; exact ite_self b

theorem cipherDescComplete_waits {j : CphJob} {rest : List CphJob} (h : b.cq q = some x) (hx : x.jobs = j :: rest) (hj : j.status = none) :
    cipherDescComplete phys q b = b := by
  unfold cipherDescComplete
  rw [h]
  dsimp only
  rw [hx]
  dsimp only
  rw [hj]
  exact ite_self b

/-- The oldest descriptor with a status leaves its queue, and its completion entry is written (R346, R347). -/
theorem cipherDescComplete_ends {j : CphJob} {rest : List CphJob} {st : Nat} (h : b.cq q = some x) (hm : b.cphMoves x = true) (hx : x.jobs = j :: rest)
    (hj : j.status = some st) : cipherDescComplete phys q b = startJob phys x.owner (.cphNote q)
      (writeAccesses (x.cq + 16 * (j.index % 2 ^ x.log2)) (natLe 4 (if st = 0 then j.len else 0) ++ natLe 1 st ++ natLe 1 (phaseOf x.log2 j.index) ++ natLe 2 0 ++ natLe 8 j.left))
      (modCq q (fun y => { y with jobs := rest, done := (y.done + 1) % 2 ^ 32, err := y.err || decide (3 ≤ st) }) b) := by
  unfold cipherDescComplete
  rw [h]
  dsimp only
  rw [hm, if_neg (by decide), hx]
  dsimp only
  rw [hj]

theorem cphDoorbell_owner {n t : Nat} (h : b.cq q = some x) : cphDoorbell n q t b =
    if x.owner = n then modCq q (fun y => { y with tail := t % 2 ^ 32 }) b else windowViolation n (0x2901000 + 4 * q) false b := by
  unfold cphDoorbell; rw [h]

theorem cphDoorbell_none {n t : Nat} (h : b.cq q = none) : cphDoorbell n q t b = windowViolation n (0x2901000 + 4 * q) false b := by
  unfold cphDoorbell; rw [h]

theorem verifyBufferFree_idle {h : Nat} (hd : SMap.get 0 b.cph.verifyDone h ≠ 0) (hq : b.cph.queues = []) (hp : b.cph.pages = []) : verifyBufferFree phys h b =
    modCph (fun o => { o with verify := SMap.upd 0 o.verify h (· - 1), verifyDone := SMap.upd 0 o.verifyDone h (· - 1) }) b := by
  unfold verifyBufferFree modCph
  rw [if_neg hd]
  dsimp only
  rw [hq, hp]
  exact ite_self _

end

/-! ### Register pages -/

section
variable {b : Blk} {n : Nat} {w : W64}

@[simp] theorem modPage_page (n : Nat) (f : CphPage → CphPage) (b : Blk) : (modPage n f b).page n = f (b.page n) := SMap.get_upd_same ..

/-- The failure that GO decides at once. -/
def Blk.goFails (b : Blk) (n op s len aadLen : Nat) : Option Nat :=
  match b.opCheck n op s len aadLen with
  | some st => some st
  | none => if decide (1 ≤ op) && decide (op ≤ 4) && !((op == 3 || op == 4) && fieldOf (b.page n).iv1 63 32 != 0) then none else some 8

/-- The block with the use of the slot counted that an operation without failure takes. -/
def Blk.goUses (b : Blk) (op s len : Nat) (fail : Option Nat) : Blk :=
  if fail.isNone then useSlot s (useUnits (op == 1 || op == 2) len) false b else b

/-- The block with a verify buffer taken where an OPEN finds one free. -/
def Blk.goBuffers (b : Blk) (h : Nat) (opens : Bool) : Blk :=
  if opens && !decide (32 ≤ SMap.get 0 b.cph.verify h) then modCph (fun o => { o with verify := SMap.upd 0 o.verify h (· + 1) }) b else b

/-- The page with an operation begun on it. -/
def goPage (op s len aadLen : Nat) (fail : Option Nat) (key : Nat) (waits holds : Bool) (p : CphPage) : CphPage :=
  { p with op := op, slot := s, length := len, aadLen := aadLen, state := .busy, fail := fail, key := key, waitBuf := waits, holdsBuf := holds }

/-- The block with a page's operation begun, its use counted and its buffer taken (R348, R349). -/
def Blk.pageBegun (b : Blk) (n op s len aadLen : Nat) (fail : Option Nat) : Blk :=
  let used := b.goUses op s len fail
  let full := decide (32 ≤ SMap.get 0 used.cph.verify (pageHemi n))
  let taken := used.goBuffers (pageHemi n) (op == 4 && fail.isNone)
  modPage n (goPage op s len aadLen fail (taken.slot s).key (op == 4 && fail.isNone && full) (op == 4 && fail.isNone && !full)) taken

theorem pageGo_begins {len aadLen : Nat} (hp : b.cht.cur.cipher.pages = true) (hst : (b.page n).state ≠ .busy) (hd : b.inDusk = false)
    (hlen : len = pageLimit 16384 (fieldOf w 31 17) (b.page n).length) (haad : aadLen = pageLimit 4096 (fieldOf w 44 32) (b.page n).aadLen) :
    pageGo n w b = b.pageBegun n (fieldOf w 3 1) (fieldOf w 16 4) len aadLen (b.goFails n (fieldOf w 3 1) (fieldOf w 16 4) len aadLen) := by
  subst hlen haad
  unfold pageGo
  rw [if_neg (by simp [hp, hst]), hd, if_neg Bool.false_ne_true]
  rfl

theorem useSlot_pages (s u : Nat) (i : Bool) (b : Blk) : (useSlot s u i b).cph.pages = b.cph.pages := by
  unfold useSlot modSlot
  dsimp only
  (repeat' split) <;> simp

theorem goUses_keeps (b : Blk) (op s len : Nat) (fail : Option Nat) : (b.goUses op s len fail).cph.pages = b.cph.pages ∧ (b.goUses op s len fail).dram = b.dram := by
  unfold Blk.goUses
  split
  · exact ⟨useSlot_pages .., useSlot_dram ..⟩
  · exact ⟨rfl, rfl⟩

theorem goBuffers_keeps (b : Blk) (h : Nat) (opens : Bool) : (b.goBuffers h opens).cph.pages = b.cph.pages ∧ (b.goBuffers h opens).dram = b.dram ∧
    (b.goBuffers h opens).cph.slots = b.cph.slots := by
  unfold Blk.goBuffers
  split <;> exact ⟨rfl, rfl, rfl⟩

/-- A page whose operation has begun is BUSY with what GO carries, its data as it was. -/
theorem pageBegun_page (b : Blk) (n op s len aadLen : Nat) (fail : Option Nat) :
    ∃ k x y, (b.pageBegun n op s len aadLen fail).page n = goPage op s len aadLen fail k x y (b.page n) := by
  unfold Blk.pageBegun
  dsimp only
  refine ⟨_, _, _, (modPage_page ..).trans (congrArg _ ?_)⟩
  unfold Blk.page
  rw [(goBuffers_keeps _ _ _).1, (goUses_keeps ..).1]

theorem pageBegun_dram (b : Blk) (n op s len aadLen : Nat) (fail : Option Nat) : (b.pageBegun n op s len aadLen fail).dram = b.dram := by
  show ((b.goUses op s len fail).goBuffers _ _).dram = _
  rw [(goBuffers_keeps _ _ _).2.1, (goUses_keeps ..).2]

theorem pageBegun_slots (b : Blk) (n op s len aadLen st : Nat) : (b.pageBegun n op s len aadLen (some st)).cph.slots = b.cph.slots := by
  show ((b.goUses op s len (some st)).goBuffers _ _).cph.slots = _
  rw [(goBuffers_keeps _ _ _).2.2]
  rfl

theorem goFails_checked {op s len aadLen st : Nat} (h : b.opCheck n op s len aadLen = some st) : b.goFails n op s len aadLen = some st := by
  unfold Blk.goFails; rw [h]

theorem goFails_none {op s len aadLen : Nat} (h : b.opCheck n op s len aadLen = none) (h1 : 1 ≤ op) (h2 : op ≤ 2) : b.goFails n op s len aadLen = none := by
  have h3 : (op == 3 || op == 4) = false := by simp; omega
  unfold Blk.goFails
  rw [h, h3]
  exact if_pos (by simp; omega)

theorem endPageVerify_page (n : Nat) (b : Blk) : ∃ x, (endPageVerify n b).page n = { b.page n with holdsBuf := x } := by
  unfold endPageVerify
  split
  · exact ⟨false, (modPage_page n (fun p => { p with holdsBuf := false }) b :)⟩
  · exact ⟨(b.page n).holdsBuf, rfl⟩

theorem endPageVerify_keeps (n : Nat) (b : Blk) : (endPageVerify n b).dram = b.dram ∧ (endPageVerify n b).cph.slots = b.cph.slots := by
  unfold endPageVerify; split <;> exact ⟨rfl, rfl⟩

theorem pageDone_waits (h : (b.page n).waitBuf = true) : pageDone n b = b := by
  unfold pageDone
  dsimp only
  rw [h, if_pos rfl]
  exact if_pos (by simp)

theorem pageDone_idle (hw : (b.page n).waitBuf = false) (hst : (b.page n).state ≠ .busy) : pageDone n b = endPageVerify n b := by
  unfold pageDone
  dsimp only
  rw [hw, if_neg Bool.false_ne_true]
  exact if_pos (by simp [hst])

theorem pageDone_failed {st : Nat} (hw : (b.page n).waitBuf = false) (hh : (b.page n).holdsBuf = false) (hst : (b.page n).state = .busy)
    (hf : (b.page n).fail = some st) : pageDone n b = modPage n (fun p => { p with state := .done, status := st, fail := none }) b := by
  unfold pageDone endPageVerify
  dsimp only
  rw [hw, hh, hst, hf, if_neg Bool.false_ne_true, if_neg Bool.false_ne_true]
  rfl

/-- The end of an XTS encryption: the data buffer holds its output (R349). -/
theorem pageDone_encrypts (hw : (b.page n).waitBuf = false) (hst : (b.page n).state = .busy) (hf : (b.page n).fail = none) (hop : (b.page n).op = 1) :
    ∃ f, pageDone n b = modPage n f (endPageVerify n b) ∧ ∀ p, (f p).state = .done ∧ (f p).status = 0 ∧ (f p).data = bufPut p.data
      (Config.xtsBytes true (b.page n).key ((b.page n).iv0.toNat + 2 ^ 64 * (b.page n).iv1.toNat) (bufBytes (b.page n).data (b.page n).length)) := by
  unfold pageDone
  dsimp only
  rw [hw, hst, hf, hop, if_neg Bool.false_ne_true, if_neg (by decide), cphCompute, if_pos rfl]
  dsimp only
  rw [if_neg Bool.false_ne_true]
  exact ⟨_, rfl, fun _ => ⟨rfl, rfl, rfl⟩⟩

end

/-- Settles O44. -/
theorem cipherDescriptorsAndPages : Obligations.CipherDescriptorsAndPages := by
  unfold Obligations.CipherDescriptorsAndPages
  intro s phys haon
  refine ⟨fun n q t hld => ⟨fun x hx hown => ?rung, fun x hx hown => ?notOwner, fun hx => ?noQueue⟩, fun q hx => ?completeNone, fun q x hx h => ?still,
    fun q x j rest hx hm hjobs => ⟨fun hj => ?waits, fun st hj => ?ends⟩, fun h hd => ?noneDone, fun h hd hq hp => ?freed,
    fun n w hld => ⟨fun h => ?goViolation, fun hp hst hd => ?goDusk, fun hp hst hd len aadLen hlen haad => ⟨fun st hc => ?goFailed, fun hc h1 h2 => ?goStarted⟩⟩,
    fun n hw => ?doneWaits, fun n hw hst => ?doneIdle, fun n st hw hh hst hf => ?doneFailed, fun n p hp hw hst hf hop => ?encrypted, fun h q hfaults hq => ?ecc⟩
  case rung => rw [exec_cphDoorbell s haon, viaLd_taken hld, cphDoorbell_owner hx, if_pos hown]
  case notOwner => rw [exec_cphDoorbell s haon, viaLd_taken hld, cphDoorbell_owner hx, if_neg hown]
  case noQueue => rw [exec_cphDoorbell s haon, viaLd_taken hld, cphDoorbell_none hx]
  case completeNone => rw [exec_cipherDescComplete s haon, cipherDescComplete_none hx]
  case still => rw [exec_cipherDescComplete s haon, cipherDescComplete_still hx h]
  case waits => rw [exec_cipherDescComplete s haon, cipherDescComplete_waits hx hjobs hj]
  case ends => rw [exec_cipherDescComplete s haon, cipherDescComplete_ends hx hm hjobs hj]
  case noneDone => rw [exec_verifyBufferFree s haon, verifyBufferFree, if_pos hd]
  case freed => rw [exec_verifyBufferFree s haon, verifyBufferFree_idle (Nat.pos_iff_ne_zero.1 hd) hq hp]
  case goViolation => rw [exec_pageGo s haon, viaLd_taken hld, pageGo, if_pos (by rcases h with h | h <;> simp [h])]
  case goDusk => rw [exec_pageGo s haon, viaLd_taken hld, pageGo, if_neg (by simp [hp, hst]), if_pos hd]
  case goFailed =>
    refine ⟨_, by rw [exec_pageGo s haon, viaLd_taken hld, pageGo_begins hp hst hd hlen haad, goFails_checked hc], ?_⟩
    obtain ⟨k, x, y, hpage⟩ := pageBegun_page s.now n (fieldOf w 3 1) (fieldOf w 16 4) len aadLen (some st)
    rw [hpage]
    exact ⟨rfl, rfl, pageBegun_slots .., pageBegun_dram ..⟩
  case goStarted =>
    refine ⟨_, by rw [exec_pageGo s haon, viaLd_taken hld, pageGo_begins hp hst hd hlen haad, goFails_none hc h1 h2], ?_⟩
    obtain ⟨k, x, y, hpage⟩ := pageBegun_page s.now n (fieldOf w 3 1) (fieldOf w 16 4) len aadLen none
    rw [hpage]
    exact ⟨rfl, rfl, rfl, rfl, rfl, rfl, rfl, pageBegun_dram ..⟩
  case doneWaits => rw [exec_pageDone s haon, pageDone_waits hw]
  case doneIdle => rw [exec_pageDone s haon, pageDone_idle hw hst]
  case doneFailed => rw [exec_pageDone s haon, pageDone_failed hw hh hst hf]
  case encrypted =>
    subst hp
    obtain ⟨f, hdone, hpage⟩ := pageDone_encrypts hw hst hf hop
    obtain ⟨hstate, hstatus, hdata⟩ := hpage ((endPageVerify n s.now).page n)
    refine ⟨_, by rw [exec_pageDone s haon, hdone], ?_⟩
    rw [modPage_page]
    obtain ⟨x, hkept⟩ := endPageVerify_page n s.now
    exact ⟨hstate, hstatus, hdata.trans (by rw [hkept]), (endPageVerify_keeps _ _).1, (endPageVerify_keeps _ _).2⟩
  case ecc =>
    refine ⟨_, exec_slotStoreEcc s haon h q, ?_⟩
    have hpin : (if h % 2 = 0 then 44 else 48) < 128 := by split <;> decide
    have hecc : slotStoreEcc h q s.now = assertPin (if h % 2 = 0 then 44 else 48) (faultLoc (h % 2) 0x16 4 (q / 512) (q % 512) 0xFFF)
        (setErrLog .cph 6 { kind := .fault, loc := faultLoc (h % 2) 0x16 4 (q / 512) (q % 512) 0xFFF } (clearSlot q s.now)) := by
      unfold slotStoreEcc; rw [if_pos hq]
    obtain ⟨hset, hcph, herrs, hdram⟩ := assertPin_quiet hpin (faultLoc (h % 2) 0x16 4 (q / 512) (q % 512) 0xFFF)
      (b := setErrLog .cph 6 { kind := .fault, loc := faultLoc (h % 2) 0x16 4 (q / 512) (q % 512) 0xFFF } (clearSlot q s.now)) (by rw [setErrLog_cht]; exact hfaults)
    rw [hecc]
    refine ⟨?_, ?_, hset, ?_⟩
    · rw [Blk.slot, hcph, setErrLog_cph]
      exact (clearSlot_slot q q s.now).trans (if_pos rfl)
    · rw [herrs, setErrLog_errs]
      exact setErr_sets _ (by decide) _
    · rw [hdram, setErrLog_dram]; rfl

end Sys2Proof.Machine
end

section
/-!
PROOF. Answers and sending of the Orbit transport, its timers and the replay cache (O41; R309 to R319).
-/
namespace Sys2Proof.Machine
open Sys2Proof

/-! ### Queues and messages -/

section
variable {b : Blk} {q : Nat} {x : OrbQueue}

theorem modOq_oq (h : b.oq q = some x) (f : OrbQueue → OrbQueue) : (modOq q f b).oq q = some (f x) := by
  unfold modOq; rw [h]; exact SMap.find?_insert_same ..

theorem modOq_oq_other (f : OrbQueue → OrbQueue) (b : Blk) {r : Nat} (hr : r ≠ q) : (modOq q f b).oq r = b.oq r := by
  unfold modOq
  cases b.oq q with
  | none => rfl
  | some y => exact SMap.find?_insert_other _ _ hr

theorem omsg_oq (h : b.oq q = some x) (i : Nat) : b.omsg q i = x.msgs.find? (fun m => m.msgId = i && m.op != 6 && m.status.isNone) := by
  unfold Blk.omsg; rw [h]; rfl

theorem oq_of_omsg {i : Nat} {m : OrbMsg} (h : b.omsg q i = some m) : ∃ x, b.oq q = some x := by
  unfold Blk.omsg at h
  cases hq : b.oq q with
  | none => rw [hq] at h; cases h
  | some x => exact ⟨x, rfl⟩

/-- A change of a queue that leaves its messages leaves each message. -/
theorem modOq_omsg {f : OrbQueue → OrbQueue} (hf : ∀ x, (f x).msgs = x.msgs) (b : Blk) (i : Nat) : (modOq q f b).omsg q i = b.omsg q i := by
  cases hq : b.oq q with
  | none => unfold modOq; rw [hq]
  | some x => rw [omsg_oq (modOq_oq hq f), omsg_oq hq, hf]

/-- A change of a running message that leaves its name and status shows in that message. -/
theorem modMsg_omsg {i : Nat} {m : OrbMsg} {f : OrbMsg → OrbMsg} (h : b.omsg q i = some m)
    (hf : ∀ y, (f y).msgId = y.msgId ∧ (f y).op = y.op ∧ (f y).status = y.status) : (modMsg q i f b).omsg q i = some (f m) := by
  obtain ⟨x, hx⟩ := oq_of_omsg h
  rw [omsg_oq hx] at h
  have hm := List.find?_some h
  have hsame : ((fun m : OrbMsg => m.msgId = i && m.op != 6 && m.status.isNone) ∘ (fun m => if m.msgId = i ∧ m.op ≠ 6 then f m else m)) =
      fun m : OrbMsg => m.msgId = i && m.op != 6 && m.status.isNone := by
    funext y
    obtain ⟨hid, hop, hst⟩ := hf y
    by_cases hy : y.msgId = i ∧ y.op ≠ 6
    · simp [hy, hid, hop, hst]
    · simp [hy]
  unfold modMsg
  rw [omsg_oq (modOq_oq hx _), List.find?_map, hsame, h]
  have hnamed : m.msgId = i ∧ m.op ≠ 6 := by
    simp at hm; exact ⟨hm.1.1, hm.1.2⟩
  exact congrArg some (if_pos hnamed)

theorem modMsg_oq_other (i : Nat) (f : OrbMsg → OrbMsg) (b : Blk) {r : Nat} (hr : r ≠ q) : (modMsg q i f b).oq r = b.oq r := modOq_oq_other _ b hr

theorem onAck_msgs (x : OrbQueue) (r : Rat) (target maxIn now : Nat) : (x.onAck r target maxIn now).msgs = x.msgs := by
  have hsample : (x.sampleRtt r).msgs = x.msgs := by unfold OrbQueue.sampleRtt; cases x.srtt <;> rfl
  unfold OrbQueue.onAck
  dsimp only
  (repeat' split) <;> exact hsample

end

/-! ### Packets that are received -/

section
variable {b : Blk} {w : Wire} {p : OrbPkt} {a : SaCfg} {phys : Phys}

/-- A packet that passes the checks of R312 goes on to its kind. -/
theorem receive_taken (h : b.receives w p a = true) : receive phys w p b =
    if p.kind = 3 then p.acks.foldl (fun b a => ackEntry phys a b) (useSlot a.keySlot 1 false b)
    else if p.kind = 2 then readData phys p (useSlot a.keySlot 1 false b) else request phys p w.port (useSlot a.keySlot 1 false b) := by
  unfold Blk.receives at h
  simp only [Bool.and_eq_true, decide_eq_true_eq, Bool.not_eq_true'] at h
  obtain ⟨⟨⟨⟨⟨⟨hopen, hup⟩, hframe⟩, hsa⟩, hkey⟩, htag⟩, hage⟩ := h
  unfold receive
  rw [hopen, hup, hframe, hsa]
  dsimp only
  rw [hkey, htag, hage]
  rfl

theorem receive_shut (h : b.orb.isOpen = false ∨ (SMap.get EthPort.down b.orb.ports w.port).up = false) : receive phys w p b = b := by
  unfold receive
  rcases h with h | h <;> rw [h]
  · exact if_pos rfl
  · exact if_pos (by simp)

theorem orbAck_taken (h : b.receives w p a = true) (hk : p.kind = 3) : orbAck phys w p b = p.acks.foldl (fun b a => ackEntry phys a b) (useSlot a.keySlot 1 false b) := by
  have hp : { p with kind := 3 } = p := by rw [← hk]
  unfold orbAck
  rw [hp, receive_taken h, if_pos hk]

theorem orbReadData_taken (h : b.receives w p a = true) (hk : p.kind = 2) : orbReadData phys w p b = readData phys p (useSlot a.keySlot 1 false b) := by
  have hp : { p with kind := 2 } = p := by rw [← hk]
  unfold orbReadData
  rw [hp, receive_taken h, hk]
  rfl

end

/-! ### Acknowledgements -/

section
variable {b : Blk} {x : OrbAck} {m : OrbMsg} {g : OrbSeg} {phys : Phys}

theorem ackEntry_noMessage (h : b.omsg x.queue x.msgId = none) : ackEntry phys x b = setErr .orb 5 b := by unfold ackEntry; rw [h]

theorem ackEntry_noSegment (h : b.omsg x.queue x.msgId = some m) (hg : SMap.find? m.segs x.offset = none) : ackEntry phys x b = setErr .orb 5 b := by
  unfold ackEntry; rw [h]; dsimp only; rw [hg]

/-- The state in which an acknowledged queue has taken its sample. -/
theorem ackEntry_code0 (h : b.omsg x.queue x.msgId = some m) (hg : SMap.find? m.segs x.offset = some g) (hn : g.notify = false) (hc : x.code = 0) :
    ∃ r f, (∀ y : OrbQueue, (f y).msgs = y.msgs) ∧ ackEntry phys x b = afterData x.queue x.msgId
      (modMsg x.queue x.msgId (fun y => { y with segs := SMap.erase y.segs x.offset, done := y.done + g.len })
        (feedMetric 10 (x.queue % 2) r (modOq x.queue f b))) := by
  unfold ackEntry
  rw [h]
  dsimp only
  rw [hg]
  dsimp only
  rw [hc, if_pos rfl, hn, if_neg Bool.false_ne_true]
  exact ⟨_, _, fun y => onAck_msgs .., rfl⟩

theorem afterData_going {q i : Nat} (h : b.omsg q i = some m) (hs : m.segs ≠ []) : afterData q i b = b := by
  unfold afterData
  rw [h]
  dsimp only
  have hsegs : m.segs.isEmpty = false := by cases hm : m.segs with
    | nil => exact absurd hm hs
    | cons _ _ => rfl
  rw [hsegs]
  rfl

/-- Code 0 for a data segment that is not the last takes it out of its message (R309, R312). -/
theorem ackEntry_partial (h : b.omsg x.queue x.msgId = some m) (hg : SMap.find? m.segs x.offset = some g) (hn : g.notify = false) (hc : x.code = 0)
    (hrest : SMap.erase m.segs x.offset ≠ []) :
    (ackEntry phys x b).omsg x.queue x.msgId = some { m with segs := SMap.erase m.segs x.offset, done := m.done + g.len } ∧
    (ackEntry phys x b).errs = b.errs ∧ (ackEntry phys x b).dram = b.dram ∧ ∀ q, q ≠ x.queue → (ackEntry phys x b).oq q = b.oq q := by
  obtain ⟨r, f, hf, hack⟩ := ackEntry_code0 (phys := phys) h hg hn hc
  have horb : ∀ c : Blk, (feedMetric 10 (x.queue % 2) r c).orb = c.orb := fun c => by simp
  have hoq : ∀ (c : Blk) k, (feedMetric 10 (x.queue % 2) r c).oq k = c.oq k := fun c k => by unfold Blk.oq; rw [horb]
  have hmsg : (feedMetric 10 (x.queue % 2) r (modOq x.queue f b)).omsg x.queue x.msgId = some m := by
    rw [← h, ← modOq_omsg hf b x.msgId, Blk.omsg, hoq]; rfl
  have htaken := modMsg_omsg hmsg (f := fun y => { y with segs := SMap.erase y.segs x.offset, done := y.done + g.len }) (fun y => ⟨rfl, rfl, rfl⟩)
  rw [hack, afterData_going htaken hrest]
  refine ⟨htaken, by simp, by simp, fun q hq => ?_⟩
  rw [modMsg_oq_other _ _ _ hq, hoq, modOq_oq_other _ _ hq]

end

/-! ### READ_DATA -/

section
variable {b : Blk} {p : OrbPkt} {q : OrbQueue} {m : OrbMsg} {g : OrbSeg} {phys : Phys}

theorem readData_stray (h : b.oq p.srcQ = none) : readData phys p b = setErr .orb 5 b := by unfold readData; rw [h]

theorem filter_none {α : Type} (l : List α) : l.filter (fun _ => false) = [] := List.filter_eq_nil_iff.2 fun _ _ => Bool.false_ne_true

theorem filter_all {α : Type} (l : List α) : l.filter (fun _ => true) = l := List.filter_eq_self.2 fun _ _ => rfl

/-- READ_DATA without poison writes its payload at the local address (R314). -/
theorem readData_lands (hq : b.oq p.srcQ = some q) (hm : b.omsg p.srcQ p.msgId = some m) (hg : SMap.find? m.segs p.offset = some g) (hb : g.busy = false)
    (hop : m.op = 3) (hlen : p.payload.length = g.len) (hp : p.op1 = 0) :
    readData phys p b = startJob phys q.owner (.land p.srcQ p.msgId p.offset) (writeAccesses (m.localDpa + p.offset) p.payload)
      (modMsg p.srcQ p.msgId (fun x => { x with segs := SMap.insert x.segs p.offset { g with busy := true } }) b) := by
  have hbad : ∀ n : Nat, (p.op1.testBit n && decide (128 * n < g.len)) = false := fun n => by rw [hp, Nat.zero_testBit, Bool.false_and]
  unfold readData
  rw [hq, hm]
  dsimp only
  rw [hg]
  dsimp only
  rw [hb, hop, if_neg Bool.false_ne_true, if_neg (by decide), if_neg (by simp [hlen])]
  simp only [hbad, filter_none, List.flatMap_nil, List.eraseDups_nil, List.contains_nil, Bool.not_false, filter_all, List.append_nil, List.isEmpty_nil,
    Bool.not_true, Bool.or_false]

end

/-! ### Sending -/

section
variable {b : Blk} {qn : Nat} {q : OrbQueue} {m : OrbMsg} {phys : Phys}

theorem sendUnit_noQueue (h : b.oq qn = none) : sendUnit phys qn b = b := by unfold sendUnit; rw [h]

/-- A queue sends nothing that its port, its gate or its message's lifetime does not allow (R309, R310). -/
theorem sendUnit_still (hq : b.oq qn = some q) (hm : q.msgs.find? (fun m => m.unsent) = some m)
    (h : b.queueMoves qn q = false ∨ b.portsUp = [] ∨ m.msgCount + b.orbLt ≤ b.mer.count) : sendUnit phys qn b = b := by
  unfold sendUnit
  rw [hq]
  dsimp only
  rw [hm]
  dsimp only
  split
  · rfl
  next hmove =>
    rcases h with h | h | h
    · exact absurd (by rw [h]; rfl) hmove
    · exact absurd (by rw [h]; simp) hmove
    · exact if_pos h

/-- The next unit of a WRITE or atomic is one segment (R309). -/
theorem sendUnit_segment (hq : b.oq qn = some q) (hm : q.msgs.find? (fun m => m.unsent) = some m) (hmove : b.queueMoves qn q = true) (hup : b.portsUp ≠ [])
    (hlife : b.mer.count < m.msgCount + b.orbLt) (hwnd : (q.inFlight : Rat) < q.cwnd) (hroom : b.segsOf (qn % 2) < 32768) (hop : m.op ≠ 3) {o : Nat} {g : OrbSeg}
    (hunit : m.unit (b.cht.cur.orbit.maxInflight - q.inFlight) = [(o, g)]) :
    sendUnit phys qn b = sendSeg phys qn q m o (b.timed q g)
      (modMsg qn m.msgId (fun y => { y with next := Nat.min (m.next + 4096) y.len, segs := SMap.insert y.segs o (b.timed q g) }) b) := by
  have hports : b.portsUp.isEmpty = false := by cases hp : b.portsUp with
    | nil => exact absurd hp hup
    | cons _ _ => rfl
  have hfits : ¬ 32768 < b.segsOf (qn % 2) + 1 := by omega
  unfold sendUnit
  rw [hq]
  dsimp only
  rw [hm]
  dsimp only
  rw [hunit, List.map_cons, List.map_nil, List.length_singleton, hmove, hports, decide_eq_true hwnd, decide_eq_false hfits, if_neg (by simp), if_neg (by omega)]
  dsimp only
  rw [if_neg hop, if_pos (by rfl)]
  rfl

end

/-! ### The replay cache -/

theorem replayExpire_mem (e r q i : Nat) (b : Blk) (x : Replay) : x ∈ (replayExpire e r q i b).replay e ↔
    x ∈ b.replay e ∧ ¬ (x.src = r ∧ x.queue = q ∧ x.msgId = i ∧ x.msgCount + b.orbLt + b.mer.drift < b.mer.count) := by
  unfold replayExpire Blk.replay modOrb
  dsimp only
  by_cases he : e = 0
  · simp only [he, if_true, List.mem_filter, Bool.not_eq_true', Bool.eq_false_iff, ne_eq, Bool.and_eq_true, decide_eq_true_eq, and_assoc]
  · simp only [he, if_false, List.mem_filter, Bool.not_eq_true', Bool.eq_false_iff, ne_eq, Bool.and_eq_true, decide_eq_true_eq, and_assoc]

theorem replayExpire_eq (e r q i : Nat) (b : Blk) : ∃ n s, replayExpire e r q i b = modOrb (fun o => { o with replayN := n, replayS := s }) b := by
  unfold replayExpire modOrb
  dsimp only
  split <;> exact ⟨_, _, rfl⟩

theorem roomForCtx_miss {q : Nat} {b c : Blk} (h : roomForCtx q b = some c) : c.orb.miss = b.orb.miss := by
  unfold roomForCtx at h
  dsimp only at h
  split at h
  · cases h; rfl
  · split at h
    · cases h
    · cases h; rfl

theorem loadCtx_miss (q : Nat) (b : Blk) : (loadCtx q b).orb.miss = b.orb.miss := by
  unfold loadCtx
  split
  · rfl
  · split
    · next c hc => exact (roomForCtx_miss hc :)
    · rfl

/-- A context that comes on chip with no packet waiting for one (R319). -/
theorem contextFetchDone_quiet {phys : Phys} {i : Nat} {b : Blk} (hi : i < b.cht.cur.orbit.backedQueues) (hmiss : b.orb.miss = []) :
    contextFetchDone phys true i b = modOrb (fun o => { o with miss := [] }) (loadCtx i b) := by
  unfold contextFetchDone
  dsimp only
  rw [if_pos rfl, if_pos hi, loadCtx_miss, hmiss]
  rfl

/-- Settles O41. -/
theorem orbitAnswersAndSending : Obligations.OrbitAnswersAndSending := by
  unfold Obligations.OrbitAnswersAndSending
  intro s phys haon
  refine ⟨fun w p h => ?shut, fun w p a b hr hb => ⟨fun x hk hx hm => ?noMessage, fun x m hk hx hm hg => ?noSegment, fun x m g hk hx hm hg hn hc hrest =>  ?partialAck,
      fun hk hq => ?stray, fun q m g hk hq hm hg hbusy hop hlen hp => ?lands⟩,
    fun n q t hld => ⟨fun x hx hown => ?rung, fun x hx hown => ?notOwner, fun hx => ?noQueue⟩, fun q hq => ?gone, fun q x m hq hm => ⟨fun h => ?still,
      fun hmove hup hlife hwnd hroom hop o g hunit => ?sends⟩, fun q i o hm => ?noTimer, fun q i o m hm => ⟨fun hs => ?resends, fun h => ?timesOut, fun h => ?early⟩,
    fun q x m hq hw => ⟨fun h => ?endless, fun y h hy => ?waitEnds, fun hf hw16 => ?retried⟩, fun i hi hmiss => ?fetched, fun e r q i => ?expires, fun e m i => ?ecc,
    fun e h => ?noWindow, fun e c h => ⟨fun hc => ?ends, fun hc => ?stillOpen⟩⟩
  case shut =>
    refine ⟨?_, ?_⟩
    · rw [exec_orbAck s haon, orbAck, receive_shut h]
    · rw [exec_readData s haon, orbReadData, receive_shut h]
  case noMessage =>
    subst hb
    rw [exec_orbAck s haon, orbAck_taken hr hk, hx, List.foldl_cons, List.foldl_nil, ackEntry_noMessage hm]
  case noSegment =>
    subst hb
    rw [exec_orbAck s haon, orbAck_taken hr hk, hx, List.foldl_cons, List.foldl_nil, ackEntry_noSegment hm hg]
  case partialAck =>
    subst hb
    exact ⟨_, by rw [exec_orbAck s haon, orbAck_taken hr hk, hx, List.foldl_cons, List.foldl_nil], ackEntry_partial hm hg hn hc hrest⟩
  case stray =>
    subst hb
    rw [exec_readData s haon, orbReadData_taken hr hk, readData_stray hq]
  case lands =>
    subst hb
    rw [exec_readData s haon, orbReadData_taken hr hk, readData_lands hq hm hg hbusy hop hlen hp]
  case rung => rw [exec_orbDoorbell s haon, viaLd_taken hld, doorbell, hx]; exact congrArg _ (congrArg _ (if_pos hown))
  case notOwner => rw [exec_orbDoorbell s haon, viaLd_taken hld, doorbell, hx]; exact congrArg _ (congrArg _ (if_neg hown))
  case noQueue => rw [exec_orbDoorbell s haon, viaLd_taken hld, doorbell, hx]
  case gone =>
    refine ⟨?_, ?_, ?_⟩
    · rw [exec_segmentSend s haon, segmentSend, sendUnit_noQueue hq]
    · rw [exec_waitTimeout s haon, waitTimeout, hq]; rfl
    · rw [exec_waitTableRetry s haon, waitTableRetry, hq]; rfl
  case still => rw [exec_segmentSend s haon, segmentSend, sendUnit_still hq hm h]
  case sends => rw [exec_segmentSend s haon, segmentSend, sendUnit_segment hq hm hmove hup hlife hwnd hroom hop hunit]
  case noTimer =>
    refine ⟨?_, ?_⟩
    · rw [exec_retransmitTimer s haon, retransmitTimer, hm]
    · rw [exec_messageHorizon s haon, messageHorizon, hm]
  case resends => rw [exec_retransmitTimer s haon, retransmitTimer, hm]; exact congrArg _ (congrArg _ (if_pos hs))
  case timesOut => rw [exec_messageHorizon s haon, messageHorizon, hm]; exact congrArg _ (congrArg _ (if_pos h))
  case early => rw [exec_messageHorizon s haon, messageHorizon, hm]; exact congrArg _ (congrArg _ (if_neg (Nat.not_le.2 h)))
  case endless => rw [exec_waitTimeout s haon, waitTimeout, hq, Option.bind_some, hw]; exact congrArg _ (congrArg _ (if_pos h))
  case waitEnds => rw [exec_waitTimeout s haon, waitTimeout, hq, Option.bind_some, hw]; exact congrArg _ (congrArg _ ((if_neg h).trans (by rw [hy]; rfl)))
  case retried => rw [exec_waitTableRetry s haon, waitTableRetry, hq, Option.bind_some, hw]; exact congrArg _ (congrArg _ (if_pos (by simp [hf, hw16])))
  case fetched => rw [exec_contextFetchDone s haon, contextFetchDone_quiet hi hmiss]
  case expires =>
    obtain ⟨n, k, heq⟩ := replayExpire_eq e r q i s.now
    refine ⟨_, exec_replayEntryExpire s haon e r q i, by rw [heq]; rfl, by rw [heq]; rfl, by rw [heq]; rfl, fun x => replayExpire_mem ..⟩
  case ecc =>
    have hkept := assertPin_reactionKept (58 + e % 2) (faultLoc (e % 2) 0x1D 3 m i 0xFFF) (setErr .orb 10 s.now)
    obtain ⟨-, hcount, -, herrs⟩ := hkept
    refine ⟨_, exec_replayCacheEcc s haon (.replay e) m i, ?_, herrs _ _ (setErr_sets .orb (by decide) _)⟩
    refine (SMap.find?_insert_same ..).trans (congrArg some (hcount.trans ?_))
    rw [setErr_mer]
  case noWindow => rw [exec_replayWindowEnd s haon, replayWindowEnd, h]
  case ends => rw [exec_replayWindowEnd s haon, replayWindowEnd, h]; exact congrArg _ (congrArg _ (if_pos hc))
  case stillOpen => rw [exec_replayWindowEnd s haon, replayWindowEnd, h]; exact congrArg _ (congrArg _ (if_neg (Nat.not_lt.2 hc)))

end Sys2Proof.Machine
end

section
/-!
PROOF. Orbit requests that arrive (O40; R295, R296, R301, R312 to R316).
-/
namespace Sys2Proof.Machine
open Sys2Proof

section
variable {b : Blk} {phys : Phys} {p : OrbPkt} {port : Nat} {q : OrbQueue}

/-- What R312 asks of a REQUEST before its key is looked at. -/
structure Requested (b : Blk) (p : OrbPkt) (q : OrbQueue) : Prop where
  version : p.version = 1
  flags : p.flagBits = 0
  context : b.missingCtx p = false
  key : b.missingKey p = false
  backed : p.dstQ < b.cht.cur.orbit.backedQueues
  queue : b.oq p.dstQ = some q
  length : p.badLength = false
  window : SMap.has b.orb.window (p.dstQ % 2) = false

/-- A data request whose key fails is answered by the code (R301). -/
theorem request_refused (h : Requested b p q) (h1 : 1 ≤ p.op) (h3 : p.op ≤ 3) (hn : p.notify = false) {c : Nat} (hk : b.keyCheck p q.group = .inr c) (hc : c ≠ 3) :
    request phys p port b = answerAck (p.dstQ % 2) p c 0 b := by
  have hatom : decide (4 ≤ p.op) = false := by simp; omega
  unfold request
  dsimp only
  rw [if_neg (by simp [h.version, h.flags, hn]; omega), h.context, if_neg Bool.false_ne_true, if_pos h.backed, h.queue]
  dsimp only
  rw [h.length, h.window, h.key, hn, hatom, hk]
  dsimp only
  rw [decide_eq_false hc]
  rfl

/-- A data request or atomic whose key passes goes to the half that homes its target (R301, R320). -/
theorem request_passes (h : Requested b p q) (h1 : 1 ≤ p.op) (h5 : p.op ≤ 5) (hn : p.notify = false) (hopen : p.op ≤ 3 ∨ b.orb.openCount ≤ p.msgCount)
    {k : KeyEntry} (hk : b.keyCheck p q.group = .inl k) : request phys p port b = applyRole phys p port k.owner (k.base + p.remote + p.offset) b := by
  have hold : (!p.notify && decide (4 ≤ p.op) && decide (p.msgCount < b.orb.openCount)) = false := by
    rcases hopen with hop | hop
    · simp; omega
    · simp; omega
  unfold request
  dsimp only
  rw [if_neg (by simp [h.version, h.flags, hn, h1, h5]), h.context, if_neg Bool.false_ne_true, if_pos h.backed, h.queue]
  dsimp only
  rw [h.length, h.window, h.key, hold, hn, Bool.and_false, hk]
  rfl

theorem request_notify (h : Requested b p q) (hop : p.op = 2) (hn : p.notify = true) : request phys p port b = notifyPkt phys p q b := by
  unfold request
  dsimp only
  rw [if_neg (by simp [h.version, h.flags, hop]), h.context, if_neg Bool.false_ne_true, if_pos h.backed, h.queue]
  dsimp only
  rw [h.length, h.window, h.key, hn, Bool.and_false]
  rfl

/-! ### The target's role -/

/-- At a unit alone whose gate is open a request is performed (R320). -/
theorem applyRole_alone (hp : b.paired = false) (hb : b.binary = false) (hg : (b.half 0).gateOpen = true) (owner target : Nat) :
    applyRole phys p port owner target b = perform phys p port owner target b := by
  have hhomes : b.homesOf target p.span = [0] := by unfold Blk.homesOf; rw [hb]; rfl
  unfold applyRole
  dsimp only
  rw [hhomes]
  dsimp only [List.headD_cons]
  unfold applyRole.go
  dsimp only
  rw [hp, hg, Bool.or_true, Bool.false_and]
  rfl

theorem perform_write (h : p.op = 1) (owner target : Nat) :
    perform phys p port owner target b = startJob phys owner (.place p port (p.key / 2 ^ 40)) (writeAccesses target p.payload) b := by
  unfold perform; exact if_pos (.inl h)

theorem perform_read (h : p.op = 3) (owner target : Nat) :
    perform phys p port owner target b = startJob phys owner (.read p (p.key / 2 ^ 40) target) (readAccesses target p.span) b := by
  unfold perform; dsimp only; rw [if_neg (by omega), if_pos h]

theorem perform_again (h : 4 ≤ p.op) (owner target : Nat) {r : Replay} (hr : b.replayFind (p.dstQ % 2) p = some r) :
    perform phys p port owner target b = answerData (p.dstQ % 2) p 0 0 r.result [] b := by
  unfold perform; dsimp only; rw [if_neg (by omega), if_neg (by omega), hr]

theorem perform_atomic (h : 4 ≤ p.op) (owner : Nat) {target : Nat} (hr : b.replayFind (p.dstQ % 2) p = none) (hroom : b.replayUsed (p.dstQ % 2) < 32768)
    (hbusy : b.atomicBusy p = false) (ht : target % 64 ≤ 56) : perform phys p port owner target b = startJob phys owner (.atomic p (p.key / 2 ^ 40) target)
      [{ dpa := target / 64 * 64, write := some (0, false), part := if p.op = 4 then .add (target % 64) p.op1 else .cas (target % 64) p.op1 p.op2 }] b := by
  unfold perform
  dsimp only
  rw [if_neg (by omega), if_neg (by omega), hr]
  dsimp only
  rw [if_neg (by omega), hbusy, if_neg Bool.false_ne_true, if_neg (by omega)]

/-! ### Notify packets -/

theorem notifyPkt_again {k : KeyEntry} (hk : b.keyCheck p q.group = .inl k) {r : Replay} (hr : b.replayFind (p.dstQ % 2) p = some r) :
    notifyPkt phys p q b = answerAck (p.dstQ % 2) p 0 0 b := by
  unfold notifyPkt; dsimp only; rw [hk]; dsimp only; rw [hr]

/-- A notify packet that is new adds one to the counter (R316). -/
theorem notifyPkt_counts {k : KeyEntry} (hk : b.keyCheck p q.group = .inl k) (hr : b.replayFind (p.dstQ % 2) p = none)
    (hroom : b.replayUsed (p.dstQ % 2) < 32768) (hopen : b.orb.openCount ≤ p.msgCount) {q' : OrbQueue} (hq : q' = { q with counter := wrap64 (q.counter + 1) }) :
    notifyPkt phys p q b = answerAck (p.dstQ % 2) p 0 0
      (addReplay (p.dstQ % 2) ⟨p.src, p.srcQ, p.msgId, p.msgCount, 0⟩ (noteCounter phys p.dstQ q' (modOq p.dstQ (fun _ => q') b))) := by
  unfold notifyPkt
  dsimp only
  rw [hk]
  dsimp only
  rw [hr]
  dsimp only
  rw [if_neg (Nat.not_le.2 hroom), if_neg (Nat.not_lt.2 hopen), hq]

/-! ### The five commands -/

theorem receive_request {w : Wire} {a : SaCfg} (h : b.receives w p a = true) (hk : p.kind = 1) :
    receive phys w p b = request phys p w.port (useSlot a.keySlot 1 false b) := by
  rw [receive_taken h, hk]; rfl

theorem asOp_same {ops : List Nat} (hk : p.kind = 1) (hop : ops.contains p.op = true) : p.asOp ops = p := by
  unfold OrbPkt.asOp; rw [hop, ← hk]; rfl

theorem orbWrite_same (w : Wire) (hk : p.kind = 1) (hop : p.op = 1) (hn : p.notify = false) : orbWrite phys w p b = receive phys w p b := by
  unfold orbWrite; rw [asOp_same hk (by simp [hop]), ← hn]

theorem orbRead_same (w : Wire) (hk : p.kind = 1) (hop : p.op = 3) (hn : p.notify = false) (hp : p.payload = []) : orbRead phys w p b = receive phys w p b := by
  unfold orbRead; rw [asOp_same hk (by simp [hop]), ← hn, ← hp]

theorem orbAdd_same (w : Wire) (hk : p.kind = 1) (hop : p.op = 4) (hn : p.notify = false) (hp : p.payload = []) : orbAdd phys w p b = receive phys w p b := by
  unfold orbAdd; rw [asOp_same hk (by simp [hop]), ← hn, ← hp]

theorem orbCas_same (w : Wire) (hk : p.kind = 1) (hop : p.op = 5) (hn : p.notify = false) (hp : p.payload = []) : orbCas phys w p b = receive phys w p b := by
  unfold orbCas; rw [asOp_same hk (by simp [hop]), ← hn, ← hp]

theorem orbNotify_same (w : Wire) (hk : p.kind = 1) (hop : p.op = 2) (hn : p.notify = true) (hp : p.payload = []) : orbNotify phys w p b = receive phys w p b := by
  unfold orbNotify; rw [asOp_same hk (by simp [hop]), ← hn, ← hp]

theorem receive_badFrame {w : Wire} (hopen : b.orb.isOpen = true) (hup : (SMap.get EthPort.down b.orb.ports w.port).up = true) (hf : b.badFrame w p = true) :
    receive phys w p b = setErr .orb 2 b := by
  unfold receive; rw [hopen, hup, hf]; rfl

theorem receive_unknownSa {w : Wire} (hopen : b.orb.isOpen = true) (hup : (SMap.get EthPort.down b.orb.ports w.port).up = true) (hf : b.badFrame w p = false)
    (hsa : b.sa? p.sa = none) : receive phys w p b = authDrop b := by
  unfold receive; rw [hopen, hup, hf, hsa]; rfl

end

/-- Settles O40. -/
theorem orbitRequestsThatArrive : Obligations.OrbitRequestsThatArrive := by
  unfold Obligations.OrbitRequestsThatArrive
  intro s phys w p haon
  refine ⟨fun h => ?shut, fun hopen hup => ⟨fun hf => ?badFrame, fun hf hsa => ?unknown⟩, fun a q b hr hb hkind hver hfl hctx hkey hbk hq hlen hwin => ?requests⟩
  case shut =>
    refine ⟨?_, ?_, ?_, ?_, ?_⟩
    · rw [exec_orbWrite s haon, orbWrite, receive_shut h]
    · rw [exec_orbRead s haon, orbRead, receive_shut h]
    · rw [exec_atomicAdd s haon, orbAdd, receive_shut h]
    · rw [exec_atomicCas s haon, orbCas, receive_shut h]
    · rw [exec_writeNotify s haon, orbNotify, receive_shut h]
  case badFrame => rw [exec_orbRead s haon, orbRead, receive_badFrame hopen hup (by exact hf)]
  case unknown => rw [exec_orbRead s haon, orbRead, receive_unknownSa hopen hup (by exact hf) (by exact hsa)]
  case requests =>
    have hreq : Requested b p q := ⟨hver, hfl, hctx, hkey, hbk, hq, hlen, hwin⟩
    have hrun : receive phys w p s.now = request phys p w.port b := by rw [receive_request hr hkind, hb]
    refine ⟨fun c hc h3 hop hn hp => ?readRefused, fun c hc h3 hop hn => ?writeRefused, fun k t i hk ht hi hpair hbin hgate => ⟨fun hop hn => ?writes, fun hop hn hp => ?reads,
      fun hn hp hopen => ⟨fun r hrep => ⟨fun hop => ?addAgain, fun hop => ?casAgain⟩, fun hrep hroom hbusy ho => ⟨fun hop => ?adds, fun hop => ?compares⟩⟩⟩,
      fun k hk hop hn hp => ⟨fun r hrep => ?notedAgain, fun hrep hroom hopen q' hq' => ?noted⟩⟩
    case readRefused => rw [exec_orbRead s haon, orbRead_same w hkind hop hn hp, hrun, request_refused hreq (by omega) (by omega) hn hc h3]
    case writeRefused => rw [exec_orbWrite s haon, orbWrite_same w hkind hop hn, hrun, request_refused hreq (by omega) (by omega) hn hc h3]
    case writes =>
      rw [exec_orbWrite s haon, orbWrite_same w hkind hop hn, hrun, request_passes hreq (by omega) (by omega) hn (.inl (by omega)) hk, applyRole_alone hpair hbin hgate,
        perform_write hop, ht, hi]
    case reads =>
      rw [exec_orbRead s haon, orbRead_same w hkind hop hn hp, hrun, request_passes hreq (by omega) (by omega) hn (.inl (by omega)) hk, applyRole_alone hpair hbin hgate,
        perform_read hop, ht, hi]
    case addAgain =>
      rw [exec_atomicAdd s haon, orbAdd_same w hkind hop hn hp, hrun, request_passes hreq (by omega) (by omega) hn (.inr hopen) hk, applyRole_alone hpair hbin hgate,
        perform_again (by omega) _ _ hrep]
    case casAgain =>
      rw [exec_atomicCas s haon, orbCas_same w hkind hop hn hp, hrun, request_passes hreq (by omega) (by omega) hn (.inr hopen) hk, applyRole_alone hpair hbin hgate,
        perform_again (by omega) _ _ hrep]
    case adds =>
      rw [exec_atomicAdd s haon, orbAdd_same w hkind hop hn hp, hrun, request_passes hreq (by omega) (by omega) hn (.inr hopen) hk, applyRole_alone hpair hbin hgate,
        ← ht, perform_atomic (by omega) _ hrep hroom hbusy ho, if_pos hop, hi]
    case compares =>
      rw [exec_atomicCas s haon, orbCas_same w hkind hop hn hp, hrun, request_passes hreq (by omega) (by omega) hn (.inr hopen) hk, applyRole_alone hpair hbin hgate,
        ← ht, perform_atomic (by omega) _ hrep hroom hbusy ho, if_neg (by omega), hi]
    case notedAgain => rw [exec_writeNotify s haon, orbNotify_same w hkind hop hn hp, hrun, request_notify hreq hop hn, notifyPkt_again hk hrep]
    case noted => rw [exec_writeNotify s haon, orbNotify_same w hkind hop hn hp, hrun, request_notify hreq hop hn, notifyPkt_counts hk hrep hroom hopen hq']

end Sys2Proof.Machine
end

section
/-!
PROOF. Writes to the management register space (O10; R6, R479).
-/
namespace Sys2Proof.Machine
open Sys2Proof

/-- The ERR registers of the 21 blocks that O10 names, with their addresses (chapter 19). -/
def errRegisters : List (Nat × ErrReg) :=
  [(0x10050, ErrReg.mer), (0x20010, .hp 0), (0x24010, .hp 1), (0x28010, .hp 2), (0x2C010, .hp 3), (0x30008, .hal), (0x40028, .drm 0), (0x4F028, .drm 15),
    (0x50070, .per), (0x60050, .nvf), (0x70018, .trn), (0x80068, .twn), (0x90020, .orb), (0xA0048, .cph), (0xB0110, .lcs), (0xC0028, .psq), (0xD0020, .thm),
    (0xF0030, .log), (0xF8028, .alm), (0x100008, .efl), (0x110028, .mgt)]

section
variable {e : RegEnv} {w : W64} {b : Blk}

theorem applyWrite_errRegister : ∀ x ∈ errRegisters, applyWrite e x.1 w b = clearErr x.2 w b := by
  simp only [errRegisters, List.forall_mem_cons]
  exact ⟨rfl, rfl, rfl, rfl, rfl, rfl, rfl, rfl, rfl, rfl, rfl, rfl, rfl, rfl, rfl, rfl, rfl, rfl, rfl, rfl, rfl, fun _ h => absurd h List.not_mem_nil⟩

/-- Outside a system reset none of the ERR registers is in reset: a port's own reset holds only its control register (R479). -/
theorem errRegister_notInReset (h : b.pwr.sysRst = false) : ∀ x ∈ errRegisters, b.regInReset x.1 = false := by
  have hport : (b.pwr.sysRst || false) = false := by rw [h]; rfl
  simp only [errRegisters, List.forall_mem_cons]
  exact ⟨rfl, hport, hport, hport, hport, h, h, h, h, h, h, h, h, h, h, rfl, h, rfl, rfl, rfl, rfl, fun _ h => absurd h List.not_mem_nil⟩

theorem errRegister_aligned : ∀ x ∈ errRegisters, x.1 % 8 = 0 := by decide

/-- The read-only offsets that O10 names. -/
def readOnlyRegisters : List Nat := [0x10000, 0x50000, 0xC0000, 0xD0000, 0x120000, 0xF0048]

theorem applyWrite_readOnly : ∀ a ∈ readOnlyRegisters, applyWrite e a w b = b := by
  simp only [readOnlyRegisters, List.forall_mem_cons]
  exact ⟨rfl, rfl, rfl, rfl, rfl, rfl, fun _ h => absurd h List.not_mem_nil⟩

theorem readOnly_notInReset (h : b.pwr.sysRst = false) : ∀ a ∈ readOnlyRegisters, b.regInReset a = false := by
  simp only [readOnlyRegisters, List.forall_mem_cons]
  exact ⟨rfl, h, rfl, h, h, rfl, fun _ h => absurd h List.not_mem_nil⟩

theorem readOnly_aligned : ∀ a ∈ readOnlyRegisters, a % 8 = 0 := by decide

theorem registerWrite_misaligned {a : Nat} (h : a % 8 ≠ 0) : registerWrite e (.mgmt a) w b = countEvent 0x12 0 b := if_pos h

theorem registerWrite_inReset {a : Nat} (ha : a % 8 = 0) (hr : b.regInReset a = true) (hx : (regAt b a).isSome = true) :
    registerWrite e (.mgmt a) w b = countEvent 0x12 0 b := by
  unfold registerWrite
  dsimp only
  rw [if_neg (by simp [ha]), regWrite, if_pos (by rw [hr, hx]; rfl)]
  rfl

theorem registerWrite_taken {a : Nat} (ha : a % 8 = 0) (hr : b.regInReset a = false) : registerWrite e (.mgmt a) w b = applyWrite e a w b := by
  unfold registerWrite
  dsimp only
  rw [if_neg (by simp [ha]), regWrite, hr]
  rfl

end

/-- Settles O10. -/
theorem registerWrites : Obligations.RegisterWrites := by
  unfold Obligations.RegisterWrites
  intro s haon
  refine ⟨?readNarrow, ?writeNarrow, fun e a w ha => ?misaligned, fun e a w ha hr hx => ?inReset, fun e a r w hrst hmem => ?errors, fun e w => ?permit, fun e a w hrst hmem => ?readOnly⟩
  case readNarrow => rw [exec_registerAccessViolation s haon]; rfl
  case writeNarrow => rw [exec_registerAccessViolation s haon]; rfl
  case misaligned => rw [exec_registerWrite s haon, registerWrite_misaligned ha]
  case inReset => rw [exec_registerWrite s haon, registerWrite_inReset ha hr hx]
  case errors =>
    have hmem : (a, r) ∈ errRegisters := hmem
    rw [exec_registerWrite s haon, registerWrite_taken (errRegister_aligned _ hmem) (errRegister_notInReset hrst _ hmem), applyWrite_errRegister _ hmem, clearErr]
  case permit => rw [exec_registerWrite s haon, registerWrite_taken (by decide) rfl]; rfl
  case readOnly =>
    have hmem : a ∈ readOnlyRegisters := hmem
    rw [exec_registerWrite s haon, registerWrite_taken (readOnly_aligned _ hmem) (readOnly_notInReset hrst _ hmem), applyWrite_readOnly _ hmem]

end Sys2Proof.Machine
end

section
/-!
PROOF. The DRAM channel commands, the beat, the hub polls and page completions (O28; R152 to R171).
-/
namespace Sys2Proof.Machine
open Sys2Proof

/-! ### What writes of lines leave -/

/-- All but the lines of DRAM, the key counts and what they log is as it was. -/
structure LineKept (a b : Blk) : Prop where
  host : b.host = a.host
  halo : b.halo = a.halo
  cht : b.cht = a.cht
  pers : b.pers = a.pers
  pwr : b.pwr = a.pwr
  twin : b.twin = a.twin
  far : b.far = a.far
  nvf : b.nvf = a.nvf
  pres : b.dram.pres = a.dram.pres
  presRuns : b.dram.presRuns = a.dram.presRuns
  presBase : b.dram.presBase = a.dram.presBase

theorem LineKept.refl (a : Blk) : LineKept a a := ⟨rfl, rfl, rfl, rfl, rfl, rfl, rfl, rfl, rfl, rfl, rfl⟩

theorem LineKept.trans {a b c : Blk} (h : LineKept a b) (g : LineKept b c) : LineKept a c :=
  ⟨g.host.trans h.host, g.halo.trans h.halo, g.cht.trans h.cht, g.pers.trans h.pers, g.pwr.trans h.pwr, g.twin.trans h.twin, g.far.trans h.far, g.nvf.trans h.nvf,
    g.pres.trans h.pres, g.presRuns.trans h.presRuns, g.presBase.trans h.presBase⟩

theorem LineKept.foldl {β : Type} (f : Blk → β → Blk) (hf : ∀ b x, LineKept b (f b x)) (l : List β) (b : Blk) : LineKept b (l.foldl f b) :=
  foldl_keeps (LineKept b) f l (fun a x _ h => h.trans (hf a x)) (.refl b)

theorem LineKept.presence {a b : Blk} (h : LineKept a b) (p : Nat) : b.presence p = a.presence p := by
  unfold Blk.presence Blk.presDefault
  rw [h.cht, h.pres, h.presRuns, h.presBase]

theorem putLine_kept (l : Nat) (d : DramLine) (b : Blk) : LineKept b (putLine l d b) := by
  unfold putLine; split <;> exact ⟨rfl, rfl, rfl, rfl, rfl, rfl, rfl, rfl, rfl, rfl, rfl⟩

theorem useSlot_kept (n u : Nat) (i : Bool) (b : Blk) : LineKept b (useSlot n u i b) := by
  have hframe : (useSlot n u i b).host = b.host ∧ (useSlot n u i b).halo = b.halo ∧ (useSlot n u i b).cht = b.cht ∧ (useSlot n u i b).twin = b.twin ∧
      (useSlot n u i b).far = b.far ∧ (useSlot n u i b).nvf = b.nvf := by
    unfold useSlot; dsimp only; (repeat' split) <;> simp
  obtain ⟨hhost, hhalo, hcht, htwin, hfar, hnvf⟩ := hframe
  obtain ⟨hpwr, hpers⟩ := useSlot_power_pers n u i b
  exact ⟨hhost, hhalo, hcht, hpers, hpwr, htwin, hfar, hnvf, by rw [useSlot_dram], by rw [useSlot_dram], by rw [useSlot_dram]⟩

theorem writeLine_kept (l : Nat) (d : Line) (p : Bool) (s : Nat) (b : Blk) : LineKept b (writeLine l d p s b) := (putLine_kept ..).trans (useSlot_kept ..)

theorem setPresence_presence {p : Nat} {b : Blk} (h : (carveAt b.cht.cur.near (p * 4096)).isNone = true) (v : Presence) :
    (setPresence p v b).presence p = v := by
  have hcarve : carveAt (setPresence p v b).cht.cur.near (p * 4096) = none := Option.isNone_iff_eq_none.1 h
  unfold Blk.presence
  rw [hcarve]
  exact SMap.get_put_same ..

/-! ### Channels -/

@[simp] theorem modChan_chan (c : Nat) (f : Chan → Chan) (b : Blk) : (modChan c f b).chan c = f (b.chan c) := SMap.get_upd_same ..

section
variable {b : Blk} {c d r p : Nat}

theorem viaReg_drmReg (hc : c < 16) (h : b.pwr.sysRst = false) (f : Blk → Blk) : viaReg (0x40008 + 0x1000 * c) f b = f b := by
  have hblock : (0x40008 + 0x1000 * c) / 0x10000 = 4 := by omega
  have hreg : b.regInReset (0x40008 + 0x1000 * c) = false := by
    unfold Blk.regInReset
    dsimp only
    rw [hblock]
    exact h
  unfold viaReg; rw [hreg]; rfl

theorem drmTakes_of (hc : c < 16) (hd : b.inDusk = false) : b.drmTakes c = true := by unfold Blk.drmTakes; simp [hc, hd]

/-- What MARK and UNMARK ask of the channel, the rank and the position (R152). -/
theorem markGuard (ht : b.drmTakes c = true) (hr : (b.chan c).hasRank d r = true) (hp : p < 20) (hs : (b.chan c).state = .ready ∨ (b.chan c).state = .frozen) :
    (!b.drmTakes c || !(b.chan c).hasRank d r || decide (19 < p) || !((b.chan c).state == .ready || (b.chan c).state == .frozen)) = false := by
  have hp' : decide (19 < p) = false := decide_eq_false (by omega)
  rw [ht, hr, hp']
  rcases hs with hs | hs <;> rw [hs] <;> rfl

theorem drmMark_adds (ht : b.drmTakes c = true) (hr : (b.chan c).hasRank d r = true) (hp : p < 20) (hs : (b.chan c).state = .ready ∨ (b.chan c).state = .frozen)
    (hm : (b.chan c).marks.contains (d, r, p) = false) (h2 : ((b.chan c).marks.filter (fun m => m.1 = d && m.2.1 = r)).length < 2) :
    drmMark c d r p b = setErr (.drm c) 7 (setMarks c ((b.chan c).marks ++ [(d, r, p)]) b) := by
  unfold drmMark
  dsimp only
  rw [markGuard ht hr hp hs, if_neg Bool.false_ne_true, hm, if_neg Bool.false_ne_true, if_neg (Nat.not_le.2 h2)]

theorem drmMark_marked (ht : b.drmTakes c = true) (hr : (b.chan c).hasRank d r = true) (hp : p < 20) (hs : (b.chan c).state = .ready ∨ (b.chan c).state = .frozen)
    (hm : (b.chan c).marks.contains (d, r, p) = true) : drmMark c d r p b = b := by
  unfold drmMark
  dsimp only
  rw [markGuard ht hr hp hs, if_neg Bool.false_ne_true, if_pos hm]

theorem drmUnmark_removes (ht : b.drmTakes c = true) (hr : (b.chan c).hasRank d r = true) (hp : p < 20) (hs : (b.chan c).state = .ready ∨ (b.chan c).state = .frozen)
    (hm : (b.chan c).marks.contains (d, r, p) = true) : drmUnmark c d r p b = setMarks c ((b.chan c).marks.filter (· != (d, r, p))) b := by
  unfold drmUnmark
  dsimp only
  rw [markGuard ht hr hp hs, if_neg Bool.false_ne_true, hm]
  rfl

theorem drmUnmark_unmarked (ht : b.drmTakes c = true) (hr : (b.chan c).hasRank d r = true) (hp : p < 20) (hs : (b.chan c).state = .ready ∨ (b.chan c).state = .frozen)
    (hm : (b.chan c).marks.contains (d, r, p) = false) : drmUnmark c d r p b = b := by
  unfold drmUnmark
  dsimp only
  rw [markGuard ht hr hp hs, if_neg Bool.false_ne_true, hm]
  rfl

theorem drmMark_noRank (hr : (b.chan c).hasRank d r = false) : drmMark c d r p b = setErr (.drm c) 8 b := by
  unfold drmMark; dsimp only; rw [hr]; exact if_pos (by simp)

theorem drmUnmark_noRank (hr : (b.chan c).hasRank d r = false) : drmUnmark c d r p b = setErr (.drm c) 8 b := by
  unfold drmUnmark; dsimp only; rw [hr]; exact if_pos (by simp)

/-! ### Freezes -/

theorem drmDiagRead_refused {phys : Phys} (h : (b.chan c).state ≠ .frozen) : drmDiagRead c phys b = setErr (.drm c) 8 b := by
  have hstate : ((b.chan c).state != .frozen) = true := by simpa using h
  unfold drmDiagRead
  dsimp only
  rw [hstate]
  exact if_pos (by simp)

theorem thawNow_refused {t : Option Line} (h : (b.chan c).state ≠ .frozen) : thawNow c t b = setErr (.drm c) 8 b := by
  have hstate : ((b.chan c).state != .frozen) = true := by simpa using h
  unfold thawNow
  dsimp only
  rw [hstate]
  exact if_pos (by simp)

/-- The raw burst that DRM_CH_DIAG_LOC names (R162). -/
theorem drmDiagRead_bursts {phys : Phys} {g : W64} {l : Nat} (ht : b.drmTakes c = true) (hs : (b.chan c).state = .frozen) (hg : g = (b.chan c).diagLoc)
    (hc : fieldOf g 63 59 = c) (hr : (b.chan c).hasRank (fieldOf g 58 58) (fieldOf g 57 56) = true) (hrow : fieldOf g 45 28 < rowsOf (b.chan c).density)
    (hcol : fieldOf g 27 17 % 16 = 0)
    (hl : b.lineAtGeo c ⟨fieldOf g 58 58, fieldOf g 57 56, fieldOf g 50 48, fieldOf g 47 46, fieldOf g 45 28, fieldOf g 27 17⟩ = some l) :
    drmDiagRead c phys b = modChan c (fun x => { x with cap := { x.cap with raw := rawBurst (b.mediaLine l) (b.lineInfo l).dpa (phys.burst l) } }) b := by
  have hguard : (!b.drmTakes c || (b.chan c).state != .frozen || fieldOf g 63 59 != c || !(b.chan c).hasRank (fieldOf g 58 58) (fieldOf g 57 56) ||
      decide (rowsOf (b.chan c).density ≤ fieldOf g 45 28) || fieldOf g 27 17 % 16 != 0) = false := by
    rw [ht, hs, hr, hcol, decide_eq_false (Nat.not_le.2 hrow), hc]
    simp
  unfold drmDiagRead
  dsimp only
  rw [← hg, hguard, if_neg Bool.false_ne_true, hl]

theorem dropSummary_frame (c : Nat) (b : Blk) : (dropSummary c b).dram.lines = b.dram.lines ∧ (dropSummary c b).halo = b.halo := by
  unfold dropSummary
  dsimp only
  split
  · exact ⟨rfl, rfl⟩
  · exact ⟨by simp [modChan], by simp⟩

/-- THAW of a frozen channel with nothing queued or dropped makes it READY (R162). -/
theorem thawNow_ready {t : Option Line} (ht : b.drmTakes c = true) (hs : (b.chan c).state = .frozen) (hsync : b.syncTouches c = false) (hdrops : (b.chan c).drops = [])
    (hqueued : (b.chan c).queued = []) (hfail : (b.chan c).failLine = none) :
    thawNow c t b = modChan c (fun x => { x with state := .ready, queued := [], drops := [], redone := [], failLine := none, failCa := false }) (dropSummary c b) := by
  unfold thawNow
  dsimp only
  rw [ht, hs, hsync, hdrops, hqueued, hfail]
  exact if_neg (by simp)

end

/-! ### Hub polls -/

theorem hubRead_keeps (n : Nat) (r : Option Int) (b : Blk) : (hubRead n r b).dram.lines = b.dram.lines ∧ (hubRead n r b).halo = b.halo := by
  unfold hubRead
  cases r <;> dsimp only <;> (repeat' split) <;> exact ⟨by simp [modChan], by simp⟩

theorem hubReads_keep (l : List Nat) (r : SMap Int) (b : Blk) : (l.foldl (fun b n => hubRead n (SMap.find? r n) b) b).dram.lines = b.dram.lines ∧
    (l.foldl (fun b n => hubRead n (SMap.find? r n) b) b).halo = b.halo :=
  foldl_keeps (fun x : Blk => x.dram.lines = b.dram.lines ∧ x.halo = b.halo) _ l
    (fun a n _ h => ⟨(hubRead_keeps n _ a).1.trans h.1, (hubRead_keeps n _ a).2.trans h.2⟩) ⟨rfl, rfl⟩

theorem modChans_keep (l : List Nat) (f : Nat → Chan → Chan) (b : Blk) : (l.foldl (fun b c => modChan c (f c) b) b).dram.lines = b.dram.lines ∧
    (l.foldl (fun b c => modChan c (f c) b) b).halo = b.halo :=
  foldl_keeps (fun x : Blk => x.dram.lines = b.dram.lines ∧ x.halo = b.halo) (fun b c => modChan c (f c) b) l (fun _ _ _ h => h) ⟨rfl, rfl⟩

/-- One DIMM over 85 °C takes the short interval at the next beat (R155). -/
theorem spdTempPoll_hot {r : SMap Int} {c d : Nat} {x : Int} {b : Blk} (hc : c ∈ b.populated) (hd : d < (b.chan c).dimms) (hr : SMap.find? r (2 * c + d) = some x)
    (hx : 1360 < x) : (spdTempPoll r b).dram.hotNext = true ∧ (spdTempPoll r b).dram.coolPolls = 0 ∧ (spdTempPoll r b).dram.lines = b.dram.lines ∧
      (spdTempPoll r b).halo = b.halo := by
  unfold spdTempPoll
  extract_lets ns read hotDimm cool polls next shown
  have hmem : 2 * c + d ∈ ns := List.mem_flatMap.2 ⟨c, hc, List.mem_map.2 ⟨d, List.mem_range.2 hd, rfl⟩⟩
  have hhot : ns.any hotDimm = true := List.any_eq_true.2 ⟨_, hmem, by simp only [hotDimm, hr, decide_eq_true hx, Bool.or_true]⟩
  have hcool : cool = false := by
    refine List.all_eq_false.2 ⟨_, hmem, ?_⟩
    rw [hr]
    simpa using (by omega : (1328 : Int) < x)
  obtain ⟨hlines, hhalo⟩ := hubReads_keep ns r b
  obtain ⟨hlines', hhalo'⟩ := modChans_keep read.populated (fun c x => { x with hot := (List.range x.dimms).any (fun d => hotDimm (2 * c + d)) }) read
  refine ⟨?_, ?_, hlines'.trans hlines, hhalo'.trans hhalo⟩
  · simp only [next, hhot, if_true]
  · simp only [polls, hcool, Bool.false_eq_true, if_false]

/-- A part without DIMMs: every poll is a cool one (R155). -/
theorem spdTempPoll_empty {r : SMap Int} {b : Blk} (h : b.populated = []) : spdTempPoll r b =
    { b with dram := { b.dram with coolPolls := b.dram.coolPolls + 1, hotNext := if 4 ≤ b.dram.coolPolls + 1 then false else b.dram.hotNext } } := by
  unfold spdTempPoll
  dsimp only
  simp only [h, List.flatMap_nil, List.foldl_nil]
  rfl

/-! ### Completions of pages -/

/-- The lines of a REMOTE page that lands (R162). -/
def landRemote (p : Nat) (lines : SMap (Line × Bool)) (b : Blk) : Blk :=
  (List.range 32).foldl (fun b j => if (b.haloFind (32 * p + j)).isSome then b
    else writeLine (32 * p + j) (SMap.get (0, false) lines j).1 (SMap.get (0, false) lines j).2 (b.stampOf p) b) b

theorem landRemote_kept (p : Nat) (lines : SMap (Line × Bool)) (b : Blk) : LineKept b (landRemote p lines b) :=
  .foldl _ (fun b j => by
    split
    · exact .refl b
    · exact writeLine_kept ..) _ b

theorem remotePageCopyDone_idle {phys : Phys} {p : Nat} {ls : SMap (Line × Bool)} {b : Blk} (h : b.presence p ≠ .remote) : remotePageCopyDone phys p ls b = b := by
  have hne : (b.presence p != .remote) = true := by simpa using h
  unfold remotePageCopyDone; rw [hne]; rfl

theorem remotePageCopyDone_lands {phys : Phys} {p : Nat} {ls : SMap (Line × Bool)} {b : Blk} (h : b.presence p = .remote)
    (hf : (List.range 32).any (fun j => b.frozenLine (32 * p + j)) = false) :
    remotePageCopyDone phys p ls b = retry phys (fun h => match h.why with | .remote x => x / 64 == p | _ => false) (landRemote p ls (setPresence p .resident b)) := by
  unfold remotePageCopyDone landRemote; rw [h, hf]; exact if_neg (by decide)

theorem zeroFillDone_fills {p : Nat} {b : Blk} (h : b.presence p = .zero) (ht : b.touchedPage p = true) :
    zeroFillDone p b = setPresence p .resident (fillLines p (fun j => !SMap.has b.dram.lines (32 * p + j)) b) := by
  unfold zeroFillDone; rw [h, ht]; rfl

theorem zeroFillDone_idle {p : Nat} {b : Blk} (h : b.presence p ≠ .zero ∨ b.touchedPage p = false) : zeroFillDone p b = b := by
  unfold zeroFillDone
  rcases h with h | h
  · exact if_neg (by simp [h])
  · exact if_neg (by simp [h])

/-- Settles O28. -/
theorem dramChannelCommands : Obligations.DramChannelCommands := by
  unfold Obligations.DramChannelCommands
  intro s phys haon
  refine ⟨?beat, ?age, fun hrst c hc hd => ⟨fun d r p hr hp hs => ⟨fun hm h2 => ?marks, fun hm => ?marked, fun hm => ?unmarks, fun hm => ?unmarked⟩, fun d r p hr => ?noRank,
      fun hs => ⟨?diagRefused, fun hw t => ?thawRefused⟩, fun g l hs hg hgc hr hrow hcol hl => ?bursts, fun t hs hw hsync hdrops hqueued hfail => ?thaws, fun t hw => ?deferred⟩,
    fun c n cmd loc a hs => ⟨fun hn => ?replayed, fun hn => ?freezes⟩, fun r hp => ?noDimm, fun r c d x hc hd hr hx => ?hot, fun p hp ht => ?zeroFilled, fun p h => ?zeroIdle,
    fun p ls h => ?remoteIdle, fun p ls h hf hcarve => ?landed⟩
  case beat => exact exec_refreshBeat s haon
  case age => exact exec_readAgeLimit s haon
  case marks => rw [exec_mark s haon, viaReg_drmReg hc hrst, drmMark_adds (drmTakes_of hc hd) hr hp hs hm h2]
  case marked => rw [exec_mark s haon, viaReg_drmReg hc hrst, drmMark_marked (drmTakes_of hc hd) hr hp hs hm]
  case unmarks => rw [exec_unmark s haon, viaReg_drmReg hc hrst, drmUnmark_removes (drmTakes_of hc hd) hr hp hs hm]
  case unmarked => rw [exec_unmark s haon, viaReg_drmReg hc hrst, drmUnmark_unmarked (drmTakes_of hc hd) hr hp hs hm]
  case noRank =>
    refine ⟨?_, ?_⟩
    · rw [exec_mark s haon, viaReg_drmReg hc hrst, drmMark_noRank hr]
    · rw [exec_unmark s haon, viaReg_drmReg hc hrst, drmUnmark_noRank hr]
  case diagRefused => rw [exec_diagRead s haon, viaReg_drmReg hc hrst, drmDiagRead_refused hs]
  case thawRefused => rw [exec_thaw s haon, viaReg_drmReg hc hrst, drmThaw, hw, if_neg Bool.false_ne_true, thawNow_refused hs]
  case bursts => rw [exec_diagRead s haon, viaReg_drmReg hc hrst, drmDiagRead_bursts (drmTakes_of hc hd) hs hg hgc hr hrow hcol hl]
  case thaws =>
    obtain ⟨hlines, hhalo⟩ := dropSummary_frame c s.now
    refine ⟨_, by rw [exec_thaw s haon, viaReg_drmReg hc hrst, drmThaw, hw, if_neg Bool.false_ne_true, thawNow_ready (drmTakes_of hc hd) hs hsync hdrops hqueued hfail], ?_⟩
    rw [modChan_chan]
    exact ⟨rfl, hlines, hhalo⟩
  case deferred => rw [exec_thaw s haon, viaReg_drmReg hc hrst, drmThaw, if_pos hw]
  case replayed =>
    rw [exec_caParityAlert s haon, caParityAlert, hs]
    exact congrArg _ (congrArg _ (if_pos hn))
  case freezes =>
    rw [exec_caParityAlert s haon, caParityAlert, hs]
    exact congrArg _ (congrArg _ (if_neg (Nat.not_lt.2 hn)))
  case noDimm =>
    refine ⟨_, by rw [exec_spdTempPoll s haon, spdTempPoll_empty hp], ?_⟩
    rw [State.after, closeStep_dram, closeStep_therm]
    exact ⟨rfl, rfl, rfl, rfl⟩
  case hot =>
    obtain ⟨hnext, hpolls, hlines, hhalo⟩ := spdTempPoll_hot hc hd hr hx
    refine ⟨_, exec_spdTempPoll s haon r, ?_⟩
    rw [State.after, closeStep_dram, closeStep_halo]
    exact ⟨hnext, hpolls, hlines, hhalo⟩
  case zeroFilled => rw [exec_zeroFillDone s haon, zeroFillDone_fills hp ht]
  case zeroIdle => rw [exec_zeroFillDone s haon, zeroFillDone_idle h]
  case remoteIdle => rw [exec_remotePageCopyDone s haon, remotePageCopyDone_idle h]
  case landed =>
    have hkept := landRemote_kept p ls (setPresence p .resident s.now)
    refine ⟨landRemote p ls (setPresence p .resident s.now),
      (exec_remotePageCopyDone s haon phys p ls).trans (congrArg (fun b => Host.Outcome.next (s.afterWork phys b)) (remotePageCopyDone_lands h hf)), ?_, ?_⟩
    · rw [hkept.presence, setPresence_presence hcarve]
    · rw [hkept.host]; rfl

end Sys2Proof.Machine
end

section
/-!
PROOF. Write-back, the governor's window, throttled writes and the hold-up pins (O29; R175 to R184).
-/
namespace Sys2Proof.Machine
open Sys2Proof

section
variable {b : Blk} {phys : Phys} {p : Nat}

/-! ### Issuing programs -/

/-- What a write of line `l` of the metadata leaves: the page of the line alone may be marked. -/
structure PageMarked (l : Nat) (a b : Blk) : Prop where
  host : b.host = a.host
  halo : b.halo = a.halo
  cht : b.cht = a.cht
  far : b.far = a.far
  nvf : b.nvf = a.nvf
  pwr : b.pwr = a.pwr
  inFlight : ∀ p, p ≠ l / 32 → SMap.find? b.pers.inFlight p = SMap.find? a.pers.inFlight p

theorem LineKept.marked {a b : Blk} (h : LineKept a b) (l : Nat) : PageMarked l a b := ⟨h.host, h.halo, h.cht, h.far, h.nvf, h.pwr, fun p _ => by rw [h.pers]⟩

theorem PageMarked.trans {l : Nat} {a b c : Blk} (h : PageMarked l a b) (g : PageMarked l b c) : PageMarked l a c :=
  ⟨g.host.trans h.host, g.halo.trans h.halo, g.cht.trans h.cht, g.far.trans h.far, g.nvf.trans h.nvf, g.pwr.trans h.pwr, fun p hp => (g.inFlight p hp).trans (h.inFlight p hp)⟩

theorem PageMarked.refl (l : Nat) (a : Blk) : PageMarked l a a := (LineKept.refl a).marked l

theorem markDirty_marked (l e : Nat) (b : Blk) : PageMarked l b (markDirty (l / 32) e b) := by
  unfold markDirty
  split
  · refine ⟨rfl, rfl, rfl, rfl, rfl, rfl, fun p hp => ?_⟩
    dsimp only
    split
    · exact SMap.find?_insert_other _ _ hp
    · rfl
  · exact .refl l b

theorem setErr_marked (l : Nat) (r : ErrReg) (n : Nat) (b : Blk) : PageMarked l b (setErr r n b) :=
  ⟨by simp, by simp, by simp, by simp, by simp, by simp, fun p _ => by simp⟩

theorem modChan_marked (l c : Nat) (f : Chan → Chan) (b : Blk) : PageMarked l b (modChan c f b) := ⟨rfl, rfl, rfl, rfl, rfl, rfl, fun _ _ => rfl⟩

theorem setPresence_marked (l p : Nat) (v : Presence) (b : Blk) : PageMarked l b (setPresence p v b) := ⟨rfl, rfl, rfl, rfl, rfl, rfl, fun _ _ => rfl⟩

theorem dropWrite_marked (l e : Nat) (b : Blk) : PageMarked l b (dropWrite l e b) := by
  unfold dropWrite
  dsimp only
  refine (setErr_marked l (.drm (b.chanNo l)) 4 b).trans (.trans ?_ ((modChan_marked ..).trans (markDirty_marked ..)))
  split
  · exact setErr_marked ..
  · exact .refl ..

theorem writeEntry_marked (i : Nat) (b : Blk) : PageMarked (b.dirLine (i / 2)) b (writeEntry i b) := by
  unfold writeEntry
  dsimp only
  split
  · exact dropWrite_marked ..
  · refine .trans ?_ (((writeLine_kept ..).marked _).trans (markDirty_marked ..))
    split
    · exact setPresence_marked ..
    · exact .refl ..

/-- The block with a changed directory entry, before the entry's line is written through. -/
def Blk.withEntry (b : Blk) (i : Nat) (f : StageEntry → StageEntry) : Blk :=
  { b with far := { b.far with dir := SMap.upd StageEntry.free b.far.dir i f } }

/-- A change of a directory entry (R236, R238). -/
theorem modEntry_marked (i : Nat) (f : StageEntry → StageEntry) (b : Blk) : PageMarked (b.dirLine (i / 2)) (b.withEntry i f) (modEntry i f b) := by
  have hline : (b.withEntry i f).dirLine (i / 2) = b.dirLine (i / 2) := rfl
  have heq : modEntry i f b = if (f (b.dirEntry i)).bytes == (b.dirEntry i).bytes then b.withEntry i f else writeEntry i (b.withEntry i f) := rfl
  rw [heq, ← hline]
  split
  · exact .refl ..
  · exact writeEntry_marked i _

/-- A staging slot's data never lies in the page that holds its directory entry: the entries fill the first 1/64 of FAR_STAGING (R236). -/
theorem slotOfPage_not_dirPage {p i : Nat} (h : b.slotOfPage p = some i) : p ≠ b.dirLine (i / 2) / 32 := by
  unfold Blk.slotOfPage Blk.stageSets Blk.slotPage at h
  unfold Blk.dirLine
  unfold Blk.stageArea at h ⊢
  cases hc : carveOf b.cht.cur.near 4 with
  | none => rw [hc] at h; simp at h
  | some c =>
    rw [hc] at h
    have hmega : mib = 1048576 := rfl
    dsimp only at h ⊢
    rw [hmega] at h
    simp only [Option.ite_none_right_eq_some, Option.some.injEq, Bool.and_eq_true, decide_eq_true_eq] at h
    obtain ⟨⟨⟨hsets, hfirst⟩, hlast⟩, hslot⟩ := h
    have hmib : 1 ≤ c.sizeMib := by omega
    have hpages : (c.base + c.sizeMib * 1048576 / 64) / 4096 = c.base / 4096 + 4 * c.sizeMib := by omega
    have hdir : (c.base / 128 + i / 2) / 32 ≤ c.base / 4096 + i / 64 + 1 := by omega
    omega

theorem debit_inFlight (b : Blk) : (debit b).pers.inFlight = b.pers.inFlight := by unfold debit; dsimp only; split <;> simp

theorem noteIssue_inFlight (p : Nat) (u : FlashUnit) (b : Blk) : SMap.find? (noteIssue p u b).pers.inFlight p = some false := by
  unfold noteIssue
  dsimp only
  split
  next i hi =>
    have hpage := slotOfPage_not_dirPage hi
    rw [(modEntry_marked ..).inFlight p hpage, Blk.withEntry]
    dsimp only
    rw [debit_inFlight]
    exact SMap.find?_insert_same ..
  · rw [debit_inFlight]
    exact SMap.find?_insert_same ..

/-- A page whose program is issued is in flight and not redirtied (R181). -/
theorem issueProgram_inFlight {c : Blk} (h : issueProgram phys p b = some c) : SMap.find? c.pers.inFlight p = some false := by
  unfold issueProgram at h
  split at h
  · cases h
  · dsimp only at h
    obtain ⟨x, -, rfl⟩ := Option.map_eq_some_iff.1 h
    exact noteIssue_inFlight ..

theorem issueProgram_all : (issueProgram phys p b).all (fun b => SMap.find? b.pers.inFlight p == some false) = true := by
  cases h : issueProgram phys p b with
  | none => rfl
  | some c => exact beq_iff_eq.2 (issueProgram_inFlight h)

theorem writebackIssue_none (h : b.nextWriteBack = none) : writebackIssue phys b = issueForMiss phys b := by unfold writebackIssue; rw [h]

theorem writebackIssue_some {paced : Bool} (h : b.nextWriteBack = some (p, paced)) : writebackIssue phys b = ((issueProgram phys p b).map (fun b =>
    if paced then { b with pers := { b.pers with spent := b.pers.spent + 4096 } } else b)).getD b := by
  unfold writebackIssue
  rw [h]
  dsimp only
  cases issueProgram phys p b with
  | none => rfl
  | some c => cases paced <;> rfl

/-! ### Ends of programs -/

section
variable {u : FlashUnit} {s slot : Nat} {red : Bool}

theorem writebackProgramDone_waits (hslot : b.slotOfPage p = none) (hred : SMap.find? b.pers.inFlight p = some red) (hu : SMap.find? b.pers.programs p = some u)
    (hat : b.unitPlace u = some (s, slot)) (hdone : (b.stripe s).done.contains (slot / 4) = false) (hmay : b.mayProgram s (slot / 4) = false) :
    writebackProgramDone p b = b := by
  unfold writebackProgramDone programDone
  rw [hslot, hred, hu]
  dsimp only
  rw [hat]
  dsimp only
  rw [hdone, hmay]
  rfl

/-- The program of a home page ends when its stripe's page may be programmed, or has been (R181). -/
theorem writebackProgramDone_home (hslot : b.slotOfPage p = none) (hred : SMap.find? b.pers.inFlight p = some red) (hu : SMap.find? b.pers.programs p = some u)
    (hat : b.unitPlace u = some (s, slot)) (hkind : u.kind = .home) (hmay : (b.stripe s).done.contains (slot / 4) = true ∨ b.mayProgram s (slot / 4) = true) :
    writebackProgramDone p b = programEnds p red b.gov (if (b.stripe s).done.contains (slot / 4) then b else pageProgrammed s (slot / 4) b) := by
  have hgo : (!(b.stripe s).done.contains (slot / 4) && !b.mayProgram s (slot / 4)) = false := by rcases hmay with h | h <;> simp only [h, Bool.not_true, Bool.false_and, Bool.and_false]
  unfold writebackProgramDone programDone
  rw [hslot, hred, hu]
  dsimp only
  rw [hat]
  dsimp only
  rw [hgo, hkind]
  rfl

end

/-! ### The governor's window -/

/-- All but the list of logical devices that have been told is as it was. -/
def ThrottleNoted (a b : Blk) : Prop := (∃ t, b.pers = { a.pers with throttlePosted := t }) ∧ b.nvf = a.nvf ∧ b.dram = a.dram

theorem noteThrottle_noted (dpa : Nat) (b : Blk) : ThrottleNoted b (noteThrottle dpa b) := by
  unfold noteThrottle
  dsimp only
  split
  · exact ⟨⟨_, rfl⟩, rfl, rfl⟩
  · exact ⟨⟨_, by rw [postTo_pers]⟩, by simp, by simp⟩

theorem noteThrottles_noted (l : List HeldReq) (b : Blk) : ThrottleNoted b (l.foldl (fun b h => noteThrottle h.req.dpa b) b) := by
  refine foldl_keeps (ThrottleNoted b) _ l (fun a x _ h => ?_) ⟨⟨_, rfl⟩, rfl, rfl⟩
  obtain ⟨⟨t, hpers⟩, hnvf, hdram⟩ := h
  obtain ⟨⟨t', hpers'⟩, hnvf', hdram'⟩ := noteThrottle_noted x.req.dpa a
  exact ⟨⟨t', by rw [hpers', hpers]⟩, hnvf'.trans hnvf, hdram'.trans hdram⟩

theorem governorWindow_early (h : b.epoch < b.pers.windowEnd) : governorWindow b = b := if_pos h

/-- The end of a window (R183). -/
theorem governorWindow_ends (h : b.pers.windowEnd ≤ b.epoch) : ∃ t r, (governorWindow b).pers = { b.pers with
      credit := Min.min (b.pers.credit + (b.refill : Int)) b.creditCap, spent := 0, throttlePosted := t, windowEnd := b.pers.windowEnd + Nat.max b.cht.cur.pers.govEpochs 1,
      rwb := r, rwbBytes := 0 } ∧ (b.host.held = [] → t = []) ∧ (governorWindow b).nvf = b.nvf ∧ (governorWindow b).dram = b.dram := by
  unfold governorWindow
  rw [if_neg (Nat.not_lt.2 h)]
  extract_lets ns refilled
  cases hheld : b.host.held with
  | nil =>
    have hnone : refilled.host.held = [] := hheld
    rw [hnone]
    exact ⟨[], _, rfl, fun _ => rfl, rfl, rfl⟩
  | cons x l =>
    obtain ⟨⟨t, hpers⟩, hnvf, hdram⟩ := noteThrottles_noted (refilled.host.held.filter (fun h => h.why == .throttle)) refilled
    exact ⟨t, _, hpers, fun h => absurd h (List.cons_ne_nil _ _), hnvf, hdram⟩

/-! ### Throttled writes and the hold-up pins -/

theorem throttleRelease_none (h : b.host.held.find? (fun x => x.why == .throttle) = none) : throttleRelease phys b = b := by unfold throttleRelease; rw [h]

theorem throttleRelease_waits {o : HeldReq} (h : b.host.held.find? (fun x => x.why == .throttle) = some o) (hw : b.releaseOk = false ∨ b.inDusk = true) :
    throttleRelease phys b = b := by
  unfold throttleRelease
  rw [h]
  exact if_pos (by rcases hw with h | h <;> simp [h])

theorem throttleRelease_passes {o : HeldReq} (h : b.host.held.find? (fun x => x.why == .throttle) = some o) (hr : b.releaseOk = true) (hd : b.inDusk = false) :
    throttleRelease phys b = retryOldest phys .throttle { b with host := { b.host with
      held := b.host.held.map (fun x => if x.why == .throttle && x.req.dpa / 128 == o.req.dpa / 128 then { x with req := { x.req with passed := true } } else x) } } := by
  unfold throttleRelease
  rw [h, hr, hd]
  rfl

theorem throttleOverdraw_idle (h : b.throttling = false) : throttleOverdraw phys b = b := by unfold throttleOverdraw; exact if_pos (by simp [h])

theorem throttleOverdraw_issues (ht : b.throttling = true) (hd : b.inDusk = false) (hf : b.pers.inFlight.length < 262144) (hz : 2 < b.freeTlc)
    (ho : b.oldest ((SMap.keys b.pers.dirty).filter b.canWriteBack) = some p) : throttleOverdraw phys b = (issueProgram phys p b).getD b := by
  unfold throttleOverdraw
  rw [ht, hd, decide_eq_false (Nat.not_le.2 hf), decide_eq_false (Nat.not_le.2 hz), ho]
  rfl

end

/-- Settles O29. -/
theorem governorAndCeiling : Obligations.GovernorAndCeiling := by
  unfold Obligations.GovernorAndCeiling
  intro s phys haon
  refine ⟨fun h => ?noPage, fun p paced h => ⟨?issues, issueProgram_all⟩, fun p u at' red hslot hred hu hat hkind => ⟨fun hdone hmay => ?waits, fun hdone hmay => ?programmed,
      fun hdone => ?done⟩, fun p red g b => ⟨rfl, rfl, rfl⟩, fun h => ?early, fun h => ?window, fun h => ?noHeld, fun o ho => ⟨fun h => ?stillHeld, fun hr hd => ?passes⟩,
    fun h => ?notThrottling, fun p ht hd hf hz ho => ?overdraws, ?lowered, ?raised, fun ht hl => ?restored, fun h => ?notRestored⟩
  case noPage => rw [exec_writebackIssue s haon, writebackIssue_none h]
  case issues => rw [exec_writebackIssue s haon, writebackIssue_some h]
  case waits => rw [exec_writebackProgramDone s haon, writebackProgramDone_waits hslot hred hu hat hdone hmay]
  case programmed => rw [exec_writebackProgramDone s haon, writebackProgramDone_home hslot hred hu hat hkind (.inr hmay), hdone, if_neg Bool.false_ne_true]
  case done => rw [exec_writebackProgramDone s haon, writebackProgramDone_home hslot hred hu hat hkind (.inl hdone), if_pos hdone]
  case early => rw [exec_governorWindow s haon, governorWindow_early h]
  case window =>
    obtain ⟨t, r, hpers, hposted, hnvf, hdram⟩ := governorWindow_ends h
    refine ⟨_, exec_governorWindow s haon, ?_⟩
    rw [State.after, closeStep_pers, closeStep_nvf, closeStep_dram, hpers, hnvf, hdram]
    exact ⟨rfl, rfl, hposted, rfl, rfl, rfl, rfl, rfl⟩
  case noHeld => rw [exec_throttleRelease s haon, throttleRelease_none h]
  case stillHeld => rw [exec_throttleRelease s haon, throttleRelease_waits ho h]
  case passes => rw [exec_throttleRelease s haon, throttleRelease_passes ho hr hd]
  case notThrottling => rw [exec_throttleOverdraw s haon, throttleOverdraw_idle h]
  case overdraws => rw [exec_throttleOverdraw s haon, throttleOverdraw_issues ht hd hf hz ho]
  case lowered => exact exec_holdupLowAssert s haon
  case raised => exact exec_holdupLowDeassert s haon
  case restored =>
    rw [exec_holdupRestore s haon, holdupRestore, ht, hl]
    exact congrArg _ (congrArg _ (if_pos rfl))
  case notRestored =>
    rw [exec_holdupRestore s haon, holdupRestore]
    exact congrArg _ (congrArg _ (if_neg (by rcases h with h | h <;> simp [h])))

end Sys2Proof.Machine
end

section
/-!
PROOF. The Dusk's steps, restores and the end of a generation (O30; R186 to R201).
-/
namespace Sys2Proof.Machine
open Sys2Proof

@[simp] theorem modPers_pers (f : PersSt → PersSt) (b : Blk) : (modPers f b).pers = f b.pers := rfl

/-! ### What reads of lines keep

A parity error or an uncorrectable burst asserts a pin, and its reaction may go as far as an off request; the generation that a save will write keeps its number. -/

section
variable (phys : Phys) (l : Nat) (b : Blk)

theorem noteHaloErr_reactionKept (loc addr : W64) : ReactionKept b (noteHaloErr loc addr b) := by
  unfold noteHaloErr; split
  · exact .of_eq rfl rfl rfl rfl
  · exact .refl b

theorem noteHaloErrFree_reactionKept (loc : W64) : ReactionKept b (noteHaloErrFree loc b) := by
  unfold noteHaloErrFree
  dsimp only
  split
  · exact (ReactionKept.of_eq rfl rfl rfl rfl).trans (noteHaloErr_reactionKept ..)
  · exact .refl b

theorem maskEntry_reactionKept (k : Nat) : ReactionKept b (maskEntry k b) := by
  unfold maskEntry; split
  · exact .refl b
  · exact .of_eq rfl rfl rfl rfl

theorem dropMasked_reactionKept (k : Nat) : ReactionKept b (maskEntry k (haloDrop k b)) :=
  (ReactionKept.of_eq (b := haloDrop k b) rfl rfl rfl rfl).trans (maskEntry_reactionKept ..)

theorem cleanParity_reactionKept (k : Nat) (loc : W64) : ReactionKept b (cleanParity k loc b) := by
  unfold cleanParity
  extract_lets noted n haloNow counted
  have hnoted : ReactionKept b noted := by
    simp only [noted]; split
    · exact noteHaloErr_reactionKept ..
    · exact noteHaloErrFree_reactionKept ..
  have hcounted : ReactionKept noted counted := (ReactionKept.of_eq rfl rfl rfl rfl).trans (setErr_reactionKept .hal 0 _)
  split
  · exact hnoted.trans (hcounted.trans (maskEntry_reactionKept ..))
  · exact hnoted.trans hcounted

theorem fatalSteps_reactionKept (bit : Nat) (loc addr : W64) (pin : Nat) : ReactionKept b (fatalSteps bit loc addr pin b) := by
  unfold fatalSteps
  extract_lets failed haloNow held
  have hfailed : ReactionKept b failed := (noteHaloErr_reactionKept ..).trans (setErr_reactionKept ..)
  have hheld : ReactionKept failed held := .of_eq rfl rfl rfl rfl
  exact hfailed.trans (hheld.trans (assertPin_reactionKept ..))

theorem fatalLine_reactionKept (k : Nat) (h : HaloLine) (loc : W64) (q : Nat) : ReactionKept b (fatalLine k h loc q b) :=
  (fatalSteps_reactionKept ..).trans ((dropMasked_reactionKept ..).trans (writeLine_reactionKept ..))

theorem lostTag_reactionKept (q set way : Nat) : ReactionKept b (lostTag q set way b) := by
  unfold lostTag
  dsimp only
  split
  · exact cleanParity_reactionKept ..
  · split
    · exact fatalLine_reactionKept ..
    · exact (dropMasked_reactionKept ..).trans ((fatalSteps_reactionKept ..).trans (writeLine_reactionKept ..))

theorem lostUnnamed_reactionKept (q set way : Nat) : ReactionKept b (lostUnnamed q set way b) :=
  (dropMasked_reactionKept ..).trans ((fatalSteps_reactionKept ..).trans ((setErr_reactionKept ..).trans
    (.foldl _ (fun b l => writeLine_reactionKept l (b.peekLine l).1 true 0 b) _ _)))

theorem tagFault_reactionKept (q set way : Nat) (copy : Bool) : ReactionKept b (tagFault phys q set way copy b) := by
  unfold tagFault
  extract_lets k dirty
  split
  · exact cleanParity_reactionKept ..
  · split
    · exact lostUnnamed_reactionKept ..
    · exact lostTag_reactionKept ..

theorem controlFault_reactionKept (q set : Nat) : ReactionKept b (controlFault q set b) :=
  (noteHaloErrFree_reactionKept ..).trans ((setErr_reactionKept ..).trans (.foldl _ (fun b w => maskEntry_reactionKept b (haloKey q set w)) _ _))

theorem mergeFault_reactionKept (m word entry : Nat) : ReactionKept b (mergeFault l m word entry b) := by
  unfold mergeFault
  split
  · exact .refl b
  · dsimp only
    refine .trans ?_ (writeLine_reactionKept ..)
    refine .trans ?_ (fatalSteps_reactionKept ..)
    exact .of_eq rfl rfl rfl rfl

theorem lookupFault_reactionKept : ReactionKept b (lookupFault phys l b) := by
  unfold lookupFault
  refine .foldl _ (fun b f => ?_) _ _
  cases f with
  | tag q set way copy => dsimp only; split
                          · exact tagFault_reactionKept ..
                          · exact .refl b
  | control q set => dsimp only; split
                     · exact controlFault_reactionKept ..
                     · exact .refl b
  | mergeAddr k n => dsimp only; split
                     · exact mergeFault_reactionKept ..
                     · exact .refl b
  | data k q => exact .refl b
  | mergeData k q n => exact .refl b

theorem useWords_reactionKept (quarters : List Nat) : ReactionKept b (useWords phys l quarters b) := by
  unfold useWords
  refine .foldl _ (fun b f => ?_) _ _
  cases f with
  | tag q set way copy => exact .refl b
  | control q set => exact .refl b
  | mergeAddr k n => exact .refl b
  | data k q =>
    dsimp only; split
    · split
      · exact .refl b
      · split
        · exact fatalLine_reactionKept ..
        · exact cleanParity_reactionKept ..
    · exact .refl b
  | mergeData k q n => dsimp only; split
                       · exact mergeFault_reactionKept ..
                       · exact .refl b

theorem setMarks_reactionKept (c : Nat) (m : List (Nat × Nat × Nat)) : ReactionKept b (setMarks c m b) := by
  unfold setMarks
  exact .of_eq (by simp) (by simp) (by simp) (by simp)

theorem noteCorrected_reactionKept (ps : List Nat) : ReactionKept b (noteCorrected l ps b) := by
  unfold noteCorrected
  split
  · exact .refl b
  · refine .trans (b := feedMetric 3 (b.chanNo l) 1 (modChan (b.chanNo l) (fun x => { x with ce := sat32 x.ce }) b)) (.of_eq (by simp) (by simp) (by simp) (by simp)) ?_
    refine .foldl _ (fun b p => ?_) _ _
    extract_lets n counted rec' lds told
    have hcounted : ReactionKept b counted := .of_eq rfl rfl rfl rfl
    have htold : ReactionKept counted told := by
      simp only [told]; split
      · exact .refl _
      · exact .of_eq (by simp) (by simp) (by simp) (by simp)
    (repeat' split)
    · exact hcounted.trans (htold.trans ((setMarks_reactionKept ..).trans (setErrLog_reactionKept ..)))
    · exact hcounted.trans htold
    · exact hcounted

theorem freezeChan_reactionKept (c : Nat) (ca : Bool) (cap : FreezeCapture) (fail : Option Nat) (loc : W64) : ReactionKept b (freezeChan c ca cap fail loc b) := by
  unfold freezeChan
  extract_lets cap' drawn frozen at' post note
  have hfrozen : ReactionKept b frozen := .of_eq rfl rfl rfl rfl
  have hpost : ∀ x, ReactionKept x (post x) := fun x => postVendor_reactionKept ..
  have hnote : ∀ x, ReactionKept x (note x) := fun x => setErrLog_reactionKept ..
  split
  · refine hfrozen.trans (.trans ?_ (hnote _))
    split
    · exact .refl _
    · exact hpost _
  · exact hfrozen.trans (latchWith_reactionKept (fun x => (postVendor_reactionKept ..).trans (hpost _)) hnote ..)

theorem readDram_reactionKept (src : Reader) : ReactionKept b (readDram phys l src b).2 := by
  unfold readDram
  split
  · exact .refl b
  · dsimp only
    split
    · exact freezeChan_reactionKept ..
    · exact noteCorrected_reactionKept ..
    · (repeat' split)
      · exact (noteCorrected_reactionKept ..).trans (setErr_reactionKept ..)
      · exact noteCorrected_reactionKept ..
      · exact noteCorrected_reactionKept ..

theorem rmwBase_reactionKept : ReactionKept b (rmwBase phys l b).2 := by
  unfold rmwBase
  split
  · exact .refl b
  · have hread := readDram_reactionKept phys l b .rmw
    split
    next h => rw [h] at hread; exact hread
    next h => rw [h] at hread; exact hread

theorem lineOut_reactionKept (src : Reader) : ReactionKept b (lineOut phys src l b).2 := by
  unfold lineOut
  extract_lets c
  have hc : ReactionKept b c := (lookupFault_reactionKept ..).trans (useWords_reactionKept ..)
  clear_value c
  have hread := readDram_reactionKept phys l c src
  have hrmw := rmwBase_reactionKept phys l c
  split
  · exact hc
  · split
    · split
      · exact hc
      · exact hc.trans hrmw
    · split
      · exact hc
      · split
        next h => rw [h] at hread; exact hc.trans hread
        next h => rw [h] at hread; exact hc.trans hread
        next h => rw [h] at hread; exact hc.trans hread

end

/-! ### Saves -/

section
variable (phys : Phys)

theorem writeSb_reactionKept (b : Blk) : ReactionKept b (writeSb id b) := .of_eq rfl rfl rfl rfl

theorem takeSeqs_reactionKept (n : Nat) (b : Blk) : ReactionKept b (takeSeqs n b).2 := by
  unfold takeSeqs
  extract_lets c
  have hc : ReactionKept b c := by
    simp only [c]; split
    · exact writeSb_reactionKept b
    · exact .refl b
  exact hc.trans (.of_eq rfl rfl rfl rfl)

theorem saveLines_reactionKept (p : Nat) (b : Blk) : ReactionKept b (saveLines phys p b).2 :=
  foldl_keeps (fun a : PageLines × Blk => ReactionKept b a.2) _ _ (fun a j _ h => h.trans (lineOut_reactionKept phys (32 * p + j) a.2 .wb)) (.refl b)

theorem savePages_reactionKept (l : List Nat) (a : SMap FlashUnit × Bool × Blk) : ReactionKept a.2.2 (l.foldl (savePage phys) a).2.2 :=
  foldl_keeps (fun c : SMap FlashUnit × Bool × Blk => ReactionKept a.2.2 c.2.2) _ _
    (fun c p _ h => h.trans ((saveLines_reactionKept phys p c.2.2).trans (takeSeqs_reactionKept 1 _))) (.refl _)

theorem modStripes_pers (l : List Nat) (f : Blk → Stripe → Stripe) (b : Blk) : (l.foldl (fun b s => modStripe s (f b) b) b).pers = b.pers :=
  foldl_keeps (fun c : Blk => c.pers = b.pers) (fun b s => modStripe s (f b) b) l (fun _ _ _ h => h) rfl

/-- The save's generation is the newest, with the number that the superblock gives and without its mark (R188, R190). -/
theorem writeSave_generation (d : Dusk) (b : Blk) : ∃ g, (writeSave phys d b).pers.gens.getLast? = some g ∧ g.gen = b.pers.sb.nextGen ∧ g.mark = none ∧
    g.cause = (if d.thermal then 1 else 0) ∧ (writeSave phys d b).pers.dusk = some { d with step := .saving, todo := b.saveOrder } := by
  unfold writeSave
  extract_lets order q m retained r chunks c numbered ring stored g
  refine ⟨g, List.getLast?_concat, ?_, rfl, rfl, rfl⟩
  have hstored : stored.pers = numbered.pers := modStripes_pers ring (fun b _ => { pool := .journal, used := 64, seqFirst := q.1, gen := b.layout.gen }) numbered
  have hkept : ReactionKept b numbered := (takeSeqs_reactionKept 1 b).trans ((takeSeqs_reactionKept _ _).trans ((savePages_reactionKept phys order (_, _, m.2)).trans
    (takeSeqs_reactionKept _ _)))
  obtain ⟨-, -, hgen, -⟩ := hkept
  show stored.pers.sb.nextGen = _
  rw [hstored, hgen]

end

/-! ### The Dusk's steps -/

section
variable {phys : Phys} {b : Blk} {d : Dusk}

/-- The trigger's boot record holds the count (R186). -/
theorem trigger_pwr (thermal noResume : Bool) (hdusk : b.inDusk = false) (hd7 : b.fromD7 = true) :
    (trigger thermal noResume b).pwr.pwrFail = b.pwr.pwrFail ∧ (trigger thermal noResume b).pwr.pwrStable = b.pwr.pwrStable ∧
    (trigger thermal noResume b).pwr.boot.countFloor = b.mer.count := by
  have hkept : ReactionKept b (abortUpdate (abortDawn (holdWindows b))) :=
    (holdWindows_reactionKept b).trans ((abortDawn_reactionKept _).trans (abortUpdate_reactionKept _))
  obtain ⟨-, hcount, -, -⟩ := hkept
  obtain ⟨o, hdawn⟩ := abortDawn_eq (holdWindows b)
  simp [trigger, hdusk, hd7, stopWriteback, hcount]
  simp [hdawn]

theorem pwrFailAssert_serves (hdusk : b.inDusk = false) :
    pwrFailAssert b = duskOrOff false false { b with pwr := { b.pwr with pwrFail := true, pwrStable := false } } := by
  have hnone : (modPwr (fun p => { p with pwrFail := true, pwrStable := false }) b).pers.dusk = none := Option.isNone_iff_eq_none.1 (by
    unfold Blk.inDusk at hdusk; simpa using hdusk)
  unfold pwrFailAssert
  dsimp only
  rw [hnone]
  rfl

theorem pwrFailAssert_inDusk (h : b.pers.dusk = some d) (hd : d.thermal = false ∨ d.pwrFail = true) :
    pwrFailAssert b = { b with pwr := { b.pwr with pwrFail := true, pwrStable := false } } := by
  have hsome : (modPwr (fun p => { p with pwrFail := true, pwrStable := false }) b).pers.dusk = some d := h
  unfold pwrFailAssert
  dsimp only
  rw [hsome]
  exact if_neg (by rcases hd with hd | hd <;> simp [hd])

theorem duskFlushDone_none (h : b.pers.dusk = none) : duskFlushDone phys b = b := by unfold duskFlushDone; rw [h]

theorem duskFlushDone_flush (h : b.pers.dusk = some d) (hs : d.step = .flush) : duskFlushDone phys b =
    if (flushMet phys true b).ident.fuse.returnBegun != 0 then handOver d (flushMet phys true b)
    else writeSave phys d (finishPrograms (if (flushMet phys true b).replicaOk then flushMet phys true b else replicaReplace (flushMet phys true b))) := by
  unfold duskFlushDone; rw [h]; exact if_pos hs

theorem saveComplete_none (h : b.pers.dusk = none) : saveComplete phys b = b := by unfold saveComplete; rw [h]

theorem saveComplete_marks {g : SaveGen} (h : b.pers.dusk = some d) (hg : b.pers.gens.getLast? = some g) (hs : d.step = .saving) :
    saveComplete phys b = afterSave phys { (writeMark g b).2 with pers := { (writeMark g b).2.pers with
      gens := (writeMark g b).2.pers.gens.dropLast ++ [(writeMark g b).1], dusk := some { d with step := .complete, todo := [] } } } := by
  unfold saveComplete; rw [h, hg]; exact if_pos hs

theorem saveComplete_otherStep {g : SaveGen} (h : b.pers.dusk = some d) (hg : b.pers.gens.getLast? = some g) (hs : d.step ≠ .saving) : saveComplete phys b = b := by
  unfold saveComplete; rw [h, hg]; exact if_neg hs

theorem afterSave_none (h : b.pers.dusk = none) : afterSave phys b = b := by unfold afterSave; rw [h]

/-- Past its deadline the hand-over waits for the Logbook no longer (R419). -/
theorem handOverDeadline_handsOver (h : b.pers.dusk = some d) (hs : d.step = .complete) (hr : b.mayResume { d with logDone := true } = false) :
    handOverDeadline phys b = handOver { d with logDone := true } { b with pers := { b.pers with dusk := some { d with logDone := true } } } := by
  unfold handOverDeadline
  rw [h]
  dsimp only
  unfold afterSave
  dsimp only [modPers]
  rw [if_pos hs]
  refine (if_neg (fun hx => ?_)).trans (if_pos rfl)
  exact Bool.false_ne_true (hr.symm.trans hx)

end

/-! ### Restores -/

/-- What the landing of a page's lines leaves besides Halo and the lines. -/
structure LandKept (a b : Blk) : Prop where
  host : b.host = a.host
  far : b.far = a.far
  nvf : b.nvf = a.nvf
  cht : b.cht = a.cht
  pers : b.pers = a.pers
  pres : b.dram.pres = a.dram.pres
  presRuns : b.dram.presRuns = a.dram.presRuns
  presBase : b.dram.presBase = a.dram.presBase

theorem LandKept.refl (a : Blk) : LandKept a a := ⟨rfl, rfl, rfl, rfl, rfl, rfl, rfl, rfl⟩

theorem LandKept.trans {a b c : Blk} (h : LandKept a b) (g : LandKept b c) : LandKept a c :=
  ⟨g.host.trans h.host, g.far.trans h.far, g.nvf.trans h.nvf, g.cht.trans h.cht, g.pers.trans h.pers, g.pres.trans h.pres, g.presRuns.trans h.presRuns, g.presBase.trans h.presBase⟩

theorem LandKept.foldl {β : Type} (f : Blk → β → Blk) (hf : ∀ b x, LandKept b (f b x)) (l : List β) (b : Blk) : LandKept b (l.foldl f b) :=
  foldl_keeps (LandKept b) f l (fun a x _ h => h.trans (hf a x)) (.refl b)

theorem landLine_kept (l : Nat) (d : DramLine) (b : Blk) : LandKept b (landLine l d b) := by
  have hput := putLine_kept l d b
  have hland : LandKept b (putLine l d b) := ⟨hput.host, hput.far, hput.nvf, hput.cht, hput.pers, hput.pres, hput.presRuns, hput.presBase⟩
  unfold landLine
  dsimp only
  split
  · exact hland.trans ⟨rfl, rfl, rfl, rfl, rfl, rfl, rfl, rfl⟩
  · exact hland

theorem poisonPage_kept (p : Nat) (b : Blk) : LandKept b (poisonPage p b) := .foldl _ (fun b j => landLine_kept (32 * p + j) _ b) _ b

/-- A unit that lands leaves its page RESIDENT (R198). -/
theorem loadUnit_eq (p : Nat) (u : FlashUnit) (b : Blk) : ∃ c, LandKept b c ∧ loadUnit p u b = setPresence p .resident c := by
  unfold loadUnit
  extract_lets i landed
  exact ⟨landed, .foldl _ (fun b j => landLine_kept (32 * p + j) _ b) _ b, rfl⟩

theorem restoreLost_eq (p : Nat) (b : Blk) : ∃ c, LandKept b c ∧ (restoreLost p b).cht = c.cht ∧ (restoreLost p b).dram = (setPresence p .resident c).dram ∧
    (restoreLost p b).pers.from' = b.pers.from' ∧ (restoreLost p b).pers.lostPages = sat32 b.pers.lostPages := by
  have hkept := poisonPage_kept p b
  unfold restoreLost
  extract_lets shown run told
  have htold : told.cht = shown.cht ∧ told.dram = shown.dram ∧ told.pers = shown.pers := by
    simp only [told]; split
    · exact ⟨rfl, rfl, rfl⟩
    · exact ⟨by simp, by simp, by simp⟩
  obtain ⟨hcht, hdram, hpers⟩ := htold
  have hshown : shown.pers = b.pers := (setPresence_pers ..).trans hkept.pers
  refine ⟨poisonPage p b, hkept, ?_, ?_, ?_, ?_⟩
  · rw [modPers_cht, hcht]
    exact setPresence_cht ..
  · rw [modPers_dram, hdram]
  · rw [modPers_pers, hpers, hshown]
  · rw [modPers_pers, hpers, hshown]

theorem pointTo_frame (u : FlashUnit) (s slot : Nat) (b : Blk) : (pointTo u s slot b).cht = b.cht := by
  unfold pointTo
  cases u.kind <;> rfl

theorem setCurrent_frame (u : FlashUnit) (s slot : Nat) (b : Blk) : (setCurrent u s slot b).cht = b.cht := by
  unfold setCurrent
  rw [apply_ite (fun c : Blk => c.cht), pointTo_frame, ite_self]

theorem readMap_cht (phys : Phys) (i : Nat) (b : Blk) : (readMap phys i b).cht = b.cht := by
  have hreload : (reloadMap i b).cht = b.cht := by
    unfold reloadMap
    dsimp only
    refine foldl_keeps (fun c : Blk => c.cht = b.cht) _ _ (fun a s _ h => ?_) rfl
    refine foldl_keeps (fun c : Blk => c.cht = b.cht) _ _ (fun a e _ h => ?_) h
    have hpoint : ∀ (q : Prop) [Decidable q], (if q then setCurrent e.2 s e.1 a else a).cht = b.cht := fun q _ => by
      rw [apply_ite (fun c : Blk => c.cht), setCurrent_frame, ite_self, h]
    exact hpoint _
  unfold readMap
  dsimp only
  split
  · exact hreload
  · rfl

/-- The block after a PENDING page's lines have landed, before its restore is booked. -/
def landRestored (p bad : Nat) (m : Blk) : Blk :=
  if m.fillsOnRestore p then setPresence p .resident m else match (m.copiesOf p).drop bad with
    | [] => restoreLost p m
    | (u, journal) :: _ =>
      modPers (fun x => { x with dirty := if journal then SMap.insert x.dirty p () else x.dirty, stamps := SMap.put 0 x.stamps p u.stamp }) (loadUnit p u m)

/-- A restore is booked: the page's descriptor goes (R198). -/
def bookRestored (p : Nat) (b : Blk) : Blk :=
  modPers (fun x => { x with from' := SMap.erase x.from' p, restored := sat32 x.restored, issued := x.issued.filter (· != p) }) b

section
variable {phys : Phys} {p bad : Nat} {b m : Blk}

theorem restoreDone_idle (h : b.presence p ≠ .pending ∨ b.inDusk = true) : restoreDone phys p bad b = b := by
  unfold restoreDone
  exact if_pos (by rcases h with h | h <;> simp [h])

theorem restoreDone_lands (hp : b.presence p = .pending) (hd : b.inDusk = false)
    (hm : m = (if SMap.find? b.pers.from' p = some .lost then b else readMap phys (homeLeaf p) b)) :
    restoreDone phys p bad b = retryWhy phys (.restore p) (noteCeiling (bookRestored p (landRestored p bad m))) := by
  unfold restoreDone landRestored bookRestored
  rw [hp, hd, hm]
  simp only [beq_iff_eq]
  exact if_neg (by decide)

theorem landRestored_fills (h : m.fillsOnRestore p = true) : landRestored p bad m = setPresence p .resident m := by unfold landRestored; exact if_pos h

theorem landRestored_copy {u : FlashUnit} {j : Bool} {rest : List (FlashUnit × Bool)} (h : m.fillsOnRestore p = false) (hc : (m.copiesOf p).drop bad = (u, j) :: rest) :
    landRestored p bad m =
      modPers (fun x => { x with dirty := if j then SMap.insert x.dirty p () else x.dirty, stamps := SMap.put 0 x.stamps p u.stamp }) (loadUnit p u m) := by
  unfold landRestored; rw [h, hc]; rfl

theorem landRestored_lost (h : m.fillsOnRestore p = false) (hc : (m.copiesOf p).drop bad = []) : landRestored p bad m = restoreLost p m := by
  unfold landRestored; rw [h, hc]; rfl

/-- However its lines landed, the page is RESIDENT, and its descriptor is as the map gave it (R198). -/
theorem landRestored_resident (hcarve : (carveAt m.cht.cur.near (p * 4096)).isNone = true) :
    (landRestored p bad m).presence p = .resident ∧ (landRestored p bad m).pers.from' = m.pers.from' := by
  have hshow : ∀ c : Blk, LandKept m c → (setPresence p .resident c).presence p = .resident := fun c hc => setPresence_presence (by rw [hc.cht]; exact hcarve) _
  cases hf : m.fillsOnRestore p with
  | true => rw [landRestored_fills hf]; exact ⟨hshow m (.refl m), rfl⟩
  | false =>
    cases hc : (m.copiesOf p).drop bad with
    | nil =>
      obtain ⟨c, hkept, hcht, hdram, hfrom, -⟩ := restoreLost_eq p m
      rw [landRestored_lost hf hc]
      refine ⟨?_, hfrom⟩
      rw [← hshow c hkept]
      unfold Blk.presence Blk.presDefault
      rw [hcht, hdram]
      rfl
    | cons x rest =>
      obtain ⟨c, hkept, hload⟩ := loadUnit_eq p x.1 m
      rw [landRestored_copy hf hc, hload]
      exact ⟨hshow c hkept, by rw [modPers_pers, setPresence_pers, hkept.pers]⟩

theorem backgroundRestore_inDusk (h : b.inDusk = true) : backgroundRestore b = b := by
  unfold backgroundRestore; rw [h]; exact if_pos (by simp)

theorem backgroundRestore_issues (hh : b.host.held = []) (hd : b.inDusk = false) (hn : b.nextRestore = some p) :
    backgroundRestore b = { b with pers := { b.pers with issued := b.pers.issued ++ [p] } } := by
  unfold backgroundRestore; rw [hh, hd, hn]; rfl

end

/-! ### The end of a generation -/

theorem generationDeath_none {n : Nat} {b : Blk} (h : b.pers.gens.find? (fun g => g.gen = n) = none) : generationDeath n b = b := by unfold generationDeath; rw [h]

theorem generationDeath_dies {n : Nat} {g : SaveGen} {b : Blk} (h : b.pers.gens.find? (fun g => g.gen = n) = some g) (hl : b.pers.live.contains n = true)
    (hg : b.genDead g = true) (hd : b.inDusk = false) : ∃ k, generationDeath n b = modNvf (fun v => { v with
      jErase := v.jErase + (g.bytes - Nat.min g.bytes (b.nvf.jRing - b.cht.cur.pers.journalGib * gib)),
      jRing := v.jRing - Nat.min g.bytes (b.nvf.jRing - b.cht.cur.pers.journalGib * gib), stripes := k })
      (writeSb id (modPers (fun p => { p with gens := p.gens.filter (fun x => x.gen != n), live := p.live.filter (· != n) }) b)) := by
  unfold generationDeath
  rw [h]
  dsimp only
  rw [hl, hg, hd]
  exact ⟨_, if_neg (by decide)⟩

/-- Settles O30. -/
theorem duskSaveAndRestore : Obligations.DuskSaveAndRestore := by
  unfold Obligations.DuskSaveAndRestore
  intro s phys haon
  refine ⟨fun hd hs => ?fires, fun hd h7 => ?offRequest, fun d hd h => ?again, fun h => ?noDusk, fun d hd hs => ⟨fun h => ?returns, fun h hr => ?saves, fun h hr => ?replaces⟩,
    fun d b => writeSave_generation phys d b, fun d g hd hg => ⟨fun hs => ?marks, fun hs => ?otherStep⟩, fun d hd hs hr => ?deadline, fun h => ?stable,
    fun p n h => ?notPending, fun p n m hp hd hcarve hm => ?restores, fun h => ?backgroundDusk, fun p hh hd hn => ?background, fun n h => ?noGeneration,
    fun n g back hf hl hg hd hback => ?dies⟩
  case fires =>
    have h7 : ({ s.now with pwr := { s.now.pwr with pwrFail := true, pwrStable := false } } : Blk).fromD7 = true := by
      unfold Blk.inService at hs
      unfold Blk.fromD7
      simp only [decide_eq_true_eq] at hs
      rw [hs]; rfl
    obtain ⟨hdusk, -, -⟩ := trigger_begins_dusk false false { s.now with pwr := { s.now.pwr with pwrFail := true, pwrStable := false } } hd h7
    obtain ⟨hfail, hstable, hfloor⟩ :=
      trigger_pwr (b := { s.now with pwr := { s.now.pwr with pwrFail := true, pwrStable := false } }) false false hd h7
    refine ⟨_, by rw [exec_pwrFailAssert s haon, pwrFailAssert_serves hd, duskOrOff, if_pos h7], ?_⟩
    rw [State.after, Blk.inDusk, closeStep_pwr, closeStep_pers, hfail, hstable, hdusk, hfloor]
    exact ⟨rfl, rfl, rfl, rfl, rfl⟩
  case offRequest =>
    have h7' : ({ s.now with pwr := { s.now.pwr with pwrFail := true, pwrStable := false } } : Blk).fromD7 = false := h7
    rw [exec_pwrFailAssert s haon, pwrFailAssert_serves hd, duskOrOff, h7', if_neg Bool.false_ne_true]
  case again => rw [exec_pwrFailAssert s haon, pwrFailAssert_inDusk hd h]
  case noDusk =>
    refine ⟨?_, ?_, ?_⟩
    · rw [exec_duskFlushDone s haon, duskFlushDone_none h]
    · rw [exec_saveComplete s haon, saveComplete_none h]
    · rw [exec_handOverDeadline s haon, handOverDeadline, h]
  case returns => rw [exec_duskFlushDone s haon, duskFlushDone_flush hd hs, if_pos (by simpa using h)]
  case saves => rw [exec_duskFlushDone s haon, duskFlushDone_flush hd hs, if_neg (by simp [h]), if_pos hr]
  case replaces => rw [exec_duskFlushDone s haon, duskFlushDone_flush hd hs, if_neg (by simp [h]), if_neg (by simp [hr])]
  case marks => exact ⟨by rw [exec_saveComplete s haon, saveComplete_marks hd hg hs], rfl⟩
  case otherStep => rw [exec_saveComplete s haon, saveComplete_otherStep hd hg hs]
  case deadline => rw [exec_handOverDeadline s haon, handOverDeadline_handsOver hd hs hr]
  case stable =>
    have hnote : ∀ c : Blk, (noteOn s.now c).pwr.pwrFail = c.pwr.pwrFail ∧ (noteOn s.now c).pwr.pwrStable = c.pwr.pwrStable ∧ (noteOn s.now c).dram = c.dram ∧
        (noteOn s.now c).nvf = c.nvf ∧ (noteOn s.now c).pers = c.pers := by
      intro c; unfold noteOn; split
      · exact ⟨by simp [powRecord, modPwr], by simp [powRecord, modPwr], by simp, by simp, by simp⟩
      · exact ⟨rfl, rfl, rfl, rfl, rfl⟩
    obtain ⟨hfail, hstable, hdram, hnvf, hpers⟩ := hnote (modPwr (fun p => { p with pwrFail := false, pwrStable := true }) s.now)
    refine ⟨_, by rw [exec_pwrFailReturn s haon, pwrFailReturn, afterSave_none (by rw [hpers]; exact h)], ?_⟩
    rw [hfail, hstable, hdram, hnvf]
    exact ⟨rfl, rfl, rfl, rfl⟩
  case notPending => rw [exec_restoreDone s haon, restoreDone_idle h]
  case restores =>
    have hcht : m.cht = s.now.cht := by rw [hm]; split <;> simp only [readMap_cht]
    obtain ⟨hres, hfrom⟩ := landRestored_resident (bad := n) (p := p) (m := m) (by rw [hcht]; exact hcarve)
    refine ⟨bookRestored p (landRestored p n m), by rw [exec_restoreDone s haon, restoreDone_lands hp hd hm], hres, ?_, fun hf => ?_, fun u j rest hf hc => ?_, fun hf hc => ?_⟩
    · rw [bookRestored, modPers_pers, hfrom]
    · rw [bookRestored, modPers_pers, landRestored_fills hf]; exact ⟨rfl, rfl⟩
    · obtain ⟨c, hkept, hload⟩ := loadUnit_eq p u m
      have hpers : (loadUnit p u m).pers = m.pers := by rw [hload]; exact hkept.pers
      rw [landRestored_copy hf hc, Blk.stampOf, bookRestored, modPers_pers, modPers_pers, hpers]
      exact ⟨SMap.get_put_same .., rfl, rfl⟩
    · obtain ⟨c, -, -, -, -, hlost⟩ := restoreLost_eq p m
      rw [bookRestored, modPers_pers, landRestored_lost hf hc]
      exact hlost
  case backgroundDusk => rw [exec_backgroundRestore s haon, backgroundRestore_inDusk h]
  case background => rw [exec_backgroundRestore s haon, backgroundRestore_issues hh hd hn]
  case noGeneration => rw [exec_generationDeath s haon, generationDeath_none h]
  case dies =>
    subst hback
    obtain ⟨k, hdies⟩ := generationDeath_dies hf hl hg hd
    refine ⟨_, by rw [exec_generationDeath s haon, hdies], ?_⟩
    rw [State.after, closeStep_pers, closeStep_nvf, closeStep_dram]
    exact ⟨rfl, rfl, rfl, rfl, rfl, rfl⟩

end Sys2Proof.Machine
end

section
/-!
PROOF. The staging cache: fills, write-backs, promotes and evicts (O33; R240 to R245).
-/
namespace Sys2Proof.Machine
open Sys2Proof

/-! ### Directory entries -/

theorem modEntry_dirEntry (i : Nat) (f : StageEntry → StageEntry) (b : Blk) : (modEntry i f b).dirEntry i = f (b.dirEntry i) := by
  unfold Blk.dirEntry
  rw [(modEntry_marked i f b).far, Blk.withEntry]
  exact SMap.get_upd_same ..

theorem modEntry_dirEntry_other {i j : Nat} (f : StageEntry → StageEntry) (b : Blk) (h : j ≠ i) : (modEntry i f b).dirEntry j = b.dirEntry j := by
  unfold Blk.dirEntry
  rw [(modEntry_marked i f b).far, Blk.withEntry]
  exact SMap.get_upd_other _ _ _ h

theorem modEntry_stageCtl (i : Nat) (f : StageEntry → StageEntry) (b : Blk) (n : Nat) : (modEntry i f b).stageCtl n = b.stageCtl n := by
  unfold Blk.stageCtl
  rw [(modEntry_marked i f b).far, Blk.withEntry]

@[simp] theorem modCtl_stageCtl (n : Nat) (f : StageCtl → StageCtl) (b : Blk) : (modCtl n f b).stageCtl n = f (b.stageCtl n) := SMap.get_upd_same ..

/-- The end of a write-back: CLEAN, or DIRTY where the page was redirtied (R242). -/
theorem written_eq (e : StageEntry) : e.written =
    { e with state := (if e.redirtied then .dirty else .clean), redirtied := false, taker := if e.redirtied then none else e.taker } := by
  unfold StageEntry.written
  cases h : e.redirtied
  · exact (if_neg Bool.false_ne_true).trans (by rw [if_neg Bool.false_ne_true, if_neg Bool.false_ne_true, ← h])
  · rfl

/-! ### Fills -/

/-- What a fill leaves besides Halo, the lines and the presence of its page. -/
def FillKept (a b : Blk) : Prop := b.host = a.host ∧ b.far = a.far ∧ b.nvf = a.nvf

theorem LandKept.filled {a b : Blk} (h : LandKept a b) : FillKept a b := ⟨h.host, h.far, h.nvf⟩

theorem FillKept.trans {a b c : Blk} (h : FillKept a b) (g : FillKept b c) : FillKept a c := by
  obtain ⟨hhost, hfar, hnvf⟩ := h
  obtain ⟨hhost', hfar', hnvf'⟩ := g
  exact ⟨hhost'.trans hhost, hfar'.trans hfar, hnvf'.trans hnvf⟩

theorem setPresence_filled (p : Nat) (v : Presence) (b : Blk) : FillKept b (setPresence p v b) := ⟨rfl, rfl, rfl⟩

theorem loadUnit_filled (p : Nat) (u : FlashUnit) (b : Blk) : FillKept b (loadUnit p u b) := by
  obtain ⟨c, hkept, hload⟩ := loadUnit_eq p u b
  rw [hload]
  exact hkept.filled.trans (setPresence_filled ..)

theorem poisonLines_filled (p : Nat) (js : List Nat) (b : Blk) : FillKept b (poisonLines p js b) :=
  (LandKept.foldl (fun b j => landLine (32 * p + j) (b.lineFor (32 * p + j) 0 true 0) b) (fun b j => landLine_kept (32 * p + j) _ b) js b).filled

theorem landZeros_filled (p : Nat) (b : Blk) : FillKept b (landZeros p b) :=
  (LandKept.foldl (fun b j => landLine (32 * p + j) (b.lineFor (32 * p + j) 0 false 0) b) (fun b j => landLine_kept (32 * p + j) _ b) _ b).filled

theorem fillFrom_filled (p f : Nat) (bad : List Nat) (b : Blk) : FillKept b (fillFrom p f bad b).2 := by
  unfold fillFrom
  extract_lets shown lost
  have hshown : FillKept b shown := setPresence_filled ..
  have hpoison : FillKept b (poisonPage p shown) := hshown.trans (poisonPage_kept p shown).filled
  have hzeros : FillKept b (landZeros p shown) := hshown.trans (landZeros_filled p shown)
  have hload : ∀ u js, FillKept b (poisonLines p js (loadUnit p u shown)) := fun u js => hshown.trans ((loadUnit_filled p u shown).trans (poisonLines_filled p js _))
  clear_value shown
  split
  · split
    · dsimp only; exact hpoison
    · dsimp only; exact hzeros
  · split
    · dsimp only; exact hpoison
    · dsimp only; exact hload _ _

/-- The commands that noted a page's fill forget it (R245). -/
def forgetFill (f : Nat) (b : Blk) : Blk := modFar (fun x => { x with ctl := SMap.mapVal x.ctl (fun _ c => { c with filling := c.filling.filter (· != f) }) }) b

theorem forgetFill_dirEntry (f : Nat) (b : Blk) (j : Nat) : (forgetFill f b).dirEntry j = b.dirEntry j := rfl

theorem forgetFill_frame (f : Nat) (b : Blk) : (forgetFill f b).host = b.host ∧ (forgetFill f b).nvf = b.nvf := ⟨rfl, rfl⟩

/-- The block after a landing fill: the entry is CLEAN (R240, R245). -/
def fillLanded (f i : Nat) (bad : List Nat) (m : Blk) : Blk :=
  forgetFill f (modEntry i (fun e => { e.arrive with state := .clean }) (fillFrom (m.slotPage i) f bad m).2)

section
variable {phys : Phys} {f i : Nat} {bad : List Nat} {b m : Blk}

theorem stagingFillLand_none (hm : m = dirRead phys (b.stageSet f) b) (h : m.stageFind f = none) : stagingFillLand phys f bad b = m := by
  unfold stagingFillLand
  dsimp only
  rw [← hm, h]

theorem stagingFillLand_idle (hm : m = dirRead phys (b.stageSet f) b) (h : m.stageFind f = some i) (hs : (m.dirEntry i).state ≠ .filling ∨ m.inDusk = true) :
    stagingFillLand phys f bad b = m := by
  unfold stagingFillLand
  dsimp only
  rw [← hm, h]
  exact if_pos (by rcases hs with hs | hs <;> simp [hs])

theorem stagingFillLand_lands (hm : m = dirRead phys (b.stageSet f) b) (h : m.stageFind f = some i) (hs : (m.dirEntry i).state = .filling) (hd : m.inDusk = false) :
    stagingFillLand phys f bad b = wayFreed phys f (retryWhy phys (.staging f) (fillLanded f i bad m)) := by
  unfold stagingFillLand
  dsimp only
  rw [← hm, h]
  dsimp only
  rw [hs, hd]
  exact if_neg (by decide)

theorem fillLanded_dirEntry : (fillLanded f i bad m).dirEntry i = { (m.dirEntry i).arrive with state := .clean } := by
  obtain ⟨-, hfar, -⟩ := fillFrom_filled (m.slotPage i) f bad m
  have hentry : ∀ j, ((fillFrom (m.slotPage i) f bad m).2).dirEntry j = m.dirEntry j := fun j => by unfold Blk.dirEntry; rw [hfar]
  rw [fillLanded, forgetFill_dirEntry, modEntry_dirEntry, hentry]

theorem fillLanded_dirEntry_other {j : Nat} (hj : j ≠ i) : (fillLanded f i bad m).dirEntry j = m.dirEntry j := by
  obtain ⟨-, hfar, -⟩ := fillFrom_filled (m.slotPage i) f bad m
  have hentry : ((fillFrom (m.slotPage i) f bad m).2).dirEntry j = m.dirEntry j := by unfold Blk.dirEntry; rw [hfar]
  rw [fillLanded, forgetFill_dirEntry, modEntry_dirEntry_other _ _ hj, hentry]

theorem fillLanded_frame : (fillLanded f i bad m).host = m.host ∧ (fillLanded f i bad m).nvf = m.nvf := by
  obtain ⟨hhost, -, hnvf⟩ := fillFrom_filled (m.slotPage i) f bad m
  have hmarked := modEntry_marked i (fun e => { e.arrive with state := .clean }) (fillFrom (m.slotPage i) f bad m).2
  rw [fillLanded, (forgetFill_frame _ _).1, (forgetFill_frame _ _).2, hmarked.host, hmarked.nvf]
  exact ⟨hhost, hnvf⟩

/-! ### Ends of write-backs -/

theorem farWritebackDone_none (h : b.stageFind f = none) : farWritebackDone phys f b = b := by unfold farWritebackDone; rw [h]

section
variable {u : FlashUnit} {s slot : Nat} {red : Bool}

theorem farWritebackDone_waits (hi : b.stageFind f = some i) (hred : SMap.find? b.pers.inFlight (b.slotPage i) = some red)
    (hu : SMap.find? b.pers.programs (b.slotPage i) = some u) (hat : b.unitPlace u = some (s, slot)) (hdone : (b.stripe s).done.contains (slot / 4) = false)
    (hmay : b.mayProgram s (slot / 4) = false) : farWritebackDone phys f b = b := by
  unfold farWritebackDone programDone
  rw [hi]
  dsimp only
  rw [hred, hu]
  dsimp only
  rw [hat]
  dsimp only
  rw [hdone, hmay]
  rfl

/-- A Far page's program ends: its map entry follows unless it was redirtied (R242). -/
theorem farWritebackDone_ends (hi : b.stageFind f = some i) (hred : SMap.find? b.pers.inFlight (b.slotPage i) = some red)
    (hu : SMap.find? b.pers.programs (b.slotPage i) = some u) (hat : b.unitPlace u = some (s, slot)) (hkind : u.kind = .far)
    (hm : ((b.stripe s).done.contains (slot / 4) = true ∧ m = b) ∨
      ((b.stripe s).done.contains (slot / 4) = false ∧ b.mayProgram s (slot / 4) = true ∧ m = pageProgrammed s (slot / 4) b)) :
    farWritebackDone phys f b = wayFreed phys f (modEntry i StageEntry.written (programEnds (b.slotPage i) red b.gov (if red then m else setCurrent u s slot m))) := by
  have hgo : (!(b.stripe s).done.contains (slot / 4) && !b.mayProgram s (slot / 4)) = false := by
    rcases hm with ⟨h, -⟩ | ⟨-, h, -⟩ <;> simp only [h, Bool.not_true, Bool.false_and, Bool.and_false]
  have hprog : (if (b.stripe s).done.contains (slot / 4) then b else pageProgrammed s (slot / 4) b) = m := by
    rcases hm with ⟨h, rfl⟩ | ⟨h, -, rfl⟩
    · exact if_pos h
    · exact if_neg (by rw [h]; exact Bool.false_ne_true)
  unfold farWritebackDone programDone
  rw [hi]
  dsimp only
  rw [hred, hu]
  dsimp only
  rw [hat]
  dsimp only
  rw [hgo, hprog, hkind, if_neg Bool.false_ne_true]
  cases red <;> rfl

end

/-! ### Promotes and evicts -/

theorem stageCommand_outstanding {n dpa count : Nat} {evict : Bool} (h : (b.stageCtl n).busy.isSome = true) :
    stageCommand phys evict n dpa count b = modCtl n (fun c => { c with result := 5 }) b := by
  unfold stageCommand; exact if_pos h

theorem stageCommand_runs {n dpa count : Nat} {evict : Bool} (h : (b.stageCtl n).busy = none) :
    stageCommand phys evict n dpa count b = stageRun phys n 4097 (stageBegin evict n dpa count b) := by
  unfold stageCommand; rw [h]; rfl

/-- A command of one page whose page is done ends with RESULT 0. -/
theorem stageRun_done {n k dpa : Nat} {c : Blk} (hb : (b.stageCtl n).busy = some (dpa, 1))
    (hp : (if (b.stageCtl n).evict then evictPage phys n dpa b else promotePage phys n dpa b) = .done c) :
    stageRun phys n (k + 2) b = modCtl n (fun x => { x with busy := none, result := 0 })
      (modCtl n (fun x => { x with busy := some (dpa + 4096, 0), pagesDone := x.pagesDone + 1 }) c) := by
  rw [stageRun, hb]
  dsimp only
  rw [if_neg (by decide), hp]
  dsimp only
  rw [stageRun, modCtl_stageCtl]
  rfl

theorem stageRun_fails {n k dpa left r : Nat} {c : Blk} (hb : (b.stageCtl n).busy = some (dpa, left)) (hl : left ≠ 0)
    (hp : (if (b.stageCtl n).evict then evictPage phys n dpa b else promotePage phys n dpa b) = .fail r c) :
    stageRun phys n (k + 1) b = modCtl n (fun x => { x with busy := none, result := r }) c := by
  rw [stageRun, hb]
  dsimp only
  rw [if_neg hl, hp]

/-- A promote of a page that is being filled notes the fill. -/
def notedFill (filling : Bool) (n f : Nat) (c : Blk) : Blk := if filling then modCtl n (fun x => { x with filling := x.filling ++ [f] }) c else c

section
variable {n dpa : Nat}

/-- A promote of a staged page that is referenced takes a reference (R244). -/
theorem promotePage_takes (ha : b.area dpa = .far) (hr : b.reach n dpa = .ok) (hh : b.homed dpa = true)
    (hm : m = dirRead phys (b.stageSet (b.farPage dpa)) b) (hi : m.stageFind (b.farPage dpa) = some i) (hc : 0 < (m.dirEntry i).count) :
    promotePage phys n dpa b = .done (notedFill ((m.dirEntry i).state == .filling) n (b.farPage dpa) (modEntry i (fun e => e.setRefs m.sideB n true false) m)) := by
  unfold promotePage
  dsimp only
  rw [ha, hr, hh, ← hm, hi]
  dsimp only
  rw [decide_eq_false (Nat.ne_of_gt hc)]
  rfl

theorem promotePage_pinned (ha : b.area dpa = .far) (hr : b.reach n dpa = .ok) (hh : b.homed dpa = true)
    (hm : m = dirRead phys (b.stageSet (b.farPage dpa)) b) (hi : m.stageFind (b.farPage dpa) = some i) (hc : (m.dirEntry i).count = 0)
    (hp : m.cht.cur.transit.pinWays ≤ ((List.range 16).filter (fun w => decide (0 < (m.dirEntry (16 * m.stageSet (b.farPage dpa) + w)).count))).length) :
    promotePage phys n dpa b = .fail 3 (setErr .trn 5 m) := by
  unfold promotePage
  dsimp only
  rw [ha, hr, hh, ← hm, hi]
  dsimp only
  rw [decide_eq_true hc, decide_eq_true hp]
  rfl

theorem promotePage_notFar (ha : b.area dpa ≠ .far) : promotePage phys n dpa b = .fail 2 b := by
  unfold promotePage
  exact if_pos (by simp [ha])

/-- An evict of a page that the device holds drops its reference, or marks it while the page is FILLING (R244, R245). -/
theorem evictPage_drops (ha : b.area dpa = .far) (hh : b.homed dpa = true) (hm : m = dirRead phys (b.stageSet (b.farPage dpa)) b) (hma : m.area dpa = .far)
    (hi : m.stageFind (m.farPage dpa) = some i) (hold : (m.dirEntry i).holds m.sideB n = true) :
    evictPage phys n dpa b = .done (modEntry i (fun e => if (m.dirEntry i).state = .filling then e.setRefs m.sideB n true true else e.setRefs m.sideB n false false) m) := by
  unfold evictPage
  dsimp only
  rw [hh, ha, if_neg (by decide), if_pos rfl, ← hm, hma, if_pos rfl, hi]
  dsimp only
  rw [hold, if_neg (by decide)]
  by_cases hf : (m.dirEntry i).state = .filling
  · rw [if_pos (beq_iff_eq.2 hf)]
    simp only [if_pos hf]
  · rw [if_neg (fun h => hf (beq_iff_eq.1 h))]
    simp only [if_neg hf]

theorem evictPage_notHeld (ha : b.area dpa = .far) (hh : b.homed dpa = true) (hm : m = dirRead phys (b.stageSet (b.farPage dpa)) b) (hma : m.area dpa = .far)
    (hi : m.stageFind (m.farPage dpa) = some i) (hold : (m.dirEntry i).holds m.sideB n = false) : evictPage phys n dpa b = .fail 4 m := by
  unfold evictPage
  dsimp only
  rw [hh, ha, if_neg (by decide), if_pos rfl, ← hm, hma, if_pos rfl, hi]
  dsimp only
  rw [hold]
  rfl

end

theorem stageBegin_places (evict : Bool) (n dpa count : Nat) (b : Blk) (x : Nat) : (stageBegin evict n dpa count b).area x = b.area x ∧
    (stageBegin evict n dpa count b).homed x = b.homed x ∧ (stageBegin evict n dpa count b).reach n x = b.reach n x ∧
    (stageBegin evict n dpa count b).stageSet x = b.stageSet x ∧ (stageBegin evict n dpa count b).farPage x = b.farPage x := ⟨rfl, rfl, rfl, rfl, rfl⟩

theorem stageBegin_ctl (evict : Bool) (n dpa count : Nat) (b : Blk) : ((stageBegin evict n dpa count b).stageCtl n).busy = some (dpa / 4096 * 4096, Nat.min count 4096) ∧
    ((stageBegin evict n dpa count b).stageCtl n).evict = evict ∧ ((stageBegin evict n dpa count b).stageCtl n).pagesDone = 0 := by
  rw [stageBegin, modCtl_stageCtl]
  exact ⟨rfl, rfl, rfl⟩

theorem stageBegin_onePage (evict : Bool) (n p : Nat) (b : Blk) : ((stageBegin evict n (4096 * p) 1 b).stageCtl n).busy = some (4096 * p, 1) := by
  have hpage : 4096 * p / 4096 * 4096 = 4096 * p := by omega
  rw [(stageBegin_ctl evict n (4096 * p) 1 b).1, hpage]
  rfl

/-- The block after a page's command of one page, from the block `c` in which the page is done. -/
def onePageDone (n dpa : Nat) (c : Blk) : Blk :=
  modCtl n (fun x => { x with busy := none, result := 0 }) (modCtl n (fun x => { x with busy := some (dpa + 4096, 0), pagesDone := x.pagesDone + 1 }) c)

theorem onePageDone_frame (n dpa : Nat) (c : Blk) : (∀ j, (onePageDone n dpa c).dirEntry j = c.dirEntry j) ∧ (onePageDone n dpa c).nvf = c.nvf := ⟨fun _ => rfl, rfl⟩

theorem notedFill_frame (q : Bool) (n f : Nat) (c : Blk) : (∀ j, (notedFill q n f c).dirEntry j = c.dirEntry j) ∧
    ((notedFill q n f c).stageCtl n).pagesDone = (c.stageCtl n).pagesDone ∧ (notedFill q n f c).nvf = c.nvf := by
  cases q
  · exact ⟨fun _ => rfl, rfl, rfl⟩
  · refine ⟨fun _ => rfl, ?_, rfl⟩
    rw [notedFill, if_pos rfl, modCtl_stageCtl]

/-- What such a command leaves where its page changed entry `i`. -/
theorem onePageDone_entry (n dpa : Nat) (q : Bool) (f i : Nat) (g : StageEntry → StageEntry) (m : Blk) {b : Blk} (hb : b = onePageDone n dpa (notedFill q n f (modEntry i g m))) :
    (b.stageCtl n).result = 0 ∧ (b.stageCtl n).pagesDone = (m.stageCtl n).pagesDone + 1 ∧ (b.stageCtl n).busy = none ∧ b.dirEntry i = g (m.dirEntry i) ∧
    (∀ j, j ≠ i → b.dirEntry j = m.dirEntry j) ∧ b.nvf = m.nvf := by
  obtain ⟨hentry, hpages, hnvf⟩ := notedFill_frame q n f (modEntry i g m)
  have hshow : ∀ j, b.dirEntry j = (modEntry i g m).dirEntry j := fun j => by rw [← hentry, hb, (onePageDone_frame n dpa _).1]
  have hctl : b.stageCtl n = { (notedFill q n f (modEntry i g m)).stageCtl n with
      busy := none, pagesDone := ((notedFill q n f (modEntry i g m)).stageCtl n).pagesDone + 1, result := 0 } := by
    rw [hb, onePageDone, modCtl_stageCtl, modCtl_stageCtl]
  rw [hctl, hpages, modEntry_stageCtl]
  refine ⟨rfl, rfl, rfl, ?_, fun j hj => ?_, ?_⟩
  · rw [hshow, modEntry_dirEntry]
  · rw [hshow, modEntry_dirEntry_other _ _ hj]
  · rw [hb, (onePageDone_frame n dpa _).2, hnvf]
    exact (modEntry_marked i g m).nvf

end

/-- Settles O33. -/
theorem stagingFillsPromotesAndEvicts : Obligations.StagingFillsPromotesAndEvicts := by
  unfold Obligations.StagingFillsPromotesAndEvicts
  intro s phys haon
  refine ⟨fun f bad m hm h => ?noFill, fun f bad m i hm h hs hd => ?lands, fun f bad m i hm h hs => ?notFilling, fun f h => ?noWriteBack,
    fun f i u at' red hi hred hu hat hkind => ⟨fun hdone hmay => ?waits, fun m hm => ?ends⟩, fun b i => ?written, fun n hld => ⟨fun dpa count hbusy => ?outstanding,
      fun p i m hb ha hh hr hm hi => ⟨fun hc => ?takes, fun hc hp => ?pinned⟩, fun p i m hb ha hh hm hma hi => ⟨fun hold => ?drops, fun hold => ?notHeld⟩,
      fun dpa count hb hcount ha => ?notFar⟩⟩
  case noFill => rw [exec_stagingFillLand s haon, stagingFillLand_none hm h]
  case lands =>
    obtain ⟨hhost, hnvf⟩ := fillLanded_frame (f := f) (i := i) (bad := bad) (m := m)
    refine ⟨fillLanded f i bad m, by rw [exec_stagingFillLand s haon, stagingFillLand_lands hm h hs hd], ?_⟩
    rw [fillLanded_dirEntry, hhost, hnvf]
    exact ⟨rfl, rfl, rfl, rfl, rfl, rfl, fun j hj => fillLanded_dirEntry_other hj, rfl, rfl⟩
  case notFilling => rw [exec_stagingFillLand s haon, stagingFillLand_idle hm h hs]
  case noWriteBack => rw [exec_farWritebackDone s haon, farWritebackDone_none h]
  case waits => rw [exec_farWritebackDone s haon, farWritebackDone_waits hi hred hu hat hdone hmay]
  case ends => rw [exec_farWritebackDone s haon, farWritebackDone_ends hi hred hu hat hkind hm]
  case written => rw [modEntry_dirEntry, written_eq]
  case outstanding =>
    refine ⟨?_, ?_⟩
    · rw [exec_trnPromote s haon, viaLd_taken hld, trnPromote, stageCommand_outstanding hbusy]
    · rw [exec_trnEvict s haon, viaLd_taken hld, trnEvict, stageCommand_outstanding hbusy]
  case takes =>
    obtain ⟨harea, hhomed, hreach, -, -⟩ := stageBegin_places false n (4096 * p) 1 s.now (4096 * p)
    obtain ⟨-, hevict, -⟩ := stageBegin_ctl false n (4096 * p) 1 s.now
    have hpage := promotePage_takes (phys := phys) (harea.trans ha) (hreach.trans hr) (hhomed.trans hh) hm hi hc
    refine ⟨_, ?_, onePageDone_entry n (4096 * p) ((m.dirEntry i).state == .filling) (s.now.farPage (4096 * p)) i (fun e => e.setRefs m.sideB n true false) m rfl⟩
    rw [exec_trnPromote s haon, viaLd_taken hld, trnPromote, stageCommand_runs hb,
      stageRun_done (k := 4095) (stageBegin_onePage false n p s.now) (by rw [hevict, if_neg Bool.false_ne_true, hpage])]
    rfl
  case pinned =>
    obtain ⟨harea, hhomed, hreach, -, -⟩ := stageBegin_places false n (4096 * p) 1 s.now (4096 * p)
    obtain ⟨-, hevict, -⟩ := stageBegin_ctl false n (4096 * p) 1 s.now
    have hpage := promotePage_pinned (phys := phys) (harea.trans ha) (hreach.trans hr) (hhomed.trans hh) hm hi hc hp
    rw [exec_trnPromote s haon, viaLd_taken hld, trnPromote, stageCommand_runs hb,
      stageRun_fails (k := 4096) (stageBegin_onePage false n p s.now) Nat.one_ne_zero (by rw [hevict, if_neg Bool.false_ne_true, hpage])]
  case drops =>
    obtain ⟨harea, hhomed, -, -, -⟩ := stageBegin_places true n (4096 * p) 1 s.now (4096 * p)
    obtain ⟨-, hevict, -⟩ := stageBegin_ctl true n (4096 * p) 1 s.now
    have hpage := evictPage_drops (n := n) (phys := phys) (harea.trans ha) (hhomed.trans hh) hm hma hi hold
    refine ⟨_, ?_, onePageDone_entry n (4096 * p) false 0 i
      (fun e => if (m.dirEntry i).state = .filling then e.setRefs m.sideB n true true else e.setRefs m.sideB n false false) m rfl⟩
    rw [exec_trnEvict s haon, viaLd_taken hld, trnEvict, stageCommand_runs hb,
      stageRun_done (k := 4095) (stageBegin_onePage true n p s.now) (by rw [hevict, if_pos rfl, hpage])]
    rfl
  case notHeld =>
    obtain ⟨harea, hhomed, -, -, -⟩ := stageBegin_places true n (4096 * p) 1 s.now (4096 * p)
    obtain ⟨-, hevict, -⟩ := stageBegin_ctl true n (4096 * p) 1 s.now
    have hpage := evictPage_notHeld (n := n) (phys := phys) (harea.trans ha) (hhomed.trans hh) hm hma hi hold
    rw [exec_trnEvict s haon, viaLd_taken hld, trnEvict, stageCommand_runs hb,
      stageRun_fails (k := 4096) (stageBegin_onePage true n p s.now) Nat.one_ne_zero (by rw [hevict, if_pos rfl, hpage])]
  case notFar =>
    obtain ⟨harea, -, -, -, -⟩ := stageBegin_places false n dpa count s.now (dpa / 4096 * 4096)
    obtain ⟨hbusy, hevict, hpages⟩ := stageBegin_ctl false n dpa count s.now
    have hpage := promotePage_notFar (phys := phys) (n := n) (b := stageBegin false n dpa count s.now) (dpa := dpa / 4096 * 4096) (by rw [harea]; exact ha)
    have hleft : Nat.min count 4096 ≠ 0 := Nat.ne_of_gt (Nat.lt_min.2 ⟨hcount, by decide⟩)
    refine ⟨_, by rw [exec_trnPromote s haon, viaLd_taken hld, trnPromote, stageCommand_runs hb,
      stageRun_fails (k := 4096) hbusy hleft (by rw [hevict, if_neg Bool.false_ne_true, hpage])], ?_⟩
    rw [modCtl_stageCtl]
    exact ⟨rfl, hpages, rfl⟩

end Sys2Proof.Machine
end

section
/-!
PROOF. Transit windows (O34; R246 to R253).
-/
namespace Sys2Proof.Machine
open Sys2Proof

/-! ### Windows and their slots -/

@[simp] theorem modWindow_window (w : Nat) (f : TrnWindow → TrnWindow) (b : Blk) : (modWindow w f b).window w = f (b.window w) := SMap.get_upd_same ..

theorem modWindow_window_other {w v : Nat} (f : TrnWindow → TrnWindow) (b : Blk) (h : v ≠ w) : (modWindow w f b).window v = b.window v := SMap.get_upd_other _ _ _ h

@[simp] theorem modTrnSlot_trnSlot (w q : Nat) (f : TrnSlot → TrnSlot) (b : Blk) : (modTrnSlot w q f b).trnSlot w q = f (b.trnSlot w q) := by
  unfold modTrnSlot Blk.trnSlot
  rw [modWindow_window]
  exact SMap.get_upd_same ..

theorem modTrnSlot_trnSlot_other {w q r : Nat} (f : TrnSlot → TrnSlot) (b : Blk) (h : r ≠ q) : (modTrnSlot w q f b).trnSlot w r = b.trnSlot w r := by
  unfold modTrnSlot Blk.trnSlot
  rw [modWindow_window]
  exact SMap.get_upd_other _ _ _ h

theorem modTrnSlot_window (w q : Nat) (f : TrnSlot → TrnSlot) (b : Blk) :
    (modTrnSlot w q f b).window w = { b.window w with slots := SMap.upd TrnSlot.fresh (b.window w).slots q f } := modWindow_window ..

theorem modTrnSlot_nextFill (w q : Nat) (f : TrnSlot → TrnSlot) (b : Blk) : ((modTrnSlot w q f b).window w).nextFill = (b.window w).nextFill := by rw [modTrnSlot_window]

theorem trnSlot_of_slots {a b : Blk} {w : Nat} (h : (b.window w).slots = (a.window w).slots) (q : Nat) : b.trnSlot w q = a.trnSlot w q := by unfold Blk.trnSlot; rw [h]

/-! ### Answers without memory -/

theorem answerNothing_eq (r : MemReq) (b : Blk) : ∃ o j, answerNothing r b = { b with out := o, host := { b.host with jobs := j } } := by
  unfold answerNothing answerRead answerWrite
  cases r.write <;> cases r.src <;> exact ⟨_, _, rfl⟩

theorem answerNothings_eq (l : List HeldReq) (b : Blk) : ∃ o j, l.foldl (fun b h => answerNothing h.req b) b = { b with out := o, host := { b.host with jobs := j } } := by
  refine foldl_keeps (fun c : Blk => ∃ o j, c = { b with out := o, host := { b.host with jobs := j } }) _ l (fun a x _ h => ?_) ⟨_, _, rfl⟩
  obtain ⟨o, j, rfl⟩ := h
  obtain ⟨o', j', heq⟩ := answerNothing_eq x.req { b with out := o, host := { b.host with jobs := j } }
  exact ⟨o', j', heq⟩

/-! ### Releases -/

/-- All that a release of slots of a window leaves. -/
structure SlotsReleased (wn : Nat) (a b : Blk) : Prop where
  dram : b.dram = a.dram
  nvf : b.nvf = a.nvf
  windows : ∀ v, v ≠ wn → b.window v = a.window v

theorem SlotsReleased.refl (wn : Nat) (a : Blk) : SlotsReleased wn a a := ⟨rfl, rfl, fun _ _ => rfl⟩

theorem SlotsReleased.trans {wn : Nat} {a b c : Blk} (h : SlotsReleased wn a b) (g : SlotsReleased wn b c) : SlotsReleased wn a c :=
  ⟨g.dram.trans h.dram, g.nvf.trans h.nvf, fun v hv => (g.windows v hv).trans (h.windows v hv)⟩

theorem modWindow_released (wn : Nat) (f : TrnWindow → TrnWindow) (b : Blk) : SlotsReleased wn b (modWindow wn f b) := ⟨rfl, rfl, fun _ hv => modWindow_window_other f b hv⟩

theorem noteDone_released (w : WindowCfg) (b : Blk) : SlotsReleased w.window b (noteDone w b) ∧ ∀ q, (noteDone w b).trnSlot w.window q = b.trnSlot w.window q := by
  unfold noteDone
  dsimp only
  split
  · exact ⟨modWindow_released .., trnSlot_of_slots (by rw [modWindow_window])⟩
  · exact ⟨.refl .., fun _ => rfl⟩

/-- A released slot is EMPTY and the others are as they were (R251). -/
theorem releaseSlot_releases (w : WindowCfg) (q : Nat) (b : Blk) : SlotsReleased w.window b (releaseSlot w q b) ∧ ((releaseSlot w q b).trnSlot w.window q).state = .empty ∧
    ∀ r, r ≠ q → (releaseSlot w q b).trnSlot w.window r = b.trnSlot w.window r := by
  unfold releaseSlot
  split
  next h => exact ⟨.refl .., beq_iff_eq.1 h, fun _ _ => rfl⟩
  · extract_lets emptied mine hostNow unheld answered
    have hemptied : SlotsReleased w.window b emptied := modWindow_released ..
    have hslot : (emptied.trnSlot w.window q).state = .empty := by simp only [emptied, modTrnSlot_trnSlot]
    have hothers : ∀ r, r ≠ q → emptied.trnSlot w.window r = b.trnSlot w.window r := fun r hr => modTrnSlot_trnSlot_other _ b hr
    clear_value emptied
    obtain ⟨o, j, hanswers⟩ := answerNothings_eq mine unheld
    have hanswered : SlotsReleased w.window emptied answered ∧ answered.far = emptied.far := by
      simp only [answered, hanswers]
      exact ⟨⟨rfl, rfl, fun _ _ => rfl⟩, rfl⟩
    clear_value answered
    obtain ⟨hans, hfar⟩ := hanswered
    have hnoted : ∀ c : Blk, c.far = answered.far → SlotsReleased w.window answered c → SlotsReleased w.window b (noteDone w c) ∧
        ((noteDone w c).trnSlot w.window q).state = .empty ∧ ∀ r, r ≠ q → (noteDone w c).trnSlot w.window r = b.trnSlot w.window r := by
      intro c hc hrel
      obtain ⟨hdone, hslots⟩ := noteDone_released w c
      have hsame : ∀ r, c.trnSlot w.window r = emptied.trnSlot w.window r := fun r => by unfold Blk.trnSlot Blk.window; rw [hc, hfar]
      exact ⟨hemptied.trans (hans.trans (hrel.trans hdone)), by rw [hslots, hsame]; exact hslot, fun r hr => by rw [hslots, hsame, hothers r hr]⟩
    split
    · exact hnoted _ rfl (.refl ..)
    · exact hnoted _ (by simp) ⟨by simp, by simp, fun v _ => by unfold Blk.window; simp⟩

theorem releaseSlots_release (w : WindowCfg) (l : List Nat) (b : Blk) : SlotsReleased w.window b (l.foldl (fun b q => releaseSlot w q b) b) :=
  foldl_keeps (SlotsReleased w.window b) _ l (fun a q _ h => h.trans (releaseSlot_releases w q a).1) (.refl ..)

theorem releaseSlots_keepEmpty (w : WindowCfg) (l : List Nat) {b : Blk} {q : Nat} (h : (b.trnSlot w.window q).state = .empty) :
    ((l.foldl (fun b q => releaseSlot w q b) b).trnSlot w.window q).state = .empty := by
  refine foldl_keeps (fun c : Blk => (c.trnSlot w.window q).state = .empty) _ l (fun a r _ h => ?_) h
  obtain ⟨-, hr, hother⟩ := releaseSlot_releases w r a
  by_cases hq : q = r
  · rw [hq]; exact hr
  · rw [hother q hq]; exact h

theorem releaseSlots_empty (w : WindowCfg) (l : List Nat) (b : Blk) : ∀ q ∈ l, ((l.foldl (fun b q => releaseSlot w q b) b).trnSlot w.window q).state = .empty := by
  induction l generalizing b with
  | nil => exact fun q hq => absurd hq List.not_mem_nil
  | cons x l ih =>
    intro q hq
    rw [List.foldl_cons]
    rcases List.mem_cons.1 hq with rfl | hq
    · exact releaseSlots_keepEmpty w l (releaseSlot_releases w q b).2.1
    · exact ih _ q hq

/-- STOP (R253). -/
theorem stopWindow_stops (w : WindowCfg) (b : Blk) : ((stopWindow w b).window w.window).state = .idle ∧
    (∀ q, q < w.slots → ((stopWindow w b).trnSlot w.window q).state = .empty) ∧ (∀ v, v ≠ w.window → (stopWindow w b).window v = b.window v) ∧
    (stopWindow w b).dram = b.dram ∧ (stopWindow w b).nvf = b.nvf := by
  unfold stopWindow
  extract_lets released
  have hrel : SlotsReleased w.window b released := releaseSlots_release ..
  have hempty : ∀ q, q < w.slots → (released.trnSlot w.window q).state = .empty := fun q hq => releaseSlots_empty w _ b q (List.mem_range.2 hq)
  clear_value released
  have hidle := hrel.trans (modWindow_released w.window (fun x => { x with state := .idle }) released)
  refine ⟨by rw [modWindow_window], fun q hq => ?_, hidle.windows, hidle.dram, hidle.nvf⟩
  rw [trnSlot_of_slots (a := released) (by rw [modWindow_window])]
  exact hempty q hq

section
variable {b : Blk} {phys : Phys} {n i : Nat} {w : WindowCfg}

theorem trnStart_noWindow (h : b.ownWindow n i = none) : trnStart n i b = noWindow n i b := by unfold trnStart; rw [h]
theorem trnStop_noWindow (h : b.ownWindow n i = none) : trnStop n i b = noWindow n i b := by unfold trnStop; rw [h]
theorem trnRelease_noWindow (h : b.ownWindow n i = none) (q : Nat) : trnRelease n i q b = noWindow n i b := by unfold trnRelease; rw [h]

theorem trnStart_starts (h : b.ownWindow n i = some w) (he : b.cht.cur.transit.enable = true) (hs : (b.window w.window).state ≠ .running) :
    trnStart n i b = modWindow w.window (fun x => { x with state := .running, nextFill := 0, slots := [] }) b := by
  unfold trnStart
  rw [h]
  exact if_neg (by simp [he, hs])

theorem trnStart_ignored (h : b.ownWindow n i = some w) (hs : b.cht.cur.transit.enable = false ∨ (b.window w.window).state = .running) : trnStart n i b = b := by
  unfold trnStart
  rw [h]
  exact if_pos (by rcases hs with hs | hs <;> simp [hs])

theorem trnStop_stops (h : b.ownWindow n i = some w) : trnStop n i b = stopWindow w b := by unfold trnStop; rw [h]

theorem trnRelease_outside (h : b.ownWindow n i = some w) {q : Nat} (hq : w.slots ≤ q) : trnRelease n i q b = noWindow n i b := by
  unfold trnRelease; rw [h]; exact if_pos hq

theorem trnRelease_releases (h : b.ownWindow n i = some w) {q : Nat} (hq : q < w.slots) : trnRelease n i q b = releaseSlot w q b := by
  unfold trnRelease; rw [h]; exact if_neg (Nat.not_le.2 hq)

theorem releaseSlot_empty {q : Nat} (h : (b.trnSlot w.window q).state = .empty) : releaseSlot w q b = b := by
  unfold releaseSlot; exact if_pos (beq_iff_eq.2 h)

/-! ### Fills -/

section
variable {wn : Nat}

theorem transitFillStart_still (hw : b.windowCfg wn = some w) (h : (b.window wn).state ≠ .running ∨
    (b.trnSlot wn ((b.window wn).nextFill % Nat.max w.slots 1)).state ≠ .empty ∨ b.inDusk = true ∨ (b.half b.ownHalf).gateOpen = false) : transitFillStart phys wn b = b := by
  unfold transitFillStart
  rw [hw]
  exact if_pos (by rcases h with h | h | h | h <;> simp [h])

theorem retry_noHeld (p : HeldReq → Bool) (h : b.host.held = []) : retry phys p b = b := by
  unfold retry
  dsimp only
  rw [h, List.filter_nil, List.filter_nil, List.foldl_nil, ← h]

/-- A slot as its fill begins (R248). -/
def Blk.fillBase (b : Blk) (wn : Nat) : TrnSlot :=
  let x := b.window wn
  let k := x.nextFill % Nat.max x.listLen 1
  let d := SMap.get TrnDesc.zero x.descs k
  { desc := k, layerTag := d.word1 / 2 ^ 32 % 2 ^ 16, fillNo := x.nextFill, src := d.src, length := d.word1 % 2 ^ 32, due := if (d.word1 / 2 ^ 48).testBit 0 then some d.due else none }

/-- What R248 asks before a window's next fill. -/
structure FillReady (b : Blk) (wn : Nat) (w : WindowCfg) : Prop where
  window : b.windowCfg wn = some w
  running : (b.window wn).state = .running
  empty : (b.trnSlot wn ((b.window wn).nextFill % Nat.max w.slots 1)).state = .empty
  list : w.loop = true ∨ (b.window wn).nextFill < (b.window wn).listLen
  dusk : b.inDusk = false
  gate : (b.half b.ownHalf).gateOpen = true
  held : b.host.held = []

theorem fillReady_guard (h : FillReady b wn w) : ((b.window wn).state != .running ||
    (b.trnSlot wn ((b.window wn).nextFill % Nat.max w.slots 1)).state != .empty || (!w.loop && decide ((b.window wn).listLen ≤ (b.window wn).nextFill)) || b.inDusk ||
    !(b.half b.ownHalf).gateOpen) = false := by
  have hlist : (!w.loop && decide ((b.window wn).listLen ≤ (b.window wn).nextFill)) = false := by
    rcases h.list with h | h
    · rw [h]; rfl
    · rw [decide_eq_false (Nat.not_le.2 h), Bool.and_false]
  rw [h.running, h.empty, hlist, h.dusk, h.gate]
  rfl

theorem transitFillStart_fills (h : FillReady b wn w) (hd : b.descOk w (SMap.get TrnDesc.zero (b.window wn).descs ((b.window wn).nextFill % Nat.max (b.window wn).listLen 1)) = true) :
    ∃ l, transitFillStart phys wn b = modTrnSlot wn ((b.window wn).nextFill % Nat.max w.slots 1) (fun _ => { b.fillBase wn with state := .filling, todo := l })
      (modWindow wn (fun x => { x with nextFill := x.nextFill + 1 }) b) := by
  unfold transitFillStart
  rw [h.window]
  dsimp only
  rw [fillReady_guard h, if_neg Bool.false_ne_true, h.held]
  have hdesc : (modWindow wn (fun x => { x with nextFill := x.nextFill + 1 }) b).descOk w
      (SMap.get TrnDesc.zero (b.window wn).descs ((b.window wn).nextFill % Nat.max (b.window wn).listLen 1)) = true := hd
  rw [hdesc, if_pos rfl]
  exact ⟨_, rfl⟩

theorem transitFillStart_fails (h : FillReady b wn w) (hd : b.descOk w (SMap.get TrnDesc.zero (b.window wn).descs ((b.window wn).nextFill % Nat.max (b.window wn).listLen 1)) = false) :
    transitFillStart phys wn b = setErr .trn 1 (modTrnSlot wn ((b.window wn).nextFill % Nat.max w.slots 1) (fun _ => { b.fillBase wn with state := .failed, length := 0 })
      (modWindow wn (fun x => { x with nextFill := x.nextFill + 1 }) b)) := by
  unfold transitFillStart
  rw [h.window]
  dsimp only
  rw [fillReady_guard h, if_neg Bool.false_ne_true, h.held]
  have hdesc : (modWindow wn (fun x => { x with nextFill := x.nextFill + 1 }) b).descOk w
      (SMap.get TrnDesc.zero (b.window wn).descs ((b.window wn).nextFill % Nat.max (b.window wn).listLen 1)) = false := hd
  rw [hdesc, if_neg Bool.false_ne_true, retryWhy, retry_noHeld _ (by rw [setErr_host]; exact h.held)]
  rfl

end

/-! ### Landing pages -/

section
variable {wn q p : Nat} {rest : List Nat}

theorem transitPageLand_still (bad : List Nat) (h : (b.trnSlot wn q).todo = [] ∨ b.inDusk = true ∨ (b.half b.ownHalf).gateOpen = false) : transitPageLand phys wn q bad b = b := by
  unfold transitPageLand
  dsimp only
  split
  · rfl
  · exact if_pos (by rcases h with h | h | h <;> simp_all)

theorem transitPageLand_pending (bad : List Nat) (ht : (b.trnSlot wn q).todo = p :: rest) {i : Nat} (hi : b.stageFind (b.farPage ((b.trnSlot wn q).src + 4096 * p)) = some i)
    (hp : b.presence (b.slotPage i) = .pending) : transitPageLand phys wn q bad b = b := by
  unfold transitPageLand
  dsimp only
  rw [ht]
  dsimp only
  rw [hi]
  exact if_pos (by simp [hp])

theorem setPresence_resident (p : Nat) (b : Blk) : (setPresence p .resident b).presence p = .resident := by
  unfold Blk.presence
  split
  · split
    · rfl
    · exact SMap.get_put_same ..
  · exact SMap.get_put_same ..

theorem LandKept.presence {a b : Blk} (h : LandKept a b) (p : Nat) : b.presence p = a.presence p := by
  unfold Blk.presence Blk.presDefault
  rw [h.cht, h.pres, h.presRuns, h.presBase]

theorem LandKept.resident {p : Nat} {a b : Blk} (h : LandKept (setPresence p .resident a) b) : b.presence p = .resident := by
  rw [h.presence, setPresence_resident]

theorem loadUnit_resident (p : Nat) (u : FlashUnit) (b : Blk) : (loadUnit p u b).presence p = .resident := by
  obtain ⟨c, -, hload⟩ := loadUnit_eq p u b
  rw [hload, setPresence_resident]

theorem poisonLines_kept (p : Nat) (js : List Nat) (b : Blk) : LandKept b (poisonLines p js b) := .foldl _ (fun b j => landLine_kept (32 * p + j) _ b) js b

theorem landZeros_kept (p : Nat) (b : Blk) : LandKept b (landZeros p b) := .foldl _ (fun b j => landLine_kept (32 * p + j) _ b) _ b

theorem fillFrom_resident (p f : Nat) (bad : List Nat) (b : Blk) : (fillFrom p f bad b).2.presence p = .resident := by
  unfold fillFrom
  extract_lets shown lost
  have hpoison : (poisonPage p shown).presence p = .resident := (poisonPage_kept p shown).resident
  have hzeros : (landZeros p shown).presence p = .resident := (landZeros_kept p shown).resident
  have hload : ∀ u js, (poisonLines p js (loadUnit p u shown)).presence p = .resident := fun u js => ((poisonLines_kept p js _).presence p).trans (loadUnit_resident p u shown)
  clear_value shown lost
  split
  · split
    · dsimp only; exact hpoison
    · dsimp only; exact hzeros
  · split
    · dsimp only; exact hpoison
    · dsimp only; exact hload _ _

theorem landTwin_resident (p : Nat) (b : Blk) : (landTwin p b).presence p = .resident := by
  unfold landTwin
  refine LandKept.resident (a := b) (.foldl _ (fun c j => ?_) _ _)
  extract_lets drawn
  have hdrawn : LandKept c drawn := ⟨rfl, rfl, rfl, rfl, rfl, rfl, rfl, rfl⟩
  clear_value drawn
  exact hdrawn.trans (landLine_kept ..)

theorem landFlash_resident (p f dpa : Nat) (bad : List Nat) (b : Blk) : (if b.homed dpa = true then fillFrom p f bad b else (false, landTwin p b)).2.presence p = .resident := by
  rw [apply_ite (fun r : Bool × Blk => r.2.presence p), fillFrom_resident, landTwin_resident, ite_self]

/-- The slot that follows a page that landed (R249). -/
def pageLanded (rest : List Nat) (poisoned : Bool) (x : TrnSlot) : TrnSlot :=
  { x with todo := rest, poison := x.poison || poisoned, state := if rest.isEmpty then .ready else x.state }

theorem transitPageLand_lands (bad : List Nat) (ht : (b.trnSlot wn q).todo = p :: rest) (hd : b.inDusk = false) (hg : (b.half b.ownHalf).gateOpen = true)
    (hp : ∀ i, b.stageFind (b.farPage ((b.trnSlot wn q).src + 4096 * p)) = some i → b.presence (b.slotPage i) ≠ .pending) :
    ∃ r : Bool × Blk, transitPageLand phys wn q bad b = retryWhy phys (.slot wn q) (modTrnSlot wn q (pageLanded rest r.1) r.2) ∧
      r.2.presence ((dirRead phys (b.stageSet (b.farPage ((b.trnSlot wn q).src + 4096 * p))) b).trnPage wn q (4096 * p)) = .resident := by
  unfold transitPageLand
  dsimp only
  rw [ht]
  dsimp only
  rw [if_neg (by rw [hd, hg]; split <;> simp_all)]
  refine ⟨_, rfl, ?_⟩
  split
  · split
    · exact landFlash_resident ..
    · split
      · exact loadUnit_resident ..
      · exact setPresence_resident ..
  · exact landFlash_resident ..

/-! ### DUE and the stall ceiling -/

theorem transitDue_early {d : Nat} (hd : (b.trnSlot wn q).due = some d) (h : b.mer.count < d) : transitDue wn q b = b := by
  unfold transitDue
  split
  next d' _ hd' => rw [hd] at hd'; cases hd'; exact if_neg (Nat.not_le.2 h)
  · rfl

theorem transitDue_releases {d : Nat} (hw : b.windowCfg wn = some w) (hd : (b.trnSlot wn q).due = some d) (h : d ≤ b.mer.count) : transitDue wn q b = releaseSlot w q b := by
  unfold transitDue
  rw [hw, hd]
  exact if_pos h

theorem transitStall_none (h : b.host.held.find? (fun h => h.why == .slot wn q) = none) : transitStall wn q b = b := by
  unfold transitStall
  rw [h]
  split
  next heq => exact absurd heq (by simp)
  · rfl

/-- What is sent stays sent while an event is posted. -/
theorem postTo_sent (l : List Nat) (k : LogKind) (r : EvRec) {b : Blk} {o : Output} (h : o ∈ b.out) : o ∈ (postTo l k r b).out := by
  have hraise : ∀ n v (y : Blk), o ∈ y.out → o ∈ (raiseMsix n v y).out := by
    intro n v y hy
    unfold raiseMsix
    dsimp only
    split
    · exact hy
    · split
      · exact hy
      · exact List.mem_append_left _ hy
  unfold postTo
  refine foldl_keeps (fun y : Blk => o ∈ y.out) _ _ (fun y n _ hy => ?_) h
  unfold eventInterrupt
  dsimp only
  split
  · exact hraise _ _ _ hy
  · exact hy

/-- The held read as it is answered at the stall ceiling (R252). -/
def stallAnswered (o : HeldReq) (n t : Nat) (b : Blk) : Blk := send (.readData n t 0 true) { b with host := { b.host with held := b.host.held.erase o } }

theorem transitStall_answers {o : HeldReq} {n t : Nat} (hw : b.windowCfg wn = some w) (ho : b.host.held.find? (fun h => h.why == .slot wn q) = some o) (hs : o.req.src = .host n t)
    (hr : o.req.write = none) : ∃ last l r, transitStall wn q b = postTo l .warning r (setErr .trn 0 (modFar (fun x => { x with lateCount := sat32 x.lateCount, lastLate := last })
      (modTrnSlot wn q (fun x => { x with late := true }) (stallAnswered o n t b)))) := by
  have hanswer : answerNothing o.req { b with host := { b.host with held := b.host.held.erase o } } = stallAnswered o n t b := by
    unfold answerNothing
    rw [hr, hs]
    rfl
  unfold transitStall
  rw [hw, ho]
  dsimp only
  rw [hanswer]
  exact ⟨_, _, _, rfl⟩

end

end

/-- Settles O34. -/
theorem transitWindows : Obligations.TransitWindows := by
  unfold Obligations.TransitWindows
  intro s phys haon
  refine ⟨fun n i hld => ⟨fun hn => ⟨?_, ?_, fun q => ?_⟩, fun w hw => ⟨fun he hs => ?_, fun hs => ?_, ?_, fun q hq => ?_, fun q hq he => ?_, fun q hq => ?_⟩⟩,
    fun wn w k hw hk => ⟨fun h => ?_, fun hrun hempty hlist hdusk hgate hheld => ?_⟩, fun wn q bad h => ?_, fun wn q bad p rest dpa m ht hdusk hgate hdpa hm => ⟨fun i hi hp => ?_, fun hp => ?_⟩,
    fun wn q w d hw hd => ⟨fun h => ?_, fun h => ?_⟩, fun wn q h => ?_, fun wn q w o n t hw ho hs hr => ?_⟩
  case refine_1 => rw [exec_trnStart s haon, viaLd_taken hld, trnStart_noWindow hn]
  case refine_2 => rw [exec_trnStop s haon, viaLd_taken hld, trnStop_noWindow hn]
  case refine_3 => rw [exec_trnRelease s haon, viaLd_taken hld, trnRelease_noWindow hn]
  case refine_4 => rw [exec_trnStart s haon, viaLd_taken hld, trnStart_starts hw he hs]
  case refine_5 => rw [exec_trnStart s haon, viaLd_taken hld, trnStart_ignored hw hs]
  case refine_6 => exact ⟨_, by rw [exec_trnStop s haon, viaLd_taken hld, trnStop_stops hw], stopWindow_stops w s.now⟩
  case refine_7 => rw [exec_trnRelease s haon, viaLd_taken hld, trnRelease_outside hw hq]
  case refine_8 => rw [exec_trnRelease s haon, viaLd_taken hld, trnRelease_releases hw hq, releaseSlot_empty he]
  case refine_9 =>
    obtain ⟨hkept, hempty, hothers⟩ := releaseSlot_releases w q s.now
    exact ⟨_, by rw [exec_trnRelease s haon, viaLd_taken hld, trnRelease_releases hw hq], hempty, hothers, hkept.dram, hkept.nvf⟩
  case refine_10 => subst hk; rw [exec_transitFillStart s haon, transitFillStart_still hw h]
  case refine_11 =>
    subst hk
    have hready : FillReady s.now wn w := ⟨hw, hrun, hempty, hlist, hdusk, hgate, hheld⟩
    refine ⟨fun hd => ?_, fun hd => ?_⟩
    · obtain ⟨l, hfill⟩ := transitFillStart_fills (phys := phys) hready hd
      refine ⟨_, by rw [exec_transitFillStart s haon, hfill], ?_⟩
      refine ⟨?_, ?_, ?_, rfl, rfl, rfl⟩
      · rw [modTrnSlot_window, modWindow_window]
      · rw [modTrnSlot_trnSlot]
      · rw [modTrnSlot_trnSlot]; rfl
    · refine ⟨_, by rw [exec_transitFillStart s haon, transitFillStart_fails hready hd], ?_, ?_, setErr_sets .trn (by decide) _, by rw [setErr_dram]; rfl⟩
      · unfold Blk.window
        rw [setErr_far]
        exact (modTrnSlot_nextFill ..).trans (congrArg TrnWindow.nextFill (modWindow_window ..))
      · unfold Blk.trnSlot Blk.window; rw [setErr_far]; exact congrArg TrnSlot.state (modTrnSlot_trnSlot ..)
  case refine_12 => rw [exec_transitPageLand s haon, transitPageLand_still bad h]
  case refine_13 => subst hdpa; rw [exec_transitPageLand s haon, transitPageLand_pending bad ht hi hp]
  case refine_14 =>
    subst hdpa hm
    obtain ⟨r, hland, hres⟩ := transitPageLand_lands (phys := phys) bad ht hdusk hgate hp
    refine ⟨modTrnSlot wn q (pageLanded rest r.1) r.2, by rw [exec_transitPageLand s haon, hland], ?_, fun hrest => ?_, hres⟩
    · rw [modTrnSlot_trnSlot]; rfl
    · rw [modTrnSlot_trnSlot, hrest]; rfl
  case refine_15 => rw [exec_transitDue s haon, transitDue_early hd h]
  case refine_16 =>
    obtain ⟨hkept, hempty, -⟩ := releaseSlot_releases w q s.now
    exact ⟨_, by rw [exec_transitDue s haon, transitDue_releases hw hd h], hkept.dram, hkept.nvf, fun hwn => by rw [← hwn]; exact hempty⟩
  case refine_17 => rw [exec_transitStallCeiling s haon, transitStall_none h]
  case refine_18 =>
    obtain ⟨last, l, r, hstall⟩ := transitStall_answers hw ho hs hr
    refine ⟨_, by rw [exec_transitStallCeiling s haon, hstall], ?_, postTo_sent _ _ _ ?_, ?_, ?_, ?_, ?_⟩
    · obtain ⟨x, hx⟩ := postTo_host l .warning r (setErr .trn 0 (modFar (fun x => { x with lateCount := sat32 x.lateCount, lastLate := last })
        (modTrnSlot wn q (fun x => { x with late := true }) (stallAnswered o n t s.now))))
      rw [hx, setErr_host]; rfl
    · rw [setErr_out]; exact List.mem_append_right _ (List.mem_singleton.2 rfl)
    · unfold Blk.trnSlot Blk.window; rw [postTo_far, setErr_far]; exact congrArg TrnSlot.late (modTrnSlot_trnSlot ..)
    · rw [postTo_far, setErr_far]; rfl
    · rw [postTo_dram, setErr_dram]; rfl
    · rw [postTo_nvf, setErr_nvf]; rfl

end Sys2Proof.Machine
end

section
/-!
PROOF. The half-links of the twin link (O35; R263 to R276).
-/
namespace Sys2Proof.Machine
open Sys2Proof

/-! ### Half-links -/

@[simp] theorem modLink_link (l : Nat) (f : HalfLink → HalfLink) (b : Blk) : (modLink l f b).link l = f (b.link l) := SMap.get_upd_same ..

theorem modLink_link_other {l m : Nat} (f : HalfLink → HalfLink) (b : Blk) (h : m ≠ l) : (modLink l f b).link m = b.link m := SMap.get_upd_other _ _ _ h

theorem link_of_twin {a b : Blk} (h : b.twin = a.twin) (l : Nat) : b.link l = a.link l := by unfold Blk.link; rw [h]

theorem linkUp_of_twin {a b : Blk} (h : b.twin = a.twin) (l : Nat) : b.linkUp l = a.linkUp l := by unfold Blk.linkUp; rw [link_of_twin h]

theorem linkUp_of_link {a b : Blk} {l m : Nat} (h : b.link l = a.link m) : b.linkUp l = a.linkUp m := by unfold Blk.linkUp; rw [h]

theorem dropLink_down (l : Nat) (b : Blk) : (dropLink l b).linkUp l = false := by
  unfold Blk.linkUp dropLink
  rw [modLink_link]
  rfl

theorem dropLink_other {l m : Nat} (b : Blk) (h : m ≠ l) : (dropLink l b).link m = b.link m := modLink_link_other _ b h

@[simp] theorem twinLog_twin (n : Nat) (b : Blk) : (twinLog n b).twin = b.twin := setErrLog_twin ..

theorem twinLog_sets {n : Nat} (hn : n < 64) (b : Blk) : (SMap.get 0 (twinLog n b).errs ErrReg.twn.key).getLsbD n = true := by
  unfold twinLog
  rw [setErrLog_errs]
  exact setErr_sets .twn hn b

theorem keyLink_twin (l phase : Nat) (isB : Bool) (k : List Byte) (b : Blk) : (keyLink l phase isB k b).twin = b.twin := rfl

section
variable {b : Blk} {phys : Phys} {l w q : Nat} {p : TrainPeer}

/-! ### Training -/

theorem crailanilTrain_ignored (h : b.mayPair = false ∨ 2 ≤ l ∨ (w ≠ 4 ∧ w ≠ 8 ∧ w ≠ 12)) : crailanilTrain l w p b = b := by
  unfold crailanilTrain
  exact if_pos (by rcases h with h | h | ⟨h4, h8, h12⟩ <;> simp_all)

/-- The TRAIN record that this unit sends in answer to a peer's challenge (R264). -/
def Blk.ownRecord (b : Blk) (challenge : List Byte) : List Byte :=
  let own := trainRecord b.pairTag b.ident.identityPub b.cht.cur.digest (Config.x448Public (Config.freeNat (b.free + 1)))
  own ++ Config.ed448Sign (b.ident.fuse.identityKey.getD []) (own ++ challenge)

/-- The block once challenge and record are on their way. -/
def trainSent (l : Nat) (p : TrainPeer) (b : Blk) : Blk :=
  send (.crnTrain l (natBe 32 (Config.freeNat b.free)) (b.ownRecord p.challenge)) (drawFree (drawFree b).2).2

theorem train_guard (hm : b.mayPair = true) (hl : l < 2) (hw : w = 4 ∨ w = 8 ∨ w = 12) : (!b.mayPair || decide (2 ≤ l) || !(decide (w = 4) || decide (w = 8) || decide (w = 12))) = false := by
  rw [hm, decide_eq_false (Nat.not_le.2 hl)]
  rcases hw with rfl | rfl | rfl <;> rfl

theorem crailanilTrain_fails (hm : b.mayPair = true) (hl : l < 2) (hw : w = 4 ∨ w = 8 ∨ w = 12) (hp : b.trainOk (natBe 32 (Config.freeNat b.free)) p = false) :
    crailanilTrain l w p b = twinLog 2 (dropLink l (trainSent l p b)) := by
  have hsent : (trainSent l p b).trainOk (natBe 32 (Config.freeNat b.free)) p = false := hp
  unfold crailanilTrain
  refine (if_neg (by simpa using train_guard hm hl hw)).trans ?_
  refine (if_pos ?_).trans rfl
  exact Bool.not_eq_true' _ ▸ hsent

theorem crailanilTrain_comesUp (hm : b.mayPair = true) (hl : l < 2) (hw : w = 4 ∨ w = 8 ∨ w = 12) (hp : b.trainOk (natBe 32 (Config.freeNat b.free)) p = true) :
    ∃ isB k d, crailanilTrain l w p b = modTwin (fun t => { t with trained := true, linkDown := d, peerId := some p.id, peerDigest := some p.digest })
      (keyLink l 0 isB k (modLink l (fun _ => { width := w, keys := some k }) (trainSent l p b))) := by
  have hsent : (trainSent l p b).trainOk (natBe 32 (Config.freeNat b.free)) p = true := hp
  unfold crailanilTrain
  rw [if_neg (by simpa using train_guard hm hl hw)]
  refine ⟨_, _, _, (if_neg ?_).trans rfl⟩
  exact fun hbad => Bool.false_ne_true ((Bool.not_eq_true' _ ▸ hbad : _ = false).symm.trans hsent)

theorem trainTimeout_ignored (h : b.cht.cur.isDefault = false ∨ b.pwr.stage ≠ .dawn 6 ∨ b.twin.trained = true) : trainTimeout b = b := by
  unfold trainTimeout
  exact if_neg (by rcases h with h | h | h <;> simp [h])

theorem trainTimeout_solo (hc : b.cht.cur.isDefault = true) (hs : b.pwr.stage = .dawn 6) (ht : b.twin.trained = false) :
    trainTimeout b = { modTwin (fun t => { t with trainTimedOut := true }) b with cht := { b.cht with mode := .solo } } := by
  unfold trainTimeout
  exact if_pos (by simp [hc, hs, ht])

/-! ### Keys, ACK and NAK -/

theorem crailanilRekey_ignored (x : List Byte) (h : b.linkUp l = false ∨ ((b.link l).frames < 2 ^ 31 ∧ (b.link l).framesIn < 2 ^ 31)) : crailanilRekey l x b = b := by
  unfold crailanilRekey
  refine if_neg fun hdue => ?_
  rw [Bool.and_eq_true, Bool.or_eq_true, decide_eq_true_iff, decide_eq_true_iff] at hdue
  obtain ⟨hup, hcount⟩ := hdue
  rcases h with h | ⟨hout, hin⟩
  · exact Bool.false_ne_true (h.symm.trans hup)
  · omega

theorem crailanilRekey_toggles (x : List Byte) (hup : b.linkUp l = true) (h : 2 ^ 31 ≤ (b.link l).frames ∨ 2 ^ 31 ≤ (b.link l).framesIn) :
    ∃ phase isB k, crailanilRekey l x b = keyLink l phase isB k (modLink l (fun x => { x with keyPhase := !x.keyPhase, frames := 0, framesIn := 0, keys := some k }) (drawFree b).2) := by
  unfold crailanilRekey
  refine ⟨_, _, _, (if_pos ?_).trans rfl⟩
  rw [hup, Bool.true_and, Bool.or_eq_true, decide_eq_true_iff, decide_eq_true_iff]
  exact h

theorem crnNak_unknown (h : (b.link l).unacked.any (fun f => f.seq == q) = false) : crnNak l q b = b := by
  unfold crnNak
  exact if_pos (by simp only [h, Bool.not_false])

/-- The count of a NAK's resends (R265). -/
def Blk.resendNo (b : Blk) (l q : Nat) : Nat := if (b.link l).nak = q then (b.link l).resends + 1 else 1

/-- The block after the frames from a NAK's SEQ on have been sent again. -/
def resent (l q : Nat) (b : Blk) : Blk :=
  let again := (b.link l).unacked.filter (fun (f : CrnFrame) => decide (q ≤ f.seq))
  send (.crnResend l q again) (modLink l (fun x => { x with nak := q, resends := b.resendNo l q }) (modTwin (fun t => { t with replays := sat32Add t.replays again.length }) b))

theorem resent_link : (resent l q b).link l = { b.link l with nak := q, resends := b.resendNo l q } := modLink_link ..

theorem crnNak_resends (h : (b.link l).unacked.any (fun f => f.seq == q) = true) :
    crnNak l q b = if 8 ≤ b.resendNo l q then twinLog 3 (modTwin (fun t => { t with retrains := Nat.min (t.retrains + 1) 0xFFFF }) (dropLink l (resent l q b))) else resent l q b := by
  unfold crnNak
  exact (if_neg (by simp only [h, Bool.not_true, Bool.false_eq_true, not_false_eq_true])).trans rfl

theorem crnAckTimer_acks (hd : (b.link l).ackDue = true) (hu : b.linkUp l = true) :
    crnAckTimer l b = send (.crnAck l ((b.link l).recvSeq - 1)) (modLink l (fun x => { x with ackDue := false }) b) := by
  unfold crnAckTimer
  exact if_pos (by simp only [hd, hu, Bool.and_true])

theorem crnAckTimer_idle (h : (b.link l).ackDue = false ∨ b.linkUp l = false) : crnAckTimer l b = b := by
  unfold crnAckTimer
  exact if_neg (by rcases h with h | h <;> simp [h])

/-! ### Loss, grace time and return -/

theorem halfLinkDown_down (h : b.linkUp l = false) : halfLinkDown l b = b := by
  unfold halfLinkDown
  exact if_pos (by rw [h]; rfl)

/-- The other half-link, of the two that there are. -/
theorem eq_or_other (hl : l < 2) {m : Nat} (hm : m < 2) : m = l ∨ m = 1 - l := by omega

theorem dropLink_linkUp (l : Nat) {m : Nat} (h : m ≠ l) (b : Blk) : (setErr .twn 1 (dropLink l b)).linkUp m = b.linkUp m := by
  rw [linkUp_of_twin (setErr_twin ..), linkUp_of_link (dropLink_other b h)]

theorem dropLink_isDown (l : Nat) (b : Blk) : (setErr .twn 1 (dropLink l b)).linkUp l = false := (linkUp_of_twin (setErr_twin ..) l).trans (dropLink_down l b)

/-- With half-link `l` dropped, a half-link is up only if it is the other one. -/
theorem dropLink_anyUp (hl : l < 2) (b : Blk) : ((setErr .twn 1 (dropLink l b)).linkUp 0 || (setErr .twn 1 (dropLink l b)).linkUp 1) = b.linkUp (1 - l) := by
  obtain rfl | rfl : l = 0 ∨ l = 1 := by omega
  · rw [dropLink_isDown, dropLink_linkUp 0 Nat.one_ne_zero, Bool.false_or]
  · rw [dropLink_isDown, dropLink_linkUp 1 Nat.zero_ne_one, Bool.or_false]

theorem halfLinkDown_otherUp (hl : l < 2) (hu : b.linkUp l = true) (ho : b.linkUp (1 - l) = true) : halfLinkDown l b = setErr .twn 1 (dropLink l b) := by
  unfold halfLinkDown
  rw [if_neg (by rw [hu]; exact Bool.false_ne_true)]
  exact if_pos ((dropLink_anyUp hl b).trans ho)

theorem halfLinkDown_linkDown (hl : l < 2) (hu : b.linkUp l = true) (ho : b.linkUp (1 - l) = false) :
    halfLinkDown l b = setErr .twn 0 (modTwin (fun t => { t with linkDown := true, graceExpired := false }) (setErr .twn 1 (dropLink l b))) := by
  unfold halfLinkDown
  rw [if_neg (by rw [hu]; exact Bool.false_ne_true)]
  exact if_neg (by rw [dropLink_anyUp hl b, ho]; exact Bool.false_ne_true)

theorem linkGraceExpire_idle (h : b.twin.linkDown = false ∨ b.twin.graceExpired = true ∨ b.inDusk = true) : linkGraceExpire b = b := by
  unfold linkGraceExpire
  exact if_pos (by rcases h with h | h | h <;> simp [h])

theorem linkReturn_idle (h : b.twin.linkDown = false ∨ b.inDusk = true ∨ (b.linkUp 0 = false ∧ b.linkUp 1 = false)) : linkReturn phys b = b := by
  unfold linkReturn
  exact if_pos (by rcases h with h | h | ⟨h0, h1⟩ <;> simp [*])

end

/-- What answers to requesters and STATUS messages leave besides answers, jobs and the arbiter's SEQ. -/
structure AnswersKept (a b : Blk) : Prop where
  dram : b.dram = a.dram
  nvf : b.nvf = a.nvf
  mirror : b.host.mirror = a.host.mirror
  twin : ∃ n c, b.twin = { a.twin with arbSeq := n, statusSent := c }

theorem AnswersKept.of_twin {a b : Blk} (hd : b.dram = a.dram) (hn : b.nvf = a.nvf) (hm : b.host.mirror = a.host.mirror) (ht : b.twin = a.twin) : AnswersKept a b :=
  ⟨hd, hn, hm, ⟨a.twin.arbSeq, a.twin.statusSent, ht⟩⟩

theorem AnswersKept.refl (a : Blk) : AnswersKept a a := .of_twin rfl rfl rfl rfl

theorem AnswersKept.trans {a b c : Blk} (h : AnswersKept a b) (g : AnswersKept b c) : AnswersKept a c := by
  obtain ⟨n, x, hn⟩ := h.twin
  obtain ⟨m, y, hm⟩ := g.twin
  exact ⟨g.dram.trans h.dram, g.nvf.trans h.nvf, g.mirror.trans h.mirror, ⟨m, y, by rw [hm, hn]⟩⟩

theorem answerWrite_answersKept (s : Src) (b : Blk) : AnswersKept b (answerWrite s b) := by
  unfold answerWrite
  cases s <;> exact .of_twin rfl rfl rfl rfl

theorem answerRead_answersKept (s : Src) (d : Half) (p : Bool) (b : Blk) : AnswersKept b (answerRead s d p b) := by
  unfold answerRead
  cases s <;> exact .of_twin rfl rfl rfl rfl

theorem mirrorDone_answersKept (m : MirrorWait) (b : Blk) : AnswersKept b (mirrorDone m b) := by
  unfold mirrorDone
  split
  · exact answerWrite_answersKept ..
  · exact .refl b

theorem sendStatus_answersKept (h code : Nat) (b : Blk) : AnswersKept b (sendStatus h code b) := ⟨rfl, rfl, rfl, ⟨_, _, rfl⟩⟩

theorem noteStatus_answersKept (b : Blk) : AnswersKept b (noteStatus b) := by
  unfold noteStatus
  split
  · exact foldl_keeps (AnswersKept b) _ _ (fun a h _ hk => hk.trans (sendStatus_answersKept h a.statusCode a)) (.refl b)
  · exact .refl b

theorem setErr_answersKept (r : ErrReg) (n : Nat) (b : Blk) : AnswersKept b (setErr r n b) := .of_twin (setErr_dram ..) (setErr_nvf ..) (congrArg (·.mirror) (setErr_host ..)) (setErr_twin ..)

theorem dropForwarded_answersKept (b : Blk) : AnswersKept b (dropForwarded b) := by
  unfold dropForwarded
  extract_lets other held fwd hostNow cleared
  have hcleared : AnswersKept b cleared := .of_twin rfl rfl rfl rfl
  clear_value cleared
  refine foldl_keeps (AnswersKept b) _ _ (fun a r _ hk => hk.trans ?_) hcleared
  dsimp only
  split
  · exact (setErr_answersKept ..).trans (answerRead_answersKept ..)
  · exact setErr_answersKept ..

/-! ### The end of the grace time -/

/-- Does the unit hold a half, or stand by for one? -/
def Blk.holdsHalf (b : Blk) : Bool := b.halvesOf.any (fun h => (b.half h).role == .holder)
def Blk.standsBy (b : Blk) : Bool := b.halvesOf.any (fun h => (b.half h).role != .holder)

/-- What R276 notes when the grace time has passed. -/
def graceNoted (b : Blk) : Blk :=
  modTwin (fun t => { t with graceExpired := true, alone := t.alone || b.holdsHalf, stale := t.stale || b.standsBy,
                             staleFrom := if b.standsBy && !t.stale then b.epoch else t.staleFrom, syncing := false, syncTodo := [], syncWait := [] }) b

/-- A holder that is then ALONE waits for no mirrored write. -/
def graceDone (b : Blk) : Blk := if b.holdsHalf = true then { graceNoted b with host := { b.host with mirror := [] } } else graceNoted b

theorem graceDone_frame (b : Blk) : (graceDone b).twin = (graceNoted b).twin ∧ (graceDone b).dram = b.dram ∧ (graceDone b).nvf = b.nvf := by
  unfold graceDone; split <;> exact ⟨rfl, rfl, rfl⟩

theorem graceDone_mirror {b : Blk} (h : b.holdsHalf = true) : (graceDone b).host.mirror = [] := by unfold graceDone; rw [if_pos h]

theorem linkGraceExpire_expires {b : Blk} (hl : b.twin.linkDown = true) (hg : b.twin.graceExpired = false) (hd : b.inDusk = false) :
    AnswersKept (graceDone b) (linkGraceExpire b) := by
  unfold linkGraceExpire
  rw [if_neg (by simp [hl, hg, hd])]
  extract_lets holds stands noted due hostNow mirrored dropped
  have hholds : holds = b.holdsHalf := rfl
  have hmirrored : AnswersKept (graceDone b) mirrored := by
    simp only [mirrored, graceDone]
    rw [hholds]
    split
    · exact foldl_keeps (AnswersKept _) _ _ (fun x m _ hk => hk.trans (mirrorDone_answersKept m x)) (.refl _)
    · exact .refl _
  have hdropped : AnswersKept mirrored dropped := by
    simp only [dropped]
    split
    · exact dropForwarded_answersKept ..
    · exact .refl _
  exact (hmirrored.trans hdropped).trans (noteStatus_answersKept _)

/-! ### The link's return -/

/-- A fold that only sends leaves all but the outputs. -/
theorem foldl_sends {α : Type} (f : Blk → α → Blk) (l : List α) (hf : ∀ (c : Blk) x, ∃ o, f c x = { c with out := o }) (b : Blk) : ∃ o, l.foldl f b = { b with out := o } := by
  refine foldl_keeps (fun c : Blk => ∃ o, c = { b with out := o }) f l (fun a x _ h => ?_) ⟨b.out, rfl⟩
  obtain ⟨o, rfl⟩ := h
  obtain ⟨o', heq⟩ := hf { b with out := o } x
  exact ⟨o', heq⟩

/-- With no request held a retry of several halves changes nothing. -/
theorem retryGates_noHeld (phys : Phys) (l : List Nat) {b : Blk} (h : b.host.held = []) :
    l.foldl (fun b h => if (b.half h).role = .holder then b else retryWhy phys (.gate h) b) b = b := by
  refine foldl_keeps (fun c => c = b) _ l (fun a n _ ha => ?_) rfl
  subst ha
  split
  · rfl
  · exact retry_noHeld _ h

/-- The link as it is no longer DOWN, with what is then sent (R276). -/
def linkBack (o : List Output) (b : Blk) : Blk := { modTwin (fun t => { t with linkDown := false, graceExpired := false, shipping := none }) b with out := o }

/-- A holder starts its sync when the link is back (R270). -/
def resynced (b : Blk) : Blk := if b.holdsHalf = true then startSync [] b else b

theorem resynced_frame (b : Blk) : (resynced b).twin.linkDown = b.twin.linkDown ∧ (resynced b).twin.graceExpired = b.twin.graceExpired ∧
    (resynced b).twin.shipping = b.twin.shipping ∧ (resynced b).dram = b.dram ∧ (resynced b).nvf = b.nvf := by
  unfold resynced; split <;> exact ⟨rfl, rfl, rfl, rfl, rfl⟩

theorem resynced_syncing {b : Blk} (h : b.holdsHalf = true) : (resynced b).twin.syncing = true := by unfold resynced; rw [if_pos h]; rfl

theorem linkReturn_returns {b : Blk} {phys : Phys} (hl : b.twin.linkDown = true) (hd : b.inDusk = false) (hu : b.linkUp 0 = true ∨ b.linkUp 1 = true) (hh : b.host.held = []) :
    ∃ o, AnswersKept (resynced (linkBack o b)) (linkReturn phys b) := by
  unfold linkReturn
  rw [if_neg (by rcases hu with hu | hu <;> simp [hl, hd, hu])]
  extract_lets back mirrored sent holds synced gated
  obtain ⟨o, hmirrored⟩ : ∃ o, mirrored = { back with out := o } := by
    refine foldl_sends _ _ ?_ back
    exact fun c m => ⟨_, rfl⟩
  obtain ⟨o', hsent⟩ : ∃ o, sent = { mirrored with out := o } := by
    refine foldl_sends _ _ ?_ mirrored
    exact fun c m => ⟨_, rfl⟩
  have hlinkBack : sent = linkBack o' b := hsent.trans (congrArg (fun c : Blk => { c with out := o' }) hmirrored)
  clear_value sent
  refine ⟨o', ?_⟩
  have hsynced : synced = resynced (linkBack o' b) := by simp only [synced, holds, resynced, hlinkBack]; rfl
  have hheld : synced.host.held = [] := by
    rw [hsynced]; unfold resynced; split <;> exact hh
  have hgated : gated = synced := retryGates_noHeld phys _ hheld
  rw [hgated, ← hsynced]
  exact noteStatus_answersKept synced

/-- Settles O35. -/
theorem halfLinksOfTheTwinLink : Obligations.HalfLinksOfTheTwinLink := by
  unfold Obligations.HalfLinksOfTheTwinLink
  intro s phys haon
  refine ⟨fun l w p h => ?_, fun l w p c hm hl hw hc => ?_, fun hc hs ht => ?_, fun h => ?_, fun l x hu h => ?_, fun l x h => ?_, fun l q => ?_, fun l q h => ?_,
    fun l q again h hag => ⟨fun hn => ?_, fun hn hr => ?_⟩, fun l hd hu => ?_, fun l h => ?_, fun l h => ?_, fun l hl hu => ⟨fun ho => ?_, fun ho => ?_⟩, fun h => ?_, fun hl hg hd => ?_,
    fun h => ?_, fun hl hd hu hh => ?_⟩
  case refine_1 => rw [exec_crailanilTrain s haon, crailanilTrain_ignored h]
  case refine_2 =>
    subst hc
    cases hok : s.now.trainOk (natBe 32 (Config.freeNat s.now.free)) p with
    | false =>
      refine ⟨_, s.now.ownRecord p.challenge, by rw [exec_crailanilTrain s haon, crailanilTrain_fails hm hl hw hok], ?_⟩
      refine ⟨?_, fun m hne => ?_, setErrLog_dram .., setErrLog_nvf .., setErrLog_mer .., fun _ => ⟨?_, twinLog_sets (by decide) _⟩, fun hbad => absurd hbad Bool.false_ne_true⟩
      · unfold twinLog; rw [setErrLog_out]; exact List.mem_append_right _ (List.mem_singleton.2 rfl)
      · rw [link_of_twin (twinLog_twin ..), dropLink_other _ hne]; rfl
      · rw [linkUp_of_twin (twinLog_twin ..), dropLink_down]
    | true =>
      obtain ⟨isB, k, d, htrain⟩ := crailanilTrain_comesUp hm hl hw hok
      refine ⟨_, s.now.ownRecord p.challenge, by rw [exec_crailanilTrain s haon, htrain], ?_⟩
      have hlink : (modLink l (fun _ => { width := w, keys := some k }) (trainSent l p s.now)).link l = { width := w, keys := some k } := modLink_link ..
      refine ⟨List.mem_append_right _ (List.mem_singleton.2 rfl), fun m hne => ?_, rfl, rfl, rfl, fun hbad => absurd hbad.symm Bool.false_ne_true,
        fun _ => ⟨congrArg HalfLink.width hlink, congrArg (fun x : HalfLink => x.keys.isSome) hlink, ?_, congrArg HalfLink.sendSeq hlink, congrArg HalfLink.unacked hlink, rfl, rfl⟩⟩
      · exact (modLink_link_other (fun _ => { width := w, keys := some k }) (trainSent l p s.now) hne)
      · have hwidth : 0 < w := by omega
        exact decide_eq_true (lt_of_lt_of_eq hwidth (congrArg HalfLink.width hlink).symm)
  case refine_3 => exact ⟨_, (exec_trainTimeout s haon).trans (congrArg _ (congrArg _ (trainTimeout_solo hc hs ht))), rfl, rfl, rfl⟩
  case refine_4 => rw [exec_trainTimeout s haon, trainTimeout_ignored h]
  case refine_5 =>
    obtain ⟨phase, isB, k, hrekey⟩ := crailanilRekey_toggles x hu h
    refine ⟨_, by rw [exec_crailanilRekey s haon, hrekey], ?_⟩
    have hlink := modLink_link l (fun x => { x with keyPhase := !x.keyPhase, frames := 0, framesIn := 0, keys := some k }) (drawFree s.now).2
    exact ⟨congrArg HalfLink.keyPhase hlink, congrArg HalfLink.frames hlink, congrArg HalfLink.framesIn hlink, (congrArg HalfLink.width hlink).trans rfl, (congrArg HalfLink.unacked hlink).trans rfl⟩
  case refine_6 => rw [exec_crailanilRekey s haon, crailanilRekey_ignored x h]
  case refine_7 => exact exec_crnAck s haon l q
  case refine_8 => rw [exec_crnNak s haon, crnNak_unknown h]
  case refine_9 =>
    subst hag
    have hfew : ¬ 8 ≤ s.now.resendNo l q := by
      unfold Blk.resendNo
      split
      next heq =>
        rcases hn with hn | hn
        · exact absurd heq hn
        · omega
      · omega
    refine ⟨_, by rw [exec_crnNak s haon, crnNak_resends h, if_neg hfew], ?_⟩
    have hlink := resent_link (b := s.now) (l := l) (q := q)
    exact ⟨rfl, congrArg HalfLink.nak hlink, congrArg HalfLink.resends hlink, (congrArg HalfLink.width hlink).trans rfl, rfl, rfl⟩
  case refine_10 =>
    have hmany : 8 ≤ s.now.resendNo l q := by
      unfold Blk.resendNo
      rw [if_pos hn]
      omega
    refine ⟨_, by rw [exec_crnNak s haon, crnNak_resends h, if_pos hmany], ?_, twinLog_sets (by decide) _, ?_⟩
    · rw [linkUp_of_twin (twinLog_twin ..)]; exact dropLink_down ..
    · rw [twinLog_twin]; rfl
  case refine_11 => rw [exec_crnAckTimer s haon, crnAckTimer_acks hd hu]
  case refine_12 => rw [exec_crnAckTimer s haon, crnAckTimer_idle h]
  case refine_13 => rw [exec_halfLinkDown s haon, halfLinkDown_down h]
  case refine_14 => rw [exec_halfLinkDown s haon, halfLinkDown_otherUp hl hu ho]
  case refine_15 =>
    refine ⟨_, by rw [exec_halfLinkDown s haon, halfLinkDown_linkDown hl hu ho], ?_⟩
    have hnone := (dropLink_anyUp hl s.now).trans ho
    rw [Bool.or_eq_false_iff] at hnone
    obtain ⟨h0, h1⟩ := hnone
    refine ⟨by rw [setErr_twin]; rfl, by rw [setErr_twin]; rfl, ?_, ?_, ?_, ?_⟩
    · rw [linkUp_of_twin (setErr_twin ..)]; exact h0
    · rw [linkUp_of_twin (setErr_twin ..)]; exact h1
    · rw [setErr_dram, modTwin_dram, setErr_dram]; rfl
    · rw [setErr_host, modTwin_host, setErr_host]; rfl
  case refine_16 => rw [exec_linkGraceExpire s haon, linkGraceExpire_idle h]
  case refine_17 =>
    have hkept := linkGraceExpire_expires hl hg hd
    obtain ⟨n, c, htwin⟩ := hkept.twin
    refine ⟨_, exec_linkGraceExpire s haon phys, ?_⟩
    obtain ⟨hdone, hdram, hnvf⟩ := graceDone_frame s.now
    rw [htwin, hkept.dram, hkept.nvf, hkept.mirror, hdone, hdram, hnvf]
    exact ⟨rfl, rfl, rfl, rfl, rfl, fun hh => ⟨(congrArg (s.now.twin.alone || ·) hh).trans (Bool.or_true _), graceDone_mirror hh⟩,
      fun hs => (congrArg (s.now.twin.stale || ·) hs).trans (Bool.or_true _)⟩
  case refine_18 => rw [exec_linkReturn s haon, linkReturn_idle h]
  case refine_19 =>
    obtain ⟨o, hkept⟩ := linkReturn_returns (phys := phys) hl hd hu hh
    obtain ⟨n, c, htwin⟩ := hkept.twin
    refine ⟨_, exec_linkReturn s haon phys, ?_⟩
    obtain ⟨hdown, hexpired, hship, hdram, hnvf⟩ := resynced_frame (linkBack o s.now)
    rw [htwin, hkept.dram, hkept.nvf]
    exact ⟨hdown, hexpired, hship, hdram, hnvf, resynced_syncing (b := linkBack o s.now)⟩

end Sys2Proof.Machine
end

section
/-!
PROOF. Mirrored writes and forwarded requests (O37; R259 to R271).
-/
namespace Sys2Proof.Machine
open Sys2Proof

/-! ### A message that arrives -/

theorem arrived_host (b : Blk) (m : TwinMsg) : (b.arrived m).host = b.host := rfl

theorem arrived_link (b : Blk) (m : TwinMsg) (l : Nat) : ((b.arrived m).link l).width = (b.link l).width := by
  unfold Blk.arrived frameIn
  by_cases h : l = b.bringer m
  · rw [h, modLink_link]
  · rw [modLink_link_other _ _ h]

theorem arrived_linkUp (b : Blk) (m : TwinMsg) (l : Nat) : (b.arrived m).linkUp l = b.linkUp l := by
  unfold Blk.linkUp
  rw [arrived_link]

theorem arrived_inDusk (b : Blk) (m : TwinMsg) : (b.arrived m).inDusk = b.inDusk := rfl

theorem arrived_twinTakes (b : Blk) (m : TwinMsg) : (b.arrived m).twinTakes = b.twinTakes := by
  unfold Blk.twinTakes
  rw [arrived_linkUp, arrived_linkUp, arrived_inDusk]
  rfl

theorem arrived_withheld (b : Blk) (m : TwinMsg) (l : Nat) : (b.arrived m).withheld ((b.arrived m).lineInfo l).dpa = b.withheld (b.lineInfo l).dpa := rfl

section
variable {b : Blk} {phys : Phys} {m : TwinMsg}

theorem takes_of_arrives (h : b.arrives phys m = true) : b.twinTakes = true := by
  unfold Blk.arrives at h
  rw [Bool.and_eq_true, Bool.and_eq_true] at h
  obtain ⟨⟨htakes, -⟩, -⟩ := h
  exact htakes

theorem arrived_takes (h : b.arrives phys m = true) : (b.arrived m).twinTakes = true := (arrived_twinTakes b m).trans (takes_of_arrives h)

theorem awake_of_takes (h : b.twinTakes = true) : b.inDusk = false := by
  unfold Blk.twinTakes at h
  rw [Bool.and_eq_true, Bool.and_eq_true, Bool.not_eq_true'] at h
  obtain ⟨⟨-, hawake⟩, -⟩ := h
  exact hawake

theorem awake_of_arrives (h : b.arrives phys m = true) : (b.arrived m).inDusk = false := awake_of_takes (arrived_takes h)

theorem takes_of_dusk (h : b.inDusk = true) : b.twinTakes = false := by
  unfold Blk.twinTakes
  rw [h, Bool.not_true, Bool.and_false, Bool.false_and]

end

/-! ### Mirrored writes -/

section
variable {b : Blk} {phys : Phys} {t a e l : Nat} {d : Half} {p : Bool} {r : Region}

theorem takes_guard (h : b.twinTakes = true) : ¬ (!b.twinTakes) = true := by rw [h]; exact Bool.false_ne_true

theorem mirrorWrite_refused (h : b.twinTakes = false) : mirrorWrite phys t a d p e b = b := by
  unfold mirrorWrite
  exact if_pos (by rw [h]; rfl)

theorem mirrorWrite_noTarget (ht : b.twinTakes = true) (h : b.mirrorTarget a = none) : mirrorWrite phys t a d p e b = twinViolation false b := by
  unfold mirrorWrite
  rw [if_neg (takes_guard ht), h]

theorem mirrorWrite_keyEmpty (ht : b.twinTakes = true) (h : b.mirrorTarget a = some l) (hr : (b.lineInfo l).region = some r) (hk : b.keyEmpty r = true) :
    mirrorWrite phys t a d p e b = setErr .cph 4 b := by
  unfold mirrorWrite
  rw [if_neg (takes_guard ht), h]
  dsimp only
  rw [hr]
  exact if_pos hk

theorem mirrorWrite_serves (ht : b.twinTakes = true) (h : b.mirrorTarget a = some l) (hr : (b.lineInfo l).region = some r) (hk : b.keyEmpty r = false) :
    mirrorWrite phys t a d p e b = serve phys { src := .mirror t e (b.hemi (a / 128)), dpa := (b.lineInfo l).dpa / 128 * 128 + a % 128 / 64 * 64, write := some (d, p) } b := by
  unfold mirrorWrite
  rw [if_neg (takes_guard ht), h]
  dsimp only
  rw [hr]
  exact if_neg (fun hbad => Bool.false_ne_true (hk.symm.trans hbad))

theorem mirrorAck_stray (h : b.host.mirror.find? (fun m => m.tag = t && !m.acked) = none) : mirrorAck t b = twinViolation true b := by
  unfold mirrorAck
  rw [h]

/-- A mirrored write as its MIRROR_ACK finds it while completions are withheld. -/
def ackMirror (t : Nat) (x : MirrorWait) : MirrorWait := if x.tag = t then { x with acked := true } else x

theorem mirrorAck_withheld {m : MirrorWait} (h : b.host.mirror.find? (fun m => m.tag = t && !m.acked) = some m) (hw : b.withheld (b.lineInfo (m.addr / 128)).dpa = true) :
    mirrorAck t b = { b with host := { b.host with mirror := b.host.mirror.map (ackMirror t) } } := by
  unfold mirrorAck
  rw [h]
  exact if_pos hw

theorem mirrorAck_completes {m : MirrorWait} {n x : Nat} (h : b.host.mirror.find? (fun m => m.tag = t && !m.acked) = some m) (hw : b.withheld (b.lineInfo (m.addr / 128)).dpa = false)
    (hs : m.src = some (.host n x)) : mirrorAck t b = send (.writeDone n x) { b with host := { b.host with mirror := b.host.mirror.filter (fun x => x.tag != t) } } := by
  unfold mirrorAck
  rw [h]
  refine (if_neg (by rw [hw]; exact Bool.false_ne_true)).trans ?_
  unfold mirrorDone
  rw [hs]
  rfl

theorem mirrorAckTimeout_down (h : b.host.mirror.any (fun m => !m.acked) = true) (hl : b.twin.linkDown = false) (hd : b.inDusk = false) :
    mirrorAckTimeout b = setErrLog .twn 0 {} (modTwin (fun t => { t with linkDown := true, graceExpired := false }) b) := by
  unfold mirrorAckTimeout
  exact if_pos (by rw [h, hl, hd]; rfl)

theorem mirrorAckTimeout_idle (h : b.host.mirror.any (fun m => !m.acked) = false ∨ b.twin.linkDown = true ∨ b.inDusk = true) : mirrorAckTimeout b = b := by
  unfold mirrorAckTimeout
  exact if_neg (by rcases h with h | h | h <;> simp [h])

/-! ### Forwarded requests -/

theorem fwdWrite_refused (h : b.twinTakes = false) : fwdWrite phys t a l d p b = b := by
  unfold fwdWrite
  exact if_pos (by rw [h]; rfl)

theorem fwdWrite_serves (ht : b.twinTakes = true) : fwdWrite phys t a l d p b = serve phys { src := .twin l t (b.dpaHemi a), dpa := a / 64 * 64, write := some (d, p) } b := by
  unfold fwdWrite
  exact if_neg (takes_guard ht)

theorem fwdRead_refused (h : b.twinTakes = false) : fwdRead phys t a l b = b := by
  unfold fwdRead
  exact if_pos (by rw [h]; rfl)

theorem fwdRead_nowhere (ht : b.twinTakes = true) (hr : b.regionOf (a / 64 * 64) = none) (ha : b.area (a / 64 * 64) = .none) : fwdRead phys t a l b = twinViolation false b := by
  unfold fwdRead
  rw [if_neg (takes_guard ht)]
  dsimp only
  rw [hr]
  exact if_pos ha

theorem fwdRead_serves (ht : b.twinTakes = true) (hr : b.regionOf (a / 64 * 64) = some r) (hm : r.mirror ≠ .hot) :
    fwdRead phys t a l b = serve phys { src := .twin l t (b.dpaHemi (a / 64 * 64)), dpa := a / 64 * 64, write := none } b := by
  unfold fwdRead
  rw [if_neg (takes_guard ht)]
  dsimp only
  rw [hr]
  exact if_neg (by simp [hm])

/-- What a standby reads of its own copy for the twin (R271). -/
def Blk.ownCopy (b : Blk) (phys : Phys) (dpa : Nat) := readHalf phys (b.lineOf dpa) (halfIx dpa) none b

theorem fwdRead_ownCopy {x : Half} (ht : b.twinTakes = true) (hr : b.regionOf (a / 64 * 64) = some r) (hm : r.mirror = .hot) (hs : (b.half (b.halfOf (a / 64 * 64))).role = .standby)
    (hx : (b.ownCopy phys (a / 64 * 64)).1 = .data x) :
    fwdRead phys t a l b = send (.crn ((b.ownCopy phys (a / 64 * 64)).2.dpaHemi (a / 64 * 64)) (.fwdData t x false)) (b.ownCopy phys (a / 64 * 64)).2 := by
  have hread : readHalf phys (b.lineOf (a / 64 * 64)) (halfIx (a / 64 * 64)) none b = (.data x, (b.ownCopy phys (a / 64 * 64)).2) := Prod.ext hx rfl
  unfold fwdRead
  rw [if_neg (takes_guard ht)]
  dsimp only
  rw [hr]
  refine (if_pos (by simp [hm, hs])).trans ?_
  rw [hread]

theorem fwdData_dusk (h : b.inDusk = true) : fwdData phys t d p b = b := by
  unfold fwdData
  exact if_pos h

theorem fwdDone_dusk (h : b.inDusk = true) : fwdDone t b = b := by
  unfold fwdDone
  exact if_pos h

theorem fwdData_stray (h : b.inDusk = false) (hn : b.twin.fetches.find? (fun x => x.1 = t) = none) (hf : b.host.fwd.find? (fun f => f.tag = t) = none) :
    fwdData phys t d p b = twinViolation true b := by
  unfold fwdData
  rw [if_neg (by rw [h]; exact Bool.false_ne_true), hn]
  dsimp only
  rw [hf]

theorem fwdDone_stray (h : b.inDusk = false) (hf : b.host.fwd.find? (fun f => f.tag = t) = none) : fwdDone t b = twinViolation true b := by
  unfold fwdDone
  rw [if_neg (by rw [h]; exact Bool.false_ne_true), hf]

theorem fwdData_answers {f : FwdWait} {n x : Nat} (h : b.inDusk = false) (hn : b.twin.fetches.find? (fun x => x.1 = t) = none) (hf : b.host.fwd.find? (fun f => f.tag = t) = some f)
    (hd : f.dead = false) (hs : f.req.src = .host n x) (hw : f.req.write = none) :
    fwdData phys t d p b = send (.readData n x d p) { b with host := { b.host with fwd := b.host.fwd.filter (fun x => x.tag != t) } } := by
  unfold fwdData
  rw [if_neg (by rw [h]; exact Bool.false_ne_true), hn]
  dsimp only
  rw [hf]
  refine (if_neg (by rw [hd]; exact Bool.false_ne_true)).trans ?_
  rw [hw, hs]
  rfl

theorem fwdDone_answers {f : FwdWait} {n x : Nat} (h : b.inDusk = false) (hf : b.host.fwd.find? (fun f => f.tag = t) = some f) (hd : f.dead = false) (hs : f.req.src = .host n x) :
    fwdDone t b = send (.writeDone n x) { b with host := { b.host with fwd := b.host.fwd.filter (fun x => x.tag != t) } } := by
  unfold fwdDone
  rw [if_neg (by rw [h]; exact Bool.false_ne_true), hf]
  refine (if_neg (by rw [hd]; exact Bool.false_ne_true)).trans ?_
  rw [hs]
  rfl

theorem twinAnswerTimeout_none {i : Nat} (h : b.twin.fetches.any (fun x => x.2 = 2 * l + i) = false) : twinAnswerTimeout phys l i b = b := by
  unfold twinAnswerTimeout
  exact if_neg (by rw [h]; exact Bool.false_ne_true)

theorem twinAnswerTimeout_gives {i : Nat} (h : b.twin.fetches.any (fun x => x.2 = 2 * l + i) = true) (hh : b.host.held = []) : ∃ y, twinAnswerTimeout phys l i b =
    modTwin (fun t => { t with fetches := t.fetches.filter (fun x => x.2 != 2 * l + i), fetched := y }) b := by
  unfold twinAnswerTimeout
  refine ⟨SMap.erase (SMap.insert b.twin.fetched (2 * l + i) (0, true)) (2 * l + i), ?_⟩
  dsimp only
  rw [if_pos h, retryWhy, retry_noHeld _ (show (modTwin _ b).host.held = [] from hh)]
  rfl

theorem retryOldest_none {why : Hold} (h : b.host.held.find? (fun h => h.why == why) = none) : retryOldest phys why b = b := by
  unfold retryOldest
  rw [h]

theorem retryOldest_some {why : Hold} {o : HeldReq} (h : b.host.held.find? (fun h => h.why == why) = some o) :
    retryOldest phys why b = retry phys (fun h => h.why == why && h.req.dpa / 128 == o.req.dpa / 128) b := by
  unfold retryOldest
  rw [h]

end

theorem ackMirror_acks {t : Nat} {l : List MirrorWait} {y : MirrorWait} (hy : y ∈ l.map (ackMirror t)) (ht : y.tag = t) : y.acked = true := by
  obtain ⟨x, -, rfl⟩ := List.mem_map.1 hy
  unfold ackMirror at ht ⊢
  split
  · rfl
  next hne => rw [if_neg hne] at ht; exact absurd ht hne

/-- Settles O37. -/
theorem mirrorWritesAndForwards : Obligations.MirrorWritesAndForwards := by
  unfold Obligations.MirrorWritesAndForwards
  intro s phys haon
  refine ⟨fun t a d p e l => ⟨fun h => ?_, fun h => ?_, fun h => ?_, fun h => ?_, fun h => ?_, fun h => ?_, fun h => ⟨?_, ?_, ?_, ?_, ?_⟩⟩, fun t a d p e f h hf => ⟨fun hn => ?_, fun l r hl hr hk => ?_,
    fun l r hl hr hk => ?_⟩, fun t a l d p f h hf => ?_, fun t a l f h hf => ⟨fun hr ha => ?_, fun r hr hm => ?_, fun r x hr hm hs hx => ?_⟩, fun t h hn => ?_, fun t m n x h hm hw hs => ?_,
    fun t m h hm hw => ?_, fun h hl hd => ?_, fun h => ?_, fun t d p f n x h hn hf hd hs hw => ?_, fun t f n x h hf hd hs => ?_, fun t d p hn hf => ⟨fun h => ?_, fun h => ?_⟩, fun l i h => ?_,
    fun l i h hh => ?_, ?_, ?_, fun h => ?_, fun o h => ?_⟩
  case refine_1 => rw [exec_mirrorWrite s haon, viaFrame_garbled _ _ h]
  case refine_2 => rw [exec_fwdRead s haon, viaFrame_garbled _ _ h]
  case refine_3 => rw [exec_fwdWrite s haon, viaFrame_garbled _ _ h]
  case refine_4 => rw [exec_mirrorAck s haon, viaFrame_garbled _ _ h]
  case refine_5 => rw [exec_fwdData s haon, viaFrame_garbled _ _ h]
  case refine_6 => rw [exec_fwdDone s haon, viaFrame_garbled _ _ h]
  case refine_7 => rw [exec_mirrorWrite s haon, viaFrame_dusk _ _ _ h, mirrorWrite_refused (takes_of_dusk h)]
  case refine_8 => rw [exec_fwdRead s haon, viaFrame_dusk _ _ _ h, fwdRead_refused (takes_of_dusk h)]
  case refine_9 => rw [exec_fwdWrite s haon, viaFrame_dusk _ _ _ h, fwdWrite_refused (takes_of_dusk h)]
  case refine_10 => rw [exec_fwdData s haon, viaFrame_dusk _ _ _ h, fwdData_dusk h]
  case refine_11 => rw [exec_fwdDone s haon, viaFrame_dusk _ _ _ h, fwdDone_dusk h]
  case refine_12 => subst hf; rw [exec_mirrorWrite s haon, viaFrame_arrives _ _ h, mirrorWrite_noTarget (arrived_takes h) hn]
  case refine_13 => subst hf; rw [exec_mirrorWrite s haon, viaFrame_arrives _ _ h, mirrorWrite_keyEmpty (arrived_takes h) hl hr hk]
  case refine_14 => subst hf; rw [exec_mirrorWrite s haon, viaFrame_arrives _ _ h, mirrorWrite_serves (arrived_takes h) hl hr hk]
  case refine_15 => subst hf; rw [exec_fwdWrite s haon, viaFrame_arrives _ _ h, fwdWrite_serves (arrived_takes h)]
  case refine_16 => subst hf; rw [exec_fwdRead s haon, viaFrame_arrives _ _ h, fwdRead_nowhere (arrived_takes h) hr ha]
  case refine_17 => subst hf; rw [exec_fwdRead s haon, viaFrame_arrives _ _ h, fwdRead_serves (arrived_takes h) hr hm]
  case refine_18 => subst hf; rw [exec_fwdRead s haon, viaFrame_arrives _ _ h, fwdRead_ownCopy (arrived_takes h) hr hm hs hx]; exact rfl
  case refine_19 => rw [exec_mirrorAck s haon, viaFrame_arrives _ _ h, mirrorAck_stray (b := s.now.arrived _) hn]
  case refine_20 =>
    refine ⟨_, by rw [exec_mirrorAck s haon, viaFrame_arrives _ _ h, mirrorAck_completes (b := s.now.arrived _) hm hw hs], ?_⟩
    exact ⟨rfl, rfl, rfl, rfl⟩
  case refine_21 =>
    refine ⟨_, by rw [exec_mirrorAck s haon, viaFrame_arrives _ _ h, mirrorAck_withheld (b := s.now.arrived _) hm hw], ?_⟩
    exact ⟨rfl, List.length_map .., fun y hy ht => ackMirror_acks hy ht, rfl⟩
  case refine_22 => rw [exec_mirrorAckTimeout s haon, mirrorAckTimeout_down h hl hd]
  case refine_23 => rw [exec_mirrorAckTimeout s haon, mirrorAckTimeout_idle h]
  case refine_24 =>
    refine ⟨_, by rw [exec_fwdData s haon, viaFrame_arrives _ _ h, fwdData_answers (b := s.now.arrived _) (awake_of_arrives h) hn hf hd hs hw], ?_⟩
    exact ⟨rfl, rfl, rfl, rfl⟩
  case refine_25 =>
    refine ⟨_, by rw [exec_fwdDone s haon, viaFrame_arrives _ _ h, fwdDone_answers (b := s.now.arrived _) (awake_of_arrives h) hf hd hs], ?_⟩
    exact ⟨rfl, rfl, rfl, rfl⟩
  case refine_26 => rw [exec_fwdData s haon, viaFrame_arrives _ _ h, fwdData_stray (b := s.now.arrived _) (awake_of_arrives h) hn hf]
  case refine_27 => rw [exec_fwdDone s haon, viaFrame_arrives _ _ h, fwdDone_stray (b := s.now.arrived _) (awake_of_arrives h) hf]
  case refine_28 => rw [exec_twinAnswerTimeout s haon, twinAnswerTimeout_none h]
  case refine_29 =>
    obtain ⟨y, hgives⟩ := twinAnswerTimeout_gives (phys := phys) h hh
    exact ⟨_, (exec_twinAnswerTimeout s haon phys l i).trans (congrArg _ (congrArg _ hgives)), rfl, rfl⟩
  case refine_30 => exact exec_twinViolation s haon true
  case refine_31 => exact exec_twinViolation s haon false
  case refine_32 => exact (exec_shipHoldRelease s haon phys).trans (congrArg _ (congrArg _ (retryOldest_none h)))
  case refine_33 => exact (exec_shipHoldRelease s haon phys).trans (congrArg _ (congrArg _ (retryOldest_some h)))

end Sys2Proof.Machine
end

section
/-!
PROOF. COLD deltas, HOT sync and the twin's state messages (O38; R267 to R275).
-/
namespace Sys2Proof.Machine
open Sys2Proof

/-! ### What units and their places leave -/

/-- What the placing and the voiding of units leave. -/
structure PlaceKept (a b : Blk) : Prop where
  cht : b.cht = a.cht
  twin : b.twin = a.twin
  dram : b.dram = a.dram

theorem PlaceKept.refl (a : Blk) : PlaceKept a a := ⟨rfl, rfl, rfl⟩

theorem PlaceKept.trans {a b c : Blk} (h : PlaceKept a b) (g : PlaceKept b c) : PlaceKept a c := ⟨g.cht.trans h.cht, g.twin.trans h.twin, g.dram.trans h.dram⟩

theorem writeSb_placeKept (f : Superblock → Superblock) (b : Blk) : PlaceKept b (writeSb f b) := ⟨rfl, rfl, rfl⟩

theorem keyMedia_placeKept (n : Nat) (b : Blk) : PlaceKept b (keyMedia n b) := ⟨rfl, rfl, rfl⟩

theorem numbered_placeKept (n : Nat) (b : Blk) : PlaceKept b { b with pers := { b.pers with nextSeq := b.pers.nextSeq + n } } := ⟨rfl, rfl, rfl⟩

theorem takeSeqs_placeKept (n : Nat) (b : Blk) : PlaceKept b (takeSeqs n b).2 := by
  unfold takeSeqs
  extract_lets c
  have hc : PlaceKept b c := by
    simp only [c]; split
    · exact writeSb_placeKept id b
    · exact .refl b
  clear_value c
  exact hc.trans (.trans (.trans (numbered_placeKept n c) (keyMedia_placeKept ..)) (keyMedia_placeKept ..))

theorem padStripe_placeKept (b : Blk) : PlaceKept b (padStripe b) := by
  unfold padStripe
  split
  · exact .refl b
  · exact (takeSeqs_placeKept _ b).trans ⟨rfl, rfl, rfl⟩

theorem modNvf_placeKept (f : NvfSt → NvfSt) (b : Blk) : PlaceKept b (modNvf f b) := ⟨rfl, rfl, rfl⟩

theorem setErr_placeKept (r : ErrReg) (n : Nat) (b : Blk) : PlaceKept b (setErr r n b) := ⟨setErr_cht .., setErr_twin .., setErr_dram ..⟩

theorem noteStarved_placeKept (b : Blk) : PlaceKept b (noteStarved b) := by
  unfold noteStarved
  extract_lets st c
  have hc : PlaceKept b c := by
    simp only [c]
    clear_value st
    split
    · exact setErr_placeKept ..
    · exact .refl b
  clear_value c
  exact hc.trans (modNvf_placeKept ..)

theorem setZone_placeKept (z : Nat) (v : Zone) (b : Blk) : PlaceKept b (setZone z v b) := ⟨rfl, rfl, rfl⟩

theorem modStripe_placeKept (s : Nat) (f : Stripe → Stripe) (b : Blk) : PlaceKept b (modStripe s f b) := modNvf_placeKept ..

theorem sjRecord_placeKept (r : SjRec) (b : Blk) : PlaceKept b (sjRecord r b) := modNvf_placeKept ..

/-- What either branch of a choice that answers may answer. -/
theorem ite_eq_some {α : Type} {c : Prop} [Decidable c] {x y : Option α} {r : α} {P : Prop} (hx : x = some r → P) (hy : y = some r → P) (h : (if c then x else y) = some r) : P := by
  split at h
  · exact hx h
  · exact hy h

/-- A stripe as it opens at its place, with its OPEN record (R208, R222). -/
def stripeOpened (seq gen s : Nat) (b : Blk) : Blk :=
  let b := modStripe s (fun _ => { gen := gen, firstEpoch := b.epoch, seqFirst := seq }) b
  let b := sjRecord { type := .open', gen := gen, stripe := b.stripeNo s, seqFirst := seq } b
  let b := match b.nextPlace .tlc s with
    | some n => modNvf (fun v => { v with logHead := n }) b
    | none => setZone (b.stripeAt s).1 ⟨.closed, gen, .tlc⟩ b
  modNvf (fun n => { n with openStripe := some s }) b

theorem stripeOpened_placeKept (seq gen s : Nat) (b : Blk) : PlaceKept b (stripeOpened seq gen s b) := by
  unfold stripeOpened
  extract_lets striped recorded placed
  have hplaced : PlaceKept recorded placed := by
    simp only [placed]
    split
    · exact modNvf_placeKept ..
    · exact setZone_placeKept ..
  have hb : PlaceKept b placed := (modStripe_placeKept ..).trans ((sjRecord_placeKept ..).trans hplaced)
  clear_value placed
  exact hb.trans (modNvf_placeKept ..)

theorem openStripeNow_placeKept {seq : Nat} {b : Blk} {r : Nat × Blk} (h : openStripeNow seq b = some r) : PlaceKept b r.2 := by
  unfold openStripeNow at h
  refine ite_eq_some (fun hnone => (Option.some_ne_none _ hnone.symm).elim) (ite_eq_some (fun hopen => ?_) (fun hfree => ?_)) h
  · rw [← Option.some.inj hopen]
    exact stripeOpened_placeKept seq b.layout.gen b.nvf.logHead b
  · split at hfree
    · exact (Option.some_ne_none _ hfree.symm).elim
    next zn _ =>
      rw [← Option.some.inj hfree]
      refine PlaceKept.trans ?_ (stripeOpened_placeKept seq b.layout.gen _ _)
      refine PlaceKept.trans ?_ (noteStarved_placeKept _)
      refine PlaceKept.trans ?_ (setZone_placeKept zn _ _)
      exact foldl_keeps (PlaceKept b) _ _ (fun a y _ ha => ha.trans (setZone_placeKept ..)) (.refl b)

theorem placeUnit_placeKept {u : FlashUnit} {b : Blk} {r : (Nat × Nat) × Blk} (h : placeUnit u b = some r) : PlaceKept b r.2 := by
  unfold placeUnit at h
  extract_lets put padded at h
  have hput : ∀ s (c : Blk), PlaceKept c (put s c).2 := by
    intro s c
    simp only [put]
    split <;> exact ⟨rfl, rfl, rfl⟩
  have hpadded : PlaceKept b padded := by
    simp only [padded]
    split
    · split
      · exact .refl b
      · exact padStripe_placeKept b
    · exact .refl b
  clear_value put padded
  split at h
  · cases h
    exact hpadded.trans (hput ..)
  · obtain ⟨x, hx, rfl⟩ := Option.map_eq_some_iff.1 h
    exact hpadded.trans ((openStripeNow_placeKept hx).trans (hput ..))

/-- What the placing of waiting COLD units leaves. -/
structure ColdPlaced (a b : Blk) : Prop where
  cht : b.cht = a.cht
  dram : b.dram = a.dram
  twin : ∃ w, b.twin = { a.twin with coldWait := w }

theorem PlaceKept.coldPlaced {a b : Blk} (h : PlaceKept a b) : ColdPlaced a b := ⟨h.cht, h.dram, ⟨a.twin.coldWait, h.twin⟩⟩

theorem ColdPlaced.trans {a b c : Blk} (h : ColdPlaced a b) (g : ColdPlaced b c) : ColdPlaced a c := by
  obtain ⟨v, hv⟩ := h.twin
  obtain ⟨w, hw⟩ := g.twin
  exact ⟨g.cht.trans h.cht, g.dram.trans h.dram, ⟨w, by rw [hw, hv]⟩⟩

theorem waiting_coldPlaced (l : List FlashUnit) (b : Blk) : ColdPlaced b (modTwin (fun t => { t with coldWait := l }) b) := ⟨rfl, rfl, ⟨l, rfl⟩⟩

theorem placeCold_coldPlaced (n : Nat) (b : Blk) : ColdPlaced b (placeCold n b) := by
  induction n generalizing b with
  | zero => exact (PlaceKept.refl b).coldPlaced
  | succ n ih =>
    unfold placeCold
    split
    · exact (PlaceKept.refl b).coldPlaced
    · split
      next _ rest _ _ x hx => exact ((placeUnit_placeKept hx).coldPlaced.trans (waiting_coldPlaced rest x.2)).trans (ih _)
      · exact (PlaceKept.refl b).coldPlaced

theorem placeCold_none {n : Nat} {b : Blk} (h : b.twin.coldWait = []) : placeCold n b = b := by
  cases n with
  | zero => rfl
  | succ n => unfold placeCold; rw [h]

theorem pointTo_placeKept (u : FlashUnit) (s slot : Nat) (b : Blk) : PlaceKept b (pointTo u s slot b) := by
  unfold pointTo
  dsimp only
  split <;> exact ⟨rfl, rfl, rfl⟩

theorem voidUnits_placeKept (hit : FlashUnit → Bool) (b : Blk) : PlaceKept b (voidUnits hit b) := ⟨rfl, rfl, rfl⟩

theorem foldUnit_placeKept (u : FlashUnit) (b : Blk) : PlaceKept b (foldUnit u b) := by
  unfold foldUnit
  split
  · exact .refl b
  · extract_lets voided pointed put
    have hpointed : PlaceKept b pointed := (voidUnits_placeKept _ b).trans (pointTo_placeKept ..)
    exact hpointed.trans ⟨rfl, rfl, rfl⟩

/-- What the folding of deltas leaves. -/
structure DeltasFolded (a b : Blk) : Prop where
  held : b.twin.coldHeld = a.twin.coldHeld
  due : b.twin.coldDue = a.twin.coldDue
  count : b.twin.coldCount = a.twin.coldCount

theorem DeltasFolded.refl (a : Blk) : DeltasFolded a a := ⟨rfl, rfl, rfl⟩

theorem DeltasFolded.trans {a b c : Blk} (h : DeltasFolded a b) (g : DeltasFolded b c) : DeltasFolded a c := ⟨g.held.trans h.held, g.due.trans h.due, g.count.trans h.count⟩

theorem PlaceKept.deltasFolded {a b : Blk} (h : PlaceKept a b) : DeltasFolded a b := ⟨congrArg _ h.twin, congrArg _ h.twin, congrArg _ h.twin⟩

theorem foldUnits_placeKept (l : List (Nat × FlashUnit)) (b : Blk) : PlaceKept b (l.foldl (fun b x => foldUnit x.2 b) b) :=
  foldl_keeps (PlaceKept b) _ l (fun a x _ h => h.trans (foldUnit_placeKept x.2 a)) (.refl b)

theorem foldOldest_folded (b : Blk) : DeltasFolded b (foldOldest b) := by
  unfold foldOldest
  split
  · exact .refl b
  next d rest _ =>
    have hdropped : DeltasFolded b (modTwin (fun t => { t with deltas := rest, folded := some d.epoch }) b) := ⟨rfl, rfl, rfl⟩
    exact hdropped.trans ((foldUnits_placeKept _ _).trans (foldUnits_placeKept _ _)).deltasFolded

theorem foldWhile_folded (n : Nat) (b : Blk) : DeltasFolded b (foldWhile n b) := by
  induction n generalizing b with
  | zero => exact .refl b
  | succ n ih =>
    unfold foldWhile
    split
    · exact (foldOldest_folded b).trans (ih _)
    · exact .refl b

/-! ### COLD pages and their ends -/

/-- The unit that a received page becomes (R275). -/
def coldUnit (p e seq : Nat) (r : Region) (ls : PageLines) : FlashUnit :=
  { kind := .home, page := p, region := r.id, keySlot := r.keySlot, light := r.light, poisonMask := poisonMaskOf ls, stamp := e, seq := seq, lines := ls }

/-- A delta as a unit joins those of its epoch. -/
def intoDelta (e p : Nat) (u : FlashUnit) (d : ColdDelta) : ColdDelta := if d.epoch = e then { d with units := SMap.insert d.units p u } else d

/-- The deltas with one of an epoch among them. -/
def withDelta (e : Nat) (l : List ColdDelta) : List ColdDelta := if l.any (fun d => d.epoch == e) then l else l ++ [{ epoch := e }]

/-- The block as a unit joins its epoch's delta. -/
def deltaJoined (e p : Nat) (u : FlashUnit) (b : Blk) : Blk :=
  modTwin (fun t => { t with deltas := (withDelta e t.deltas).map (intoDelta e p u), coldCount := t.coldCount + 1 }) b

theorem withDelta_has (e : Nat) (l : List ColdDelta) : ∃ d ∈ withDelta e l, d.epoch = e := by
  unfold withDelta
  split
  next h =>
    obtain ⟨d, hd, he⟩ := List.any_eq_true.1 h
    exact ⟨d, hd, beq_iff_eq.1 he⟩
  · exact ⟨_, List.mem_append_right _ (List.mem_singleton.2 rfl), rfl⟩

theorem joined_has (e p : Nat) (u : FlashUnit) (l : List ColdDelta) : ∃ d, d ∈ (withDelta e l).map (intoDelta e p u) ∧ d.epoch = e ∧ SMap.find? d.units p = some u := by
  obtain ⟨d, hd, he⟩ := withDelta_has e l
  refine ⟨intoDelta e p u d, List.mem_map.2 ⟨d, hd, rfl⟩, ?_⟩
  unfold intoDelta
  rw [if_pos he]
  exact ⟨he, SMap.find?_insert_same ..⟩

section
variable {b : Blk} {phys : Phys} {p e n : Nat} {ls : PageLines} {r : Region}

theorem coldPage_refused (h : b.twinTakes = false) : coldPage p e ls b = b := by
  unfold coldPage
  exact if_pos (by rw [h]; rfl)

theorem waitingUnit_placed (u : FlashUnit) (n : Nat) (c : Blk) : ColdPlaced c (placeCold n (modTwin (fun t => { t with coldWait := t.coldWait ++ [u] }) c)) :=
  (waiting_coldPlaced (c.twin.coldWait ++ [u]) c).trans (placeCold_coldPlaced ..)

theorem coldPage_joins (ht : b.twinTakes = true) (hp : p < 2 ^ 36) (hb : b.binary = false) (hr : b.regionOf (p * 4096) = some r) (hm : b.mirrorClass r = .cold) :
    ∃ seq c, ColdPlaced b c ∧ coldPage p e ls b = setPresence p .pending (dropPageLines p (deltaJoined e p (coldUnit p e seq r ls) c)) := by
  have hfar : decide (2 ^ 36 ≤ p) = false := decide_eq_false (Nat.not_le.2 hp)
  unfold coldPage
  rw [if_neg (takes_guard ht)]
  simp only [hfar, hb, Bool.false_eq_true, if_false, Bool.or_self, Bool.or_false]
  rw [hr]
  dsimp only
  rw [if_neg (by simp [hm])]
  have hplaced := (takeSeqs_placeKept 1 b).coldPlaced.trans (waitingUnit_placed (coldUnit p e (takeSeq b).1 r ls) (b.twin.coldWait.length + 1) (takeSeq b).2)
  refine ⟨(takeSeq b).1, _, hplaced, (if_neg ?_).trans rfl⟩
  have hbin : ∀ c : Blk, ColdPlaced b c → (deltaJoined e p (coldUnit p e (takeSeq b).1 r ls) c).binary = false := by
    intro c hc
    unfold Blk.binary deltaJoined
    rw [modTwin_cht, hc.cht]
    exact hb
  exact fun hbad => Bool.false_ne_true ((hbin _ hplaced).symm.trans hbad)

theorem coldEnd_refused (h : b.twinTakes = false) : coldEnd n e b = b := by
  unfold coldEnd
  exact if_pos (by rw [h]; rfl)

theorem coldEnd_missing (ht : b.twinTakes = true) (hn : n ≠ b.twin.coldCount) :
    coldEnd n e b = modTwin (fun t => { t with coldCount := 0, coldWait := [] }) (dropDeltas (fun d => d.epoch != e || d.complete) b) := by
  unfold coldEnd
  rw [if_neg (takes_guard ht), if_pos hn]

/-- The block once all pages of a delta have come. -/
def deltaEnded (e : Nat) (b : Blk) : Blk := modTwin (fun t => { t with coldCount := 0, coldDue := some e, deltas := withDelta e t.deltas }) b

theorem coldEnd_settles (ht : b.twinTakes = true) (hn : n = b.twin.coldCount) : coldEnd n e b = settleCold (deltaEnded e b) := by
  unfold coldEnd
  rw [if_neg (takes_guard ht), if_neg (not_not_intro hn)]
  rfl

/-- The units of an epoch's delta are durable (R275). -/
def Blk.deltaDurable (b : Blk) (d : ColdDelta) : Bool := d.units.all (fun x => b.durable x.2) && d.farUnits.all (fun x => b.durable x.2)

theorem withDelta_all {P : ColdDelta → Bool} (e : Nat) (l : List ColdDelta) (hP : P { epoch := e } = true) :
    ((withDelta e l).filter (fun d => d.epoch == e)).all P = (l.filter (fun d => d.epoch == e)).all P := by
  unfold withDelta
  split
  · rfl
  · have hnew : ([{ epoch := e }] : List ColdDelta).filter (fun d => d.epoch == e) = [{ epoch := e }] := List.filter_cons_of_pos (beq_self_eq_true e)
    rw [List.filter_append, List.all_append, hnew, List.all_cons, hP, List.all_nil, Bool.and_true, Bool.and_true]

theorem settleCold_waits (hd : b.twin.coldDue = some e) (hw : b.twin.coldWait = []) (hm : (b.twin.deltas.filter (fun d => d.epoch == e)).all b.deltaDurable = false) : settleCold b = b := by
  unfold settleCold
  rw [hd]
  dsimp only
  rw [placeCold_none hw]
  exact if_pos (by unfold Blk.deltaDurable at hm; rw [hm]; simp)

theorem copied_folded (m : Mirror) (c : Blk) : DeltasFolded c (copied m c) := ⟨rfl, rfl, rfl⟩

theorem settleCold_acks (hd : b.twin.coldDue = some e) (hw : b.twin.coldWait = []) (hk : b.inDusk = false)
    (hm : (b.twin.deltas.filter (fun d => d.epoch == e)).all b.deltaDurable = true) :
    ∃ c, settleCold b = send (.crn 0 (.coldAck e)) c ∧ c.twin.coldHeld = some e ∧ c.twin.coldDue = none ∧ c.twin.coldCount = b.twin.coldCount := by
  unfold settleCold
  rw [hd]
  dsimp only
  rw [placeCold_none hw, if_neg (by unfold Blk.deltaDurable at hm; rw [hm, hk, hw]; decide)]
  refine ⟨_, rfl, ?_⟩
  have hfolded : ∀ (c : Prop) [Decidable c] (k : Nat) (x : Blk), DeltasFolded x (foldWhile k (if c then copied .cold x else x)) := by
    intro c _ k x
    refine .trans ?_ (foldWhile_folded ..)
    split
    · exact copied_folded ..
    · exact .refl x
  exact ⟨(hfolded ..).held, (hfolded ..).due, (hfolded ..).count⟩

theorem deltaEnded_durable (e : Nat) (b : Blk) (d : ColdDelta) : (deltaEnded e b).deltaDurable d = b.deltaDurable d := rfl

theorem deltaEnded_all (e : Nat) (b : Blk) : ((deltaEnded e b).twin.deltas.filter (fun d => d.epoch == e)).all (deltaEnded e b).deltaDurable =
    (b.twin.deltas.filter (fun d => d.epoch == e)).all b.deltaDurable := by
  rw [funext (deltaEnded_durable e b)]
  exact withDelta_all e b.twin.deltas rfl

theorem coldEnd_acks (ht : b.twinTakes = true) (hn : n = b.twin.coldCount) (hw : b.twin.coldWait = []) (hm : (b.twin.deltas.filter (fun d => d.epoch == e)).all b.deltaDurable = true) :
    ∃ c, coldEnd n e b = send (.crn 0 (.coldAck e)) c ∧ c.twin.coldHeld = some e ∧ c.twin.coldDue = none ∧ c.twin.coldCount = 0 := by
  rw [coldEnd_settles ht hn]
  exact settleCold_acks (b := deltaEnded e b) rfl hw (awake_of_takes ht) ((deltaEnded_all e b).trans hm)

theorem coldEnd_waits (ht : b.twinTakes = true) (hn : n = b.twin.coldCount) (hw : b.twin.coldWait = []) (hm : (b.twin.deltas.filter (fun d => d.epoch == e)).all b.deltaDurable = false) :
    coldEnd n e b = deltaEnded e b := by
  rw [coldEnd_settles ht hn]
  exact settleCold_waits (b := deltaEnded e b) rfl hw ((deltaEnded_all e b).trans hm)

/-! ### COLD shipping -/

theorem coldShipStart_idle {t : Nat} (h : b.paired = false ∨ b.inDusk = true ∨ b.twin.linkDown = true ∨ b.twin.shipping.isSome = true ∨
    b.halvesOf.any (fun h => (b.half h).role == .holder) = false) : coldShipStart phys t b = b := by
  unfold coldShipStart
  exact if_pos (by rcases h with h | h | h | h | h <;> simp only [h, Bool.not_false, Bool.true_or, Bool.or_true])

/-- A holder that ships nothing may ship its next epoch (R272). -/
structure MayShip (b : Blk) (e z : Nat) : Prop where
  paired : b.paired = true
  awake : b.inDusk = false
  up : b.twin.linkDown = false
  free : b.twin.shipping = none
  holds : b.halvesOf.any (fun h => (b.half h).role == .holder) = true
  caught : b.twin.catchUp = none
  next : b.nextShip = some e
  sealed : b.mer.sealedEpoch = some z

theorem MayShip.guard {z : Nat} (h : MayShip b e z) : (!b.paired || b.inDusk || b.twin.linkDown || b.twin.shipping.isSome || !b.halvesOf.any (fun h => (b.half h).role == .holder)) = false := by
  rw [h.paired, h.awake, h.up, h.free, h.holds]
  rfl

theorem coldShipStart_early {t z : Nat} (h : MayShip b e z) (hz : z < e) : coldShipStart phys t b = b := by
  unfold coldShipStart
  rw [if_neg (by rw [h.guard]; exact Bool.false_ne_true)]
  dsimp only
  rw [h.caught, h.next, h.sealed]
  exact if_neg (Nat.not_le.2 hz)

theorem filterKeys_length {l : List Nat} (p : Nat → Bool) : (l.filter p ++ l.filter (fun k => !p k)).length = l.length := by
  rw [List.length_append, ← List.countP_eq_length_filter, ← List.countP_eq_length_filter, List.length_eq_countP_add_countP p (l := l)]
  simp only [Bool.not_eq_true, Bool.decide_eq_false]

/-- The pages of an epoch's delta as they are sent, those with a capture first (R272). -/
def shipKeys (b : Blk) (l : List Nat) : List Nat := l.filter (fun k => b.hasCapture k) ++ l.filter (fun k => !b.hasCapture k)

def shipPages (phys : Phys) (e : Nat) (l : List Nat) (b : Blk) : Blk :=
  l.foldl (fun b k => send (.crn (b.shipHemi k) (.coldPage k e (deltaLines phys k e b).1)) (deltaLines phys k e b).2) b

theorem coldShipStart_ships {t z : Nat} (h : MayShip b e z) (hz : e ≤ z) : coldShipStart phys t b =
    send (.crn 0 (.coldEnd (b.twin.shipList.filter (fun x => x.2 = e)).length e)) (modTwin (fun t => { t with shipping := some e })
      (shipPages phys e (shipKeys b ((b.twin.shipList.filter (fun x => x.2 = e)).map (·.1))) b)) := by
  unfold coldShipStart
  rw [if_neg (by rw [h.guard]; exact Bool.false_ne_true)]
  dsimp only
  rw [h.caught, h.next, h.sealed]
  dsimp only
  rw [if_pos hz, filterKeys_length, List.length_map]
  rfl

/-! ### HOT sync -/

theorem syncDigest_refused {x : Nat} (h : b.twinTakes = false) : syncDigest phys p x b = b := by
  unfold syncDigest
  exact if_pos (by rw [h]; rfl)

theorem syncDigest_noTarget {x : Nat} (ht : b.twinTakes = true) (h : b.mirrorTarget (p * 4096) = none) : syncDigest phys p x b = twinViolation false b := by
  unfold syncDigest
  rw [if_neg (takes_guard ht), h]

theorem syncDigest_compares {x l : Nat} (ht : b.twinTakes = true) (h : b.mirrorTarget (p * 4096) = some l) :
    syncDigest phys p x b = send (.crn (b.hemi (p * 32)) (.syncMatch p (digestOf (pageNow phys (l / 32) b).1 != x))) (noteSync (pageNow phys (l / 32) b).2) := by
  unfold syncDigest
  rw [if_neg (takes_guard ht), h]

section
variable {x l : Nat} {ll : List (Line × Bool)}

theorem syncPage_refused (h : b.twinTakes = false) : syncPage p x ll b = b := by
  unfold syncPage
  exact if_pos (by rw [h]; rfl)

theorem syncPage_noTarget (ht : b.twinTakes = true) (h : b.mirrorTarget (p * 4096) = none) : syncPage p x ll b = twinViolation false b := by
  unfold syncPage
  rw [if_neg (takes_guard ht), h]

theorem syncPage_keyEmpty (ht : b.twinTakes = true) (h : b.mirrorTarget (p * 4096) = some l) (hr : (b.lineInfo l).region = some r) (hk : b.keyEmpty r = true) :
    syncPage p x ll b = setErr .cph 4 b := by
  unfold syncPage
  rw [if_neg (takes_guard ht), h]
  dsimp only
  rw [hr]
  exact if_pos hk

theorem syncedLines_kept (l : List ((Line × Bool) × Nat)) (f : Nat → Nat) (x : Nat) (c : Blk) :
    LineKept c (l.foldl (fun b y => if y.1.2 then b else writeLine (f y.2) y.1.1 false x b) c) := by
  refine foldl_keeps (LineKept c) _ l (fun a y _ h => ?_) (.refl c)
  split
  · exact h
  · exact h.trans (writeLine_kept ..)

theorem syncPage_lands (ht : b.twinTakes = true) (h : b.mirrorTarget (p * 4096) = some l) (hr : (b.lineInfo l).region = some r) (hk : b.keyEmpty r = false) :
    (syncPage p x ll b).presence (l / 32) = .resident ∧ (syncPage p x ll b).twin.stale = true ∧ (syncPage p x ll b).nvf = b.nvf := by
  unfold syncPage
  rw [if_neg (takes_guard ht), h]
  dsimp only
  rw [hr, if_neg (fun hbad => Bool.false_ne_true (hk.symm.trans hbad))]
  generalize hstart : noteSync { b with halo := { b.halo with mb := SMap.keep b.halo.mb (fun y _ => y / 32 != l / 32) } } = start
  have hstale : start.twin.stale = true := by rw [← hstart]; rfl
  have hnvf : start.nvf = b.nvf := by rw [← hstart]; rfl
  have hkept := syncedLines_kept ll.zipIdx (fun j => 32 * (l / 32) + j) x start
  have hshown : ∀ c : Blk, LineKept start c → (setPresence (l / 32) .resident c).presence (l / 32) = .resident ∧ (setPresence (l / 32) .resident c).twin.stale = true ∧
      (setPresence (l / 32) .resident c).nvf = b.nvf :=
    fun c hc => ⟨setPresence_resident .., (congrArg TwinSt.stale hc.twin).trans hstale, hc.nvf.trans hnvf⟩
  split
  · exact hshown _ hkept
  · exact hshown _ hkept

end

end

/-- The answers that a sync of the twin waits for, without one page. -/
def answered (p : Nat) (b : Blk) : Blk := modTwin (fun t => { t with syncWait := SMap.erase t.syncWait p }) b

section
variable {b : Blk} {phys : Phys} {p e x y : Nat} {d : Bool}

theorem syncMatch_stray (h : SMap.find? b.twin.syncWait p = none) : syncMatch phys p d x b = twinViolation true b := by
  unfold syncMatch
  rw [h]

theorem syncMatch_equal (h : SMap.find? b.twin.syncWait p = some y) : syncMatch phys p false x b = answered p b := by
  unfold syncMatch
  rw [h]
  rfl

theorem syncMatch_differs (h : SMap.find? b.twin.syncWait p = some y) (hy : y ≠ x) : syncMatch phys p true x b = sendSyncPage phys p (answered p b) := by
  unfold syncMatch
  rw [h]
  dsimp only
  rw [if_neg hy]
  rfl

theorem syncMatch_divergent (h : SMap.find? b.twin.syncWait p = some y) (hy : y = x) : ∃ c, syncMatch phys p true x b = sendSyncPage phys p c ∧
    c.twin.syncWait = SMap.erase b.twin.syncWait p ∧ c.twin.divergent = sat32 b.twin.divergent ∧ c.dram = b.dram := by
  unfold syncMatch
  rw [h]
  dsimp only
  rw [if_pos hy]
  refine ⟨_, rfl, ?_, ?_, ?_⟩
  · rw [postVendor_twin, logRecord_twin]; rfl
  · rw [postVendor_twin, logRecord_twin]; rfl
  · rw [postVendor_dram, logRecord_dram]; rfl

theorem hotSyncDone_dusk (h : b.inDusk = true) : hotSyncDone b = b := by
  unfold hotSyncDone
  exact if_pos h

/-- A live change whose HOT copies a sync has made (R57). -/
def hotCopied (rs : List Nat) (a : LiveApply) : LiveApply := { a with mirrorDone := a.mirrorDone ++ a.mirrorLeft.filter (fun r => rs.contains r) }

/-- The holder's block when its sync is over. -/
def syncEnded (b : Blk) : Blk :=
  let c := modTwin (fun t => { t with syncing := false, alone := false, syncRegions := [] }) b
  { c with cht := { c.cht with apply := c.cht.apply.map (hotCopied b.twin.syncRegions) } }

theorem hotSyncDone_holder (h : b.inDusk = false) (hs : b.twin.syncing = true) (ht : b.twin.syncTodo = []) (hw : b.twin.syncWait = []) : hotSyncDone b = noteStatus (syncEnded b) := by
  unfold hotSyncDone
  rw [if_neg (by rw [h]; exact Bool.false_ne_true), if_pos hs, if_pos (by rw [ht, hw]; rfl)]
  rfl

theorem hotSyncDone_standby (h : b.inDusk = false) (hs : b.twin.syncing = false) (ha : b.halvesOf.any (fun h => (b.half h).role != .holder) = true) :
    hotSyncDone b = noteStatus (copied .hot (modTwin (fun t => { t with stale := false, copies := b.hotRegions }) b)) := by
  unfold hotSyncDone
  rw [if_neg (by rw [h]; exact Bool.false_ne_true), if_neg (by rw [hs]; exact Bool.false_ne_true), if_pos ha]

/-! ### The twin's state messages -/

theorem sfUpdate_refused {g : Nat} {w : Option Holders} (h : b.twinTakes = false) : sfUpdate g w b = b := by
  unfold sfUpdate
  exact if_pos (by rw [h]; rfl)

theorem sfUpdate_erases {g : Nat} (h : b.twinTakes = true) : sfUpdate g none b = { b with host := { b.host with sf := SMap.erase b.host.sf g, sfTick := b.host.sfTick + 1 } } := by
  unfold sfUpdate
  exact if_neg (takes_guard h)

theorem sfUpdate_inserts {g : Nat} {w : Holders} (h : b.twinTakes = true) :
    sfUpdate g (some w) b = { b with host := { b.host with sf := SMap.insert b.host.sf g ⟨w, b.host.sfTick + 1⟩, sfTick := b.host.sfTick + 1 } } := by
  unfold sfUpdate
  exact if_neg (takes_guard h)

theorem twinState_refused {k : Nat} {z : Option Nat} {c : List Nat} (h : b.twinTakes = false) : twinState phys k z c b = b := by
  unfold twinState
  exact if_pos (by rw [h]; rfl)

/-- A STATE that names no holder leaves the halves as they are. -/
theorem twinState_noHolder {z : Option Nat} {c : List Nat} (h : b.twinTakes = true) :
    ∃ q : Prop, ∃ _ : Decidable q, twinState phys 0 z c b =
      if q then startSync [] (modTwin (fun t => { t with peerRoles := 0, peerSealed := z, peerCopies := c }) b) else modTwin (fun t => { t with peerRoles := 0, peerSealed := z, peerCopies := c }) b := by
  unfold twinState
  rw [if_neg (takes_guard h)]
  dsimp only
  refine ⟨_, _, foldl_keeps (fun w => w = _) _ _ (fun w n _ hw => ?_) rfl⟩
  rw [← hw, Nat.zero_div, Nat.zero_mod, if_neg Nat.zero_ne_one]
  exact if_neg (by simp)

theorem stateTimer_sends (h : b.twinTakes = true) : stateTimer b = send (.crn 0 (.state b.roles b.mer.sealedEpoch b.twin.copies b.twin.stale)) b := by
  unfold stateTimer
  exact if_pos h

theorem stateTimer_idle (h : b.twinTakes = false) : stateTimer b = b := by
  unfold stateTimer
  exact if_neg (by rw [h]; exact Bool.false_ne_true)

theorem switchEpoch_refused (h : b.twinTakes = false) : switchEpoch e b = b := by
  unfold switchEpoch
  exact if_pos (by rw [h]; rfl)

/-- A live change that takes the epoch proposed, unless it has switched (R58). -/
def atEpoch (e : Nat) (a : LiveApply) : LiveApply := if a.switched then a else { a with epoch := e }

/-- The block after a SWITCH_EPOCH. -/
def epochTaken (e : Nat) (b : Blk) : Blk :=
  { modTwin (fun t => { t with switchEpoch := some e }) b with
    cht := { b.cht with apply := b.cht.apply.map (atEpoch e), commitNext := b.cht.commitNext.map (atEpoch e),
                        applyEpoch := if (b.cht.apply.map (fun a => !a.switched)).getD false then e else b.cht.applyEpoch } }

theorem switchEpoch_takes (h : b.twinTakes = true) : switchEpoch e b = epochTaken e b := by
  unfold switchEpoch
  exact if_neg (takes_guard h)

theorem epochTaken_epoch {a : LiveApply} (ha : b.cht.apply = some a) (h : a.switched = false) : (epochTaken e b).cht.applyEpoch = e :=
  if_pos (by rw [ha]; exact congrArg (!·) h)

theorem atEpoch_waiting {a : LiveApply} (h : a.switched = false) : atEpoch e a = { a with epoch := e } := by
  unfold atEpoch
  exact if_neg (by rw [h]; exact Bool.false_ne_true)

section
variable {dg : BitVec 512}

theorem chartConfirm_refused (h : b.twinTakes = false) : chartConfirm dg b = b := by
  unfold chartConfirm
  exact if_neg (by rw [h]; exact Bool.false_ne_true)

theorem chartConfirm_accepts {a : LiveApply} {k : Nat} (h : b.twinTakes = true) (hw : b.cht.commitWait = some (a, k)) (hd : a.next.digest = dg) : chartConfirm dg b = acceptLive a.next b := by
  unfold chartConfirm takeConfirm
  rw [if_pos h, hw]
  exact if_pos hd

theorem chartConfirm_ignores {a : LiveApply} {k : Nat} (h : b.twinTakes = true) (hw : b.cht.commitWait = some (a, k)) (hd : a.next.digest ≠ dg) : chartConfirm dg b = b := by
  unfold chartConfirm takeConfirm
  rw [if_pos h, hw]
  exact if_neg hd

theorem chartConfirm_answers (h : b.twinTakes = true) (hw : b.cht.commitWait = none) (hs : b.cht.staged = some dg) (hv : b.cht.state = .verified) :
    chartConfirm dg b = send (.crn 0 (.chartConfirm dg)) b := by
  unfold chartConfirm takeConfirm
  rw [if_pos h, hw]
  exact if_pos (by rw [hs, hv, beq_self_eq_true]; rfl)

end

theorem coldAck_stray (h : b.twin.shipping ≠ some e) : coldAck phys e b = twinViolation true b := by
  unfold coldAck
  exact if_pos (bne_iff_ne.2 h)

theorem coldAck_frees (h : b.twin.shipping = some e) (hc : b.twin.catchUp = none) : ∃ r f, coldAck phys e b =
    { modTwin (fun t => { t with shipping := none, shipped := some e, catchUp := t.catchUp, recopy := r, shipList := t.shipList.filter (fun x => decide (e < x.2)),
                                 captures := t.captures.filter (fun x => decide (e < x.2.1)) }) b with cht := { b.cht with apply := b.cht.apply.map f } } := by
  unfold coldAck
  rw [if_neg (by rw [h, bne_self_eq_false]; exact Bool.false_ne_true)]
  dsimp only
  rw [hc]
  exact ⟨_, _, rfl⟩

end

/-- Settles O38. -/
theorem coldDeltasAndHotSync : Obligations.ColdDeltasAndHotSync := by
  unfold Obligations.ColdDeltasAndHotSync
  intro s phys haon
  refine ⟨fun t h => ?idle, fun t e z hp hd hl hs hh hc hn hz => ⟨fun hlt => ?early, fun hle => ?ships, fun hle hnone => ?shipsNone⟩,
    fun k e ls n d x ll w y c => ⟨fun h => ?nakPage, fun h => ?nakEnd, fun h => ?nakAck, fun h => ?nakDigest, fun h => ?nakSync, fun h => ?nakMatch, fun h => ?nakSf, fun h => ?nakState,
      fun h => ?nakSwitch, fun h => ?nakConfirm, fun h => ⟨?duskPage, ?duskEnd, ?duskDigest, ?duskSync, ?duskSf, ?duskState, ?duskSwitch, ?duskConfirm⟩⟩,
    fun h => ?timer, fun h => ?timerIdle, fun p e ls r h hp hc hb hr hm => ?page, fun n e h hn => ?missing, fun k b => ⟨rfl, rfl⟩, fun n e ok h hn hw hok => ?settle,
    fun p x f h hf => ⟨fun hn => ?digestNone, fun l hl => ?digest⟩, fun p x ll f h hf => ⟨fun hn => ?syncNone, fun l r hl hr hk => ?syncEmpty, fun l r hl hr hk => ?sync⟩,
    fun g f h hf => ?erase, fun g w f h hf => ?insert, fun x y h => ?state, fun e h => ?switch, fun d h => ⟨fun a k hw => ⟨fun hd => ?accept, fun hd => ?ignore⟩, fun hw hs hv => ?confirm⟩,
    fun e h hs => ?ackStray, fun e h hs hc => ?ack, fun p d x f h hf => ⟨fun hn => ?matchStray, fun y hy => ⟨fun hd => ?matchEqual, fun hd hne => ?matchDiffers, fun hd heq => ?matchDivergent⟩⟩,
    fun h => ?doneDusk, fun h hs ht hw => ?doneHolder, fun h hs ha => ?doneStandby⟩
  case idle => rw [exec_coldShipStart s haon, coldShipStart_idle h]
  case early => rw [exec_coldShipStart s haon, coldShipStart_early ⟨hp, hd, hl, hs, hh, hc, hn, hz⟩ hlt]
  case ships =>
    refine ⟨_, by rw [exec_coldShipStart s haon, coldShipStart_ships ⟨hp, hd, hl, hs, hh, hc, hn, hz⟩ hle], ?_⟩
    exact ⟨rfl, List.getLast?_concat⟩
  case shipsNone => rw [exec_coldShipStart s haon, coldShipStart_ships ⟨hp, hd, hl, hs, hh, hc, hn, hz⟩ hle, hnone]; exact rfl
  case nakPage => rw [exec_coldPage s haon, viaFrame_garbled _ _ h]
  case nakEnd => rw [exec_coldEnd s haon, viaFrame_garbled _ _ h]
  case nakAck => rw [exec_coldAck s haon, viaFrame_garbled _ _ h]
  case nakDigest => rw [exec_syncDigest s haon, viaFrame_garbled _ _ h]
  case nakSync => rw [exec_syncPage s haon, viaFrame_garbled _ _ h]
  case nakMatch => rw [exec_syncMatch s haon, viaFrame_garbled _ _ h]
  case nakSf => rw [exec_sfUpdate s haon, viaFrame_garbled _ _ h]
  case nakState => rw [exec_twinState s haon, viaFrame_garbled _ _ h]
  case nakSwitch => rw [exec_switchEpoch s haon, viaFrame_garbled _ _ h]
  case nakConfirm => rw [exec_chartConfirm s haon, viaFrame_garbled _ _ h]
  case duskPage => rw [exec_coldPage s haon, viaFrame_dusk _ _ _ h, coldPage_refused (takes_of_dusk h)]
  case duskEnd => rw [exec_coldEnd s haon, viaFrame_dusk _ _ _ h, coldEnd_refused (takes_of_dusk h)]
  case duskDigest => rw [exec_syncDigest s haon, viaFrame_dusk _ _ _ h, syncDigest_refused (takes_of_dusk h)]
  case duskSync => rw [exec_syncPage s haon, viaFrame_dusk _ _ _ h, syncPage_refused (takes_of_dusk h)]
  case duskSf => rw [exec_sfUpdate s haon, viaFrame_dusk _ _ _ h, sfUpdate_refused (takes_of_dusk h)]
  case duskState => rw [exec_twinState s haon, viaFrame_dusk _ _ _ h, twinState_refused (takes_of_dusk h)]
  case duskSwitch => rw [exec_switchEpoch s haon, viaFrame_dusk _ _ _ h, switchEpoch_refused (takes_of_dusk h)]
  case duskConfirm => rw [exec_chartConfirm s haon, viaFrame_dusk _ _ _ h, chartConfirm_refused (takes_of_dusk h)]
  case timer => rw [exec_stateTimer s haon, stateTimer_sends h]
  case timerIdle => rw [exec_stateTimer s haon, stateTimer_idle h]
  case page =>
    obtain ⟨seq, c, hplaced, hpage⟩ := coldPage_joins (b := s.now.arrived (.coldPage p e ls)) (e := e) (ls := ls) (arrived_takes h) hp hb hr hm
    obtain ⟨w, htwin⟩ := hplaced.twin
    refine ⟨_, by rw [exec_coldPage s haon, viaFrame_arrives _ _ h, hpage], ?_, setPresence_presence ?_ _, ?_⟩
    · exact (congrArg (fun t : TwinSt => t.coldCount + 1) htwin).trans rfl
    · exact (congrArg (fun x : ChartSt => (carveAt x.cur.near (p * 4096)).isNone) hplaced.cht).trans hc
    · obtain ⟨dl, hin, he, hu⟩ := joined_has e p (coldUnit p e seq r ls) c.twin.deltas
      exact ⟨dl, coldUnit p e seq r ls, hin, he, hu, rfl, rfl, rfl⟩
  case missing => rw [exec_coldEnd s haon, viaFrame_arrives _ _ h, coldEnd_missing (b := s.now.arrived _) (arrived_takes h) hn]
  case settle =>
    have hall : ((s.now.arrived (.coldEnd n e)).twin.deltas.filter (fun d => d.epoch == e)).all (s.now.arrived (.coldEnd n e)).deltaDurable = ok := hok.symm
    cases ok with
    | true =>
      obtain ⟨c, hacks, hheld, hdue, hcount⟩ := coldEnd_acks (b := s.now.arrived (.coldEnd n e)) (arrived_takes h) hn hw hall
      exact ⟨send (.crn 0 (.coldAck e)) c, by rw [exec_coldEnd s haon, viaFrame_arrives _ _ h, hacks], hcount, fun _ => ⟨List.getLast?_concat, hheld, hdue⟩,
        fun hbad => absurd hbad.symm Bool.false_ne_true⟩
    | false =>
      have hwaits := coldEnd_waits (b := s.now.arrived (.coldEnd n e)) (arrived_takes h) hn hw hall
      exact ⟨deltaEnded e (s.now.arrived (.coldEnd n e)), by rw [exec_coldEnd s haon, viaFrame_arrives _ _ h, hwaits], rfl, fun hbad => absurd hbad Bool.false_ne_true, fun _ => ⟨rfl, rfl, rfl⟩⟩
  case digestNone => subst hf; rw [exec_syncDigest s haon, viaFrame_arrives _ _ h, syncDigest_noTarget (arrived_takes h) hn]
  case digest => subst hf; rw [exec_syncDigest s haon, viaFrame_arrives _ _ h, syncDigest_compares (arrived_takes h) hl]
  case syncNone => subst hf; rw [exec_syncPage s haon, viaFrame_arrives _ _ h, syncPage_noTarget (arrived_takes h) hn]
  case syncEmpty => subst hf; rw [exec_syncPage s haon, viaFrame_arrives _ _ h, syncPage_keyEmpty (arrived_takes h) hl hr hk]
  case sync =>
    subst hf
    refine ⟨_, by rw [exec_syncPage s haon, viaFrame_arrives _ _ h], ?_⟩
    exact syncPage_lands (b := s.now.arrived (.syncPage p x ll)) (arrived_takes h) hl hr hk
  case erase => subst hf; rw [exec_sfUpdate s haon, viaFrame_arrives _ _ h, sfUpdate_erases (arrived_takes h)]
  case insert => subst hf; rw [exec_sfUpdate s haon, viaFrame_arrives _ _ h, sfUpdate_inserts (arrived_takes h)]
  case state =>
    obtain ⟨q, hq, hstate⟩ := twinState_noHolder (b := s.now.arrived (.state 0 x y false)) (phys := phys) (z := x) (c := y) (arrived_takes h)
    refine ⟨_, by rw [exec_twinState s haon, viaFrame_arrives _ _ h, hstate], ?_⟩
    split <;> exact ⟨rfl, rfl, rfl, rfl, rfl⟩
  case switch =>
    refine ⟨_, by rw [exec_switchEpoch s haon, viaFrame_arrives _ _ h, switchEpoch_takes (arrived_takes h)], ?_⟩
    refine ⟨rfl, fun a ha hw => ⟨?_, epochTaken_epoch (b := s.now.arrived _) ha hw⟩, fun a ha hw => ?_, rfl⟩
    · exact (congrArg (Option.map (atEpoch e)) ha).trans (congrArg some (atEpoch_waiting hw))
    · exact (congrArg (Option.map (atEpoch e)) ha).trans (congrArg some (atEpoch_waiting hw))
  case accept => rw [exec_chartConfirm s haon, viaFrame_arrives _ _ h, chartConfirm_accepts (b := s.now.arrived _) (arrived_takes h) hw hd]
  case ignore => rw [exec_chartConfirm s haon, viaFrame_arrives _ _ h, chartConfirm_ignores (b := s.now.arrived _) (arrived_takes h) hw hd]
  case confirm => rw [exec_chartConfirm s haon, viaFrame_arrives _ _ h, chartConfirm_answers (b := s.now.arrived _) (arrived_takes h) hw hs hv]
  case ackStray => rw [exec_coldAck s haon, viaFrame_arrives _ _ h, coldAck_stray (b := s.now.arrived _) hs]
  case ack =>
    obtain ⟨r, f, hack⟩ := coldAck_frees (b := s.now.arrived (.coldAck e)) (phys := phys) hs hc
    refine ⟨_, by rw [exec_coldAck s haon, viaFrame_arrives _ _ h, hack], ?_⟩
    exact ⟨rfl, rfl, rfl, rfl, rfl, rfl⟩
  case matchStray => subst hf; rw [exec_syncMatch s haon, viaFrame_arrives _ _ h, syncMatch_stray (b := s.now.arrived _) hn]
  case matchEqual => subst hf; subst hd; rw [exec_syncMatch s haon, viaFrame_arrives _ _ h, syncMatch_equal (b := s.now.arrived _) hy]; exact rfl
  case matchDiffers => subst hf; subst hd; rw [exec_syncMatch s haon, viaFrame_arrives _ _ h, syncMatch_differs (b := s.now.arrived _) hy hne]; exact rfl
  case matchDivergent =>
    subst hf; subst hd
    obtain ⟨c, hmatch, hwait, hdiv, hdram⟩ := syncMatch_divergent (b := s.now.arrived (.syncMatch p true)) (phys := phys) hy heq
    exact ⟨c, by rw [exec_syncMatch s haon, viaFrame_arrives _ _ h, hmatch], hwait, hdiv, hdram⟩
  case doneDusk => rw [exec_hotSyncDone s haon, hotSyncDone_dusk h]
  case doneHolder =>
    have hkept := noteStatus_answersKept (syncEnded s.now)
    obtain ⟨m, o, htwin⟩ := hkept.twin
    refine ⟨_, by rw [exec_hotSyncDone s haon, hotSyncDone_holder h hs ht hw], ?_⟩
    rw [htwin, hkept.dram]
    exact ⟨rfl, rfl, rfl, rfl⟩
  case doneStandby =>
    have hkept := noteStatus_answersKept (copied .hot (modTwin (fun t => { t with stale := false, copies := s.now.hotRegions }) s.now))
    obtain ⟨m, o, htwin⟩ := hkept.twin
    refine ⟨_, by rw [exec_hotSyncDone s haon, hotSyncDone_standby h hs ha], ?_⟩
    rw [htwin, hkept.dram]
    exact ⟨rfl, rfl, rfl, rfl⟩

end Sys2Proof.Machine
end

section
/-!
PROOF. The lease and the arbiter's messages (O39; R277 to R288).
-/
namespace Sys2Proof.Machine
open Sys2Proof

/-! ### Halves -/

@[simp] theorem modHalf_half (h : Nat) (f : HalfSt → HalfSt) (b : Blk) : (modHalf h f b).half h = f (b.half h) := SMap.get_upd_same ..

theorem modHalf_half_other {h g : Nat} (f : HalfSt → HalfSt) (b : Blk) (hg : g ≠ h) : (modHalf h f b).half g = b.half g := SMap.get_upd_other _ _ _ hg

theorem half_of_twin {a b : Blk} (h : b.twin = a.twin) (g : Nat) : b.half g = a.half g := by unfold Blk.half; rw [h]

theorem holdWindows_frame (b : Blk) : (holdWindows b).twin = b.twin ∧ (holdWindows b).mer = b.mer := by
  unfold holdWindows
  refine foldl_keeps (fun c : Blk => c.twin = b.twin ∧ c.mer = b.mer) _ _ (fun a n _ h => ?_) ⟨rfl, rfl⟩
  dsimp only
  split
  · exact h
  · exact h

theorem flushHalo_twin (k : Bool) (e : Nat × HaloLine) (b : Blk) : (flushHalo k e b).twin = b.twin := by
  unfold flushHalo
  split
  · rfl
  · extract_lets written
    have hwritten : written.twin = b.twin := by
      simp only [written]
      split
      · exact (writeLine_kept ..).twin
      · rfl
    clear_value written
    split
    · rw [haloPut_twin, hwritten]
    · rw [haloDrop_twin, hwritten]

theorem flushEntry_twin (e : Nat × MbEntry) (b : Blk) : (flushEntry e b).twin = b.twin := by
  unfold flushEntry
  extract_lets m fed h cleared
  have hfed : fed.twin = b.twin := by
    simp only [fed]
    split
    · rfl
    · rw [feedMetric_twin, countEvent_twin]
  exact (writeLine_kept ..).twin.trans hfed

theorem flushHalf_twin (h : Nat) (b : Blk) : (flushHalf h b).twin = b.twin := by
  unfold flushHalf
  extract_lets flushed
  have hflushed : flushed.twin = b.twin := foldl_keeps (fun c : Blk => c.twin = b.twin) _ _ (fun a e _ ha => (flushHalo_twin ..).trans ha) rfl
  exact foldl_keeps (fun c : Blk => c.twin = b.twin) _ _ (fun a e _ ha => (flushEntry_twin ..).trans ha) hflushed

/-- A half as its Eclipse begins (R283). -/
def eclipsed (x : HalfSt) : HalfSt := { x with role := .eclipse, gateOpen := false, eclipse := true, expiry := none, renewSent := none }

/-- A fence of a half that is held (R280, R283). -/
theorem fenceHalf_fences {h : Nat} {b : Blk} (hr : (b.half h).role = .holder) : (fenceHalf h b).half h = eclipsed (b.half h) ∧ (∀ g, g ≠ h → (fenceHalf h b).half g = b.half g) ∧
    (fenceHalf h b).twin.eclipseStart = b.mer.count := by
  obtain ⟨htwin, hmer⟩ := holdWindows_frame b
  have hfence : (fenceHalf h b).twin = { (modHalf h eclipsed (holdWindows b)).twin with eclipseStart := b.mer.count } := by
    unfold fenceHalf
    rw [if_pos hr]
    dsimp only
    rw [flushHalf_twin]
    unfold beginEclipse
    dsimp only
    rw [logEvent_twin, modHalf_mer, hmer]
    rfl
  have hhalf : ∀ g, (fenceHalf h b).half g = (modHalf h eclipsed (holdWindows b)).half g := by
    intro g
    unfold Blk.half
    rw [hfence]
  refine ⟨?_, fun g hg => ?_, by rw [hfence]⟩
  · rw [hhalf, modHalf_half, half_of_twin htwin]
  · rw [hhalf, modHalf_half_other _ _ hg, half_of_twin htwin]

section
variable {b : Blk} {phys : Phys} {h x : Nat}

/-! ### Heartbeats, renewals and fences -/

theorem heartbeat_sends (ha : b.arbTakes = true) : heartbeat b = sendArb .heartbeat 0 b.roles b.sealedNo b := by
  unfold heartbeat
  exact if_pos ha

theorem heartbeat_idle (ha : b.arbTakes = false) : heartbeat b = b := by
  unfold heartbeat
  exact if_neg (by rw [ha]; exact Bool.false_ne_true)

theorem renew_idle (ha : b.arbTakes = false) : renew h b = b := by
  unfold renew
  split
  · exact if_neg (by rw [ha, Bool.false_and, Bool.false_and]; exact Bool.false_ne_true)
  · rfl

theorem renew_sends (ha : b.arbTakes = true) (hx : (b.half h).expiry = some x) (hr : (b.half h).role = .holder) (hd : x ≤ b.mer.count + b.leaseL / 2) :
    renew h b = modHalf h (fun y => { y with renewSent := some b.mer.count }) (sendArb .renew h 0 0 b) := by
  unfold renew
  rw [hx]
  exact if_pos (by rw [ha, hr, decide_eq_true hd]; rfl)

theorem renew_early (hx : (b.half h).expiry = some x) (hd : b.mer.count + b.leaseL / 2 < x) : renew h b = b := by
  unfold renew
  rw [hx]
  exact if_neg (by rw [decide_eq_false (Nat.not_le.2 hd), Bool.and_false]; exact Bool.false_ne_true)

theorem fence_fences {f : Int} (hf : b.fenceAt h = some f) (hr : (b.half h).role = .holder) (hd : f ≤ (b.mer.count : Int)) (hk : b.inDusk = false) : fence h b = fenceHalf h (twinLog 6 b) := by
  unfold fence
  rw [hf]
  exact if_pos (by rw [hr, decide_eq_true hd, hk]; rfl)

theorem fence_idle {f : Int} (hf : b.fenceAt h = some f) (hi : (b.half h).role ≠ .holder ∨ (b.mer.count : Int) < f ∨ b.inDusk = true) : fence h b = b := by
  unfold fence
  rw [hf]
  refine if_neg (fun hc => ?_)
  rw [Bool.and_eq_true, Bool.and_eq_true, decide_eq_true_iff, decide_eq_true_iff, Bool.not_eq_true'] at hc
  obtain ⟨⟨hr, hd⟩, hk⟩ := hc
  rcases hi with hi | hi | hi
  · exact hi hr
  · omega
  · exact Bool.false_ne_true (hk.symm.trans hi)

/-! ### Grants -/

section
variable {g : Grant}

theorem grant_idle (ha : b.arbTakes = false) : grant phys g b = b := by
  unfold grant
  exact if_pos (by rw [ha]; rfl)

theorem taken_guard (ha : b.arbTakes = true) (hu : b.twin.arbUp = true) : ¬ (!b.arbTakes || !b.twin.arbUp) = true := by
  rw [ha, hu]
  exact Bool.false_ne_true

theorem grant_misdirected (ha : b.arbTakes = true) (hu : b.twin.arbUp = true) (hg : g.unit ≠ b.ident.unitId ∨ g.pairTag ≠ b.pairTag ∨ b.halvesOf.contains g.half = false) :
    grant phys g b = setErrLog .twn 11 {} b := by
  unfold grant
  refine (if_neg (taken_guard ha hu)).trans (if_pos ?_)
  rcases hg with hg | hg | hg
  · rw [bne_iff_ne.2 hg, Bool.true_or, Bool.true_or]
  · rw [bne_iff_ne.2 hg, Bool.or_true, Bool.true_or]
  · rw [hg, Bool.not_false, Bool.or_true]

/-- A grant for this unit that comes in the lease (Table 10-9). -/
structure Granted (b : Blk) (g : Grant) : Prop where
  takes : b.arbTakes = true
  arbiter : b.twin.arbUp = true
  unit : g.unit = b.ident.unitId
  tag : g.pairTag = b.pairTag
  half : b.halvesOf.contains g.half = true

theorem Granted.addressed (hg : Granted b g) : ¬ (g.unit != b.ident.unitId || g.pairTag != b.pairTag || !b.halvesOf.contains g.half) = true := by
  rw [hg.unit, hg.tag, hg.half, bne_self_eq_false, bne_self_eq_false]
  exact Bool.false_ne_true

theorem grant_faulted (hg : Granted b g) (hf : b.halo.fatal = true ∨ b.twin.faulted = true) : grant phys g b = sendStatus g.half 5 b := by
  unfold grant
  refine (if_neg (taken_guard hg.takes hg.arbiter)).trans ((if_neg hg.addressed).trans (if_pos ?_))
  rcases hf with hf | hf
  · rw [hf, Bool.true_or]
  · rw [hf, Bool.or_true]

/-- A grant that a unit without a fault takes, with an expiry no more than L + G ahead. -/
structure Takes (b : Blk) (g : Grant) : Prop extends Granted b g where
  sound : b.halo.fatal = false
  whole : b.twin.faulted = false
  near : g.expiry ≤ b.mer.count + b.leaseL + b.leaseG

theorem Takes.unfaulted (hg : Takes b g) : ¬ (b.halo.fatal || b.twin.faulted) = true := by
  rw [hg.sound, hg.whole]
  exact Bool.false_ne_true

/-- A half as a grant opens it (R280). -/
def granted (x no : Nat) (s : HalfSt) : HalfSt := { s with role := .holder, gateOpen := true, expiry := some x, leaseNo := no, renewSent := none }

theorem openHalf_opens {no : Nat} (he : (b.half h).eclipse = false) (hh : b.host.held = []) : openHalf phys h x no b = modHalf h (granted x no) b := by
  have heclipse : ((modHalf h (granted x no) b).half h).eclipse = false := by rw [modHalf_half]; exact he
  unfold openHalf
  refine (if_neg (fun hbad => Bool.false_ne_true (heclipse.symm.trans hbad))).trans ?_
  rw [retryWhy]
  exact retry_noHeld _ hh

/-- Nothing is to be assumed with a half: no COLD delta is held and the twin held nothing. -/
structure NothingToAssume (b : Blk) : Prop where
  cold : b.hasCold = false
  held : b.twin.coldHeld = none
  peer : b.twin.peerRoles = 0

theorem Takes.notFar (hg : Takes b g) : decide (b.mer.count + b.leaseL + b.leaseG < g.expiry) = false := decide_eq_false (Nat.not_lt.2 hg.near)

theorem grant_past (hg : Takes b g) (hx : (g.expiry : Int) - b.leaseG - b.mer.drift ≤ (b.mer.count : Int)) : grant phys g b = setErrLog .twn 10 {} b := by
  unfold grant
  refine (if_neg (taken_guard hg.takes hg.arbiter)).trans ((if_neg hg.addressed).trans ((if_neg hg.unfaulted).trans ?_))
  simp only [hg.notFar, Bool.false_eq_true, if_false]
  exact if_pos hx

/-- What the noting of a catch-up delta and of first copies leaves. -/
def HalvesKept (a b : Blk) : Prop := b.twin.halves = a.twin.halves ∧ b.host = a.host ∧ b.dram = a.dram

theorem HalvesKept.trans {a b c : Blk} (h : HalvesKept a b) (g : HalvesKept b c) : HalvesKept a c := by
  obtain ⟨htwin, hhost, hdram⟩ := h
  obtain ⟨gtwin, ghost, gdram⟩ := g
  exact ⟨gtwin.trans htwin, ghost.trans hhost, gdram.trans hdram⟩

theorem modTwin_halvesKept {f : TwinSt → TwinSt} (hf : ∀ t, (f t).halves = t.halves) (b : Blk) : HalvesKept b (modTwin f b) := ⟨hf b.twin, rfl, rfl⟩

theorem shipRegions_halvesKept (ids : List Nat) (e : Nat) (b : Blk) : HalvesKept b (shipRegions ids e b) := ⟨rfl, rfl, rfl⟩

theorem HalvesKept.ite {c : Prop} [Decidable c] {a x y : Blk} (hx : HalvesKept a x) (hy : HalvesKept a y) : HalvesKept a (if c then x else y) := by
  split
  · exact hx
  · exact hy

section
variable (ha : (b.mer.count : Int) < (g.expiry : Int) - b.leaseG - b.mer.drift)
include ha

theorem grant_holder (hg : Takes b g) (hr : (b.half g.half).role = .holder) : grant phys g b = openHalf phys g.half g.expiry g.leaseNo b := by
  unfold grant
  refine (if_neg (taken_guard hg.takes hg.arbiter)).trans ((if_neg hg.addressed).trans ((if_neg hg.unfaulted).trans ?_))
  simp only [hg.notFar, Bool.false_eq_true, if_false]
  rw [if_neg (Int.not_le.2 ha), hr]

theorem grant_stale (hg : Takes b g) (hr : (b.half g.half).role = .standby) (hs : b.twin.stale = true) (hf : g.force = false) : grant phys g b = sendStatus g.half 1 b := by
  unfold grant
  refine (if_neg (taken_guard hg.takes hg.arbiter)).trans ((if_neg hg.addressed).trans ((if_neg hg.unfaulted).trans ?_))
  simp only [hg.notFar, Bool.false_eq_true, if_false]
  rw [if_neg (Int.not_le.2 ha), hr]
  exact if_pos (by rw [hs, hf]; rfl)

theorem grant_assumesNothing (hg : Takes b g) (hr : (b.half g.half).role = .standby) (hs : b.twin.stale = false) (hn : NothingToAssume b) :
    ∃ c, grant phys g b = openHalf phys g.half g.expiry g.leaseNo c ∧ HalvesKept b c := by
  unfold grant
  rw [if_neg (taken_guard hg.takes hg.arbiter), if_neg hg.addressed, if_neg hg.unfaulted]
  simp only [hg.notFar, Bool.false_eq_true, if_false]
  rw [if_neg (Int.not_le.2 ha), hr]
  simp only [hs, Bool.false_and, Bool.false_eq_true, if_false, hn.held, hn.peer, hn.cold, Nat.zero_div, Nat.zero_mod, Option.isSome_none, Bool.not_false, Bool.or_true]
  rw [if_neg (by cases g.epoch <;> exact Bool.false_ne_true), if_neg (by decide)]
  have hnoted : HalvesKept b (modTwin (fun t => { t with catchUp := b.catchUpLabel }) b) := modTwin_halvesKept (fun _ => rfl) b
  exact ⟨_, rfl, .ite (hnoted.trans ((modTwin_halvesKept (fun _ => rfl) _).trans (shipRegions_halvesKept ..))) hnoted⟩

end

end

/-! ### Revocations, queries and commands -/

theorem revoke_idle (ha : b.arbTakes = false) : revoke h b = b := by
  unfold revoke
  exact if_pos (by rw [ha]; rfl)

theorem revoke_acks (ha : b.arbTakes = true) (hu : b.twin.arbUp = true) :
    revoke h b = sendArb .fenceAck h 0 b.sealedNo (if (b.half h).role == .holder then fenceHalf h b else countUncoded b) := by
  unfold revoke
  exact if_neg (taken_guard ha hu)

theorem statusQuery_idle (ha : b.arbTakes = false) : statusQuery h b = b := by
  unfold statusQuery
  exact if_neg (by rw [ha, Bool.false_and]; exact Bool.false_ne_true)

theorem statusQuery_answers (ha : b.arbTakes = true) (hu : b.twin.arbUp = true) : statusQuery h b = sendStatus h b.statusCode b := by
  unfold statusQuery
  exact if_pos (by rw [ha, hu]; rfl)

theorem arbInvalid_dusk (k : ArbFault) (hk : b.inDusk = true) : arbInvalid k b = b := by
  unfold arbInvalid
  exact if_pos hk

theorem viaReg_twnCmd (hr : b.pwr.sysRst = false) (f : Blk → Blk) : viaReg 0x80060 f b = f b := by
  have hreg : b.regInReset 0x80060 = false := hr
  unfold viaReg
  rw [hreg]
  rfl

theorem audit_dusk (hk : b.inDusk = true) : audit b = b := by
  unfold audit
  exact if_pos hk

theorem audit_syncs (hk : b.inDusk = false) (hp : b.paired = true) (hh : b.halvesOf.any (fun h => (b.half h).role == .holder) = true) : audit b = startSync [] b := by
  unfold audit
  refine (if_neg (by rw [hk]; exact Bool.false_ne_true)).trans (if_pos ?_)
  rw [hh, hp, Bool.and_true]

theorem audit_refused (hk : b.inDusk = false) (hh : b.halvesOf.any (fun h => (b.half h).role == .holder) = false) : audit b = setErr .twn 12 b := by
  unfold audit
  refine (if_neg (by rw [hk]; exact Bool.false_ne_true)).trans (if_neg ?_)
  rw [hh, Bool.false_and]
  exact Bool.false_ne_true

theorem twnRelease_dusk (hk : b.inDusk = true) : twnRelease h b = b := by
  unfold twnRelease
  exact if_pos (by rw [hk, Bool.true_or])

theorem twnRelease_releases (hk : b.inDusk = false) (hp : b.paired = true) : twnRelease h b = releaseHalf 6 h b := by
  unfold twnRelease
  exact if_neg (by rw [hk, hp]; exact Bool.false_ne_true)

theorem releaseHalf_held (hr : (b.half h).role = .holder) (code : Nat) : releaseHalf code h b = sendArb .release h code b.sealedNo (fenceHalf h b) := by
  unfold releaseHalf
  exact if_pos hr

theorem releaseHalf_notHeld (hr : (b.half h).role ≠ .holder) (code : Nat) : releaseHalf code h b = b := by
  unfold releaseHalf
  exact if_neg hr

end

/-- Settles O39. -/
theorem leaseAndArbiterMessages : Obligations.LeaseAndArbiterMessages := by
  unfold Obligations.LeaseAndArbiterMessages
  intro s phys haon
  refine ⟨fun ha => ?beat, fun ha => ⟨?beatOut, fun h => ⟨?renewOut, ?revokeOut, ?queryOut⟩, fun g => ?grantOut⟩, fun h x ha hx hr => ⟨fun hd => ?renews, fun hd => ?early⟩,
    fun h f hf => ⟨fun hr hd hk => ?fences, fun hi => ?fenceIdle⟩,
    fun ha hu => ⟨fun g hg => ?misdirected, fun g hgu hgt hgh => ⟨fun hf => ?faulted, fun hs hw hn => ⟨fun hx => ?past, fun hx => ⟨fun hr => ?holder, fun hr hst hf => ?stale,
      fun hr hst hh hc hch hp he => ?opens⟩⟩⟩, fun h => ⟨fun hr => ?revokeHeld, fun hr => ?revokeOther⟩, fun h => ?query⟩,
    fun hk => ⟨?badCrc, ?badType⟩, fun hk k => ?badDusk, ?lock, ?lockLoss,
    fun hrst => ⟨fun hk => ⟨?auditDusk, fun h => ?releaseDusk⟩, fun hk hp => ⟨fun hh => ?audits, fun hh => ?auditRefused, fun h hr => ?releaseNone, fun h hr => ?releases⟩⟩⟩
  case beat => rw [exec_heartbeat s haon, heartbeat_sends ha]
  case beatOut => rw [exec_heartbeat s haon, heartbeat_idle ha]
  case renewOut => rw [exec_renew s haon, renew_idle ha]
  case revokeOut => rw [exec_revoke s haon, revoke_idle ha]
  case queryOut => rw [exec_statusQuery s haon, statusQuery_idle ha]
  case grantOut => rw [exec_grant s haon, grant_idle ha]
  case renews => rw [exec_renew s haon, renew_sends ha hx hr hd]
  case early => rw [exec_renew s haon, renew_early hx hd]
  case fences =>
    have hnoted : ∀ g, (twinLog 6 s.now).half g = s.now.half g := half_of_twin (twinLog_twin ..)
    obtain ⟨hhalf, hothers, hstart⟩ := fenceHalf_fences (h := h) (b := twinLog 6 s.now) (by rw [hnoted]; exact hr)
    obtain ⟨-, -, -, herrs⟩ := fenceHalf_reactionKept h (twinLog 6 s.now)
    refine ⟨fenceHalf h (twinLog 6 s.now), by rw [exec_fence s haon, fence_fences hf hr hd hk], ?_⟩
    rw [hhalf]
    refine ⟨rfl, rfl, rfl, rfl, hstart.trans (congrArg (·.count) (setErrLog_mer ..)), fun g hg => (hothers g hg).trans (hnoted g), herrs _ _ (twinLog_sets (by decide) _)⟩
  case fenceIdle => rw [exec_fence s haon, fence_idle hf hi]
  case misdirected => rw [exec_grant s haon, grant_misdirected ha hu hg]
  case faulted => rw [exec_grant s haon, grant_faulted ⟨ha, hu, hgu, hgt, hgh⟩ hf]
  case past => rw [exec_grant s haon, grant_past ⟨⟨ha, hu, hgu, hgt, hgh⟩, hs, hw, hn⟩ hx]
  case holder => rw [exec_grant s haon, grant_holder hx ⟨⟨ha, hu, hgu, hgt, hgh⟩, hs, hw, hn⟩ hr]
  case stale => rw [exec_grant s haon, grant_stale hx ⟨⟨ha, hu, hgu, hgt, hgh⟩, hs, hw, hn⟩ hr hst hf]
  case opens =>
    obtain ⟨c, hgrant, hhalves, hhost, hdram⟩ := grant_assumesNothing (phys := phys) hx ⟨⟨ha, hu, hgu, hgt, hgh⟩, hs, hw, hn⟩ hr hst ⟨hc, hch, hp⟩
    have hhalf : ∀ k, c.half k = s.now.half k := fun k => by unfold Blk.half; rw [hhalves]
    refine ⟨modHalf g.half (granted g.expiry g.leaseNo) c, ?_, ?_⟩
    · rw [exec_grant s haon, hgrant, openHalf_opens (by rw [hhalf]; exact he) (by rw [hhost]; exact hh)]
    · rw [modHalf_half]
      exact ⟨rfl, rfl, rfl, rfl, hdram, fun k hk => (modHalf_half_other _ _ hk).trans (hhalf k)⟩
  case revokeHeld => rw [exec_revoke s haon, revoke_acks ha hu, if_pos (beq_iff_eq.2 hr)]
  case revokeOther => rw [exec_revoke s haon, revoke_acks ha hu, if_neg (fun hb => hr (beq_iff_eq.1 hb))]
  case query => rw [exec_statusQuery s haon, statusQuery_answers ha hu]
  case badCrc => exact (exec_arbiterMessageInvalid s haon .crc).trans (congrArg _ (congrArg _ (if_neg (by rw [hk]; exact Bool.false_ne_true))))
  case badType => exact (exec_arbiterMessageInvalid s haon .unknownType).trans (congrArg _ (congrArg _ (if_neg (by rw [hk]; exact Bool.false_ne_true))))
  case badDusk => rw [exec_arbiterMessageInvalid s haon, arbInvalid_dusk k hk]
  case lock => exact exec_arbSymbolLock s haon
  case lockLoss => exact exec_arbSymbolLockLoss s haon
  case auditDusk => rw [exec_audit s haon, viaReg_twnCmd hrst, audit_dusk hk]
  case releaseDusk => rw [exec_twnRelease s haon, viaReg_twnCmd hrst, twnRelease_dusk hk]
  case audits => rw [exec_audit s haon, viaReg_twnCmd hrst, audit_syncs hk hp hh]
  case auditRefused => rw [exec_audit s haon, viaReg_twnCmd hrst, audit_refused hk hh]
  case releaseNone => rw [exec_twnRelease s haon, viaReg_twnCmd hrst, twnRelease_releases hk hp, releaseHalf_notHeld hr]
  case releases => rw [exec_twnRelease s haon, viaReg_twnCmd hrst, twnRelease_releases hk hp, releaseHalf_held hr]

end Sys2Proof.Machine
end

section
/-!
SUPPORT and PROOF. Where the media show no error, a memory access leaves the number of the next job and the commands kept back as they are.
-/
namespace Sys2Proof.Machine
open Sys2Proof

/-- The number of the next job and the commands kept back are as they were. -/
structure DutyKept (a b : Blk) : Prop where
  nextJob : b.host.nextJob = a.host.nextJob
  deferred : b.fw.deferred = a.fw.deferred

theorem DutyKept.refl (a : Blk) : DutyKept a a := ⟨rfl, rfl⟩

theorem DutyKept.trans {a b c : Blk} (h : DutyKept a b) (g : DutyKept b c) : DutyKept a c := ⟨g.nextJob.trans h.nextJob, g.deferred.trans h.deferred⟩

theorem DutyKept.after {a b c : Blk} (g : DutyKept b c) (h : DutyKept a b) : DutyKept a c := h.trans g

theorem DutyKept.of_eq {a b : Blk} (hh : b.host = a.host) (hf : b.fw = a.fw) : DutyKept a b := ⟨by rw [hh], by rw [hf]⟩

theorem DutyKept.foldl {β : Type} (f : Blk → β → Blk) (hf : ∀ b x, DutyKept b (f b x)) (l : List β) (b : Blk) : DutyKept b (l.foldl f b) :=
  foldl_keeps (DutyKept b) f l (fun a x _ h => h.trans (hf a x)) (.refl b)

theorem DutyKept.ite {c : Prop} [Decidable c] {a x y : Blk} (hx : DutyKept a x) (hy : DutyKept a y) : DutyKept a (if c then x else y) := by
  split
  · exact hx
  · exact hy

section
variable {b : Blk}

/-! ### Records, events and answers -/

theorem setErr_duty (r : ErrReg) (n : Nat) : DutyKept b (setErr r n b) := .of_eq (setErr_host ..) (setErr_fw ..)
theorem setErrLog_duty (r : ErrReg) (n : Nat) (a : LogArgs) : DutyKept b (setErrLog r n a b) := .of_eq (setErrLog_host ..) (setErrLog_fw ..)
theorem send_duty (o : Output) : DutyKept b (send o b) := ⟨rfl, rfl⟩
theorem modLd_duty (n : Nat) (f : LdSt → LdSt) : DutyKept b (modLd n f b) := ⟨rfl, rfl⟩
theorem modPort_duty (p : Nat) (f : PortSt → PortSt) : DutyKept b (modPort p f b) := ⟨rfl, rfl⟩
theorem modChan_duty (c : Nat) (f : Chan → Chan) : DutyKept b (modChan c f b) := ⟨rfl, rfl⟩
theorem modNvf_duty (f : NvfSt → NvfSt) : DutyKept b (modNvf f b) := ⟨rfl, rfl⟩

theorem counted_duty (m i : Nat) (v : Int) (g c : Nat) : DutyKept b (feedMetric m i v (countEvent g c b)) := .of_eq (by simp) (by simp)

theorem raiseMsix_duty (n v : Nat) : DutyKept b (raiseMsix n v b) := by
  unfold raiseMsix
  exact .ite (.refl b) (.ite (modLd_duty ..) (send_duty _))

theorem eventInterrupt_duty (n : Nat) (k : LogKind) : DutyKept b (eventInterrupt n k b) := by
  unfold eventInterrupt
  exact .ite (raiseMsix_duty ..) (.refl b)

theorem postTo_duty (l : List Nat) (k : LogKind) (r : EvRec) : DutyKept b (postTo l k r b) :=
  .foldl _ (fun _ _ => (modLd_duty ..).trans (eventInterrupt_duty ..)) l b

theorem violation_duty (n bit dpa : Nat) (l p : Bool) : DutyKept b (violation n bit dpa l p b) := by
  unfold violation
  extract_lets port told counted
  have htold : DutyKept b told := .ite (setErrLog_duty ..) (setErr_duty ..)
  have hcounted : DutyKept b counted := htold.trans (modPort_duty ..)
  exact .ite (hcounted.trans (postTo_duty ..)) hcounted

theorem markDirty_duty (p e : Nat) : DutyKept b (markDirty p e b) := by
  unfold markDirty
  exact .ite ⟨rfl, rfl⟩ (.refl b)

theorem dropWrite_duty (l e : Nat) : DutyKept b (dropWrite l e b) := by
  unfold dropWrite
  extract_lets c told full noted dropped
  have htold : DutyKept b told := setErr_duty ..
  have hnoted : DutyKept b noted := .ite (htold.trans (setErr_duty ..)) htold
  exact hnoted.trans ((modChan_duty ..).trans (markDirty_duty ..))

theorem jobPrior_duty (src : Src) (d : Half) : DutyKept b (jobPrior src d b) := by cases src <;> exact ⟨rfl, rfl⟩

theorem answerRead_duty (src : Src) (d : Half) (p : Bool) : DutyKept b (answerRead src d p b) := by cases src <;> exact ⟨rfl, rfl⟩

theorem answerWrite_duty (src : Src) : DutyKept b (answerWrite src b) := by cases src <;> exact ⟨rfl, rfl⟩

/-! ### Lines of DRAM and flushes -/

theorem useSlot_duty (n u : Nat) (i : Bool) : DutyKept b (useSlot n u i b) := by
  unfold useSlot
  extract_lets k spent k' used counted
  have hused : DutyKept b used := ⟨rfl, rfl⟩
  have hcounted : DutyKept b counted := .ite ((setErrLog_duty ..).after ⟨rfl, rfl⟩) hused
  clear_value counted
  exact .ite (.refl b) (.ite (.ite (hcounted.trans (setErr_duty ..)) (hcounted.trans ((setErrLog_duty ..).after ⟨rfl, rfl⟩))) hcounted)

theorem putLine_duty (l : Nat) (d : DramLine) : DutyKept b (putLine l d b) := by
  unfold putLine
  exact .ite ⟨rfl, rfl⟩ ⟨rfl, rfl⟩

theorem writeLine_duty (l : Nat) (d : Line) (p : Bool) (s : Nat) : DutyKept b (writeLine l d p s b) := (putLine_duty ..).trans (useSlot_duty ..)

theorem readDram_duty (l : Nat) (src : Reader) : DutyKept b (readDram {} l src b).2 := by
  rcases readDram_of_no_burst {} l src b rfl with h | ⟨c, h⟩ <;> rw [h]
  · exact .refl b
  · exact setErr_duty ..

theorem rmwBase_duty (l : Nat) : DutyKept b (rmwBase {} l b).2 := by
  rcases rmwBase_of_no_burst {} l b rfl with h | ⟨c, h⟩ <;> rw [h]
  · exact .refl b
  · exact setErr_duty ..

theorem lineOut_duty (src : Reader) (l : Nat) : DutyKept b (lineOut {} src l b).2 := by
  rcases lineOut_quiet src l b with h | ⟨c, h⟩ <;> rw [h]
  · exact .refl b
  · exact setErr_duty ..

theorem setPresence_duty (p : Nat) (v : Presence) : DutyKept b (setPresence p v b) := ⟨rfl, rfl⟩

theorem presenceRead_duty (p : Nat) : DutyKept b (presenceRead {} p b) := by
  unfold presenceRead
  split
  · exact .refl b
  · exact .ite (.refl b) ((readDram_duty ..).trans ⟨rfl, rfl⟩)

/-! ### Halo and the merge buffer -/

theorem evictEntry_duty (k : Nat) : DutyKept b (evictEntry k b) := by
  unfold evictEntry
  split
  · exact (DutyKept.ite (writeLine_duty ..) (.refl b)).trans ⟨rfl, rfl⟩
  · exact .refl b

theorem allocate_duty (h : HaloLine) : DutyKept b (allocate {} h b).2 := by
  unfold allocate
  extract_lets found
  have hfound : DutyKept b found := by
    simp only [found]
    split <;> exact .refl b
  split
  · exact hfound
  · exact hfound.trans ((evictEntry_duty _).trans ⟨rfl, rfl⟩)

theorem placeLine_duty (l : Nat) (m : Line × Bool) (e : MbEntry) : DutyKept b (placeLine {} l m e b) := by
  have halloc := allocate_duty (b := b) { line := l, data := m.1, poison := m.2, dirty := true, part := e.part, stamp := e.stamp }
  unfold placeLine
  refine .ite (writeLine_duty ..) (.ite ⟨rfl, rfl⟩ ?_)
  split
  next h => rw [h] at halloc; exact halloc
  next h => rw [h] at halloc; exact halloc.trans (writeLine_duty ..)

theorem takeEntry_duty (l : Nat) (e : MbEntry) : DutyKept b (takeEntry {} l e b).2 := by
  unfold takeEntry
  dsimp only
  split
  · exact ⟨rfl, rfl⟩
  · exact (rmwBase_duty l).after ((counted_duty ..).after ⟨rfl, rfl⟩)

theorem closeEntry_duty (l : Nat) : DutyKept b (closeEntry {} l b) := by
  have hwords : useWords {} l wholeLine b = b := rfl
  unfold closeEntry
  rw [hwords]
  dsimp only
  split
  · exact .refl b
  · exact (takeEntry_duty ..).trans (placeLine_duty ..)

theorem storeHalf_duty (l i : Nat) (d : Half) (p : Bool) (pt : Nat) (f : Bool) (e : Nat) : DutyKept b (storeHalf {} l i d p pt f e b) := by
  unfold storeHalf
  split
  · exact ⟨rfl, rfl⟩
  · exact .ite ((closeEntry_duty l).after ⟨rfl, rfl⟩) ⟨rfl, rfl⟩

/-! ### Reads of a half -/

theorem askTwin_duty (l i : Nat) : DutyKept b (askTwin l i b) := by
  unfold askTwin
  exact .ite (.refl b) ⟨rfl, rfl⟩

theorem remoteHalf_duty (l i : Nat) : DutyKept b (remoteHalf l i b).2 := by
  unfold remoteHalf
  split
  · exact .refl b
  · split
    · exact askTwin_duty l i
    · exact .refl b

theorem frozenRead_duty (l i : Nat) : DutyKept b (frozenRead l i b).2 := by
  unfold frozenRead
  split
  · exact .refl b
  · split
    · exact remoteHalf_duty l i
    · exact .refl b

theorem missRead_duty (l i : Nat) (part : Option Nat) : DutyKept b (missRead {} l i part b).2 := by
  unfold missRead
  split
  · exact frozenRead_duty l i
  · extract_lets part' keep
    have hkeep : ∀ d p c, DutyKept c (keep d p c) := fun d p c => by
      unfold keep
      cases part' with
      | none => exact .refl c
      | some pt => exact allocate_duty _
    have hread := readDram_duty (b := b) l .host
    simp only [Bool.false_and, Bool.false_eq_true, if_false]
    split
    next h => rw [h] at hread; exact hread.trans (hkeep ..)
    next h => rw [h] at hread; exact hread.trans (hkeep ..)
    next h => rw [h] at hread; exact hread.trans (frozenRead_duty l i)

theorem presentRead_duty (l i : Nat) (part : Option Nat) : DutyKept b (presentRead {} l i part b).2 := by
  unfold presentRead
  extract_lets c
  have hc : DutyKept b c := presenceRead_duty _
  split
  · split
    · exact hc
    · exact hc.trans (missRead_duty ..)
  · exact hc
  · split
    · exact hc
    · split
      · exact hc.trans (remoteHalf_duty ..)
      · exact hc
  · exact hc.trans (missRead_duty ..)

theorem readHalf_duty (l i : Nat) (part : Option Nat) : DutyKept b (readHalf {} l i part b).2 := by
  have hwords : ∀ q, useWords {} l q (lookupFault {} l b) = b := fun _ => rfl
  have hwhole : useWords {} l wholeLine b = b := rfl
  unfold readHalf
  rw [hwords]
  dsimp only
  split
  · exact .refl b
  · split
    · split
      · exact .refl b
      · rw [hwhole]
        split
        · exact presentRead_duty ..
        · exact (takeEntry_duty ..).trans (placeLine_duty ..)
    · exact presentRead_duty ..

theorem aliasRead_duty (o i part : Nat) : DutyKept b (aliasRead {} o i part b).2 := by
  unfold aliasRead
  split
  · exact .refl b
  · dsimp only
    split
    · exact .refl b
    · split
      · exact .refl b
      · exact readHalf_duty ..
    · split <;> dsimp only
      · exact .refl b
      · exact setErr_duty ..
    · split
      · exact .refl b
      · split
        · exact readHalf_duty ..
        · exact ⟨rfl, rfl⟩

end

end Sys2Proof.Machine
end

section
/-!
SUPPORT and PROOF. The same for staging, for the service of a request, and for the jobs that make one.
-/
namespace Sys2Proof.Machine
open Sys2Proof

section
variable {b : Blk}

/-! ### The staging directory and the map -/

theorem dropPageHalo_duty (p : Nat) : DutyKept b (dropPageHalo p b) := ⟨rfl, rfl⟩

theorem dropPageLines_duty (p : Nat) : DutyKept b (dropPageLines p b) := ⟨rfl, rfl⟩

theorem writeEntry_duty (i : Nat) : DutyKept b (writeEntry i b) := by
  unfold writeEntry
  extract_lets l data
  have hpage : DutyKept b (if b.presence (l / 32) == .zero then setPresence (l / 32) .resident b else b) := .ite (setPresence_duty ..) (.refl b)
  exact .ite (dropWrite_duty ..) (hpage.trans ((writeLine_duty ..).trans (markDirty_duty ..)))

theorem modEntry_duty (i : Nat) (f : StageEntry → StageEntry) : DutyKept b (modEntry i f b) := by
  unfold modEntry
  extract_lets e far entered
  have hentered : DutyKept b entered := ⟨rfl, rfl⟩
  exact .ite hentered (hentered.trans (writeEntry_duty i))

theorem dirRead_duty (s : Nat) : DutyKept b (dirRead {} s b) := by
  unfold dirRead
  dsimp only
  split
  · exact .refl b
  · refine .trans (b := (List.range 8).foldl (fun b k => (readDram {} (b.dirLine (8 * s + k)) .host b).2) b) (.foldl _ (fun _ _ => readDram_duty ..) _ b) ?_
    generalize (List.range 8).foldl (fun b k => (readDram {} (b.dirLine (8 * s + k)) .host b).2) b = c
    exact ⟨rfl, rfl⟩

theorem touchMap_duty (i : Nat) : DutyKept b (touchMap i b) := ⟨rfl, rfl⟩

theorem readMap_duty (i : Nat) : DutyKept b (readMap {} i b) := by
  unfold readMap
  rw [if_neg (by simp)]
  exact touchMap_duty i

theorem fillLines_duty (p : Nat) (w : Nat → Bool) : DutyKept b (fillLines p w b) := .foldl _ (fun _ _ => putLine_duty ..) _ b

theorem startFill_duty (i f : Nat) : DutyKept b (startFill {} i f b) := by
  unfold startFill
  extract_lets mapped filling p ready
  have hready : DutyKept b ready := (readMap_duty _).trans ((modEntry_duty ..).trans ((dropPageLines_duty _).trans (setPresence_duty ..)))
  exact .ite hready (hready.trans ((fillLines_duty ..).trans (modEntry_duty ..)))

theorem advanceClock_duty (s i : Nat) : DutyKept b (advanceClock s i b) := by
  unfold advanceClock
  extract_lets c n cleared
  have hcleared : DutyKept b cleared := .foldl _ (fun _ _ => modEntry_duty ..) _ b
  clear_value cleared
  exact hcleared.trans ⟨rfl, rfl⟩

/-! ### Programs -/

theorem setZone_duty (z : Nat) (v : Zone) : DutyKept b (setZone z v b) := modNvf_duty _

theorem sjRecord_duty (r : SjRec) : DutyKept b (sjRecord r b) := modNvf_duty _

theorem modStripe_duty (s : Nat) (f : Stripe → Stripe) : DutyKept b (modStripe s f b) := ⟨rfl, rfl⟩

theorem writeSb_duty (f : Superblock → Superblock) : DutyKept b (writeSb f b) := ⟨rfl, rfl⟩

theorem keyMedia_duty (n : Nat) : DutyKept b (keyMedia n b) := ⟨rfl, rfl⟩

theorem takeSeqs_duty (n : Nat) : DutyKept b (takeSeqs n b).2 := by
  unfold takeSeqs
  extract_lets written
  have hwritten : DutyKept b written := .ite (writeSb_duty _) (.refl b)
  exact hwritten.trans ((keyMedia_duty _).after ((keyMedia_duty _).after ⟨rfl, rfl⟩))

theorem padStripe_duty : DutyKept b (padStripe b) := by
  unfold padStripe
  split
  · exact .refl b
  · exact (takeSeqs_duty _).trans ((modStripe_duty ..).trans (modNvf_duty _))

theorem noteStarved_duty : DutyKept b (noteStarved b) := by
  unfold noteStarved
  exact (DutyKept.ite (setErr_duty ..) (.refl b)).trans (modNvf_duty _)

theorem stripeOpened_duty (seq gen s : Nat) : DutyKept b (stripeOpened seq gen s b) := by
  unfold stripeOpened
  extract_lets striped recorded placed
  have hplaced : DutyKept recorded placed := by
    simp only [placed]
    split
    · exact modNvf_duty _
    · exact setZone_duty ..
  have hb : DutyKept b placed := (modStripe_duty ..).trans ((sjRecord_duty _).trans hplaced)
  clear_value placed
  exact hb.trans (modNvf_duty _)

theorem openStripeNow_duty {seq : Nat} {r : Nat × Blk} (h : openStripeNow seq b = some r) : DutyKept b r.2 := by
  unfold openStripeNow at h
  refine ite_eq_some (fun hnone => (Option.some_ne_none _ hnone.symm).elim) (ite_eq_some (fun hopen => ?_) (fun hfree => ?_)) h
  · rw [← Option.some.inj hopen]
    exact stripeOpened_duty seq b.layout.gen b.nvf.logHead
  · split at hfree
    · exact (Option.some_ne_none _ hfree.symm).elim
    next zn _ =>
      rw [← Option.some.inj hfree]
      refine .trans ?_ (stripeOpened_duty seq b.layout.gen _)
      refine .trans ?_ noteStarved_duty
      refine .trans ?_ (setZone_duty zn _)
      exact foldl_keeps (DutyKept b) _ _ (fun a y _ ha => ha.trans (setZone_duty ..)) (.refl b)

theorem placeUnit_duty {u : FlashUnit} {r : (Nat × Nat) × Blk} (h : placeUnit u b = some r) : DutyKept b r.2 := by
  unfold placeUnit at h
  extract_lets put c at h
  have hput : ∀ s x, DutyKept x (put s x).2 := fun s x => by
    unfold put
    exact .ite ⟨rfl, rfl⟩ ⟨rfl, rfl⟩
  have hc : DutyKept b c := by
    unfold c
    split
    · exact .ite (.refl b) padStripe_duty
    · exact .refl b
  split at h
  · cases h; exact hc.trans (hput ..)
  · obtain ⟨x, hx, hr⟩ := Option.map_eq_some_iff.1 h
    rw [← hr]
    exact hc.trans ((openStripeNow_duty hx).trans (hput ..))

theorem pageLines_duty (p : Nat) (src : Reader) : DutyKept b (pageLines {} p src b).2 :=
  foldl_keeps (fun a : Option PageLines × Blk => DutyKept b a.2) _ _ (fun a j _ h => by
    obtain ⟨_ | ls, c⟩ := a
    · exact h
    · exact h.trans (lineOut_duty ..)) (.refl b)

theorem noteIssue_duty (p : Nat) (u : FlashUnit) : DutyKept b (noteIssue p u b) := by
  have hdebit : ∀ c : Blk, DutyKept c (debit c) := fun c => (DutyKept.ite (setErr_duty ..) (.refl c)).trans ⟨rfl, rfl⟩
  unfold noteIssue
  extract_lets issued paid
  have hpaid : DutyKept b paid := (hdebit _).after ⟨rfl, rfl⟩
  clear_value paid
  split
  · exact hpaid.trans (modEntry_duty ..)
  · exact hpaid

theorem issueProgram_duty {p : Nat} {c : Blk} (h : issueProgram {} p b = some c) : DutyKept b c := by
  have hlines := pageLines_duty (b := b) p .wb
  unfold issueProgram at h
  split at h
  · cases h
  next ls d hd =>
    rw [hd] at hlines
    obtain ⟨x, hx, hc⟩ := Option.map_eq_some_iff.1 h
    rw [← hc]
    exact hlines.trans ((takeSeqs_duty 1).trans ((placeUnit_duty hx).trans (noteIssue_duty ..)))

theorem stageAccess_duty (f : Nat) : DutyKept b (stageAccess {} f b).2 := by
  unfold stageAccess
  extract_lets s c ways mine take dirty full room
  have hc : DutyKept b c := dirRead_duty _
  have hfull : DutyKept b full := hc.trans (setErr_duty ..)
  have htake : ∀ i x, DutyKept x (take i x).2 := fun i x => by
    unfold take
    extract_lets filled
    have hfilled : DutyKept x filled := (dropPageHalo_duty _).trans (startFill_duty i f)
    clear_value filled
    split <;> dsimp only
    · exact hfilled.trans (modEntry_duty ..)
    · exact hfilled
  clear_value take dirty room full c
  split
  · split <;> dsimp only
    · exact hc
    · exact hc.trans (modEntry_duty ..)
  · split
    · exact hc
    · split
      · exact hc.trans (htake ..)
      · split
        · exact hc.trans ((advanceClock_duty ..).trans (htake ..))
        · split
          · exact hc
          · dsimp only
            split
            · split
              next h => exact hfull.trans ((issueProgram_duty h).trans (modEntry_duty ..))
              next => exact hfull
            · exact hfull

theorem touchFor_duty (n : Nat) (c : MboxCmd) : DutyKept b (touchFor {} n c b) := by
  unfold touchFor
  split
  · exact .ite (.refl b) (stageAccess_duty _)
  · exact .refl b

theorem locate_duty (r : MemReq) : DutyKept b (locate {} r b).2 := by
  unfold locate
  split
  next f _ =>
    have hstage := stageAccess_duty (b := b) f
    split
    next h => rw [h] at hstage; exact hstage
    next h => rw [h] at hstage; exact hstage
  · exact .refl b

/-! ### The service of a request -/

theorem holdReq_duty (h : Hold) (r : MemReq) : DutyKept b (holdReq h r b) := ⟨rfl, rfl⟩

theorem serveRead_duty (r : MemReq) : DutyKept b (serveRead {} r b) := by
  unfold serveRead
  split
  · have hread := aliasRead_duty (b := b) (r.dpa - aliasBase) (halfIx r.dpa) (b.partition (b.partLd r.src) (b.regionOf r.dpa))
    split
    next h => rw [h] at hread; exact hread.trans (answerRead_duty ..)
    next h => rw [h] at hread; exact hread.trans (answerRead_duty ..)
    next h => rw [h] at hread; exact hread.trans (holdReq_duty ..)
  · have hplace := locate_duty (b := b) r
    split
    next h => rw [h] at hplace; exact hplace.trans (holdReq_duty ..)
    next l c h =>
      rw [h] at hplace
      have hread := readHalf_duty (b := c) l (halfIx r.dpa) (some (c.partition (c.partLd r.src) (c.regionOf r.dpa)))
      dsimp only
      split
      next h => rw [h] at hread; exact hplace.trans (hread.trans (answerRead_duty ..))
      next h => rw [h] at hread; exact hplace.trans (hread.trans (answerRead_duty ..))
      next h => rw [h] at hread; exact hplace.trans (hread.trans (holdReq_duty ..))

theorem detectStore_duty (h l : Nat) (w : Bool) : DutyKept b (detectStore h l w b) := ⟨rfl, rfl⟩

theorem offerStore_duty (r : MemReq) : DutyKept b (offerStore r b).2 := by
  unfold offerStore
  split
  · split
    · exact .refl b
    · exact detectStore_duty ..
  · exact .refl b

theorem noteHold_duty (h : Hold) : DutyKept b (noteHold h b) := by
  unfold noteHold
  split
  · exact setErr_duty ..
  · exact setErr_duty ..
  · exact setErr_duty ..
  · exact .refl b

end

end Sys2Proof.Machine
end

section
/-!
SUPPORT and PROOF. The same for the service of a whole request; a job that makes requests is numbered, so it shows.
-/
namespace Sys2Proof.Machine
open Sys2Proof

section
variable {b : Blk}

/-! ### Requests that are refused, forwarded or held -/

theorem answerNothing_duty (r : MemReq) : DutyKept b (answerNothing r b) := by
  unfold answerNothing
  split
  · exact answerRead_duty ..
  · exact answerWrite_duty _

theorem refuseReach_duty (a : Reach) (r : MemReq) : DutyKept b (refuseReach a r b) := by
  unfold refuseReach
  extract_lets keyed told
  have hkeyed : DutyKept b keyed := .ite (setErr_duty ..) (.refl b)
  have htold : DutyKept keyed told := by
    unfold told
    split
    · exact violation_duty ..
    · exact .refl _
  exact hkeyed.trans (htold.trans (answerNothing_duty r))

theorem noteHeld_duty (h : Hold) (dpa : Nat) : DutyKept b (noteHeld h dpa b) := by
  unfold noteHeld noteThrottle
  extract_lets lds r posted
  have hposted : DutyKept b posted := .ite (.refl b) (postTo_duty ..)
  exact .ite (hposted.trans ⟨rfl, rfl⟩) (.refl b)

theorem forward_duty (r : MemReq) : DutyKept b (forward r b) := ⟨rfl, rfl⟩

theorem notServed_duty (r : MemReq) : DutyKept b (notServed r b) := by
  unfold notServed
  extract_lets h failed
  have hfailed : DutyKept b failed := setErr_duty ..
  clear_value failed
  refine .ite (.ite ?_ (holdReq_duty ..)) (.ite (holdReq_duty ..) ?_)
  · split
    · exact hfailed.trans (answerRead_duty ..)
    · exact hfailed
  · split
    · exact forward_duty r
    · exact forward_duty r
    · exact holdReq_duty ..

/-! ### The snoop filter -/

theorem backInvalidate_duty (g : Nat) (l : List Nat) (e : Bool) : DutyKept b (backInvalidate g l e b) := by
  unfold backInvalidate
  extract_lets sent
  have hsent : DutyKept b sent := .foldl _ (fun _ _ => send_duty _) l b
  clear_value sent
  exact hsent.trans ⟨rfl, rfl⟩

theorem snoopGate_duty (n : Nat) (r : MemReq) : DutyKept b (snoopGate n r b).2 := by
  unfold snoopGate
  dsimp only
  split
  · exact .refl b
  · split
    · exact backInvalidate_duty ..
    · split
      · split
        · split
          · exact .refl b
          · exact backInvalidate_duty ..
        · exact .refl b
      · exact .refl b

theorem sfSet_duty (g : Nat) (w : Option Holders) : DutyKept b (sfSet g w b) := by
  unfold sfSet
  exact .ite ⟨rfl, rfl⟩ ⟨rfl, rfl⟩

theorem sfAdd_duty (g n : Nat) : DutyKept b (sfAdd g n b) := by
  unfold sfAdd
  split
  · exact sfSet_duty ..
  · exact .ite (sfSet_duty ..) (.ite (sfSet_duty ..) (sfSet_duty ..))
  · exact sfSet_duty ..

theorem snoopDone_duty (n : Nat) (r : MemReq) : DutyKept b (snoopDone n r b) := by
  unfold snoopDone
  exact .ite (.ite (sfSet_duty ..) (.refl b)) (.ite (sfSet_duty ..) (sfAdd_duty ..))

/-! ### Writes -/

theorem mergePart_duty (l i pt : Nat) (part : Part) (d : Half) (p : Bool) : DutyKept b (mergePart {} l i pt part d p b).2 := by
  have hread := readHalf_duty (b := b) l i (some pt)
  unfold mergePart
  split
  · exact .refl b
  · split <;> (next h => rw [h] at hread; exact hread)
  · split <;> (next h => rw [h] at hread; exact hread)
  · split <;> (next h => rw [h] at hread; exact hread)

theorem redoHalf_duty (l i : Nat) : DutyKept b (redoHalf l i b) := by
  unfold redoHalf
  exact .ite (.refl b) (modChan_duty ..)

theorem mirrorHalf_duty (l i : Nat) (d : Half) (p : Bool) (e : Nat) : DutyKept b (mirrorHalf l i d p e b).2 := ⟨rfl, rfl⟩

theorem shipWrite_duty (l c : Nat) : DutyKept b (shipWrite {} l c b) := by
  unfold shipWrite
  split
  · exact .refl b
  · extract_lets j words cur twin captured shipped
    have hcaptured : DutyKept b captured := by
      unfold captured
      split
      · exact ⟨rfl, rfl⟩
      · exact .refl b
    clear_value captured
    exact .ite hcaptured (hcaptured.trans ⟨rfl, rfl⟩)

theorem stageWritten_duty (i : Nat) : DutyKept b (stageWritten i b) := modEntry_duty ..

theorem writeHalf_duty (l i : Nat) (d : Half) (p : Bool) (pt : Nat) (pa tu : Bool) : DutyKept b (writeHalf {} l i d p pt pa tu b).2 := by
  unfold writeHalf
  extract_lets looked read pg e info hot
  have hread : DutyKept b read := by
    unfold read
    exact .ite (.refl b) (presenceRead_duty _)
  clear_value read
  split
  · exact hread.trans (noteHold_duty _)
  · split
    · split
      · exact hread.trans ((redoHalf_duty ..).trans ((markDirty_duty ..).trans ((setPresence_duty ..).trans (mirrorHalf_duty ..))))
      · exact hread.trans (dropWrite_duty ..)
    · have hmarked : DutyKept b (markDirty pg e (storeHalf {} l i d p pt (!(shipWrite {} l e read).homedLine l) e (shipWrite {} l e read))) := hread.trans ((shipWrite_duty ..).trans ((storeHalf_duty ..).trans (markDirty_duty ..)))
      split
      · exact hmarked.trans (mirrorHalf_duty ..)
      · exact hmarked

theorem serveMirror_duty (r : MemReq) (d : Half) (p : Bool) (e : Nat) : DutyKept b (serveMirror {} r d p e b) := by
  unfold serveMirror
  split
  · exact .refl b
  · split
    · exact (noteHold_duty _).trans ((noteHeld_duty ..).trans (holdReq_duty ..))
    · split
      · exact (answerWrite_duty _).after ((dropWrite_duty ..).after ⟨rfl, rfl⟩)
      · exact (storeHalf_duty ..).trans ((markDirty_duty ..).trans (answerWrite_duty _))

theorem serveWrite_duty (r : MemReq) (d : Half) (p : Bool) : DutyKept b (serveWrite {} r d p b) := by
  have hplace := locate_duty (b := b) r
  unfold serveWrite
  split
  next h => rw [h] at hplace; exact hplace.trans (holdReq_duty ..)
  next l c hl =>
    rw [hl] at hplace
    extract_lets part o r'
    have hoffered : DutyKept b o.2 := hplace.trans (offerStore_duty r)
    clear_value part o
    have hmerged := hoffered.trans (mergePart_duty l (halfIx r'.dpa) part r'.part d p)
    split
    next h => rw [h] at hmerged; exact hmerged.trans (holdReq_duty ..)
    next h => rw [h] at hmerged; exact hmerged.trans (answerRead_duty ..)
    next d' p' prior c' h =>
      rw [h] at hmerged
      have hwritten := hmerged.trans (writeHalf_duty l (halfIx r'.dpa) d' p' part r'.passed r'.turn)
      split
      next h => rw [h] at hwritten; exact hwritten.trans ((noteHeld_duty ..).trans (holdReq_duty ..))
      next tag c'' h =>
        rw [h] at hwritten
        extract_lets noted staged
        have hnoted : DutyKept c'' noted := by
          unfold noted
          split
          · exact jobPrior_duty ..
          · exact .refl _
        have hstaged : DutyKept noted staged := by
          unfold staged
          split
          · exact stageWritten_duty _
          · exact .refl _
        clear_value noted staged
        split
        · exact hwritten.trans (hnoted.trans (hstaged.trans (answerWrite_duty _)))
        · exact hwritten.trans (hnoted.trans (hstaged.trans ⟨rfl, rfl⟩))

/-- A request that has passed its port, however it ends (R99, R100). -/
theorem serve_duty (r : MemReq) : DutyKept b (serve {} r b) := by
  unfold serve
  extract_lets reach toAlias o r' c h db
  have hc : DutyKept b c := by
    unfold c o
    split
    · exact offerStore_duty r
    · exact .refl b
  clear_value c r'
  refine .ite (hc.trans (refuseReach_duty ..)) ?_
  split
  · exact hc.trans (holdReq_duty ..)
  · split
    · exact hc.trans (serveMirror_duty ..)
    · refine .ite (hc.trans (holdReq_duty ..)) (.ite (hc.trans (serveRead_duty _)) (.ite (hc.trans (notServed_duty _)) ?_))
      refine .ite (hc.trans (holdReq_duty ..)) (.ite (hc.trans (answerNothing_duty _)) (.ite (hc.trans (holdReq_duty ..)) (.ite (hc.trans (holdReq_duty ..)) ?_)))
      clear_value db
      have hgate : DutyKept b (if db = true then snoopGate (c.holderOf r'.src) r' c else (none, c)).2 := by
        split
        · exact hc.trans (snoopGate_duty ..)
        · exact hc
      split
      next h => rw [h] at hgate; exact hgate.trans (holdReq_duty ..)
      next c' h =>
        rw [h] at hgate
        extract_lets done
        have hdone : DutyKept c' done := .ite (snoopDone_duty ..) (.refl _)
        split
        · exact hgate.trans (hdone.trans (serveRead_duty _))
        · exact hgate.trans (hdone.trans (serveWrite_duty ..))

/-- A job has a number, and the next job has the one after it. -/
theorem startJob_nextJob (ld : Nat) (use : AgentUse) (as : List Access) (b : Blk) : (startJob {} ld use as b).host.nextJob = b.host.nextJob + 1 := by
  unfold startJob
  extract_lets id host started
  have hserved : DutyKept started ((as.zipIdx).foldl
      (fun b x => serve {} { src := .agent ld id x.2, dpa := x.1.dpa, write := x.1.write, part := x.1.part } b) started) := .foldl _ (fun _ _ => serve_duty _) _ _
  exact hserved.nextJob

end

end Sys2Proof.Machine
end

section
/-!
SUPPORT and PROOF. What the block's own work leaves behind: from the end of a step at which nothing was sent, no job was ever numbered and every page of
DRAM still waits for its restore, the DRAM at its beginning is read off.
-/
namespace Sys2Proof.Machine
open Sys2Proof

/-! ### Steps that touch no memory -/

/-- No memory, Chart, job number or kept command changes, and nothing that was sent is taken back. -/
structure PlainKept (a b : Blk) : Prop where
  duty : DutyKept a b
  dram : b.dram = a.dram
  cht : b.cht = a.cht
  out : b.out = [] → a.out = []

theorem PlainKept.refl (a : Blk) : PlainKept a a := ⟨.refl a, rfl, rfl, id⟩

theorem PlainKept.trans {a b c : Blk} (h : PlainKept a b) (g : PlainKept b c) : PlainKept a c :=
  ⟨h.duty.trans g.duty, g.dram.trans h.dram, g.cht.trans h.cht, fun e => h.out (g.out e)⟩

theorem PlainKept.of_eq {a b : Blk} (hh : b.host = a.host) (hf : b.fw = a.fw) (hd : b.dram = a.dram) (hc : b.cht = a.cht) (ho : b.out = a.out) : PlainKept a b :=
  ⟨.of_eq hh hf, hd, hc, fun e => by rw [← ho, e]⟩

theorem PlainKept.ite {c : Prop} [Decidable c] {a x y : Blk} (hx : PlainKept a x) (hy : PlainKept a y) : PlainKept a (if c then x else y) := by
  split
  · exact hx
  · exact hy

theorem PlainKept.ite_snd {α : Type} {c : Prop} [Decidable c] {a : Blk} {x y : α × Blk} (hx : PlainKept a x.2) (hy : PlainKept a y.2) :
    PlainKept a (if c then x else y).2 := by
  split
  · exact hx
  · exact hy

theorem PlainKept.foldl {β : Type} (f : Blk → β → Blk) (hf : ∀ b x, PlainKept b (f b x)) (l : List β) (b : Blk) : PlainKept b (l.foldl f b) :=
  foldl_keeps (PlainKept b) f l (fun a x _ h => h.trans (hf a x)) (.refl b)

section
variable {b : Blk}

theorem send_plain (o : Output) : PlainKept b (send o b) := ⟨⟨rfl, rfl⟩, rfl, rfl, fun h => absurd h (List.append_ne_nil_of_right_ne_nil _ (List.cons_ne_nil _ _))⟩
theorem drawFree_plain : PlainKept b (drawFree b).2 := .of_eq rfl rfl rfl rfl rfl
theorem setErr_plain (r : ErrReg) (n : Nat) : PlainKept b (setErr r n b) := .of_eq (by simp) (by simp) (by simp) (by simp) (by simp)
theorem setErrLog_plain (r : ErrReg) (n : Nat) (a : LogArgs) : PlainKept b (setErrLog r n a b) := .of_eq (by simp) (by simp) (by simp) (by simp) (by simp)
theorem addJob_plain (j : EflJob) : PlainKept b (addJob j b) := .of_eq (by simp) (by simp) (by simp) (by simp) (by simp)
theorem modOrb_plain (f : OrbSt → OrbSt) : PlainKept b (modOrb f b) := .of_eq rfl rfl rfl rfl rfl
theorem modOrbCmd_plain (n : Nat) (f : CmdRegs → CmdRegs) : PlainKept b (modOrbCmd n f b) := .of_eq rfl rfl rfl rfl rfl
theorem modOq_plain (q : Nat) (f : OrbQueue → OrbQueue) : PlainKept b (modOq q f b) := .of_eq (by simp) (by simp) (by simp) (by simp) (by simp)
theorem modMsg_plain (q i : Nat) (f : OrbMsg → OrbMsg) : PlainKept b (modMsg q i f b) := .of_eq (by simp) (by simp) (by simp) (by simp) (by simp)
theorem modCph_plain (f : CphSt → CphSt) : PlainKept b (modCph f b) := .of_eq rfl rfl rfl rfl rfl
theorem modCphCmd_plain (n : Nat) (f : CmdRegs → CmdRegs) : PlainKept b (modCphCmd n f b) := .of_eq rfl rfl rfl rfl rfl
theorem modCq_plain (q : Nat) (f : CphQueue → CphQueue) : PlainKept b (modCq q f b) := .of_eq (by simp) (by simp) (by simp) (by simp) (by simp)
theorem modCphJob_plain (q i : Nat) (f : CphJob → CphJob) : PlainKept b (modCphJob q i f b) := .of_eq (by simp) (by simp) (by simp) (by simp) (by simp)
theorem modSlot_plain (n : Nat) (f : KeySlot → KeySlot) : PlainKept b (modSlot n f b) := .of_eq rfl rfl rfl rfl rfl
theorem modNvf_plain (f : NvfSt → NvfSt) : PlainKept b (modNvf f b) := .of_eq rfl rfl rfl rfl rfl
theorem modDie_plain (g : Nat) (f : Die → Die) : PlainKept b (modDie g f b) := .of_eq rfl rfl rfl rfl rfl
theorem sjRecord_plain (r : SjRec) : PlainKept b (sjRecord r b) := modNvf_plain _

theorem useSlot_plain (n u : Nat) (i : Bool) : PlainKept b (useSlot n u i b) := by
  unfold useSlot
  extract_lets k spent k' used counted
  have hused : PlainKept b used := modSlot_plain ..
  have hcounted : PlainKept b counted := .ite (hused.trans ((modSlot_plain ..).trans (setErrLog_plain ..))) hused
  clear_value counted
  exact .ite (.refl b) (.ite (.ite (hcounted.trans (setErr_plain ..)) (hcounted.trans ((modSlot_plain ..).trans (setErrLog_plain ..)))) hcounted)

/-! ### Orbit's packets and messages -/

theorem takePn_plain (e : Nat) : PlainKept b (takePn e b).2 := by
  unfold takePn
  dsimp only
  split <;> dsimp only
  · exact (modOrb_plain _).trans ((modOrb_plain _).trans (addJob_plain _))
  · exact modOrb_plain _

theorem transmit_plain (e path : Nat) (p : OrbPkt) : PlainKept b (transmit e path p b) := by
  unfold transmit
  refine .ite (.refl b) ?_
  split
  · exact (takePn_plain e).trans ((useSlot_plain ..).trans (send_plain _))
  · exact setErr_plain ..
  · exact .refl b

theorem answerAck_plain (e : Nat) (p : OrbPkt) (code home : Nat) : PlainKept b (answerAck e p code home b) := by
  unfold answerAck
  extract_lets counted noted ack
  have hcounted : PlainKept b counted := .ite (.refl b) (modOrb_plain _)
  have hnoted : PlainKept counted noted := .ite (setErr_plain ..) (.ite (setErr_plain ..) (.ite (setErr_plain ..) (.ite (setErr_plain ..) (.refl _))))
  exact hcounted.trans (hnoted.trans (transmit_plain ..))

theorem answerData_plain (e : Nat) (p : OrbPkt) (o x y : Nat) (bs : List Byte) : PlainKept b (answerData e p o x y bs b) := transmit_plain ..

theorem answerRead'_plain (p : OrbPkt) (first : Nat) (j : Job) : PlainKept b (answerRead' p first j b) :=
  drawFree_plain.trans (.foldl _ (fun _ _ => answerData_plain ..) _ _)

theorem addReplay_plain (e : Nat) (r : Replay) : PlainKept b (addReplay e r b) := modOrb_plain _

theorem finishMsg_plain (q i st : Nat) : PlainKept b (finishMsg q i st b) := modOq_plain ..

theorem pushMsg_plain (q : Nat) (m : OrbMsg) : PlainKept b (pushMsg q m b) := modOq_plain ..

theorem sendNotify_plain (q : Nat) (m : OrbMsg) : PlainKept b (sendNotify q m b) := by
  unfold sendNotify
  exact .ite (modMsg_plain ..) ((modMsg_plain ..).trans (transmit_plain ..))

theorem startDesc_plain (n : Nat) (q : OrbQueue) (d : List Byte) (p : Bool) : PlainKept b (startDesc n q d p b) := by
  unfold startDesc
  extract_lets flags op len m ends atomic m' started
  have hends : ∀ st c, PlainKept c (ends st c) := fun st c => (pushMsg_plain ..).trans (finishMsg_plain ..)
  have hstarted : PlainKept b started := (pushMsg_plain ..).trans (modOq_plain ..)
  clear_value ends started
  refine .ite (hends ..) (.ite (modOq_plain ..) (.ite ?_ (.ite (hends ..) (.ite (hends ..) (.ite (hends ..) (.ite (hends ..) (.ite ?_ ?_)))))))
  · split
    · exact .ite (pushMsg_plain ..) (hends ..)
    · exact hends ..
  · exact (setErr_plain ..).trans (hends ..)
  · exact .ite (hstarted.trans (sendNotify_plain ..)) hstarted

theorem orbJob_plain (j : Job) : PlainKept b (orbJob j b) := by
  unfold orbJob
  split
  · exact answerAck_plain ..
  · exact answerRead'_plain ..
  · dsimp only
    split
    · exact (addReplay_plain ..).trans (answerData_plain ..)
    · exact answerAck_plain ..
  · split
    · exact (modOq_plain ..).trans (startDesc_plain ..)
    · exact .refl b
  · split
    · exact .refl b
    · split
      · exact .refl b
      · exact .ite (drawFree_plain.trans (modMsg_plain ..)) (drawFree_plain.trans ((modMsg_plain ..).trans (transmit_plain ..)))
  · split
    · exact .refl b
    · extract_lets n landed
      have hlanded : PlainKept b landed := modMsg_plain ..
      clear_value landed
      exact .ite (hlanded.trans (finishMsg_plain ..)) (.ite (hlanded.trans (finishMsg_plain ..)) hlanded)
  · exact .refl b

/-! ### The cipher engine's slots and descriptors -/

theorem clearSlot_plain (s : Nat) : PlainKept b (clearSlot s b) := modSlot_plain ..

theorem unwrap_plain (x : List Byte) (c : Option Nat) : PlainKept b (unwrap x c b).2 := by
  have hfail : PlainKept b (setErr .cph 1 b) := setErr_plain ..
  unfold unwrap
  refine .ite_snd hfail (.ite_snd hfail ?_)
  cases b.cph.kek with
  | none => exact hfail
  | some kek =>
    refine .ite_snd hfail (.ite_snd hfail (.ite_snd hfail (.ite_snd hfail (.ite_snd hfail (.ite_snd hfail (.ite_snd hfail ?_))))))
    exact .ite ((modSlot_plain ..).trans (setErrLog_plain ..)) (modSlot_plain ..)

theorem endVerify_plain (q : Nat) (j : CphJob) : PlainKept b (endVerify q j b) := by
  unfold endVerify
  exact .ite ((modCphJob_plain ..).trans (modCph_plain _)) (.refl b)

theorem cphOutDone_plain (q i : Nat) : PlainKept b (cphOutDone q i b) := by
  unfold cphOutDone
  split
  · exact (modCphJob_plain ..).trans (endVerify_plain ..)
  · exact .refl b

/-! ### Commands that waited -/

theorem orbFail_plain (n r : Nat) : PlainKept b (orbFail n r b) := modOrbCmd_plain ..

theorem orbDone_plain (n : Nat) (f : CmdRegs → CmdRegs) : PlainKept b (orbDone n f b) := modOrbCmd_plain ..

theorem cphFail_plain (n r : Nat) : PlainKept b (cphFail n r b) := modCphCmd_plain ..

theorem cphDone_plain (n : Nat) (f : CmdRegs → CmdRegs) : PlainKept b (cphDone n f b) := modCphCmd_plain ..

theorem loadCtx_plain (q : Nat) : PlainKept b (loadCtx q b) := by
  have hroom : ∀ c, roomForCtx q b = some c → PlainKept b c := fun c h => by
    unfold roomForCtx at h
    dsimp only at h
    split at h
    · cases h; exact .refl b
    · split at h
      · cases h
      · cases h; exact drawFree_plain.trans (modOrb_plain _)
  unfold loadCtx
  refine .ite (.refl b) ?_
  split
  next c h => exact (hroom c h).trans (modOrb_plain _)
  next => exact .refl b

theorem orbCreate_plain (n : Nat) : PlainKept b (orbCreate n b) := by
  unfold orbCreate
  refine .ite (orbFail_plain ..) (.ite (orbFail_plain ..) (.ite (orbFail_plain ..) ?_))
  split
  · exact orbFail_plain ..
  · exact (modOrb_plain _).trans ((loadCtx_plain _).trans (orbDone_plain ..))

theorem destroyQueues_plain (p : Nat → OrbQueue → Bool) : PlainKept b (destroyQueues p b) := ⟨⟨rfl, rfl⟩, rfl, rfl, id⟩

theorem orbDestroy_plain (n : Nat) : PlainKept b (orbDestroy n b) := by
  unfold orbDestroy
  dsimp only
  split
  · exact (destroyQueues_plain _).trans (orbDone_plain ..)
  · exact orbFail_plain ..

theorem orbResume_plain (n : Nat) : PlainKept b (orbResume n b) := by
  unfold orbResume
  dsimp only
  split
  · exact (modOq_plain ..).trans (orbDone_plain ..)
  · exact orbFail_plain ..

theorem queryQueue_plain (n : Nat) : PlainKept b (queryQueue n b) := by
  unfold queryQueue
  dsimp only
  split
  · exact orbDone_plain ..
  · exact .ite (orbDone_plain ..) (orbFail_plain ..)
  · exact orbFail_plain ..

theorem cphCreate_plain (n : Nat) : PlainKept b (cphCreate n b) := by
  unfold cphCreate
  exact .ite (cphFail_plain ..) (.ite (cphFail_plain ..) (.ite (cphFail_plain ..) ((modCph_plain _).trans (cphDone_plain ..))))

theorem cphDestroy_plain (n : Nat) : PlainKept b (cphDestroy n b) := by
  unfold cphDestroy
  dsimp only
  split
  · exact modCq_plain ..
  · exact cphFail_plain ..

theorem cphResume_plain (n : Nat) : PlainKept b (cphResume n b) := by
  unfold cphResume
  dsimp only
  split
  · exact (modCq_plain ..).trans (cphDone_plain ..)
  · exact cphFail_plain ..

theorem cphClear_plain (n : Nat) : PlainKept b (cphClear n b) := by
  unfold cphClear
  exact .ite (cphFail_plain ..) (.ite (cphFail_plain ..) (.ite (cphFail_plain ..) ((clearSlot_plain _).trans (cphDone_plain ..))))

theorem querySlot_plain (n : Nat) : PlainKept b (querySlot n b) := by
  unfold querySlot
  exact .ite (cphFail_plain ..) (.ite (cphFail_plain ..) (cphDone_plain ..))

theorem runMgmtCph_plain (op s : Nat) : PlainKept b (runMgmtCph op s b) := by
  unfold runMgmtCph
  exact .ite ((unwrap_plain ..).trans (modCph_plain _)) (.ite ((PlainKept.ite (clearSlot_plain s) (.refl b)).trans (modCph_plain _)) (setErr_plain ..))

theorem startRebuild_plain : PlainKept b (startRebuild b) := by
  unfold startRebuild
  exact .ite (.refl b) (modNvf_plain _)

theorem admitNow_plain (g : Nat) : PlainKept b (admitNow g b) := by
  unfold admitNow newLayout writeLabels
  refine .ite (setErr_plain ..) ?_
  refine .trans ?_ (.foldl _ (fun _ _ => modDie_plain ..) _ _)
  refine .trans ?_ (.foldl _ (fun _ _ => sjRecord_plain _) _ _)
  exact (modDie_plain ..).trans ((sjRecord_plain _).trans (modNvf_plain _))

end

end Sys2Proof.Machine
end

section
/-!
SUPPORT and PROOF. A step that ends quiet began quiet, with the same DRAM: what it would have written shows in a job's number, in an answer, in a channel
that is READY or in a page that is not PENDING.
-/
namespace Sys2Proof.Machine
open Sys2Proof

/-- No job was ever numbered, no command is kept back, nothing was sent, no channel is there, and every page is PENDING, in Solo without carve-outs. -/
structure Blk.Quiet (b : Blk) : Prop where
  nextJob : b.host.nextJob = 0
  deferred : b.fw.deferred = []
  out : b.out = []
  chans : b.dram.chans = []
  pres : b.dram.pres = []
  runs : b.dram.presRuns = []
  base : b.dram.presBase = .pending
  carves : b.cht.cur.near.carves = []
  solo : b.cht.mode = .solo

/-- Where the end is quiet the beginning was, with the same DRAM. -/
structure QuietFrom (a b : Blk) : Prop where
  before : b.Quiet → a.Quiet ∧ b.dram = a.dram

theorem QuietFrom.refl (a : Blk) : QuietFrom a a := ⟨fun h => ⟨h, rfl⟩⟩

theorem QuietFrom.trans {a b c : Blk} (h : QuietFrom a b) (g : QuietFrom b c) : QuietFrom a c := by
  refine ⟨fun hq => ?_⟩
  obtain ⟨hb, hdc⟩ := g.before hq
  obtain ⟨ha, hdb⟩ := h.before hb
  exact ⟨ha, hdc.trans hdb⟩

theorem QuietFrom.ite {c : Prop} [Decidable c] {a x y : Blk} (hx : QuietFrom a x) (hy : QuietFrom a y) : QuietFrom a (if c then x else y) := by
  split
  · exact hx
  · exact hy

theorem PlainKept.quiet {a b : Blk} (h : PlainKept a b) : QuietFrom a b := by
  have hd := h.dram
  have hc := h.cht
  refine ⟨fun hq => ⟨⟨?_, ?_, h.out hq.out, ?_, ?_, ?_, ?_, ?_, ?_⟩, hd⟩⟩
  · rw [← h.duty.nextJob]; exact hq.nextJob
  · rw [← h.duty.deferred]; exact hq.deferred
  · rw [← hd]; exact hq.chans
  · rw [← hd]; exact hq.pres
  · rw [← hd]; exact hq.runs
  · rw [← hd]; exact hq.base
  · rw [← hc]; exact hq.carves
  · rw [← hc]; exact hq.solo

section
variable {b : Blk}

/-- What is not quiet comes from anywhere. -/
theorem QuietFrom.of_not {a c : Blk} (h : ¬ c.Quiet) : QuietFrom a c := ⟨fun hq => absurd hq h⟩

/-- A job that starts is numbered, so no end is quiet after it. -/
theorem startJob_quiet (ld : Nat) (use : AgentUse) (as : List Access) : QuietFrom b (startJob {} ld use as b) :=
  .of_not fun hq => Nat.succ_ne_zero _ ((startJob_nextJob ld use as b).symm.trans hq.nextJob)

/-- An answer shows. -/
theorem QuietFrom.of_out {a c : Blk} (h : c.out ≠ []) : QuietFrom a c := .of_not fun hq => h hq.out

theorem send_out_ne (o : Output) : (send o b).out ≠ [] := List.append_ne_nil_of_right_ne_nil _ (List.cons_ne_nil _ _)

/-! ### Pages that wait for their restore take no write -/

/-- The Chart and the presence of pages are as they were. -/
structure PresKept (a b : Blk) : Prop where
  cht : b.cht = a.cht
  pres : b.dram.pres = a.dram.pres
  runs : b.dram.presRuns = a.dram.presRuns
  base : b.dram.presBase = a.dram.presBase

theorem PresKept.refl (a : Blk) : PresKept a a := ⟨rfl, rfl, rfl, rfl⟩

theorem PresKept.trans {a b c : Blk} (h : PresKept a b) (g : PresKept b c) : PresKept a c :=
  ⟨g.cht.trans h.cht, g.pres.trans h.pres, g.runs.trans h.runs, g.base.trans h.base⟩

theorem PresKept.ite {c : Prop} [Decidable c] {a x y : Blk} (hx : PresKept a x) (hy : PresKept a y) : PresKept a (if c then x else y) := by
  split
  · exact hx
  · exact hy

theorem PlainKept.presKept {a b : Blk} (h : PlainKept a b) : PresKept a b := by
  have hd := h.dram
  exact ⟨h.cht, by rw [hd], by rw [hd], by rw [hd]⟩

theorem putLine_presKept (l : Nat) (d : DramLine) : PresKept b (putLine l d b) := by
  unfold putLine
  exact .ite ⟨rfl, rfl, rfl, rfl⟩ ⟨rfl, rfl, rfl, rfl⟩

theorem writeLine_presKept (l : Nat) (d : Line) (p : Bool) (s : Nat) : PresKept b (writeLine l d p s b) := (putLine_presKept ..).trans (useSlot_plain ..).presKept

theorem markDirty_presKept (p e : Nat) : PresKept b (markDirty p e b) := by
  unfold markDirty
  exact .ite ⟨rfl, rfl, rfl, rfl⟩ (.refl b)

theorem dropWrite_presKept (l e : Nat) : PresKept b (dropWrite l e b) := by
  unfold dropWrite
  extract_lets c told full noted dropped
  have htold : PresKept b told := (setErr_plain ..).presKept
  have hnoted : PresKept b noted := .ite (htold.trans (setErr_plain ..).presKept) htold
  clear_value noted
  have hdropped : PresKept noted dropped := ⟨rfl, rfl, rfl, rfl⟩
  clear_value dropped
  exact hnoted.trans (hdropped.trans (markDirty_presKept ..))

theorem allocate_presKept (h : HaloLine) : PresKept b (allocate {} h b).2 := by
  have hevict : ∀ k c, PresKept c (evictEntry k c) := fun k c => by
    unfold evictEntry
    split
    · exact (PresKept.ite (writeLine_presKept ..) (.refl c)).trans ⟨rfl, rfl, rfl, rfl⟩
    · exact .refl c
  unfold allocate
  extract_lets found
  have hfound : PresKept b found := by
    simp only [found]
    split <;> exact .refl b
  split
  · exact hfound
  · exact hfound.trans ((hevict ..).trans ⟨rfl, rfl, rfl, rfl⟩)

theorem placeLine_presKept (l : Nat) (m : Line × Bool) (e : MbEntry) : PresKept b (placeLine {} l m e b) := by
  have halloc := allocate_presKept (b := b) { line := l, data := m.1, poison := m.2, dirty := true, part := e.part, stamp := e.stamp }
  unfold placeLine
  extract_lets whole ahead halo
  refine .ite (writeLine_presKept ..) (.ite ⟨rfl, rfl, rfl, rfl⟩ ?_)
  split
  next h => rw [h] at halloc; exact halloc
  next h => rw [h] at halloc; exact halloc.trans (writeLine_presKept ..)

theorem takeEntry_presKept (l : Nat) (e : MbEntry) : PresKept b (takeEntry {} l e b).2 := by
  have hbase : ∀ c, PresKept c (rmwBase {} l c).2 := fun c => by
    rcases rmwBase_of_no_burst {} l c rfl with h | ⟨n, h⟩ <;> rw [h]
    · exact .refl c
    · exact (setErr_plain ..).presKept
  unfold takeEntry
  extract_lets halo erased r
  have herased : PresKept b erased := ⟨rfl, rfl, rfl, rfl⟩
  have hfed : PresKept erased (feedMetric 9 (erased.hemi l) 1 (countEvent 0x12 1 erased)) := ⟨by simp, by simp, by simp, by simp⟩
  split
  · exact herased
  · exact herased.trans (hfed.trans (hbase _))

theorem closeEntry_presKept (l : Nat) : PresKept b (closeEntry {} l b) := by
  have hwords : useWords {} l wholeLine b = b := rfl
  unfold closeEntry
  rw [hwords]
  dsimp only
  split
  · exact .refl b
  · exact (takeEntry_presKept ..).trans (placeLine_presKept ..)

theorem storeHalf_presKept (l i : Nat) (d : Half) (p : Bool) (pt : Nat) (f : Bool) (e : Nat) : PresKept b (storeHalf {} l i d p pt f e b) := by
  unfold storeHalf
  split
  · exact ⟨rfl, rfl, rfl, rfl⟩
  · extract_lets ent mb stored
    have hstored : PresKept b stored := ⟨rfl, rfl, rfl, rfl⟩
    exact .ite (hstored.trans (closeEntry_presKept l)) hstored

theorem shipWrite_presKept (l c : Nat) : PresKept b (shipWrite {} l c b) := by
  unfold shipWrite
  split
  · exact .refl b
  · extract_lets j words cur twin captured shipped
    have hcaptured : PresKept b captured := by
      unfold captured
      split
      · exact ⟨rfl, rfl, rfl, rfl⟩
      · exact .refl b
    clear_value captured
    exact .ite hcaptured (hcaptured.trans ⟨rfl, rfl, rfl, rfl⟩)

/-- A page is PENDING where its listing says nothing else. -/
theorem presence_of_pending {c : Blk} (h : PresKept c b) (hq : b.Quiet) (p : Nat) : c.presence p = .pending := by
  have hcarves : c.cht.cur.near.carves = [] := by rw [← h.cht]; exact hq.carves
  have hpres : c.dram.pres = [] := by rw [← h.pres]; exact hq.pres
  have hruns : c.dram.presRuns = [] := by rw [← h.runs]; exact hq.runs
  have hbase : c.dram.presBase = .pending := by rw [← h.base]; exact hq.base
  unfold Blk.presence Blk.presDefault carveAt
  rw [hcarves, hpres, hruns, hbase]
  rfl

theorem writeHold_of_pending {c : Blk} {l : Nat} (h : c.presence (l / 32) = .pending) (pa tu : Bool) : c.writeHold l pa tu = some (.restore (l / 32)) := by
  unfold Blk.writeHold
  dsimp only
  rw [h]
  rfl

theorem mirrorHalf_cht (l i : Nat) (d : Half) (p : Bool) (e : Nat) (b : Blk) : (mirrorHalf l i d p e b).2.cht = b.cht := rfl

theorem redoHalf_cht (l i : Nat) (b : Blk) : (redoHalf l i b).cht = b.cht := by
  unfold redoHalf
  split <;> rfl

theorem paired_of_quiet {c : Blk} (h : b.cht = c.cht) (hq : b.Quiet) : c.paired = false := by
  unfold Blk.paired
  rw [← h, hq.solo]
  rfl

/-- A write that is accepted found its page there, or was sent to a twin (R122, R161, R198). -/
theorem writeHalf_not_quiet {l i pt : Nat} {d : Half} {p pa tu : Bool} {t : Option Nat} {c : Blk} (h : writeHalf {} l i d p pt pa tu b = (.accepted t, c)) : ¬ c.Quiet := by
  intro hq
  unfold writeHalf at h
  extract_lets looked read pg e info hot sent shipped stored marked sentToo at h
  have hhold : PresKept read c → read.writeHold l pa tu ≠ none := fun hk hnone =>
    Option.some_ne_none _ ((writeHold_of_pending (presence_of_pending hk hq _) pa tu).symm.trans hnone)
  have hhot : c.cht = read.cht → hot = false := fun hk => by
    unfold hot
    rw [paired_of_quiet hk hq, Bool.and_false]
  have hmarked : PresKept read marked := (shipWrite_presKept ..).trans ((storeHalf_presKept ..).trans (markDirty_presKept ..))
  have hsent : sent.2.cht = read.cht := (mirrorHalf_cht ..).trans ((setPresence_cht ..).trans ((markDirty_presKept ..).cht.trans (redoHalf_cht ..)))
  have hsentToo : sentToo.2.cht = read.cht := (mirrorHalf_cht ..).trans hmarked.cht
  clear_value hot sentToo marked sent read
  split at h
  · cases h
  next hnone =>
    split at h
    · split at h
      next hc =>
        cases h
        rw [hhot hsent, Bool.false_and] at hc
        exact Bool.false_ne_true hc
      next =>
        cases h
        exact hhold (dropWrite_presKept ..) hnone
    · split at h
      next hc =>
        cases h
        rw [hhot hsentToo, Bool.false_and] at hc
        exact Bool.false_ne_true hc
      next =>
        cases h
        exact hhold hmarked hnone

end

end Sys2Proof.Machine
end

section
/-!
SUPPORT and PROOF. The block's own work, one piece after another, ends quiet only where it began quiet, with the same DRAM.
-/
namespace Sys2Proof.Machine
open Sys2Proof

section
variable {b : Blk}

/-! ### Orbit -/

/-- An entry of the key table is a write to memory like any other (R302). -/
theorem writeKey_quiet {i : Nat} {k : KeyEntry} {c : Blk} (h : writeKey {} i k b = some c) : ¬ c.Quiet := by
  unfold writeKey at h
  dsimp only at h
  split at h
  · split at h
    next hw =>
      cases h
      exact writeHalf_not_quiet hw
    · cases h
  · cases h

theorem perform_quiet (p : OrbPkt) (port owner target : Nat) : QuietFrom b (perform {} p port owner target b) := by
  unfold perform
  refine .ite (startJob_quiet ..) (.ite (startJob_quiet ..) ?_)
  split
  · exact (answerData_plain ..).quiet
  · exact .ite (answerAck_plain ..).quiet (.ite (modOrb_plain _).quiet (.ite (answerAck_plain ..).quiet (startJob_quiet ..)))

theorem applyRole_quiet (p : OrbPkt) (port owner target : Nat) : QuietFrom b (applyRole {} p port owner target b) := by
  have hgo : ∀ h, QuietFrom b (applyRole.go {} p port owner target h b) := fun h => by
    unfold applyRole.go
    exact .ite (answerAck_plain ..).quiet (.ite (perform_quiet ..) (.ite (setErr_plain ..).quiet (modOrb_plain _).quiet))
  unfold applyRole
  dsimp only
  split
  · exact .ite (answerAck_plain ..).quiet (hgo _)
  · exact hgo _

theorem drainQueue_quiet (n : Nat) (q : OrbQueue) (m : OrbMsg) (st : Nat) : QuietFrom b (drainQueue {} n q m st b) := by
  unfold drainQueue
  extract_lets x moved entry noted
  have hnoted : QuietFrom b noted := (modOq_plain ..).quiet.trans (startJob_quiet ..)
  exact .ite (hnoted.trans (startJob_quiet ..)) hnoted

theorem endWait_quiet (q i st seen : Nat) : QuietFrom b (endWait q i st seen b) := ((modOq_plain ..).trans (finishMsg_plain ..)).quiet

theorem fetchDesc_quiet (n : Nat) (q : OrbQueue) : QuietFrom b (fetchDesc {} n q b) := (modOq_plain ..).quiet.trans (startJob_quiet ..)

theorem orbProgress_quiet {c : Blk} (h : orbProgress {} b = some c) : QuietFrom b c := by
  unfold orbProgress at h
  split at h
  · cases h
    exact (modOrb_plain _).quiet.trans (applyRole_quiet ..)
  · split at h
    next hd =>
      cases h
      obtain ⟨e, _, he⟩ := List.exists_of_findSome?_eq_some hd
      split at he
      · cases he
      · split at he
        · split at he
          · cases he
            exact drainQueue_quiet ..
          · cases he
        · cases he
    · split at h
      next hw =>
        cases h
        obtain ⟨e, _, he⟩ := List.exists_of_findSome?_eq_some hw
        obtain ⟨m, _, hm⟩ := Option.bind_eq_some_iff.1 he
        obtain ⟨v, _, hv⟩ := Option.map_eq_some_iff.1 hm
        rw [← hv]
        exact endWait_quiet ..
      · split at h
        · cases h
          exact fetchDesc_quiet ..
        · split at h
          · cases h
            exact (modOrb_plain _).quiet
          · split at h
            · obtain ⟨d, hd, hc⟩ := Option.map_eq_some_iff.1 h
              rw [← hc]
              exact .of_not fun hq => writeKey_quiet hd ((modOrb_plain _).quiet.before hq).1
            · cases h

/-! ### The cipher engine -/

theorem beginReads_quiet (q : Nat) (x : CphQueue) (j : CphJob) : QuietFrom b (beginReads {} q x j b) := by
  unfold beginReads
  extract_lets h counted
  have hcounted : PlainKept b counted := .ite ((modCphJob_plain ..).trans (modCph_plain _)) (.refl b)
  exact .ite (modCphJob_plain ..).quiet (hcounted.quiet.trans (startJob_quiet ..))

theorem startCphDesc_quiet (q : Nat) (x : CphQueue) (d : List Byte) (p : Bool) : QuietFrom b (startCphDesc {} q x d p b) := by
  unfold startCphDesc
  extract_lets flags op s gcm j ok push used
  have hpush : ∀ j c, PlainKept c (push j c) := fun _ _ => modCq_plain ..
  have hused : PlainKept b used := useSlot_plain ..
  clear_value push used
  refine .ite (modCq_plain ..).quiet (.ite (hpush ..).quiet ?_)
  split
  · exact (hpush ..).quiet
  · split
    · exact ((PlainKept.ite (setErr_plain ..) (.refl b)).trans (hpush ..)).quiet
    · exact (hused.trans (hpush ..)).quiet.trans (beginReads_quiet ..)

theorem cphInDone_quiet (q i : Nat) (w : Job) : QuietFrom b (cphInDone {} q i w b) := by
  unfold cphInDone
  split
  · exact .refl b
  · split
    · exact .refl b
    · exact .ite ((modCphJob_plain ..).trans (endVerify_plain ..)).quiet
        (.ite ((modCphJob_plain ..).trans ((setErr_plain ..).trans (endVerify_plain ..))).quiet (startJob_quiet ..))

theorem jobDone_quiet (j : Job) : QuietFrom b (jobDone {} j b) := by
  unfold jobDone
  split
  · split
    · exact (modCq_plain ..).quiet.trans (startCphDesc_quiet ..)
    · exact .refl b
  · exact cphInDone_quiet ..
  · exact (cphOutDone_plain ..).quiet
  · extract_lets bs r
    have hpoison : PlainKept b (setErr .cph 1 b) := setErr_plain ..
    have hr : PlainKept b r.2 := .ite_snd hpoison (unwrap_plain ..)
    exact (hr.trans (modCphCmd_plain ..)).quiet
  · exact (orbJob_plain j).quiet

theorem cphProgress_quiet {c : Blk} (h : cphProgress {} b = some c) : QuietFrom b c := by
  unfold cphProgress at h
  split at h
  · cases h
    exact ((modCph_plain _).trans (cphDone_plain ..)).quiet
  · split at h
    · cases h
      exact (modCq_plain ..).quiet.trans (startJob_quiet ..)
    · cases h

/-! ### Commands that waited -/

theorem chan_of_quiet (hq : b.Quiet) (c : Nat) : (b.chan c).state = .absent := by
  unfold Blk.chan
  rw [hq.chans]
  rfl

theorem modChan_chan_other {c d : Nat} (f : Chan → Chan) (b : Blk) (h : d ≠ c) : (modChan c f b).chan d = b.chan d := SMap.get_upd_other _ _ _ h

theorem putLine_chanState (l : Nat) (d : DramLine) (c : Nat) : ((putLine l d b).chan c).state = (b.chan c).state := by
  unfold putLine
  split
  · by_cases hc : c = b.chanNo l
    · rw [hc, modChan_chan]
    · rw [modChan_chan_other _ _ hc]
  · rfl

theorem poisonLine_chanState (l c : Nat) : ((poisonLine l b).chan c).state = (b.chan c).state := putLine_chanState ..

theorem rewriteFailing_chanState (l : Nat) (t : Option Line) (c : Nat) : ((rewriteFailing l t b).chan c).state = (b.chan c).state := by
  unfold rewriteFailing
  split
  · split
    · unfold writeLine Blk.chan
      rw [useSlot_dram]
      exact putLine_chanState ..
    · exact poisonLine_chanState ..
  · exact poisonLine_chanState ..

/-- A channel that thaws is READY (R162). -/
theorem thawNow_quiet (c : Nat) (t : Option Line) : QuietFrom b (thawNow c t b) := by
  unfold thawNow
  extract_lets x fail queued drops summed ready rewritten poisoned
  refine .ite (setErr_plain ..).quiet (.of_not fun hq => ?_)
  have hready : (ready.chan c).state = .ready := by
    unfold ready
    rw [modChan_chan]
  have hrewritten : (rewritten.chan c).state = .ready := by
    unfold rewritten
    cases fail with
    | none => exact hready
    | some l => exact (rewriteFailing_chanState ..).trans hready
  have hpoisoned : (poisoned.chan c).state = .ready :=
    foldl_keeps (fun a : Blk => (a.chan c).state = .ready) _ drops (fun a l _ h => (poisonLine_chanState l c).trans h) hrewritten
  have hwritten := foldl_keeps (fun a : Blk => (a.chan c).state = .ready) (fun b e => putLine e.1 e.2 b) queued (fun a e _ h => (putLine_chanState ..).trans h) hpoisoned
  exact absurd ((chan_of_quiet hq c).symm.trans hwritten) (by decide)

theorem setKey_quiet (i : Nat) (k : KeyEntry) : QuietFrom b (setKey {} i k b) := by
  unfold setKey
  dsimp only
  split
  next h => exact .of_not (writeKey_quiet h)
  next => exact ((modOrb_plain _).trans (modOrb_plain _)).quiet

theorem registerKey_quiet (n : Nat) : QuietFrom b (registerKey {} n b) := by
  unfold registerKey
  extract_lets c a2 explicit lim f free key
  refine .ite (orbFail_plain ..).quiet (.ite (orbFail_plain ..).quiet ?_)
  clear_value key
  cases key with
  | inr r => exact (orbFail_plain ..).quiet
  | inl k => exact (PlainKept.ite (.refl b) drawFree_plain).quiet.trans ((setKey_quiet ..).trans (orbDone_plain ..).quiet)

theorem deregisterKey_quiet (n : Nat) : QuietFrom b (deregisterKey {} n b) := by
  unfold deregisterKey
  exact .ite (orbFail_plain ..).quiet (.ite (orbFail_plain ..).quiet ((setKey_quiet ..).trans (modOrb_plain _).quiet))

theorem runOrbCmd_quiet (n op : Nat) : QuietFrom b (runOrbCmd {} n op b) := by
  unfold runOrbCmd
  split
  · exact (orbCreate_plain n).quiet
  · exact (orbDestroy_plain n).quiet
  · exact (orbResume_plain n).quiet
  · exact registerKey_quiet n
  · exact deregisterKey_quiet n
  · exact (queryQueue_plain n).quiet
  · exact (orbFail_plain ..).quiet

theorem runCphCmd_quiet (n op : Nat) : QuietFrom b (runCphCmd {} n op b) := by
  unfold runCphCmd
  split
  · exact (cphCreate_plain n).quiet
  · exact (cphDestroy_plain n).quiet
  · exact (cphResume_plain n).quiet
  · unfold cphUnwrap
    exact .ite (cphFail_plain ..).quiet (startJob_quiet ..)
  · exact (cphClear_plain n).quiet
  · exact (querySlot_plain n).quiet
  · exact (cphFail_plain ..).quiet

/-- Something has been sent. -/
structure Blk.Answered (b : Blk) : Prop where
  out_ne : b.out ≠ []

theorem send_answered (o : Output) : (send o b).Answered := ⟨send_out_ne o⟩

theorem ite_answered {c : Prop} [Decidable c] {x y : Blk} (hx : x.Answered) (hy : y.Answered) : (if c then x else y).Answered := by
  split
  · exact hx
  · exact hy

theorem runStandard_answered (n op : Nat) (input : List Byte) : (runStandard n op input b).Answered := by
  unfold runStandard
  extract_lets reply l none'
  have hnone : ∀ x, (none' x).Answered := fun x => ite_answered (send_answered _) (send_answered _)
  split
  · exact hnone _
  · exact ite_answered (send_answered _) (send_answered _)
  · exact hnone _
  · exact hnone _
  · exact ite_answered (send_answered _) (send_answered _)
  · exact hnone _
  · exact ite_answered (send_answered _) (send_answered _)
  · exact ite_answered (send_answered _) (send_answered _)
  · exact hnone _
  · exact ite_answered (send_answered _) (send_answered _)
  · exact ite_answered (send_answered _) (send_answered _)
  · exact send_answered _

/-- Every mailbox command is answered (R109). -/
theorem runMbox_answered (n : Nat) (c : MboxCmd) : (runMbox n c b).Answered := by
  unfold runMbox
  extract_lets reply bytes fixed tw
  have hfixed : ∀ len x, (fixed len x).Answered := fun len x => ite_answered (send_answered _) (send_answered _)
  refine ite_answered (send_answered _) ?_
  cases c with
  | identify => exact send_answered _
  | health => exact send_answered _
  | getEvents k => exact send_answered _
  | clearEvents k n => exact send_answered _
  | supportedLogs => exact send_answered _
  | getLog id => exact ite_answered (send_answered _) (send_answered _)
  | chartIdentity len => exact hfixed ..
  | setTimestamp t => exact send_answered _
  | multiHeaded => exact send_answered _
  | getPoison dpa len => exact send_answered _
  | injectPoison dpa => exact ite_answered (send_answered _) (ite_answered (send_answered _) (send_answered _))
  | clearPoison dpa d => exact ite_answered (send_answered _) (send_answered _)
  | scanMedia dpa len => exact ite_answered (send_answered _) (send_answered _)
  | addDcResponse a => exact send_answered _
  | releaseDc base size => exact send_answered _
  | regionMap start mx len => exact ite_answered (send_answered _) (send_answered _)
  | persistence len => exact hfixed ..
  | restore len => exact ite_answered (send_answered _) (send_answered _)
  | epochHistory len => exact hfixed ..
  | topology len => exact hfixed ..
  | other op input => exact ite_answered (send_answered _) (runStandard_answered ..)

/-! ### All of it -/

theorem progress_quiet {c : Blk} (h : progress {} b = some c) : QuietFrom b c := by
  unfold progress at h
  split at h
  next j _ =>
    cases h
    have hdropped : PlainKept b { b with host := { b.host with jobs := b.host.jobs.erase j } } := ⟨⟨rfl, rfl⟩, rfl, rfl, id⟩
    exact hdropped.quiet.trans (jobDone_quiet j)
  · split at h
    next ho => cases h; exact orbProgress_quiet ho
    · exact cphProgress_quiet h

theorem pump_quiet (n : Nat) (b : Blk) : QuietFrom b (pump {} n b) := by
  induction n generalizing b with
  | zero => exact .refl b
  | succ n ih =>
    unfold pump
    split
    next h => exact (progress_quiet h).trans (ih _)
    next => exact .refl b

/-- A COLD_ACK shows, and where none goes out one is still due (R273). -/
theorem settleCold_quiet (hout : (settleCold b).out = []) (hdue : (settleCold b).twin.coldDue = none) : settleCold b = b := by
  cases hd : b.twin.coldDue with
  | none => exact settleCold_of_none b hd
  | some e =>
    exfalso
    unfold settleCold at hout hdue
    rw [hd] at hout hdue
    dsimp only at hout hdue
    split at hout
    next hc =>
      rw [if_pos hc] at hdue
      obtain ⟨w, hw⟩ := (placeCold_coldPlaced b.twin.coldWait.length b).twin
      rw [hw] at hdue
      exact Option.some_ne_none e (hd.symm.trans hdue)
    · exact send_out_ne _ hout

/-- A kept command ends quiet only where it changed no memory. -/
theorem runKept_quiet (d : Deferred) : QuietFrom b (runKept {} b d) := by
  cases d with
  | mbox n c => exact .of_out (runMbox_answered n c).out_ne
  | orbCmd n op => exact runOrbCmd_quiet n op
  | cphCmd n op => exact runCphCmd_quiet n op
  | mgmtCph op s => exact (runMgmtCph_plain op s).quiet
  | startRebuild => exact startRebuild_plain.quiet
  | readmit g => exact (admitNow_plain g).quiet
  | thaw c t => exact thawNow_quiet c t

theorem runKept_foldl_quiet (l : List Deferred) (b : Blk) : QuietFrom b (l.foldl (runKept {}) b) := by
  induction l generalizing b with
  | nil => exact .refl b
  | cons d l ih => exact (runKept_quiet d).trans (ih _)

/-- Where commands that ran end quiet, none of them was the mailbox's. -/
theorem runKept_foldl_no_mbox (l : List Deferred) (b : Blk) (hq : (l.foldl (runKept {}) b).Quiet) : ∀ n c, Deferred.mbox n c ∉ l := by
  induction l generalizing b with
  | nil => exact fun _ _ => List.not_mem_nil
  | cons d l ih =>
    intro n c hm
    rcases List.mem_cons.1 hm with hd | hl
    · have hran : (runKept {} b d).Quiet := ((runKept_foldl_quiet l _).before hq).1
      rw [← hd] at hran
      exact (runMbox_answered n c).out_ne hran.out
    · exact ih _ hq n c hl

end

end Sys2Proof.Machine
end

section
/-!
PROOF. A full entry that bypasses Halo is written with the poison of its halves, not with the mark of its window (O19; R106, R123).
-/
namespace Sys2Proof.Machine
open Sys2Proof

/-- The touch that a kept mailbox command makes before it runs (R240). -/
def touchKept (b : Blk) (d : Deferred) : Blk := match d with | .mbox n c => touchFor {} n c b | _ => b

theorem touchKept_duty (b : Blk) (d : Deferred) : DutyKept b (touchKept b d) := by
  cases d with
  | mbox n c => exact touchFor_duty n c
  | orbCmd n op => exact .refl b
  | cphCmd n op => exact .refl b
  | mgmtCph op s => exact .refl b
  | startRebuild => exact .refl b
  | readmit g => exact .refl b
  | thaw c t => exact .refl b

theorem touchKept_foldl_of_no_mbox (l : List Deferred) (b : Blk) (h : ∀ n c, Deferred.mbox n c ∉ l) : l.foldl touchKept b = b :=
  foldl_keeps (fun a => a = b) touchKept l (fun a d hd ha => by
    cases d with
    | mbox n c => exact absurd hd (h n c)
    | orbCmd n op => exact ha
    | cphCmd n op => exact ha
    | mgmtCph op s => exact ha
    | startRebuild => exact ha
    | readmit g => exact ha
    | thaw c t => exact ha) rfl

/-- The block once every kept mailbox command has made its touch. -/
def Blk.touched (b : Blk) : Blk := b.fw.deferred.foldl touchKept b

/-- The kept commands that need wait no longer, in their order of arrival (R25). -/
def Blk.ready (b : Blk) : List Deferred := b.fw.deferred.filter (fun d => !b.stillWaits d)

/-- The block with only those commands kept that must wait on. -/
def Blk.keepWaiting (b : Blk) : Blk := { b with fw := { b.fw with deferred := b.fw.deferred.filter (fun d => b.stillWaits d) } }

theorem runDeferred_eq (b : Blk) : runDeferred {} b = if b.touched.ready.isEmpty then b.touched else b.touched.ready.foldl (runKept {}) b.touched.keepWaiting := rfl

/-- Where no command is kept for later all of them were ready. -/
theorem mem_ready_of_keepWaiting {b : Blk} (h : b.keepWaiting.fw.deferred = []) {d : Deferred} (hd : d ∈ b.fw.deferred) : d ∈ b.ready := by
  have hwaits : b.stillWaits d = false := Bool.eq_false_iff.2 (List.filter_eq_nil_iff.1 h d hd)
  exact List.mem_filter.2 ⟨hd, by rw [hwaits]; rfl⟩

/-- Where the kept commands leave none behind and end quiet, none of them was the mailbox's, and the DRAM is as it was (R25, R110). -/
theorem runDeferred_dram {b : Blk} (hq : (runDeferred {} b).Quiet) : (runDeferred {} b).dram = b.dram := by
  have hkept : b.touched.fw.deferred = b.fw.deferred := (DutyKept.foldl touchKept touchKept_duty b.fw.deferred b).deferred
  have hsame : (∀ n c, Deferred.mbox n c ∉ b.fw.deferred) → b.touched = b := touchKept_foldl_of_no_mbox b.fw.deferred b
  rw [runDeferred_eq] at hq ⊢
  split at hq
  next he =>
    rw [if_pos he]
    have hnone : b.fw.deferred = [] := hkept.symm.trans hq.deferred
    rw [hsame (by rw [hnone]; exact fun _ _ => List.not_mem_nil)]
  next he =>
    rw [if_neg he]
    obtain ⟨hready, hdram⟩ := (runKept_foldl_quiet _ _).before hq
    have hran := runKept_foldl_no_mbox _ _ hq
    have htouched : b.touched = b := hsame fun n c hm => hran n c (mem_ready_of_keepWaiting hready.deferred (hkept ▸ hm))
    have hdrams : b.touched.keepWaiting.dram = b.touched.dram := rfl
    rw [hdram, hdrams, htouched]

/-- Where the block's own work ends quiet with no COLD_ACK due, it has changed no DRAM. -/
theorem settleWork_dram {b : Blk} (hq : (settleWork {} b).Quiet) (hdue : (settleWork {} b).twin.coldDue = none) : (settleWork {} b).dram = b.dram := by
  have hcold : settleWork {} b = pump {} pumpFuel (runDeferred {} b) := settleCold_quiet hq.out hdue
  rw [hcold] at hq ⊢
  obtain ⟨hran, hdram⟩ := (pump_quiet pumpFuel _).before hq
  exact hdram.trans (runDeferred_dram hran)

/-- An entry with two clean halves, one of which replaced a poisoned one in the same window (R106, R122). -/
def repairedEntry : MbEntry := { half0 := some 1, half1 := some 2, poison := true, foreign := true }

/-- Solo, every page PENDING, and line 4's entry open in the merge buffer. -/
def repairedState : State := { blk := { dram := { presBase := .pending }, halo := { mb := [(4, repairedEntry)] } } }

/-- What the expiry of the merge window leaves of it: the line, clean, in DRAM (R123, R124). -/
def repairedBlk : Blk := mergeWindowExpire {} 4 repairedState.now

theorem repairedBlk_quiet : repairedBlk.Quiet := ⟨rfl, rfl, rfl, rfl, rfl, rfl, rfl, rfl, rfl⟩

theorem repairedBlk_clean : (repairedBlk.dramLine 4).poison = false := by decide +kernel

theorem repairedBlk_settled : settleWork {} repairedBlk = repairedBlk := by
  unfold settleWork
  rw [runDeferred_of_nil _ _ rfl, pump_of_progress_none _ _ _ rfl, settleCold_of_none _ rfl]

theorem repairedBlk_closed (a : Blk) : closeStep a repairedBlk = repairedBlk := closeStep_quiet _ _ rfl fun _ _ => List.not_mem_nil

/-- Without a receiver of events the end of a step sends nothing. -/
theorem closeStep_out (a b : Blk) (h : b.mgt.receiver = none) : (closeStep a b).out = b.out := by
  obtain ⟨l, hl⟩ := frameOutputs_eq b
  rw [closeStep, sensorEvents_none a b h, hl]

/-- A block whose step ends like the expiry's has the DRAM that the expiry leaves. -/
theorem dram_of_settled_repaired {a b : Blk} (h : closeStep a (settleWork {} b) = repairedBlk) : b.dram = repairedBlk.dram := by
  have hhost := (closeStep_host a (settleWork {} b)).symm.trans (congrArg Blk.host h)
  have hfw := (closeStep_fw a (settleWork {} b)).symm.trans (congrArg Blk.fw h)
  have hdram := (closeStep_dram a (settleWork {} b)).symm.trans (congrArg Blk.dram h)
  have hcht := (closeStep_cht a (settleWork {} b)).symm.trans (congrArg Blk.cht h)
  have hmgt := (closeStep_mgt a (settleWork {} b)).symm.trans (congrArg Blk.mgt h)
  have hout := (closeStep_out a (settleWork {} b) (by rw [hmgt]; rfl)).symm.trans (congrArg Blk.out h)
  have hdue : (settleWork {} b).twin.coldDue = none := by
    obtain ⟨l, o, hc⟩ := closeStep_eq a (settleWork {} b)
    rw [hc] at h
    exact congrArg (fun x : Blk => x.twin.coldDue) h
  have hplain : PlainKept (settleWork {} b) repairedBlk := .of_eq hhost.symm hfw.symm hdram.symm hcht.symm hout.symm
  have hquiet : (settleWork {} b).Quiet := (hplain.quiet.before repairedBlk_quiet).1
  exact (settleWork_dram hquiet hdue).symm.trans hdram

/-- Refutes O19: line 4's entry holds two clean halves, and `poison` still marks the poisoned half that one of them replaced. The line that the expiry of
its window leaves in DRAM is clean (R106), where the statement has it poisoned. -/
theorem not_haloTimersAndHeldHalves : ¬ Obligations.HaloTimersAndHeldHalves := by
  unfold Obligations.HaloTimersAndHeldHalves
  intro h
  obtain ⟨_, _, _, hmerge, _⟩ := h repairedState {} rfl
  obtain ⟨b, hexec, _, hline⟩ := hmerge 4 repairedEntry rfl rfl rfl rfl rfl
  obtain ⟨_, hpoison⟩ := hline rfl
  rw [exec_mergeWindowExpire repairedState rfl] at hexec
  have hafter : repairedState.afterWork {} repairedBlk = repairedState.afterWork {} b := Host.Outcome.next.inj hexec
  have hclosed : closeStep repairedState.now (settleWork {} b) = repairedBlk := by
    rw [← repairedBlk_closed repairedState.now, ← congrArg (closeStep _) repairedBlk_settled]
    exact (congrArg State.blk hafter).symm
  have hdram := dram_of_settled_repaired hclosed
  have hclean : (b.dramLine 4).poison = false := by
    unfold Blk.dramLine
    rw [hdram]
    exact repairedBlk_clean
  exact Bool.false_ne_true (hclean.symm.trans hpoison)

end Sys2Proof.Machine
end
